-- ==== Sys2Proof/Word.lean ====
section
/-! DEFINITION. The widths of data (R11): bytes and the raw bits of a REAL32. -/
namespace Sys2Proof

/-- One byte. -/
abbrev Byte := BitVec 8

/-- The 32 bits of an IEEE 754 binary32 value (R108). -/
abbrev F32 := BitVec 32

end Sys2Proof
end

