-- ==== Sys2Proof/Types/Charging.lean ====
section
/-! DEFINITION. Plain data types of chargers, black start and lay-up (chapter 09). -/
namespace Sys2Proof.Machine

/-- Charge phases of Table 09-1 (R265). -/
inductive ChargePhase where
  | idle | bulk | pulse | equalise | finalRest | complete | terminated
  deriving DecidableEq, Repr

/-- What a `SRCDETn` pin has shown (R287): the comparator 0 or 1, the voltage that first took it high, the lowest voltage since, and for how many ms. -/
structure SrcPin where
  n : Nat := 0
  first : Rat := 0
  least : Rat := 0
  ms : Nat := 0
  deriving DecidableEq, Repr

/-- One charger channel cc0 to cc7 (R264 to R277). -/
structure Charger where
  phase : ChargePhase := .idle
  /-- A stored start request (R264). -/
  requested : Bool := false
  paused : Bool := false
  pausedAt : Nat := 0
  /-- t_s, E in s and the rate 0, 1, 2 (R270). SPEC 0 -/
  ts : Rat := 0
  el : Rat := 0
  rate : Nat := 0
  /-- I_req, I_th, I_v and I_a of the last step (R266). -/
  iReq : Rat := 0
  iTh : Rat := 0
  iV : Rat := 0
  iA : Rat := 0
  /-- Tick of the channel's last step. -/
  stepAt : Nat := 0
  /-- V_pe of the present rest has been taken (R269). -/
  vPeTaken : Bool := false
  /-- In a rest, loaded, since when, and V at its half (R269). -/
  inRest : Bool := false
  loaded : Bool := false
  restFrom : Nat := 0
  pulseFrom : Nat := 0
  /-- Voltages of the rest, (tick, v), newest first. -/
  restHist : List (Nat × Rat) := []
  /-- 0x581s:16 to :19. SPEC 0 -/
  vRe : Rat := 0
  vPe : Rat := 0
  relax : Rat := 0
  full : Nat := 0
  /-- Equalisation (R273). -/
  eqDue : Bool := false
  /-- The equalisation of the present cycle has passed its commit point. -/
  eqCommitted : Bool := false
  /-- Charge of the equalisation, equalisations committed and aborted, and the operating hour of the last (R273). -/
  eqCharge : Rat := 0
  eqDone : Nat := 0
  eqAborts : Nat := 0
  lastEq : Nat := 0
  /-- FINAL REST (R274). -/
  restFromFinal : Nat := 0
  restSkipped : Bool := false
  completed : Nat := 0
  /-- 0x581s:1E. SPEC 0 -/
  endCause : Nat := 0
  /-- After cause 3 only a host start begins a cycle (R271). -/
  hostOnly : Bool := false
  deriving DecidableEq, Repr

/-- Black start and lay-up (R278 to R287). -/
structure Dead where
  /-- 0x5900:08, :09, :0A, :0B. SPEC 0 -/
  bsState : Nat := 0
  bsStarts : Nat := 0
  bsFailures : Nat := 0
  bsTime : Rat := 0
  bsFrom : Nat := 0
  bsInSince : Option Nat := none
  /-- 0x5910:07, :08, :09. SPEC 0 -/
  openUnderLoad : Nat := 0
  layupEntries : Nat := 0
  lastWake : Nat := 0
  /-- A lay-up entry runs (R282), and a wake that qualified in it (R284). -/
  entering : Bool := false
  wakePending : Option Nat := none
  /-- The entry's start, the strings opened, whether the one whose turn it is has been waited for, and the waits so far in ticks (Table 09-10, R283). -/
  entryFrom : Option Nat := none
  entryTurn : Nat := 0
  entryWaits : Bool := false
  entryShift : Nat := 0
  /-- `SrcDetEnable`, `SrcDetStart`, the levels and the time still in force while a value written waits for the next lay-up entry. -/
  srcEnable : Option Nat := none
  srcStart : Option Nat := none
  srcLevels : Option (List Rat) := none
  srcTime : Option Nat := none
  /-- Wake sources armed besides `WAKE_N` and `SRCDET` (R282). -/
  armed : Bool := true
  deriving DecidableEq, Repr

end Sys2Proof.Machine
end

