-- ==== Sys2Proof/Types/Faults.lean ====
section
/-! DEFINITION. Plain data types of fault sources and the fault objects (chapter 11). -/
namespace Sys2Proof.Machine

/-- A fault source's key: the source ID of R32 and its kind code (R318). -/
structure Key where
  id : Nat := 0
  kind : Nat := 0
  deriving DecidableEq, Repr

/-- An active source: key, class as raised, detail, and whether its clear condition has held since the tick given (R319). -/
structure ActiveSrc where
  key : Key := {}
  cls : Nat := 0
  detail : Nat := 0
  /-- The data of its raise record, which its clear record repeats (Table 16-3). -/
  data : List Byte := []
  /-- A reaction of higher class covered the unit at the raise, and the source's own is not applied (R324). -/
  covered : Bool := false
  /-- Tick at which the clear condition first held in the present window (R319). -/
  clearing : Option Nat := none
  deriving DecidableEq, Repr

/-- A written severity class (R330). -/
structure SevEntry where
  key : Key := {}
  cls : Nat := 0
  deriving DecidableEq, Repr

/-- Fault objects of one region (Table 11-6). -/
structure RegionFaults where
  /-- 0x22rr:03. SPEC 0x3E -/
  irqEnable : Nat := 0x3E
  /-- 0x22rr:04. SPEC 0 -/
  irqPending : Nat := 0
  /-- 0x22rr:05. SPEC 0 -/
  raises : Nat := 0
  /-- 0x22rr:06. SPEC 0 -/
  lastSource : Nat := 0
  /-- 0x22rr:0B. SPEC 0 -/
  sevChanges : Nat := 0
  deriving DecidableEq, Repr

/-- An EMCY waiting in a port's queue (R335, Table 11-7). -/
structure Emcy where
  code : Nat := 0
  reg : Nat := 0
  key : Key := {}
  cls : Nat := 0
  deriving DecidableEq, Repr

/-- Faults and severity (R318 to R337). -/
structure Faults where
  active : List ActiveSrc := []
  /-- Latched faults of regions that are powered down: inactive until the region starts again (R29). SPEC empty -/
  latched : List ActiveSrc := []
  /-- Classes that differ from their start value (R327, R330). -/
  sev : List SevEntry := []
  /-- Severity entries hit by an uncorrectable error act at their ceiling (R337). -/
  sevBroken : List Key := []
  /-- Clusters (unit 0xFF) and region-level units stopped by a SHED that have no stop of their own elsewhere (R28, R321). SPEC empty -/
  sheds : List Key := []
  regions : List RegionFaults := List.replicate 10 {}
  /-- 0x2200:03, :04. SPEC 0 -/
  emcySent : Nat := 0
  emcyDropped : Nat := 0
  /-- EMCY queues of C0 and C1, oldest first, and whether the inhibit time runs since a tick. -/
  queues : List (List Emcy) := [[], []]
  inhibitFrom : List (Option Nat) := [none, none]
  /-- Ports, and keys whose raise EMCY they dropped (R335). -/
  droppedRaises : List (Nat × Key) := []
  deriving DecidableEq, Repr

end Sys2Proof.Machine
end

