-- ==== Sys2Proof/Types/Loops.lean ====
section
/-! DEFINITION. Plain data types of loop engines and the tide table (chapter 04). -/
namespace Sys2Proof.Machine

/-- One biquad slot: eight words of Table 04-3 (R116). -/
structure Slot where
  b0 : BitVec 32 := 0
  b1 : BitVec 32 := 0
  b2 : BitVec 32 := 0
  a1 : BitVec 32 := 0
  a2 : BitVec 32 := 0
  lo : BitVec 32 := 0
  hi : BitVec 32 := 0
  flags : BitVec 32 := 0
  deriving DecidableEq, Repr

/-- One instance record of the tide table (Table 04-6, Table 04-7). -/
structure LoopRec where
  lp : Nat := 0
  engine : Nat := 0
  stage : Nat := 0
  noStage : Bool := false
  sections : Nat := 0
  invPolicy : Nat := 0
  outKind : Nat := 0
  depWait : Bool := false
  outDst : Nat := 0
  ffSrc : Nat := 0
  release : Nat := 0
  fbSrc : Nat := 0
  commit : Nat := 0
  refSrc : Nat := 0
  coefBase : Nat := 0
  bandMap : Nat := 0
  deriving DecidableEq, Repr

/-- One variant of the tide table (Table 04-5). -/
structure Variant where
  mode : Nat := 0
  admission : Nat := 0
  refStage : Nat := 0
  derated : Bool := false
  latency : Nat := 0
  ageing : Nat := 0
  frameLen : Nat := 0
  recs : List LoopRec := []
  deriving DecidableEq, Repr

/-- One instance's entry of the image's loop section (R117, R135). -/
structure LoopParam where
  lp : Nat := 0
  gIn : BitVec 32 := 0
  gOut : BitVec 32 := 0
  outLo : BitVec 32 := 0
  outHi : BitVec 32 := 0
  initOut : BitVec 32 := 0
  /-- Initial states, s1 then s2 for each section. -/
  init : List (BitVec 32) := []
  /-- Action at a bank swap: true keeps the states, false initialises them (R135). -/
  keep : Bool := false
  deriving DecidableEq, Repr

/-- One code, coefficient and table bank of ENG (R103, R135). -/
structure Bank where
  /-- The bank holds a loaded table (0x3A1k:07). -/
  valid : Bool := false
  variants : List Variant := []
  params : List LoopParam := []
  /-- Coefficient slots, (engine, slot number, words). -/
  slots : List (Nat × Nat × Slot) := []
  /-- Tide-table memory: the 32-bit words of each variant (Tables 04-4 to 04-7), which `variants` decodes. -/
  tables : List (List Nat) := []
  /-- Code memory: engine code of en0 to en7, up to 16 KiB each (Table 04-1, section 0x0004 of Table 17-2). -/
  code : List (List (BitVec 8)) := []
  deriving DecidableEq, Repr

/-- Progress of one instance in its period (R124, R125). -/
inductive RunState where
  | idle | ready | waiting | running | ended
  deriving DecidableEq, Repr

/-- One loop instance lp0 to lp63 (R107 to R131). -/
structure Instance where
  /-- The instance is released in its periods (R131). -/
  active : Bool := false
  run : RunState := .idle
  /-- Section states in state memory, s1 then s2 for each section (R107). -/
  states : List (BitVec 32) := []
  /-- Last committed output, 0x39nn:06 (R128). -/
  out : BitVec 32 := 0
  /-- The output before that commit, and the commit's tick: consumers read the new one through the exchange three engine cycles later (R128). -/
  outOld : BitVec 32 := 0
  outAt : Nat := 0
  /-- Result and new states waiting in the commit buffer (R112), and whether the run's values were not finite and whether a clamp acted in it. -/
  bufOut : BitVec 32 := 0
  bufStates : List (BitVec 32) := []
  bufNan : Bool := false
  bufSat : Bool := false
  /-- 0x39nn:07, :08: r and f of the last run. SPEC 0.0 -/
  ref : BitVec 32 := 0
  fb : BitVec 32 := 0
  ff : BitVec 32 := 0
  /-- The set in force (R132), and the band it came from. -/
  set : Nat := 0
  band : Nat := 0
  /-- The set and the band in force at the last release; that release's run uses the set (R132). -/
  runSet : Nat := 0
  runBand : Nat := 0
  /-- The record of the run that started last: its words and its length are those of that record (R115, R136). -/
  runRec : LoopRec := {}
  /-- The instance has been released in the present period of its stage (R124, R126). -/
  released : Bool := false
  /-- Limits in force (R117). -/
  lo : BitVec 32 := 0
  hi : BitVec 32 := 0
  /-- Status bits of Table 04-11. -/
  miss : Bool := false
  nan : Bool := false
  heldInvalid : Bool := false
  substituted : Bool := false
  saturated : Bool := false
  depLate : Bool := false
  /-- An uncorrectable error has aborted the run (R105). -/
  aborted : Bool := false
  /-- The instance is stopped by a SHED of its own with no stage (R139). -/
  shed : Bool := false
  /-- The instance has committed, or missed, in the present period of its stage, and the tick of its last commit or miss (R130). -/
  producerDone : Bool := false
  settledAt : Nat := 0
  /-- Tick of the producer's commit for which a `dep_wait` instance waits (R130). -/
  waitFor : Nat := 0
  /-- 0x39nn:0B `LastStart`, engine cycles. -/
  lastStart : Nat := 0
  /-- 0x39nn:0C `LastLatency`, in ticks. -/
  lastLatency : Rat := 0
  /-- 0x39nn:0D to :10. SPEC 0 -/
  missCount : Nat := 0
  nanCount : Nat := 0
  invalidCount : Nat := 0
  satCount : Nat := 0
  /-- Consecutive misses (R129). -/
  missRun : Nat := 0
  /-- External state writes that wait for the commit: (state index, value) (R137). -/
  pendingWrites : List (Nat × BitVec 32) := []
  /-- Alignment corrections that wait: (state index, delta) (R352). -/
  pendingDeltas : List (Nat × Rat) := []
  /-- The external writes and corrections made in the present gap, which a bank swap in the same gap precedes (R137). -/
  gapWrites : List (Nat × BitVec 32) := []
  gapDeltas : List (Nat × Rat) := []
  /-- Times of the present run: release tick and start tick. -/
  releasedAt : Nat := 0
  /-- Tick of the commit that settles the present release (R125, R126). -/
  commitAt : Nat := 0
  /-- Tick at which the deciding sample became available, if there is one (R122, R123). -/
  tAvail : Option Nat := none
  /-- The run was held under R114. -/
  heldRun : Bool := false
  startedAt : Nat := 0
  deriving DecidableEq, Repr

/-- One engine en0 to en7 (Table 04-13). -/
structure Engine where
  /-- The instance it runs. -/
  current : Option Nat := none
  /-- Register file of 64 words (Table 04-1): inputs, intermediate values and new states of the instance that it runs or has run last. Which register
  holds which value is not stated (log entry 117); nothing reads them. -/
  regs : List (BitVec 32) := List.replicate 64 0
  /-- Busy engine cycles in the present 1 ms interval. -/
  busy : Nat := 0
  /-- 0x3A1k:03, :04 `Occupancy`, `PeakOccupancy`. SPEC 0.0 -/
  occupancy : Rat := 0
  peak : Rat := 0
  /-- 0x3A1k:05, :06. SPEC 0 -/
  queuePeak : Nat := 0
  waits : Nat := 0
  /-- Slots with an uncorrectable error (Table 04-10). -/
  badSlots : List Nat := []
  deriving DecidableEq, Repr

/-- The tide-table sequencer (R118 to R136). -/
structure Tide where
  /-- 0x3A00:06 `ActiveBank`. SPEC 0 -/
  active : Nat := 0
  banks : List Bank := [{}, {}]
  /-- Ageing step in force, and a step that waits for the boundary (R134). -/
  ageing : Nat := 0
  ageingPending : Option Nat := none
  /-- Index in `variants` of the variant in force (R118). -/
  variant : Nat := 0
  /-- 0x3A00:0A `SwapState` (R135). SPEC 0 -/
  swap : Nat := 0
  /-- `check_failed` (R140). -/
  checkFailed : Bool := false
  /-- 0x3A00:0C, :0D. SPEC 0 -/
  totalMisses : Nat := 0
  swapCount : Nat := 0
  /-- Tick of the common start pulse S (R75). -/
  startPulse : Nat := 0
  /-- The common start pulse has been given since ENG's region started (R75). -/
  pulsed : Bool := false
  /-- Tick at which the running 1 ms occupancy interval began. -/
  occFrom : Nat := 0
  deriving DecidableEq, Repr

end Sys2Proof.Machine
end

