-- ==== Sys2Proof/Types/Images.lean ====
section
/-! DEFINITION. Plain data types of images and updates (chapter 17). -/
namespace Sys2Proof.Machine

/-- Header of an image (Table 17-1). -/
structure ImgHeader where
  kind : Nat := 0
  keyIndex : Nat := 0
  build : Nat := 0
  security : Nat := 0
  variants : Nat := 0
  total : Nat := 0
  iface : Nat := 0
  ifaceMax : Nat := 0
  manifestMin : Nat := 0
  manifestMax : Nat := 0
  dictDigest : List (BitVec 8) := []
  deriving DecidableEq, Repr

/-- An entry of a stage's pre-bias map (R159): the state `idx` of instance `lp` takes a·d0 + b. -/
structure Prebias where
  stage : Nat := 0
  lp : Nat := 0
  /-- Index in the instance's states: 2·section for s1, 2·section + 1 for s2. -/
  idx : Nat := 0
  a : Rat := 0
  b : Rat := 0
  deriving DecidableEq, Repr

/-- The DDR4 timing parameters that an image declares (R433, R512, Table 18-14): latencies in clocks, times in ps. -/
structure DramTiming where
  tCk : Nat := 833
  cl : Nat := 16
  cwl : Nat := 12
  tRcd : Nat := 13750
  tRp : Nat := 13750
  tRas : Nat := 32000
  tFaw : Nat := 21000
  tRfc : Nat := 550000
  /-- The two refresh intervals that the temperature chooses from (R308). -/
  tRefi : Nat × Nat := (7800000, 3900000)
  /-- CA parity and write CRC are on. -/
  parityOn : Bool := true
  crcOn : Bool := true
  deriving DecidableEq, Repr

/-- What the sections of a configuration image give (Table 17-2). -/
structure Image where
  /-- Initial values of the dictionary and every definition that a dictionary object shows: (index·256 + sub, bytes), strictly rising keys. -/
  values : List (Nat × List (BitVec 8)) := []
  /-- Initial values that side B takes in place of those above: its addresses (R398). -/
  valuesB : List (Nat × List (BitVec 8)) := []
  /-- Loop, coefficient and schedule sections. -/
  bank : Bank := {}
  /-- Pre-bias maps of the stages section (R159). -/
  prebias : List Prebias := []
  /-- Output-voltage window of each rectifier berth: (berth, low, high) in V (R222). -/
  berthWindow : List (Nat × Rat × Rat) := []
  /-- The least power a rectifier must offer to carry the bus, W (R53). -/
  minOffer : Rat := 0
  /-- Wake sources of MOORED enabled, and set to start operation (R57): bits 0 to 3 `TW0` to `TW3`, 4 and 5 C0 and C1, 6 scan limit,
  7 `OWN_N`, 8 AO wake timer; the timer's time in s. -/
  wakeEnable : Nat := 0
  wakeStart : Nat := 0
  wakeTimer : Nat := 0
  /-- Severity section (R327). -/
  severity : List SevEntry := []
  /-- DDR4 timing parameters (R433, R512). -/
  dram : DramTiming := {}
  deriving DecidableEq, Repr

/-- An image slot of the MRAM (Table 15-6, R480). -/
structure ImgSlot where
  valid : Bool := false
  header : ImgHeader := {}
  /-- SHA-256 of the image (R476). -/
  digest : List (BitVec 8) := []
  /-- The public key that the signature was verified with; empty for a ROM key (R476). -/
  key : List (BitVec 8) := []
  content : Image := {}
  /-- The image's bytes as they stand in the slot, which a start checks again (R475, R480). -/
  bytes : List (BitVec 8) := []
  deriving DecidableEq, Repr

/-- One of the two copies of the key partition (R451, R479): the shelf builder's public keys, the minimum security versions of firmware and of configuration
images, and whether its words can be read. -/
structure KeyPart where
  /-- 0x2404:01, :02 (R479). -/
  keys : List (List (BitVec 8)) := [[], []]
  /-- Minimum security versions (R479). -/
  fwMin : Nat := 0
  imgMin : Nat := 0
  /-- Every word of the copy can be read (R451). -/
  good : Bool := true
  deriving DecidableEq, Repr

/-- One of the two copies of the slots' validity markers and the next-start selectors, with its CRC-32 (R484). -/
structure Markers where
  fw : List Bool := [false, false]
  cfg : List Bool := [false, false]
  fwNext : Nat := 0
  imgNext : Nat := 0
  crc : BitVec 32 := 0
  deriving DecidableEq, Repr

/-- Images, update and recovery (R475 to R495). -/
structure Img where
  /-- Firmware slots A and B, configuration slots A and B. -/
  fw : List ImgSlot := [{}, {}]
  cfg : List ImgSlot := [{}, {}]
  /-- `FwNext`, `ImgNext`, in MRAM: 0 A, 1 B. -/
  fwNext : Nat := 0
  imgNext : Nat := 0
  /-- Running slots: `none` is the ROM, or no image. -/
  fwRun : Option Nat := none
  imgRun : Option Nat := none
  /-- The key partition: keys and minimum security versions in two copies (R451, R479). -/
  keyParts : List KeyPart := [{}, {}]
  /-- The validity markers and selectors as MRAM holds them, in two copies (R484). -/
  marks : List Markers := [{}, {}]
  /-- 0x2400:10, :11 (R481). SPEC 0 -/
  trial : Nat := 0
  trialStarts : Nat := 0
  /-- The firmware slot on trial (R481). -/
  trialSlot : Nat := 0
  /-- Digest of the configuration image in force (R476). -/
  digest : List (BitVec 8) := []
  /-- 0x2401:01, :03, :04, :05. SPEC 0 -/
  target : Nat := 0
  updCommand : Nat := 0
  updState : Nat := 0
  updReject : Nat := 0
  /-- Slot written, declared size, bytes received. -/
  updSlot : Nat := 0
  updSize : Nat := 0
  updData : List (BitVec 8) := []
  /-- The image that is written comes from the twin (R490). -/
  updByTwin : Bool := false
  /-- 0x2402:01 to :04. SPEC 0 -/
  hitCommand : Nat := 0
  hitState : Nat := 0
  hitRefusal : Nat := 0
  hitGap : Nat := 0
  hitFrom : Nat := 0
  hitReverted : Bool := false
  /-- The running slots before the activation, for the revert (R489). -/
  hitOldFw : Nat := 0
  /-- 0x2402:05, :06. SPEC 0 -/
  pairCommand : Nat := 0
  pairState : Nat := 0
  /-- The kind of the slot that the pair update puts in force, 1 or 2, 0 while none has begun (R495). -/
  pairKind : Nat := 0
  /-- The digest recorded at step 1 of Table 17-6 (R491). -/
  pairDigest : List (BitVec 8) := []
  /-- An image transfer from the twin under way: kind and bytes (Table 12-2). -/
  twinKind : Nat := 0
  twinData : List (BitVec 8) := []
  /-- 0x2403:01. SPEC 0 -/
  pilotCause : Nat := 0
  deriving DecidableEq, Repr

end Sys2Proof.Machine
end

