-- ==== Sys2Proof/Types/Networks.lean ====
section
/-! DEFINITION. Plain data types of the dictionary service, networks and time (chapter 13). -/
namespace Sys2Proof.Machine

/-- Who sends a request to the dictionary: an SDO server channel of a CAN port, a Nireo session, or the controller itself (a mirror write, a program) (R374). -/
inductive Chan where
  | sdo (port srv : Nat)
  | nireo (session : Nat)
  | own
  deriving DecidableEq, Repr

/-- The answer to the last request: its channel, its status code (Table 13-2) and the bytes returned. -/
structure Answer where
  chan : Chan := .own
  status : Nat := 0
  data : List (BitVec 8) := []
  deriving DecidableEq, Repr

/-- An SDO request, by what CiA 301 lets a client ask (R386). -/
inductive SdoReq where
  /-- Expedited download: the object, complete access, the bytes. -/
  | expedited (idx sub : Nat) (ca : Bool) (data : List (BitVec 8))
  /-- Initiate a segmented download of a size, 0 where it is not given. -/
  | downloadInit (idx sub : Nat) (ca : Bool) (size : Nat)
  /-- A segment, with its toggle and whether it is the last. -/
  | downloadSegment (toggle last : Bool) (data : List (BitVec 8))
  /-- Initiate an upload. -/
  | uploadInit (idx sub : Nat) (ca : Bool)
  /-- The next segment of an upload, with its toggle. -/
  | uploadSegment (toggle : Bool)
  /-- Initiate a block download, and whether the client gives a CRC. -/
  | blockDownloadInit (idx sub : Nat) (ca : Bool) (size : Nat) (crc : Bool)
  /-- A segment of a block: its sequence number, whether it is the last of the value, its seven bytes. -/
  | blockSegment (seq : Nat) (last : Bool) (data : List (BitVec 8))
  /-- The end of a block download: the bytes of the last segment that hold no data, and the CRC. -/
  | blockDownloadEnd (unused crc : Nat)
  /-- Initiate a block upload with a block size, and whether the client checks the CRC. -/
  | blockUploadInit (idx sub : Nat) (ca : Bool) (size : Nat) (crc : Bool)
  /-- The client is ready for the first block. -/
  | blockUploadStart
  /-- The last segment of the block that the client has taken, and the size of the next block. -/
  | blockUploadAck (seq size : Nat)
  /-- The client has taken the end of a block upload. -/
  | blockUploadEnd
  deriving DecidableEq, Repr

/-- An open transfer (R396): object, direction, bytes so far, declared size, toggle, tick of the last request. -/
structure Transfer where
  idx : Nat := 0
  sub : Nat := 0
  ca : Bool := false
  upload : Bool := false
  size : Nat := 0
  data : List (BitVec 8) := []
  /-- Byte ranges of a DOMAIN write received out of order: (offset, bytes) (R394). -/
  parts : List (Nat × List (BitVec 8)) := []
  toggle : Bool := false
  /-- Block size of an SDO block transfer, 0 of any other; the last segment received or sent of the present block; bytes of an upload confirmed; whether
  the client uses the CRC; whether the last segment has come, or the end been sent (R386). -/
  blk : Nat := 0
  seq : Nat := 0
  sent : Nat := 0
  crc : Bool := false
  ended : Bool := false
  /-- The whole value has come and is being written. -/
  closing : Bool := false
  /-- Tick of the last request of the transfer (R386, R394). -/
  at_ : Nat := 0
  deriving DecidableEq, Repr

/-- A kept Nireo response (R395). -/
structure Kept where
  op : Nat := 0
  tag : Nat := 0
  idx : Nat := 0
  sub : Nat := 0
  word : Nat := 0
  status : Nat := 0
  data : List (BitVec 8) := []
  at_ : Nat := 0
  deriving DecidableEq, Repr

/-- One session: an SDO server channel or a Nireo session (R374, R394). -/
structure Session where
  /-- The session's number; for an SDO channel 0xFF00 + 0x10·p + s. -/
  num : Nat := 0
  /-- Port of a Nireo session: 0 E0, 1 E1, 2 HS, 3 C0, 4 C1. -/
  port : Nat := 0
  /-- Access level 0 user, 1 service, 2 factory. SPEC 0 -/
  level : Nat := 0
  /-- The challenge last read and not yet used. -/
  challenge : Option (List (BitVec 8)) := none
  /-- Ticks of bad responses, newest first, and the end of a refusal (R374). -/
  bad : List Nat := []
  refusedUntil : Nat := 0
  /-- Tick of the last request. -/
  lastReq : Nat := 0
  /-- 0x22rr:08 selection by region code 1 to 10 (R330). -/
  sevQuery : List (Option Key) := List.replicate 10 none
  /-- Readout cursor, `ReadMinClass`, `ReadSkipped` (R463) and `SummarySelect` (0x4720:02). SPEC 0 -/
  cursor : Nat := 0
  minClass : Nat := 0
  skipped : Nat := 0
  summary : Nat := 0
  transfers : List Transfer := []
  kept : List Kept := []
  /-- The objects whose DOMAIN write this session has ended (R383). -/
  finished : List (Nat × Nat) := []
  /-- Where a Nireo session's responses go: the host's address and UDP port, or its number on CAN FD (R397). -/
  peer : Nat × Nat := (0, 0)
  deriving DecidableEq, Repr

/-- The head of a Nireo request: its session, and the address and UDP port that the datagram comes from, or the host's number on CAN FD (R397). -/
structure NireoReq where
  session : Nat := 0
  src : Nat × Nat := (0, 0)
  deriving DecidableEq, Repr

/-- NMT states (R386). -/
inductive Nmt where
  | off | preOperational | operational | stopped
  deriving DecidableEq, Repr

/-- One CAN port (R386 to R392, R399). -/
structure CanPort where
  nmt : Nmt := .off
  /-- Node-ID and bit-timing entry in force, and those that LSS has set. SPEC image -/
  nodeId : Nat := 0
  rate : Nat := 0
  pendNode : Option Nat := none
  pendRate : Option Nat := none
  /-- LSS values stored (override of the image). -/
  storedNode : Option Nat := none
  storedRate : Option Nat := none
  /-- LSS state is configuration; the identity field that fastscan has come to. -/
  lssConfig : Bool := false
  fastscanSub : Nat := 0
  /-- Bus-off, 0x4A1p:05, :07, :08. SPEC 0 -/
  busOff : Bool := false
  busOffs : Nat := 0
  txErr : Nat := 0
  rpdoRefused : Nat := 0
  rpdoNotOwner : Nat := 0
  /-- Frames dropped on an uncorrectable word of the CAN buffer (Table 15-5). SPEC 0 -/
  dropped : Nat := 0
  /-- Faults of the port present, by detail (R399). -/
  faults : List Nat := []
  /-- Nodes whose consumed heartbeat runs or has timed out: (node, tick, timed out). -/
  consumers : List (Nat × Nat × Bool) := []
  /-- The last frame this port sent: COB-ID and bytes. -/
  lastTx : Nat × List (BitVec 8) := (0, [])
  /-- Frames sent since start. -/
  txCount : Nat := 0
  /-- Ticks at which the producer heartbeat was last sent. -/
  hbAt : Nat := 0
  /-- Nireo frames of CAN FD segments under assembly: host, bytes, next counter (R397). -/
  fd : List (Nat × List (BitVec 8) × Nat) := []
  /-- The CAN FD frames of the last response: the identifier and each frame's bytes (R397). -/
  fdTx : Nat × List (List (BitVec 8)) := (0, [])
  /-- A foreign SYNC has been received since this node's last one (R389). -/
  foreign : Bool := false
  deriving DecidableEq, Repr

/-- One TPDO: what waits (R392). -/
structure Pdo where
  /-- Tick of the last sending, a change waits for the inhibit time. -/
  sentAt : Option Nat := none
  changed : Bool := false
  /-- SYNCs since the TPDO was last sent on one. -/
  syncs : Nat := 0
  deriving DecidableEq, Repr

/-- The data set of an Announce message (R402, IEEE 1588): lower ranks above. -/
structure Announce where
  domain : Nat := 0
  priority1 : Nat := 0
  cls : Nat := 0
  accuracy : Nat := 0
  variance : Nat := 0
  priority2 : Nat := 0
  identity : Nat := 0
  deriving DecidableEq, Repr

/-- The identity of a PTP port (R402, IEEE 1588): its clock's, and the port's number. -/
structure PtpPort where
  clock : Nat := 0
  port : Nat := 0
  deriving DecidableEq, Repr

/-- A Delay_Req as it arrives (R402): its sequence number, the time in ns at which it came, the port that asks. -/
structure DelayReq where
  seq : Nat := 0
  rx : Nat := 0
  from_ : PtpPort := {}
  deriving DecidableEq, Repr

/-- A PTP message sent (R402): its type, sequence number and time in ns, the clock that it tells of, the multicast address and the UDP port that it goes to, and in a
Delay_Resp the port that has asked. -/
structure PtpSent where
  kind : Nat := 0
  seq : Nat := 0
  time : Nat := 0
  clock : Announce := {}
  /-- 224.0.1.129. -/
  addr : Nat := 0xE0000181
  /-- 319 for event messages, 320 for general ones. -/
  port : Nat := 320
  asked : Option PtpPort := none
  deriving DecidableEq, Repr

/-- A UDP datagram sent: the next hop, the destination and its port, the payload (R397, R398). -/
structure Datagram where
  hop : Nat := 0
  addr : Nat := 0
  port : Nat := 0
  data : List (BitVec 8) := []
  deriving DecidableEq, Repr

/-- One copy of the stored set (R376): commit number, CRC-32, values by object key, severity classes, tag of the image's dictionary section. -/
structure StoreCopy where
  seq : Nat := 0
  crc : BitVec 32 := 0
  values : List (Nat × List (BitVec 8)) := []
  sev : List SevEntry := []
  tag : Option Nat := none
  deriving DecidableEq, Repr

/-- One Ethernet port (R398, R402). -/
structure EthPort where
  linkUp : Bool := false
  /-- Speed code 0, 10, 100, 1000. -/
  speed : Nat := 0
  linkLocal : Bool := false
  /-- Address in use (0x4A0p:08), with mask and gateway, the PHY's latencies in s and the enable of PTP: as the last enable or start took them (R398). -/
  addr : Nat := 0
  mask : Nat := 0
  gateway : Nat := 0
  txLat : Rat := 0
  rxLat : Rat := 0
  ptpOn : Bool := false
  enabled : Bool := false
  received : Nat := 0
  dropped : Nat := 0
  faults : List Nat := []
  /-- The port is PASSIVE in PTP (R402). SPEC false -/
  passive : Bool := false
  /-- Ticks of the last Sync and Announce sent. -/
  syncAt : Option Nat := none
  annAt : Option Nat := none
  /-- Tick of the last better Announce. -/
  betterAt : Nat := 0
  /-- Sequence numbers of Sync and Announce, the last Sync sent, and the last other PTP message sent. -/
  syncSeq : Nat := 0
  annSeq : Nat := 0
  lastSync : Option PtpSent := none
  lastPtp : PtpSent := {}
  /-- The last reply sent: 1 ARP, 2 ICMP; 3 the announcement of a link-local address. -/
  lastReply : Nat := 0
  /-- The last Nireo response sent (R397). -/
  lastUdp : Datagram := {}
  deriving DecidableEq, Repr

/-- Time base (R400, R401). -/
structure TimeBase where
  /-- TAI in units of 2.5 ns at `at_`, and that tick. -/
  tai : Nat := 0
  at_ : Nat := 0
  /-- 0x2310:05. SPEC 0 -/
  state : Nat := 0
  /-- Pending `TimeSetSeconds` and the tick of its write. -/
  pendingSet : Option (Nat × Nat) := none
  /-- Slew still to be made, ns (R400). -/
  slew : Rat := 0
  slewAt : Nat := 0
  /-- Tick of the last `Traceable` 1, and of the entry to holdover. -/
  traceAt : Nat := 0
  holdoverAt : Nat := 0
  traceable : Nat := 0
  /-- Periods since the PTP epoch at the last SYNC, its counter value; the TAI second of the last TIME and of the last `PPS_OUT` edge,
  that edge's tick, and edges given. -/
  syncK : Option Nat := none
  timeSent : Nat := 0
  ppsSec : Option Nat := none
  ppsAt : Nat := 0
  syncCounter : Nat := 0
  pps : Nat := 0
  deriving DecidableEq, Repr

/-- Networks and dictionary service (R371 to R403). -/
structure Net where
  /-- SDO channels: C0 servers 1 to 4, then C1 servers 1 to 4. -/
  sdo : List Session := List.replicate 8 {}
  /-- Open Nireo sessions. -/
  nireo : List Session := []
  answer : Answer := {}
  /-- The CAN and Ethernet ports, the TPDOs and the time base. -/
  can : List CanPort := [{}, {}]
  tpdo : List Pdo := List.replicate 32 {}
  eth : List EthPort := [{}, {}]
  time : TimeBase := {}
  /-- The RPDOs received that wait for a SYNC, in the order of their reception: number, port, data (R391). -/
  rpdoQueue : List (Nat × Nat × List (BitVec 8)) := []
  /-- 0x4A30:02, :03, :06 and 0x4A20:03. SPEC 0 -/
  peak : Nat := 0
  slotRefusals : Nat := 0
  dropped : Nat := 0
  hsCrc : Nat := 0
  /-- Response frames waiting on the host SPI port, oldest first. -/
  hsQueue : List (List (BitVec 8)) := []
  /-- What the last host SPI command returned. -/
  hsOut : List (BitVec 8) := []
  /-- Challenges read so far, which number the free values of the challenge (R374). -/
  challenges : Nat := 0
  /-- CiA 301 error history 0x1003, newest first, at most 16. -/
  history : List Nat := []
  /-- The two copies of the stored set (R376), and whether it is marked for deletion. -/
  storedA : StoreCopy := {}
  storedB : StoreCopy := {}
  storedDrop : Bool := false
  /-- 0x2800:01 `LegacyMode` held in MRAM, and LEGACY in force. -/
  legacyHeld : Option Nat := none
  legacy : Bool := false
  deriving DecidableEq, Repr

end Sys2Proof.Machine
end

