-- ==== Sys2Proof/Types/Logbook.lean ====
section
/-! DEFINITION. Plain data types of logbook and capture (chapter 16). -/
namespace Sys2Proof.Machine

/-- Which record another names by its number, which it gets at its commit (R455): its type, its source and the tick of its event. -/
structure RecRef where
  recType : Nat := 0
  sourceId : Nat := 0
  kind : Nat := 0
  tick : Nat := 0
  deriving DecidableEq, Repr

/-- A trigger that is due (R467): its bit, the source, class and input that decide whether it is enabled, the tick of the deciding event, and its record, if it has
one. -/
structure TrigEvent where
  bit : Nat := 0
  key : Key := {}
  cls : Nat := 0
  md : Nat := 0
  at_ : Nat := 0
  ref : Option RecRef := none
  deriving DecidableEq, Repr

/-- A logbook record (Table 16-1). Its 64 bytes are `Record.bytes`. -/
structure Record where
  recType : Nat := 0
  /-- `class` of `rec_flags`, 0 NOTE to 5 LOCKOUT. -/
  cls : Nat := 0
  seqStamp : Bool := false
  superseded : Bool := false
  fromFreeze : Bool := false
  lastBreath : Bool := false
  kind : Nat := 0
  /-- Operating time in ms, and the µs after its step. -/
  stamp : Nat := 0
  stampUs : Nat := 0
  pcc : Nat := 0
  modeByte : Nat := 0
  sourceId : Nat := 0
  /-- `rec_number`, given at the commit (R455). -/
  number : Nat := 0
  /-- Bytes 28 to 59. -/
  payload : List (BitVec 8) := []
  /-- Tick of the event, by which the records of one carrier period are ordered (R324). -/
  tick : Nat := 0
  /-- Slot it lies in, once committed (R457). -/
  slot : Nat := 0
  /-- The record whose number its payload gives, where that record had not been committed yet (Table 16-3, type 0x0040). -/
  refers : Option RecRef := none
  deriving DecidableEq, Repr

/-- A head word copy: slot, `rec_number` and CRC-32 (R457). -/
structure HeadWord where
  slot : Nat := 0
  number : Nat := 0
  crc : BitVec 32 := 0
  deriving DecidableEq, Repr

/-- States of a freeze (0x4701:07). -/
inductive Freeze where
  | none | freezing | frozen | released | expired | aborted
  deriving DecidableEq, Repr

/-- States of a window (0x471w:01). -/
inductive WinState where
  | empty | collecting | promoting | frozen
  deriving DecidableEq, Repr

/-- One capture window w0 to w9 (R468 to R472). -/
structure Window where
  /-- SPEC empty -/
  state : WinState := .empty
  /-- Offset in the window partition and size, header and data (R470). -/
  offset : Nat := 0
  bytes : Nat := 0
  /-- Settings taken at opening (R469): channels, frames before and after. -/
  channels : Nat := 0
  pre : Nat := 0
  post : Nat := 0
  /-- Trigger frame, counted from the ring's start, and its tick. -/
  trigFrame : Nat := 0
  trigTick : Nat := 0
  /-- Trigger: record number, 0 until its record is committed, that record, stamp, pcc, `seq_stamp`, bit of R467, source. -/
  trigRec : Nat := 0
  trigRef : Option RecRef := none
  stamp : Nat := 0
  pcc : Nat := 0
  seqStamp : Bool := false
  trigBit : Nat := 0
  key : Key := {}
  /-- Further triggers within the hold-off. -/
  further : Nat := 0
  /-- PTP time of the first frame in ns, 0 when unset. -/
  ptp : Nat := 0
  /-- Scale and offset of md0 to md47 at the trigger frame, binary32 (R471). -/
  scales : List (BitVec 32) := []
  offsets : List (BitVec 32) := []
  /-- Header and data in the MRAM once promoted (Table 16-4, R471). -/
  header : List (BitVec 8) := []
  data : List (BitVec 8) := []
  deriving DecidableEq, Repr

/-- Logbook and waveform capture (R453 to R474). -/
structure Log where
  /-- Records held, ascending `rec_number`. -/
  held : List Record := []
  /-- Head word copies, and which is written next (R457). -/
  heads : List HeadWord := [{}, {}]
  nextHead : Nat := 0
  /-- Next `rec_number`, and next slot while the logbook is not full (R457, R459). -/
  next : Nat := 1
  nextSlot : Nat := 0
  /-- `index_ready` (R457). -/
  indexReady : Bool := false
  /-- Pending buffer, oldest first (R458). SPEC empty -/
  waiting : List Record := []
  /-- 0x4701:05. SPEC 0 -/
  peak : Nat := 0
  /-- The power cycle's operating time is invalid (R456). -/
  timeInvalid : Bool := false
  /-- Freeze: state, owner, commit tick, 0x4701:06 (R461, R462). SPEC none -/
  freeze : Freeze := .none
  owner : Chan := .own
  frozenAt : Nat := 0
  command : Nat := 0
  /-- Drop counters by class, overwrites (R459). -/
  drops : List Nat := List.replicate 6 0
  overwrites : Nat := 0
  /-- A record has been dropped and its source waits to be raised (R459, R460). -/
  dropSeen : Bool := false
  /-- The capture ring: running, tick of frame 0, frames since the ring started (R464, R465). -/
  running : Bool := false
  ringFrom : Nat := 0
  frames : Nat := 0
  /-- The channels of 0x4700:03 that it runs with (R466). -/
  ringMask : Nat := 0
  /-- Tick of the last frame: one frame falls on a frame tick (R464). -/
  lastFrame : Option Nat := none
  /-- 0x4700:07, :08. SPEC 0 -/
  captured : Nat := 0
  dropped : Nat := 0
  /-- 0x4700:09, :0A, :0B. SPEC 0 -/
  ringTime : Nat := 0
  ringOt : Nat := 0
  promoteRate : Rat := 0
  /-- The capture-window SRAM of the FYX9462 (R466): bytes, strictly rising addresses, none 0. -/
  sramRing : List Host.Cell := []
  windows : List Window := List.replicate 10 {}
  /-- Space of abandoned promotions, first and one past the last byte: free at the next start (R470). -/
  lostSpans : List (Nat × Nat) := []
  /-- Triggers that are due, oldest first (R467). -/
  events : List TrigEvent := []
  /-- Tick of the trigger frame of the last window opened. -/
  lastOpen : Option Nat := none
  /-- Number of the window that further triggers count in. -/
  lastWindow : Nat := 0
  /-- 0x4703:0B, :0C. SPEC 0 -/
  refusals : Nat := 0
  triggers : Nat := 0
  /-- Last-breath summaries, newest first, at most 4 (R473). SPEC empty -/
  summaries : List (List (BitVec 8)) := []
  /-- Shadow of feed figures (power, voltage, `EnergyFwd`) and string figures (SoC_i, current, voltage, flags), refreshed every 1 ms (R473). -/
  feedShadow : List (Rat × Rat × Nat) := []
  strShadow : List (Rat × Rat × Rat × Nat) := []
  deriving DecidableEq, Repr

end Sys2Proof.Machine
end

