-- ==== Sys2Proof/Types/Measurement.lean ====
section
/-! DEFINITION. Plain data types of the measurement path (chapter 03). -/
namespace Sys2Proof.Machine

/-- One modulator input md0 to md47 (R78 to R92). -/
structure ModInput where
  /-- Modulator bits of the last two frames, oldest first, the sinc3 filter's memory (R81). -/
  hist : List Bool := []
  /-- Complete loop-path frames since the filter started, saturating at 4 (R83). -/
  frames : Nat := 0
  /-- Normalised value x of the last frame, binary32 (R81). -/
  x : BitVec 32 := 0
  /-- 0x40nn:0A `LoopValue` y, binary32 (R91). -/
  y : BitVec 32 := 0
  /-- Tick at which the last sample became available (R82). -/
  availAt : Nat := 0
  /-- Valid flag of the last sample (R83). SPEC false -/
  valid : Bool := false
  /-- The sample before the last: value, flag and tick (R122). SPEC not valid -/
  yOld : BitVec 32 := 0
  validOld : Bool := false
  availOld : Nat := 0
  /-- The last 16 values of y, newest first (R158). -/
  last16 : List (BitVec 32) := []
  /-- `stuck` condition (Table 03-4). -/
  stuck : Bool := false
  /-- `overrange` condition. -/
  overrange : Bool := false
  /-- Frames below the overrange level since the last at or above it (R79). -/
  overrangeBelow : Nat := 0
  /-- `decode` condition. -/
  decode : Bool := false
  /-- 0x40nn:13 `OverrangeCount`. SPEC 0 -/
  overCount : Nat := 0
  /-- Scaling in force: `FullScale`, `GainCal`, `OffsetCal`, binary32 (R91). SPEC 1.0, 1.0, 0.0 -/
  fs : BitVec 32 := 0x3F800000
  gain : BitVec 32 := 0x3F800000
  offset : BitVec 32 := 0
  /-- A written scaling waits for the boundary (R91). -/
  scalePending : Bool := false
  /-- Fast thresholds in force (R90): high, low, hysteresis in the unit of :05. SPEC 1.0, -1.0, 0.0 × FullScale -/
  thrHigh : BitVec 32 := 0x3F800000
  thrLow : BitVec 32 := 0xBF800000
  thrHyst : BitVec 32 := 0
  /-- The last modulator bits of the fast path, newest first: 2·OSR_F − 1 of them (R87). -/
  fastBits : List Bool := []
  /-- Latest fast value, normalised (R87). -/
  fast : Rat := 0
  /-- The fast value before it, and the tick of the latest (R165). -/
  fastPrev : Rat := 0
  fastAt : Nat := 0
  /-- Valid flag of the latest fast value (R361). -/
  fastValid : Bool := true
  /-- Fast values seen since the filter started, saturating (R88). -/
  fastSeen : Nat := 0
  /-- Consecutive fast values at or above `FastHigh` / at or below `FastLow` (R88). -/
  highRun : Nat := 0
  lowRun : Nat := 0
  /-- `fast_high` and `fast_low`, the comparator outputs (R88). SPEC false -/
  high : Bool := false
  low : Bool := false
  /-- 0x40nn:08 `CalCommand` readback (R92). SPEC 0 -/
  cal : Nat := 0
  /-- Sum of x and count of samples of a running offset measurement (R92). -/
  calSum : Rat := 0
  calCount : Nat := 0
  /-- The running measurement has met an invalid sample (R92). -/
  calBad : Bool := false
  /-- The valid samples y of the last 100 ms with their ticks, newest first (R473). -/
  acc : List (Nat × BitVec 32) := []
  /-- The latest valid sample y, whatever its age (R192, R473). -/
  lastGood : Option (BitVec 32) := none
  /-- A word of its calibration or thresholds cannot be read, and its samples are invalid until it is rewritten (Table 15-5). -/
  wordBad : Bool := false
  deriving DecidableEq, Repr

/-- One input group mg0 to mg3 (R73, R518). -/
structure InputGroup where
  /-- The group's decimators run (enabled when SNS started or restarted, and not shed) (R74, R518). -/
  running : Bool := false
  /-- `GroupEnable` in force: the value at the last start of SNS, or as written in SERVICE or to a SHED group (R74). SPEC false -/
  enabled : Bool := false
  /-- The group is stopped by a SHED (R518). -/
  shed : Bool := false
  /-- Tick at which its decimators last started: the frames of a free-running group are counted from it (R86). -/
  startedAt : Nat := 0
  /-- The `clock` condition is present (Table 03-3). -/
  clockBad : Bool := false
  /-- 0x403k:05 `ClockFaults`. SPEC 0 -/
  clockFaults : Nat := 0
  deriving DecidableEq, Repr

/-- One supervisory ADC sequence entry's results (R95, R101, R102). -/
structure AdcEntry where
  /-- 0x4102:e `RawResult`. SPEC 0 -/
  raw : Nat := 0
  /-- 0x4103:e `PinVolts`, in V. SPEC 0 -/
  volts : Rat := 0
  /-- Verdicts (R101, R102). -/
  openWire : Bool := false
  below : Bool := false
  above : Bool := false
  deriving DecidableEq, Repr

/-- The supervisory ADC (R93 to R102). -/
structure Adc where
  /-- Entries of the running sequence, words of Table 03-9 (R96). SPEC idle -/
  running : List Nat := []
  /-- A `SeqLength` write whose copy waits for the next lap (R96). -/
  pendingLen : Option Nat := none
  /-- 0x4100:01 `SeqLength` as written. SPEC 0 -/
  seqLength : Nat := 0
  /-- A lap runs, and the entry it is at. -/
  lapActive : Bool := false
  pos : Nat := 0
  /-- Tick of the lap's start (R97). -/
  lapStart : Nat := 0
  /-- Tick at which the next lap is due under a `SeqPeriod` (R97). -/
  due : Nat := 0
  /-- 0x4100:04 `LapTime` in ticks (R97). -/
  lapTime : Nat := 0
  /-- 0x4100:05, :06. SPEC 0 -/
  lapCount : Nat := 0
  overruns : Nat := 0
  /-- Laps since the last open-wire test (R100). -/
  owLaps : Nat := 0
  /-- The last check conversion was outside its limits (R98, Table 03-3). SPEC false -/
  convBad : Bool := false
  /-- The converter is powered (R99). -/
  powered : Bool := false
  /-- Tick at which the next temperature slot is due (R98). SPEC the first at once -/
  slotDue : Nat := 0
  /-- Results by entry, 32 of them. -/
  entries : List AdcEntry := List.replicate 32 {}
  deriving DecidableEq, Repr

end Sys2Proof.Machine
end

