-- ==== Sys2Proof/Types/Memory.lean ====
section
/-! DEFINITION. Plain data types of DDR4, SRAM and MRAM (chapter 15). -/
namespace Sys2Proof.Machine

/-- A leaky bucket of a DRAM device or an SRAM instance (R445, R447). -/
structure Bucket where
  /-- Level. SPEC 0 -/
  level : Nat := 0
  /-- `bucket_full`: it has overflowed and not yet leaked back to 0. SPEC false -/
  full : Bool := false
  /-- Corrections since start (0x4610, 0x464r). SPEC 0 -/
  corrected : Nat := 0
  deriving DecidableEq, Repr

/-- Who asks for a DRAM access (R441, Table 15-3). -/
inductive Requester where
  | recorder | cores | server | scrubber
  deriving DecidableEq, Repr

/-- A DRAM transaction as it is served (R441): who asks, the host channel whose operation waits for it, if one does (Table 15-3), and the transactions that MEM
holds beside it, oldest first: requester, burst, and whether it came before this one. -/
structure MemReq where
  who : Requester := .cores
  host : Option Chan := none
  others : List (Requester × Nat × Bool) := []
  deriving DecidableEq, Repr

/-- What MRAM holds in two copies outside the image slots and the logbook (R65, R260, R313, R376, R451, R457, R484). -/
inductive MramCopy where
  | counters | estimator (k : Nat) | stored | vid | keys | markers | head
  deriving DecidableEq, Repr

/-- An error that a read of the MRAM finds (R451): the word's byte offset, the copy whose word it is, with true for copy B, and whether a single bit is wrong.
The spec gives the state partition no layout: the error names the copy (log entry 174). -/
structure MramError where
  addr : Nat := 0
  copy : Option (MramCopy × Bool) := none
  single : Bool := false
  deriving DecidableEq, Repr

/-- Who writes a partition of the MRAM (Table 15-6). -/
inductive MramWriter where
  | update | recorder | cores | ao
  deriving DecidableEq, Repr

/-- An error that the devices give in a burst read: the codeword 0 to 3, the device 0 to 9 and the bits inverted (R436). -/
structure SymErr where
  cw : Nat := 0
  dev : Nat := 0
  bits : BitVec 8 := 0
  deriving DecidableEq, Repr

/-- The promotion of a window (R470): its number and the errors that the devices give in the bursts read, by burst. -/
structure Promotion where
  window : Nat := 0
  errs : List (Nat × SymErr) := []
  deriving DecidableEq, Repr

/-- DDR4, SRAM and MRAM (R432 to R452). -/
structure Mem where
  /-- 0x4600:06 `TrainResult`. SPEC 0 -/
  trainResult : Nat := 0
  /-- `byte_parity`: byte-parity mode is in force (R438). -/
  byteParity : Bool := true
  /-- Bursts filled when no fill runs, and the tick at which the fill in progress began (R434). -/
  fillPtr : Nat := 0
  fillFrom : Nat := 0
  /-- Bursts above the fill pointer that a write has filled (R434). -/
  early : List Nat := []
  /-- `filling`. -/
  filling : Bool := false
  /-- The symbols in the array: the symbol of device d in codeword k of burst b is at (4·b + k)·10 + d (R436). Strictly rising addresses, no symbol that is 0. -/
  cells : List Host.Cell := []
  /-- `scrub_running`, the burst it reads next, the tick of the lap's start (R442, R443). -/
  scrubbing : Bool := false
  scrubPtr : Nat := 0
  lapFrom : Nat := 0
  /-- 0x4600:08 in s, :09. SPEC 0 -/
  lapTime : Rat := 0
  laps : Nat := 0
  /-- Bursts whose corrected read waits to be written back, oldest first (R437). -/
  writeBack : List Nat := []
  /-- 0x4600:0D to :11. SPEC 0 -/
  corrected : Nat := 0
  uncorrected : Nat := 0
  lastUncorrected : Nat := 0
  rmws : Nat := 0
  peak : Nat := 0
  /-- Devices dv0 to dv9 of rk0, then of rk1 (R445). -/
  buckets : List Bucket := List.replicate 20 {}
  /-- Threshold and interval in force for devices and for SRAM instances; a change waits for the next leak tick (R445). SPEC 16, 4 -/
  threshold : Nat := 16
  sramThreshold : Nat := 4
  /-- Leak interval in force in ms, of devices and of SRAM instances (R445, R447). SPEC 60000, 3600000 -/
  interval : Nat := 60000
  sramInterval : Nat := 3600000
  /-- Tick of the last leak (R445, R447). -/
  leakAt : Nat := 0
  sramLeakAt : Nat := 0
  /-- SRAM instances: 27 for each of the ten regions (Table 15-5). -/
  sram : List Bucket := List.replicate 270 {}
  /-- The flip mask is armed, with the mask and byte address it was armed with (R446). SPEC false -/
  flipArmed : Bool := false
  flipMask : BitVec 80 := 0
  flipAddr : Nat := 0
  /-- The zero fill in progress has yet to write the burst that the armed mask names (R434, R446). -/
  flipFill : Bool := false
  /-- A command on the channel has had one `DALERT_N` alert and is being retried (R512). -/
  alerted : Bool := false
  /-- What the last DRAM access answered: the bytes, and whether it was a bus error (R444). -/
  answer : List (BitVec 8) := []
  busError : Bool := false
  /-- The requester that the last bus error was returned to (R20, R444, Table 15-3). SPEC none -/
  busTo : Option Requester := none
  /-- The MRAM's 8-byte words as written, by byte offset of each byte; erased words read 0 (R449, R450). -/
  mram : List Host.Cell := []
  /-- Writers a write of whose copy or record has failed three times: what they commit next is not committed (R450). -/
  failed : List MramWriter := []
  /-- Words that a read has found uncorrectable and no write has repaired, by byte offset (R451). -/
  badWords : List Nat := []
  /-- 0x4630:01 to :05, since manufacture. SPEC 0 -/
  mramWrites : Nat := 0
  mramRetries : Nat := 0
  mramFails : Nat := 0
  mramCorrected : Nat := 0
  mramUncorrected : Nat := 0
  deriving DecidableEq, Repr

end Sys2Proof.Machine
end

