-- ==== Sys2Proof/Types/Power.lean ====
section
/-! DEFINITION. Plain data types of the shelf power manager and the feeds (chapter 07). -/
namespace Sys2Proof.Machine

/-- Supply states of Table 07-4 (R220). -/
inductive SupplyState where
  | source | handover | battery | handback | offline
  deriving DecidableEq, Repr

/-- Steps of a hand-back (R224). -/
inductive HbStep where
  | none | moving | allowed | ramping
  deriving DecidableEq, Repr

/-- The shelf power manager (R200 to R227). -/
structure Spm where
  /-- 0x4501:01 `SupplyState`. SPEC offline -/
  supply : SupplyState := .offline
  /-- Tick at which the state was entered; the dwell runs from it (R221). -/
  supplySince : Nat := 0
  /-- A hand-back request is held (0x4501:02 reads 1). SPEC false -/
  hbRequested : Bool := false
  hbStep : HbStep := .none
  /-- Source the hand-back uses: feed 0 or 1, or 2 + berth (R224). -/
  hbSource : Nat := 0
  /-- Tick at which the hand-back ramp began, and each string's current then. -/
  hbRampFrom : Nat := 0
  hbFrom : List Rat := List.replicate 8 0
  /-- 0x4501:0B, :0C, :0D. SPEC 0 -/
  handovers : Nat := 0
  handbacks : Nat := 0
  abandoned : Nat := 0
  /-- LPF(P_load), P_src in W (R208). -/
  lpf : Rat := 0
  pSrc : Rat := 0
  /-- Quantities of Table 07-1 as of the last update, W. SPEC 0 -/
  pBat : Rat := 0
  pHold : Rat := 0
  pRect : Rat := 0
  pFeed : Rat := 0
  pLoad : Rat := 0
  /-- Power sums over the present 1 ms: per stage and per feed, with counts (R200). -/
  stageSum : List Rat := List.replicate 8 0
  stageCnt : List Nat := List.replicate 8 0
  feedSum : List Rat := List.replicate 4 0
  feedCnt : List Nat := List.replicate 4 0
  /-- 0x4502: P*_s and w_s. SPEC 0 -/
  ref : List Rat := List.replicate 8 0
  weight : List Rat := List.replicate 8 0
  /-- Highest P*_s and −P*_s of the last 60 s, as (tick, P*_s) pairs by string, newest first (R252). -/
  refHist : List (List (Nat × Rat)) := List.replicate 8 []
  /-- The charge request of the last allocation, W (R266, R270). -/
  want : Rat := 0
  /-- Charging grant in force, the one that takes effect at the next update, W, and granted power by string (R211, R266). SPEC 0 -/
  grant : Rat := 0
  grantNext : Rat := 0
  granted : List Rat := List.replicate 8 0
  /-- 0x4503: trim by berth, V. SPEC 0 -/
  trim : List Rat := List.replicate 64 0
  /-- Tick since which a trim has stayed at its limit, by berth (R209). -/
  trimAtMax : List (Option Nat) := List.replicate 64 none
  /-- Partners in sharing, by berth (R210). -/
  sharing : List Bool := List.replicate 64 false
  /-- Tick since which a berth has stayed within its limits, and qualified berths (R222). -/
  berthGoodSince : List (Option Nat) := List.replicate 64 none
  qualBerth : List Bool := List.replicate 64 false
  /-- Thermal part of `CapReduction`, W (R307). SPEC 0 -/
  thermal : Rat := 0
  /-- Status bits (0x4500:01). -/
  capped : Bool := false
  shareLimited : Bool := false
  absorbCapped : Bool := false
  noSource : Bool := false
  /-- Tick since which the shelf has stood above its cap / absorb cap, or the windows have been limited (R213, R214, Table 07-8). -/
  overCapSince : Option Nat := none
  overAbsorbSince : Option Nat := none
  limitedSince : Option Nat := none
  /-- Tick at which the present P_cap was applied, whether P_shelf has reached it, and 0x4500:1A in ticks (R213). -/
  capAt : Nat := 0
  capReached : Bool := true
  capResponse : Nat := 0
  /-- P_cap last applied. -/
  lastCap : Rat := 600000
  /-- Progress of the CARRY ramp in the present HANDOVER, as a fraction 1 to 0, and its last instant (R219). -/
  carry : Rat := 1
  carryAt : Nat := 0
  /-- Details of the spm source that are present (Table 07-8). -/
  details : List Nat := []
  /-- Windows in force by stage: out_lo, out_hi in A (R203). -/
  winLo : List Rat := List.replicate 8 0
  winHi : List Rat := List.replicate 8 0
  /-- Share trims of 0x4504 by phase. SPEC 0 -/
  shareTrim : List Rat := List.replicate 24 0
  /-- Probe in progress: string, sign, start tick (R251). -/
  probe : Option (Nat × Bool × Nat) := none
  /-- Tick of the last update. -/
  lastUpdate : Nat := 0
  /-- Power that the cap takes from the rectifiers' target, W (R209, R213). -/
  rectCut : Rat := 0
  /-- Tick at which the partner that a hand-back uses entered sharing (R224). -/
  hbShared : Option Nat := none
  /-- After a hand-back the grant waits for the next 10 ms update (R224). -/
  grantHeld : Bool := false
  deriving DecidableEq, Repr

/-- One feed FA, FB, FO0, FO1 (R228 to R238). -/
structure Feed where
  /-- Gate command (R229, R231). SPEC inactive -/
  gate : Bool := false
  /-- Gate-on feedback, and the tick since which it has been active. -/
  gon : Bool := false
  gonSince : Nat := 0
  /-- Tick at which the gate command last changed. -/
  gateAt : Nat := 0
  /-- Power-good output (R235). SPEC false -/
  pg : Bool := false
  /-- The feed is lost, qualified; tick since which it has stayed within its limits (R222, R230). -/
  lost : Bool := false
  qualified : Bool := false
  goodSince : Option Nat := none
  /-- Tick since which V_feed − V_bus has held `OnForward` (R229). -/
  fwdSince : Option Nat := none
  /-- `reverse_off` (R238). -/
  reverseOff : Bool := false
  /-- Inrush runs, since when, samples at the done level, chopped until (R231). -/
  inrush : Bool := false
  inrushFrom : Nat := 0
  doneRun : Nat := 0
  chopAt : Option Nat := none
  /-- The feed is switched on and runs; tripped and waiting to retry since; retries used; SHED in force. -/
  on : Bool := false
  trippedAt : Option Nat := none
  retries : Nat := 0
  runSince : Nat := 0
  shed : Bool := false
  /-- Fuse heat H in A²s and the tick of its last sample (R232). SPEC 0 -/
  heat : Rat := 0
  heatAt : Nat := 0
  /-- Last valid voltage, last valid power, tick of the last valid sample, of the last sample, metering stopped (R237). -/
  volts : Rat := 0
  power : Rat := 0
  validAt : Nat := 0
  meterAt : Nat := 0
  meterStopped : Bool := false
  /-- Energy accumulators in J, values of binary64 (R237). -/
  fwd : Rat := 0
  rev : Rat := 0
  /-- 0x44f0:1A, :1B, :1C. SPEC 0 -/
  trips : Nat := 0
  reverses : Nat := 0
  lastCause : Nat := 0
  deriving DecidableEq, Repr

end Sys2Proof.Machine
end

