-- ==== Sys2Proof/Types/Setpoints.lean ====
section
/-! DEFINITION. Plain data types of profile generators, repetitive controllers and observers (chapter 06). -/
namespace Sys2Proof.Machine

/-- One segment of a plan: constant jerk for a duration in s (R178, R179). -/
structure Seg where
  jerk : Rat := 0
  dur : Rat := 0
  deriving DecidableEq, Repr

/-- One profile generator pg0 to pg15 (R175 to R182). -/
structure Pg where
  p : Rat := 0
  v : Rat := 0
  a : Rat := 0
  /-- Values delivered to the engines at the last instant, binary32 (R175): position and feed-forward term. -/
  pOut : BitVec 32 := 0
  ffOut : BitVec 32 := 0
  /-- Limits in force (R180). -/
  vLim : Rat := 0
  aLim : Rat := 0
  jLim : Rat := 0
  /-- Target taken, its sequence number, and whether it has completed. -/
  target : Rat := 0
  seq : Nat := 0
  moving : Bool := false
  /-- A target waits, with its sequence number and the tick of its acceptance (R179). -/
  waiting : Option (Rat × Nat × Nat) := none
  /-- The plan that runs, from the state at the last instant, and the time left in it. -/
  plan : List Seg := []
  /-- Duration of the braking part still to run (bit 9 `braking`). -/
  brake : Rat := 0
  /-- 0x3B0n:0B to :0E. SPEC 0 -/
  targetSeq : Nat := 0
  doneSeq : Nat := 0
  superseded : Nat := 0
  completed : Nat := 0
  /-- Status bits `done`, `superseded`, `limit_pending`. -/
  done : Bool := false
  supBit : Bool := false
  limitPending : Bool := false
  /-- Tick of the last update instant. -/
  lastUpdate : Nat := 0
  deriving DecidableEq, Repr

/-- One repetitive controller rc0 to rc7 (R183 to R191). -/
structure Rc where
  /-- The table, one value per bin (R184). -/
  table : List Rat := []
  /-- φ, T in s, N_a, u. SPEC 0 -/
  phase : Rat := 0
  period : Rat := 0
  len : Nat := 0
  u : Rat := 0
  /-- u as the last update found it, which the next carrier boundary puts in force (R185). -/
  uNext : Rat := 0
  /-- Status bits (Table 06-4). -/
  locked : Bool := false
  diverged : Bool := false
  refStale : Bool := false
  /-- A fade runs: its start tick, length in s and the zeroing at its end (R189, R190). -/
  fadeFrom : Option Nat := none
  fadeLen : Rat := 0
  fadeZero : Bool := false
  /-- Factor of u at the start of the fade (R189, R190). -/
  fadeStart : Rat := 1
  /-- The DEGRADE of the diverge source holds: learning frozen, u faded (R190). -/
  frozen : Bool := false
  /-- A period has been accepted since the controller became unlocked (R189). -/
  offered : Bool := true
  /-- Errors of the bin in use: sum and count (R184). -/
  binSum : Rat := 0
  binCount : Nat := 0
  /-- Errors of the period: sum of squares and count; RMS of the last three periods, newest first (R190). -/
  sqSum : Rat := 0
  sqCount : Nat := 0
  errRms : Rat := 0
  growth : Nat := 0
  /-- A period has been completed, so that `errRms` is one's RMS (R190). -/
  rmsKnown : Bool := false
  /-- 0x3C0n:15. SPEC 0 -/
  resamples : Nat := 0
  /-- Tick of the last motion reference, and of the last accepted period (R187, R189). -/
  refAt : Nat := 0
  acceptedAt : Nat := 0
  /-- Last estimate of R188, its crossing intervals newest first, last crossing tick, filtered history newest first. -/
  estimate : Rat := 0
  crossings : List Rat := []
  lastCross : Nat := 0
  wasLow : Bool := false
  history : List (Nat × Rat) := []
  /-- State of the two second-order filters of the estimator (R188). -/
  filter : List Rat := [0, 0, 0, 0]
  /-- A change of more than a quarter fades over the present period, then learns afresh (R189). -/
  bigChange : Option Rat := none
  /-- φ has wrapped and the wrap's work is still to be done (R189). -/
  wrapped : Bool := false
  /-- Bin in use at the last update (R184). -/
  bin : Nat := 0
  deriving DecidableEq, Repr

/-- What one observer holds for one position of its stage (R192 to R195). -/
structure ObsPhase where
  est : Rat := 0
  pred : Rat := 0
  resid : Rat := 0
  /-- Duty at the last run (R192). -/
  dPrev : Rat := 0
  /-- Consecutive alarms (R193), and consecutive ambiguous periods (R194). -/
  alarmRun : Nat := 0
  ambRun : Nat := 0
  alarm : Bool := false
  ambiguous : Bool := false
  /-- Substitution in force, its elapsed time in s, its last end, and the recovery run (R195). -/
  subst : Bool := false
  substTime : Rat := 0
  substEnd : Option Nat := none
  recoverRun : Nat := 0
  /-- The phase has had its first run since the start or its return (R192). -/
  started : Bool := false
  deriving DecidableEq, Repr

/-- The observer of one stage (R192 to R199). -/
structure Observer where
  ph : List ObsPhase := List.replicate 12 {}
  /-- Previous V_H and V_L (R192). -/
  vH : Rat := 0
  vL : Rat := 0
  /-- The last 16 demand samples, newest first, frozen from the first alarm (R197). -/
  demand : List Rat := []
  /-- 0x3D0n:10 `MissingShare` in W. SPEC 0 -/
  missing : Rat := 0
  /-- Capacity is short (R197). -/
  capShort : Bool := false
  /-- A drop of a running phase has been checked, and not every phase has returned since (R197). -/
  checked : Bool := false
  /-- Decisions taken (position, class) and substitutions ended that the twin has not been told yet (R198). -/
  decided : List (Nat × Nat) := []
  ended : List Nat := []
  /-- More than half of the running phases are in alarm (R193). -/
  model : Bool := false
  /-- The stage did not run at the last run of the observer (R192). -/
  idle : Bool := true
  /-- 0x3D0n:11 to :14. SPEC 0 -/
  substCount : Nat := 0
  openCount : Nat := 0
  sensorCount : Nat := 0
  lastClass : Nat := 0
  /-- Tick of the last drop judged, from which the 10 ms windows of R197 are looked at. -/
  winFrom : Nat := 0
  /-- A running phase has been dropped since the last check of the capacity (R197), and the phase dropped last (R199). -/
  dropCheck : Bool := false
  lastDrop : Nat := 0
  /-- Tick of the last observer run (R192). -/
  lastRun : Nat := 0
  deriving DecidableEq, Repr

end Sys2Proof.Machine
end

