-- ==== Sys2Proof/Types/Stages.lean ====
section
/-! DEFINITION. Plain data types of stages and phases (chapter 05). -/
namespace Sys2Proof.Machine

/-- State codes of Table 01-6 (R25). -/
inductive UState where
  | disabled | unpowered | starting | running | degraded | shed | safe
  deriving DecidableEq, Repr

/-- The stage switches or is being started. -/
def UState.switches : UState → Bool
  | .starting => true | .running => true | .degraded => true
  | .disabled => false | .unpowered => false | .shed => false | .safe => false

/-- What a tracking message, or the snapshot, says of a stage at a carrier boundary (R143, Table 12-5): its state, the step of Table 05-4 that it has
reached, the drop cause of each position (0 for one of the running set, 5 for one left out with no drop), the angle set, the observer decision (position, class). DESIGN CHOICE
(log entry 123). -/
structure StageNews where
  /-- Place of the boundary (`State.boundaryPlace`). -/
  k : Nat := 0
  state : UState := .disabled
  step : Nat := 0
  drops : List Nat := []
  angleSet : Nat := 0xFF
  decision : Option (Nat × Nat) := none
  /-- Positions whose substitution has ended since the message before (R195, R198). -/
  ends : List Nat := []
  /-- The active has found the capacity of the remaining phases short (R197). -/
  short : Bool := false
  deriving DecidableEq, Repr

/-- One stage st0 to st7 (R141 to R174). -/
structure Stage where
  /-- `state` of the status word (Table 01-6); the stage is stopped unless starting, running or degraded. SPEC disabled -/
  state : UState := .disabled
  /-- Tracking messages that wait for the boundary they name, oldest first (R351). -/
  news : List StageNews := []
  /-- The phases' share trims in force, latched at the last carrier boundary (R24, R205). SPEC all 0 -/
  trims : List Rat := []
  /-- Step of Table 05-4 the start has reached, 0 when none runs (R158). -/
  startStep : Nat := 0
  /-- Carrier boundaries seen since the start was accepted (R158). -/
  startBounds : Nat := 0
  /-- A start request held by an offset measurement (R92). -/
  startHeld : Bool := false
  /-- A start request that a rail or a string join has made and that waits. -/
  startWanted : Bool := false
  /-- A stop waits for the next carrier boundary (R161). -/
  stopPending : Bool := false
  /-- 0x3n00:07 `StageCommand` as last accepted. SPEC 0 -/
  command : Nat := 0
  /-- V_low and V_high of step 2 and d0 (0x3n00:0D). SPEC 0.0 -/
  vLow : BitVec 32 := 0
  vHigh : BitVec 32 := 0
  d0 : BitVec 32 := 0
  /-- Soft start: value of the ramp, its rate per s, and its last instant (R160). -/
  ramp : Rat := 0
  rampRate : Rat := 0
  rampAt : Nat := 0
  rampOn : Bool := false
  /-- Stage setpoint in force and the one waiting for the boundary (R24, R119). -/
  setpoint : BitVec 32 := 0
  setpointNext : BitVec 32 := 0
  /-- Carrier boundaries since the start pulse, and the tick of the last. -/
  boundary : Nat := 0
  boundaryTick : Nat := 0
  /-- 0x3n00:0A `AngleSet`. SPEC 0xFF -/
  angleSet : Nat := 0xFF
  /-- The running set has changed and its angle set waits for a boundary (R155), and the tick of the decision. -/
  releavePending : Bool := false
  releaveAt : Nat := 0
  /-- `reinterleaving` (R155). -/
  reinterleaving : Bool := false
  /-- Bollard hold engaged, and since when (R171). -/
  hold : Bool := false
  holdSince : Nat := 0
  /-- Band in force (R150) and the band that waits. SPEC - -/
  band : Nat := 0
  bandNext : Nat := 0
  /-- Dead-time words in force, by band (R150). -/
  deadTimes : List Nat := List.replicate 8 0
  /-- Breakwater bindings in force (R162). -/
  bindings : List Nat := List.replicate 4 0
  /-- Status bits kept for a period (R174). -/
  bwAny : Bool := false
  fenderAny : Bool := false
  prebias : Bool := false
  estop : Bool := false
  /-- 0x3n06:01, :02 (R165). SPEC 0.0 -/
  fenderVolts : Rat := 0
  fenderLimit : Rat := 0
  /-- Offset o_p of the first phase is 0; the stage's phases that switch are kept by phase. -/
  shedBits : Nat := 0
  deriving DecidableEq, Repr

/-- One phase ph0 to ph23 (R144 to R172). -/
structure Phase where
  /-- 0x38nn:04 `PhaseEnable`. SPEC 1 -/
  enable : Bool := true
  /-- `dropped` and 0x38nn:05 `DropCause`. SPEC 0 -/
  dropped : Bool := false
  dropCause : Nat := 0
  /-- The phase is part of the running interleave of its stage (R143). -/
  inSet : Bool := false
  /-- Outputs enabled (R158 step 4, R157). SPEC low -/
  outOn : Bool := false
  /-- The phase returns at its next load point (R157). -/
  returning : Bool := false
  /-- The angle set that the return asked for has not been latched yet (R155, R157). -/
  awaitsSet : Bool := false
  /-- Shadow register, and the tick of its last write (R146). -/
  shadow : BitVec 32 := 0
  shadowAt : Nat := 0
  /-- The value that the shadow held before that write, taken when it came too late (R146). -/
  shadowOld : BitVec 32 := 0
  /-- 0x38nn:06 `Duty`, loaded at the last load point. SPEC 0.0 -/
  duty : BitVec 32 := 0
  /-- 0x38nn:07 `HoldDuty` (R170). SPEC 0.0 -/
  holdDuty : BitVec 32 := 0
  /-- T_on of the period, fine steps (R144). -/
  tOn : Nat := 0
  /-- Edges of H_cmd in the period, fine steps from the load point: on and off (R145). -/
  hOn : Nat := 0
  hOff : Nat := 0
  /-- Length of the period in ticks (P, or P + Δ in a transition) (R155). -/
  period : Nat := 0
  /-- 0x38nn:08 `PhaseOffset` in force, and the offset it moves to. SPEC 0 -/
  offset : Nat := 0
  offsetNext : Nat := 0
  /-- `angle_moving`: a transition period runs (R155). -/
  moving : Bool := false
  /-- Dead times of the period, fine steps: rising high, rising low (R150). -/
  tLH : Nat := 0
  tHL : Nat := 0
  /-- The tick of the last load point, and of the last enable of the outputs (R142, R149). -/
  loadAt : Nat := 0
  onAt : Nat := 0
  /-- T_on is the whole carrier period: H_cmd stays on (R145). -/
  allOn : Bool := false
  /-- H_cmd at the end of the period before, and the fine step, counted from tick 0, of its last change (R149). -/
  hPrev : Bool := false
  chgPrev : Nat := 0
  /-- Truncations of the present period, in order: fine step, counted from tick 0, and action (R163, R165). -/
  cuts : List (Nat × Nat) := []
  /-- Verdicts of R151, oldest first: from a fine step on, counted from tick 0, a pulse of `PHn_H`, or of `PHn_L`, that begins is not produced. -/
  drops : List (Nat × Bool × Bool) := []
  /-- Truncations in the present period: action 1, action 2, both off, by the breakwater or the fender (R163, R166). -/
  endHigh : Bool := false
  endLow : Bool := false
  bothOff : Bool := false
  /-- `bw_trunc`, `fender_trunc`, `pulse_dropped` of the period (R174). -/
  bwTrunc : Bool := false
  fenderTrunc : Bool := false
  pulseDropped : Bool := false
  /-- Run of truncated periods (R163). -/
  bwRun : Nat := 0
  /-- 0x38nn:0B, :0C, :0D. SPEC 0 -/
  bwCount : Nat := 0
  fenderCount : Nat := 0
  pulseDrops : Nat := 0
  /-- `tick_only` (R147). -/
  tickOnly : Bool := false
  /-- Load points since the last commit, and a commit has come since the last load point (R171). -/
  missedCommits : Nat := 0
  committed : Bool := false
  /-- The phase is in bollard hold (R171, R172). -/
  hold : Bool := false
  /-- Load points of the fender-truncated periods of the last 10 ms, newest first (R197). -/
  fenderTicks : List Nat := []
  deriving DecidableEq, Repr

end Sys2Proof.Machine
end

