-- ==== Sys2Proof/Types/Strings.lean ====
section
/-! DEFINITION. Plain data types of battery strings and their estimators (chapter 08). -/
namespace Sys2Proof.Machine

/-- One 1 ms mean of a string's current and voltage (R243, R249). -/
structure MsMean where
  i : Rat := 0
  v : Rat := 0
  /-- The mean of |I| (R243, R283). -/
  a : Rat := 0
  /-- The interval held a valid sample of the current, of the voltage. -/
  hasI : Bool := false
  hasV : Bool := false
  /-- Every sample was valid and no slack-water window ramped (R249). -/
  valid : Bool := false
  /-- The stage was RUNNING or DEGRADED (R249). -/
  runs : Bool := false
  deriving DecidableEq, Repr

/-- The estimator's state of one string (R242). -/
structure Estimator where
  /-- SoC_i and SoC_r in %. -/
  soc : Rat := 0
  socR : Rat := 0
  /-- U_c in %. DESIGN CHOICE (log entry 157): a string that no copy, anchor or replacement has set starts with it at its ceiling of 50. -/
  uc : Rat := 50
  /-- U_u in %. -/
  uu : Rat := 0
  /-- The uncertainty by the voltage, where there is one (R242). -/
  uv : Option Rat := none
  /-- The voltages of the two RC elements in V. -/
  v1 : Rat := 0
  v2 : Rat := 0
  /-- Q in A·s and the three resistances in Ω. SPEC image -/
  q : Rat := 0
  r0 : Rat := 0
  r1 : Rat := 0
  r2 : Rat := 0
  /-- The open-circuit voltage that the loaded voltage gives and its uncertainty, and I, V and T of the last step (R242, R243). -/
  ocvL : Rat := 0
  uOcv : Rat := 0
  i : Rat := 0
  v : Rat := 0
  temp : Rat := 0
  /-- Limits of discharge and of charge. -/
  disLim : Rat := 0
  chgLim : Rat := 0
  /-- Samples gathered since the last step: sums and counts (R242). -/
  iSum : Rat := 0
  iCnt : Nat := 0
  vSum : Rat := 0
  vCnt : Nat := 0
  lastI : Rat := 0
  /-- The stretch without a valid current sample in progress (R242): where it began and up to where it has been counted; and of the step so far, the ticks
  in such stretches, their charge, and the part of it that the window's reference gave, A·s. -/
  gap : Option Nat := none
  gapTo : Nat := 0
  gapTicks : Nat := 0
  gapQ : Rat := 0
  gapRef : Rat := 0
  /-- Samples gathered since the last 1 ms boundary: start, sums, counts, and whether every one was valid (R243, R249). -/
  msFrom : Nat := 0
  msI : Rat := 0
  msAbs : Rat := 0
  msICnt : Nat := 0
  msV : Rat := 0
  msVCnt : Nat := 0
  msOk : Bool := true
  /-- Tick of the last valid temperature (R262). -/
  tempAt : Nat := 0
  /-- Tick from which the string's inputs are judged: the start of SNS (R262). -/
  inputsFrom : Nat := 0
  /-- Tick of the last valid current / voltage sample, and of the last step. -/
  iAt : Nat := 0
  vAt : Nat := 0
  stepAt : Nat := 0
  /-- 1 Hz rate in force, and time of |I| below 0.01 C in ms (R243). -/
  lowRate : Bool := false
  quietMs : Nat := 0
  /-- The last 1 ms means, newest first (R243, R249). -/
  means : List MsMean := []
  /-- The string has been anchored since `StringReplaced` (R247). -/
  anchored : Bool := false
  /-- Anchor age in s at `anchorAt`, `LastAnchorSoc`, net charge since the anchor. -/
  anchorAge : Nat := 0
  anchorAt : Nat := 0
  lastAnchor : Rat := 0
  sinceAnchor : Rat := 0
  unanchored : Bool := false
  unanchoredAt : Nat := 0
  /-- Tick since which the rest condition of R246 has held, and the voltage 60 s history (tick, v), newest first. -/
  restSince : Option Nat := none
  vHist : List (Nat × Rat) := []
  /-- Ends: verdict in force, debounce since, net charge since the verdict (R248, R255). -/
  endDis : Bool := false
  endChg : Bool := false
  disSince : Option Nat := none
  chgSince : Option Nat := none
  sinceDis : Rat := 0
  sinceChg : Rat := 0
  /-- The steps of the last 60 s for the C-rate c: (end, length in ticks, A), newest first (R255). -/
  iHist : List (Nat × Nat × Rat) := []
  /-- Disagreement in force, its count, the last one in %, and the verdicts at each end counted (R256, R257). -/
  disagree : Bool := false
  disCount : Nat := 0
  lastDis : Rat := 0
  endDisCount : Nat := 0
  endChgCount : Nat := 0
  deriving DecidableEq, Repr

/-- Phases of a slack-water window (0x5s06:06, Table 08-1). -/
inductive Slack where
  | none | requested | rampDown | rest | rampUp | complete | aborted | refused
  deriving DecidableEq, Repr

/-- What the steps taken during a probe change, as it stood when the probe began (R251). -/
structure ProbeMark where
  r : List Rat := [0, 0, 0]
  rejected : Nat := 0
  rejectRun : List Nat := [0, 0, 0]
  steps : List Nat := [0, 0, 0]
  stepAt : List Nat := [0, 0, 0]
  deriving DecidableEq, Repr

/-- One MRAM copy of a string's estimator, counters and impedance (R260). -/
structure EstCopy where
  /-- Commit number, 0 where none has been made; made at the end of DESCENT. -/
  seq : Nat := 0
  atEnd : Bool := false
  /-- The copy's CRC-32 (R65). -/
  crc : BitVec 32 := 0
  /-- The estimator and the counters as committed (R260). -/
  est : Estimator := {}
  eOut : Rat := 0
  eIn : Rat := 0
  qOut : Rat := 0
  rejected : Nat := 0
  rejectRun : List Nat := [0, 0, 0]
  steps : List Nat := [0, 0, 0]
  probeCount : Nat := 0
  slackDone : Nat := 0
  slackAborts : Nat := 0
  slackRefusals : Nat := 0
  deriving DecidableEq, Repr

/-- A slack-water window as the active tells it to its twin (R261). -/
structure SlackNews where
  slack : Slack := .none
  slackFrom : Nat := 0
  slackByCharger : Bool := false
  slackI0 : Rat := 0
  slackUpFrom : Nat := 0
  slackUpI0 : Rat := 0
  pPlus : Rat := 0
  pMinus : Rat := 0
  /-- What the steps of its probe change, as it stood when the probe began (R251). -/
  probeMark : ProbeMark := {}
  probeState : Nat := 0
  deriving DecidableEq, Repr

/-- One string s0 to s7 (R239 to R263, R52). -/
structure Str where
  est : Estimator := {}
  /-- Further counters of the string: discharged and charged energy in J, discharged charge in A·s. SPEC 0 -/
  eOut : Rat := 0
  eIn : Rat := 0
  qOut : Rat := 0
  /-- 0x5s05:08 to :0B. SPEC 0 -/
  rejected : Nat := 0
  rejectRun : List Nat := [0, 0, 0]
  steps : List Nat := [0, 0, 0]
  /-- Tick of the last accepted step by scale (R251). -/
  stepAt : List Nat := [0, 0, 0]
  /-- Precharge, contactor commands and the aux feedback; since when each changed. SPEC inactive -/
  precharging : Bool := false
  prechargeDone : Bool := false
  prechargeWaiting : Bool := false
  prechargeFrom : Nat := 0
  contactor : Bool := false
  contactorAt : Nat := 0
  openedAt : Nat := 0
  connected : Bool := false
  /-- The aux contact reads closed, as last reported. -/
  auxClosed : Bool := false
  /-- A SHED of the string is in force, since when (R262). -/
  shed : Bool := false
  shedAt : Nat := 0
  /-- Inputs invalid marks: current fallback in force, temperature held (R262). -/
  curBad : Bool := false
  /-- Tick since which every current sample has been valid (R262). -/
  curOkSince : Option Nat := none
  tempBad : Bool := false
  /-- Probe: state, count, sign of the next (R251). SPEC 0 -/
  probeState : Nat := 0
  probeCount : Nat := 0
  probeNeg : Bool := false
  /-- What the steps of the probe in progress change, as it stood when it began (R251). -/
  probeMark : ProbeMark := {}
  /-- Slack-water window (R252, R253). -/
  slack : Slack := .none
  slackFrom : Nat := 0
  slackByCharger : Bool := false
  slackI0 : Rat := 0
  slackUpFrom : Nat := 0
  slackUpI0 : Rat := 0
  pPlus : Rat := 0
  pMinus : Rat := 0
  marginBadSince : Option Nat := none
  slackDone : Nat := 0
  slackAborts : Nat := 0
  slackRefusals : Nat := 0
  refusedSince : Option Nat := none
  lastAuto : Option Nat := none
  /-- The two MRAM copies of R260. -/
  savedA : EstCopy := {}
  savedB : EstCopy := {}
  /-- The active's estimator state, taken at the next step (R261). -/
  estNews : Option Estimator := none
  /-- A wake from MOORED after `RestTime` still has its rest point to take (R246). -/
  wakeRest : Bool := false
  deriving DecidableEq, Repr

end Sys2Proof.Machine
end

