-- ==== Sys2Proof/Types/Messages.lean ====
section
/-! DEFINITION. Plain data types of messages of the Kopol link (chapter 12). -/
namespace Sys2Proof.Machine

/-- The header of a frame as it arrives (R339, Table 12-1). -/
structure FrameHead where
  type : Nat := 0
  /-- The last frame of its message; a copy sent on both lanes. -/
  last : Bool := true
  both : Bool := false
  /-- Payload bytes. -/
  length : Nat := 0
  seq : Nat := 1
  deriving DecidableEq, Repr

/-- An election frame as it arrives (R347): its header, whether its CRC-32 matches, the frozen score. -/
structure ElectionFrame where
  hd : FrameHead := {}
  crcOk : Bool := true
  score : Nat := 0
  deriving DecidableEq, Repr

/-- Integrator states of one instance in an alignment message (R352): (lp, state index, value). -/
structure AlignItem where
  lp : Nat := 0
  idx : Nat := 0
  val : BitVec 32 := 0
  deriving DecidableEq, Repr

/-- A tracking message (Table 12-5). -/
inductive TrackMsg where
  /-- A stage at the carrier boundary named: started, dropped phases, angle set, observer decision (position, class) (R143, R198). -/
  | stage (st : Nat) (news : StageNews)
  | pg (n : Nat) (g : Pg)
  | rc (n : Nat) (phase period : Rat)
  /-- The manager's state and the slack-water windows of its strings (R226, R261). -/
  | spm (m : Spm) (windows : List SlackNews)
  | estimator (str : Nat) (e : Estimator)
  | charger (str : Nat) (c : Charger)
  /-- The progress of a black start (R281, R350). -/
  | blackstart (d : Dead)
  /-- PTP time of the holder, in units of 2.5 ns. -/
  | ptp (tai : Nat)
  deriving DecidableEq, Repr

/-- A state snapshot (R350). -/
structure Snapshot where
  periodIndex : Nat := 0
  /-- States and last output of each instance. -/
  insts : List (List (BitVec 32) × BitVec 32) := []
  /-- Generators, controllers, observers, the manager, slack-water windows, estimators, chargers, black start (R350). -/
  pgs : List Pg := []
  rcs : List Rc := []
  obs : List Observer := []
  spm : Spm := {}
  windows : List SlackNews := []
  ests : List Estimator := []
  chargers : List Charger := []
  dead : Dead := {}
  /-- State, step, running set and angle set of each stage (R143). DESIGN CHOICE (log entry 123). -/
  stages : List StageNews := []
  /-- Pair-common values by object key. -/
  common : List (Nat × List (BitVec 8)) := []
  digest : List (BitVec 8) := []
  manifest : Nat := 0
  deriving DecidableEq, Repr

/-- What a frame of class 2 to 5 carries. The frames of an image transfer have their contents in the image's slot (log entry 51). -/
inductive KopolBody where
  | track (m : TrackMsg)
  | align (k : Nat) (items : List AlignItem)
  /-- R367; the period index, the object's key, its value. -/
  | mirror (k key : Nat) (data : List (BitVec 8))
  | snapshot (p : Snapshot)
  | image
  deriving DecidableEq, Repr

/-- A frame sent and not yet acknowledged (R339, R341): its number, its last send tick, its payload bytes, whether it is the last of its message, and the
message that it carries whole or in part. -/
structure SentFrame where
  seq : Nat := 0
  at_ : Nat := 0
  length : Nat := 0
  last : Bool := true
  body : KopolBody := .image
  deriving DecidableEq, Repr

end Sys2Proof.Machine
end

