-- ==== Sys2Proof/Types/Modes.lean ====
section
/-! DEFINITION. Plain data types of modes, regions, supply and counters (chapter 02). -/
namespace Sys2Proof.Machine

/-- The twelve modes (R38, Table 02-1). -/
inductive Mode where
  | pilot | boot | layup | moored | rise | track | active | holdup | blackstart | service | descent | lockout
  deriving DecidableEq, Repr

/-- The ten regions (R18, Table 01-2). -/
inductive Region where
  | ao | sup | eng | pwm | sns | sadc | net | mem | nvm | pair
  deriving DecidableEq, Repr

/-- The six region states of Table 02-4 (R39). -/
inductive RegionState where
  | on | hold | safe | ret | duty | off
  deriving DecidableEq, Repr

/-- Where the supply sequence stands (R61 to R68). -/
inductive SupplyPhase where
  /-- POR is asserted: VAO is below its threshold (R21, R333). -/
  | por
  /-- POR is released, a warning keeps the controller in AO (R68). -/
  | waiting
  /-- A start has run and the supply is good. -/
  | running
  /-- The last-breath sequence has run after a power-fail warning (R63 step 6). -/
  | afterWarning
  /-- The last-breath sequence has run after `RST_N` (R67). -/
  | afterRst
  deriving DecidableEq, Repr

/-- One of the two MRAM copies of the counter block (R65). -/
structure CounterCopy where
  /-- Commit number, 0 where none has been made: the newer copy is the one with the larger number (R65). -/
  seq : Nat := 0
  /-- The copy's CRC-32 (R65). -/
  crc : BitVec 32 := 0
  /-- Operating time at the commit, in ms (R63 step 3, 0x2300:01). -/
  opTime : Nat := 0
  /-- Power-cycle count at the commit (R63 step 3). -/
  cycles : Nat := 0
  /-- Logbook drop counters at the commit, by class (R63 step 3). -/
  drops : List Nat := List.replicate 6 0
  /-- Per-feed energies at the commit, in mWs, forward then reverse for each feed (R63 step 3). -/
  energy : List Int := List.replicate 8 0
  /-- Per-rail event counters at the commit, six for each rail (R63 step 3, R303). -/
  railEvents : List Nat := List.replicate 192 0
  deriving DecidableEq, Repr

/-- Supply, POR and last-breath state (R61 to R71). -/
structure Supply where
  /-- Phase of the supply (R21, R61, R63, R67). SPEC .por -/
  phase : SupplyPhase := .por
  /-- Tick of the last POR release, from which the milestones count (R51). -/
  porTick : Nat := 0
  /-- A qualified power-fail warning is present (R61). -/
  warn : Bool := false
  /-- `RST_N` is low (R67). -/
  rstLow : Bool := false
  /-- 0x2103:03 `LastBreathResult` as this start reports it (Table 02-3). -/
  result : BitVec 8 := 0
  /-- 0x2103:04 `LastBreathTime` in µs as this start reports it. -/
  time : Nat := 0
  /-- The result word stored for the next start, in MRAM (R63 step 5). -/
  nextResult : BitVec 8 := 0
  /-- The time stored for the next start, in MRAM (R63 step 5). -/
  nextTime : Nat := 0
  /-- 0x2103:05 `PfwEvents`, since manufacture, in MRAM. -/
  pfwEvents : Nat := 0
  /-- 0x2103:06 `TornRecords`, since manufacture, in MRAM (R70). -/
  torn : Nat := 0
  /-- A last-breath counter commit ended the previous cycle (R65). -/
  countersDone : Bool := false
  /-- Power-cycle count, AO (R51, R66). -/
  cycles : Nat := 0
  /-- Operating time in ms as of `opTick`, AO (R65, 0x2300:01). -/
  opTime : Nat := 0
  /-- The operating-time counter is valid (R65). -/
  opValid : Bool := true
  /-- Tick to which `opTime` belongs. -/
  opTick : Nat := 0
  /-- The two MRAM counter copies (R65). -/
  copyA : CounterCopy := {}
  copyB : CounterCopy := {}
  /-- `BootHold`, stored in MRAM (0x2101:04). SPEC 0 -/
  bootHold : Nat := 0
  /-- The stored lay-up flag, in MRAM (R282, Table 02-5). -/
  layupFlag : Bool := false
  /-- `SIDE` as sampled: true is side B (R31, R499). -/
  sideB : Bool := false
  /-- `LEGACY` strap as sampled (R499). -/
  legacyStrap : Bool := false
  deriving DecidableEq, Repr

/-- What starts when a RISE is wanted while the restart hold-off runs (R301). -/
structure ModeState where
  /-- 0x2100:01 `CurrentMode` (R38). -/
  mode : Mode := .boot
  /-- 0x2100:02 `PreviousMode`. SPEC 0x01 -/
  prev : Nat := 1
  /-- 0x2100:03 `ModeCause` (R43, Table 02-5). -/
  cause : Nat := 0
  /-- Tick of the last transition; 0x2100:04 counts from it. -/
  since : Nat := 0
  /-- SERVICE is being left, with the outcome of DRAM training of the start that follows (R302). -/
  leaving : Option Nat := none
  /-- Start-up step last completed, 0 to 9 (R51, Table 02-6). -/
  step : Nat := 0
  /-- 0x2102:01 to :09, milestones in µs. SPEC 0xFFFFFFFF -/
  milestones : List Nat := List.replicate 9 0xFFFFFFFF
  /-- 0x2101:01 `ModeRequest`. SPEC 0xFF -/
  req : Nat := 0xFF
  /-- 0x2101:02 `ModeRequestStatus` (R517). SPEC 0 -/
  reqStatus : Nat := 0
  /-- Target of the descent in force (R44, R48). -/
  descentTo : Mode := .moored
  /-- The descent in force follows a TRIP, as a lay-up must know (R48). -/
  descentByTrip : Bool := false
  /-- The descent programs have started (R298). -/
  descentPrograms : Bool := false
  /-- Dictionary online (R51 step 4). -/
  online : Bool := false
  /-- Discovery has completed on every enabled port (R55). -/
  discovered : Bool := false
  /-- Tick of start-up step 6 (R55, R251). -/
  step6 : Nat := 0
  /-- Tick at which the last descent completed, from which the restart hold-off runs (R301). -/
  holdoffFrom : Option Nat := none
  /-- A trigger for RISE waits for the hold-off, with its cause (R301). -/
  riseWaiting : Option Nat := none
  /-- The lockout latch of AO (R50). SPEC false -/
  lockoutLatch : Bool := false
  /-- 0x22xx `LockoutCause`, AO (R332, R333). SPEC 0 -/
  lockoutCause : Nat := 0
  /-- A TRIP reaction is wanted, with its source (R48). -/
  pendingTrip : Option Nat := none
  /-- A LOCKOUT reaction is wanted, with its source (R332). -/
  pendingLockout : Option Nat := none
  /-- `TRIP_N` is asserted by a TRIP reaction until the next entry to RISE (R169). -/
  tripInForce : Bool := false
  /-- The level `TRIP_N` is driven to: true is asserted, low (R169). SPEC true -/
  tripDriven : Bool := true
  /-- `ESTOP_N` is qualified low (R168). -/
  estopLow : Bool := false
  /-- RISE has been entered since (R168), and the tick of the last difference of `TRIP_N` (R169). -/
  estopRose : Bool := false
  tripBadAt : Nat := 0
  /-- Wake cause being served in MOORED (R57). -/
  wakeServed : Nat := 0
  /-- Port and tick of each two-wire match whose stretch runs (R59). -/
  stretchFrom : List (Nat × Nat) := []
  /-- Tick of the last CAN frame to the node after a CAN wake (R388). -/
  canAwakeSince : Option Nat := none
  /-- Tick at which the AO wake timer was armed (R57). -/
  wakeTimerFrom : Option Nat := none
  /-- States of the ten regions, in code order (R39). SPEC AO on, the others held in reset (R21) -/
  regions : List RegionState := [.on, .hold, .hold, .hold, .hold, .hold, .hold, .hold, .hold, .hold]
  deriving DecidableEq, Repr

end Sys2Proof.Machine
end

