-- ==== Sys2Proof/Types/Pair.lean ====
section
/-! DEFINITION. Plain data types of the Kopol link and the pair (chapter 12). -/
namespace Sys2Proof.Machine

/-- The 32-byte heartbeat payload (Table 12-3). -/
structure Heartbeat where
  tickStamp : Nat := 0
  hbSeq : Nat := 0
  mode : Nat := 0xFF
  drives : Bool := false
  trackReady : Bool := false
  orderly : Bool := false
  offer : Bool := false
  accept : Bool := false
  eligible : Bool := false
  locked : Bool := false
  health : Nat := 0
  reason : Nat := 0
  bands : List Nat := List.replicate 8 0
  /-- Gate, contactor and precharge commands. -/
  gates : List Bool := List.replicate 4 false
  contactors : List Bool := List.replicate 8 false
  precharges : List Bool := List.replicate 8 false
  stagesOn : List Bool := List.replicate 8 false
  periodIndex : Nat := 0
  ack : List Nat := [0, 0, 0, 0]
  supLive : Nat := 0
  /-- Target of an orderly descent. The follower takes it (R47); the spec names no field that carries it. -/
  target : Nat := 3
  deriving DecidableEq, Repr

/-- Kopol link and pair state (R338 to R370). -/
structure Pair where
  /-- Lanes up. SPEC down -/
  lanes : List Bool := [false, false]
  /-- Own frame sequence numbers by class 1 to 5, and the last received in order (R339, R341). -/
  txSeq : List Nat := List.replicate 5 0
  rxSeq : List Nat := List.replicate 5 0
  /-- A frame of the class has come since the link came up; the first sets the sequence. DESIGN CHOICE (log entry 160). -/
  rxSync : List Bool := List.replicate 5 false
  /-- Frames sent and not acknowledged, by class 2 to 5, oldest first (R341). -/
  unacked : List (List SentFrame) := List.replicate 4 []
  /-- What the holder has told the twin last, by stage, by string and by charger channel (marks, and when), of the black start (Table 12-5). -/
  told : List StageNews := List.replicate 8 {}
  toldMarks : List (List Nat) := List.replicate 8 []
  toldChargers : List (List Nat × Nat) := List.replicate 8 ([], 0)
  toldDead : Dead := {}
  /-- Frames sent again (R341). -/
  retransmits : Nat := 0
  /-- 0x2500:14, :13. SPEC 0 -/
  linkErrors : Nat := 0
  hbMisses : Nat := 0
  /-- Link delay in ticks (R338). SPEC 0 -/
  linkDelay : Rat := 0
  /-- Heartbeat number of the last sent, and the last heartbeat sent. -/
  hbSeq : Nat := 0
  lastSent : Heartbeat := {}
  /-- The last good heartbeat, its tick, whether one has come since start, expected tick of the next and misses in a row. -/
  twin : Heartbeat := {}
  twinSeen : Bool := false
  twinAt : Nat := 0
  twinExpect : Nat := 0
  missRun : Nat := 0
  /-- `sup_live` of this side (R344), of the last heartbeat received whose CRC was good, and the cores of this side have stalled (R357). -/
  supLive : Nat := 0
  heardLive : Option Nat := none
  supStalled : Bool := false
  /-- Health, frozen score and the twin's frozen score (R346, R347). -/
  health : Nat := 255
  frozen : Option Nat := none
  twinScore : Option Nat := none
  electionDone : Bool := false
  /-- The controller drives `OWN_N` (R354). SPEC false -/
  owns : Bool := false
  /-- Level of the `OWN_N` net as the pin reads it: true is high, released. -/
  netHigh : Bool := true
  /-- The tick at which the net became high, as this side knows it. -/
  netHighAt : Nat := 0
  /-- `release_reason` of this side, and 0x2500:0A. SPEC 0 -/
  reason : Nat := 0
  lastReason : Nat := 0
  /-- `release_reason` of the last heartbeat received whose CRC was good (R358, R361). -/
  heardReason : Nat := 0
  /-- Tick of a self-release whose outputs still run (R357), or of a handover release. -/
  selfRelease : Option Nat := none
  /-- Self-release whose TRIP waits for the cores (R357). -/
  tripOnResume : Bool := false
  /-- `track_ready`, clock locked, trim in ppb, errors in range / out of range, lock error in ticks (R349). -/
  trackReady : Bool := false
  locked : Bool := false
  lockGood : Nat := 0
  lockBad : Nat := 0
  lockError : Rat := 0
  trim : Rat := 0
  /-- Snapshot: fragments held, whether one has been applied, start tick, 0x2500:11 in ticks. -/
  fragments : Nat := 0
  snapApplied : Bool := false
  snapFrom : Nat := 0
  snapTime : Nat := 0
  /-- Messages that came before the snapshot, with the period index of the heartbeat after them, none as long as that has not come: they are applied after
  the snapshot (R350). SPEC empty -/
  early : List (Option Nat × KopolBody) := []
  /-- A snapshot that came before ENG ran: it is applied when ENG runs (R350). -/
  snapHeld : Option Snapshot := none
  /-- A snapshot for the twin waits for the carrier boundary of `ref_stage`, or has been sent at this period index. -/
  snapWanted : Bool := false
  snapSentAt : Option Nat := none
  /-- Tick at which the last snapshot was sent (R350). -/
  snapTick : Nat := 0
  /-- 0x2500:07, :08. SPEC 0 -/
  hoRequest : Bool := false
  hoState : Nat := 0
  hoFrom : Nat := 0
  /-- This side, as standby, accepts the handover that the holder offers (R363 step 2). -/
  hoAccept : Bool := false
  /-- Digest of the configuration image that the last snapshot received named (R350, R355). -/
  twinDigest : List (BitVec 8) := []
  /-- The twin, following, has accepted this side's snapshot: the digests match (R350, R355). -/
  twinAccepted : Bool := false
  /-- 0x2500:0B, :0C, :18. SPEC 0 -/
  takeovers : Nat := 0
  lastGap : Nat := 0
  dualClaims : Nat := 0
  /-- 0x2500:0F, :10. SPEC 0 -/
  alignCorr : Nat := 0
  alignMax : Rat := 0
  /-- Own integrator states of the last 16 periods, newest first: (period index, states) (R352). -/
  ownStates : List (Nat × List AlignItem) := []
  /-- Last alignment message sent. -/
  lastAlign : List AlignItem := []
  alignIndex : Nat := 0
  /-- Tick of the last alignment message sent (R352). -/
  alignAt : Option Nat := none
  /-- Mirror writes received that wait for their period: (period index, object key, bytes). -/
  mirrorWaiting : List (Nat × Nat × List (BitVec 8)) := []
  /-- `period_index` of this side: carrier boundaries of `ref_stage` since the start pulse. -/
  periodIndex : Nat := 0
  /-- 0x2500:17 in ns (R365). SPEC 0 -/
  timeOffset : Rat := 0
  /-- Samples whose frame held bits of this interval are invalid (R361): from, to. -/
  invalidFrom : Nat := 0
  invalidTo : Nat := 0
  /-- `heartbeat lost` and `twin absent` conditions. -/
  hbLost : Bool := false
  /-- Consecutive die-to-die failures (R20). -/
  d2dRun : Nat := 0
  /-- Levels of gate, contactor and precharge commands last received from the active (R351, R360). -/
  holdGates : List Bool := List.replicate 4 false
  holdContactors : List Bool := List.replicate 8 false
  holdPrecharges : List Bool := List.replicate 8 false
  deriving DecidableEq, Repr

end Sys2Proof.Machine
end

