-- ==== Sys2Proof/Types/Partners.lean ====
section
/-! DEFINITION. Plain data types of two-wire ports, berths and scripts (chapter 14). -/
namespace Sys2Proof.Machine

/-- A partner found on a bus (R415, R416): port, address, UDID, and what its arrival reads. -/
structure Arrival where
  port : Nat := 0
  /-- A device that answers Get UDID; else a fixed partner that acknowledges its probe. -/
  arp : Bool := true
  /-- The fixed partner's address, or the address that a device of fixed address type answers with. -/
  addr : Nat := 0
  udidHigh : Nat := 0
  udidLow : Nat := 0
  voutMode : Nat := 0
  capability : Nat := 0
  /-- The reads of VOUT_MODE and of CAPABILITY succeed (R418). -/
  voutReads : Bool := true
  capReads : Bool := true
  deriving DecidableEq, Repr

/-- A queued command to a berth (R426): code, bytes or word, width 0 send 1 byte 2 word, 3 read byte 4 read word, rank, failures. -/
structure PCmd where
  berth : Nat := 0
  code : Nat := 0
  proto : Nat := 0
  data : Nat := 0
  rank : Nat := 2
  host : Bool := false
  fails : Nat := 0
  deriving DecidableEq, Repr

/-- Values a run works on and commits (R420). -/
structure RunVals where
  w : List Nat := List.replicate 8 0
  block : List (BitVec 8) := []
  readings : List (BitVec 32) := List.replicate 8 0
  /-- fault, output on, power good. -/
  flags : List Bool := List.replicate 3 false
  deriving DecidableEq, Repr

/-- One berth b0 to b63 (R415 to R431). -/
structure Berth where
  present : Bool := false
  /-- Arrival in progress: its run is the arrival run. -/
  arriving : Bool := false
  /-- A discovery or a scan has found a partner for the berth, and its arrival has not completed (R54). -/
  awaited : Bool := false
  /-- UDID of the device that the berth holds (R418). -/
  udidHigh : Nat := 0
  udidLow : Nat := 0
  /-- UDID of the device that is arriving; the berth stores it at the END of its arrival run (R418). -/
  found : Option (Nat × Nat) := none
  /-- VOUT_MODE and CAPABILITY as read at the arrival, PEC in use, and the values of the last committed run (R418, R424). -/
  voutMode : Nat := 0
  capability : Nat := 0
  pec : Bool := false
  vals : RunVals := {}
  /-- A committed run has written Reading7 (R425). -/
  hasOffer : Bool := false
  committedAt : Nat := 0
  arrivedAt : Nat := 0
  /-- The next due tick of the grid, and whether a due run waits since a tick (R420). -/
  dueAt : Nat := 0
  due : Bool := false
  dueSince : Nat := 0
  /-- The due time of an interrupted run, which restarts from its first word (R408). -/
  redo : Option Nat := none
  /-- The partner reported its output on at its arrival (R54). -/
  onAtArrival : Bool := false
  alert : Bool := false
  stale : Bool := false
  failRun : Nat := 0
  /-- Last written PAGE. -/
  page : Option Nat := none
  /-- 0x49bb:20 to :24, :26, :27. SPEC 0 -/
  runs : Nat := 0
  fails : Nat := 0
  pecs : Nat := 0
  arrivals : Nat := 0
  departures : Nat := 0
  hostStatus : Nat := 0
  hostResult : Nat := 0
  /-- Level of the presence pin: true is low, present. -/
  pinLow : Bool := false
  deriving DecidableEq, Repr

/-- A transaction that addressed a busy target and is held by a stretch (R413). -/
inductive TargetMsg where
  | notify (addr data : Nat)
  | write (cmd : Nat) (data : List (BitVec 8)) (pecOk : Bool)
  | read
  deriving DecidableEq, Repr

/-- One run in progress on a port (R420). -/
structure Run where
  berth : Nat := 0
  pc : Nat := 0
  vals : RunVals := {}
  /-- Reading7 has been written in this run. -/
  offer : Bool := false
  arrival : Bool := false
  /-- The due time of the run, by which it takes its turn again when it is interrupted (R408). -/
  due : Nat := 0
  /-- An alert or a Host Notify of its berth has come while the run was open: the next run is the one moved forward (R412, R417). -/
  alerted : Bool := false
  /-- Tick at which a WAIT of the run ends (R422). -/
  ready : Nat := 0
  /-- The transaction in progress is the run's last: this controller is host of its berth no more (R407). -/
  last : Bool := false
  deriving DecidableEq, Repr

/-- The work that a port has in hand since its last transaction boundary (R408): nothing; a command to a berth, of a rank; a scan or an alert read; its
run. -/
inductive Work where
  | none
  | cmd (berth code rank : Nat)
  | service
  | run
  deriving DecidableEq, Repr

/-- One two-wire port TW0 to TW3 (R404 to R431). -/
structure Port where
  discovering : Bool := false
  discFrom : Nat := 0
  discTime : Nat := 0
  /-- Addresses given to strays, 0x480p:0E. SPEC 0 -/
  strays : Nat := 0
  /-- Tick from which the next scan is due (R417). -/
  nextScan : Nat := 0
  /-- Partners that have yet to be placed, with whether a discovery found them (R416). -/
  todo : List (Bool × Arrival) := []
  /-- The run in progress (R420). -/
  run : Option Run := none
  /-- The run that the port follows as a listener (R429). -/
  heard : Option Run := none
  /-- Waiting commands of rank 1 to 3 (R408). -/
  cmds : List PCmd := []
  /-- The work in hand (R408). -/
  work : Work := .none
  /-- Losses of arbitration of the present transaction (R410). -/
  losses : Nat := 0
  arbLosses : Nat := 0
  stuck : Bool := false
  stucks : Nat := 0
  lateWakes : Nat := 0
  busyNacks : Nat := 0
  latePolls : Nat := 0
  lastNotify : Nat := 0
  notifies : Nat := 0
  /-- The next byte of the bus is answered NACK, after a late wake (R59). SPEC false -/
  nackNext : Bool := false
  /-- Host Notify messages waiting for the cores, at most 8; a mailbox block waiting (R413). -/
  notifyQueue : List Nat := []
  mailboxBusy : Bool := false
  mailbox : List (BitVec 8) := []
  /-- The block that waits for the cores: command code and bytes. -/
  mailIn : List (BitVec 8) := []
  /-- A target address is held by a stretch (R413). -/
  stretching : Bool := false
  /-- The transaction that the stretch holds (R413). -/
  held : Option TargetMsg := none
  /-- What the last Block Read of this port's address returned. -/
  mailboxSent : List (BitVec 8) := []
  alertLow : Bool := false
  /-- Tick of the last read of the Alert Response Address (R417). -/
  alertAt : Option Nat := none
  /-- Bytes of the last write that the port has sent and a partner has acknowledged: command code, then data (R422, R426). -/
  lastWrite : List (BitVec 8) := []
  /-- Bus time in the present 1 s window in s, and the window's start (0x480p:0C). -/
  busy : Rat := 0
  busyFrom : Nat := 0
  /-- Runs committed and failed since start (0x4810:03, :04). SPEC 0 -/
  commits : Nat := 0
  runFails : Nat := 0
  load : Rat := 0
  deriving DecidableEq, Repr

/-- A transaction that a listening port decodes (R429). -/
inductive Listened where
  /-- Assign Address: UDID and address. -/
  | assign (udidHigh udidLow addr : Nat)
  /-- A bus word to a berth: command code, whether it is a write, the bytes. -/
  | word (berth cmd : Nat) (write : Bool) (data : List (BitVec 8))
  deriving DecidableEq, Repr

end Sys2Proof.Machine
end

