-- ==== Sys2Proof/Types/Pins.lean ====
section
/-! DEFINITION. Plain data types of the AO clock (chapter 18), of the modulator clocks (R72 to R75) and of the ball map (Tables 18-1 and 18-3). -/
namespace Sys2Proof.Machine

/-- AO clock, strap and modulator clock state (R72 to R75, R499 to R503). -/
structure Clock where
  /-- 0x2003:03 `AoClockSource`: true is the RC oscillator. SPEC false -/
  rc : Bool := false
  /-- Tick of the last restart of the crystal (R501). -/
  retryAt : Nat := 0
  /-- The crystal has run since the last restart (R501). -/
  running : Bool := true
  /-- Ticks from which the edges of `MCLK0` to `MCLK3` are those of the dividers in force (R75). SPEC 0 -/
  mclkFrom : List Nat := [0, 0, 0, 0]
  deriving DecidableEq, Repr

/-- Rows of the ball map (Table 18-1). -/
inductive BallRow where
  | A | B | C | D | E | F | G | H | J | K | L | M | N | P | T | U | V | W | Y | AA | AB | AC
  deriving DecidableEq, Repr

/-- One ball: its row and its column from 1 (Table 18-1). -/
structure Ball where
  row : BallRow
  col : Nat
  deriving DecidableEq, Repr

/-- How the package holds a ball: whether it drives it, has its input buffer on, pulls it (R2). -/
structure BallHold where
  drives : Bool
  input : Bool
  pull : Bool
  deriving DecidableEq, Repr

end Sys2Proof.Machine
end

