-- ==== Sys2Proof/Types/Rails.lean ====
section
/-! DEFINITION. Plain data types of rails, temperature and ageing (chapter 10). -/
namespace Sys2Proof.Machine

/-- Phases of a rail and of a group (Table 10-6). -/
inductive RailPhase where
  | off | rising | good | falling | failed
  deriving DecidableEq, Repr
inductive GroupPhase where
  | lowered | rising | risen | lowering | failed
  deriving DecidableEq, Repr

/-- One rail rl0 to rl31 (R288 to R303). -/
structure Rail where
  phase : RailPhase := .off
  /-- The rail is commanded on: `AUXENk` active, stage started or OPERATION 0x80 sent (R291). SPEC inactive -/
  on : Bool := false
  /-- Margin written: 0, 1 high, 2 low (R302). SPEC 0 -/
  margin : Nat := 0
  forcedOff : Bool := false
  /-- Level of `AUXPGk`, and the AO tick since which it has been seen at that level (R288). -/
  pgPin : Bool := false
  pgAt : Nat := 0
  /-- 0x43nn:0C `RailVolts`, and whether it was taken since the last switching; consecutive samples out of the window (R296). SPEC 0.0 -/
  volts : Rat := 0
  fresh : Bool := false
  outRun : Nat := 0
  /-- READ_VOUT of the partner's last poll, whether it was taken since the last switching, whether it reports a fault or no POWER_GOOD, and consecutive polls
  that report a fault or a value outside the window (R288, R296). -/
  vout : Rat := 0
  polled : Bool := false
  partnerBad : Bool := false
  pollRun : Nat := 0
  /-- Tick at which the rail was switched on (R293). -/
  onAt : Nat := 0
  /-- 0x43nn:0D to :12, since manufacture. SPEC 0 -/
  rises : Nat := 0
  riseFails : Nat := 0
  runFaults : Nat := 0
  descFaults : Nat := 0
  ovs : Nat := 0
  margins : Nat := 0
  /-- 0x43nn:13. SPEC 0 -/
  lastFault : Nat := 0
  deriving DecidableEq, Repr

/-- One rail group g0 to g3 (R290 to R295). -/
structure RailGroup where
  phase : GroupPhase := .lowered
  /-- Program counter, and the tick of the 32.768 kHz clock at which its instruction issues (R291). SPEC 0 -/
  pc : Nat := 0
  nextAt : Nat := 0
  /-- A program runs. -/
  running : Bool := false
  kept : Bool := false
  /-- AO tick from which the other groups see the phase: an END acts at the end of its tick (R291). -/
  seenAt : Nat := 0
  /-- The last rise failed (R294). -/
  failed : Bool := false
  abortPending : Bool := false
  marker : Nat := 0
  /-- A group wait of a descent has timed out, counted (Table 10-3). SPEC 0 -/
  waitTimeouts : Nat := 0
  startAt : Nat := 0
  riseTime : Nat := 0
  command : Nat := 0
  deriving DecidableEq, Repr

/-- One temperature sensor ts0 to ts11, tx0 to tx15 (R304, R305). -/
structure Sensor where
  t : Rat := 0
  valid : Bool := false
  suspect : Bool := false
  unchecked : Bool := false
  /-- Tick since which a suspect sensor has stayed within 6 °C (R305). -/
  closeSince : Option Nat := none
  /-- Consecutive slots at or above 150 °C (R309). -/
  hotRun : Nat := 0
  deriving DecidableEq, Repr

/-- One MRAM copy of the VID code and the ageing step (R313); commit number 0 where none has been made. -/
structure VidCopy where
  seq : Nat := 0
  vid : Nat := 0
  step : Nat := 0
  /-- The copy's CRC-32 is good (R65); a word of it that cannot be read makes it bad (R451). -/
  good : Bool := true
  deriving DecidableEq, Repr

/-- Temperature and ageing (R304 to R316). -/
structure Thermal where
  sensors : List Sensor := List.replicate 28 {}
  /-- A rail whose fault AO has found in MOORED, with its detail: its run source waits for SUP (R297). -/
  mooredFault : Option (Nat × Nat) := none
  /-- Band and temperature of the package and of the stages. -/
  pkgBand : Nat := 0
  pkgTemp : Rat := 0
  stageBand : List Nat := List.replicate 8 0
  fallback : List Bool := List.replicate 8 false
  stageTemp : List Rat := List.replicate 8 0
  dramTemp : Rat := 0
  /-- tREFI is 3.9 µs (R308). SPEC true -/
  dramFast : Bool := true
  hot : Bool := false
  dramHot : Bool := false
  /-- Path-delay monitors: reading in ps, readings in range in a row, and the last ten m_min newest first (R310, R311). -/
  pdm : List Int := List.replicate 16 0
  pdmGood : List Nat := List.replicate 16 0
  pdmBad : List Bool := List.replicate 16 false
  mMin : Option Int := none
  mins : List Int := []
  /-- The two MRAM copies of the VID code and the step (R313). -/
  vidA : VidCopy := {}
  vidB : VidCopy := {}
  /-- VID code, ageing step; changes; tick of the last change; low since (R311, R312). SPEC steps 0 -/
  vid : Nat := 0
  step : Nat := 0
  vidSteps : Nat := 0
  vidAt : Option Nat := none
  lowSince : Option Nat := none
  /-- R_p by phase in Ω, the sums of R314 and the count of samples. -/
  rp : List Rat := List.replicate 24 0
  num : List Rat := List.replicate 24 0
  den : List Rat := List.replicate 24 0
  cnt : List Nat := List.replicate 24 0
  /-- Estimates committed in MRAM: R_p and C_bank (R316). -/
  savedRp : List Rat := List.replicate 24 0
  savedBank : List Rat := List.replicate 8 0
  savedValid : Bool := false
  /-- C_bank by stage, F (R316). SPEC image -/
  bank : List Rat := List.replicate 8 0
  /-- The charge into each bank so far, the tick of each phase's last current sample, and each bank's samples of the last 10 s: tick, voltage, charge (R316). -/
  bankQ : List Rat := List.replicate 8 0
  bankAt : List Nat := List.replicate 24 0
  bankHist : List (List (Nat × Rat × Rat)) := List.replicate 8 []
  /-- 0x4300:05, :06 in ticks; tick of RISE entry and of the start of the descent programs. SPEC 0 -/
  lastRise : Nat := 0
  lastDescent : Nat := 0
  riseFrom : Nat := 0
  descentFrom : Nat := 0
  deriving DecidableEq, Repr

end Sys2Proof.Machine
end

