-- ==== Sys2Proof/Syntax.lean ====
section
/-! DEFINITION. The commands of the block: one constructor of `Instr` for each row of the opcode table. -/
namespace Sys2Proof
open Machine

/-- The commands (spec/opcode_table.json). Operands carry what the world outside the package gives: straps, pin levels, sampled
values, frames, and the sender's channel `ch` where a write to the dictionary is the command. -/
inductive Instr where
  /-- R51; the straps as sampled (true is side B, true is `LEGACY` high), `WAKE_N` low at AO ready, and whether DDR4 training passes. -/
  | porRelease (sideB legacy wakeLow : Bool) (train : Nat)
  /-- R51 step 4; the devices that ARP finds and the fixed berths that answer. -/
  | dictionaryOnline (found : List Arrival)
  /-- R75. -/
  | snsEngRelease
  /-- R52; the pair number 0 to 3. -/
  | prechargeEnd (pair : Nat)
  /-- R52; the string. -/
  | auxContactConfirm (str : Nat)
  /-- R53. -/
  | enterActive
  /-- R55. -/
  | noSourceDeclared
  /-- R44; a write of 0x04, and the channel of the write. -/
  | modeRequestRise (ch : Chan)
  | modeRequestService (ch : Chan)
  | modeRequestActive (ch : Chan)
  | modeRequestDescent (ch : Chan)
  | modeRequestMoored (ch : Chan)
  | modeRequestLayup (ch : Chan)
  /-- R43; the mode code asked for. -/
  | modeRequestLeaveService (ch : Chan) (code : Nat) (train : Nat)
  | tripReaction
  | descentProgramsStart
  | descentComplete (train : Nat)
  | restartHoldoffEnd
  /-- R61; whether `PFW_N` and the VAO monitor give the warning. -/
  | powerFailWarning (pfw vao : Bool)
  | rstNAsserted
  | rstNReleased (train : Nat)
  | supplyDipRestart (train : Nat)
  | counterBlockPeriodicCommit
  | wakeNWake
  /-- R287; what the pin of a comparator has shown. -/
  | srcdetWake (d : SrcPin)
  /-- R414; the port and the address seen. -/
  | twAddressMatchWake (port addr : Nat)
  | canWake (port : Nat)
  /-- R102; the pin voltages of the `moored` entries in order, and the twelve sensor codes. -/
  | mooredAdcScan (volts : List Rat) (codes : List Nat)
  | ownNReleaseWake
  | aoWakeTimerExpired
  | twMatchStretchTimeout (port : Nat)
  | canRetentionTimeout
  /-- R518; the group and the value written. -/
  | groupEnableWrite (ch : Chan) (g : Nat) (v : Nat)
  | stuckRunDetected (md : Nat)
  | stuckClearCount (md : Nat)
  /-- R82; the frame's `OSR` modulator bits, oldest first, and the Manchester violations in it. -/
  | loopSampleAvailable (md : Nat) (bits : List Bool) (violations : Nat)
  | mclkReadbackFault (g : Nat)
  /-- R88; `b` the modulator bit sampled at the edge. -/
  | fastComparatorDecision (md : Nat) (b : Bool)
  | calCommand (ch : Chan) (md : Nat) (v : Nat)
  | calComplete (md : Nat)
  | seqLengthWrite (ch : Chan) (n : Nat)
  | adcLapStart
  /-- R95; the pin voltage at each of the 2^k conversions, and the up and down voltages of an open-wire test. -/
  | adcEntryComplete (volts : List Rat) (up down : Rat)
  /-- R98; the voltage the check conversion sees. -/
  | adcLapEnd (refVolts : Rat)
  /-- R98; the twelve converted codes. -/
  | tempSlot (codes : List Nat)
  /-- R124; the instance reaches its release; an uncorrectable error in a word it reads (R105) is `ue`. -/
  | instanceRelease (lp : Nat) (errs : List (Nat × Nat × Bool))
  /-- R105, R115; the wrong words that the run has read: ENG's SRAM instance (Table 15-5), the coefficient slot, and whether it is uncorrectable. -/
  | instanceRunEnd (lp : Nat) (errs : List (Nat × Nat × Bool))
  | instanceCommit (lp : Nat)
  | depWaitEnd (lp : Nat)
  | carrierBoundary (st : Nat)
  | tideFrameBoundary
  | idleBanksLoaded
  /-- R144; the phase. -/
  | loadPoint (ph : Nat)
  | stageStart (ch : Chan) (st : Nat)
  | softStartEnd (st : Nat)
  | stageStop (ch : Chan) (st : Nat)
  /-- R147; for each of the 48 outputs whether its largest fine-step error is above 40 ps. -/
  | delayLineCalibration (bad : List Bool)
  | phaseDrop (ch : Chan) (ph : Nat)
  | phaseReturn (ch : Chan) (ph : Nat)
  /-- R163; the stage and the binding number 0 to 3. -/
  | breakwaterTruncation (st b : Nat)
  | fenderTruncation (ph : Nat)
  | estopAsserted
  | tripReadbackFault
  | driveReadbackFault (ph : Nat)
  | holdWatchExpired (st : Nat)
  | holdLimitExpired (st : Nat)
  /-- R177; the generator and the target, binary32. -/
  | pgTargetWrite (ch : Chan) (n : Nat) (v : BitVec 32)
  | pgUpdate (n : Nat)
  | rcUpdate (n : Nat)
  | rcPhaseWrap (n : Nat)
  | rcRefTimeout (n : Nat)
  | rcUnlockTimeout (n : Nat)
  | rcReset (ch : Chan) (n : Nat) (v : Nat)
  | observerRun (st : Nat)
  /-- R195; the phase. -/
  | substitutionExpired (ph : Nat)
  | spmUpdate
  | spmRecompute
  | droopTrimUpdate
  /-- R205; the phase and the trim, binary32. -/
  | phaseShareTrimWrite (ch : Chan) (ph : Nat) (v : BitVec 32)
  | inputLoss
  | handoverEnd
  /-- R222; feed 0 or 1, or 2 + the berth. -/
  | sourceQualified (src : Nat)
  | handbackCommand (ch : Chan) (v : Nat)
  | handbackStart
  | handbackRampEnd
  | feedGateOn (f : Nat)
  | feedReverseOff (f : Nat)
  | feedLost (f : Nat)
  | feedEnableOn (ch : Chan) (f : Nat)
  | feedEnableOff (ch : Chan) (f : Nat)
  | inrushChop (f : Nat)
  | inrushOffExpired (f : Nat)
  | inrushTimeout (f : Nat)
  /-- R235; the gate-on feedback has been active for `GateConfirm`. -/
  | gateConfirmExpired (f : Nat)
  | gateConfirmTimeout (f : Nat)
  | gateStuckOn (f : Nat)
  | gateFeedbackLost (f : Nat)
  | feedShort (f : Nat)
  | feedRetry (f : Nat)
  | feedRetryReset (f : Nat)
  | meterTimeout (f : Nat)
  | estimatorStep (str : Nat)
  | unanchoredTimeout (str : Nat)
  | probeStart (str : Nat)
  | probeShiftEnd
  | slackRequest (ch : Chan) (str : Nat)
  | slackAutoRequest (str : Nat)
  | slackAbort (ch : Chan) (str : Nat)
  | slackRampDownEnd (str : Nat)
  | slackRestPoint (str : Nat)
  | slackComplete (str : Nat)
  | slackConditionAbort (str : Nat)
  | slackRefusalTimeout (str : Nat)
  | stringReplaced (ch : Chan) (str : Nat) (v : Nat)
  | estimatorCommit
  /-- R262; which input: 0 current, 1 voltage, 2 temperature, 3 berth summary. -/
  | stringInputTimeout (str which : Nat)
  | auxContactMismatch (str : Nat)
  | stringShedOpen (str : Nat)
  | chargeCommandStart (ch : Chan) (str : Nat)
  | chargeCommandStop (ch : Chan) (str : Nat)
  | pulseEnd (str : Nat)
  | restEnd (str : Nat)
  | chargeTimerExpired (str : Nat)
  | chargePauseTimeout (str : Nat)
  | eqRequest (ch : Chan) (str : Nat)
  | eqAbort (ch : Chan) (str : Nat)
  | finalRestSkip (str : Nat)
  | bsInWindow
  | bsSettleExpired
  | bsTimeout
  /-- R282, R283; for each string, whether its 1 ms mean of |I| is at or above 0.01 C where SNS is off, and whether its aux contact confirmed open. -/
  | layupEntry (underLoad auxOpen : List Bool)
  /-- R286; `WAKE_N`, or what the pin of a comparator has shown. -/
  | layupWake (src : Option SrcPin) (train : Nat)
  /-- R291; the group whose program is at this instruction, at the engine's present tick, and the levels of `AUXPG0` to `AUXPG15` at that tick. -/
  | seqEnd (g pins : Nat)
  | seqOn (g pins : Nat)
  | seqOff (g pins : Nat)
  | seqWaitgood (g pins : Nat)
  | seqWaitlow (g pins : Nat)
  | seqDelay (g pins : Nat)
  | seqWaitgroup (g pins : Nat)
  | seqMark (g pins : Nat)
  | stageRailStart (r : Nat)
  /-- R296; the rail and the detail of 0x43nn:13. -/
  | railRunFault (r detail : Nat)
  | mooredRailFault (r detail : Nat)
  | railDescentFault (r detail : Nat)
  | railDescentOvervoltage (r : Nat)
  | groupRise (ch : Chan) (g : Nat)
  | groupAbortRise (ch : Chan) (g : Nat)
  | groupLower (ch : Chan) (g : Nat)
  | railMarginHigh (ch : Chan) (r : Nat)
  | railMarginLow (ch : Chan) (r : Nat)
  | railMarginOff (ch : Chan) (r : Nat)
  | thermalDerateUpdate
  /-- R310; the sixteen margins in ps. -/
  | pdmReading (ps : List Int)
  | vidUpdate
  | ageReset (ch : Chan) (v : Nat)
  | ronUpdate
  | replan
  /-- R316; the HOLD stage, ∫ i dt in A·s and ΔV in V of the excursion. -/
  | bankCapEstimate (st : Nat) (charge dv : Rat)
  | ageingCommit
  /-- R319; the source whose window ends. -/
  | faultClearWindowEnd (id kind : Nat)
  /-- R330; the region code and the severity record written. -/
  | sevWrite (ch : Chan) (region : Nat) (record : BitVec 64)
  | sevQueryWrite (ch : Chan) (region : Nat) (record : BitVec 64)
  | irqPendingClear (ch : Chan) (region : Nat) (mask : Nat)
  | lockoutEntry
  | lockstepMismatch
  | d2dTransferFail
  | heartbeatSend
  /-- R344; the frame's sequence number and its payload, its arrival error against the tick counter in ticks, and which copies pass their CRC. -/
  | heartbeatReceived (hb : Nat × Heartbeat) (err : Rat) (ok0 ok1 : Bool)
  | heartbeatMiss
  | twinAbsentTimeout
  | electionFrameReceived (frame : ElectionFrame)
  | electionFrameSend
  | electionTimeout
  /-- R339, R351; the frame's header, whether its CRC-32 matches, and the message, which comes whole with its last frame. -/
  | trackingMessageReceived (hd : FrameHead) (crcOk : Bool) (m : TrackMsg)
  | alignmentSend
  | alignmentReceived (hd : FrameHead) (crcOk : Bool) (k : Nat) (items : List AlignItem)
  | mirrorWriteReceived (hd : FrameHead) (crcOk : Bool) (k idx sub : Nat) (data : List (BitVec 8))
  /-- R350; a fragment, the period_index that tags its snapshot, and the snapshot itself, which comes with the last one. -/
  | snapshotFragmentReceived (hd : FrameHead) (crcOk : Bool) (k : Nat) (snap : Snapshot)
  /-- R490; a frame, the kind of slot, and its bytes from an offset in the image on. -/
  | imageTransferReceived (hd : FrameHead) (crcOk : Bool) (kind offset : Nat) (data : List (BitVec 8))
  /-- R341; the class 2 to 5. -/
  | kopolFrameRetransmit (cls : Nat)
  | laneDown (lane : Nat)
  /-- R342; the lane, whether the training passes, and the round trip in ticks. -/
  | laneRetrain (lane : Nat) (ok : Bool) (roundTrip : Rat)
  | healthUpdate
  | ownNReleased
  | ownReadbackFault
  | engStopSelfRelease
  | supStallSelfRelease
  | selfReleaseOutputsLow
  | handoverRequest (ch : Chan)
  | handoverCancel (ch : Chan)
  | handoverRelease
  | handoverTimeout
  /-- R366; an object, its value. -/
  | pairCommonWrite (ch : Chan) (idx sub : Nat) (data : List (BitVec 8))
  | objectWrite (ch : Chan) (idx sub : Nat) (data : List (BitVec 8))
  | sdoRequest (port srv : Nat) (r : SdoReq)
  | sdoAbortTransfer (port srv : Nat)
  | sdoSegmentTimeout (port srv : Nat)
  /-- R393; the head (session and source), tag, object, flags bit 1, and the byte offset. -/
  | nireoRead (rq : NireoReq) (tag idx sub : Nat) (ca : Bool) (word : Nat)
  | nireoWrite (rq : NireoReq) (tag idx sub : Nat) (ca : Bool) (data : List (BitVec 8))
  | nireoDomainBegin (rq : NireoReq) (tag idx sub size : Nat)
  | nireoDomainSegment (rq : NireoReq) (tag idx sub word : Nat) (data : List (BitVec 8))
  | nireoDomainEnd (rq : NireoReq) (tag idx sub : Nat) (crc : BitVec 32)
  | nireoDomainAbort (rq : NireoReq) (tag idx sub : Nat)
  /-- R394, R397; the port, 0 E0, 1 E1, 2 HS, 3 C0, 4 C1, with the host's address and UDP port, or its number on CAN FD. -/
  | nireoOpenSession (src : Nat × Nat × Nat) (tag : Nat)
  | nireoCloseSession (rq : NireoReq) (tag : Nat)
  | nireoBatchWrite (rq : NireoReq) (tag : Nat) (entries : List (Nat × Nat × List (BitVec 8)))
  | nireoFrameDropped (port : Nat)
  | sessionIdleTimeout (session : Nat)
  | domainWriteIdleTimeout (session idx sub : Nat)
  /-- R397; the request's bytes, and whether the CRC-32 after them matches. -/
  | hsFrameCommand (frame : List (BitVec 8)) (crcOk : Bool)
  | hsStatusCommand
  | hsResponseCommand
  | accessChallengeRead (ch : Chan)
  /-- R374; the level asked for, and the 64-byte signature. -/
  | accessResponse (ch : Chan) (level : Nat) (sig : List (BitVec 8))
  | accessDrop (ch : Chan) (v : Nat)
  | accessIdleTimeout (ch : Chan)
  | storeSave (ch : Chan) (sig : Nat)
  | restoreLoad (ch : Chan) (sig : Nat)
  | legacyModeWrite (ch : Chan) (v : Nat)
  | nmtStart (port : Nat)
  | nmtStop (port : Nat)
  | nmtEnterPreOperational (port : Nat)
  | nmtResetNode (port : Nat)
  | nmtResetCommunication (port : Nat)
  /-- R386; globally to a state, or selectively by identity. -/
  | lssSwitchState (port : Nat) (global configuration : Bool) (ident : List Nat)
  | lssConfigureNodeId (port node : Nat)
  | lssConfigureBitTiming (port entry : Nat)
  | lssStore (port : Nat)
  /-- R386; 0 to 3 an identity field, 4 the node-ID. -/
  | lssInquire (port what : Nat)
  | lssFastscan (port idNumber bitCheck lssSub lssNext : Nat)
  | syncProduce
  | syncReceived (port : Nat)
  | timeProduce
  | rpdoReceived (port n : Nat) (data : List (BitVec 8))
  | tpdoEvent (n : Nat)
  | tpdoEventTimer (n : Nat)
  | canHeartbeatProduce (port : Nat)
  | canHeartbeatConsumerTimeout (port node : Nat)
  | canBusOff (port : Nat)
  | canBusOffRecovery (port : Nat)
  | ethLinkDown (port : Nat)
  | ethArpRequest (port addr : Nat)
  | icmpEchoRequest (port addr : Nat)
  | ptpSyncSend (port : Nat)
  | ptpAnnounceSend (port : Nat)
  /-- R402; the request as it arrives. -/
  | ptpDelayReqReceived (port : Nat) (req : DelayReq)
  | ptpAnnounceReceived (port : Nat) (clock : Announce)
  | ptpAnnounceTimeout (port : Nat)
  | timeSetSeconds (ch : Chan) (v : Nat)
  | ppsEdge
  | phaseAdjust (ch : Chan) (ns : Int)
  | traceableWrite (ch : Chan) (v : Nat)
  | traceableTimeout
  | holdoverEnd
  /-- R417; the port, the devices and fixed partners that answer. -/
  | twScan (port : Nat) (found : List Arrival)
  | berthPresenceLow (b : Nat)
  | berthPresenceHigh (b : Nat)
  | berthDisable (ch : Chan) (b : Nat)
  | alertResponseRead (port addr : Nat)
  | hostNotifyReceived (port addr data : Nat)
  | mailboxBlockWrite (port cmd : Nat) (data : List (BitVec 8)) (pecOk : Bool)
  | mailboxBlockRead (port : Nat)
  | twTransactionBoundary (port : Nat)
  | twArbitrationLost (port : Nat)
  | twSclTimeout (port : Nat)
  /-- R411; whether SDA comes high. -/
  | twBusRecovery (port : Nat) (ok : Bool)
  | pollRunDue (b : Nat)
  | scriptEnd (port : Nat)
  /-- R422; whether the partner acknowledges every byte. -/
  | scriptPage (port : Nat) (ack : Bool)
  /-- R422; acknowledged, PEC matches, and the byte. -/
  | scriptRdb (port : Nat) (ack pecOk : Bool) (v : BitVec 8)
  | scriptRdw (port : Nat) (ack pecOk : Bool) (v : BitVec 16)
  | scriptRdk (port : Nat) (ack pecOk : Bool) (data : List (BitVec 8))
  | scriptWrb (port : Nat) (ack : Bool)
  | scriptWrw (port : Nat) (ack : Bool)
  | scriptSnd (port : Nat) (ack : Bool)
  | scriptCnv (port : Nat)
  | scriptTst (port : Nat)
  | scriptRep (port : Nat)
  | scriptWait (port : Nat)
  | scriptXtr (port : Nat)
  /-- R426; the port's most urgent command; acknowledged, PEC matches, and what a read returns. -/
  | partnerCommandSend (port : Nat) (ack pecOk : Bool) (v : BitVec 16)
  | hostCommand (ch : Chan) (b : Nat) (w : BitVec 32)
  | listenedTransaction (port : Nat) (t : Listened)
  /-- R433; a write of `TrainCommand`; the result code of the training (0x4600:06). -/
  | trainCommand (ch : Chan) (v result : Nat)
  | dramFillComplete
  /-- R437; the requester, the byte address, the length within the burst, and the errors the devices give. -/
  | dramRead (rq : MemReq) (addr len : Nat) (errs : List SymErr)
  | dramWrite (rq : MemReq) (addr : Nat) (data : List (BitVec 8)) (errs : List SymErr)
  | scrubBurst (errs : List SymErr)
  | scrubLapOverdue
  /-- R445, R447; the leak timer of the devices, or of the SRAM instances. -/
  | bucketLeakTick (sram : Bool)
  /-- R438; the value written; the result code of the training that a mode change may need is none. -/
  | eccModeChange (ch : Chan) (v : Nat)
  | flipArm (ch : Chan) (v : Nat)
  /-- R512; the rank. -/
  | dramAlert (rank : Nat)
  /-- R448; the region code less 1, the unit of Table 15-5, and the object the word belongs to where the reaction needs it (an input, an instance, a stage, a session). -/
  | sramUncorrectable (region unit item : Nat)
  /-- R450; the writer, the word's byte offset, its value, and how many verifications fail. -/
  | mramWrite (w : MramWriter) (addr : Nat) (v : BitVec 64) (fails : Nat)
  /-- R451; the word's byte offset. -/
  | mramReadUe (e : MramError)
  | recordArrival (r : Record)
  | recordCommit
  | freezeStart (ch : Chan)
  | freezeAbort (ch : Chan)
  | freezeRelease (ch : Chan)
  | freezeLimitExpired
  | readFromWrite (ch : Chan) (n : Nat)
  | readBlock (ch : Chan)
  /-- R464; the errors that a read-modify-write of the frame meets. -/
  | captureFrame (errs : List SymErr)
  /-- R467; the bit of `TrigMask`, and for bit 0 the source and its record number, for bit 1 the input. -/
  | captureTrigger (bit : Nat) (key : Key) (cls md at_ : Nat)
  | triggerNow (ch : Chan)
  | windowLastFrame (w : Nat)
  | windowCommit (p : Promotion)
  | windowAbandon (w : Nat)
  | windowRelease (ch : Chan) (w v : Nat)
  | updateTransferComplete
  /-- R484; whether the signature is good (R476), the digest, and what the sections give (R477). -/
  | updateChecksDone (bad : List Nat) (corrected : Nat) (content : Image) (train : Nat)
  | updateAbort (ch : Chan) (v : Nat)
  | hitlessStart (ch : Chan)
  | hitlessAbort (ch : Chan)
  | hitlessCommitPoint
  | hitlessResume
  | hitlessResumeTimeout
  | hitlessRevertTimeout
  | pairUpdateStart (ch : Chan)
  | pairUpdateAbort (ch : Chan)
  | pilotExit (ch : Chan) (v : Nat) (train : Nat)
  | xtalFail
  /-- R501; whether the crystal runs. -/
  | xtalRetry (runs : Bool)
  | porAsserted
  | ethLinkUp (port speed : Nat)
  | ethFrameDropped (port : Nat)
  /-- R397; the identifier, the segment byte and the bytes after it. -/
  | nireoCanFdSegment (port ident : Nat) (seg : BitVec 8) (data : List (BitVec 8))
  | canHeartbeatReceived (port node : Nat)
  | emcyInhibitExpired (port : Nat)
  | tpdoInhibitExpired (n : Nat)
  /-- R447; region code less 1, unit, whether the word has a single-bit error. -/
  | sramScrubRead (region unit : Nat) (single : Bool)
  | mailboxBlockTaken (port : Nat)
  | stageRailRiseTimeout (r : Nat)
  | supervisoryCoresResume
  deriving DecidableEq, Repr

end Sys2Proof
end

