-- ==== Sys2Proof/Config.lean ====
section
/-! DEFINITION. Values that the spec leaves open: free values, constants with no body. -/
namespace Sys2Proof.Config

/-- e to the power x. The spec names the function and not its rounding (R242, R264 and others): a free value of the operand. -/
opaque exp : Rat → Rat

/-- The natural logarithm of x (R304). A free value of the operand. -/
opaque ln : Rat → Rat

/-- The temperature in °C that on-die sensor `n` reads from a code, its factory trim included (R304). A free value of the operands. -/
opaque sensorTemp : Nat → Nat → Rat

/-- The value of an identity object that is fixed at manufacture and that the spec does not state: stepping, names and versions, device
type, revision, MAC addresses, factory key (R3, R374, R386). Numbered by the object, index·256 + sub-index. -/
opaque fixedBytes : Nat → List Byte

/-- The random bytes of the n-th `AccessChallenge` (R374). -/
opaque challenge : Nat → List Byte

/-- Ed25519 verification (R374, RFC 8032): key, message and signature. The spec names the algorithm by its standard: a free value of the operands. -/
opaque ed25519 : List Byte → List Byte → List Byte → Bool

/-- One update of the estimator's filters (R188): the second-order high-pass with corner `hp` and the second-order low-pass with corner `lp`, both in
Hz, at an update period `tu` in s, from their four state values and a sample of the bus power: the new state values and the filtered power. The spec
gives the orders and the corners and no arithmetic: a free value of the operands. -/
opaque powerFilter (hp lp tu : Rat) (state : List Rat) (power : Rat) : List Rat × Rat

/-- The n-th free value drawn (`State.draws` counts them): a value that the spec leaves open, wherever a meaning draws one. -/
opaque freeReal : Nat → Rat

/-- What a register of an engine's file holds after the inputs, the output and the new states of a run (Table 04-1, log entry 117). -/
opaque register : List (BitVec 32) → Nat → BitVec 32

/-- Bursts that the zero fill has written t ticks after it began (R434). The spec gives the order and an upper bound and no pace: a free value. -/
opaque fillPace : Nat → Nat

/-- The block size that the SDO server gives for a block download (R386): the spec gives the range 1 to 127 and no value. -/
opaque sdoBlockSize : Nat

/-- The n-th link-local choice from a MAC address (R398): the spec names RFC 3927, which leaves the choice to a generator. A free value of the operands. -/
opaque linkLocalChoice : Nat → Nat → Nat

/-- The offsetScaledLogVariance that Announce carries, and the clock identity of a MAC address (R402): not stated. -/
opaque ptpVariance : Nat
opaque clockIdentity : Nat → Nat

/-- Bytes of the message of a class whose first frame has number `q`: Tables 12-2 and 12-5 say what a tracking, alignment or snapshot message carries and not how
long it is. A free value of the operands. -/
opaque messageBytes : Nat → Nat → Nat

/-- The ranks and the density of the DDR4 channel as the ROM takes them in PILOT, where no image declares them (R433, R438): two ranks, 16 Gbit. Free values. -/
opaque pilotTwoRanks : Bool
opaque pilotDense : Bool

/-- What a window holds where the ring's frame was dropped or could not be read (R444, R471), by frame and byte: not stated, a free value. -/
opaque droppedByte : Nat → Nat → Byte

/-- The Olualgus public key of a number, held in ROM (R476): not stated, a free value. -/
opaque romKey : Nat → List Byte

end Sys2Proof.Config
end

