-- ==== Sys2Proof/Machine/Real.lean ====
section
/-! DEFINITION. Bytes, exact values of REAL32 bit patterns, and the binary32 arithmetic of the loop engines (R108). -/
namespace Sys2Proof.Machine

/-- The number that a list of bytes spells, least significant byte first (R11). -/
def leNat : List Byte → Nat
  | [] => 0
  | b :: bs => b.toNat + 256 * leNat bs

/-- `n` bytes of a number, least significant byte first (R11). -/
def leBytes : Nat → Nat → List Byte
  | 0, _ => []
  | n + 1, v => BitVec.ofNat 8 v :: leBytes n (v / 256)

/-- A field of `w` bits at bit `lo` of a number. -/
def bits (v lo w : Nat) : Nat := v / 2 ^ lo % 2 ^ w

/-- Bit `i` of a number. -/
def bit (v i : Nat) : Bool := v / 2 ^ i % 2 == 1

/-- 1 for true, 0 for false. -/
def b2n (b : Bool) : Nat := if b then 1 else 0

/-- The number whose bit i is the i-th entry of a list. -/
def packBits : List Bool → Nat
  | [] => 0
  | b :: bs => b2n b + 2 * packBits bs

/-- 2 to an integer power. -/
def pow2 (e : Int) : Rat := if 0 ≤ e then (2 : Rat) ^ e.toNat else 1 / (2 : Rat) ^ (-e).toNat

/-- A rational limited to `lo` to `hi`. -/
def clampR (v lo hi : Rat) : Rat := if v < lo then lo else if hi < v then hi else v

/-- The absolute value of a rational. -/
def absR (v : Rat) : Rat := if v < 0 then -v else v

def maxR (a b : Rat) : Rat := if a < b then b else a
def minR (a b : Rat) : Rat := if b < a then b else a

/-- The sum of a list. -/
def sumR : List Rat → Rat
  | [] => 0
  | x :: xs => x + sumR xs

/-- `a / b`, and 0 where `b` is 0. -/
def divR (a b : Rat) : Rat := if b = 0 then 0 else a / b

/-- Round to the nearest integer, halves away from zero. -/
def roundR (v : Rat) : Int := if v < 0 then -(((-v) + 1 / 2).floor) else (v + 1 / 2).floor

/-- Round a non-negative rational to the nearest integer, ties to even (R108). -/
def rne (v : Rat) : Nat :=
  let f := v.floor.toNat
  let r := v - f
  if r < 1 / 2 then f else if 1 / 2 < r then f + 1 else if f % 2 = 0 then f else f + 1

/-- Floor of the square root of a rational at a resolution of 2^-64 (DESIGN CHOICE, log entry 7: the spec states no rounding). -/
def sqrtR (v : Rat) : Rat :=
  if v ≤ 0 then 0 else (Nat.sqrt ((v * 2 ^ 128).floor.toNat) : Rat) / 2 ^ 64

/-- Largest r with r³ ≤ n, found from bit `k` downward, starting from `acc`. -/
def cbrtBits : Nat → Nat → Nat → Nat
  | 0, acc, n => if (acc + 1) ^ 3 ≤ n then acc + 1 else acc
  | k + 1, acc, n => cbrtBits k (if (acc + 2 ^ (k + 1)) ^ 3 ≤ n then acc + 2 ^ (k + 1) else acc) n

/-- Cube root of a rational at a resolution of 2^-64, rounded down. -/
def cbrtR (v : Rat) : Rat :=
  if v ≤ 0 then 0 else
    let n := (v * 2 ^ 192).floor.toNat
    (cbrtBits ((Nat.log2 n) / 3 + 1) 0 n : Rat) / 2 ^ 64

namespace F32

def expField (x : F32) : Nat := bits x.toNat 23 8
def fracField (x : F32) : Nat := bits x.toNat 0 23
def sign (x : F32) : Bool := bit x.toNat 31
def isNaN (x : F32) : Bool := expField x == 255 && fracField x != 0
def isInf (x : F32) : Bool := expField x == 255 && fracField x == 0
def isFinite (x : F32) : Bool := expField x != 255

/-- The NaN that an operation delivers. -/
def nan : F32 := 0x7FC00000

def neg (x : F32) : F32 := x ^^^ 0x80000000

def zero (s : Bool) : F32 := if s then 0x80000000 else 0
def inf (s : Bool) : F32 := if s then 0xFF800000 else 0x7F800000

/-- The exact value of a finite pattern, denormals included; 0 for NaN and infinities. -/
def toRat (x : F32) : Rat :=
  let e := expField x
  let m : Rat := if e = 0 then (fracField x : Rat) * pow2 (-149)
    else if e = 255 then 0
    else ((2 ^ 23 + fracField x : Nat) : Rat) * pow2 ((e : Int) - 150)
  if sign x then -m else m

/-- The exponent e with 2^e ≤ v < 2^(e+1), for positive v. -/
def expOf (v : Rat) : Int :=
  let e0 : Int := (Nat.log2 v.num.toNat : Int) - (Nat.log2 v.den : Int)
  if v < pow2 e0 then e0 - 1 else e0

/-- A value rounded to binary32, nearest, ties to even; a result below the least normal number is a zero of the same sign when `flush` is set (R108). -/
def round (flush s0 : Bool) (v : Rat) : F32 :=
  if v = 0 then zero s0 else
    let s := decide (v < 0)
    let a := absR v
    let e := expOf a
    let eq := if e < -126 then -126 else e
    let m := rne (a * pow2 (23 - eq))
    let (m, eq) := if m = 2 ^ 24 then (2 ^ 23, eq + 1) else (m, eq)
    if 127 < eq then inf s
    else if m < 2 ^ 23 then (if flush then zero s else BitVec.ofNat 32 ((if s then 2 ^ 31 else 0) + m))
    else BitVec.ofNat 32 ((if s then 2 ^ 31 else 0) + (eq + 127).toNat * 2 ^ 23 + (m - 2 ^ 23))

/-- The REAL32 that reports a value: the nearest, denormals kept (DESIGN CHOICE, log entry 6). -/
def ofRat (v : Rat) : F32 := round false false v

/-- A denormal operand is read as zero of the same sign (R108). -/
def ftz (x : F32) : F32 := if expField x = 0 then zero (sign x) else x

/-- A product, rounded once (R108). -/
def mul (x y : F32) : F32 :=
  let x := ftz x; let y := ftz y
  let s := sign x != sign y
  if isNaN x || isNaN y then nan
  else if isInf x || isInf y then (if toRat x = 0 && !isInf x || toRat y = 0 && !isInf y then nan else inf s)
  else round true s (toRat x * toRat y)

/-- `x·y + z`, rounded once (R108). -/
def fma (x y z : F32) : F32 :=
  let x := ftz x; let y := ftz y; let z := ftz z
  let s := sign x != sign y
  if isNaN x || isNaN y || isNaN z then nan
  else if isInf x || isInf y then
    if toRat x = 0 && !isInf x || toRat y = 0 && !isInf y then nan
    else if isInf z && sign z != s then nan else inf s
  else if isInf z then z
  else
    let p := toRat x * toRat y
    let v := p + toRat z
    if p = 0 && toRat z = 0 then zero (s && sign z) else round true false v

/-- The value of a pattern, an infinity standing beyond every finite value (log entry 128). -/
def toExt (x : F32) : Rat := if isInf x then (if sign x then -(2 ^ 128) else 2 ^ 128) else toRat x

def one : F32 := 0x3F800000

/-- Order of two patterns that are not NaN. -/
def lt (x y : F32) : Bool :=
  if isInf x then sign x && !(isInf y && sign y)
  else if isInf y then !sign y
  else toRat x < toRat y

/-- clamp(v, lo, hi) of R108: NaN when v is NaN. Denormal operands and results are zero. DESIGN CHOICE (log entry 143): of two zeros of unlike sign
the one that the comparisons leave, so v where it equals a limit. -/
def clamp (v lo hi : F32) : F32 :=
  let v := ftz v; let lo := ftz lo; let hi := ftz hi
  if isNaN v then nan else
    let m := if lt v lo then lo else v
    if lt hi m then hi else m

end F32

/-- A non-negative value rounded to a significand of `p` bits, nearest, ties to even. -/
def roundBits (p : Nat) (v : Rat) : Rat := if v ≤ 0 then 0 else let u := pow2 (F32.expOf v - (p : Int) + 1); (rne (v / u) : Rat) * u

/-- The value a REAL32's bytes spell. -/
def realOf (bs : List Byte) : Rat := F32.toRat (BitVec.ofNat 32 (leNat bs))

/-- The bytes that report a value as REAL32. -/
def realBytes (v : Rat) : List Byte := leBytes 4 (F32.ofRat v).toNat

/-- The signed number that `n` bytes spell. -/
def leInt (bs : List Byte) : Int :=
  let v := leNat bs
  if v < 2 ^ (8 * bs.length - 1) then v else (v : Int) - 2 ^ (8 * bs.length)

/-- `n` bytes of a signed number in two's complement. -/
def intBytes (n : Nat) (v : Int) : List Byte := leBytes n (v % (2 ^ (8 * n) : Int)).toNat

/-- One step of the CRC-32 (IEEE 802.3, reflected) over one bit. -/
def crcBits : Nat → BitVec 32 → BitVec 32
  | 0, c => c
  | n + 1, c => crcBits n (if c.getLsbD 0 then (c >>> 1) ^^^ 0xEDB88320 else c >>> 1)

/-- The CRC-32 register after a list of bytes. -/
def crcRun : List Byte → BitVec 32 → BitVec 32
  | [], c => c
  | b :: bs, c => crcRun bs (crcBits 8 (c ^^^ b.setWidth 32))

/-- The CRC-32 of R11's objects. -/
def crc32 (bs : List Byte) : BitVec 32 := ~~~ (crcRun bs 0xFFFFFFFF)

/-- Entry `i` of a list, or the default `d`. -/
def nth {α : Type} (l : List α) (i : Nat) (d : α) : α := l.getD i d

/-- A list with entry `i` replaced; unchanged where there is none. -/
def put {α : Type} (l : List α) (i : Nat) (v : α) : List α := l.set i v

end Sys2Proof.Machine
end

