-- ==== Sys2Proof/Machine/Objects.lean ====
section
/-! DEFINITION. The dictionary's objects: index, sub-indices, type, access, write level, presence, default and range, one row for each row
of the spec's object tables (R371 to R373, R379). -/
namespace Sys2Proof.Machine

/-- The types of CiA 301 that the dictionary uses (R371). -/
inductive Typ where
  | u8 | u16 | u32 | u64 | i16 | i32 | real | dom | str
  deriving DecidableEq, Repr

/-- The access attributes (R372). -/
inductive Acc where
  | ro | wo | rw | const
  deriving DecidableEq, Repr

/-- The kind of unit an object belongs to (R5): the unit number is the object's place in its family of indices, or in its run of sub-indices. -/
inductive Pres where
  | always | stage | phase | modIn | group | string | charger | berth | eth | can | twoWire | ddr | ring | stageSub | phaseSub | berthSub | stringSub
  deriving DecidableEq, Repr

/-- The values a write may give (the tables' notes). -/
inductive Rng where
  /-- Every value of the type; a REAL32 but NaN. -/
  | any
  /-- A value in one of the spans. -/
  | span (l : List (Rat × Rat))
  | positive | nonneg | nonzero
  /-- A dead-time word (Table 05-2). -/
  | deadTime
  /-- Bits 0, 6 and 7 are 0 (Table 11-6). -/
  | irqMask
  deriving DecidableEq, Repr

/-- A row of an object table: first index, number of indices and their stride, first and last sub-index. -/
structure ObjRow where
  base : Nat
  n : Nat
  stride : Nat
  s0 : Nat
  s1 : Nat
  typ : Typ
  acc : Acc
  /-- Level a write needs: 0 user, 1 service, 2 factory (R373). -/
  level : Nat
  pres : Pres
  /-- The default: the raw value, where the table states one. -/
  dflt : Option Nat
  rng : Rng
  deriving DecidableEq, Repr

/-- Rows 0 on, ascending. -/
def objRows0 : List ObjRow := [
  ⟨0x1000, 1, 0x1, 0, 0, .u32, .ro, 0, .always, some 0, .any⟩,
  ⟨0x1001, 1, 0x1, 0, 0, .u8, .ro, 0, .always, none, .any⟩,
  ⟨0x1003, 1, 0x1, 0, 0, .u8, .rw, 0, .always, none, .span [(0, 0)]⟩,
  ⟨0x1003, 1, 0x1, 1, 16, .u32, .ro, 0, .always, none, .any⟩,
  ⟨0x1005, 1, 0x1, 0, 0, .u32, .rw, 0, .always, some 128, .any⟩,
  ⟨0x1006, 1, 0x1, 0, 0, .u32, .rw, 0, .always, some 0, .any⟩,
  ⟨0x1008, 1, 0x1, 0, 0, .str, .const, 0, .always, none, .any⟩,
  ⟨0x1009, 1, 0x1, 0, 0, .str, .const, 0, .always, none, .any⟩,
  ⟨0x100a, 1, 0x1, 0, 0, .str, .const, 0, .always, none, .any⟩,
  ⟨0x1010, 1, 0x1, 1, 1, .u32, .rw, 1, .always, some 1, .any⟩,
  ⟨0x1011, 1, 0x1, 1, 1, .u32, .rw, 0, .always, some 1, .any⟩,
  ⟨0x1012, 1, 0x1, 0, 0, .u32, .rw, 0, .always, some 256, .any⟩,
  ⟨0x1014, 1, 0x1, 0, 0, .u32, .rw, 0, .always, none, .any⟩,
  ⟨0x1015, 1, 0x1, 0, 0, .u16, .rw, 0, .always, some 0, .any⟩,
  ⟨0x1016, 1, 0x1, 1, 8, .u32, .rw, 0, .always, some 0, .any⟩,
  ⟨0x1017, 1, 0x1, 0, 0, .u16, .rw, 0, .always, some 0, .any⟩,
  ⟨0x1018, 1, 0x1, 1, 4, .u32, .const, 0, .always, none, .any⟩,
  ⟨0x1019, 1, 0x1, 0, 0, .u8, .rw, 0, .always, some 0, .span [(0, 0), (2, 240)]⟩,
  ⟨0x1200, 1, 0x1, 1, 2, .u32, .ro, 0, .always, none, .any⟩,
  ⟨0x1201, 3, 0x1, 1, 2, .u32, .rw, 0, .always, some 0x80000000, .any⟩,
  ⟨0x1400, 32, 0x1, 1, 1, .u32, .rw, 0, .always, some 0x80000000, .any⟩,
  ⟨0x1400, 32, 0x1, 2, 2, .u8, .rw, 0, .always, some 255, .span [(0, 240), (254, 255)]⟩,
  ⟨0x1600, 32, 0x1, 0, 0, .u8, .rw, 0, .always, some 0, .span [(0, 8)]⟩,
  ⟨0x1600, 32, 0x1, 1, 8, .u32, .rw, 0, .always, some 0, .any⟩,
  ⟨0x1800, 32, 0x1, 1, 1, .u32, .rw, 0, .always, some 0x80000000, .any⟩,
  ⟨0x1800, 32, 0x1, 2, 2, .u8, .rw, 0, .always, some 255, .span [(0, 240), (254, 255)]⟩,
  ⟨0x1800, 32, 0x1, 3, 3, .u16, .rw, 0, .always, some 0, .any⟩,
  ⟨0x1800, 32, 0x1, 5, 5, .u16, .rw, 0, .always, some 0, .any⟩,
  ⟨0x1a00, 32, 0x1, 0, 0, .u8, .rw, 0, .always, some 0, .span [(0, 8)]⟩,
  ⟨0x1a00, 32, 0x1, 1, 8, .u32, .rw, 0, .always, some 0, .any⟩,
  ⟨0x2001, 1, 0x1, 1, 1, .u16, .ro, 0, .always, none, .any⟩,
  ⟨0x2001, 1, 0x1, 2, 2, .str, .ro, 0, .always, none, .any⟩,
  ⟨0x2002, 1, 0x1, 1, 1, .u16, .const, 0, .always, none, .any⟩,
  ⟨0x2002, 1, 0x1, 2, 2, .u16, .const, 0, .always, none, .any⟩,
  ⟨0x2003, 1, 0x1, 0, 0, .u8, .const, 0, .always, some 3, .any⟩,
  ⟨0x2003, 1, 0x1, 1, 1, .u8, .ro, 0, .always, none, .any⟩,
  ⟨0x2003, 1, 0x1, 2, 2, .u8, .ro, 0, .always, none, .any⟩,
  ⟨0x2003, 1, 0x1, 3, 3, .u8, .ro, 0, .always, some 0, .any⟩,
  ⟨0x2010, 1, 0x1, 0, 0, .u8, .const, 0, .always, some 6, .any⟩,
  ⟨0x2010, 1, 0x1, 1, 1, .u32, .const, 0, .always, none, .any⟩,
  ⟨0x2010, 1, 0x1, 2, 2, .u8, .const, 0, .always, none, .any⟩,
  ⟨0x2010, 1, 0x1, 3, 3, .u64, .const, 0, .always, none, .any⟩,
  ⟨0x2010, 1, 0x1, 4, 4, .u8, .const, 0, .always, none, .any⟩,
  ⟨0x2010, 1, 0x1, 5, 5, .u64, .const, 0, .always, none, .any⟩,
  ⟨0x2010, 1, 0x1, 6, 6, .u32, .const, 0, .always, none, .any⟩,
  ⟨0x2020, 1, 0x1, 0, 0, .u8, .const, 0, .always, some 4, .any⟩,
  ⟨0x2020, 1, 0x1, 1, 1, .u8, .ro, 0, .always, some 0, .any⟩,
  ⟨0x2020, 1, 0x1, 2, 2, .dom, .ro, 0, .always, none, .any⟩,
  ⟨0x2020, 1, 0x1, 3, 3, .dom, .wo, 0, .always, none, .any⟩,
  ⟨0x2020, 1, 0x1, 4, 4, .u8, .wo, 0, .always, none, .span [(1, 1)]⟩,
  ⟨0x2021, 1, 0x1, 1, 1, .dom, .ro, 0, .always, none, .any⟩,
  ⟨0x2021, 1, 0x1, 2, 2, .dom, .const, 0, .always, none, .any⟩,
  ⟨0x2100, 1, 0x1, 0, 0, .u8, .const, 0, .always, some 4, .any⟩,
  ⟨0x2100, 1, 0x1, 1, 1, .u8, .ro, 0, .always, none, .any⟩,
  ⟨0x2100, 1, 0x1, 2, 2, .u8, .ro, 0, .always, some 1, .any⟩,
  ⟨0x2100, 1, 0x1, 3, 3, .u16, .ro, 0, .always, none, .any⟩,
  ⟨0x2100, 1, 0x1, 4, 4, .u32, .ro, 0, .always, none, .any⟩,
  ⟨0x2101, 1, 0x1, 0, 0, .u8, .const, 0, .always, some 4, .any⟩,
  ⟨0x2101, 1, 0x1, 1, 1, .u8, .rw, 0, .always, some 255, .any⟩,
  ⟨0x2101, 1, 0x1, 2, 2, .u8, .ro, 0, .always, some 0, .any⟩]

/-- Rows 60 on, ascending. -/
def objRows1 : List ObjRow := [
  ⟨0x2101, 1, 0x1, 3, 3, .u8, .rw, 0, .always, some 3, .span [(1, 3)]⟩,
  ⟨0x2101, 1, 0x1, 4, 4, .u8, .rw, 0, .always, some 0, .span [(0, 1)]⟩,
  ⟨0x2102, 1, 0x1, 0, 0, .u8, .const, 0, .always, some 9, .any⟩,
  ⟨0x2102, 1, 0x1, 1, 9, .u32, .ro, 0, .always, some 0xffffffff, .any⟩,
  ⟨0x2103, 1, 0x1, 0, 0, .u8, .const, 0, .always, some 6, .any⟩,
  ⟨0x2103, 1, 0x1, 1, 1, .u8, .rw, 0, .always, some 3, .span [(1, 3)]⟩,
  ⟨0x2103, 1, 0x1, 2, 2, .real, .rw, 0, .always, some 0x403ccccd, .span [((29 / 10), (16 / 5))]⟩,
  ⟨0x2103, 1, 0x1, 3, 3, .u8, .ro, 0, .always, none, .any⟩,
  ⟨0x2103, 1, 0x1, 4, 4, .u32, .ro, 0, .always, none, .any⟩,
  ⟨0x2103, 1, 0x1, 5, 5, .u32, .ro, 0, .always, none, .any⟩,
  ⟨0x2103, 1, 0x1, 6, 6, .u32, .ro, 0, .always, none, .any⟩,
  ⟨0x2200, 1, 0x1, 0, 0, .u8, .const, 0, .always, some 5, .any⟩,
  ⟨0x2200, 1, 0x1, 1, 1, .u16, .ro, 0, .always, some 0, .any⟩,
  ⟨0x2200, 1, 0x1, 2, 2, .u8, .ro, 0, .always, some 255, .any⟩,
  ⟨0x2200, 1, 0x1, 3, 3, .u32, .ro, 0, .always, some 0, .any⟩,
  ⟨0x2200, 1, 0x1, 4, 4, .u32, .ro, 0, .always, some 0, .any⟩,
  ⟨0x2200, 1, 0x1, 5, 5, .u64, .ro, 0, .always, some 0, .any⟩,
  ⟨0x2201, 10, 0x1, 0, 0, .u8, .const, 0, .always, some 11, .any⟩,
  ⟨0x2201, 10, 0x1, 1, 1, .u16, .ro, 0, .always, none, .any⟩,
  ⟨0x2201, 10, 0x1, 2, 2, .u16, .ro, 0, .always, some 0, .any⟩,
  ⟨0x2201, 10, 0x1, 3, 3, .u8, .rw, 0, .always, some 62, .irqMask⟩,
  ⟨0x2201, 10, 0x1, 4, 4, .u8, .rw, 0, .always, some 0, .any⟩,
  ⟨0x2201, 10, 0x1, 5, 5, .u32, .ro, 0, .always, some 0, .any⟩,
  ⟨0x2201, 10, 0x1, 6, 6, .u64, .ro, 0, .always, some 0, .any⟩,
  ⟨0x2201, 10, 0x1, 7, 7, .u64, .wo, 1, .always, none, .any⟩,
  ⟨0x2201, 10, 0x1, 8, 8, .u64, .rw, 0, .always, some 0, .any⟩,
  ⟨0x2201, 10, 0x1, 9, 9, .dom, .ro, 0, .always, none, .any⟩,
  ⟨0x2201, 10, 0x1, 10, 10, .dom, .ro, 0, .always, none, .any⟩,
  ⟨0x2201, 10, 0x1, 11, 11, .u32, .ro, 0, .always, some 0, .any⟩,
  ⟨0x2300, 1, 0x1, 1, 1, .u64, .ro, 0, .always, none, .any⟩,
  ⟨0x2300, 1, 0x1, 2, 2, .u8, .ro, 0, .always, none, .any⟩,
  ⟨0x2300, 1, 0x1, 3, 3, .u32, .ro, 0, .always, none, .any⟩,
  ⟨0x2310, 1, 0x1, 0, 0, .u8, .const, 0, .always, some 17, .any⟩,
  ⟨0x2310, 1, 0x1, 1, 1, .u64, .wo, 0, .always, none, .span [(1, 18446744073709551615)]⟩,
  ⟨0x2310, 1, 0x1, 2, 2, .i32, .wo, 0, .always, none, .span [((-500000000), 500000000)]⟩,
  ⟨0x2310, 1, 0x1, 3, 3, .u8, .rw, 0, .always, some 0, .span [(0, 1)]⟩,
  ⟨0x2310, 1, 0x1, 4, 4, .i16, .rw, 0, .always, some 37, .span [(0, 100)]⟩,
  ⟨0x2310, 1, 0x1, 5, 5, .u8, .ro, 0, .always, some 0, .any⟩,
  ⟨0x2310, 1, 0x1, 6, 6, .u32, .rw, 0, .always, some 0x15180, .span [(0, 2592000)]⟩,
  ⟨0x2310, 1, 0x1, 7, 7, .u8, .rw, 0, .always, some 0, .span [(0, 127)]⟩,
  ⟨0x2310, 1, 0x1, 8, 8, .u8, .rw, 0, .always, some 128, .any⟩,
  ⟨0x2310, 1, 0x1, 9, 9, .u8, .rw, 0, .always, some 128, .any⟩,
  ⟨0x2310, 1, 0x1, 10, 10, .i16, .rw, 0, .always, some 0, .span [((-4), 1)]⟩,
  ⟨0x2310, 1, 0x1, 11, 11, .i16, .rw, 0, .always, some 1, .span [(0, 4)]⟩,
  ⟨0x2310, 1, 0x1, 12, 12, .i16, .rw, 0, .always, some 0, .span [((-4), 5)]⟩,
  ⟨0x2310, 1, 0x1, 13, 13, .u8, .ro, 0, .always, some 248, .any⟩,
  ⟨0x2310, 1, 0x1, 14, 14, .u8, .rw, 0, .always, none, .span [(23, 49), (254, 254)]⟩,
  ⟨0x2310, 1, 0x1, 15, 15, .u16, .rw, 0, .always, some 100, .span [(1, 500)]⟩,
  ⟨0x2310, 1, 0x1, 16, 16, .u64, .ro, 0, .always, none, .any⟩,
  ⟨0x2310, 1, 0x1, 17, 17, .u8, .ro, 0, .always, some 0, .any⟩,
  ⟨0x2400, 1, 0x1, 0, 0, .u8, .const, 0, .always, some 17, .any⟩,
  ⟨0x2400, 1, 0x1, 1, 1, .u8, .ro, 0, .always, none, .any⟩,
  ⟨0x2400, 1, 0x1, 2, 2, .u8, .ro, 0, .always, none, .any⟩,
  ⟨0x2400, 1, 0x1, 3, 3, .u8, .ro, 0, .always, none, .any⟩,
  ⟨0x2400, 1, 0x1, 4, 4, .u8, .ro, 0, .always, none, .any⟩,
  ⟨0x2400, 1, 0x1, 5, 5, .u8, .ro, 0, .always, none, .any⟩,
  ⟨0x2400, 1, 0x1, 6, 6, .u8, .ro, 0, .always, none, .any⟩,
  ⟨0x2400, 1, 0x1, 7, 10, .u32, .ro, 0, .always, none, .any⟩,
  ⟨0x2400, 1, 0x1, 11, 11, .u32, .ro, 0, .always, none, .any⟩,
  ⟨0x2400, 1, 0x1, 12, 12, .u32, .ro, 0, .always, none, .any⟩]

/-- Rows 120 on, ascending. -/
def objRows2 : List ObjRow := [
  ⟨0x2400, 1, 0x1, 13, 13, .dom, .ro, 0, .always, none, .any⟩,
  ⟨0x2400, 1, 0x1, 14, 14, .dom, .ro, 0, .always, none, .any⟩,
  ⟨0x2400, 1, 0x1, 15, 15, .u16, .ro, 0, .always, none, .any⟩,
  ⟨0x2400, 1, 0x1, 16, 16, .u8, .ro, 0, .always, some 0, .any⟩,
  ⟨0x2400, 1, 0x1, 17, 17, .u8, .ro, 0, .always, some 0, .any⟩,
  ⟨0x2401, 1, 0x1, 0, 0, .u8, .const, 0, .always, some 6, .any⟩,
  ⟨0x2401, 1, 0x1, 1, 1, .u8, .rw, 1, .always, some 0, .span [(1, 2)]⟩,
  ⟨0x2401, 1, 0x1, 2, 2, .dom, .wo, 1, .always, none, .any⟩,
  ⟨0x2401, 1, 0x1, 3, 3, .u8, .rw, 0, .always, some 0, .span [(2, 2)]⟩,
  ⟨0x2401, 1, 0x1, 4, 4, .u8, .ro, 0, .always, some 0, .any⟩,
  ⟨0x2401, 1, 0x1, 5, 5, .u8, .ro, 0, .always, some 0, .any⟩,
  ⟨0x2401, 1, 0x1, 6, 6, .real, .ro, 0, .always, some 0, .any⟩,
  ⟨0x2402, 1, 0x1, 0, 0, .u8, .const, 0, .always, some 6, .any⟩,
  ⟨0x2402, 1, 0x1, 1, 1, .u8, .rw, 1, .always, some 0, .span [(1, 2)]⟩,
  ⟨0x2402, 1, 0x1, 2, 2, .u8, .ro, 0, .always, some 0, .any⟩,
  ⟨0x2402, 1, 0x1, 3, 3, .u8, .ro, 0, .always, some 0, .any⟩,
  ⟨0x2402, 1, 0x1, 4, 4, .real, .ro, 0, .always, some 0, .any⟩,
  ⟨0x2402, 1, 0x1, 5, 5, .u8, .rw, 1, .always, some 0, .span [(1, 2)]⟩,
  ⟨0x2402, 1, 0x1, 6, 6, .u8, .ro, 0, .always, some 0, .any⟩,
  ⟨0x2403, 1, 0x1, 1, 1, .u16, .ro, 0, .always, some 0, .any⟩,
  ⟨0x2403, 1, 0x1, 2, 2, .u8, .wo, 0, .always, none, .span [(1, 1)]⟩,
  ⟨0x2404, 1, 0x1, 1, 1, .dom, .rw, 2, .always, none, .any⟩,
  ⟨0x2404, 1, 0x1, 2, 2, .dom, .rw, 2, .always, none, .any⟩,
  ⟨0x2500, 1, 0x1, 0, 0, .u8, .const, 0, .always, some 25, .any⟩,
  ⟨0x2500, 1, 0x1, 1, 1, .u8, .ro, 0, .always, some 2, .any⟩,
  ⟨0x2500, 1, 0x1, 2, 2, .u8, .ro, 0, .always, some 255, .any⟩,
  ⟨0x2500, 1, 0x1, 3, 3, .u8, .ro, 0, .always, some 0, .any⟩,
  ⟨0x2500, 1, 0x1, 4, 4, .u8, .ro, 0, .always, none, .any⟩,
  ⟨0x2500, 1, 0x1, 5, 5, .u8, .ro, 0, .always, none, .any⟩,
  ⟨0x2500, 1, 0x1, 6, 6, .u8, .ro, 0, .always, some 0, .any⟩,
  ⟨0x2500, 1, 0x1, 7, 7, .u8, .rw, 0, .always, some 0, .span [(0, 1)]⟩,
  ⟨0x2500, 1, 0x1, 8, 8, .u8, .ro, 0, .always, some 0, .any⟩,
  ⟨0x2500, 1, 0x1, 9, 9, .u8, .rw, 1, .always, some 1, .span [(0, 1)]⟩,
  ⟨0x2500, 1, 0x1, 10, 10, .u8, .ro, 0, .always, some 0, .any⟩,
  ⟨0x2500, 1, 0x1, 11, 11, .u32, .ro, 0, .always, some 0, .any⟩,
  ⟨0x2500, 1, 0x1, 12, 12, .real, .ro, 0, .always, some 0, .any⟩,
  ⟨0x2500, 1, 0x1, 13, 13, .real, .ro, 0, .always, some 0, .any⟩,
  ⟨0x2500, 1, 0x1, 14, 14, .real, .rw, 0, .always, some 0x3a83126f, .span [((1 / 10000), (1 / 10))]⟩,
  ⟨0x2500, 1, 0x1, 15, 15, .u32, .ro, 0, .always, some 0, .any⟩,
  ⟨0x2500, 1, 0x1, 16, 16, .real, .ro, 0, .always, some 0, .any⟩,
  ⟨0x2500, 1, 0x1, 17, 17, .real, .ro, 0, .always, some 0, .any⟩,
  ⟨0x2500, 1, 0x1, 18, 18, .u16, .ro, 0, .always, some 0, .any⟩,
  ⟨0x2500, 1, 0x1, 19, 19, .u32, .ro, 0, .always, some 0, .any⟩,
  ⟨0x2500, 1, 0x1, 20, 20, .u32, .ro, 0, .always, some 0, .any⟩,
  ⟨0x2500, 1, 0x1, 21, 21, .u16, .ro, 0, .always, none, .any⟩,
  ⟨0x2500, 1, 0x1, 22, 22, .real, .ro, 0, .always, some 0, .any⟩,
  ⟨0x2500, 1, 0x1, 23, 23, .real, .ro, 0, .always, some 0, .any⟩,
  ⟨0x2500, 1, 0x1, 24, 24, .u32, .ro, 0, .always, some 0, .any⟩,
  ⟨0x2500, 1, 0x1, 25, 25, .real, .rw, 0, .always, some 0x3a83126f, .span [((1 / 1000000), (1 / 10))]⟩,
  ⟨0x2600, 1, 0x1, 0, 0, .u8, .const, 0, .always, some 14, .any⟩,
  ⟨0x2600, 1, 0x1, 1, 1, .u8, .ro, 0, .always, some 0, .any⟩,
  ⟨0x2600, 1, 0x1, 2, 2, .u8, .ro, 0, .always, none, .any⟩,
  ⟨0x2600, 1, 0x1, 3, 3, .real, .ro, 0, .always, none, .any⟩,
  ⟨0x2600, 1, 0x1, 4, 4, .real, .ro, 0, .always, none, .any⟩,
  ⟨0x2600, 1, 0x1, 5, 5, .real, .rw, 0, .always, some 0x42480000, .span [(20, 200)]⟩,
  ⟨0x2600, 1, 0x1, 6, 6, .real, .rw, 0, .always, some 0x41a00000, .span [(5, 200)]⟩,
  ⟨0x2600, 1, 0x1, 7, 7, .u32, .rw, 0, .always, some 60, .span [(10, 86400)]⟩,
  ⟨0x2600, 1, 0x1, 8, 8, .u32, .ro, 0, .always, some 0, .any⟩,
  ⟨0x2600, 1, 0x1, 9, 9, .u8, .wo, 2, .always, none, .span [(1, 1)]⟩,
  ⟨0x2600, 1, 0x1, 10, 10, .u32, .rw, 0, .always, some 600, .span [(60, 86400), (0, 0)]⟩]

/-- Rows 180 on, ascending. -/
def objRows3 : List ObjRow := [
  ⟨0x2600, 1, 0x1, 11, 11, .real, .rw, 0, .always, some 0x3c23d70a, .span [(0, (1 / 2))]⟩,
  ⟨0x2600, 1, 0x1, 12, 12, .real, .rw, 0, .always, some 0x3e4ccccd, .span [(0, 1)]⟩,
  ⟨0x2600, 1, 0x1, 13, 13, .real, .rw, 0, .always, some 0x3fc00000, .span [((11 / 10), 5)]⟩,
  ⟨0x2600, 1, 0x1, 14, 14, .real, .rw, 0, .always, some 0x3f4ccccd, .span [((1 / 2), (99 / 100))]⟩,
  ⟨0x2601, 1, 0x1, 1, 16, .real, .ro, 0, .always, none, .any⟩,
  ⟨0x2602, 1, 0x1, 1, 8, .u8, .ro, 0, .always, none, .any⟩,
  ⟨0x2603, 1, 0x1, 1, 24, .real, .ro, 0, .phaseSub, some 0x3f800000, .any⟩,
  ⟨0x2604, 1, 0x1, 1, 24, .real, .ro, 0, .phaseSub, none, .any⟩,
  ⟨0x2605, 1, 0x1, 1, 8, .real, .ro, 0, .stageSub, none, .any⟩,
  ⟨0x2700, 1, 0x1, 0, 0, .u8, .const, 1, .always, some 3, .any⟩,
  ⟨0x2700, 1, 0x1, 1, 1, .u8, .rw, 1, .always, some 0, .span [(0, 8)]⟩,
  ⟨0x2700, 1, 0x1, 2, 2, .u8, .rw, 1, .always, some 0, .span [(0, 8)]⟩,
  ⟨0x2700, 1, 0x1, 3, 3, .u8, .rw, 1, .always, some 0, .span [(0, 6)]⟩,
  ⟨0x2710, 1, 0x1, 1, 32, .u8, .rw, 1, .always, some 0, .span [(0, 2)]⟩,
  ⟨0x2711, 1, 0x1, 1, 1, .real, .rw, 0, .always, some 0x40a00000, .span [((1 / 2), 10)]⟩,
  ⟨0x2720, 1, 0x1, 1, 1, .u64, .rw, 1, .ddr, some 0, .any⟩,
  ⟨0x2720, 1, 0x1, 2, 2, .u16, .rw, 1, .ddr, some 0, .any⟩,
  ⟨0x2720, 1, 0x1, 3, 3, .u64, .rw, 1, .ddr, some 0, .any⟩,
  ⟨0x2720, 1, 0x1, 4, 4, .u8, .rw, 1, .ddr, some 0, .span [(1, 1)]⟩,
  ⟨0x2800, 1, 0x1, 1, 1, .u8, .rw, 0, .always, none, .span [(0, 1)]⟩,
  ⟨0x3000, 8, 0x100, 0, 0, .u8, .const, 0, .stage, some 21, .any⟩,
  ⟨0x3000, 8, 0x100, 1, 1, .u8, .ro, 0, .stage, none, .any⟩,
  ⟨0x3000, 8, 0x100, 2, 2, .u8, .ro, 0, .stage, none, .any⟩,
  ⟨0x3000, 8, 0x100, 3, 3, .u8, .ro, 0, .stage, none, .any⟩,
  ⟨0x3000, 8, 0x100, 4, 4, .u32, .ro, 0, .stage, none, .any⟩,
  ⟨0x3000, 8, 0x100, 5, 5, .u8, .ro, 0, .stage, none, .any⟩,
  ⟨0x3000, 8, 0x100, 6, 6, .u32, .ro, 0, .stage, none, .any⟩,
  ⟨0x3000, 8, 0x100, 7, 7, .u8, .rw, 0, .stage, some 0, .span [(0, 1)]⟩,
  ⟨0x3000, 8, 0x100, 8, 8, .u16, .ro, 0, .stage, none, .any⟩,
  ⟨0x3000, 8, 0x100, 9, 9, .u32, .ro, 0, .stage, some 0, .any⟩,
  ⟨0x3000, 8, 0x100, 10, 10, .u8, .ro, 0, .stage, some 255, .any⟩,
  ⟨0x3000, 8, 0x100, 11, 11, .real, .rw, 0, .stage, some 0x3dcccccd, .span [((1 / 1000), 10), (0, 0)]⟩,
  ⟨0x3000, 8, 0x100, 12, 12, .u8, .rw, 0, .stage, some 1, .span [(0, 1)]⟩,
  ⟨0x3000, 8, 0x100, 13, 13, .real, .ro, 0, .stage, some 0, .any⟩,
  ⟨0x3000, 8, 0x100, 14, 14, .u16, .rw, 0, .stage, some 0, .span [(0, 12800)]⟩,
  ⟨0x3000, 8, 0x100, 15, 15, .u8, .rw, 0, .stage, some 2, .span [(1, 16), (0, 0)]⟩,
  ⟨0x3000, 8, 0x100, 16, 16, .u32, .rw, 0, .stage, some 1000, .span [(50, 10000)]⟩,
  ⟨0x3000, 8, 0x100, 17, 17, .u8, .rw, 0, .stage, some 8, .span [(1, 255), (0, 0)]⟩,
  ⟨0x3000, 8, 0x100, 18, 18, .u8, .ro, 0, .stage, none, .any⟩,
  ⟨0x3000, 8, 0x100, 19, 19, .u8, .ro, 0, .stage, none, .any⟩,
  ⟨0x3000, 8, 0x100, 20, 20, .u8, .ro, 0, .stage, none, .any⟩,
  ⟨0x3000, 8, 0x100, 21, 21, .u8, .ro, 0, .stage, none, .any⟩,
  ⟨0x3001, 8, 0x100, 1, 8, .u32, .rw, 0, .stage, none, .deadTime⟩,
  ⟨0x3002, 8, 0x100, 1, 12, .u16, .rw, 0, .stage, none, .any⟩,
  ⟨0x3003, 8, 0x100, 1, 132, .u16, .rw, 0, .stage, none, .any⟩,
  ⟨0x3004, 8, 0x100, 1, 4, .u32, .rw, 0, .stage, none, .any⟩,
  ⟨0x3005, 8, 0x100, 1, 64, .real, .rw, 0, .stage, none, .any⟩,
  ⟨0x3006, 8, 0x100, 1, 1, .real, .ro, 0, .stage, some 0, .any⟩,
  ⟨0x3006, 8, 0x100, 2, 2, .real, .ro, 0, .stage, some 0, .any⟩,
  ⟨0x3800, 24, 0x1, 0, 0, .u8, .const, 0, .phase, some 14, .any⟩,
  ⟨0x3800, 24, 0x1, 1, 1, .u16, .ro, 0, .phase, none, .any⟩,
  ⟨0x3800, 24, 0x1, 2, 2, .u8, .ro, 0, .phase, some 255, .any⟩,
  ⟨0x3800, 24, 0x1, 3, 3, .u8, .rw, 0, .phase, none, .span [(0, 2)]⟩,
  ⟨0x3800, 24, 0x1, 4, 4, .u8, .rw, 0, .phase, some 1, .span [(0, 1)]⟩,
  ⟨0x3800, 24, 0x1, 5, 5, .u8, .ro, 0, .phase, some 0, .any⟩,
  ⟨0x3800, 24, 0x1, 6, 6, .real, .ro, 0, .phase, some 0, .any⟩,
  ⟨0x3800, 24, 0x1, 7, 7, .real, .ro, 0, .phase, some 0, .any⟩,
  ⟨0x3800, 24, 0x1, 8, 8, .u32, .ro, 0, .phase, some 0, .any⟩,
  ⟨0x3800, 24, 0x1, 9, 9, .i16, .rw, 0, .phase, some 0, .span [((-255), 255)]⟩,
  ⟨0x3800, 24, 0x1, 10, 10, .real, .rw, 0, .phase, none, .positive⟩]

/-- Rows 240 on, ascending. -/
def objRows4 : List ObjRow := [
  ⟨0x3800, 24, 0x1, 11, 11, .u32, .ro, 0, .phase, some 0, .any⟩,
  ⟨0x3800, 24, 0x1, 12, 12, .u32, .ro, 0, .phase, some 0, .any⟩,
  ⟨0x3800, 24, 0x1, 13, 13, .u32, .ro, 0, .phase, some 0, .any⟩,
  ⟨0x3800, 24, 0x1, 14, 14, .u8, .ro, 0, .phase, none, .any⟩,
  ⟨0x3900, 64, 0x1, 0, 0, .u8, .const, 0, .always, some 17, .any⟩,
  ⟨0x3900, 64, 0x1, 1, 1, .u16, .ro, 0, .always, none, .any⟩,
  ⟨0x3900, 64, 0x1, 2, 2, .u8, .ro, 0, .always, some 255, .any⟩,
  ⟨0x3900, 64, 0x1, 3, 3, .u8, .ro, 0, .always, some 255, .any⟩,
  ⟨0x3900, 64, 0x1, 4, 4, .u8, .ro, 0, .always, some 0, .any⟩,
  ⟨0x3900, 64, 0x1, 5, 5, .u8, .ro, 0, .always, some 0, .any⟩,
  ⟨0x3900, 64, 0x1, 6, 6, .real, .ro, 0, .always, none, .any⟩,
  ⟨0x3900, 64, 0x1, 7, 7, .real, .ro, 0, .always, some 0, .any⟩,
  ⟨0x3900, 64, 0x1, 8, 8, .real, .ro, 0, .always, some 0, .any⟩,
  ⟨0x3900, 64, 0x1, 9, 9, .real, .rw, 0, .always, none, .any⟩,
  ⟨0x3900, 64, 0x1, 10, 10, .real, .rw, 0, .always, none, .any⟩,
  ⟨0x3900, 64, 0x1, 11, 11, .u32, .ro, 0, .always, none, .any⟩,
  ⟨0x3900, 64, 0x1, 12, 12, .real, .ro, 0, .always, none, .any⟩,
  ⟨0x3900, 64, 0x1, 13, 13, .u32, .ro, 0, .always, some 0, .any⟩,
  ⟨0x3900, 64, 0x1, 14, 14, .u32, .ro, 0, .always, some 0, .any⟩,
  ⟨0x3900, 64, 0x1, 15, 15, .u32, .ro, 0, .always, some 0, .any⟩,
  ⟨0x3900, 64, 0x1, 16, 16, .u32, .ro, 0, .always, some 0, .any⟩,
  ⟨0x3900, 64, 0x1, 17, 17, .u8, .rw, 0, .always, some 4, .any⟩,
  ⟨0x3a00, 1, 0x1, 0, 0, .u8, .const, 0, .always, some 13, .any⟩,
  ⟨0x3a00, 1, 0x1, 1, 1, .u8, .ro, 0, .always, none, .any⟩,
  ⟨0x3a00, 1, 0x1, 2, 2, .u16, .ro, 0, .always, none, .any⟩,
  ⟨0x3a00, 1, 0x1, 3, 3, .u32, .ro, 0, .always, none, .any⟩,
  ⟨0x3a00, 1, 0x1, 4, 4, .u8, .ro, 0, .always, none, .any⟩,
  ⟨0x3a00, 1, 0x1, 5, 5, .u8, .ro, 0, .always, none, .any⟩,
  ⟨0x3a00, 1, 0x1, 6, 6, .u8, .ro, 0, .always, some 0, .any⟩,
  ⟨0x3a00, 1, 0x1, 7, 7, .u8, .ro, 0, .always, none, .any⟩,
  ⟨0x3a00, 1, 0x1, 8, 8, .u8, .ro, 0, .always, none, .any⟩,
  ⟨0x3a00, 1, 0x1, 9, 9, .real, .ro, 0, .always, some 0x4dbebc20, .any⟩,
  ⟨0x3a00, 1, 0x1, 10, 10, .u8, .ro, 0, .always, some 0, .any⟩,
  ⟨0x3a00, 1, 0x1, 11, 11, .u16, .ro, 0, .always, none, .any⟩,
  ⟨0x3a00, 1, 0x1, 12, 12, .u32, .ro, 0, .always, some 0, .any⟩,
  ⟨0x3a00, 1, 0x1, 13, 13, .u32, .ro, 0, .always, some 0, .any⟩,
  ⟨0x3a10, 8, 0x1, 0, 0, .u8, .const, 0, .always, some 7, .any⟩,
  ⟨0x3a10, 8, 0x1, 1, 1, .u16, .ro, 0, .always, none, .any⟩,
  ⟨0x3a10, 8, 0x1, 2, 2, .u8, .ro, 0, .always, none, .any⟩,
  ⟨0x3a10, 8, 0x1, 3, 3, .real, .ro, 0, .always, some 0, .any⟩,
  ⟨0x3a10, 8, 0x1, 4, 4, .real, .ro, 0, .always, some 0, .any⟩,
  ⟨0x3a10, 8, 0x1, 5, 5, .u8, .ro, 0, .always, some 0, .any⟩,
  ⟨0x3a10, 8, 0x1, 6, 6, .u32, .ro, 0, .always, some 0, .any⟩,
  ⟨0x3a10, 8, 0x1, 7, 7, .u8, .ro, 0, .always, none, .any⟩,
  ⟨0x3a80, 8, 0x1, 1, 128, .u16, .ro, 0, .always, none, .any⟩,
  ⟨0x3ac0, 8, 0x1, 1, 128, .u16, .ro, 0, .always, none, .any⟩,
  ⟨0x3b00, 16, 0x1, 0, 0, .u8, .const, 0, .always, some 19, .any⟩,
  ⟨0x3b00, 16, 0x1, 1, 1, .u16, .ro, 0, .always, none, .any⟩,
  ⟨0x3b00, 16, 0x1, 2, 2, .real, .rw, 0, .always, none, .any⟩,
  ⟨0x3b00, 16, 0x1, 3, 3, .real, .ro, 0, .always, none, .any⟩,
  ⟨0x3b00, 16, 0x1, 4, 4, .real, .ro, 0, .always, some 0, .any⟩,
  ⟨0x3b00, 16, 0x1, 5, 5, .real, .ro, 0, .always, some 0, .any⟩,
  ⟨0x3b00, 16, 0x1, 6, 6, .real, .rw, 0, .always, none, .positive⟩,
  ⟨0x3b00, 16, 0x1, 7, 7, .real, .rw, 0, .always, none, .positive⟩,
  ⟨0x3b00, 16, 0x1, 8, 8, .real, .rw, 0, .always, none, .positive⟩,
  ⟨0x3b00, 16, 0x1, 9, 9, .real, .rw, 0, .always, none, .any⟩,
  ⟨0x3b00, 16, 0x1, 10, 10, .real, .rw, 0, .always, none, .any⟩,
  ⟨0x3b00, 16, 0x1, 11, 11, .u32, .ro, 0, .always, some 0, .any⟩,
  ⟨0x3b00, 16, 0x1, 12, 12, .u32, .ro, 0, .always, some 0, .any⟩,
  ⟨0x3b00, 16, 0x1, 13, 13, .u32, .ro, 0, .always, some 0, .any⟩]

/-- Rows 300 on, ascending. -/
def objRows5 : List ObjRow := [
  ⟨0x3b00, 16, 0x1, 14, 14, .u32, .ro, 0, .always, some 0, .any⟩,
  ⟨0x3b00, 16, 0x1, 15, 15, .real, .rw, 0, .always, none, .any⟩,
  ⟨0x3b00, 16, 0x1, 16, 16, .real, .rw, 0, .always, none, .any⟩,
  ⟨0x3b00, 16, 0x1, 17, 17, .real, .ro, 0, .always, none, .any⟩,
  ⟨0x3b00, 16, 0x1, 18, 18, .u8, .ro, 0, .always, none, .any⟩,
  ⟨0x3b00, 16, 0x1, 19, 19, .real, .ro, 0, .always, some 0, .any⟩,
  ⟨0x3c00, 8, 0x1, 0, 0, .u8, .const, 0, .always, some 23, .any⟩,
  ⟨0x3c00, 8, 0x1, 1, 1, .u16, .ro, 0, .always, none, .any⟩,
  ⟨0x3c00, 8, 0x1, 2, 2, .u16, .rw, 0, .always, none, .span [(0, 0), (16, 4096)]⟩,
  ⟨0x3c00, 8, 0x1, 3, 3, .u8, .rw, 0, .always, none, .span [(0, 1)]⟩,
  ⟨0x3c00, 8, 0x1, 4, 4, .u8, .rw, 0, .always, none, .span [(0, 3)]⟩,
  ⟨0x3c00, 8, 0x1, 5, 5, .real, .rw, 0, .always, some 0, .any⟩,
  ⟨0x3c00, 8, 0x1, 6, 6, .real, .rw, 0, .always, some 0x40000000, .span [((1 / 10), 60)]⟩,
  ⟨0x3c00, 8, 0x1, 7, 7, .real, .rw, 0, .always, none, .any⟩,
  ⟨0x3c00, 8, 0x1, 8, 8, .real, .ro, 0, .always, some 0, .any⟩,
  ⟨0x3c00, 8, 0x1, 9, 9, .u16, .ro, 0, .always, some 0, .any⟩,
  ⟨0x3c00, 8, 0x1, 10, 10, .real, .rw, 0, .always, none, .any⟩,
  ⟨0x3c00, 8, 0x1, 11, 11, .real, .ro, 0, .always, none, .any⟩,
  ⟨0x3c00, 8, 0x1, 12, 12, .real, .rw, 0, .always, some 0x3f7fbe77, .span [((9 / 10), 1)]⟩,
  ⟨0x3c00, 8, 0x1, 13, 13, .real, .rw, 0, .always, none, .any⟩,
  ⟨0x3c00, 8, 0x1, 14, 14, .real, .rw, 0, .always, none, .positive⟩,
  ⟨0x3c00, 8, 0x1, 15, 15, .u8, .ro, 0, .always, none, .any⟩,
  ⟨0x3c00, 8, 0x1, 16, 16, .u8, .ro, 0, .always, none, .any⟩,
  ⟨0x3c00, 8, 0x1, 17, 17, .real, .ro, 0, .always, none, .any⟩,
  ⟨0x3c00, 8, 0x1, 18, 18, .real, .ro, 0, .always, some 0, .any⟩,
  ⟨0x3c00, 8, 0x1, 19, 19, .real, .ro, 0, .always, some 0, .any⟩,
  ⟨0x3c00, 8, 0x1, 20, 20, .real, .ro, 0, .always, some 0, .any⟩,
  ⟨0x3c00, 8, 0x1, 21, 21, .u32, .ro, 0, .always, some 0, .any⟩,
  ⟨0x3c00, 8, 0x1, 22, 22, .u8, .wo, 0, .always, none, .span [(1, 1)]⟩,
  ⟨0x3c00, 8, 0x1, 23, 23, .u8, .ro, 0, .always, none, .any⟩,
  ⟨0x3d00, 8, 0x1, 0, 0, .u8, .const, 0, .stage, some 108, .any⟩,
  ⟨0x3d00, 8, 0x1, 1, 1, .u16, .ro, 0, .stage, none, .any⟩,
  ⟨0x3d00, 8, 0x1, 2, 2, .u8, .rw, 0, .stage, none, .span [(0, 1)]⟩,
  ⟨0x3d00, 8, 0x1, 3, 3, .u16, .ro, 0, .stage, none, .any⟩,
  ⟨0x3d00, 8, 0x1, 4, 4, .u8, .ro, 0, .stage, none, .any⟩,
  ⟨0x3d00, 8, 0x1, 5, 5, .real, .rw, 0, .stage, some 0x3e800000, .span [(0, 1)]⟩,
  ⟨0x3d00, 8, 0x1, 6, 6, .real, .rw, 0, .stage, none, .positive⟩,
  ⟨0x3d00, 8, 0x1, 7, 7, .real, .rw, 0, .stage, some 0x3e4ccccd, .span [(0, 1)]⟩,
  ⟨0x3d00, 8, 0x1, 8, 8, .real, .rw, 0, .stage, none, .positive⟩,
  ⟨0x3d00, 8, 0x1, 9, 9, .real, .rw, 0, .stage, none, .positive⟩,
  ⟨0x3d00, 8, 0x1, 10, 10, .real, .rw, 0, .stage, none, .nonneg⟩,
  ⟨0x3d00, 8, 0x1, 11, 11, .u8, .rw, 0, .stage, some 3, .span [(1, 64)]⟩,
  ⟨0x3d00, 8, 0x1, 12, 12, .u16, .rw, 0, .stage, some 100, .any⟩,
  ⟨0x3d00, 8, 0x1, 13, 13, .real, .rw, 0, .stage, some 0x3f800000, .span [((1 / 100), 1), (0, 0)]⟩,
  ⟨0x3d00, 8, 0x1, 14, 14, .u16, .rw, 0, .stage, some 100, .span [(1, 65535)]⟩,
  ⟨0x3d00, 8, 0x1, 15, 15, .real, .ro, 0, .stage, none, .any⟩,
  ⟨0x3d00, 8, 0x1, 16, 16, .real, .ro, 0, .stage, some 0, .any⟩,
  ⟨0x3d00, 8, 0x1, 17, 17, .u32, .ro, 0, .stage, some 0, .any⟩,
  ⟨0x3d00, 8, 0x1, 18, 18, .u32, .ro, 0, .stage, some 0, .any⟩,
  ⟨0x3d00, 8, 0x1, 19, 19, .u32, .ro, 0, .stage, some 0, .any⟩,
  ⟨0x3d00, 8, 0x1, 20, 20, .u8, .ro, 0, .stage, some 0, .any⟩,
  ⟨0x3d00, 8, 0x1, 33, 44, .real, .ro, 0, .stage, none, .any⟩,
  ⟨0x3d00, 8, 0x1, 49, 60, .real, .ro, 0, .stage, none, .any⟩,
  ⟨0x3d00, 8, 0x1, 65, 76, .real, .ro, 0, .stage, some 0, .any⟩,
  ⟨0x3d00, 8, 0x1, 81, 92, .real, .ro, 0, .stage, some 0, .any⟩,
  ⟨0x3d00, 8, 0x1, 97, 108, .real, .ro, 0, .stage, some 0, .any⟩,
  ⟨0x4000, 48, 0x1, 0, 0, .u8, .const, 0, .modIn, some 20, .any⟩,
  ⟨0x4000, 48, 0x1, 1, 1, .u8, .rw, 0, .modIn, some 0, .span [(0, 255)]⟩,
  ⟨0x4000, 48, 0x1, 2, 2, .u16, .rw, 0, .modIn, some 64, .span [(16, 256)]⟩,
  ⟨0x4000, 48, 0x1, 3, 3, .u8, .rw, 0, .modIn, some 16, .span [(8, 32)]⟩]

/-- Rows 360 on, ascending. -/
def objRows6 : List ObjRow := [
  ⟨0x4000, 48, 0x1, 4, 4, .real, .rw, 0, .modIn, some 0x3f800000, .nonzero⟩,
  ⟨0x4000, 48, 0x1, 5, 5, .u8, .rw, 0, .modIn, some 0, .span [(0, 3)]⟩,
  ⟨0x4000, 48, 0x1, 6, 6, .real, .rw, 0, .modIn, some 0, .span [((-1 / 4), (1 / 4))]⟩,
  ⟨0x4000, 48, 0x1, 7, 7, .real, .rw, 0, .modIn, some 0x3f800000, .span [((1 / 2), 2)]⟩,
  ⟨0x4000, 48, 0x1, 8, 8, .u8, .rw, 0, .modIn, some 0, .span [(0, 255)]⟩,
  ⟨0x4000, 48, 0x1, 9, 9, .u16, .rw, 0, .modIn, some 0, .any⟩,
  ⟨0x4000, 48, 0x1, 10, 10, .real, .ro, 0, .modIn, none, .any⟩,
  ⟨0x4000, 48, 0x1, 11, 11, .real, .rw, 0, .modIn, none, .any⟩,
  ⟨0x4000, 48, 0x1, 12, 12, .real, .rw, 0, .modIn, none, .any⟩,
  ⟨0x4000, 48, 0x1, 13, 13, .real, .rw, 0, .modIn, some 0, .nonneg⟩,
  ⟨0x4000, 48, 0x1, 14, 14, .u8, .rw, 0, .modIn, some 0, .span [(0, 15)]⟩,
  ⟨0x4000, 48, 0x1, 15, 15, .u16, .rw, 0, .modIn, some 256, .span [(32, 4096)]⟩,
  ⟨0x4000, 48, 0x1, 16, 16, .real, .rw, 0, .modIn, some 0x3f733333, .span [((1 / 2), 1)]⟩,
  ⟨0x4000, 48, 0x1, 17, 17, .u16, .ro, 0, .modIn, none, .any⟩,
  ⟨0x4000, 48, 0x1, 18, 18, .real, .ro, 0, .modIn, none, .any⟩,
  ⟨0x4000, 48, 0x1, 19, 19, .u32, .ro, 0, .modIn, some 0, .any⟩,
  ⟨0x4000, 48, 0x1, 20, 20, .real, .ro, 0, .modIn, none, .any⟩,
  ⟨0x4030, 4, 0x1, 0, 0, .u8, .const, 0, .group, some 5, .any⟩,
  ⟨0x4030, 4, 0x1, 1, 1, .u8, .rw, 0, .group, some 0, .span [(0, 1)]⟩,
  ⟨0x4030, 4, 0x1, 2, 2, .u8, .rw, 0, .group, none, .span [(0, 3)]⟩,
  ⟨0x4030, 4, 0x1, 3, 3, .u8, .rw, 0, .group, some 255, .span [(0, 7), (255, 255)]⟩,
  ⟨0x4030, 4, 0x1, 4, 4, .u16, .ro, 0, .group, none, .any⟩,
  ⟨0x4030, 4, 0x1, 5, 5, .u32, .ro, 0, .group, some 0, .any⟩,
  ⟨0x4034, 1, 0x1, 0, 0, .u8, .const, 0, .always, some 8, .any⟩,
  ⟨0x4034, 1, 0x1, 1, 4, .u8, .rw, 0, .always, some 10, .span [(8, 40)]⟩,
  ⟨0x4034, 1, 0x1, 5, 8, .real, .ro, 0, .always, some 0x4b989680, .any⟩,
  ⟨0x4100, 1, 0x1, 0, 0, .u8, .const, 0, .always, some 8, .any⟩,
  ⟨0x4100, 1, 0x1, 1, 1, .u8, .rw, 0, .always, some 0, .span [(0, 32)]⟩,
  ⟨0x4100, 1, 0x1, 2, 2, .u32, .rw, 0, .always, some 0, .span [(0, 0), (10, 10000000)]⟩,
  ⟨0x4100, 1, 0x1, 3, 3, .u16, .ro, 0, .always, none, .any⟩,
  ⟨0x4100, 1, 0x1, 4, 4, .real, .ro, 0, .always, none, .any⟩,
  ⟨0x4100, 1, 0x1, 5, 5, .u32, .ro, 0, .always, some 0, .any⟩,
  ⟨0x4100, 1, 0x1, 6, 6, .u32, .ro, 0, .always, some 0, .any⟩,
  ⟨0x4100, 1, 0x1, 7, 7, .u16, .rw, 0, .always, some 50, .span [(10, 10000)]⟩,
  ⟨0x4100, 1, 0x1, 8, 8, .u16, .rw, 0, .always, some 100, .any⟩,
  ⟨0x4101, 1, 0x1, 1, 32, .u32, .rw, 0, .always, some 0, .any⟩,
  ⟨0x4102, 1, 0x1, 1, 32, .u32, .ro, 0, .always, some 0, .any⟩,
  ⟨0x4103, 1, 0x1, 1, 32, .real, .ro, 0, .always, some 0, .any⟩,
  ⟨0x4104, 1, 0x1, 1, 32, .real, .rw, 0, .always, some 0, .any⟩,
  ⟨0x4105, 1, 0x1, 1, 32, .real, .rw, 0, .always, some 0x3f99999a, .any⟩,
  ⟨0x4106, 1, 0x1, 1, 24, .u16, .ro, 0, .always, none, .any⟩,
  ⟨0x4200, 1, 0x1, 0, 0, .u8, .const, 0, .always, some 9, .any⟩,
  ⟨0x4200, 1, 0x1, 1, 1, .u8, .ro, 0, .always, none, .any⟩,
  ⟨0x4200, 1, 0x1, 2, 2, .real, .ro, 0, .always, none, .any⟩,
  ⟨0x4200, 1, 0x1, 3, 3, .real, .rw, 0, .always, some 0x42fa0000, .span [(100, 145)]⟩,
  ⟨0x4200, 1, 0x1, 4, 4, .real, .ro, 0, .ddr, none, .any⟩,
  ⟨0x4200, 1, 0x1, 5, 5, .real, .ro, 0, .ddr, some 0x3682dcbf, .any⟩,
  ⟨0x4200, 1, 0x1, 6, 6, .real, .rw, 0, .always, none, .any⟩,
  ⟨0x4200, 1, 0x1, 7, 7, .real, .rw, 0, .always, none, .any⟩,
  ⟨0x4200, 1, 0x1, 8, 8, .real, .ro, 0, .always, some 0, .any⟩,
  ⟨0x4200, 1, 0x1, 9, 9, .u16, .ro, 0, .always, none, .any⟩,
  ⟨0x4201, 1, 0x1, 1, 28, .real, .ro, 0, .always, none, .any⟩,
  ⟨0x4202, 1, 0x1, 1, 28, .u8, .ro, 0, .always, none, .any⟩,
  ⟨0x4203, 1, 0x1, 1, 28, .u32, .ro, 0, .always, none, .any⟩,
  ⟨0x4204, 1, 0x1, 1, 7, .real, .ro, 0, .always, none, .any⟩,
  ⟨0x4205, 1, 0x1, 1, 8, .u32, .ro, 0, .stageSub, none, .any⟩,
  ⟨0x4205, 1, 0x1, 9, 9, .u32, .ro, 0, .ddr, none, .any⟩,
  ⟨0x4206, 1, 0x1, 1, 16, .u8, .ro, 0, .always, none, .any⟩,
  ⟨0x4207, 1, 0x1, 1, 16, .real, .ro, 0, .always, none, .any⟩,
  ⟨0x4208, 1, 0x1, 1, 16, .real, .ro, 0, .always, none, .any⟩]

/-- Rows 420 on, ascending. -/
def objRows7 : List ObjRow := [
  ⟨0x4209, 1, 0x1, 1, 16, .real, .ro, 0, .always, none, .any⟩,
  ⟨0x4300, 1, 0x1, 0, 0, .u8, .const, 0, .always, some 6, .any⟩,
  ⟨0x4300, 1, 0x1, 1, 1, .u16, .ro, 0, .always, none, .any⟩,
  ⟨0x4300, 1, 0x1, 2, 2, .real, .rw, 0, .always, some 0x3f800000, .span [((1 / 10), 60), (0, 0)]⟩,
  ⟨0x4300, 1, 0x1, 3, 3, .real, .ro, 0, .always, some 0, .any⟩,
  ⟨0x4300, 1, 0x1, 4, 4, .u8, .rw, 0, .always, some 2, .span [(1, 255)]⟩,
  ⟨0x4300, 1, 0x1, 5, 5, .real, .ro, 0, .always, some 0, .any⟩,
  ⟨0x4300, 1, 0x1, 6, 6, .real, .ro, 0, .always, some 0, .any⟩,
  ⟨0x4304, 4, 0x1, 0, 0, .u8, .const, 0, .always, some 6, .any⟩,
  ⟨0x4304, 4, 0x1, 1, 1, .u16, .ro, 0, .always, none, .any⟩,
  ⟨0x4304, 4, 0x1, 2, 2, .u8, .rw, 0, .always, some 0, .span [(1, 3)]⟩,
  ⟨0x4304, 4, 0x1, 3, 3, .u8, .ro, 0, .always, none, .any⟩,
  ⟨0x4304, 4, 0x1, 4, 4, .u8, .ro, 0, .always, some 0, .any⟩,
  ⟨0x4304, 4, 0x1, 5, 5, .u8, .ro, 0, .always, some 0, .any⟩,
  ⟨0x4304, 4, 0x1, 6, 6, .real, .ro, 0, .always, some 0, .any⟩,
  ⟨0x4310, 32, 0x1, 0, 0, .u8, .const, 0, .always, some 19, .any⟩,
  ⟨0x4310, 32, 0x1, 1, 1, .u16, .ro, 0, .always, none, .any⟩,
  ⟨0x4310, 32, 0x1, 2, 2, .u8, .ro, 0, .always, none, .any⟩,
  ⟨0x4310, 32, 0x1, 3, 3, .u8, .ro, 0, .always, none, .any⟩,
  ⟨0x4310, 32, 0x1, 4, 4, .u8, .ro, 0, .always, none, .any⟩,
  ⟨0x4310, 32, 0x1, 5, 5, .u8, .ro, 0, .always, none, .any⟩,
  ⟨0x4310, 32, 0x1, 6, 6, .u8, .ro, 0, .always, none, .any⟩,
  ⟨0x4310, 32, 0x1, 7, 7, .u32, .ro, 0, .always, none, .any⟩,
  ⟨0x4310, 32, 0x1, 8, 8, .real, .ro, 0, .always, none, .any⟩,
  ⟨0x4310, 32, 0x1, 9, 9, .real, .rw, 0, .always, none, .span [(1, 30)]⟩,
  ⟨0x4310, 32, 0x1, 10, 10, .real, .rw, 0, .always, none, .span [(1, 30)]⟩,
  ⟨0x4310, 32, 0x1, 11, 11, .real, .rw, 0, .always, none, .any⟩,
  ⟨0x4310, 32, 0x1, 12, 12, .real, .ro, 0, .always, some 0, .any⟩,
  ⟨0x4310, 32, 0x1, 13, 13, .u32, .ro, 0, .always, some 0, .any⟩,
  ⟨0x4310, 32, 0x1, 14, 14, .u32, .ro, 0, .always, some 0, .any⟩,
  ⟨0x4310, 32, 0x1, 15, 15, .u32, .ro, 0, .always, some 0, .any⟩,
  ⟨0x4310, 32, 0x1, 16, 16, .u32, .ro, 0, .always, some 0, .any⟩,
  ⟨0x4310, 32, 0x1, 17, 17, .u32, .ro, 0, .always, some 0, .any⟩,
  ⟨0x4310, 32, 0x1, 18, 18, .u32, .ro, 0, .always, some 0, .any⟩,
  ⟨0x4310, 32, 0x1, 19, 19, .u8, .ro, 0, .always, some 0, .any⟩,
  ⟨0x4340, 4, 0x1, 1, 64, .u32, .ro, 0, .always, none, .any⟩,
  ⟨0x4344, 4, 0x1, 1, 64, .u32, .ro, 0, .always, none, .any⟩,
  ⟨0x4400, 4, 0x10, 0, 0, .u8, .const, 0, .always, some 28, .any⟩,
  ⟨0x4400, 4, 0x10, 1, 1, .u16, .ro, 0, .always, none, .any⟩,
  ⟨0x4400, 4, 0x10, 2, 2, .u8, .rw, 0, .always, none, .span [(0, 1)]⟩,
  ⟨0x4400, 4, 0x10, 3, 3, .u8, .ro, 0, .always, none, .any⟩,
  ⟨0x4400, 4, 0x10, 4, 4, .u8, .ro, 0, .always, none, .any⟩,
  ⟨0x4400, 4, 0x10, 5, 5, .u8, .ro, 0, .always, none, .any⟩,
  ⟨0x4400, 4, 0x10, 6, 6, .real, .ro, 0, .always, some 0, .any⟩,
  ⟨0x4400, 4, 0x10, 7, 7, .real, .ro, 0, .always, some 0, .any⟩,
  ⟨0x4400, 4, 0x10, 8, 8, .real, .ro, 0, .always, some 0, .any⟩,
  ⟨0x4400, 4, 0x10, 9, 9, .u64, .ro, 0, .always, none, .any⟩,
  ⟨0x4400, 4, 0x10, 10, 10, .u64, .ro, 0, .always, none, .any⟩,
  ⟨0x4400, 4, 0x10, 11, 11, .real, .rw, 0, .always, none, .any⟩,
  ⟨0x4400, 4, 0x10, 12, 12, .real, .rw, 0, .always, none, .span [((-(2 ^ 128)), 1200)]⟩,
  ⟨0x4400, 4, 0x10, 13, 13, .real, .rw, 0, .always, some 0x40000000, .span [((1 / 2), 20)]⟩,
  ⟨0x4400, 4, 0x10, 14, 14, .real, .rw, 0, .always, none, .nonneg⟩,
  ⟨0x4400, 4, 0x10, 15, 15, .u16, .rw, 0, .always, some 50, .span [(1, 1000)]⟩,
  ⟨0x4400, 4, 0x10, 16, 16, .real, .rw, 0, .always, none, .positive⟩,
  ⟨0x4400, 4, 0x10, 17, 17, .real, .rw, 0, .always, none, .nonneg⟩,
  ⟨0x4400, 4, 0x10, 18, 18, .real, .rw, 0, .always, none, .positive⟩,
  ⟨0x4400, 4, 0x10, 19, 19, .real, .rw, 0, .always, none, .positive⟩,
  ⟨0x4400, 4, 0x10, 20, 20, .u16, .rw, 0, .always, some 10, .span [(1, 100)]⟩,
  ⟨0x4400, 4, 0x10, 21, 21, .u16, .rw, 0, .always, some 100, .span [(1, 10000)]⟩,
  ⟨0x4400, 4, 0x10, 22, 22, .real, .rw, 0, .always, some 0x3f733333, .span [((4 / 5), (99 / 100))]⟩]

/-- Rows 480 on, ascending. -/
def objRows8 : List ObjRow := [
  ⟨0x4400, 4, 0x10, 23, 23, .u8, .rw, 0, .always, some 1, .span [(0, 3)]⟩,
  ⟨0x4400, 4, 0x10, 24, 24, .real, .rw, 0, .always, some 0x40a00000, .span [(1, 60)]⟩,
  ⟨0x4400, 4, 0x10, 25, 25, .real, .ro, 0, .always, some 0, .any⟩,
  ⟨0x4400, 4, 0x10, 26, 26, .u32, .ro, 0, .always, some 0, .any⟩,
  ⟨0x4400, 4, 0x10, 27, 27, .u32, .ro, 0, .always, some 0, .any⟩,
  ⟨0x4400, 4, 0x10, 28, 28, .u8, .ro, 0, .always, some 0, .any⟩,
  ⟨0x4500, 1, 0x1, 0, 0, .u8, .const, 0, .always, some 30, .any⟩,
  ⟨0x4500, 1, 0x1, 1, 1, .u16, .ro, 0, .always, none, .any⟩,
  ⟨0x4500, 1, 0x1, 2, 2, .real, .rw, 0, .always, none, .any⟩,
  ⟨0x4500, 1, 0x1, 3, 3, .u8, .ro, 0, .always, none, .any⟩,
  ⟨0x4500, 1, 0x1, 4, 4, .real, .rw, 0, .always, some 0x49127c00, .span [(0, 600000)]⟩,
  ⟨0x4500, 1, 0x1, 5, 5, .real, .rw, 0, .always, some 0x49127c00, .span [(0, 600000)]⟩,
  ⟨0x4500, 1, 0x1, 6, 6, .real, .rw, 0, .always, some 0x3f000000, .span [(0, 1)]⟩,
  ⟨0x4500, 1, 0x1, 7, 7, .real, .rw, 0, .always, some 0x41f00000, .span [(1, 600)]⟩,
  ⟨0x4500, 1, 0x1, 8, 8, .real, .ro, 0, .always, none, .any⟩,
  ⟨0x4500, 1, 0x1, 9, 9, .real, .ro, 0, .always, some 0, .any⟩,
  ⟨0x4500, 1, 0x1, 10, 10, .real, .ro, 0, .always, some 0, .any⟩,
  ⟨0x4500, 1, 0x1, 11, 11, .real, .ro, 0, .always, some 0, .any⟩,
  ⟨0x4500, 1, 0x1, 12, 12, .real, .ro, 0, .always, some 0, .any⟩,
  ⟨0x4500, 1, 0x1, 13, 13, .real, .ro, 0, .always, some 0, .any⟩,
  ⟨0x4500, 1, 0x1, 14, 14, .real, .ro, 0, .always, some 0, .any⟩,
  ⟨0x4500, 1, 0x1, 15, 15, .real, .ro, 0, .always, some 0, .any⟩,
  ⟨0x4500, 1, 0x1, 16, 16, .u8, .rw, 0, .always, some 1, .span [(0, 1)]⟩,
  ⟨0x4500, 1, 0x1, 17, 17, .real, .rw, 0, .always, some 0x40000000, .span [(0, 10)]⟩,
  ⟨0x4500, 1, 0x1, 18, 18, .real, .rw, 0, .always, some 0x3d4ccccd, .span [(0, (1 / 2))]⟩,
  ⟨0x4500, 1, 0x1, 19, 19, .real, .rw, 0, .always, none, .any⟩,
  ⟨0x4500, 1, 0x1, 20, 20, .u8, .ro, 0, .always, none, .any⟩,
  ⟨0x4500, 1, 0x1, 21, 21, .real, .rw, 0, .always, some 0x41200000, .span [(1, 100)]⟩,
  ⟨0x4500, 1, 0x1, 22, 22, .real, .rw, 0, .always, none, .nonneg⟩,
  ⟨0x4500, 1, 0x1, 23, 23, .real, .ro, 0, .always, some 0, .any⟩,
  ⟨0x4500, 1, 0x1, 24, 24, .real, .rw, 0, .always, none, .any⟩,
  ⟨0x4500, 1, 0x1, 25, 25, .real, .rw, 0, .always, some 0x469c4000, .span [(100, 1000000)]⟩,
  ⟨0x4500, 1, 0x1, 26, 26, .real, .ro, 0, .always, some 0, .any⟩,
  ⟨0x4500, 1, 0x1, 27, 27, .real, .rw, 0, .always, some 0x3d4ccccd, .positive⟩,
  ⟨0x4500, 1, 0x1, 28, 28, .real, .rw, 0, .always, some 0x41200000, .positive⟩,
  ⟨0x4500, 1, 0x1, 29, 29, .real, .rw, 0, .always, none, .any⟩,
  ⟨0x4500, 1, 0x1, 30, 30, .real, .rw, 0, .always, none, .nonneg⟩,
  ⟨0x4501, 1, 0x1, 0, 0, .u8, .const, 0, .always, some 13, .any⟩,
  ⟨0x4501, 1, 0x1, 1, 1, .u8, .ro, 0, .always, some 4, .any⟩,
  ⟨0x4501, 1, 0x1, 2, 2, .u8, .rw, 0, .always, some 0, .span [(0, 1)]⟩,
  ⟨0x4501, 1, 0x1, 3, 3, .u8, .rw, 0, .always, some 0, .span [(0, 1)]⟩,
  ⟨0x4501, 1, 0x1, 4, 4, .real, .const, 0, .always, some 0x3f000000, .any⟩,
  ⟨0x4501, 1, 0x1, 5, 5, .real, .const, 0, .always, some 0x40000000, .any⟩,
  ⟨0x4501, 1, 0x1, 6, 6, .real, .rw, 0, .always, some 0x3f800000, .span [((1 / 10), 30)]⟩,
  ⟨0x4501, 1, 0x1, 7, 7, .real, .rw, 0, .always, some 0x40a00000, .span [(2, 60)]⟩,
  ⟨0x4501, 1, 0x1, 8, 8, .u8, .ro, 0, .always, some 0, .any⟩,
  ⟨0x4501, 1, 0x1, 9, 9, .u64, .ro, 0, .always, some 0, .any⟩,
  ⟨0x4501, 1, 0x1, 10, 10, .u32, .ro, 0, .always, none, .any⟩,
  ⟨0x4501, 1, 0x1, 11, 11, .u32, .ro, 0, .always, some 0, .any⟩,
  ⟨0x4501, 1, 0x1, 12, 12, .u32, .ro, 0, .always, some 0, .any⟩,
  ⟨0x4501, 1, 0x1, 13, 13, .u32, .ro, 0, .always, some 0, .any⟩,
  ⟨0x4502, 1, 0x1, 1, 8, .real, .ro, 0, .stringSub, some 0, .any⟩,
  ⟨0x4502, 1, 0x1, 9, 16, .real, .ro, 0, .stringSub, some 0, .any⟩,
  ⟨0x4503, 1, 0x1, 1, 64, .real, .ro, 0, .berthSub, some 0, .any⟩,
  ⟨0x4503, 1, 0x1, 65, 128, .real, .ro, 0, .berthSub, none, .any⟩,
  ⟨0x4504, 1, 0x1, 1, 24, .real, .rw, 0, .phaseSub, some 0, .span [((-1 / 10), (1 / 10))]⟩,
  ⟨0x4505, 1, 0x1, 1, 8, .u8, .ro, 0, .stageSub, none, .any⟩,
  ⟨0x4506, 1, 0x1, 1, 8, .real, .ro, 0, .stageSub, none, .any⟩,
  ⟨0x4600, 1, 0x1, 0, 0, .u8, .const, 0, .always, some 20, .any⟩,
  ⟨0x4600, 1, 0x1, 1, 1, .u16, .ro, 0, .always, none, .any⟩]

/-- Rows 540 on, ascending. -/
def objRows9 : List ObjRow := [
  ⟨0x4600, 1, 0x1, 2, 2, .u8, .ro, 0, .ddr, none, .any⟩,
  ⟨0x4600, 1, 0x1, 3, 3, .u8, .ro, 0, .ddr, none, .any⟩,
  ⟨0x4600, 1, 0x1, 4, 4, .u64, .ro, 0, .ddr, none, .any⟩,
  ⟨0x4600, 1, 0x1, 5, 5, .u8, .rw, 1, .ddr, some 0, .span [(0, 1)]⟩,
  ⟨0x4600, 1, 0x1, 6, 6, .u8, .ro, 0, .ddr, some 0, .any⟩,
  ⟨0x4600, 1, 0x1, 7, 7, .real, .ro, 0, .ddr, some 0, .any⟩,
  ⟨0x4600, 1, 0x1, 8, 8, .real, .ro, 0, .ddr, some 0, .any⟩,
  ⟨0x4600, 1, 0x1, 9, 9, .u32, .ro, 0, .ddr, some 0, .any⟩,
  ⟨0x4600, 1, 0x1, 10, 10, .u32, .rw, 0, .ddr, some 600, .span [(0, 0), (60, 86400)]⟩,
  ⟨0x4600, 1, 0x1, 11, 11, .u16, .rw, 0, .ddr, some 16, .span [(1, 65535)]⟩,
  ⟨0x4600, 1, 0x1, 12, 12, .u32, .rw, 0, .ddr, some 60000, .span [(1, 3600000)]⟩,
  ⟨0x4600, 1, 0x1, 13, 13, .u32, .ro, 0, .ddr, some 0, .any⟩,
  ⟨0x4600, 1, 0x1, 14, 14, .u32, .ro, 0, .ddr, some 0, .any⟩,
  ⟨0x4600, 1, 0x1, 15, 15, .u64, .ro, 0, .ddr, some 0, .any⟩,
  ⟨0x4600, 1, 0x1, 16, 16, .u32, .ro, 0, .ddr, some 0, .any⟩,
  ⟨0x4600, 1, 0x1, 17, 17, .u8, .ro, 0, .ddr, some 0, .any⟩,
  ⟨0x4600, 1, 0x1, 18, 18, .u16, .rw, 0, .always, some 4, .span [(1, 65535)]⟩,
  ⟨0x4600, 1, 0x1, 19, 19, .u32, .rw, 0, .always, some 0x36ee80, .span [(1, 3600000)]⟩,
  ⟨0x4600, 1, 0x1, 20, 20, .u8, .wo, 1, .ddr, none, .span [(1, 1)]⟩,
  ⟨0x4610, 1, 0x1, 1, 20, .u32, .ro, 0, .ddr, some 0, .any⟩,
  ⟨0x4611, 1, 0x1, 1, 20, .u16, .ro, 0, .ddr, some 0, .any⟩,
  ⟨0x4612, 1, 0x1, 1, 20, .u16, .ro, 0, .ddr, none, .any⟩,
  ⟨0x4630, 1, 0x1, 1, 1, .u64, .ro, 0, .always, none, .any⟩,
  ⟨0x4630, 1, 0x1, 2, 2, .u32, .ro, 0, .always, some 0, .any⟩,
  ⟨0x4630, 1, 0x1, 3, 3, .u32, .ro, 0, .always, some 0, .any⟩,
  ⟨0x4630, 1, 0x1, 4, 4, .u32, .ro, 0, .always, some 0, .any⟩,
  ⟨0x4630, 1, 0x1, 5, 5, .u32, .ro, 0, .always, some 0, .any⟩,
  ⟨0x4641, 10, 0x1, 1, 27, .u32, .ro, 0, .always, some 0, .any⟩,
  ⟨0x4651, 10, 0x1, 1, 27, .u16, .ro, 0, .always, none, .any⟩,
  ⟨0x4700, 1, 0x1, 0, 0, .u8, .const, 0, .ring, some 11, .any⟩,
  ⟨0x4700, 1, 0x1, 1, 1, .u16, .ro, 0, .ring, none, .any⟩,
  ⟨0x4700, 1, 0x1, 2, 2, .u8, .rw, 0, .ring, none, .span [(0, 1)]⟩,
  ⟨0x4700, 1, 0x1, 3, 3, .u64, .rw, 0, .ring, none, .span [(1, 281474976710655)]⟩,
  ⟨0x4700, 1, 0x1, 4, 4, .u64, .ro, 0, .ring, none, .any⟩,
  ⟨0x4700, 1, 0x1, 5, 5, .real, .ro, 0, .ring, none, .any⟩,
  ⟨0x4700, 1, 0x1, 6, 6, .u64, .ro, 0, .ring, some 0, .any⟩,
  ⟨0x4700, 1, 0x1, 7, 7, .u64, .ro, 0, .ring, some 0, .any⟩,
  ⟨0x4700, 1, 0x1, 8, 8, .u32, .ro, 0, .ring, some 0, .any⟩,
  ⟨0x4700, 1, 0x1, 9, 9, .u64, .ro, 0, .ring, some 0, .any⟩,
  ⟨0x4700, 1, 0x1, 10, 10, .u64, .ro, 0, .ring, some 0, .any⟩,
  ⟨0x4700, 1, 0x1, 11, 11, .real, .ro, 0, .ring, some 0, .any⟩,
  ⟨0x4701, 1, 0x1, 0, 0, .u8, .const, 0, .always, some 17, .any⟩,
  ⟨0x4701, 1, 0x1, 1, 1, .u16, .ro, 0, .always, none, .any⟩,
  ⟨0x4701, 1, 0x1, 2, 2, .u32, .ro, 0, .always, none, .any⟩,
  ⟨0x4701, 1, 0x1, 3, 3, .u64, .ro, 0, .always, none, .any⟩,
  ⟨0x4701, 1, 0x1, 4, 4, .u16, .ro, 0, .always, some 0, .any⟩,
  ⟨0x4701, 1, 0x1, 5, 5, .u16, .ro, 0, .always, some 0, .any⟩,
  ⟨0x4701, 1, 0x1, 6, 6, .u8, .rw, 0, .always, some 0, .span [(1, 3)]⟩,
  ⟨0x4701, 1, 0x1, 7, 7, .u8, .ro, 0, .always, some 0, .any⟩,
  ⟨0x4701, 1, 0x1, 8, 8, .u8, .rw, 0, .always, some 60, .span [(1, 60)]⟩,
  ⟨0x4701, 1, 0x1, 9, 9, .real, .ro, 0, .always, some 0, .any⟩,
  ⟨0x4701, 1, 0x1, 10, 15, .u32, .ro, 0, .always, some 0, .any⟩,
  ⟨0x4701, 1, 0x1, 16, 16, .u32, .ro, 0, .always, some 0, .any⟩,
  ⟨0x4701, 1, 0x1, 17, 17, .u8, .ro, 0, .always, some 255, .any⟩,
  ⟨0x4702, 1, 0x1, 0, 0, .u8, .const, 0, .always, some 5, .any⟩,
  ⟨0x4702, 1, 0x1, 1, 1, .u64, .rw, 0, .always, some 0, .any⟩,
  ⟨0x4702, 1, 0x1, 2, 2, .u8, .rw, 0, .always, some 0, .span [(0, 5)]⟩,
  ⟨0x4702, 1, 0x1, 3, 3, .dom, .ro, 0, .always, none, .any⟩,
  ⟨0x4702, 1, 0x1, 4, 4, .u64, .ro, 0, .always, none, .any⟩,
  ⟨0x4702, 1, 0x1, 5, 5, .u32, .ro, 0, .always, some 0, .any⟩]

/-- Rows 600 on, ascending. -/
def objRows10 : List ObjRow := [
  ⟨0x4703, 1, 0x1, 0, 0, .u8, .const, 0, .ring, some 12, .any⟩,
  ⟨0x4703, 1, 0x1, 1, 1, .u16, .rw, 0, .ring, some 15, .span [(0, 31)]⟩,
  ⟨0x4703, 1, 0x1, 2, 2, .u8, .rw, 0, .ring, some 2, .span [(1, 5)]⟩,
  ⟨0x4703, 1, 0x1, 3, 3, .u64, .rw, 0, .ring, some 0, .span [(0, 281474976710655)]⟩,
  ⟨0x4703, 1, 0x1, 4, 4, .u64, .rw, 0, .ring, none, .span [(1, 281474976710655)]⟩,
  ⟨0x4703, 1, 0x1, 5, 5, .real, .rw, 0, .ring, some 0x3e4ccccd, .nonneg⟩,
  ⟨0x4703, 1, 0x1, 6, 6, .real, .rw, 0, .ring, some 0x3e99999a, .nonneg⟩,
  ⟨0x4703, 1, 0x1, 7, 7, .real, .rw, 0, .ring, some 0x3f800000, .span [(0, 60)]⟩,
  ⟨0x4703, 1, 0x1, 8, 8, .u8, .wo, 0, .ring, none, .span [(1, 1)]⟩,
  ⟨0x4703, 1, 0x1, 9, 9, .u8, .ro, 0, .ring, some 0, .any⟩,
  ⟨0x4703, 1, 0x1, 10, 10, .u32, .ro, 0, .ring, none, .any⟩,
  ⟨0x4703, 1, 0x1, 11, 11, .u32, .ro, 0, .ring, some 0, .any⟩,
  ⟨0x4703, 1, 0x1, 12, 12, .u32, .ro, 0, .ring, some 0, .any⟩,
  ⟨0x4710, 10, 0x1, 0, 0, .u8, .const, 0, .ring, some 5, .any⟩,
  ⟨0x4710, 10, 0x1, 1, 1, .u8, .ro, 0, .ring, some 0, .any⟩,
  ⟨0x4710, 10, 0x1, 2, 2, .dom, .ro, 0, .ring, none, .any⟩,
  ⟨0x4710, 10, 0x1, 3, 3, .dom, .ro, 0, .ring, none, .any⟩,
  ⟨0x4710, 10, 0x1, 4, 4, .u8, .wo, 0, .ring, none, .span [(1, 1)]⟩,
  ⟨0x4710, 10, 0x1, 5, 5, .u32, .ro, 0, .ring, some 0, .any⟩,
  ⟨0x4720, 1, 0x1, 0, 0, .u8, .const, 0, .always, some 4, .any⟩,
  ⟨0x4720, 1, 0x1, 1, 1, .u8, .ro, 0, .always, some 0, .any⟩,
  ⟨0x4720, 1, 0x1, 2, 2, .u8, .rw, 0, .always, some 0, .span [(0, 3)]⟩,
  ⟨0x4720, 1, 0x1, 3, 3, .dom, .ro, 0, .always, none, .any⟩,
  ⟨0x4720, 1, 0x1, 4, 4, .u64, .ro, 0, .always, some 0, .any⟩,
  ⟨0x4800, 4, 0x1, 0, 0, .u8, .const, 0, .twoWire, some 23, .any⟩,
  ⟨0x4800, 4, 0x1, 1, 1, .u16, .ro, 0, .twoWire, none, .any⟩,
  ⟨0x4800, 4, 0x1, 2, 2, .u8, .rw, 0, .twoWire, none, .span [(0, 1)]⟩,
  ⟨0x4800, 4, 0x1, 3, 3, .u8, .rw, 0, .twoWire, none, .span [(0, 2)]⟩,
  ⟨0x4800, 4, 0x1, 4, 4, .u8, .rw, 0, .twoWire, none, .any⟩,
  ⟨0x4800, 4, 0x1, 5, 5, .u8, .rw, 0, .twoWire, none, .span [(0, 1)]⟩,
  ⟨0x4800, 4, 0x1, 6, 6, .u8, .ro, 0, .twoWire, none, .any⟩,
  ⟨0x4800, 4, 0x1, 7, 7, .u8, .rw, 0, .twoWire, none, .span [(0, 1)]⟩,
  ⟨0x4800, 4, 0x1, 8, 8, .u8, .rw, 0, .twoWire, none, .span [(0, 3)]⟩,
  ⟨0x4800, 4, 0x1, 9, 9, .u8, .ro, 0, .twoWire, none, .any⟩,
  ⟨0x4800, 4, 0x1, 10, 10, .u8, .ro, 0, .twoWire, none, .any⟩,
  ⟨0x4800, 4, 0x1, 11, 11, .u8, .ro, 0, .twoWire, none, .any⟩,
  ⟨0x4800, 4, 0x1, 12, 12, .real, .ro, 0, .twoWire, some 0, .any⟩,
  ⟨0x4800, 4, 0x1, 13, 13, .real, .ro, 0, .twoWire, some 0, .any⟩,
  ⟨0x4800, 4, 0x1, 14, 14, .u8, .ro, 0, .twoWire, some 0, .any⟩,
  ⟨0x4800, 4, 0x1, 15, 15, .u32, .ro, 0, .twoWire, some 0, .any⟩,
  ⟨0x4800, 4, 0x1, 16, 16, .u32, .ro, 0, .twoWire, some 0, .any⟩,
  ⟨0x4800, 4, 0x1, 17, 17, .u32, .ro, 0, .twoWire, some 0, .any⟩,
  ⟨0x4800, 4, 0x1, 18, 18, .u32, .ro, 0, .twoWire, some 0, .any⟩,
  ⟨0x4800, 4, 0x1, 19, 19, .u32, .ro, 0, .twoWire, some 0, .any⟩,
  ⟨0x4800, 4, 0x1, 20, 20, .u32, .ro, 0, .twoWire, some 0, .any⟩,
  ⟨0x4800, 4, 0x1, 21, 21, .u32, .ro, 0, .twoWire, some 0, .any⟩,
  ⟨0x4800, 4, 0x1, 22, 22, .dom, .ro, 0, .twoWire, none, .any⟩,
  ⟨0x4800, 4, 0x1, 23, 23, .dom, .rw, 0, .twoWire, none, .any⟩,
  ⟨0x4810, 1, 0x1, 0, 0, .u8, .const, 0, .always, some 4, .any⟩,
  ⟨0x4810, 1, 0x1, 1, 1, .u16, .ro, 0, .always, none, .any⟩,
  ⟨0x4810, 1, 0x1, 2, 2, .u16, .ro, 0, .always, none, .any⟩,
  ⟨0x4810, 1, 0x1, 3, 3, .u32, .ro, 0, .always, some 0, .any⟩,
  ⟨0x4810, 1, 0x1, 4, 4, .u32, .ro, 0, .always, some 0, .any⟩,
  ⟨0x4820, 16, 0x1, 1, 32, .u32, .ro, 0, .always, none, .any⟩,
  ⟨0x4900, 64, 0x1, 0, 0, .u8, .const, 0, .berth, some 43, .any⟩,
  ⟨0x4900, 64, 0x1, 1, 1, .u16, .ro, 0, .berth, none, .any⟩,
  ⟨0x4900, 64, 0x1, 2, 2, .u8, .ro, 0, .berth, none, .any⟩,
  ⟨0x4900, 64, 0x1, 3, 3, .u8, .ro, 0, .berth, none, .any⟩,
  ⟨0x4900, 64, 0x1, 4, 4, .u8, .ro, 0, .berth, none, .any⟩,
  ⟨0x4900, 64, 0x1, 5, 5, .u8, .rw, 0, .berth, none, .span [(0, 1)]⟩]

/-- Rows 660 on, ascending. -/
def objRows11 : List ObjRow := [
  ⟨0x4900, 64, 0x1, 6, 6, .u16, .rw, 0, .berth, none, .span [(0, 0), (10, 10000)]⟩,
  ⟨0x4900, 64, 0x1, 7, 7, .u8, .ro, 0, .berth, none, .any⟩,
  ⟨0x4900, 64, 0x1, 8, 8, .u8, .ro, 0, .berth, none, .any⟩,
  ⟨0x4900, 64, 0x1, 9, 9, .u32, .ro, 0, .berth, none, .any⟩,
  ⟨0x4900, 64, 0x1, 10, 10, .u8, .ro, 0, .berth, none, .any⟩,
  ⟨0x4900, 64, 0x1, 11, 11, .u64, .ro, 0, .berth, none, .any⟩,
  ⟨0x4900, 64, 0x1, 12, 12, .u64, .ro, 0, .berth, none, .any⟩,
  ⟨0x4900, 64, 0x1, 13, 13, .u8, .ro, 0, .berth, none, .any⟩,
  ⟨0x4900, 64, 0x1, 14, 21, .u16, .ro, 0, .berth, some 0, .any⟩,
  ⟨0x4900, 64, 0x1, 22, 29, .real, .ro, 0, .berth, some 0, .any⟩,
  ⟨0x4900, 64, 0x1, 30, 30, .dom, .ro, 0, .berth, none, .any⟩,
  ⟨0x4900, 64, 0x1, 31, 31, .real, .ro, 0, .berth, none, .any⟩,
  ⟨0x4900, 64, 0x1, 32, 32, .u32, .ro, 0, .berth, some 0, .any⟩,
  ⟨0x4900, 64, 0x1, 33, 33, .u32, .ro, 0, .berth, some 0, .any⟩,
  ⟨0x4900, 64, 0x1, 34, 34, .u32, .ro, 0, .berth, some 0, .any⟩,
  ⟨0x4900, 64, 0x1, 35, 35, .u32, .ro, 0, .berth, some 0, .any⟩,
  ⟨0x4900, 64, 0x1, 36, 36, .u32, .ro, 0, .berth, some 0, .any⟩,
  ⟨0x4900, 64, 0x1, 37, 37, .u32, .wo, 0, .berth, none, .any⟩,
  ⟨0x4900, 64, 0x1, 38, 38, .u8, .ro, 0, .berth, some 0, .any⟩,
  ⟨0x4900, 64, 0x1, 39, 39, .u16, .ro, 0, .berth, some 0, .any⟩,
  ⟨0x4900, 64, 0x1, 40, 40, .i16, .ro, 0, .berth, none, .any⟩,
  ⟨0x4900, 64, 0x1, 41, 41, .i16, .ro, 0, .berth, none, .any⟩,
  ⟨0x4900, 64, 0x1, 42, 42, .i16, .ro, 0, .berth, none, .any⟩,
  ⟨0x4900, 64, 0x1, 43, 43, .u8, .rw, 0, .berth, some 3, .span [(1, 255)]⟩,
  ⟨0x4a00, 2, 0x1, 0, 0, .u8, .const, 0, .eth, some 13, .any⟩,
  ⟨0x4a00, 2, 0x1, 1, 1, .u16, .ro, 0, .eth, none, .any⟩,
  ⟨0x4a00, 2, 0x1, 2, 2, .u8, .rw, 0, .eth, none, .span [(0, 1)]⟩,
  ⟨0x4a00, 2, 0x1, 3, 3, .u64, .const, 0, .eth, none, .any⟩,
  ⟨0x4a00, 2, 0x1, 4, 4, .u32, .rw, 0, .eth, none, .any⟩,
  ⟨0x4a00, 2, 0x1, 5, 5, .u32, .rw, 0, .eth, none, .any⟩,
  ⟨0x4a00, 2, 0x1, 6, 6, .u32, .rw, 0, .eth, none, .any⟩,
  ⟨0x4a00, 2, 0x1, 7, 7, .u8, .rw, 0, .eth, none, .span [(0, 3)]⟩,
  ⟨0x4a00, 2, 0x1, 8, 8, .u32, .ro, 0, .eth, none, .any⟩,
  ⟨0x4a00, 2, 0x1, 9, 9, .real, .rw, 0, .eth, none, .span [(0, (1 / 1000000))]⟩,
  ⟨0x4a00, 2, 0x1, 10, 10, .real, .rw, 0, .eth, none, .span [(0, (1 / 1000000))]⟩,
  ⟨0x4a00, 2, 0x1, 11, 11, .u8, .rw, 0, .eth, some 1, .span [(0, 1)]⟩,
  ⟨0x4a00, 2, 0x1, 12, 12, .u32, .ro, 0, .eth, some 0, .any⟩,
  ⟨0x4a00, 2, 0x1, 13, 13, .u32, .ro, 0, .eth, some 0, .any⟩,
  ⟨0x4a10, 2, 0x1, 0, 0, .u8, .const, 0, .can, some 9, .any⟩,
  ⟨0x4a10, 2, 0x1, 1, 1, .u16, .ro, 0, .can, none, .any⟩,
  ⟨0x4a10, 2, 0x1, 2, 2, .u8, .ro, 0, .can, none, .any⟩,
  ⟨0x4a10, 2, 0x1, 3, 3, .u32, .rw, 0, .can, none, .span [(125000, 125000), (250000, 250000), (500000, 500000), (1000000, 1000000)]⟩,
  ⟨0x4a10, 2, 0x1, 4, 4, .u32, .rw, 0, .can, some 0, .span [(0, 0), (2000000, 2000000), (4000000, 4000000), (5000000, 5000000), (8000000, 8000000)]⟩,
  ⟨0x4a10, 2, 0x1, 5, 5, .u32, .ro, 0, .can, some 0, .any⟩,
  ⟨0x4a10, 2, 0x1, 6, 6, .u8, .ro, 0, .can, some 0, .any⟩,
  ⟨0x4a10, 2, 0x1, 7, 7, .u32, .ro, 0, .can, some 0, .any⟩,
  ⟨0x4a10, 2, 0x1, 8, 8, .u32, .ro, 0, .can, some 0, .any⟩,
  ⟨0x4a10, 2, 0x1, 9, 9, .u8, .ro, 0, .can, some 0, .any⟩,
  ⟨0x4a20, 1, 0x1, 1, 1, .u16, .ro, 0, .always, none, .any⟩,
  ⟨0x4a20, 1, 0x1, 2, 2, .u8, .rw, 0, .always, some 1, .span [(0, 1)]⟩,
  ⟨0x4a20, 1, 0x1, 3, 3, .u32, .ro, 0, .always, some 0, .any⟩,
  ⟨0x4a30, 1, 0x1, 1, 1, .u8, .ro, 0, .always, some 0, .any⟩,
  ⟨0x4a30, 1, 0x1, 2, 2, .u8, .ro, 0, .always, some 0, .any⟩,
  ⟨0x4a30, 1, 0x1, 3, 3, .u32, .ro, 0, .always, some 0, .any⟩,
  ⟨0x4a30, 1, 0x1, 4, 4, .u8, .ro, 0, .always, some 0, .any⟩,
  ⟨0x4a30, 1, 0x1, 5, 5, .u16, .const, 0, .always, some 50317, .any⟩,
  ⟨0x4a30, 1, 0x1, 6, 6, .u32, .ro, 0, .always, some 0, .any⟩,
  ⟨0x5000, 8, 0x100, 0, 0, .u8, .const, 0, .string, some 26, .any⟩,
  ⟨0x5000, 8, 0x100, 1, 1, .u16, .ro, 0, .string, none, .any⟩,
  ⟨0x5000, 8, 0x100, 2, 2, .real, .ro, 0, .string, none, .any⟩]

/-- Rows 720 on, ascending. -/
def objRows12 : List ObjRow := [
  ⟨0x5000, 8, 0x100, 3, 3, .real, .ro, 0, .string, none, .any⟩,
  ⟨0x5000, 8, 0x100, 4, 4, .real, .ro, 0, .string, none, .any⟩,
  ⟨0x5000, 8, 0x100, 5, 5, .real, .ro, 0, .string, none, .any⟩,
  ⟨0x5000, 8, 0x100, 6, 6, .real, .ro, 0, .string, some 0, .any⟩,
  ⟨0x5000, 8, 0x100, 7, 7, .real, .ro, 0, .string, some 0, .any⟩,
  ⟨0x5000, 8, 0x100, 8, 8, .real, .ro, 0, .string, some 0, .any⟩,
  ⟨0x5000, 8, 0x100, 9, 9, .real, .ro, 0, .string, some 0, .any⟩,
  ⟨0x5000, 8, 0x100, 10, 10, .real, .ro, 0, .string, some 0, .any⟩,
  ⟨0x5000, 8, 0x100, 11, 11, .real, .ro, 0, .string, none, .any⟩,
  ⟨0x5000, 8, 0x100, 12, 12, .real, .ro, 0, .string, some 0, .any⟩,
  ⟨0x5000, 8, 0x100, 13, 13, .real, .ro, 0, .string, some 0, .any⟩,
  ⟨0x5000, 8, 0x100, 14, 14, .real, .ro, 0, .string, some 0x447a0000, .any⟩,
  ⟨0x5000, 8, 0x100, 15, 15, .u32, .ro, 0, .string, some 0, .any⟩,
  ⟨0x5000, 8, 0x100, 16, 16, .real, .ro, 0, .string, none, .any⟩,
  ⟨0x5000, 8, 0x100, 17, 17, .u32, .ro, 0, .string, some 0, .any⟩,
  ⟨0x5000, 8, 0x100, 18, 18, .real, .ro, 0, .string, some 0, .any⟩,
  ⟨0x5000, 8, 0x100, 19, 19, .u32, .ro, 0, .string, some 0, .any⟩,
  ⟨0x5000, 8, 0x100, 20, 20, .u32, .ro, 0, .string, some 0, .any⟩,
  ⟨0x5000, 8, 0x100, 21, 21, .u64, .ro, 0, .string, some 0, .any⟩,
  ⟨0x5000, 8, 0x100, 22, 22, .u64, .ro, 0, .string, some 0, .any⟩,
  ⟨0x5000, 8, 0x100, 23, 23, .real, .ro, 0, .string, some 0x42c80000, .any⟩,
  ⟨0x5000, 8, 0x100, 24, 24, .real, .ro, 0, .string, some 0x42c80000, .any⟩,
  ⟨0x5000, 8, 0x100, 25, 25, .real, .ro, 0, .string, some 0x42c80000, .any⟩,
  ⟨0x5000, 8, 0x100, 26, 26, .real, .ro, 0, .string, some 0, .any⟩,
  ⟨0x5001, 8, 0x100, 0, 0, .u8, .const, 0, .string, some 28, .any⟩,
  ⟨0x5001, 8, 0x100, 1, 1, .u8, .ro, 0, .string, none, .any⟩,
  ⟨0x5001, 8, 0x100, 2, 2, .u8, .ro, 0, .string, none, .any⟩,
  ⟨0x5001, 8, 0x100, 3, 3, .u8, .ro, 0, .string, none, .any⟩,
  ⟨0x5001, 8, 0x100, 4, 4, .u8, .ro, 0, .string, none, .any⟩,
  ⟨0x5001, 8, 0x100, 5, 5, .u8, .ro, 0, .string, none, .any⟩,
  ⟨0x5001, 8, 0x100, 6, 6, .u8, .ro, 0, .string, none, .any⟩,
  ⟨0x5001, 8, 0x100, 7, 7, .real, .ro, 0, .string, none, .any⟩,
  ⟨0x5001, 8, 0x100, 8, 8, .real, .rw, 0, .string, some 0x3f7eb852, .span [((9 / 10), 1)]⟩,
  ⟨0x5001, 8, 0x100, 9, 9, .real, .rw, 0, .string, none, .any⟩,
  ⟨0x5001, 8, 0x100, 10, 10, .real, .rw, 0, .string, none, .any⟩,
  ⟨0x5001, 8, 0x100, 11, 11, .real, .rw, 0, .string, some 0x3ca3d70a, .span [((1 / 200), (1 / 10))]⟩,
  ⟨0x5001, 8, 0x100, 12, 12, .u16, .rw, 0, .string, some 100, .span [(10, 1000)]⟩,
  ⟨0x5001, 8, 0x100, 13, 13, .real, .rw, 0, .string, some 0x3f000000, .span [((1 / 20), 5)]⟩,
  ⟨0x5001, 8, 0x100, 14, 14, .real, .rw, 0, .string, some 0x40a00000, .span [(1, 50)]⟩,
  ⟨0x5001, 8, 0x100, 15, 15, .real, .rw, 0, .string, some 0x3e4ccccd, .span [(0, 1)]⟩,
  ⟨0x5001, 8, 0x100, 16, 16, .u32, .rw, 0, .string, some 1800, .span [(60, 86400)]⟩,
  ⟨0x5001, 8, 0x100, 17, 17, .real, .rw, 0, .string, some 0x3a83126f, .positive⟩,
  ⟨0x5001, 8, 0x100, 18, 18, .real, .rw, 0, .string, some 0x40400000, .span [((1 / 2), 20)]⟩,
  ⟨0x5001, 8, 0x100, 19, 19, .real, .rw, 0, .string, some 0x3e800000, .span [((1 / 100), 5)]⟩,
  ⟨0x5001, 8, 0x100, 20, 20, .real, .rw, 0, .string, none, .nonneg⟩,
  ⟨0x5001, 8, 0x100, 21, 21, .real, .rw, 0, .string, some 0x44160000, .span [(10, 86400), (0, 0)]⟩,
  ⟨0x5001, 8, 0x100, 22, 22, .real, .rw, 0, .string, none, .nonneg⟩,
  ⟨0x5001, 8, 0x100, 23, 23, .real, .ro, 0, .string, none, .any⟩,
  ⟨0x5001, 8, 0x100, 24, 24, .real, .ro, 0, .string, none, .any⟩,
  ⟨0x5001, 8, 0x100, 25, 25, .real, .rw, 0, .string, none, .positive⟩,
  ⟨0x5001, 8, 0x100, 26, 26, .real, .rw, 0, .string, some 0x3dcccccd, .span [((1 / 50), 1)]⟩,
  ⟨0x5001, 8, 0x100, 27, 27, .real, .rw, 0, .string, none, .positive⟩,
  ⟨0x5001, 8, 0x100, 28, 28, .real, .rw, 0, .string, some 0x3ca3d70a, .span [((1 / 200), (1 / 10))]⟩,
  ⟨0x5002, 8, 0x100, 1, 168, .real, .ro, 0, .string, none, .any⟩,
  ⟨0x5003, 8, 0x100, 1, 48, .real, .ro, 0, .string, none, .any⟩,
  ⟨0x5004, 8, 0x100, 1, 8, .real, .ro, 0, .string, none, .any⟩,
  ⟨0x5004, 8, 0x100, 9, 16, .real, .ro, 0, .string, none, .any⟩,
  ⟨0x5004, 8, 0x100, 17, 24, .real, .ro, 0, .string, none, .any⟩,
  ⟨0x5004, 8, 0x100, 25, 32, .real, .ro, 0, .string, none, .any⟩,
  ⟨0x5004, 8, 0x100, 33, 38, .real, .ro, 0, .string, none, .any⟩]

/-- Rows 780 on, ascending. -/
def objRows13 : List ObjRow := [
  ⟨0x5005, 8, 0x100, 0, 0, .u8, .const, 0, .string, some 12, .any⟩,
  ⟨0x5005, 8, 0x100, 1, 1, .real, .ro, 0, .string, none, .any⟩,
  ⟨0x5005, 8, 0x100, 2, 2, .real, .ro, 0, .string, none, .any⟩,
  ⟨0x5005, 8, 0x100, 3, 3, .real, .ro, 0, .string, none, .any⟩,
  ⟨0x5005, 8, 0x100, 4, 4, .real, .ro, 0, .string, none, .any⟩,
  ⟨0x5005, 8, 0x100, 5, 5, .real, .ro, 0, .string, none, .any⟩,
  ⟨0x5005, 8, 0x100, 6, 6, .real, .rw, 0, .string, some 0x3d4ccccd, .span [(0, (1 / 2))]⟩,
  ⟨0x5005, 8, 0x100, 7, 7, .real, .ro, 0, .string, none, .any⟩,
  ⟨0x5005, 8, 0x100, 8, 8, .u32, .ro, 0, .string, some 0, .any⟩,
  ⟨0x5005, 8, 0x100, 9, 11, .u32, .ro, 0, .string, some 0, .any⟩,
  ⟨0x5005, 8, 0x100, 12, 12, .u8, .wo, 1, .string, none, .span [(1, 1)]⟩,
  ⟨0x5006, 8, 0x100, 0, 0, .u8, .const, 0, .string, some 12, .any⟩,
  ⟨0x5006, 8, 0x100, 1, 1, .u32, .rw, 0, .string, some 3600, .span [(600, 86400), (0, 0)]⟩,
  ⟨0x5006, 8, 0x100, 2, 2, .real, .rw, 0, .string, some 0x3e4ccccd, .span [((1 / 20), (1 / 2))]⟩,
  ⟨0x5006, 8, 0x100, 3, 3, .u8, .ro, 0, .string, some 0, .any⟩,
  ⟨0x5006, 8, 0x100, 4, 4, .u32, .ro, 0, .string, some 0, .any⟩,
  ⟨0x5006, 8, 0x100, 5, 5, .u8, .rw, 0, .string, some 0, .span [(1, 2)]⟩,
  ⟨0x5006, 8, 0x100, 6, 6, .u8, .ro, 0, .string, some 0, .any⟩,
  ⟨0x5006, 8, 0x100, 7, 7, .u8, .rw, 0, .string, some 1, .span [(0, 1)]⟩,
  ⟨0x5006, 8, 0x100, 8, 8, .u16, .rw, 0, .string, some 600, .span [(60, 1180)]⟩,
  ⟨0x5006, 8, 0x100, 9, 9, .u32, .ro, 0, .string, some 0, .any⟩,
  ⟨0x5006, 8, 0x100, 10, 10, .u32, .ro, 0, .string, some 0, .any⟩,
  ⟨0x5006, 8, 0x100, 11, 11, .u32, .ro, 0, .string, some 0, .any⟩,
  ⟨0x5006, 8, 0x100, 12, 12, .u32, .ro, 0, .string, some 0, .any⟩,
  ⟨0x5800, 1, 0x1, 0, 0, .u8, .const, 0, .charger, some 4, .any⟩,
  ⟨0x5800, 1, 0x1, 1, 1, .u8, .rw, 0, .charger, none, .span [(0, 1)]⟩,
  ⟨0x5800, 1, 0x1, 2, 2, .real, .rw, 0, .charger, some 0x42b40000, .span [(10, 99)]⟩,
  ⟨0x5800, 1, 0x1, 3, 3, .u16, .ro, 0, .charger, none, .any⟩,
  ⟨0x5800, 1, 0x1, 4, 4, .real, .ro, 0, .charger, some 0, .any⟩,
  ⟨0x5810, 8, 0x1, 0, 0, .u8, .const, 0, .charger, some 30, .any⟩,
  ⟨0x5810, 8, 0x1, 1, 1, .u16, .ro, 0, .charger, none, .any⟩,
  ⟨0x5810, 8, 0x1, 2, 2, .u8, .ro, 0, .charger, some 0, .any⟩,
  ⟨0x5810, 8, 0x1, 3, 3, .u8, .rw, 0, .charger, some 0, .span [(1, 2)]⟩,
  ⟨0x5810, 8, 0x1, 4, 4, .u8, .rw, 0, .charger, some 0, .span [(1, 2)]⟩,
  ⟨0x5810, 8, 0x1, 5, 5, .real, .rw, 0, .charger, none, .positive⟩,
  ⟨0x5810, 8, 0x1, 6, 6, .u32, .rw, 0, .charger, none, .span [(600, 86400)]⟩,
  ⟨0x5810, 8, 0x1, 7, 7, .real, .rw, 0, .charger, none, .positive⟩,
  ⟨0x5810, 8, 0x1, 8, 8, .real, .rw, 0, .charger, none, .span [(0, 0), (1, 600)]⟩,
  ⟨0x5810, 8, 0x1, 9, 9, .real, .rw, 0, .charger, none, .span [((1 / 10), 600)]⟩,
  ⟨0x5810, 8, 0x1, 10, 10, .u32, .rw, 0, .charger, none, .span [(600, 86400)]⟩,
  ⟨0x5810, 8, 0x1, 11, 11, .real, .rw, 0, .charger, none, .any⟩,
  ⟨0x5810, 8, 0x1, 12, 12, .real, .rw, 0, .charger, none, .any⟩,
  ⟨0x5810, 8, 0x1, 13, 13, .real, .rw, 0, .charger, none, .positive⟩,
  ⟨0x5810, 8, 0x1, 14, 14, .real, .rw, 0, .charger, some 0x3cf5c28f, .span [((1 / 100), (1 / 5))]⟩,
  ⟨0x5810, 8, 0x1, 15, 15, .u32, .rw, 0, .charger, none, .span [(600, 86400)]⟩,
  ⟨0x5810, 8, 0x1, 16, 16, .real, .rw, 0, .charger, none, .any⟩,
  ⟨0x5810, 8, 0x1, 17, 17, .u32, .rw, 0, .charger, some 720, .span [(24, 8760), (0, 0)]⟩,
  ⟨0x5810, 8, 0x1, 18, 18, .u8, .rw, 0, .charger, some 1, .span [(0, 1)]⟩,
  ⟨0x5810, 8, 0x1, 19, 19, .real, .ro, 0, .charger, some 0, .any⟩,
  ⟨0x5810, 8, 0x1, 20, 20, .real, .ro, 0, .charger, some 0, .any⟩,
  ⟨0x5810, 8, 0x1, 21, 21, .u8, .ro, 0, .charger, some 0, .any⟩,
  ⟨0x5810, 8, 0x1, 22, 22, .real, .ro, 0, .charger, some 0, .any⟩,
  ⟨0x5810, 8, 0x1, 23, 23, .real, .ro, 0, .charger, some 0, .any⟩,
  ⟨0x5810, 8, 0x1, 24, 24, .real, .ro, 0, .charger, some 0, .any⟩,
  ⟨0x5810, 8, 0x1, 25, 25, .u8, .ro, 0, .charger, some 0, .any⟩,
  ⟨0x5810, 8, 0x1, 26, 26, .u32, .ro, 0, .charger, some 0, .any⟩,
  ⟨0x5810, 8, 0x1, 27, 27, .u32, .ro, 0, .charger, some 0, .any⟩,
  ⟨0x5810, 8, 0x1, 28, 28, .u32, .ro, 0, .charger, some 0, .any⟩,
  ⟨0x5810, 8, 0x1, 29, 29, .u32, .ro, 0, .charger, some 0, .any⟩,
  ⟨0x5810, 8, 0x1, 30, 30, .u8, .ro, 0, .charger, some 0, .any⟩]

/-- Rows 840 on, ascending. -/
def objRows14 : List ObjRow := [
  ⟨0x5900, 1, 0x1, 0, 0, .u8, .const, 0, .always, some 11, .any⟩,
  ⟨0x5900, 1, 0x1, 1, 1, .u8, .rw, 0, .always, none, .span [(0, 1)]⟩,
  ⟨0x5900, 1, 0x1, 2, 2, .real, .rw, 0, .always, none, .any⟩,
  ⟨0x5900, 1, 0x1, 3, 3, .real, .rw, 0, .always, none, .positive⟩,
  ⟨0x5900, 1, 0x1, 4, 4, .real, .rw, 0, .always, some 0x41200000, .span [(1, 100)]⟩,
  ⟨0x5900, 1, 0x1, 5, 5, .real, .rw, 0, .always, some 0x3f000000, .span [((1 / 100), 10)]⟩,
  ⟨0x5900, 1, 0x1, 6, 6, .real, .rw, 0, .always, some 0x42700000, .span [(1, 600)]⟩,
  ⟨0x5900, 1, 0x1, 7, 7, .u8, .rw, 0, .always, some 1, .span [(0, 1)]⟩,
  ⟨0x5900, 1, 0x1, 8, 8, .u8, .ro, 0, .always, some 0, .any⟩,
  ⟨0x5900, 1, 0x1, 9, 9, .u32, .ro, 0, .always, some 0, .any⟩,
  ⟨0x5900, 1, 0x1, 10, 10, .u32, .ro, 0, .always, some 0, .any⟩,
  ⟨0x5900, 1, 0x1, 11, 11, .real, .ro, 0, .always, some 0, .any⟩,
  ⟨0x5910, 1, 0x1, 0, 0, .u8, .const, 0, .always, some 9, .any⟩,
  ⟨0x5910, 1, 0x1, 1, 1, .u8, .ro, 0, .always, some 0, .any⟩,
  ⟨0x5910, 1, 0x1, 2, 2, .u8, .rw, 0, .always, none, .span [(0, 3)]⟩,
  ⟨0x5910, 1, 0x1, 3, 3, .real, .rw, 0, .always, some 0x3f19999a, .span [((1 / 5), (6 / 5))]⟩,
  ⟨0x5910, 1, 0x1, 4, 4, .real, .rw, 0, .always, some 0x3f19999a, .span [((1 / 5), (6 / 5))]⟩,
  ⟨0x5910, 1, 0x1, 5, 5, .u16, .rw, 0, .always, some 500, .span [(10, 10000)]⟩,
  ⟨0x5910, 1, 0x1, 6, 6, .u8, .rw, 0, .always, none, .span [(0, 3)]⟩,
  ⟨0x5910, 1, 0x1, 7, 7, .u32, .ro, 0, .always, some 0, .any⟩,
  ⟨0x5910, 1, 0x1, 8, 8, .u32, .ro, 0, .always, some 0, .any⟩,
  ⟨0x5910, 1, 0x1, 9, 9, .u16, .ro, 0, .always, some 0, .any⟩]

/-- Every row. -/
def objRows : List ObjRow :=
  objRows0 ++ objRows1 ++ objRows2 ++ objRows3 ++ objRows4 ++ objRows5 ++ objRows6 ++ objRows7 ++ objRows8 ++ objRows9 ++ objRows10 ++ objRows11 ++ objRows12 ++ objRows13 ++ objRows14

/-- The row covers the object. -/
def ObjRow.covers (r : ObjRow) (idx sub : Nat) : Bool :=
  decide (r.base ≤ idx) && decide ((idx - r.base) / r.stride < r.n) && (idx - r.base) % r.stride == 0 && decide (r.s0 ≤ sub) && decide (sub ≤ r.s1)

/-- The row has the index. -/
def ObjRow.hasIndex (r : ObjRow) (idx : Nat) : Bool :=
  decide (r.base ≤ idx) && decide ((idx - r.base) / r.stride < r.n) && (idx - r.base) % r.stride == 0

/-- Which unit of its kind the object belongs to. -/
def ObjRow.unit (r : ObjRow) (idx sub : Nat) : Nat :=
  match r.pres with
  | .stageSub => sub - r.s0
  | .phaseSub => sub - r.s0
  | .berthSub => sub - r.s0
  | .stringSub => sub - r.s0
  | _ => (idx - r.base) / r.stride

/-- The row of an object. -/
def objRow (idx sub : Nat) : Option ObjRow := objRows.find? fun r => r.covers idx sub

/-- Bytes of a value of the type; 0 for the types of no fixed length. -/
def Typ.size : Typ → Nat
  | .u8 => 1 | .u16 => 2 | .u32 => 4 | .u64 => 8 | .i16 => 2 | .i32 => 4 | .real => 4 | .dom => 0 | .str => 0

/-- The number a value of the type spells. -/
def Typ.value (t : Typ) (bs : List Byte) : Rat :=
  match t with
  | .real => realOf bs
  | .i16 => leInt bs
  | .i32 => leInt bs
  | _ => leNat bs

/-- A bound of a range in the object's own type: of a REAL32, the nearest REAL32 value (DEDUCED, log entry 101). -/
def Typ.bound (t : Typ) (b : Rat) : Rat := if t = .real then F32.toRat (F32.ofRat b) else b

/-- The value is within the range (R375, R381). -/
def Rng.ok (g : Rng) (t : Typ) (bs : List Byte) : Bool :=
  let f : F32 := BitVec.ofNat 32 (leNat bs)
  let v := t.value bs
  if t == .real && F32.isNaN f then false
  else match g with
  | .any => true
  | .span l => !(t == .real && F32.isInf f) && l.any fun p => decide (t.bound p.1 ≤ v) && decide (v ≤ t.bound p.2)
  | .positive => if t == .real && F32.isInf f then !F32.sign f else decide (0 < v)
  | .nonneg => if t == .real && F32.isInf f then !F32.sign f else decide (0 ≤ v)
  | .nonzero => decide (v ≠ 0)
  | .deadTime => decide (bits (leNat bs) 0 16 ≤ 32000) && decide (bits (leNat bs) 16 16 ≤ 32000)
  | .irqMask => bits (leNat bs) 0 1 == 0 && bits (leNat bs) 6 2 == 0

end Sys2Proof.Machine
end

