-- ==== Sys2Proof/Machine/State.lean ====
section
/-! DEFINITION. The state of one package: every register, memory, queue, counter and mode that the spec gives it, as plain data. -/
namespace Sys2Proof.Machine

/-- The three variants (R2, Table 01-1). -/
inductive PartNo where
  | fyx9480 | fyx9462 | fyx9424
  deriving DecidableEq, Repr

/-- Why a step can stop with a fault. -/
inductive Fault where
  /-- Raised by DRAM_READ and DRAM_WRITE for a byte address beyond the fitted data capacity (Table 15-1), an address that the spec says
  does not exist. Safe: the machine stops where hardware that accepts the address would go on. -/
  | dramAddress (addr : Nat)
  deriving DecidableEq, Repr

/-- Why a step can be refused. -/
inductive Refusal where
  /-- Raised by `exec` for a command that has no meaning yet. Safe: the machine stops. -/
  | notModelled (mnemonic : String)
  deriving DecidableEq, Repr

/-- The state of one package. A field of a structure named here holds, after reset, the default that its type gives it. -/
structure State where
  /-- Commands that wait, first in first out. -/
  pending : List Instr := []
  /-- PWM ticks of 2.5 ns since the last POR release (R8, R51). -/
  now : Nat := 0
  /-- The variant, fixed at manufacture (R2). -/
  part : PartNo := .fyx9480
  /-- Serial number and other identity values, fixed at manufacture (0x1018, 0x2001). -/
  serial : Nat := 0
  supply : Supply := {}
  mode : ModeState := {}
  clock : Clock := {}
  /-- Modulator inputs md0 to md47 and input groups mg0 to mg3 (R72). -/
  mods : List ModInput := List.replicate 48 {}
  groups : List InputGroup := List.replicate 4 {}
  adc : Adc := {}
  tide : Tide := {}
  /-- Loop instances lp0 to lp63 and engines en0 to en7 (R103). -/
  insts : List Instance := List.replicate 64 {}
  engines : List Engine := List.replicate 8 {}
  /-- Stages st0 to st7 and phases ph0 to ph23 (R141). -/
  stages : List Stage := List.replicate 8 {}
  phases : List Phase := List.replicate 24 {}
  /-- Profile generators, repetitive controllers, observers (R175, R183, R192). -/
  pgs : List Pg := List.replicate 16 {}
  rcs : List Rc := List.replicate 8 {}
  obs : List Observer := List.replicate 8 {}
  spm : Spm := {}
  /-- Feeds FA, FB, FO0, FO1 (R228). -/
  feeds : List Feed := List.replicate 4 {}
  /-- Strings s0 to s7 (R239) and chargers cc0 to cc7 (R264). -/
  strs : List Str := List.replicate 8 {}
  chargers : List Charger := List.replicate 8 {}
  dead : Dead := {}
  /-- Rails rl0 to rl31 and rail groups g0 to g3 (R288, R290). -/
  rails : List Rail := List.replicate 32 {}
  railGroups : List RailGroup := List.replicate 4 {}
  thermal : Thermal := {}
  faults : Faults := {}
  pair : Pair := {}
  net : Net := {}
  /-- Berths b0 to b63 and two-wire ports TW0 to TW3 (R404, R415). -/
  berths : List Berth := List.replicate 64 {}
  ports : List Port := List.replicate 4 {}
  mem : Mem := {}
  log : Log := {}
  img : Img := {}
  /-- Dictionary values written since the start, or taken from the stored set: (index·256 + sub, bytes), strictly rising keys (R371). -/
  cfg : List (Nat × List Byte) := []
  /-- Values that the package keeps in MRAM under an object of the dictionary whatever the image (R377): as `cfg`. -/
  kept : List (Nat × List Byte) := []
  /-- The MODEL's own field: free values drawn so far. No rule rests on its value. -/
  draws : Nat := 0
  deriving DecidableEq, Repr

/-- The machine at reset: POR asserted, nothing fitted in MRAM, no command waiting. -/
def State.reset : State := {}

end Sys2Proof.Machine
end

