-- ==== Sys2Proof/Machine/Ops.lean ====
section
/-! DEFINITION. The named operations over the state: units, time, the dictionary's values, records of the logbook. -/
namespace Sys2Proof.Machine

/-! Units. A unit number beyond its list reads as the reset unit and is written nowhere. -/

def State.modIn (s : State) (n : Nat) : ModInput := nth s.mods n {}
def State.setMod (s : State) (n : Nat) (v : ModInput) : State := { s with mods := put s.mods n v }
def State.group (s : State) (n : Nat) : InputGroup := nth s.groups n {}
def State.setGroup (s : State) (n : Nat) (v : InputGroup) : State := { s with groups := put s.groups n v }
def State.inst (s : State) (n : Nat) : Instance := nth s.insts n {}
def State.setInst (s : State) (n : Nat) (v : Instance) : State := { s with insts := put s.insts n v }
def State.engine (s : State) (n : Nat) : Engine := nth s.engines n {}
def State.setEngine (s : State) (n : Nat) (v : Engine) : State := { s with engines := put s.engines n v }
def State.stage (s : State) (n : Nat) : Stage := nth s.stages n {}
def State.setStage (s : State) (n : Nat) (v : Stage) : State := { s with stages := put s.stages n v }
def State.phase (s : State) (n : Nat) : Phase := nth s.phases n {}
def State.setPhase (s : State) (n : Nat) (v : Phase) : State := { s with phases := put s.phases n v }
def State.pg (s : State) (n : Nat) : Pg := nth s.pgs n {}
def State.setPg (s : State) (n : Nat) (v : Pg) : State := { s with pgs := put s.pgs n v }
def State.rc (s : State) (n : Nat) : Rc := nth s.rcs n {}
def State.setRc (s : State) (n : Nat) (v : Rc) : State := { s with rcs := put s.rcs n v }
def State.observer (s : State) (n : Nat) : Observer := nth s.obs n {}
def State.setObserver (s : State) (n : Nat) (v : Observer) : State := { s with obs := put s.obs n v }
def State.feed (s : State) (n : Nat) : Feed := nth s.feeds n {}
def State.setFeed (s : State) (n : Nat) (v : Feed) : State := { s with feeds := put s.feeds n v }
def State.str (s : State) (n : Nat) : Str := nth s.strs n {}
def State.setStr (s : State) (n : Nat) (v : Str) : State := { s with strs := put s.strs n v }
def State.charger (s : State) (n : Nat) : Charger := nth s.chargers n {}
def State.setCharger (s : State) (n : Nat) (v : Charger) : State := { s with chargers := put s.chargers n v }
def State.rail (s : State) (n : Nat) : Rail := nth s.rails n {}
def State.setRail (s : State) (n : Nat) (v : Rail) : State := { s with rails := put s.rails n v }
def State.railGroup (s : State) (n : Nat) : RailGroup := nth s.railGroups n {}
def State.setRailGroup (s : State) (n : Nat) (v : RailGroup) : State := { s with railGroups := put s.railGroups n v }
def State.berth (s : State) (n : Nat) : Berth := nth s.berths n {}
def State.setBerth (s : State) (n : Nat) (v : Berth) : State := { s with berths := put s.berths n v }
def State.port (s : State) (n : Nat) : Port := nth s.ports n {}
def State.setPort (s : State) (n : Nat) (v : Port) : State := { s with ports := put s.ports n v }
def State.can (s : State) (n : Nat) : CanPort := nth s.net.can n {}
def State.setCan (s : State) (n : Nat) (v : CanPort) : State := { s with net := { s.net with can := put s.net.can n v } }
def State.eth (s : State) (n : Nat) : EthPort := nth s.net.eth n {}
def State.setEth (s : State) (n : Nat) (v : EthPort) : State := { s with net := { s.net with eth := put s.net.eth n v } }
def State.sensor (s : State) (n : Nat) : Sensor := nth s.thermal.sensors n {}
def State.setSensor (s : State) (n : Nat) (v : Sensor) : State :=
  { s with thermal := { s.thermal with sensors := put s.thermal.sensors n v } }

/-- A state operation made for each unit of a list, in order. -/
def forUnits (l : List Nat) (f : State → Nat → State) (s : State) : State := l.foldl f s

/-! Time. The PWM tick is 2.5 ns (R75). -/

def ticksPerUs : Nat := 400
def ticksPerMs : Nat := 400000
def ticksPerS : Nat := 400000000

/-- PWM ticks of a time in s, rounded up. -/
def ticksOf (sec : Rat) : Nat := (sec * ticksPerS).ceil.toNat

/-- The time in s of a count of PWM ticks. -/
def secOf (t : Nat) : Rat := (t : Rat) / ticksPerS

/-- PWM ticks since tick `t`. -/
def State.since (s : State) (t : Nat) : Nat := s.now - t

/-- `sec` seconds have passed since tick `t`. -/
def State.elapsed (s : State) (t : Nat) (sec : Rat) : Bool := decide (sec ≤ secOf (s.since t))

/-- A condition noted since a tick has held for `sec` seconds. -/
def State.heldFor (s : State) (t : Option Nat) (sec : Rat) : Bool :=
  match t with
  | none => false
  | some t => s.elapsed t sec

/-- The tick since which a condition has held, after one more look at it. -/
def State.track (s : State) (t : Option Nat) (c : Bool) : Option Nat :=
  if c then (match t with | none => some s.now | some t => some t) else none

/-! Presence (R4, R5, Tables 00-2 and 00-3). -/

def PartNo.phases : PartNo → Nat | .fyx9480 => 24 | .fyx9462 => 16 | .fyx9424 => 12
def PartNo.stages : PartNo → Nat | .fyx9480 => 8 | .fyx9462 => 6 | .fyx9424 => 4
def PartNo.mods : PartNo → Nat | .fyx9480 => 48 | .fyx9462 => 32 | .fyx9424 => 24
def PartNo.strings : PartNo → Nat | .fyx9480 => 8 | .fyx9462 => 4 | .fyx9424 => 0
def PartNo.berths : PartNo → Nat | .fyx9480 => 64 | .fyx9462 => 64 | .fyx9424 => 32
/-- 0x2010:06, Table 00-3. -/
def PartNo.functions : PartNo → Nat | .fyx9480 => 0x7FF | .fyx9462 => 0xEFD | .fyx9424 => 0x435
def PartNo.id : PartNo → Nat | .fyx9480 => 0x9480 | .fyx9462 => 0x9462 | .fyx9424 => 0x9424

/-- A unit of a kind is present. -/
def PartNo.has (p : PartNo) (k : Pres) (n : Nat) : Bool :=
  match k with
  | .always => true
  | .stage => decide (n < p.stages)
  | .stageSub => decide (n < p.stages)
  | .phase => decide (n < p.phases)
  | .phaseSub => decide (n < p.phases)
  | .modIn => decide (n < p.mods)
  | .group => decide (12 * n < p.mods)
  | .string => decide (n < p.strings)
  | .stringSub => decide (n < p.strings)
  | .charger => bit p.functions 9 && decide (n < p.strings)
  | .berth => decide (n < p.berths)
  | .berthSub => decide (n < p.berths)
  | .eth => decide (n < 2) && bit p.functions n
  | .can => decide (n < 2) && bit p.functions (2 + n)
  | .twoWire => decide (n < 4) && bit p.functions (4 + n)
  | .ddr => bit p.functions 8
  | .ring => bit p.functions 8 || bit p.functions 11

/-! The dictionary's values. -/

/-- The key of an object in a store. -/
def objKey (idx sub : Nat) : Nat := idx * 256 + sub

/-- The bytes a store holds for a key. -/
def storeGet (k : Nat) : List (Nat × List Byte) → Option (List Byte)
  | [] => none
  | p :: ps => if p.1 = k then some p.2 else storeGet k ps

/-- A store with a key's bytes written; keys stay strictly rising. -/
def storePut (k : Nat) (v : List Byte) : List (Nat × List Byte) → List (Nat × List Byte)
  | [] => [(k, v)]
  | p :: ps => if k < p.1 then (k, v) :: p :: ps else if p.1 = k then (k, v) :: ps else p :: storePut k v ps

/-- A store without a key. -/
def storeDel (k : Nat) (l : List (Nat × List Byte)) : List (Nat × List Byte) := l.filter fun p => p.1 != k

/-- The configuration slot in force, if any (R480). -/
def State.image (s : State) : Option ImgSlot :=
  match s.img.imgRun with
  | some k => s.img.cfg[k]?
  | none => none

/-- The values that the image in force gives (Table 17-2). -/
def State.imageValues (s : State) : List (Nat × List Byte) :=
  match s.image with
  | some sl => if s.supply.sideB then sl.content.valuesB ++ sl.content.values else sl.content.values
  | none => []

/-- The firmware slot that runs, if any. -/
def State.firmware (s : State) : Option ImgSlot :=
  match s.img.fwRun with
  | some k => s.img.fw[k]?
  | none => none

/-- LEGACY is in force (R500). -/
def State.legacy (s : State) : Bool := s.net.legacy

/-- Objects whose code 0xFF means none or unused: first index, count, stride, first and last sub-index. -/
def noneDefaults : List (Nat × Nat × Nat × Nat × Nat) := [
  (0x3000, 8, 0x100, 1, 1), (0x3000, 8, 0x100, 0x12, 0x12), (0x3B00, 16, 1, 0x12, 0x12), (0x3C00, 8, 1, 0x17, 0x17), (0x3D00, 8, 1, 4, 4),
  (0x4505, 1, 1, 1, 8), (0x5001, 8, 0x100, 5, 5), (0x4310, 32, 1, 2, 2), (0x4310, 32, 1, 4, 6), (0x4203, 1, 1, 1, 28), (0x4800, 4, 1, 6, 6),
  (0x4900, 64, 1, 4, 4), (0x4900, 64, 1, 7, 7), (0x2602, 1, 1, 1, 8)]

/-- The object reads none while no image gives it (DESIGN CHOICE, log entry 26: an image gives every object of its sections). -/
def readsNone (idx sub : Nat) : Bool :=
  noneDefaults.any fun (b, n, st, lo, hi) => decide (b ≤ idx) && decide ((idx - b) / st < n) && (idx - b) % st == 0 && decide (lo ≤ sub) && decide (sub ≤ hi)

/-- A value written, kept in MRAM, or given by the image. -/
def State.held? (s : State) (idx sub : Nat) : Option (List Byte) :=
  let k := objKey idx sub
  match storeGet k s.cfg, storeGet k s.kept with
  | some v, _ => some v
  | none, some v => some v
  | none, none => storeGet k s.imageValues

/-- A default that the tables give as a rule and not as a number, for an object with no value written or imaged. -/
def State.ruleDefault (s : State) (idx sub : Nat) : List Byte :=
  if 0x4030 ≤ idx ∧ idx < 0x4034 ∧ sub = 2 then leBytes 1 (idx - 0x4030)
  else if 0x4000 ≤ idx ∧ idx < 0x4030 ∧ (sub = 0x0B ∨ sub = 0x0C) then
    let fs : F32 := match s.held? idx 4 with | some v => BitVec.ofNat 32 (leNat v) | none => F32.one
    leBytes 4 (if sub = 0x0B then fs else F32.neg fs).toNat
  else if 0x4800 ≤ idx ∧ idx < 0x4804 ∧ sub = 4 then
    leBytes 1 (match (s.held? idx 3).map leNat with | none => 10 | some 0 => 10 | some 1 => 5 | some _ => 2)
  else if 0x4800 ≤ idx ∧ idx < 0x4804 ∧ sub = 5 then leBytes 1 (b2n s.legacy)
  else
    match objRow idx sub with
    | none => []
    | some r => if readsNone idx sub then List.replicate r.typ.size 0xFF else leBytes r.typ.size 0

/-- The table's default of an object. -/
def State.tableDefault (s : State) (idx sub : Nat) : List Byte :=
  if 0x4800 ≤ idx ∧ idx < 0x4804 ∧ sub = 5 then s.ruleDefault idx sub
  else
    match objRow idx sub with
    | none => []
    | some r =>
      match r.dflt with
      | some d => leBytes r.typ.size d
      | none => s.ruleDefault idx sub

/-- The value of an object that is held and not computed: as written, as MRAM keeps it, as the image gives it, or the default (R378). -/
def State.raw (s : State) (idx sub : Nat) : List Byte :=
  match s.held? idx sub with
  | some v => v
  | none => s.tableDefault idx sub

/-- An object's value as a number. -/
def State.objN (s : State) (idx sub : Nat) : Nat := leNat (s.raw idx sub)
/-- A REAL32 object's bits. -/
def State.objF (s : State) (idx sub : Nat) : F32 := BitVec.ofNat 32 (s.objN idx sub)
/-- A REAL32 object's exact value. -/
def State.objR (s : State) (idx sub : Nat) : Rat := F32.toRat (s.objF idx sub)

/-- A REAL32 object's value where an infinity counts as a number beyond every finite one. DESIGN CHOICE (log entry 128): 2^128. -/
def State.objX (s : State) (idx sub : Nat) : Rat := F32.toExt (s.objF idx sub)
/-- A signed object's value. -/
def State.objI (s : State) (idx sub : Nat) : Int := leInt (s.raw idx sub)

/-- The object's value written into the store. -/
def State.setObj (s : State) (idx sub : Nat) (v : List Byte) : State := { s with cfg := storePut (objKey idx sub) v s.cfg }
def State.setObjN (s : State) (idx sub n v : Nat) : State := s.setObj idx sub (leBytes n v)
/-- The object's value put back to the image's or the default. -/
def State.delObj (s : State) (idx sub : Nat) : State := { s with cfg := storeDel (objKey idx sub) s.cfg }

/-! Modes (Table 02-1). -/

def Mode.code : Mode → Nat
  | .pilot => 0x00 | .boot => 0x01 | .layup => 0x02 | .moored => 0x03 | .rise => 0x04 | .track => 0x05 | .active => 0x06
  | .holdup => 0x07 | .blackstart => 0x08 | .service => 0x09 | .descent => 0x0A | .lockout => 0x0B

def State.inMode (s : State) (m : Mode) : Bool := s.mode.mode == m

/-- The mode is one of a list. -/
def State.inModes (s : State) (l : List Mode) : Bool := l.any fun m => s.mode.mode == m

/-- The region's number in the order of its code (R18, Table 01-2), from 0. -/
def Region.idx : Region → Nat
  | .ao => 0 | .sup => 1 | .eng => 2 | .pwm => 3 | .sns => 4 | .sadc => 5 | .net => 6 | .mem => 7 | .nvm => 8 | .pair => 9

def State.region (s : State) (r : Region) : RegionState := nth s.mode.regions r.idx .off
def State.regionOn (s : State) (r : Region) : Bool := s.region r == .on

/-- The state of the region with a code of Table 01-2. -/
def State.regionCode (s : State) (code : Nat) : RegionState := nth s.mode.regions (code - 1) .off

/-- The region is powered down (R29, Table 11-6). -/
def State.poweredDown (s : State) (code : Nat) : Bool := [RegionState.off, .ret, .duty].contains (s.regionCode code)
/-- PWM is ON or SAFE: its counters run, and `PPS_OUT` toggles (R40, R75, R403). -/
def State.pwmPowered (s : State) : Bool := s.region .pwm == .on || s.region .pwm == .safe

/-! Operating time and records (R453 to R460). -/

/-- 0x2300:01 `OperatingTime` in ms. -/
def State.opMs (s : State) : Nat := s.supply.opTime + s.since s.supply.opTick / ticksPerMs
/-- µs after the millisecond step. -/
def State.opUs (s : State) : Nat := s.since s.supply.opTick % ticksPerMs / ticksPerUs

/-- `mode_byte` of a record (Table 16-1). -/
def State.modeByte (s : State) : Nat := s.mode.mode.code + 16 * b2n s.pair.owns + 32 * b2n s.supply.sideB

/-- The side's member nibble: 0 A, 1 B (R31). -/
def State.member (s : State) : Nat := b2n s.supply.sideB

/-- A record of an event now (Tables 16-1 to 16-3). -/
def State.mkRecord (s : State) (recType cls kind source : Nat) (payload : List Byte) : Record :=
  { recType, cls, kind, sourceId := source, payload
    seqStamp := s.log.timeInvalid
    stamp := if s.log.timeInvalid then 0 else s.opMs
    stampUs := if s.log.timeInvalid then 0xFFFF else s.opUs
    pcc := s.supply.cycles % 2 ^ 24
    modeByte := s.modeByte
    tick := s.now }

/-- The low class present in the pending buffer. -/
def lowestClass : List Record → Nat
  | [] => 6
  | r :: rs => min r.cls (lowestClass rs)

/-- A list of records without the first of a class. -/
def dropFirst (c : Nat) : List Record → List Record
  | [] => []
  | r :: rs => if r.cls = c then rs else r :: dropFirst c rs

/-- One more drop of a class (R459). -/
def Log.countDrop (l : Log) (c : Nat) : Log := { l with drops := put l.drops c (nth l.drops c 0 + 1), dropSeen := true }

/-- A record enters the pending buffer, takes the place of an older one, or is dropped (R460). -/
def Log.arrive (l : Log) (r : Record) : Log :=
  if l.waiting.length < 256 then
    { l with waiting := l.waiting ++ [r], peak := max l.peak (l.waiting.length + 1) }
  else
    let c := lowestClass l.waiting
    if c ≤ r.cls then { (l.countDrop c) with waiting := dropFirst c l.waiting ++ [r] }
    else l.countDrop r.cls


/-- A copy committed by a writer of the MRAM; where a word of it has failed its verification, the copy is not committed (R450). -/
def State.commitCopy (s : State) (w : MramWriter) (f : State → State) : State :=
  if s.mem.failed.contains w then { s with mem := { s.mem with failed := s.mem.failed.filter fun x => x != w } } else f s

/-! Records (R454, R455). -/

/-- A record that stands ready enters the pending buffer (R460). -/
def State.enterRecord (s : State) (r : Record) : State := { s with log := s.log.arrive r }

/-- A record of an event enters the pending buffer. -/
def State.record (s : State) (recType cls kind source : Nat) (payload : List Byte) : State := s.enterRecord (s.mkRecord recType cls kind source payload)

/-- A record with no source (class NOTE). -/
def State.note (s : State) (recType : Nat) (payload : List Byte) : State := s.record recType 0 0 0 payload

/-- The record of a window's outcome: 0 frozen, 1 refused, 2 abandoned (Table 16-3); it gives the number of the trigger's record, which that record may get first. -/
def State.noteWindow (s : State) (w outcome number : Nat) (ref : Option RecRef) : State :=
  s.enterRecord { s.mkRecord 0x0040 0 0 0 (leBytes 1 w ++ leBytes 1 outcome ++ leBytes 8 number) with refers := if number = 0 then ref else none }

/-! Image transfers, validity markers and selectors (R483, R484). -/

/-- A transfer of `UpdateData`. -/
def Transfer.isUpdate (t : Transfer) : Bool := t.idx == 0x2401 && t.sub == 2 && !t.upload

/-- A transfer of `UpdateData` is open, whether or not a byte has come. -/
def State.imageTransfer (s : State) : Bool := (s.net.sdo ++ s.net.nireo).any fun x => x.transfers.any Transfer.isUpdate

/-- No session has one any more. -/
def State.dropImageTransfers (s : State) : State :=
  let drop := fun (x : Session) => { x with transfers := x.transfers.filter fun t => !t.isUpdate }
  { s with net := { s.net with sdo := s.net.sdo.map drop, nireo := s.net.nireo.map drop } }


/-- The bytes of a copy that its CRC-32 covers (DESIGN CHOICE, log entry 176: their order and widths). -/
def Markers.bytes (k : Markers) : List Byte := ((k.fw ++ k.cfg).map fun b => leBytes 1 (b2n b)).flatten ++ leBytes 1 k.fwNext ++ leBytes 1 k.imgNext

/-- A copy with its CRC-32 computed, and one whose CRC-32 is good. -/
def Markers.closed (k : Markers) : Markers := { k with crc := crc32 k.bytes }
def Markers.valid (k : Markers) : Bool := crc32 k.bytes == k.crc

/-- The slots' markers and the selectors committed, both copies (R484). -/
def Img.mark (m : Img) : Img :=
  { m with marks := List.replicate 2 ({ fw := m.fw.map (·.valid), cfg := m.cfg.map (·.valid), fwNext := m.fwNext, imgNext := m.imgNext } : Markers).closed }

/-- The markers and selectors as a start reads them: from a copy whose CRC-32 is good; with neither, no slot is valid (R451, R484). -/
def Img.loadMarks (m : Img) : Img :=
  let k := (m.marks.find? (·.valid)).getD {}
  { m with fw := m.fw.mapIdx fun i x => { x with valid := nth k.fw i false }, cfg := m.cfg.mapIdx fun i x => { x with valid := nth k.cfg i false }
           fwNext := k.fwNext, imgNext := k.imgNext }

/-! Head words of the logbook (R457). -/

/-- The bytes of a head word that its CRC-32 covers (DESIGN CHOICE, log entry 176: their order and widths). -/
def HeadWord.bytes (h : HeadWord) : List Byte := leBytes 4 h.slot ++ leBytes 8 h.number

/-- A head word with its CRC-32 computed, and one that has been written and whose CRC-32 is good. -/
def HeadWord.closed (h : HeadWord) : HeadWord := { h with crc := crc32 h.bytes }
def HeadWord.valid (h : HeadWord) : Bool := h.number != 0 && crc32 h.bytes == h.crc

/-- `n` bytes, cut or filled with zeros. -/
def padTo (n : Nat) (l : List Byte) : List Byte := (l ++ List.replicate n 0).take n

/-- `rec_flags` (Table 16-2). -/
def Record.flags (r : Record) : Nat :=
  r.cls + 8 * b2n r.seqStamp + 16 * b2n r.superseded + 32 * b2n r.fromFreeze + 64 * b2n r.lastBreath

/-- Bytes 0 to 59 of a record. -/
def Record.body (r : Record) : List Byte :=
  leBytes 2 r.recType ++ leBytes 1 r.flags ++ leBytes 1 r.kind
    ++ leBytes 6 (if r.seqStamp then r.number % 2 ^ 32 else r.stamp) ++ leBytes 3 r.pcc ++ leBytes 1 r.modeByte
    ++ leBytes 2 r.stampUs ++ leBytes 4 r.sourceId ++ leBytes 8 r.number ++ padTo 32 r.payload

/-- The 64 bytes of a record (Table 16-1). -/
def Record.bytes (r : Record) : List Byte := r.body ++ leBytes 4 (crc32 r.body).toNat

/-! Free values. -/

/-- A free real value, and the state that has drawn it. -/
def State.draw (s : State) : Rat × State := (Config.freeReal s.draws, { s with draws := s.draws + 1 })

/-- A free outcome of two. -/
def State.drawBool (s : State) : Bool × State := let d := s.draw; (decide (0 < d.1), d.2)

/-- An object of a dictionary request answered to its channel: status (Table 13-2) and bytes (R382). -/
def State.reply (s : State) (ch : Chan) (status : Nat) (data : List Byte) : State :=
  { s with net := { s.net with answer := { chan := ch, status := status, data := data } } }

def stOk : Nat := 0
def stAlready : Nat := 1
def stReadOnly : Nat := 0x06010002
def stNoObject : Nat := 0x06020000
def stHardware : Nat := 0x06060000
def stNoSub : Nat := 0x06090011
def stRange : Nat := 0x06090030
def stAccess : Nat := 0x08000020
def stState : Nat := 0x08000022

/-- A write answers 0, or the code that refuses it; over SDO "already complete" is confirmed as a normal write (R383). -/
def State.answerWrite (s : State) (ch : Chan) (status : Nat) : State :=
  s.reply ch (match ch with | .sdo _ _ => if status = stAlready then stOk else status | _ => status) []

end Sys2Proof.Machine
end

