-- ==== Sys2Proof/Machine/TimeBase.lean ====
section
/-! DEFINITION. The time base: TAI, its state, settings and slew (R400, R401). -/
namespace Sys2Proof.Machine

def State.setTime (s : State) (t : TimeBase) : State := { s with net := { s.net with time := t } }

/-- The slew made since a tick at 10 ppm, in units of 2.5 ns, with what is left of it in ns (R400). -/
def slewed (left : Rat) (ticks : Nat) : Rat × Rat :=
  let made := clampR left (-((ticks : Rat) / 40000)) ((ticks : Rat) / 40000)
  (made * 2 / 5, left - made)

/-- TAI now in units of 2.5 ns: the PWM ticks counted and the slew made (R400). -/
def State.taiNow (s : State) : Nat :=
  let t := s.net.time
  (((t.tai + s.since t.at_ : Nat) : Rat) + (slewed t.slew (s.since t.slewAt)).1).floor.toNat

/-- The time base brought to now. -/
def State.settleTime (s : State) : State :=
  let t := s.net.time
  s.setTime { t with tai := s.taiNow, at_ := s.now, slew := (slewed t.slew (s.since t.slewAt)).2, slewAt := s.now }

/-- `TimeSetSeconds` waits for its `PPS_OUT` edge (R400). -/
def State.applyTimeSet (s : State) (v : Nat) : State := s.setTime { s.net.time with pendingSet := some (v, s.now) }

/-- `PhaseAdjust` adds to the slew (R400). -/
def State.applyPhase (s : State) (ns : Int) : State :=
  let s := s.settleTime
  s.setTime { s.net.time with slew := s.net.time.slew + ns }

/-- State 1 is left: to holdover, or to free-running where `HoldoverLimit` is 0 (R401). -/
def State.leaveTraceable (s : State) : State :=
  if s.net.time.state = 1 then
    s.setTime { s.net.time with state := if s.objN 0x2310 6 = 0 then 3 else 2, holdoverAt := s.now, traceable := 0 }
  else s.setTime { s.net.time with traceable := 0 }

/-- `Traceable` written (R400, R401). While the time is unset a 1 is held, and the first set enters state 1. -/
def State.applyTraceable (s : State) (v : Nat) : State :=
  if v = 1 then s.setTime { s.net.time with traceable := 1, traceAt := s.now, state := if s.net.time.state = 0 then 0 else 1 }
  else s.leaveTraceable

/-- 0x2310:0D (R401). -/
def State.clockClass (s : State) : Nat := match s.net.time.state with | 1 => 6 | 2 => 7 | _ => 248

/-- The PTP time in ns, 0 while the time is unset. -/
def State.ptpNs (s : State) : Nat := if s.net.time.state = 0 then 0 else s.taiNow * 5 / 2

end Sys2Proof.Machine
end

