-- ==== Sys2Proof/Machine/Actions.lean ====
section
/-! DEFINITION. Actions on outputs and units that reactions, mode changes and commands share. -/
namespace Sys2Proof.Machine

/-! Keys of sources, and the beginning of a clear. -/

/-- Die code of a region code (R32, Table 01-2): AO, SADC and NVM are on the M die. -/
def dieOf (region : Nat) : Nat := if region = 1 ∨ region = 6 ∨ region = 9 then 2 else 1

/-- The 32 bits of a source ID (Table 01-7). -/
def srcId (member die region cluster unit : Nat) : Nat := member * 2 ^ 28 + die * 2 ^ 24 + region * 2 ^ 16 + cluster * 2 ^ 8 + unit

/-- The key of one of this side's own sources (R31, R32). -/
def State.key (s : State) (region cluster unit kind : Nat) : Key := { id := srcId s.member (dieOf region) region cluster unit, kind := kind }

/-- A fault kept over the power-down of its region is dropped (R29). -/
def State.unlatch (s : State) (k : Key) : State := { s with faults := { s.faults with latched := s.faults.latched.filter fun x => x.key != k } }

/-- The clear condition of a source holds: it clears at the end of the window that begins now (R319). -/
def State.clearing (s : State) (k : Key) : State :=
  { s with faults := { s.faults with active := s.faults.active.map fun a =>
      if a.key = k ∧ a.clearing = none then { a with clearing := some s.now } else a } }

/-! Tide table in force (R118, R134). -/

def State.bank (s : State) : Bank := nth s.tide.banks s.tide.active {}
def State.variant (s : State) : Variant := nth s.bank.variants s.tide.variant {}
/-- The record of an instance in the variant in force. -/
def State.loopRec (s : State) (lp : Nat) : Option LoopRec := s.variant.recs.find? fun r => r.lp == lp
/-- The instance's entry of the loop section in the active bank. -/
def State.loopParam (s : State) (lp : Nat) : LoopParam := (s.bank.params.find? fun p => p.lp == lp).getD {}

/-! Stages and phases (R141). -/

def State.stageType (s : State) (n : Nat) : Nat := s.objN (0x3000 + 256 * n) 1
def State.stageFirst (s : State) (n : Nat) : Nat := s.objN (0x3000 + 256 * n) 2
def State.stageCount (s : State) (n : Nat) : Nat := s.objN (0x3000 + 256 * n) 3
def State.carrierPeriod (s : State) (n : Nat) : Nat := s.objN (0x3000 + 256 * n) 4

/-- The stage is defined by the image (R141). -/
def State.stageUsed (s : State) (n : Nat) : Bool := decide (n < 8) && s.stageCount n != 0 && s.stageType n != 0xFF

/-- The phases of a stage, in ascending order. -/
def State.stagePhases (s : State) (n : Nat) : List Nat :=
  if s.stageUsed n then (List.range (s.stageCount n)).map (s.stageFirst n + ·) else []

/-- The stage of a phase, if any. -/
def State.stageOf (s : State) (p : Nat) : Option Nat := (List.range 8).find? fun n => (s.stagePhases n).contains p

/-- 0x38nn:02 `PhaseStage`. -/
def State.phaseStage (s : State) (p : Nat) : Nat := (s.stageOf p).getD 0xFF

/-- The stage is started: it reports STARTING, RUNNING or DEGRADED. -/
def State.stageOn (s : State) (n : Nat) : Bool :=
  (s.stage n).state.switches

/-- Instances that serve a stage (R107, Table 04-6). -/
def State.stageInsts (s : State) (n : Nat) : List Nat :=
  (s.variant.recs.filter fun r => !r.noStage && r.stage == n).map (·.lp)

/-- An instance that is stopped: neither released nor running. -/
def Instance.stopped (i : Instance) : Instance := { i with active := false, run := .idle, aborted := false }

/-- Engine cycles in a number of ticks (R103). -/
def State.tickCycles (s : State) (t : Nat) : Nat := if s.variant.derated then t * 9 / 10 else t

/-- The engine cycle that has begun last at a tick, counted from the common start pulse, and the tick at which a cycle begins, rounded up to a
tick (R103, R115). -/
def State.cycleAt (s : State) (t : Nat) : Nat := s.tickCycles (t - s.tide.startPulse)

def State.cycleStart (s : State) (c : Nat) : Nat := s.tide.startPulse + (if s.variant.derated then (c * 10 + 8) / 9 else c)

/-- Engine cycles that an instance's run has taken in the present occupancy interval. -/
def State.ranFor (s : State) (l : Nat) : Nat := s.cycleAt s.now - s.cycleAt (max (s.inst l).startedAt s.tide.occFrom)

/-- An engine left by the instance it ran is idle (R125). -/
def State.freeEngine (s : State) (l : Nat) : State :=
  let n := s.ranFor l
  { s with engines := s.engines.map fun e => if e.current = some l then { e with current := none, busy := e.busy + n } else e }

/-- An instance stopped, its engine left (R125, R139). -/
def State.stopInst (s : State) (l : Nat) : State := (s.setInst l (s.inst l).stopped).freeEngine l

/-- The controller follows a holder: TRACK, or RISE without `OWN_N`. -/
def State.follows (s : State) : Bool := !s.pair.owns && s.inModes [.rise, .track]

/-- A standby that hears its active: it takes the active's bands and decisions; while heartbeats are lost it runs on its own (R351). -/
def State.tracks (s : State) : Bool := s.inMode .track && !s.pair.hbLost

/-- Phases of a stage that are part of the running interleave. -/
def State.runningPhases (s : State) (n : Nat) : List Nat := (s.stagePhases n).filter fun p => (s.phase p).inSet

/-- A phase with both outputs low and out of the interleave. -/
def Phase.low (p : Phase) : Phase :=
  { p with outOn := false, inSet := false, returning := false, hold := false, moving := false, bothOff := false, endHigh := false,
           endLow := false, cuts := [], bwRun := 0, missedCommits := 0 }

/-- Every output of a stage low, and the stage in a stopped state (R161); the hold source ends with the last held phase (Table 05-7). -/
def State.stopStage (s : State) (u : UState) (n : Nat) : State :=
  let s := forUnits (s.stagePhases n) (fun s p => s.setPhase p (s.phase p).low) s
  let s := forUnits (s.stageInsts n) (fun s l => s.stopInst l) s
  let s := if (s.stage n).hold && (List.range 8).all (fun m => m == n || !(s.stage m).hold) then s.clearing (s.key 4 0xFF 2 0) else s
  s.setStage n { s.stage n with state := u, startStep := 0, startBounds := 0, startHeld := false, stopPending := false, rampOn := false,
                                hold := false, reinterleaving := false, releavePending := false, bwAny := false, fenderAny := false,
                                prebias := false }

/-- Every used stage stopped in a state. -/
def State.stopStages (s : State) (u : UState) : State :=
  forUnits ((List.range 8).filter fun n => s.stageUsed n) (fun s n => s.stopStage u n) s

/-- A SHED of a stage: outputs low, state SHED (R161). -/
def State.shedStage (s : State) (n : Nat) : State := if s.stageUsed n then s.stopStage .shed n else s

/-- The set of an instance for a band; with no sections its `band_map` is ignored (R120, Table 04-7). -/
def LoopRec.setOf (r : LoopRec) (band : Nat) : Nat := if r.sections = 0 then 0 else bits r.bandMap (3 * band) 3

/-- A slot of set `c` of an instance (R120). -/
def LoopRec.slotIn (r : LoopRec) (c m : Nat) : Bool := decide (r.coefBase + c * r.sections ≤ m) && decide (m < r.coefBase + (c + 1) * r.sections)

/-- An instance uses a slot (R116): the set in force holds it. DESIGN CHOICE (log entry 105): the sets not in force do not count as used. -/
def State.usesSlot (s : State) (r : LoopRec) (e m : Nat) : Bool := r.engine == e && r.slotIn (s.inst r.lp).set m

/-- SHED of an instance (R139): its stage stops; one with no stage stops alone, and its consumers read its last output. -/
def State.shedInst (s : State) (r : LoopRec) : State :=
  if r.noStage then (s.setInst r.lp { s.inst r.lp with shed := true }).stopInst r.lp else s.shedStage r.stage

/-! Feeds, strings, rails. -/

/-- A feed's gate off at once (R229, R231). -/
def State.gateOff (s : State) (f : Nat) : State :=
  let v := s.feed f
  s.setFeed f { v with gate := false, pg := false, inrush := false, chopAt := none, gateAt := if v.gate then s.now else v.gateAt }

/-- SHED of a feed: gate inactive, not switched on (R234). -/
def State.shedFeed (s : State) (f : Nat) : State :=
  let s := s.gateOff f
  s.setFeed f { s.feed f with shed := true, on := false, pg := false }

/-- A string's contactor and precharge commands inactive (R40, R52). -/
def State.openString (s : State) (n : Nat) : State :=
  let v := s.str n
  s.setStr n { v with contactor := false, precharging := false, prechargeWaiting := false, connected := false, auxClosed := false,
                      openedAt := if v.contactor then s.opMs else v.openedAt,
                      contactorAt := if v.contactor then s.now else v.contactorAt }

/-- SHED of a string: its window goes to 0 A, its stage stops, and it opens 10 ms later (R262). -/
def State.shedString (s : State) (n : Nat) : State :=
  let s := s.setStr n { s.str n with shed := true, shedAt := s.now }
  let st := s.objN (0x5001 + 256 * n) 6
  if s.objN (0x5001 + 256 * n) 1 = 1 ∧ s.stageOn st = true then s.stopStage .disabled st else s

/-- SHED of an input group: its decimators and comparators stop; its raised sources stay active, and a running offset measurement fails (R92,
R518). -/
def State.shedGroup (s : State) (g : Nat) : State :=
  let s := s.setGroup g { s.group g with running := false, shed := true }
  let held := s.faults.active.map fun a => if bits a.key.id 16 8 = 5 ∧ bits a.key.id 8 8 = g then { a with clearing := none } else a
  let s := { s with faults := { s.faults with active := held } }
  forUnits ((List.range 12).map (12 * g + ·)) (fun s m =>
    let v := s.modIn m
    s.setMod m { v with valid := false, validOld := false, frames := 0, hist := [], fastBits := [], fastSeen := 0, highRun := 0, lowRun := 0, high := false, low := false
                        calBad := v.calBad || (v.cal == 1 && decide (v.calCount < 4096)) }) s

/-- A rail switched off (R296). -/
def State.railOff (s : State) (r : Nat) : State :=
  let v := s.rail r
  s.setRail r { v with on := false, margin := 0, fresh := false, polled := false, phase := if v.phase == .off then .off else .falling }

/-- Every actuator output safe (R40): phases low, gates, contactors, precharges and power-good outputs inactive. -/
def State.outputsSafe (s : State) (u : UState) : State :=
  let s := s.stopStages u
  let s := forUnits [0, 1, 2, 3] (fun s f => let s := s.gateOff f; s.setFeed f { s.feed f with pg := false, on := false }) s
  forUnits (List.range 8) (fun s n => s.openString n) s

/-- Every rail of the side off at once. -/
def State.railsOff (s : State) : State := forUnits (List.range 32) (fun s r => s.railOff r) s

/-- `TRIP_N` as the package drives it: asserted by mode, by a TRIP in force and by `ESTOP_N` (R169). -/
def State.tripLevel (s : State) : Bool :=
  s.mode.tripInForce || s.mode.estopLow || !s.pwmPowered
    || s.inModes [.pilot, .boot, .layup, .moored, .service, .lockout] || (s.supply.phase != .running)

/-- The pin follows the rule of R169. -/
def State.driveTrip (s : State) : State := { s with mode := { s.mode with tripDriven := s.tripLevel } }

/-! Heartbeats sent, and ownership released (R343, R354, R356). -/

/-- PAIR runs. -/
def State.pairUp (s : State) : Bool := s.regionOn .pair && s.supply.phase == .running

/-- The release reason received last is orderly descent, 0 while the twin gives none (R47, R354; DEDUCED, log entry 140). -/
def State.heardDescent (s : State) : Bool := s.pair.twinSeen && s.pair.heardReason == 8

/-- The conditions of R354 for a claim in TRACK. -/
def State.eligible (s : State) : Bool :=
  s.inMode .track && s.regionOn .eng && !s.mode.tripInForce && s.mode.pendingTrip.isNone && s.mode.pendingLockout.isNone && !s.mode.estopLow
    && s.objN 0x2500 9 == 1 && !s.heardDescent

/-- The heartbeat as this side would send it now (Table 12-3). -/
def State.heartbeat (s : State) : Heartbeat :=
  { tickStamp := s.now % 2 ^ 32, hbSeq := (s.pair.hbSeq + 1) % 2 ^ 16, mode := s.mode.mode.code, drives := s.pair.owns, trackReady := s.pair.trackReady
    orderly := s.inMode .descent && !s.mode.descentByTrip && s.pair.owns, offer := s.pair.hoState == 1, accept := s.pair.hoAccept
    eligible := s.eligible, locked := s.pair.locked, health := s.pair.health, reason := s.pair.reason
    bands := (List.range 8).map fun n => (s.stage n).band
    gates := s.feeds.map (·.gate), contactors := s.strs.map (·.contactor), precharges := s.strs.map (·.precharging)
    stagesOn := (List.range 8).map s.stageOn, periodIndex := s.pair.periodIndex
    ack := (List.range 4).map fun i => nth s.pair.rxSeq (1 + i) 0 % 256, supLive := s.pair.supLive, target := s.mode.descentTo.code }

/-- The next frame number of a class (R339): 32 bits. -/
def State.nextSeq (s : State) (c : Nat) : Nat := (nth s.pair.txSeq (c - 1) 0 + 1) % 2 ^ 32

/-- The heartbeat of now sent on both lanes (R343). -/
def State.sendHeartbeat (s : State) : State :=
  { s with pair := { s.pair with lastSent := s.heartbeat, hbSeq := (s.pair.hbSeq + 1) % 2 ^ 16, txSeq := put s.pair.txSeq 0 (s.nextSeq 1) } }

/-- The release reason told to the twin before the release, in an extra heartbeat sent at once where PAIR runs (R356). -/
def State.tellReason (s : State) (reason : Nat) : State :=
  let s := { s with pair := { s.pair with reason := reason, lastReason := reason } }
  if s.pairUp then s.sendHeartbeat else s

/-! Rails, as the image gives them (R288), and the two-wire runs that end with the ownership (R407). -/

def State.railN (s : State) (r sub : Nat) : Nat := s.objN (0x4310 + r) sub
def State.railKind (s : State) (r : Nat) : Nat := s.railN r 2
def State.railTarget (s : State) (r : Nat) : Nat := s.railN r 4
/-- The image uses the rail (R288). -/
def State.railUsed (s : State) (r : Nat) : Bool := decide (r < 32) && decide (s.railKind r < 4)

/-- The berth is the target of one of this side's partner rails. -/
def State.railBerth (s : State) (b : Nat) : Bool := (List.range 32).any fun r => s.railUsed r && s.railKind r == 2 && s.railTarget r == b

/-- The former holder's runs are abandoned, but for those of its own rail berths; a transaction in progress completes. Discovery ends. -/
def State.leavePorts (s : State) : State :=
  let run := fun (v : Port) (r : Run) => if s.railBerth r.berth then some r else if v.work = .run then some { r with last := true } else none
  { s with ports := s.ports.map fun v => { v with run := v.run.bind (run v), discovering := false, todo := [] } }

/-! Frames of class 2 to 5 (R339 to R341). -/

/-- The twin has sent a good heartbeat within the last second. -/
def State.twinPresent (s : State) : Bool := s.pair.twinSeen && !s.elapsed s.pair.twinAt 1

/-- Bytes of a message: of a mirror write and of an image transfer at most one frame, of a snapshot at most 1.25 MiB (R339, R350); else a free value. -/
def KopolBody.bytes (b : KopolBody) (c q : Nat) : Nat :=
  match b with
  | .mirror _ _ _ => min 256 (Config.messageBytes c q)
  | .image => min 256 (Config.messageBytes c q)
  | .snapshot _ => min 1310720 (Config.messageBytes c q)
  | .track _ => Config.messageBytes c q
  | .align _ _ => Config.messageBytes c q

/-- The frames of a message of n bytes from number `q` on: each of at most 256 payload bytes, the last marked as such (R339, Table 12-1). -/
def messageFrames (b : KopolBody) (n q now : Nat) : List SentFrame :=
  let k := max 1 ((n + 255) / 256)
  (List.range k).map fun i => { seq := (q + i) % 2 ^ 32, at_ := now, length := min 256 (n - 256 * i), last := i + 1 == k, body := b }

/-- A message of class 2 to 5 sent over Kopol in frames of at most 256 bytes, held until the twin acknowledges them (R339, R341). -/
def State.sendFrame (s : State) (c : Nat) (b : KopolBody) : State :=
  if s.twinPresent then
    let q := s.nextSeq c
    let l := messageFrames b (b.bytes c q) q s.now
    { s with pair := { s.pair with
      txSeq := put s.pair.txSeq (c - 1) ((q + l.length - 1) % 2 ^ 32)
      unacked := put s.pair.unacked (c - 2) (nth s.pair.unacked (c - 2) [] ++ l) } }
  else s

/-- A pair-common value that this side has put in force is mirrored to the twin, with the period index at which it takes effect (R366, R367): a share trim at
the next carrier boundary (R205), the others at once. -/
def State.mirrored (s : State) (idx sub : Nat) (data : List Byte) : State :=
  s.sendFrame 4 (.mirror (s.pair.periodIndex + b2n (idx == 0x4504)) (objKey idx sub) data)

/-! What the holder tells its twin (Table 12-5). -/

/-- A tracking message sent by the holder (R351). -/
def State.tell (s : State) (m : TrackMsg) : State := if s.pair.owns then s.sendFrame 2 (.track m) else s

/-- The place of a stage's last carrier boundary in time, in ticks, on the scale that the period index gives both controllers once their clocks are
locked (R343, R349). DESIGN CHOICE (log entry 123): a message names a boundary by it. -/
def State.boundaryPlace (s : State) (st : Nat) : Nat :=
  s.pair.periodIndex * s.carrierPeriod s.variant.refStage + (s.stage st).boundaryTick - (s.stage s.variant.refStage).boundaryTick

/-- What a message says of a phase: 0 in the running set or to be in the next start's, a drop cause, or 5 left out with no drop. -/
def Phase.dropCode (v : Phase) : Nat := if v.dropped then (if v.dropCause = 0 then 4 else v.dropCause) else if v.enable then 0 else 5

/-- A stage as the holder tells it: started with its step, its dropped phases with their causes, its angle set (R143, R198), at a carrier boundary. -/
def State.newsOf (s : State) (st k : Nat) : StageNews :=
  { k := k, state := (s.stage st).state, step := (s.stage st).startStep, angleSet := (s.stage st).angleSet, short := (s.observer st).capShort
    drops := (s.stagePhases st).map fun p => (s.phase p).dropCode }

/-- What has changed of a stage since the twin was told last: one message, or one for each decision of its observer (R143, R198). -/
def State.tellStage (s : State) (st k : Nat) : State :=
  let n := s.newsOf st k
  let o := s.observer st
  if !s.pair.owns || ({ nth s.pair.told st {} with k := k } == n && o.decided.isEmpty && o.ended.isEmpty) then s
  else
    let s := ({ s with pair := { s.pair with told := put s.pair.told st n } }).setObserver st { o with decided := [], ended := [] }
    (if o.decided.isEmpty then [none] else o.decided.map some).foldl (fun t d => t.tell (.stage st { n with decision := d, ends := o.ended })) s

/-- What an anchor or a verdict changes of an estimator (R261). -/
def Estimator.marks (e : Estimator) : List Nat :=
  [e.anchorAt, b2n e.anchored, b2n e.unanchored, b2n e.endDis, b2n e.endChg, e.endDisCount, e.endChgCount, b2n e.disagree, e.disCount]

/-- What a change of a charger channel changes (R275): all but its clocks and measurements. -/
def Charger.marks (c : Charger) : List Nat :=
  [match c.phase with | .idle => 0 | .bulk => 1 | .pulse => 2 | .equalise => 3 | .finalRest => 4 | .complete => 5 | .terminated => 6,
   b2n c.requested, b2n c.paused, c.rate, c.full, b2n c.eqDue, b2n c.eqCommitted, c.eqDone, c.eqAborts, c.completed, c.endCause, b2n c.hostOnly]

/-- A string and its charger channel told to the twin: at an anchor or a verdict, and at a change or after 1 s (R261, R275). DESIGN CHOICE (log entry
160): with the step of the estimator that follows. -/
def State.tellString (s : State) (k : Nat) : State :=
  if !s.pair.owns then s
  else
    let e := (s.str k).est.marks
    let s := if e = nth s.pair.toldMarks k [] then s
      else ({ s with pair := { s.pair with toldMarks := put s.pair.toldMarks k e } }).tell (.estimator k (s.str k).est)
    let c := (s.charger k).marks
    let was := nth s.pair.toldChargers k ([], 0)
    if c = was.1 ∧ s.elapsed was.2 1 = false then s
    else ({ s with pair := { s.pair with toldChargers := put s.pair.toldChargers k (c, s.now) } }).tell (.charger k (s.charger k))

/-- A string's slack-water window and probe as the holder tells them (R261). -/
def Str.slackNews (v : Str) : SlackNews :=
  { slack := v.slack, slackFrom := v.slackFrom, slackByCharger := v.slackByCharger, slackI0 := v.slackI0, slackUpFrom := v.slackUpFrom, slackUpI0 := v.slackUpI0
    pPlus := v.pPlus, pMinus := v.pMinus, probeMark := v.probeMark, probeState := v.probeState }

/-- The manager told at its update, with the windows of the strings, the PTP time, and a black start's progress (R226, R281, R351). DESIGN CHOICE
(log entry 160): the time's message of every 1 ms goes with the update, and the windows with the manager's state. -/
def State.tellUpdate (s : State) : State :=
  let s := (s.tell (.spm s.spm (s.strs.map Str.slackNews))).tell (.ptp s.taiNow)
  if !s.pair.owns || ((s.dead.bsState, s.dead.bsFrom, s.dead.bsInSince) == (s.pair.toldDead.bsState, s.pair.toldDead.bsFrom, s.pair.toldDead.bsInSince)) then s
  else ({ s with pair := { s.pair with toldDead := s.dead } }).tell (.blackstart s.dead)

/-- A transfer over the die-to-die link has passed its check: failures before it are not in a row with later ones (R20; DEDUCED, log entry 106). -/
def State.d2dGood (s : State) : State := { s with pair := { s.pair with d2dRun := 0 } }

/-! The supervisory cores. -/

/-- The gap of a hitless activation: from the commit point to the resume (R488). -/
def State.inGap (s : State) : Bool := s.img.hitState == 2 || s.img.hitReverted

/-- The supervisory cores do not run: a hitless gap, or a stall (R357, R488). -/
def State.coresHalted (s : State) : Bool := s.inGap || s.pair.supStalled

/-! Dictionary-wide conditions. -/

/-- The controller may write pair-common objects: it drives `OWN_N`; neither does, as the net shows, and it is side A; or its twin has sent no good
heartbeat for 1 s (R366). -/
def State.mayWriteCommon (s : State) : Bool := s.pair.owns || (!s.supply.sideB && s.pair.netHigh) || s.elapsed s.pair.twinAt 1

/-- A long operation is open (R487 reason 6, Table 17-4). -/
def State.longOpen (s : State) : Bool :=
  s.img.updState == 1 || s.img.updState == 2 || s.log.freeze == .freezing || s.log.freeze == .frozen
    || s.chargers.any (fun c => c.phase == .equalise)
    || s.strs.any (fun v => v.slack == .requested || v.slack == .rampDown || v.slack == .rest)
    || s.railGroups.any (fun g => g.running)
    || s.net.sdo.any (fun x => !x.transfers.isEmpty) || s.net.nireo.any (fun x => !x.transfers.isEmpty)
    || (decide (1 ≤ s.img.pairState) && decide (s.img.pairState ≤ 4))

end Sys2Proof.Machine
end

