-- ==== Sys2Proof/Machine/Raise.lean ====
section
/-! DEFINITION. Fault sources: the catalogue, raising and clearing a source, its reaction, its record, its interrupt and its EMCY (R318 to R337). -/
namespace Sys2Proof.Machine

/-- A row of Tables 11-8 to 11-17: region code, clusters, units, kind, default class, floor and ceiling. -/
structure SrcRow where
  region : Nat
  c0 : Nat
  c1 : Nat
  u0 : Nat
  u1 : Nat
  kind : Nat
  dflt : Nat
  floor : Nat
  ceil : Nat
  deriving DecidableEq, Repr

/-- Tables 11-8 to 11-11: AO, SUP, ENG, PWM. -/
def srcRowsL : List SrcRow := [
  ⟨1, 0, 3, 0, 0x1F, 1, 4, 3, 5⟩, ⟨1, 0, 3, 0, 0x1F, 2, 4, 4, 5⟩, ⟨1, 0, 3, 0, 0x1F, 3, 1, 1, 4⟩,
  ⟨1, 0xFF, 0xFF, 0, 0, 0, 1, 1, 4⟩, ⟨1, 0xFF, 0xFF, 1, 1, 0, 0, 0, 1⟩, ⟨1, 0xFF, 0xFF, 2, 2, 0, 1, 1, 3⟩,
  ⟨1, 0xFF, 0xFF, 6, 6, 0, 0, 0, 0⟩, ⟨1, 0xFF, 0xFF, 7, 7, 0, 4, 3, 5⟩, ⟨1, 0xFF, 0xFF, 8, 0x0B, 0, 0, 0, 1⟩,
  ⟨2, 0, 7, 0, 0, 0, 1, 1, 4⟩, ⟨2, 0, 7, 1, 1, 0, 2, 2, 4⟩, ⟨2, 0, 7, 2, 2, 0, 3, 3, 4⟩, ⟨2, 0, 7, 3, 3, 0, 2, 2, 4⟩,
  ⟨2, 0, 7, 4, 4, 0, 3, 3, 5⟩, ⟨2, 0, 7, 5, 5, 0, 3, 3, 4⟩, ⟨2, 0, 7, 6, 6, 0, 1, 0, 3⟩, ⟨2, 0, 7, 7, 8, 0, 0, 0, 1⟩,
  ⟨2, 0, 7, 9, 9, 0, 1, 0, 2⟩, ⟨2, 0, 7, 0x0A, 0x0A, 0, 1, 0, 2⟩, ⟨2, 0, 7, 0x0B, 0x0B, 0, 0, 0, 1⟩,
  ⟨2, 8, 8, 0, 7, 1, 1, 0, 2⟩, ⟨2, 8, 8, 0, 7, 2, 1, 0, 2⟩, ⟨2, 8, 8, 0, 7, 3, 0, 0, 1⟩,
  ⟨2, 0xFF, 0xFF, 0, 0, 0, 4, 4, 5⟩, ⟨2, 0xFF, 0xFF, 1, 1, 0, 1, 1, 3⟩, ⟨2, 0xFF, 0xFF, 2, 2, 0, 1, 1, 4⟩,
  ⟨2, 0xFF, 0xFF, 3, 3, 0, 4, 3, 5⟩, ⟨2, 0xFF, 0xFF, 4, 4, 1, 1, 1, 3⟩, ⟨2, 0xFF, 0xFF, 4, 4, 2, 4, 3, 4⟩,
  ⟨3, 0, 8, 0, 0x3F, 1, 2, 1, 4⟩, ⟨3, 0, 8, 0, 0x3F, 2, 1, 0, 3⟩, ⟨3, 0, 8, 0, 0x3F, 3, 3, 2, 4⟩, ⟨3, 0, 8, 0, 0x3F, 4, 1, 0, 3⟩,
  ⟨3, 0, 7, 0x40, 0x40, 5, 2, 2, 4⟩, ⟨3, 0, 7, 0x40, 0x40, 6, 2, 2, 4⟩, ⟨3, 0, 7, 0x40, 0x40, 7, 1, 0, 2⟩,
  ⟨3, 0, 7, 0x40, 0x40, 8, 1, 1, 3⟩, ⟨3, 0, 7, 0x40, 0x40, 9, 2, 2, 4⟩, ⟨3, 0, 7, 0x40, 0x40, 0x0A, 1, 0, 2⟩,
  ⟨3, 0x40, 0x47, 0, 0xFF, 0, 4, 3, 5⟩, ⟨3, 0xFF, 0xFF, 8, 8, 0, 4, 4, 5⟩, ⟨3, 0xFF, 0xFF, 0x10, 0x17, 1, 2, 1, 3⟩,
  ⟨3, 0xFF, 0xFF, 0x10, 0x17, 2, 0, 0, 1⟩, ⟨3, 0xFF, 0xFF, 0x10, 0x17, 3, 0, 0, 1⟩,
  ⟨4, 0, 7, 0, 0x17, 1, 3, 2, 4⟩, ⟨4, 0, 7, 0, 0x17, 2, 0, 0, 1⟩, ⟨4, 0, 7, 0, 0x17, 3, 2, 2, 4⟩, ⟨4, 0, 7, 0, 0x17, 4, 4, 3, 5⟩,
  ⟨4, 0, 7, 0, 0x17, 5, 1, 0, 2⟩, ⟨4, 0x10, 0x13, 0, 0, 0, 3, 3, 4⟩, ⟨4, 0x10, 0x13, 1, 1, 0, 0, 0, 1⟩,
  ⟨4, 0x10, 0x13, 2, 2, 0, 0, 0, 2⟩, ⟨4, 0x10, 0x13, 3, 3, 0, 1, 1, 4⟩, ⟨4, 0x10, 0x13, 4, 6, 0, 3, 3, 4⟩,
  ⟨4, 0x10, 0x13, 7, 7, 0, 2, 1, 2⟩, ⟨4, 0xFF, 0xFF, 0, 0, 0, 4, 4, 5⟩, ⟨4, 0xFF, 0xFF, 1, 1, 0, 1, 1, 4⟩,
  ⟨4, 0xFF, 0xFF, 2, 2, 0, 4, 3, 5⟩, ⟨4, 0xFF, 0xFF, 3, 3, 0, 4, 3, 5⟩]

/-- Tables 11-12 to 11-17: SNS, SADC, NET, MEM, NVM, PAIR. -/
def srcRowsM : List SrcRow := [
  ⟨5, 0, 3, 0, 0x2F, 1, 2, 2, 4⟩, ⟨5, 0, 3, 0, 0x2F, 2, 1, 0, 3⟩, ⟨5, 0, 3, 0, 0x2F, 3, 2, 2, 4⟩, ⟨5, 0, 3, 0xFF, 0xFF, 4, 4, 3, 5⟩,
  ⟨6, 0xFF, 0xFF, 0, 0, 1, 2, 1, 3⟩, ⟨6, 0xFF, 0xFF, 0, 0, 2, 1, 1, 4⟩, ⟨6, 0xFF, 0xFF, 1, 1, 1, 1, 1, 3⟩,
  ⟨6, 0xFF, 0xFF, 1, 1, 2, 4, 3, 5⟩, ⟨6, 0xFF, 0xFF, 0x10, 0x1B, 1, 2, 1, 3⟩, ⟨6, 0xFF, 0xFF, 0x10, 0x1B, 2, 5, 5, 5⟩,
  ⟨6, 0xFF, 0xFF, 0x20, 0x37, 1, 1, 0, 3⟩, ⟨6, 0xFF, 0xFF, 0x20, 0x37, 2, 1, 0, 4⟩, ⟨6, 0xFF, 0xFF, 0x20, 0x37, 3, 2, 1, 3⟩,
  ⟨6, 0xFF, 0xFF, 0x40, 0x4F, 0, 0, 0, 1⟩,
  ⟨7, 0, 3, 0, 0x3F, 1, 0, 0, 2⟩, ⟨7, 0, 3, 0, 0x3F, 2, 1, 0, 3⟩, ⟨7, 0, 3, 0, 0x3F, 3, 0, 0, 2⟩, ⟨7, 0, 3, 0x40, 0x40, 1, 1, 1, 4⟩,
  ⟨7, 0, 3, 0x40, 0x40, 2, 0, 0, 2⟩, ⟨7, 0xFF, 0xFF, 0, 4, 1, 1, 0, 3⟩, ⟨7, 0xFF, 0xFF, 5, 5, 0, 1, 1, 4⟩,
  ⟨7, 0, 3, 0, 0x3F, 0, 1, 0, 3⟩,
  ⟨8, 0, 1, 0, 9, 1, 1, 0, 3⟩, ⟨8, 0, 1, 0, 9, 2, 1, 1, 4⟩, ⟨8, 0xFF, 0xFF, 0, 0, 1, 1, 1, 3⟩, ⟨8, 0xFF, 0xFF, 0, 0, 2, 3, 2, 4⟩,
  ⟨8, 0xFF, 0xFF, 2, 2, 0, 0, 0, 1⟩,
  ⟨9, 0xFF, 0xFF, 0, 0, 1, 1, 1, 4⟩, ⟨9, 0xFF, 0xFF, 0, 0, 2, 1, 1, 4⟩, ⟨9, 0xFF, 0xFF, 1, 1, 1, 0, 0, 2⟩,
  ⟨9, 0xFF, 0xFF, 2, 2, 1, 0, 0, 2⟩,
  ⟨10, 0xFF, 0xFF, 0, 1, 1, 1, 1, 3⟩, ⟨10, 0xFF, 0xFF, 2, 2, 0, 1, 1, 3⟩, ⟨10, 0xFF, 0xFF, 3, 3, 1, 0, 0, 2⟩,
  ⟨10, 0xFF, 0xFF, 3, 3, 2, 1, 1, 4⟩]

/-- SRAM instances of each region, AO first (Table 15-5): the first unit number and how many follow it. -/
def sramUnits : List Nat := [2, 4, 27, 1, 1, 0, 6, 1, 2, 1]

/-- Every row of the tables. -/
def srcRows : List SrcRow := srcRowsL ++ srcRowsM

def Key.member (k : Key) : Nat := bits k.id 28 4
def Key.die (k : Key) : Nat := bits k.id 24 4
def Key.region (k : Key) : Nat := bits k.id 16 8
def Key.cluster (k : Key) : Nat := bits k.id 8 8
def Key.unit (k : Key) : Nat := bits k.id 0 8

/-- The key of a partner's source (R33). -/
def State.partnerKey (s : State) (port berth : Nat) : Key := { id := srcId (2 + 4 * s.member + port) 0 7 port berth, kind := 0 }

/-- The row that lists a key, if the tables list it. -/
def Key.row (k : Key) : Option SrcRow :=
  if k.cluster = 0xFE then
    if decide (k.unit < nth sramUnits (k.region - 1) 0) && (k.kind == 1 || k.kind == 2) && decide (1 ≤ k.region) then
      some (if k.kind = 1 then ⟨k.region, 0xFE, 0xFE, 0, 0xFF, 1, 1, 0, 3⟩ else ⟨k.region, 0xFE, 0xFE, 0, 0xFF, 2, 1, 1, 5⟩)
    else none
  else
    srcRows.find? fun r => r.region == k.region && decide (r.c0 ≤ k.cluster) && decide (k.cluster ≤ r.c1) && decide (r.u0 ≤ k.unit)
      && decide (k.unit ≤ r.u1) && r.kind == k.kind && ((k.region == 7 && k.kind == 0 && k.cluster != 0xFF) == (k.die == 0))

/-- The unit of a key is present on the variant (R5, R34, Table 15-5). The SRAM instances of E1 and of the DDR4 controller go with their units
(DESIGN CHOICE, log entry 165). -/
def State.unitPresent (s : State) (k : Key) : Bool :=
  if k.cluster = 0xFE then
    if k.region = 9 ∧ k.unit = 1 then s.part == .fyx9462
    else if k.region = 8 then s.part.has .ddr 0 else !(k.region == 7 && k.unit == 1) || s.part.has .eth 1
  else match k.region with
    | 1 => !(k.cluster == 0xFF && decide (8 ≤ k.unit)) || s.part.has .twoWire (k.unit - 8)
    | 2 => if k.cluster < 8 then s.part.has .string k.cluster else k.cluster != 8 || s.part.has .charger k.unit
    | 3 => !decide (k.cluster < 8) || s.part.has .stage k.cluster
    | 4 => !decide (k.cluster < 8) || (s.part.has .stage k.cluster && s.part.has .phase k.unit)
    | 5 => if k.unit = 0xFF then s.part.has .group k.cluster else s.part.has .modIn k.unit && k.unit / 12 == k.cluster
    | 7 =>
      if k.cluster < 4 then s.part.has .twoWire k.cluster && (k.unit == 0x40 || (s.part.has .berth k.unit && k.unit / 16 == k.cluster))
      else if k.unit < 2 then s.part.has .eth k.unit else !decide (k.unit < 4) || s.part.has .can (k.unit - 2)
    | 8 => s.part.has .ddr 0
    | 9 => k.unit != 2 || s.part.has .ring 0
    | _ => true

/-- The unit of a key lies where the image in force puts it (R5, R35): its rail group, its stage, its rank. An instance that the image assigns to no stage,
or leaves out, lies in cluster 8. -/
def State.unitPlaced (s : State) (k : Key) : Bool :=
  match k.region with
  | 1 => !decide (k.cluster < 4) || s.objN (0x4310 + k.unit) 3 == k.cluster
  | 3 => !(decide (k.cluster < 9) && decide (k.unit < 64)) || (match s.loopRec k.unit with
      | some r => k.cluster == (if r.noStage then 8 else r.stage)
      | none => k.cluster == 8)
  | 4 => !decide (k.cluster < 8) || (s.stagePhases k.cluster).contains k.unit
  | 8 => k.cluster == 0xFF || k.cluster == 0xFE || decide (k.cluster < max 1 (s.objN 0x4600 2))
  | _ => true

/-- The unit of a key is present on the variant and lies in the cluster the key names (R5, R34, R35). -/
def State.unitExists (s : State) (k : Key) : Bool := s.unitPresent k && s.unitPlaced k

/-- A source can be raised: its unit is present (R5) and its region is not powered down (R29). -/
def State.mayRaise (s : State) (k : Key) : Bool := s.unitPresent k && !s.poweredDown k.region

/-- The source exists (R336, R5). -/
def State.sourceExists (s : State) (k : Key) : Bool := k.row.isSome && s.unitExists k

/-- The floor in force, LEGACY included (R328, Table 11-3). -/
def State.floorOf (s : State) (k : Key) : Nat :=
  match k.row with
  | none => 0
  | some r =>
    let legacyUp := (k.region == 3 && decide (k.cluster < 9) && (k.kind == 2 || k.kind == 7)) || (k.region == 5 && k.kind == 2) || (k.region == 2 && decide (k.cluster < 8) && k.unit == 6)
    if s.legacy && legacyUp then max r.floor 1 else r.floor

/-- The class a list of written entries gives a key. -/
def sevFind (k : Key) : List SevEntry → Option Nat
  | [] => none
  | e :: es => if e.key = k then some e.cls else sevFind k es

/-- The written entries with one class set. -/
def sevPut (k : Key) (c : Nat) : List SevEntry → List SevEntry
  | [] => [{ key := k, cls := c }]
  | e :: es => if e.key = k then { key := k, cls := c } :: es else e :: sevPut k c es

/-- The class in force of a source (R320, R325, R337). -/
def State.classOf (s : State) (k : Key) : Nat :=
  match k.row with
  | none => 0
  | some r =>
    if s.faults.sevBroken.contains k then r.ceil
    else match sevFind k s.faults.sev with
      | some c => c
      | none => max r.dflt (s.floorOf k)

/-- The active entry of a key, if the source is active. -/
def State.activeOf (s : State) (k : Key) : Option ActiveSrc := s.faults.active.find? fun a => a.key == k
def State.isActive (s : State) (k : Key) : Bool := (s.activeOf k).isSome

/-- The highest class of a list of active sources, with 1 added; 0 for none. -/
def topClass : List ActiveSrc → Nat
  | [] => 0
  | a :: as => max (a.cls + 1) (topClass as)

/-- Active sources of one unit. -/
def State.activeUnit (s : State) (region cluster unit : Nat) : List ActiveSrc :=
  s.faults.active.filter fun a => a.key.region == region && a.key.cluster == cluster && a.key.unit == unit

/-- The DEGRADE of a source is applied: it was raised at that class, and no higher reaction covered it (R320, R324). -/
def ActiveSrc.degrades (a : ActiveSrc) : Bool := a.cls == 2 && !a.covered

def State.degrades (s : State) (k : Key) : Bool := match s.activeOf k with | some a => a.degrades | none => false

/-- Active sources of one cluster. -/
def State.activeCluster (s : State) (region cluster : Nat) : List ActiveSrc :=
  s.faults.active.filter fun a => a.key.region == region && a.key.cluster == cluster

/-- The cluster, or the region-level unit, has been stopped by a SHED that has no stop of its own elsewhere. -/
def State.isShed (s : State) (region cluster unit : Nat) : Bool :=
  s.faults.sheds.any fun k => k.region == region && k.cluster == cluster && (k.unit == unit || k.kind == 1)

/-! EMCY (R334, R335). -/

/-- 0x1001, the error register (Table 11-7). -/
def State.errorRegister (s : State) : Nat :=
  b2n (s.faults.active.any fun a => decide (1 ≤ a.cls)) + 128 * b2n (s.faults.active.any fun a => decide (3 ≤ a.cls))

/-- The error code of a raise (Table 11-7). -/
def emcyCode (k : Key) (cls : Nat) : Nat := 0xFF00 + 0x10 * k.region + cls

/-- The eight bytes of an EMCY (Table 11-7). -/
def Emcy.bytes (e : Emcy) : List Byte := leBytes 2 e.code ++ leBytes 1 e.reg ++ leBytes 4 e.key.id ++ leBytes 1 e.key.kind

/-- 0x1014 as a port reads it: the value written, else 0x80 plus the port's node-ID (R335). -/
def State.emcyObj (s : State) (p : Nat) : Nat :=
  match storeGet (objKey 0x1014 0) s.cfg with
  | some v => leNat v
  | none => 0x80 + (s.can p).nodeId

/-- COB-ID of a port's EMCY (R335): the identifier in 0x1014. -/
def State.emcyCob (s : State) (p : Nat) : Nat := s.emcyObj p % 2 ^ 29

/-- The port may send an EMCY: present, pre-operational or operational (R335); PRESUMED (CiA 301, log entry 37): not while bit 31 of 0x1014 is set. -/
def State.emcyPort (s : State) (p : Nat) : Bool :=
  s.part.has .can p && ((s.can p).nmt == .preOperational || (s.can p).nmt == .operational) && !bit (s.emcyObj p) 31 && !s.isShed 7 0xFF (2 + p)

/-- A frame sent on a CAN port. -/
def State.sendCan (s : State) (p cob : Nat) (data : List Byte) : State :=
  let v := s.can p
  s.setCan p { v with lastTx := (cob, data), txCount := v.txCount + 1 }

/-- One EMCY put on the wire of a port. -/
def State.sendEmcy (s : State) (p : Nat) (e : Emcy) : State :=
  let s := s.sendCan p (s.emcyCob p) e.bytes
  { s with faults := { s.faults with emcySent := s.faults.emcySent + 1,
                                     inhibitFrom := put s.faults.inhibitFrom p (if s.objN 0x1015 0 = 0 then none else some s.now) } }

/-- The lowest class of a queue. -/
def lowestEmcy : List Emcy → Nat
  | [] => 6
  | e :: es => min e.cls (lowestEmcy es)

/-- A queue without the first clear of a source. -/
def dropClear (k : Key) : List Emcy → List Emcy
  | [] => []
  | e :: es => if e.code = 0 ∧ e.key = k then es else e :: dropClear k es

/-- A queue without its oldest entry of a class; with a raise goes the clear that waits behind it (R335). -/
def dropEmcy (c : Nat) : List Emcy → List Emcy
  | [] => []
  | e :: es => if e.cls = c then (if e.code = 0 then es else dropClear e.key es) else e :: dropEmcy c es

/-- The raise that a full queue drops, where its clear has still to come: the oldest entry of a class, with no clear of it behind. -/
def droppedRaise (c : Nat) : List Emcy → Option Key
  | [] => none
  | e :: es => if e.cls = c then (if e.code = 0 || es.any (fun x => x.code == 0 && x.key == e.key) then none else some e.key) else droppedRaise c es

/-- A port's dropped raise of a source is settled (R335). -/
def State.settleDrop (s : State) (p : Nat) (k : Key) : State :=
  { s with faults := { s.faults with droppedRaises := s.faults.droppedRaises.filter fun x => x != (p, k) } }

/-- An EMCY for a port: sent at once, queued, put in place of a lower one, or dropped. -/
def State.placeEmcy (s : State) (e : Emcy) (p : Nat) : State :=
  let q := nth s.faults.queues p []
  if q.isEmpty && (nth s.faults.inhibitFrom p none).isNone && !s.inGap then s.sendEmcy p e
  else if q.length < 32 then { s with faults := { s.faults with queues := put s.faults.queues p (q ++ [e]) } }
  else
    let c := lowestEmcy q
    let f := { s.faults with emcyDropped := s.faults.emcyDropped + 1 }
    if c < e.cls then { s with faults := { f with queues := put f.queues p (dropEmcy c q ++ [e]), droppedRaises := ((droppedRaise c q).map fun k => (p, k)).toList ++ f.droppedRaises } }
    else { s with faults := { f with droppedRaises := if e.code = 0 then f.droppedRaises else (p, e.key) :: f.droppedRaises } }

/-- An EMCY offered to a port; the clear of a raise that this port dropped is not sent, and a new raise of the source starts afresh (R335). -/
def State.offerEmcy (s : State) (e : Emcy) (p : Nat) : State :=
  if e.code = 0 ∧ s.faults.droppedRaises.contains (p, e.key) = true then s.settleDrop p e.key
  else if (s.settleDrop p e.key).emcyPort p then (s.settleDrop p e.key).placeEmcy e p
  else s.settleDrop p e.key

/-- An EMCY on every port that may send one, and in the error history (0x1003, 16 entries). -/
def State.emcy (s : State) (k : Key) (cls code : Nat) : State :=
  let e : Emcy := { code := code, reg := s.errorRegister, key := k, cls := cls }
  let s := { s with net := { s.net with history := if code = 0 then s.net.history else ((code + 0x10000 * k.kind) :: s.net.history).take 16 } }
  forUnits [0, 1] (fun s p => s.offerEmcy e p) s

/-- An EMCY that a sequence sends beside its record, without a source (Tables 07-3 and 12-7). DESIGN CHOICE (log entry 147): its code is that of the
region and class of the record, its key 0. -/
def State.emcyOf (s : State) (region cls : Nat) : State := s.emcy { id := 0, kind := 0 } cls (emcyCode { id := 2 ^ 16 * region, kind := 0 } cls)

/-! Reactions (Table 11-1). -/

/-- A SHED noted for the units that its chapter stops by the list of sheds: the cluster (kind 1), or the unit alone at region level and for a
slot (kind 0). -/
def State.listShed (s : State) (k : Key) : State :=
  let whole := decide (k.cluster < 0xFE) && k.region != 3
  { s with faults := { s.faults with sheds := ({ id := k.id, kind := b2n whole } : Key) :: s.faults.sheds } }

/-- What a SHED stops (R28, R139, R321): the cluster, or the unit at region level. DESIGN CHOICE (log entry 107): the bollard hold stops with the stages
that it holds. -/
def State.shedReaction (s : State) (k : Key) : State :=
  if k.region == 4 && decide (k.cluster < 8) then s.shedStage k.cluster
  else if k.region == 4 && decide (0x10 ≤ k.cluster) && decide (k.cluster < 0x14) then s.shedFeed (k.cluster - 0x10)
  else if k.region == 3 && decide (k.cluster < 8) then s.shedStage k.cluster
  else if k.region == 3 && k.cluster == 8 then (s.setInst k.unit { s.inst k.unit with shed := true }).stopInst k.unit
  else if k.region == 3 && decide (0x40 ≤ k.cluster) && decide (k.cluster < 0x48) then
    ((s.variant.recs.filter fun r => s.usesSlot r (k.cluster - 0x40) k.unit).foldl (fun t r => t.shedInst r) s).listShed k
  else if k.region == 2 && decide (k.cluster < 8) then s.shedString k.cluster
  else if k.region == 5 && decide (k.cluster < 4) then s.shedGroup k.cluster
  else if k.region == 4 && k.cluster == 0xFF && k.unit == 2 then
    (forUnits ((List.range 8).filter fun n => (s.stage n).hold) (fun t n => t.shedStage n) s).listShed k
  else s.listShed k

/-- The reaction of a class (R321). A TRIP and a LOCKOUT are noted, and TRIP_REACTION and LOCKOUT_ENTRY carry them out;
the source that sets the latch is the one 0x2200:05 names (R332). -/
def State.react (s : State) (k : Key) (cls : Nat) : State :=
  if cls = 3 then s.shedReaction k
  else if cls = 4 then { s with mode := { s.mode with pendingTrip := some k.id } }
  else if s.mode.lockoutLatch || s.mode.pendingLockout.isSome then s
  else if 5 ≤ cls then { s with mode := { s.mode with pendingLockout := some k.id, lockoutCause := k.id + 2 ^ 32 * k.kind + 2 ^ 48 * cls } }
  else s

/-- The unit's cluster, or the unit itself at region level (R28); a stage is one cluster in ENG and in PWM. -/
def Key.sameCluster (a b : Key) : Bool :=
  (a.region == b.region || (decide (a.cluster < 8) && decide (3 ≤ a.region) && decide (a.region ≤ 4) && decide (3 ≤ b.region) && decide (b.region ≤ 4)))
    && a.cluster == b.cluster && (decide (a.cluster < 0xFE) || a.unit == b.unit)

/-- The cluster of a key, or its region-level unit, has been stopped by a SHED. -/
def State.shedOf (s : State) (k : Key) : Bool :=
  if (k.region == 3 || k.region == 4) && decide (k.cluster < 8) then (s.stage k.cluster).state == .shed
  else if k.region == 4 && decide (0x10 ≤ k.cluster) && decide (k.cluster < 0x14) then (s.feed (k.cluster - 0x10)).shed
  else if k.region == 3 && k.cluster == 8 then (s.inst k.unit).shed
  else if k.region == 2 && decide (k.cluster < 8) then (s.str k.cluster).shed
  else if k.region == 5 && decide (k.cluster < 4) then (s.group k.cluster).shed
  else s.isShed k.region k.cluster k.unit

/-- A reaction of higher class already covers the source's unit, cluster or side (R27, R324): a TRIP or LOCKOUT wanted or in force, a SHED of the
cluster, a DEGRADE of the unit. -/
def State.covered (s : State) (k : Key) (cls : Nat) : Bool :=
  (decide (cls < 4) && (s.mode.pendingTrip.isSome || s.mode.tripInForce))
    || (decide (cls < 5) && (s.mode.pendingLockout.isSome || s.inMode .lockout))
    || (decide (cls < 3) && s.shedOf k)
    || (decide (cls < 2) && s.faults.active.any fun a => a.cls == 2 && a.key.id == k.id)

/-- A SHED overtakes a DEGRADE of its cluster that is being applied: its record, while it waits, is marked superseded (R27; DEDUCED, log entry 103). -/
def Log.supersede (l : Log) (k : Key) : Log :=
  { l with waiting := l.waiting.map fun r =>
      if r.recType = 1 ∧ r.cls = 2 ∧ k.sameCluster { id := r.sourceId, kind := r.kind } = true then { r with superseded := true } else r }

/-- The carrier of `ref_stage` runs, by which clear windows are counted; not in BOOT, SERVICE or LOCKOUT, nor before step 6 (R319). -/
def State.refCarrierRuns (s : State) : Bool :=
  s.stageUsed s.variant.refStage && s.tide.pulsed && s.pwmPowered && !(s.inMode .boot || s.inMode .service || s.inMode .lockout)

/-- The tick at which the present carrier period of `ref_stage` began; the present tick while that carrier does not run. -/
def State.periodFrom (s : State) : Nat := if s.refCarrierRuns then (s.stage s.variant.refStage).boundaryTick else s.now

/-- A raise record among those that wait: after those of its carrier period of a higher class, and of its own class with a lower key (R324). -/
def orderRaise (start : Nat) (r : Record) : List Record → List Record
  | [] => [r]
  | x :: l =>
    if x.recType = 1 ∧ start ≤ x.tick ∧ (x.cls < r.cls ∨ (x.cls = r.cls ∧ 256 * r.sourceId + r.kind < 256 * x.sourceId + x.kind)) then r :: x :: l
    else x :: orderRaise start r l

/-- A raise record enters the pending buffer, in the order of R324. -/
def State.arriveRaise (s : State) (r : Record) (l : Log) : Log :=
  if l.waiting.length < 256 ∨ lowestClass l.waiting ≤ r.cls then
    let l := l.arrive r
    { l with waiting := orderRaise s.periodFrom r l.waiting.dropLast }
  else l.arrive r

/-- 0x22rr:04 and the raise counters of a region (R331, Table 11-6). -/
def State.countRaise (s : State) (k : Key) (cls : Nat) : State :=
  let i := k.region - 1
  let r := nth s.faults.regions i {}
  let r := { r with raises := r.raises + 1, lastSource := k.id + 2 ^ 32 * k.kind + 2 ^ 48 * cls
                    irqPending := if bit r.irqEnable cls && !bit r.irqPending cls then r.irqPending + 2 ^ cls else r.irqPending }
  { s with faults := { s.faults with regions := put s.faults.regions i r } }

/-! Triggers of the capture (R467). -/

/-- The trigger is enabled (R467). -/
def State.trigEnabled (s : State) (b cls md : Nat) : Bool :=
  decide (b < 5) && bit (s.objN 0x4703 1) b
    && (b != 0 || decide (s.objN 0x4703 2 ≤ cls)) && (b != 1 || bit (s.objN 0x4703 3) md)

/-- An event that raises an enabled trigger: CAPTURE_TRIGGER carries it out (R467). -/
def State.trigEvent (s : State) (e : TrigEvent) : State :=
  let on := s.part.has .ring 0 && s.regionOn .nvm && s.trigEnabled e.bit e.cls e.md
  { s with log := { s.log with events := if on then s.log.events ++ [e] else s.log.events } }

/-- The records of one type of the event that is now. -/
def State.refNow (s : State) (recType : Nat) (k : Key) : RecRef := { recType, sourceId := k.id, kind := k.kind, tick := s.now }

/-- A source that is inactive is raised at its class in force, with record, interrupt, EMCY and reaction, and as a trigger of the capture. `always` sends the EMCY at
NOTE as well (R322). -/
def State.raiseNew (s : State) (k : Key) (detail : Nat) (data : List Byte) (always : Bool) : State :=
  let c := s.classOf k
  let sup := s.covered k c
  let rec_ := { s.mkRecord 0x0001 c k.kind k.id (leBytes 1 detail ++ data) with superseded := sup }
  let l := if c = 3 ∧ sup = false then s.log.supersede k else s.log
  let s := { s with faults := { s.faults with active := s.faults.active ++ [({ key := k, cls := c, detail := detail, data := data, covered := sup } : ActiveSrc)] },
                    log := s.arriveRaise rec_ l }
  let s := (s.trigEvent { bit := 0, key := k, cls := c, at_ := s.now, ref := some (s.refNow 1 k) }).countRaise k c
  let s := if 1 ≤ c ∨ always = true then s.emcy k c (emcyCode k c) else s
  if sup then s else s.react k c

/-- A source that is active is detected again: it does not clear (R319). -/
def State.redetect (s : State) (k : Key) : State :=
  { s with faults := { s.faults with active := s.faults.active.map fun a => if a.key = k then { a with clearing := none } else a } }

/-- A source is detected (R319): one that is inactive is raised; one that is active stays active. A source of an absent unit does not exist
(R5), and one of a region that is powered down is inactive (R29). -/
def State.raiseWith (s : State) (k : Key) (detail : Nat) (data : List Byte) (always : Bool) : State :=
  match s.activeOf k with
  | some _ => s.redetect k
  | none => if s.mayRaise k then s.raiseNew k detail data always else s

/-- A source is detected, with a detail code. -/
def State.raise (s : State) (k : Key) (detail : Nat) : State := s.raiseWith k detail [] false

/-- A stop by SHED of a unit with no stop of its own ends with its last SHED source (DESIGN CHOICE, log entry 12). -/
def State.dropSheds (s : State) (k : Key) : State :=
  if s.faults.active.any (fun a => a.key.sameCluster k && decide (3 ≤ a.cls)) then s
  else { s with faults := { s.faults with sheds := s.faults.sheds.filter fun x => !x.sameCluster k } }

/-- A source clears (R319): the clear record is written and, where a raise EMCY was sent, the clear EMCY. -/
def State.clear (s : State) (k : Key) : State :=
  match s.activeOf k with
  | none => s.unlatch k
  | some a =>
    let s := { s with faults := { s.faults with active := s.faults.active.filter fun x => x.key != k } }
    let s := s.record 0x0002 a.cls k.kind k.id (leBytes 1 a.detail ++ a.data)
    let s := if 1 ≤ a.cls ∨ (k.region = 3 ∧ k.kind = 9) then s.emcy k a.cls 0 else s
    if 3 ≤ a.cls then s.dropSheds k else s

/-- A source that a start does not clear (Table 10-10): die-temp, which a power cycle clears, and margin-low and margin-crit, which `AgeReset` clears. -/
def Key.outlives (k : Key) : Bool :=
  k.region == 6 && k.cluster == 0xFF && ((decide (0x10 ≤ k.unit) && decide (k.unit < 0x1C) && k.kind == 2) || (k.unit == 1 && (k.kind == 1 || k.kind == 2)))

/-- A fault that only an act after the region's next start clears: a feed's gate, short, fuse and inrush sources, the drive source of a phase,
the estop source, a string's est, volt, ctr, pre and slack sources, a charger's sources, and the sources that outlive a start (Tables 05-7, 07-8, 08-3,
09-3 and 10-10; DEDUCED, log entry 104). -/
def Key.latches (k : Key) : Bool :=
  k.outlives || (k.region == 2 && ((decide (k.cluster < 8) && [0, 2, 4, 5, 0x0B].contains k.unit) || k.cluster == 8)) || (k.region == 4 && ((decide (0x10 ≤ k.cluster) && decide (k.cluster < 0x14) && [0, 4, 5, 6].contains k.unit)
    || (decide (k.cluster < 8) && k.kind == 4) || (k.cluster == 0xFF && k.unit == 0)))

/-- `OWN_N` released by this side, with a reason of Table 12-6 (R356, R357). -/
def State.releaseOwn (s : State) (reason : Nat) : State :=
  if s.pair.owns then
    let s := (s.tellReason reason).leavePorts
    let s := { s with pair := { s.pair with owns := false, netHighAt := s.now } }
    (s.record 0x0030 1 0 0 (leBytes 1 reason ++ realBytes 0)).trigEvent { bit := 2, at_ := s.now, ref := some (s.refNow 0x0030 { id := 0, kind := 0 }) }
  else s

/-- The source of a record dropped (R459). -/
def State.dropKey (s : State) : Key := s.key 9 0xFF 1 1

/-- Records that have been dropped raise the record dropped source (R459, R460): the recorder's next command does so, or the update of the supervisory cores before it
(R323; DESIGN CHOICE, log entry 178). What the raise's own record displaces is counted, and the source is active. -/
def State.settleDrops (s : State) : State :=
  if s.log.dropSeen then
    let s := s.raise s.dropKey 0
    { s with log := { s.log with dropSeen := false } }
  else s

/-- The source follows a condition: detected while it holds, clearing while it does not. -/
def State.follow (s : State) (k : Key) (c : Bool) (detail : Nat) : State := if c then s.raise k detail else s.clearing k

/-! Buckets (R445, R447). -/

/-- One correction added; true where the bucket overflows. -/
def Bucket.add (b : Bucket) (threshold : Nat) : Bucket × Bool :=
  let n := min threshold (b.level + 1)
  ({ b with level := n, corrected := b.corrected + 1, full := b.full || decide (threshold ≤ n) }, decide (threshold ≤ n) && !b.full)

/-- A correction in an SRAM instance, region code less 1. -/
def State.countSram (s : State) (region unit : Nat) : State :=
  let i := 27 * region + unit
  let r := (nth s.mem.sram i {}).add s.mem.sramThreshold
  let s := { s with mem := { s.mem with sram := put s.mem.sram i r.1 } }
  if r.2 then s.raise (s.key (region + 1) 0xFE unit 1) 0 else s

end Sys2Proof.Machine
end

