-- ==== Sys2Proof/Machine/Access.lean ====
section
/-! DEFINITION. Access to the dictionary's objects: sessions, levels, existence, type and range, before any condition of a chapter (R371 to R382). -/
namespace Sys2Proof.Machine

/-- The session of a channel: an SDO server channel always has one, a Nireo session while it is open (R374). -/
def State.session (s : State) (ch : Chan) : Option Session :=
  match ch with
  | .sdo p v => s.net.sdo[4 * p + (v - 1)]?
  | .nireo n => s.net.nireo.find? fun x => x.num == n
  | .own => some { level := 2 }

/-- A channel's session replaced. -/
def State.setSession (s : State) (ch : Chan) (x : Session) : State :=
  match ch with
  | .sdo p v => { s with net := { s.net with sdo := put s.net.sdo (4 * p + (v - 1)) x } }
  | .nireo n => { s with net := { s.net with nireo := s.net.nireo.map fun y => if y.num = n then x else y } }
  | .own => s

/-- The access level of a channel (R374); a channel with no session has none. -/
def State.level (s : State) (ch : Chan) : Nat :=
  match s.session ch with
  | some x => x.level
  | none => 0

/-- FYX7300 alias indices (Table 18-5). -/
def aliasOf (idx : Nat) : Option Nat :=
  if idx = 0x2A00 then some 0x2100 else if idx = 0x2A01 then some 0x2101 else if idx = 0x2A10 then some 0x2300
  else if idx = 0x2A11 then some 0x2310 else if idx = 0x2A20 then some 0x2200
  else if 0x2A21 ≤ idx ∧ idx ≤ 0x2A2A then some (idx - 0x2A20 + 0x2200)
  else if idx = 0x2A30 then some 0x2400 else if idx = 0x2A31 then some 0x2401 else if idx = 0x2A40 then some 0x2500
  else if idx = 0x2A50 then some 0x2600 else none

/-- The index a request reaches: an alias answers as its target while LEGACY is in force (R380). -/
def State.target (s : State) (idx : Nat) : Nat :=
  match aliasOf idx with
  | some t => if s.legacy then t else idx
  | none => idx

/-- The dictionary answers: from step 4 of a start on, in every mode but MOORED and LAYUP; in PILOT through the ROM;
in MOORED while a CAN wake keeps the CAN ports awake (R51, R388, R493). A SHED of the dictionary server stops it (R28). -/
def State.dictUp (s : State) : Bool :=
  (s.mode.online || s.inMode .pilot || (s.inMode .moored && s.mode.canAwakeSince.isSome)) && s.supply.phase == .running && !s.coresHalted && !s.isShed 2 0xFF 1

/-- The node-ID of a CAN port: in PILOT, where no CANopen node runs, that of R493. -/
def State.nodeOf (s : State) (p : Nat) : Nat := if s.inMode .pilot then 125 + s.member else (s.can p).nodeId

/-- A CAN port answers SDO requests: present, pre-operational or operational, not bus-off, not shed. -/
def State.sdoReady (s : State) (p : Nat) : Bool :=
  s.part.has .can p && ((s.can p).nmt == .preOperational || (s.can p).nmt == .operational) && !(s.can p).busOff && !s.isShed 7 0xFF (2 + p)

/-- A Nireo transport is open: 0 E0, 1 E1, 2 HS, 3 C0, 4 C1 (Table 13-7, R388); in MOORED, where a CAN wake is served, over CAN FD alone. A SHED of its
port or of HS closes it (R28). -/
def State.transportUp (s : State) (port : Nat) : Bool :=
  let net := !s.inMode .moored
  match port with
  | 0 => (s.eth 0).enabled && (s.eth 0).linkUp && !s.isShed 7 0xFF 0 && net
  | 1 => (s.eth 1).enabled && (s.eth 1).linkUp && !s.isShed 7 0xFF 1 && net
  | 2 => s.objN 0x4A20 2 == 1 && !s.isShed 7 0xFF 4 && net
  | 3 => s.part.has .can 0 && !(s.can 0).busOff && (s.objN 0x4A10 4 != 0 || s.inMode .pilot) && !s.isShed 7 0xFF 2
  | 4 => s.part.has .can 1 && !(s.can 1).busOff && (s.objN 0x4A11 4 != 0 || s.inMode .pilot) && !s.isShed 7 0xFF 3
  | _ => false

/-- A channel is served: an SDO server on a port that answers SDO requests, never in PILOT; a Nireo session on a transport that is open (R388). -/
def State.served (s : State) (ch : Chan) : Bool :=
  match ch with
  | .own => true
  | .sdo p _ => s.dictUp && !s.inMode .pilot && s.sdoReady p
  | .nireo _ => s.dictUp && (match s.session ch with | some x => s.transportUp x.port | none => false)

/-! The stored set's two copies (R376, R65). -/

/-- The bytes of a copy that its CRC-32 covers (DESIGN CHOICE, log entry 77: their order and widths). -/
def StoreCopy.bytes (c : StoreCopy) : List Byte :=
  leBytes 8 c.seq ++ leBytes 8 (c.tag.getD 0) ++ (c.values.map fun p => leBytes 4 p.1 ++ leBytes 4 p.2.length ++ p.2).flatten
    ++ (c.sev.map fun e => leBytes 4 e.key.id ++ leBytes 1 e.key.kind ++ leBytes 1 e.cls).flatten

/-- A copy with its CRC-32 computed. -/
def StoreCopy.closed (c : StoreCopy) : StoreCopy := { c with crc := crc32 c.bytes }

/-- A copy that has been committed and whose CRC-32 is good. -/
def StoreCopy.valid (c : StoreCopy) : Bool := c.seq != 0 && crc32 c.bytes == c.crc

/-- The stored set: the newer valid copy, an empty one where none is valid. -/
def Net.stored (n : Net) : StoreCopy :=
  if n.storedA.valid && n.storedB.valid then (if n.storedA.seq < n.storedB.seq then n.storedB else n.storedA)
  else if n.storedA.valid then n.storedA else if n.storedB.valid then n.storedB else {}

/-- A set committed in the older copy's place. -/
def Net.commitStore (n : Net) (c : StoreCopy) : Net :=
  let c := ({ c with seq := n.stored.seq + 1 } : StoreCopy).closed
  let n := { n with storedDrop := false }
  if n.stored.seq ≠ 0 ∧ n.stored.seq = n.storedA.seq then { n with storedB := c } else { n with storedA := c }

/-- Objects that the ROM answers in PILOT (R493). -/
def pilotServes (idx : Nat) : Bool :=
  (decide (0x2000 ≤ idx) && decide (idx ≤ 0x20FF)) || idx == 0x2100 || (decide (0x2400 ≤ idx) && decide (idx ≤ 0x2404))
    || (decide (0x4700 ≤ idx) && decide (idx ≤ 0x4720)) || (decide (0x4A00 ≤ idx) && decide (idx ≤ 0x4A30))

/-- Sub-indices of a feed that only some feeds have (Table 07-9): :0D and :0E are of FA and FB, :11 to :18 of FO0 and FO1. -/
def feedSub (f sub : Nat) : Bool :=
  if sub = 0x0D ∨ sub = 0x0E then decide (f < 2) else if 0x11 ≤ sub ∧ sub ≤ 0x18 then decide (2 ≤ f) else true

/-- The index belongs to a row of a unit that is present. -/
def State.hasIndex (s : State) (idx : Nat) : Bool := objRows.any fun r => r.hasIndex idx && s.part.has r.pres (r.unit idx r.s0)

/-- The highest sub-index of an index, 0 for an index with sub-index 0x00 alone (R371). -/
def subCount (idx : Nat) : Nat := (objRows.filter fun r => r.hasIndex idx).foldl (fun m r => max m r.s1) 0

/-- Sub-index 0x00 that no table lists: the highest sub-index of an index with more than one (R371). -/
def State.countSub (s : State) (idx sub : Nat) : Bool := sub == 0 && (objRow idx 0).isNone && s.hasIndex idx && decide (1 < subCount idx)

/-- Why an object does not answer, 0 when it exists on this variant (R5, R379). -/
def State.objectStatus (s : State) (idx sub : Nat) : Nat :=
  match objRow idx sub with
  | none => if s.countSub idx sub then 0 else if s.hasIndex idx then stNoSub else stNoObject
  | some r =>
    if !s.part.has r.pres (r.unit idx sub) then stNoObject
    else if decide (0x4400 ≤ idx) && decide (idx < 0x4440) && !feedSub ((idx - 0x4400) / 16) sub then stNoSub
    else if decide (0x4641 ≤ idx) && decide (idx ≤ 0x464A) && !decide (sub ≤ nth sramUnits (idx - 0x4641) 0) then stNoSub
    else if decide (0x4651 ≤ idx) && decide (idx ≤ 0x465A) && !decide (sub ≤ nth sramUnits (idx - 0x4651) 0) then stNoSub
    else if (idx == 0x4649 || idx == 0x4659) && sub == 2 && s.part != .fyx9462 then stNoSub
    else 0

/-- As above; of the objects that exist, only the ROM's answer in PILOT (R493). DESIGN CHOICE (log entry 139): what does not exist answers there as R5
and R379 say. -/
def State.existsStatus (s : State) (idx sub : Nat) : Nat :=
  let e := s.objectStatus idx sub
  if e ≠ 0 then e else if s.inMode .pilot && !pilotServes idx then stState else 0

/-- What refuses a write before any condition of the object's chapter: existence, access, level, length, range (R372, R373, R375). A "save" in PILOT
answers the code that R376 gives it (log entry 139). -/
def State.basicCheck (s : State) (ch : Chan) (idx sub : Nat) (data : List Byte) : Nat :=
  let e := s.existsStatus idx sub
  if s.inMode .pilot && idx == 0x1010 && sub == 1 && leNat data == 0x65766173 then stAccess
  else if e ≠ 0 then e
  else match objRow idx sub with
  | none => stReadOnly
  | some r =>
    if r.acc == .ro || r.acc == .const || (idx == 0x4700 && sub == 3 && s.part == .fyx9480) then stReadOnly
    else if s.level ch < r.level then stAccess
    else if r.typ.size ≠ 0 ∧ data.length ≠ r.typ.size then stRange
    else if !r.rng.ok r.typ data then stRange
    else 0

/-- The pair-common objects (R368). -/
def isCommon (idx sub : Nat) : Bool :=
  let rw := match objRow idx sub with | some r => r.acc == .rw | none => false
  (decide (0x3B00 ≤ idx) && decide (idx < 0x3B10) && (sub == 2 || (decide (6 ≤ sub) && decide (sub ≤ 10))))
    || (idx == 0x4500 && (sub == 2 || (decide (4 ≤ sub) && decide (sub ≤ 6)))) || (idx == 0x4501 && (sub == 2 || sub == 3))
    || (rw && decide (0x5000 ≤ idx) && decide (idx < 0x5800) && (idx % 256 == 0 || idx % 256 == 1 || idx % 256 == 5 || idx % 256 == 6))
    || (rw && (idx == 0x5800 || (decide (0x5810 ≤ idx) && decide (idx < 0x5818)) || idx == 0x5900))
    || (idx == 0x4504 && decide (1 ≤ sub) && decide (sub ≤ 0x18)) || (decide (0x3800 ≤ idx) && decide (idx < 0x3818) && sub == 10)
    || (idx == 0x2310 && decide (1 ≤ sub) && decide (sub ≤ 3))

/-- A frame addressed to the node keeps the ports awake in MOORED (R388). -/
def State.canHeard (s : State) : State :=
  if s.mode.canAwakeSince.isSome then { s with mode := { s.mode with canAwakeSince := some s.now } } else s

/-- A request of a session: its idle time starts again, and on CAN the port stays awake in MOORED (R374, R388, R394). -/
def State.touch (s : State) (ch : Chan) : State :=
  let s := match s.session ch with | some x => s.setSession ch { x with lastReq := s.now } | none => s
  let can := match ch with
    | .sdo _ _ => true
    | .nireo _ => (match s.session ch with | some x => decide (3 ≤ x.port) | none => false)
    | .own => false
  if can then s.canHeard else s

/-- A write of an object over a channel: nothing where the dictionary is not served; the first refusal that applies; or `t`, with the
answer 0, mirrored to the twin when pair-common (R366, R382, R384). `status` is what the object's chapter refuses, 0 for nothing. -/
def State.guardedWrite (s : State) (ch : Chan) (idx sub : Nat) (data : List Byte) (status : Nat) (t : State) : State :=
  if !s.served ch then s
  else
    let c := s.basicCheck ch (s.target idx) sub data
    if c ≠ 0 then (s.touch ch).answerWrite ch c
    else if isCommon (s.target idx) sub && !s.mayWriteCommon then (s.touch ch).answerWrite ch stState
    else if status ≠ 0 then (s.touch ch).answerWrite ch status
    else ((if isCommon (s.target idx) sub then t.mirrored (s.target idx) sub data else t).touch ch).answerWrite ch stOk

end Sys2Proof.Machine
end

