-- ==== Sys2Proof/Machine/Stages.lean ====
section
/-! DEFINITION. Stages, phases, PWM and fast protection (chapter 05). -/
namespace Sys2Proof.Machine

/-! Samples as the stages read them. -/

/-- The latest fast value of an input in its unit (R90, R91). -/
def State.fastY (s : State) (md : Nat) : Rat :=
  let m := s.modIn md
  F32.toRat m.fs * F32.toRat m.gain * (m.fast - F32.toRat m.offset)

/-- The input's latest loop value in its unit. -/
def State.loopY (s : State) (md : Nat) : Rat := F32.toRat (s.modIn md).y

/-- The input reports stuck or decode (R79, R166). -/
def State.inputBad (s : State) (md : Nat) : Bool := (s.modIn md).stuck || (s.modIn md).decode

/-- The mean of the last 16 loop-path samples of an input (R158 step 2). -/
def State.mean16 (s : State) (md : Nat) : Rat :=
  let l := (s.modIn md).last16
  divR (sumR (l.map F32.toRat)) l.length

/-! Starting a stage (R143, R158 to R160). -/

/-- 0x38nn:04 `PhaseEnable`. -/
def State.phaseEnabled (s : State) (p : Nat) : Bool := (s.phase p).enable

/-- The string that a BIDIR stage serves, if any (Table 05-1). -/
def State.stageString (s : State) (n : Nat) : Option Nat :=
  (List.range 8).find? fun k => s.part.has .string k && s.objN (0x5001 + 256 * k) 1 == 1 && s.objN (0x5001 + 256 * k) 6 == n

/-- The instance that commits a stage's duty (R159): `out_kind` 2 of the stage, or the lowest `out_kind` 1 of one of its phases. -/
def State.dutyInst (s : State) (n : Nat) : Option Nat :=
  (s.variant.recs.find? fun r => (r.outKind == 2 && r.stage == n && !r.noStage) || (r.outKind == 1 && (s.stagePhases n).contains r.outDst)).map (·.lp)

/-- SHED sources that stop a stage: its own, and those of the slots that its instances use (R139, R161). -/
def State.stageSheds (s : State) (n : Nat) : Bool :=
  s.faults.active.any fun a => decide (3 ≤ a.cls) &&
    (((a.key.region == 3 || a.key.region == 4) && a.key.cluster == n)
      || (a.key.region == 3 && decide (0x40 ≤ a.key.cluster) && decide (a.key.cluster < 0x48)
        && s.variant.recs.any fun r => !r.noStage && r.stage == n && s.usesSlot r (a.key.cluster - 0x40) a.key.unit))

/-- What refuses a start request of a stage (R143, R161), 0 when none. -/
def State.stageStartStatus (s : State) (n : Nat) : Nat :=
  if !s.stageUsed n then stState
  else if !s.pair.owns || s.inMode .track then stState
  else if !s.inModes [.rise, .active, .holdup, .blackstart] then stState
  else if s.stageType n = 0 ∧ (match s.stageString n with | some k => !(s.str k).connected | none => true) = true then stState
  else if s.mode.estopLow then stState
  else if !(s.stagePhases n).any s.phaseEnabled then stState
  else if (s.stage n).state == .shed && s.stageSheds n then stState
  else 0

/-- The band the stage takes now (R133, R150, R351): the active's in TRACK while heartbeats arrive, else the stage's own. -/
def State.stageBandNow (s : State) (n : Nat) : Nat :=
  if s.tracks then nth s.pair.twin.bands n 0 else nth s.thermal.stageBand n 0

/-- The angle set of Table 05-3 for the positions left out of m. -/
def angleSetOf (missing : List Nat) : Nat :=
  match missing with
  | [] => 0xFF
  | [i] => i
  | _ => 0xFE

/-- Positions of a stage whose phase is not in the set `inSet`. -/
def State.missing (s : State) (n : Nat) (inSet : Nat → Bool) : List Nat :=
  (List.range (s.stageCount n)).filter fun j => !inSet (s.stageFirst n + j)

/-- The angle of entry j of the set in force with k phases (Table 05-3, R152). -/
def State.angleOf (s : State) (n set k j : Nat) : Nat :=
  if set = 0xFF then s.objN (0x3002 + 256 * n) (1 + j)
  else if set = 0xFE then 65536 * j / k
  else s.objN (0x3003 + 256 * n) (1 + 11 * set + j)

/-- The offset in ticks of an angle (R152). -/
def angleTicks (a p : Nat) : Nat := if p = 0 then 0 else ((2 * a * p + 65536) / 131072) % p

/-- The offsets of the phases in a set, in ascending phase order: (phase, offset). -/
def State.setOffsets (s : State) (n : Nat) (inSet : Nat → Bool) : List (Nat × Nat) :=
  let ps := (s.stagePhases n).filter inSet
  let a := angleSetOf (s.missing n inSet)
  (List.range ps.length).map fun j => (nth ps j 0, angleTicks (s.angleOf n a ps.length j) (s.carrierPeriod n))

/-- A start is accepted (R158 step 1): STARTING, instances at their initial values, and the set of phases taken. -/
def State.startStage (s : State) (n : Nat) : State :=
  let on := fun p => s.phaseEnabled p
  let offs := s.setOffsets n on
  let s1 := forUnits (s.stageInsts n) (fun t l =>
    (t.stopInst l).setInst l { (t.stopInst l).inst l with states := (s.loopParam l).init, released := true, miss := false, nan := false, missRun := 0,
                                                           gapWrites := [], gapDeltas := [], pendingWrites := [], pendingDeltas := [] }) s
  let s2 := offs.foldl (fun t (po : Nat × Nat) =>
    t.setPhase po.1 { (t.phase po.1) with inSet := true, outOn := false, returning := false, dropped := false, dropCause := 0, offset := po.2, offsetNext := po.2
                                          moving := false, cuts := [], missedCommits := 0, bwRun := 0 }) s1
  let s3 := forUnits (s.stagePhases n) (fun t p => t.clearing (t.key 4 n p 4)) s2
  let s4 := if s3.pair.owns then { s3 with mode := { s3.mode with regions := put s3.mode.regions Region.pwm.idx .on } } else s3
  s4.setStage n { s4.stage n with state := .starting, startStep := 1, startBounds := 0, startHeld := false, startWanted := false, estop := false
                                  stopPending := false, angleSet := angleSetOf (s.missing n on), command := 1, hold := false
                                  band := s.stageBandNow n }

/-- A stage consumes an input (R92): its phases' current inputs, its fender and pre-bias inputs, its observer's `TotalInput`, its breakwater bindings,
and the sources of its instances. -/
def State.stageConsumes (s : State) (n md : Nat) : Bool :=
  s.stageUsed n && (
    (s.stagePhases n).any (fun p => s.objN (0x3800 + p) 14 == md)
    || s.objN (0x3000 + 256 * n) 0x12 == md || s.objN (0x3000 + 256 * n) 0x13 == md || s.objN (0x3000 + 256 * n) 0x14 == md
    || s.objN (0x3D00 + n) 4 == md
    || (List.range 4).any (fun b => let w := s.objN (0x3004 + 256 * n) (1 + b); bits w 13 2 != 0 && bits w 16 8 == md)
    || s.variant.recs.any (fun r => !r.noStage && r.stage == n && (r.refSrc == md || r.fbSrc == md)))

/-- An offset measurement of an input that the stage consumes holds the start (R92). -/
def State.calHolds (s : State) (n : Nat) : Bool := (List.range 48).any fun md => (s.modIn md).cal == 1 && s.stageConsumes n md

/-- A start request that passes its checks: it begins, or waits for an offset measurement (R92). -/
def State.applyStageStart (s : State) (n : Nat) : State :=
  if s.stageOn n then s
  else if s.calHolds n then s.setStage n { s.stage n with startHeld := true, command := 1 }
  else s.startStage n

/-- A start that the package makes itself: a rail, a string's join, a black start, the power manager. A stage in SHED restarts on a host's start alone
(R161). -/
def State.autoStart (s : State) (n : Nat) : State :=
  if (s.stage n).state == .shed then s
  else if s.stageStartStatus n = 0 then s.applyStageStart n else { s with stages := put s.stages n { s.stage n with startWanted := true } }

/-- A stop request: outputs low at the next carrier boundary (R161). -/
def State.applyStageStop (s : State) (n : Nat) : State :=
  let v := s.stage n
  if s.stageOn n then s.setStage n { v with stopPending := true, command := 0, startWanted := false }
  else s.setStage n { v with command := 0, startWanted := false, startHeld := false, state := if v.state == .shed then .shed else v.state }

/-- R159: V_low, V_high and d0 of a start, taken at step 2. DESIGN CHOICE (log entry 124): the stage's `prebias` bit is set here with `PrebiasMode` 1, and
falls with the end of the soft start or with the stage. -/
def State.prebias (s : State) (n : Nat) : State :=
  let b := 0x3000 + 256 * n
  let lo := s.mean16 (s.objN b 0x13)
  let hiMd := s.objN b 0x14
  let hi := s.mean16 hiMd
  let l := match s.dutyInst n with | some l => l | none => 64
  let p := s.inst l
  let d0 := if s.objN b 0x0C = 0 ∨ hi < 5 / 100 * F32.toRat (s.modIn hiMd).fs then F32.toRat p.lo
    else clampR (divR lo hi) (F32.toRat p.lo) (F32.toRat p.hi)
  s.setStage n { s.stage n with vLow := F32.ofRat lo, vHigh := F32.ofRat hi, d0 := F32.ofRat d0, prebias := s.objN b 0x0C == 1 }

/-- R158 step 3: the pre-bias state writes, and every shadow register of the stage at d0. -/
def State.prebiasLoad (s : State) (n : Nat) : State :=
  let d := (s.stage n).d0
  let map := match s.image with | some sl => sl.content.prebias | none => []
  let s := if s.objN (0x3000 + 256 * n) 0x0C = 1 then
      (map.filter fun e => e.stage == n).foldl (fun t e =>
        let i := t.inst e.lp
        let x := F32.ofRat (e.a * F32.toRat d + e.b)
        t.setInst e.lp { i with states := put i.states e.idx x, gapWrites := i.gapWrites ++ [(e.idx, x)] }) s
    else s
  forUnits (s.stagePhases n) (fun t p => t.setPhase p { t.phase p with shadow := d, shadowOld := d, shadowAt := t.now, holdDuty := d }) s

/-- The stage setpoint that source code 0x90 reads: the ramp during a soft start, else the setpoint in force (R160). -/
def State.stageSetpoint (s : State) (n : Nat) : Rat :=
  let v := s.stage n
  if v.rampOn then
    let sp := F32.toRat v.setpoint
    let d := v.rampRate * secOf (s.since v.rampAt)
    if v.ramp ≤ sp then minR sp (v.ramp + d) else maxR sp (v.ramp - d)
  else F32.toRat v.setpoint

/-- The state of a stage whose soft start has ended: RUNNING, or DEGRADED with a phase dropped meanwhile (R154, R158). -/
def State.ranUp (s : State) (n : Nat) : UState := if (s.stagePhases n).any (fun p => (s.phase p).dropped) then .degraded else .running

/-- R158 step 4, R131 and R160: the instances run from their first release from here on, and the ramp begins; a rate of 0 or a time of 0 ends it
at once. -/
def State.beginRamp (s : State) (n : Nat) : State :=
  let s := forUnits (s.stageInsts n) (fun t l => t.setInst l { t.inst l with active := true }) s
  let v := s.stage n
  let t := s.objR (0x3000 + 256 * n) 0x0B
  let start := if s.objN (0x3000 + 256 * n) 0x0C = 1 then F32.toRat v.vLow else 0
  let rate := divR (absR (F32.toRat v.setpoint - start)) t
  if t = 0 ∨ rate = 0 then s.setStage n { v with startStep := 5, rampOn := false, state := s.ranUp n, prebias := false }
  else s.setStage n { v with startStep := 4, rampOn := true, ramp := start, rampRate := rate, rampAt := s.now }

/-! Load points (R144 to R151, R155). -/

/-- The effective dead times of a phase: (t_dlh, t_dhl) in fine steps (R150). -/
def State.deadTimes (s : State) (n p : Nat) : Nat × Nat :=
  let w := nth (s.stage n).deadTimes (s.stage n).band 0
  let tr := s.objI (0x3800 + p) 9
  let c := fun (x : Nat) => (max 0 (min 32000 ((x : Int) + tr))).toNat
  (c (bits w 0 16), c (bits w 16 16))

/-- The duty a load point takes: the last write at least 2 ticks before it (R146). -/
def State.dutyTaken (s : State) (p : Nat) : F32 :=
  let v := s.phase p
  if s.inMode .track then v.holdDuty else if v.shadowAt + 2 ≤ s.now then v.shadow else v.shadowOld

/-- T_on of a duty for a carrier period (R144). -/
def tOnOf (d : F32) (p : Nat) : Nat := min (32 * p) (rne (maxR 0 (F32.toRat d * (32 * p : Nat))))

/-- H_cmd on and off in a period of `len` ticks (R145). -/
def hEdges (shape tOn len : Nat) : Nat × Nat :=
  if shape = 0 then (0, tOn) else let r := (32 * len - tOn) / 2; (r, r + tOn)

/-- A fine-step position rounded to the nearest tick where the delay line is degraded (R147). DESIGN CHOICE (log entry 170): half-way up. -/
def tickRound (only : Bool) (x : Nat) : Nat := if only then (x + 16) / 32 * 32 else x

/-- The pulse of `PHn_H`, then that of `PHn_L`, is shorter than `MinPulse` after its dead time and is not produced (R151). `full` is the length of the
period, `kept` a high side that goes on from the period before with no dead time. DESIGN CHOICE (log entry 125): the low pulse is judged by the
off-time of its period, for a triangle carrier too, whose low pulse spans two periods. -/
def shortPulses (mode minPulse tOn full tLH tHL : Nat) (kept : Bool) : Bool × Bool :=
  let within := minPulse != 0 && decide (0 < tOn) && decide (tOn < full)
  (within && mode != 2 && !kept && decide (tOn < minPulse + tLH), within && mode != 1 && decide (full - tOn < minPulse + tHL))

/-! What a phase commands (R145, R149, R163). Fine steps are counted from tick 0, 32 to a tick. -/

/-- The edges of H_cmd in the period, on the tick while the delay line is degraded (R147). -/
def Phase.onEdge (v : Phase) : Nat := tickRound v.tickOnly v.hOn

def Phase.offEdge (v : Phase) : Nat := tickRound v.tickOnly v.hOff

/-- H_cmd at a fine step of the period by R145, with the step of its last change. -/
def Phase.carrierCmd (v : Phase) (x : Nat) : Bool × Nat :=
  let b := 32 * v.loadAt
  if v.tOn = 0 then (false, if v.hPrev then b else v.chgPrev)
  else if v.allOn then (true, if v.hPrev then v.chgPrev else b)
  else if x < b + v.onEdge then (false, if v.hPrev then b else v.chgPrev)
  else if x < b + v.offEdge then (true, if v.onEdge = 0 ∧ v.hPrev = true then v.chgPrev else b + v.onEdge)
  else (false, b + v.offEdge)

/-- H_cmd with the step of its last change under the truncations so far; none where both sides are ended (R163, R166). -/
def Phase.command (v : Phase) (x : Nat) : Option (Bool × Nat) :=
  match v.cuts.filter fun k => decide (k.1 ≤ x) with
  | [] => some (v.carrierCmd x)
  | k :: ks =>
    let c := v.carrierCmd k.1
    let first := if k.2 = 1 then some (false, if c.1 then k.1 else c.2) else if k.2 = 2 then some (true, if c.1 then c.2 else k.1) else none
    ks.foldl (fun q k => match q with
      | none => none
      | some c => if k.2 = (if c.1 then 2 else 1) then some c else none) first

/-- Whether a pulse of the high side, and of the low side, that begins at a fine step is left out (R151). -/
def Phase.verdict (v : Phase) (x : Nat) : Bool × Bool :=
  match (v.drops.filter fun d => decide (d.1 ≤ x)).getLast? with | some d => d.2 | none => (false, false)

/-- The fine step at which the pulse in progress at a fine step ends, within its period: a truncated period keeps its command to its end. -/
def Phase.pulseEnd (v : Phase) (x : Nat) : Nat :=
  let b := 32 * v.loadAt
  if !v.cuts.isEmpty || v.tOn == 0 || v.allOn then b + 32 * v.period
  else if x < b + v.onEdge then b + v.onEdge else if x < b + v.offEdge then b + v.offEdge else b + 32 * v.period

/-- A pulse that begins inside a period is judged as it begins (R151): at a truncation that changes the command (`cut`), or at an enable (R149). The
drop counter counts the pulse once: one that takes the place of a pulse still ahead in the period (`ahead`) takes over its count. -/
def Phase.judge (v : Phase) (mode minPulse x : Nat) (cut : Bool) : Phase :=
  match v.command x with
  | none => v
  | some (c, chg) =>
    let whole := !cut && (v.tOn == 0 || v.allOn)
    if !v.outOn || minPulse == 0 || mode == (if c then 2 else 1) || (cut && chg != x) || whole then v
    else
      let old := v.verdict x
      let was := if c then old.1 else old.2
      let short := decide (v.pulseEnd x < x + minPulse + (if c then v.tLH else v.tHL))
      let ahead := cut && (if c then decide (x < 32 * v.loadAt + v.onEdge) else v.onEdge == 0)
      let new := if c then (short, old.2) else (old.1, short)
      let saved := ahead && was && !short
      { v with
        drops := v.drops ++ (if cut then [(x, new)] else [(x, new), (v.pulseEnd x, old)])
        pulseDrops := v.pulseDrops + b2n (short && !(was && (ahead || !cut))) - b2n saved
        pulseDropped := short || (v.pulseDropped && !(saved && !(if c then old.2 else old.1))) }

/-- H_cmd at the end of the period, with its last change. DESIGN CHOICE (log entry 125): where both sides were ended, the dead times run from the load
point at which they resume. -/
def Phase.carry (v : Phase) (x : Nat) : Bool × Nat := match v.command (x - 1) with | some c => c | none => (false, x)

/-- The bindings on an input are suspended: it is a phase's current input, and reports stuck or decode (R166). -/
def State.suspended (s : State) (md : Nat) : Bool :=
  s.inputBad md && (List.range 24).any fun p => (s.stageOf p).isSome && s.objN (0x3800 + p) 14 == md

/-- The bindings of a stage that reach a phase with their comparator active and their input good (R162, R163, R166): their actions. -/
def State.activeActions (s : State) (n p : Nat) : List Nat :=
  (List.range 4).filterMap fun b =>
    let w := nth (s.stage n).bindings b 0
    let md := bits w 16 8
    let act := bits w 13 2
    let hit := if bit w 15 then (s.modIn md).low else (s.modIn md).high
    let inScope := bit w 12 || bits w 0 5 == p
    if act ≠ 0 ∧ hit = true ∧ inScope = true ∧ s.suspended md = false then some act else none

/-- A truncation of a phase by an action at a tick (R163, R166). -/
def Phase.truncate (v : Phase) (act now : Nat) : Phase :=
  let v := { v with cuts := v.cuts ++ [(32 * now, act)] }
  if act = 3 then { v with bothOff := true }
  else if act = 1 then (if v.endLow then { v with endHigh := true, bothOff := true } else { v with endHigh := true })
  else if act = 2 then (if v.endHigh then { v with endLow := true, bothOff := true } else { v with endLow := true })
  else v

/-- A breakwater action on one phase: the first of a period counts it (R163). -/
def Phase.breakwater (v : Phase) (act now : Nat) : Phase :=
  let t := v.truncate act now
  if v.bwTrunc then t else { t with bwTrunc := true, bwRun := v.bwRun + 1, bwCount := v.bwCount + 1 }

/-- Dropped phases of a stage. -/
def State.droppedCount (s : State) (st : Nat) : Nat := ((s.stagePhases st).filter fun p => (s.phase p).dropped).length

def State.obsKey (s : State) (st kind : Nat) : Key := s.key 3 st 0x40 kind

/-- The capacity source: raised with its EMCY whatever the class (R197); its record carries a phase (R199). -/
def State.raiseCapacity (s : State) (st p : Nat) : State :=
  let o := s.observer st
  (s.setObserver st { o with capShort := true }).raiseWith (s.obsKey st 9) 0 (leBytes 1 p) true

/-- The demand of R197: the magnitude of the mean of S over the periods before the first alarm. -/
def State.obsDemand (s : State) (st : Nat) : Rat := let l := (s.observer st).demand; absR (divR (sumR l) l.length)

/-- C of R197: the sum of `PhaseLimit` over the phases still running. -/
def State.obsCarry (s : State) (st : Nat) : Rat := sumR ((s.runningPhases st).map fun p => s.objR (0x3800 + p) 10)

/-- A remaining phase that the fender has truncated in more than half of the periods of the last 10 ms, which lie after the drop (R197). -/
def State.fenderBusy (s : State) (st : Nat) : Option Nat :=
  if s.now < (s.observer st).winFrom + 4000000 then none
  else (s.runningPhases st).find? fun p =>
    decide (4000000 < 2 * s.carrierPeriod st * ((s.phase p).fenderTicks.filter fun x => decide (s.now < x + 4000000)).length)

/-- The missing share that a capacity found short hands to the power manager: the DEGRADE reaction of its source, which
on a standby is the active's (R197, R320, R324). -/
def State.missingShare (s : State) (st : Nat) (short : Bool) : Rat :=
  let acts := match s.activeOf (s.obsKey st 9) with | some a => a.degrades | none => s.classOf (s.obsKey st 9) == 2
  if short && acts then s.objR (0x3D00 + st) 0x0F * s.droppedCount st / s.stageCount st else 0

/-- The check on the remaining phases after a running phase's drop, the last one's too, the 10 ms windows, the missing share, and the clear (R197). A drop
in a hitless gap is judged after it. DESIGN CHOICE (log entry 168): a shortage taken over from the active has its source here from the first run as owner. -/
def State.obsCapacity (s : State) (st : Nat) : State :=
  let d := s.droppedCount st
  let o := s.observer st
  let new := o.dropCheck && !s.inGap
  let s := if new then s.setObserver st { o with winFrom := s.now, checked := true } else s
  let s := if (new && decide (s.obsCarry st < s.obsDemand st)) || (o.capShort && d != 0 && !s.isActive (s.obsKey st 9)) then s.raiseCapacity st o.lastDrop else s
  let s := match s.fenderBusy st with
    | some p => if d != 0 && !new && s.stageOn st && o.checked then s.raiseCapacity st p else s
    | none => s
  let o := s.observer st
  let short := o.capShort && d != 0
  let s := s.setObserver st { o with
    dropCheck := o.dropCheck && s.inGap, checked := o.checked && d != 0, capShort := short, missing := s.missingShare st short }
  if short then s else s.clearing (s.obsKey st 9)

/-- The check, and the missing share, at a drop or a return, on the side that decides (R197, R198). -/
def State.capacityAt (s : State) (p : Nat) : State :=
  match s.stageOf p with
  | none => s
  | some n => if s.follows && !s.pair.hbLost then s else s.obsCapacity n

/-- A phase dropped by any cause ends its substitution (R196); its observer notes it as the last drop (R199), and has a running phase's drop to check
(R197). -/
def State.endSubst (s : State) (p : Nat) : State :=
  match s.stageOf p with
  | none => s
  | some n =>
    let o := s.observer n
    let j := p - s.stageFirst n
    let x := nth o.ph j {}
    s.setObserver n { o with lastDrop := p, dropCheck := o.dropCheck || (s.stageOn n && (s.phase p).inSet), ph := put o.ph j { x with subst := false, substEnd := if x.subst then some s.now else x.substEnd } }

/-- A phase leaves the interleave (R154): its outputs low at once, out of the set, cause noted; the last one sheds its stage. A phase that is dropped
already keeps its cause. -/
def State.leavePhase (s : State) (p cause : Nat) : State :=
  if (s.phase p).dropped && !(s.phase p).inSet then s
  else
  let s := s.endSubst p
  let v := s.phase p
  let s1 := s.setPhase p { v.low with enable := false, dropped := true, dropCause := cause }
  match s.stageOf p with
  | none => s1
  | some n =>
    if !s.stageOn n then s1
    else if (s1.runningPhases n).isEmpty then
      (s1.shedStage n).setPhase p { v.low with enable := false, dropped := true, dropCause := cause }
    else s1.setStage n { s1.stage n with state := if (s1.stage n).state == .starting then .starting else .degraded
                                         releavePending := true, releaveAt := s.now }

/-- A drop of a phase (R154), and the check of its stage's capacity (R197). -/
def State.dropPhase (s : State) (p cause : Nat) : State := (s.leavePhase p cause).capacityAt p

/-- A breakwater action on one phase of a stage, with the run source (R163). -/
def State.breakwaterPhase (s : State) (n p act : Nat) : State :=
  let v := s.phase p
  let w := (v.breakwater act s.now).judge (s.objN (0x3800 + p) 3) (s.objN (0x3000 + 256 * n) 0x0E) (32 * s.now) true
  let s1 := (s.setPhase p w).setStage n { s.stage n with bwAny := true }
  let limit := s.objN (0x3000 + 256 * n) 0x11
  if !v.bwTrunc && limit != 0 && w.bwRun == limit then
    let k := s.key 4 n p 1
    let s2 := s1.raise k 0
    if !s1.isActive k && s2.degrades k then s2.dropPhase p 3 else s2
  else s1

/-- The period of a phase that starts at a load point: P, or P + Δ in a transition (R155). -/
def transitionLen (p o o' : Nat) : Nat :=
  let d := (o' + p - o) % p
  if 2 * d ≤ p then p + d else d

/-- The ended period of a phase: its sources clear where nothing has truncated it (Table 05-7). -/
def State.endPeriod (s : State) (n p : Nat) : State :=
  let v := s.phase p
  let s := if v.bwTrunc then s else s.clearing (s.key 4 n p 1)
  if v.fenderTrunc then s else s.clearing (s.key 4 n p 2)

/-- The outputs of a phase are enabled from this load point on (R157, R158 step 4): a returning phase waits for its new offset. -/
def State.phaseOn (s : State) (n p : Nat) : Bool :=
  let v := s.phase p
  let wait := v.returning && (v.awaitsSet || (v.offset != v.offsetNext && !v.moving))
  v.inSet && decide (4 ≤ (s.stage n).startStep) && s.stageOn n && !wait

/-- What of the verdict on the pulse in progress at a load point stays: a pulse that the new period makes no shorter than `MinPulse` is produced from
there on (R151). `on`, `off` are the edges of the new period, fine steps from the load point, and `low`, `all` say that it never turns on, or never off. -/
def Phase.keptVerdict (v : Phase) (minPulse x0 on off : Nat) (low all : Bool) (len tLH tHL : Nat) (c : Bool × Nat) : Bool × Bool :=
  let d := v.verdict c.2
  let endH := x0 + (if all then len else if low || on != 0 then 0 else off)
  let endL := x0 + (if all then 0 else if low then len else on)
  (d.1 && (!c.1 || decide (endH < c.2 + minPulse + tLH)), d.2 && (c.1 || decide (endL < c.2 + minPulse + tHL)))

/-- The period that begins at a load point: duty, edges, dead times, offset (R144 to R151, R155), and the count of load points without a commit,
which counts while the phase switches (R171). DESIGN CHOICE (log entry 144): a phase that is high for its whole period stays high through a transition
period (R149 before R155). -/
def State.newPeriod (s : State) (n p : Nat) : Phase :=
  let v := s.phase p
  let P := s.carrierPeriod n
  let move := v.offset != v.offsetNext && !v.moving
  let len := if move then transitionLen P v.offset v.offsetNext else P
  let d := s.dutyTaken p
  let tOn := tOnOf d P
  let all := decide (tOn = 32 * P)
  let e := if all then (0, 32 * len) else hEdges (s.objN (0x3000 + 256 * n) 5) tOn len
  let dt := s.deadTimes n p
  let on := s.phaseOn n p
  let c := v.carry (32 * s.now)
  let lows := s.inMode .track
  let drops := if on && !all then
      shortPulses (s.objN (0x3800 + p) 3) (s.objN (0x3000 + 256 * n) 0x0E) tOn (32 * len) dt.1 dt.2 (decide (e.1 = 0) && c.1) else (false, false)
  { v with
    duty := d, tOn := tOn, allOn := all, hOn := e.1, hOff := e.2, period := len, loadAt := s.now
    hPrev := c.1, chgPrev := c.2, cuts := []
    drops := [(0, v.keptVerdict (s.objN (0x3000 + 256 * n) 0x0E) (32 * s.now) e.1 e.2 (tOn == 0) all (32 * len) v.tLH v.tHL c), (32 * s.now, drops)]
    tLH := dt.1, tHL := dt.2, pulseDrops := v.pulseDrops + (if lows then 0 else b2n drops.1 + b2n drops.2), pulseDropped := !lows && (drops.1 || drops.2)
    offset := if v.moving then v.offsetNext else v.offset
    moving := move
    bwRun := if v.bwTrunc then v.bwRun else 0
    bwTrunc := false, fenderTrunc := false, endHigh := false, endLow := false, bothOff := false
    outOn := v.outOn || on, onAt := if on && !v.outOn then s.now else v.onAt, returning := v.returning && !on
    missedCommits := if v.committed || !on then 0 else v.missedCommits + 1
    committed := false }

/-- The stage's bits kept for a period, at a load point of its first phase (R174), and the end of a re-interleave (R155). -/
def State.stageBits (s : State) (n p : Nat) : State :=
  let g := s.stage n
  let still := (s.stagePhases n).any fun q => let x := s.phase q; x.inSet && (x.moving || x.offset != x.offsetNext)
  if p = s.stageFirst n then
    s.setStage n { g with bwAny := (s.stagePhases n).any fun q => (s.phase q).bwTrunc
                          fenderAny := (s.stagePhases n).any fun q => (s.phase q).fenderTrunc
                          reinterleaving := g.reinterleaving && still }
  else s.setStage n { g with reinterleaving := g.reinterleaving && still }

/-- A load point of a phase of a stage (R142, R144, R163, R171): comparators still active act on a running phase again. -/
def State.loadPhase (s : State) (n p : Nat) : State :=
  let s := s.endPeriod n p
  let s := s.setPhase p (s.newPeriod n p)
  let s := if (s.phase p).inSet then (s.activeActions n p).foldl (fun t a => t.breakwaterPhase n p a) s else s
  s.stageBits n p

/-- The angle set latched at a carrier boundary when the running set has changed (R155, R156). -/
def State.relatch (s : State) (n : Nat) : State :=
  let g := s.stage n
  if g.releavePending && !g.reinterleaving && decide (g.releaveAt + 2 ≤ s.now) then
    let inSet := fun p => (s.phase p).inSet
    let offs := s.setOffsets n inSet
    let s := offs.foldl (fun t (po : Nat × Nat) => t.setPhase po.1 { t.phase po.1 with offsetNext := po.2, awaitsSet := false }) s
    s.setStage n { g with releavePending := false, angleSet := angleSetOf (s.missing n inSet), reinterleaving := true }
  else s

/-- Values that a carrier boundary of a stage puts in force (R24, R132, R150, R162): setpoint, share trims, band, dead times, bindings. A soft start goes on
from its present value to a new setpoint (R160). -/
def State.latchStage (s : State) (n : Nat) : State :=
  let g := s.stage n
  let turn := g.rampOn && g.setpointNext != g.setpoint
  s.setStage n { g with
    setpoint := g.setpointNext
    ramp := if turn then s.stageSetpoint n else g.ramp
    rampAt := if turn then s.now else g.rampAt
    trims := s.spm.shareTrim
    band := s.stageBandNow n
    deadTimes := (List.range 8).map fun b => s.objN (0x3001 + 256 * n) (1 + b)
    bindings := (List.range 4).map fun b => s.objN (0x3004 + 256 * n) (1 + b)
    boundary := g.boundary + 1
    boundaryTick := s.now }

/-- A start's steps at the carrier boundaries after it was accepted (Table 05-4). -/
def State.startBoundary (s : State) (n : Nat) : State :=
  let g := s.stage n
  match g.startStep with
  | 1 => (s.prebias n).setStage n { (s.prebias n).stage n with startStep := 2 }
  | 2 => (s.prebiasLoad n).setStage n { (s.prebiasLoad n).stage n with startStep := 3 }
  | 3 => s.beginRamp n
  | _ => s

/-! Fender (R164, R165). -/

/-- The fender curve of a band at a voltage. -/
def State.fenderCurve (s : State) (n b : Nat) (v : Rat) : Rat :=
  let V := fun k => s.objR (0x3005 + 256 * n) (1 + 8 * b + 2 * k)
  let I := fun k => s.objR (0x3005 + 256 * n) (2 + 8 * b + 2 * k)
  let seg := fun k => I k + divR ((v - V k) * (I (k + 1) - I k)) (V (k + 1) - V k)
  if v ≤ V 0 then I 0 else if V 3 ≤ v then I 3 else if v ≤ V 1 then seg 0 else if v ≤ V 2 then seg 1 else seg 2

/-- The fast value of an input at the edge before the present one, in its unit (R165). -/
def State.fastBefore (s : State) (md : Nat) : Rat :=
  let m := s.modIn md
  F32.toRat m.fs * F32.toRat m.gain * ((if m.fastAt = s.now then m.fastPrev else m.fast) - F32.toRat m.offset)

/-- The limit of a phase's current (R164), from the voltage of the edge before (R165). -/
def State.fenderLimitOf (s : State) (n p : Nat) : Rat :=
  let md := s.objN (0x3000 + 256 * n) 0x12
  let pl := s.objR (0x3800 + p) 10
  if md = 0xFF then pl else minR (s.fenderCurve n (s.stage n).band (s.fastBefore md)) pl

/-- The fast filter of an input has seen its 2·OSR_F − 1 bits (R88). -/
def State.fastReady (s : State) (md : Nat) : Bool := decide (2 * s.objN (0x4000 + md) 3 - 1 ≤ (s.modIn md).fastSeen)

/-- The action the fender takes on a phase, 0 for none (R165, R166). DEDUCED (log entry 126): the decision is taken at the deciding value with no
debounce, which R88 gives to the comparators. -/
def State.fenderAction (s : State) (n p : Nat) : Nat :=
  let md := s.objN (0x3800 + p) 14
  let l := s.fenderLimitOf n p
  if s.inputBad md || !s.fastReady md || !(s.phase p).outOn then 0
  else if l < s.fastY md then 1 else if s.fastY md < -l then 2 else 0

/-- 0x3n06:01 and :02 after a fast value (R165): the last voltage, and the limit of the stage's first running phase. -/
def State.fenderRead (s : State) (md n : Nat) : State :=
  let f := s.objN (0x3000 + 256 * n) 0x12
  match s.runningPhases n with
  | [] => s
  | p :: _ =>
    if f = md ∨ (f = 0xFF ∧ s.objN (0x3800 + p) 14 = md) then
      s.setStage n { s.stage n with fenderVolts := if f = 0xFF then 0 else s.fastY f, fenderLimit := s.fenderLimitOf n p }
    else s

/-! Meanings. -/

/-- A load point of a phase lies here (R142, R155): its offset after a carrier boundary of the counter that runs from the common start pulse, and the end of
the period before. -/
def State.loadDue (s : State) (n p : Nat) : Bool :=
  let v := s.phase p
  let z := s.tide.startPulse + s.objN (0x3000 + 256 * n) 6 + (if v.moving then v.offsetNext else v.offset)
  s.tide.pulsed && decide (z ≤ s.now) && (s.now - z) % s.carrierPeriod n == 0 && (v.period == 0 || decide (v.loadAt + v.period ≤ s.now))

/-- LOAD_POINT (R144): the phase takes its duty and begins a period. Nothing where the phase is in no stage or PWM does not run. -/
def execLoadPoint (ph : Nat) (s : State) : Host.Outcome State Fault Refusal :=
  .next (match s.stageOf ph with
    | some n => if s.pwmPowered && s.loadDue n ph then s.loadPhase n ph else s
    | none => s)

/-- STAGE_START (R143, R158): a write of 1 to `StageCommand`. -/
def execStageStart (ch : Chan) (st : Nat) (s : State) : Host.Outcome State Fault Refusal :=
  .next (s.guardedWrite ch (0x3000 + 256 * st) 7 [1] (s.stageStartStatus st) (s.applyStageStart st))

/-- The soft start of a stage has ended: its ramp has reached the setpoint (R158 step 5, R160). -/
def State.softStartDone (s : State) (st : Nat) : Bool :=
  (s.stage st).startStep == 4 && (s.stage st).rampOn && !s.follows && s.stageSetpoint st == F32.toRat (s.stage st).setpoint


/-- STAGE_STOP (R161): a write of 0 to `StageCommand`. -/
def execStageStop (ch : Chan) (st : Nat) (s : State) : Host.Outcome State Fault Refusal :=
  .next (s.guardedWrite ch (0x3000 + 256 * st) 7 [0] 0 (s.applyStageStop st))

/-- One phase's delay line after a calibration (R147): degraded while either output's error is too large. -/
def State.calibrate (s : State) (bad : List Bool) (p : Nat) : State :=
  match s.stageOf p with
  | none => s
  | some n =>
    let k := s.key 4 n p 3
    if nth bad (2 * p) false || nth bad (2 * p + 1) false then
      let s := s.raise k 0
      s.setPhase p { s.phase p with tickOnly := s.degrades k }
    else (s.clearing k).setPhase p { s.phase p with tickOnly := false }

/-- DELAY_LINE_CALIBRATION (R147): every output, every 1 ms. -/
def execDelayLineCalibration (bad : List Bool) (s : State) : Host.Outcome State Fault Refusal :=
  .next (if s.pwmPowered then forUnits (List.range 24) (fun t p => t.calibrate bad p) s else s)

/-- PHASE_DROP (R154): a write of 0 to `PhaseEnable`. -/
def execPhaseDrop (ch : Chan) (ph : Nat) (s : State) : Host.Outcome State Fault Refusal :=
  .next (s.guardedWrite ch (0x3800 + ph) 4 [0] 0 (s.dropPhase ph 4))

/-- What refuses a phase's return (R157). -/
def State.phaseReturnStatus (s : State) (p : Nat) : Nat :=
  match s.stageOf p with
  | none => stState
  | some n =>
    let md := s.objN (0x3800 + p) 14
    if !(s.activeUnit 4 n p).isEmpty || !(s.activeUnit 5 (md / 12) md).isEmpty then stState
    else match (s.stage n).state with
      | .running => 0 | .degraded => 0 | .disabled => 0 | .shed => 0
      | .unpowered => stState | .starting => stState | .safe => stState

/-- A phase returns to the interleave at its next load point at its new offset, or to the next start (R157). -/
def State.rejoinPhase (s : State) (p : Nat) : State :=
  let v := s.phase p
  match s.stageOf p with
  | none => s
  | some n =>
    if s.stageOn n then
      if v.inSet then s.setPhase p { v with enable := true }
      else
        let s1 := s.setPhase p { v with enable := true, dropped := false, dropCause := 0, inSet := true, returning := true, awaitsSet := true, missedCommits := 0 }
        let g := s1.stage n
        s1.setStage n { g with releavePending := true, releaveAt := s.now
                               state := if (s.stagePhases n).any (fun q => q != p && (s.phase q).dropped) then g.state else .running }
    else s.setPhase p { v with enable := true, dropped := false, dropCause := 0 }

/-- A phase's return (R157), with the missing share that it leaves (R197). -/
def State.returnPhase (s : State) (p : Nat) : State := (s.rejoinPhase p).capacityAt p

/-- PHASE_RETURN (R157): a write of 1 to `PhaseEnable`. -/
def execPhaseReturn (ch : Chan) (ph : Nat) (s : State) : Host.Outcome State Fault Refusal :=
  .next (s.guardedWrite ch (0x3800 + ph) 4 [1] (s.phaseReturnStatus ph) (s.returnPhase ph))

/-- BREAKWATER_TRUNCATION (R163): a bound comparator has become active; the action reaches the phases in scope. -/
def execBreakwaterTruncation (st b : Nat) (s : State) : Host.Outcome State Fault Refusal :=
  .next (
    let w := nth (s.stage st).bindings b 0
    let md := bits w 16 8
    let hit := if bit w 15 then (s.modIn md).low else (s.modIn md).high
    let scope := if bit w 12 then s.runningPhases st else (s.runningPhases st).filter fun p => p == bits w 0 5
    if bits w 13 2 ≠ 0 ∧ hit = true ∧ s.suspended md = false ∧ s.regionOn .pwm = true then
      forUnits scope (fun t p => t.breakwaterPhase st p (bits w 13 2)) s
    else s)

/-- FENDER_TRUNCATION (R165): the phase current is beyond its limit; the pulse ends and the source is raised. -/
def execFenderTruncation (ph : Nat) (s : State) : Host.Outcome State Fault Refusal :=
  .next (match s.stageOf ph with
    | none => s
    | some n =>
      let a := s.fenderAction n ph
      if a ≠ 0 then
        let v := s.phase ph
        let t := (v.truncate a s.now).judge (s.objN (0x3800 + ph) 3) (s.objN (0x3000 + 256 * n) 0x0E) (32 * s.now) true
        let s1 := s.setPhase ph (if v.fenderTrunc then t else { t with fenderTrunc := true, fenderCount := v.fenderCount + 1, fenderTicks := v.loadAt :: v.fenderTicks.filter fun x => decide (s.now < x + 4000000) })
        let s2 := s1.setStage n { s1.stage n with fenderAny := true }
        s2.raise (s.key 4 n ph 2) 0
      else s)

/-- ESTOP_ASSERTED (R168): every output low, `TRIP_N` asserted, the estop source raised. -/
def execEstopAsserted (s : State) : Host.Outcome State Fault Refusal :=
  .next (
    let s1 := s.stopStages .safe
    let s2 := forUnits (List.range 8) (fun t n => t.setStage n { t.stage n with estop := t.stageUsed n }) s1
    let s3 := { s2 with mode := { s2.mode with estopLow := true, estopRose := false, tripDriven := true } }
    s3.raise (s3.key 4 0xFF 0 0) 0)

/-- The high level of `ESTOP_N` seen (R168): the estop source clears at the end of its window (R319), and nothing else is released. -/
def State.estopHigh (s : State) : State :=
  (({ s with mode := { s.mode with estopLow := false, estopRose := false } }).clearing (s.key 4 0xFF 0 0)).driveTrip

/-- A look at `ESTOP_N` from an entry to RISE on, while it has been low: its level is a free value (R168; log entry 62). -/
def State.seeEstop (s : State) : State :=
  if s.mode.estopLow && s.mode.estopRose then let d := s.drawBool; if d.1 then d.2.estopHigh else d.2 else s

/-- TRIP_READBACK_FAULT (R169): the pin has differed from the driven level for 1 µs. -/
def execTripReadbackFault (s : State) : Host.Outcome State Fault Refusal :=
  .next (({ s with mode := { s.mode with tripBadAt := s.now } } : State).raise (s.key 4 0xFF 1 0) 0)

/-- The readback of `TRIP_N` has matched for 1 ms (Table 05-7). DESIGN CHOICE (log entry 127): it matches unless a fault is detected again. -/
def State.tripMatches (s : State) : State :=
  if s.mode.tripBadAt + ticksPerMs ≤ s.now then s.clearing (s.key 4 0xFF 1 0) else s

/-- DRIVE_READBACK_FAULT (R519): four consecutive samples of a phase's ball differ. -/
def execDriveReadbackFault (ph : Nat) (s : State) : Host.Outcome State Fault Refusal :=
  .next (match s.stageOf ph with
    | some n => s.raise (s.key 4 n ph 4) 0
    | none => s)

/-- A running phase of the stage has had no commit for `HoldWatch` load points (R171). -/
def State.holdDue (s : State) (st : Nat) : Bool :=
  s.stageOn st && decide (4 ≤ (s.stage st).startStep) && !(s.stage st).hold
    && ((!s.regionOn .eng) || (s.objN (0x3000 + 256 * st) 0x0F != 0
        && (s.runningPhases st).any fun p => decide (s.objN (0x3000 + 256 * st) 0x0F ≤ (s.phase p).missedCommits)))

/-- Bollard hold of a stage engaged: every running phase holds its last duty (R171). One stopped by a SHED engages no more (R321). -/
def State.engageHold (s : State) (st : Nat) : State :=
  if s.isShed 4 0xFF 2 then s else
  let s1 := forUnits (s.runningPhases st) (fun t p => t.setPhase p { t.phase p with hold := true }) s
  s1.setStage st { s1.stage st with hold := true, holdSince := s.now }

/-- HOLD_WATCH_EXPIRED (R171): the bollard hold is engaged. -/
def execHoldWatchExpired (st : Nat) (s : State) : Host.Outcome State Fault Refusal :=
  .next (if s.holdDue st then s.engageHold st else s)

/-- HOLD_LIMIT_EXPIRED (R171): the hold has lasted `HoldLimit`, and the hold source is raised. -/
def execHoldLimitExpired (st : Nat) (s : State) : Host.Outcome State Fault Refusal :=
  .next (if (s.stage st).hold && decide (s.objN (0x3000 + 256 * st) 0x10 * ticksPerUs ≤ s.since (s.stage st).holdSince) then
      s.raiseWith (s.key 4 0xFF 2 0) 0 (leBytes 1 st) false
    else s)

/-- A commit reaches a phase (R128, R146, R170, R171). -/
def State.commitDuty (s : State) (p : Nat) (d : F32) : State :=
  let v := s.phase p
  let s1 := if s.inMode .track then s.setPhase p { v with holdDuty := d, committed := true, missedCommits := 0, hold := false }
    else s.setPhase p { v with shadow := d, shadowOld := if v.shadowAt + 2 ≤ s.now then v.shadow else v.shadowOld, shadowAt := s.now, holdDuty := d, committed := true, missedCommits := 0, hold := false }
  match s.stageOf p with
  | none => s1
  | some n =>
    if (s1.stage n).hold && !(s1.runningPhases n).any (fun q => (s1.phase q).hold) then
      let s2 := s1.setStage n { s1.stage n with hold := false }
      if s2.stages.any (·.hold) then s2 else s2.clearing (s.key 4 0xFF 2 0)
    else s1

end Sys2Proof.Machine
end

