-- ==== Sys2Proof/Machine/Measure.lean ====
section
/-! DEFINITION. The measurement path: modulator inputs, filters, comparators, calibration, and the supervisory converter (chapter 03). -/
namespace Sys2Proof.Machine

def State.modType (s : State) (md : Nat) : Nat := s.objN (0x4000 + md) 1
def State.osr (s : State) (md : Nat) : Nat := s.objN (0x4000 + md) 2
def State.fastOsr (s : State) (md : Nat) : Nat := s.objN (0x4000 + md) 3

/-- The divider N of the clock that an input's group selects (R72, R73). -/
def State.divider (s : State) (md : Nat) : Nat := s.objN 0x4034 (1 + s.objN (0x4030 + md / 12) 2)

/-- The clock that an input's group selects (R73). -/
def State.inputClock (s : State) (md : Nat) : Nat := s.objN (0x4030 + md / 12) 2

/-- The first point at or after `t` of the grid of period `per` that counts from `from_`. -/
def gridUp (from_ per t : Nat) : Nat := if t ≤ from_ then from_ else from_ + (t - from_ + per - 1) / per * per

/-- A tick is a rising edge of `MCLKj` (R72, R75): it lies on the divider's grid from the common start pulse, after the wait of a divider write. -/
def State.mclkEdge (s : State) (j t : Nat) : Bool :=
  s.tide.pulsed && decide (s.tide.startPulse ≤ t) && decide (nth s.clock.mclkFrom j 0 ≤ t) && (t - s.tide.startPulse) % (2 * s.objN 0x4034 (1 + j)) == 0

/-- The decimators of an input run: SNS is ON, its group runs, the input is present and not off (R74, R78, R518). -/
def State.inputRuns (s : State) (md : Nat) : Bool :=
  s.regionOn .sns && (s.group (md / 12)).running && s.part.has .modIn md && s.modType md != 0

/-! Groups (R74, R518). -/

/-- An offset measurement runs and still takes samples (R92). -/
def ModInput.measures (m : ModInput) : Bool := m.cal == 1 && decide (m.calCount < 4096)

/-- The filters and checks of an input start afresh (R83); a running offset measurement has met a sample that is not valid (R92). -/
def ModInput.restart (m : ModInput) : ModInput :=
  { m with hist := [], fastBits := [], frames := 0, valid := false, validOld := false, calBad := m.calBad || m.measures, stuck := false, overrange := false, overrangeBelow := 0, decode := false, fastSeen := 0,
           highRun := 0, lowRun := 0, high := false, low := false }

/-- The inputs of a group. -/
def groupInputs (g : Nat) : List Nat := (List.range 12).map (12 * g + ·)

/-- A group starts or restarts: its filters start, and every source of it and of its inputs clears (R518), at the end of the window (R319). -/
def State.startGroup (s : State) (g : Nat) : State :=
  let s := forUnits (groupInputs g) (fun t m =>
    (((t.setMod m (t.modIn m).restart).clearing (t.key 5 g m 1)).clearing (t.key 5 g m 2)).clearing (t.key 5 g m 3)) s
  let s := s.clearing (s.key 5 g 0xFF 4)
  s.setGroup g { s.group g with running := true, enabled := true, shed := false, startedAt := s.now, clockBad := false }

/-- A group is disabled, or its region stops: nothing runs in it, and it is no longer stopped by a SHED. -/
def State.stopGroup (s : State) (g : Nat) : State :=
  let s := forUnits (groupInputs g) (fun t m => t.setMod m (t.modIn m).restart) s
  s.setGroup g { s.group g with running := false, enabled := false, shed := false }

/-- A write of `GroupEnable` (R74): at once for a group that reports SHED, at once in SERVICE, else at the next start of SNS. -/
def State.applyGroupEnable (s : State) (g v : Nat) : State :=
  let s := s.setObjN (0x4030 + g) 1 1 v
  if s.regionOn .sns then
    if s.inMode .service then (if v = 1 then s.startGroup g else s.stopGroup g)
    else if v = 1 ∧ (s.group g).shed = true then s.startGroup g else s
  else s

/-- GROUP_ENABLE_WRITE (R518, R74). -/
def execGroupEnableWrite (ch : Chan) (g v : Nat) (s : State) : Host.Outcome State Fault Refusal :=
  .next (s.guardedWrite ch (0x4030 + g) 1 (leBytes 1 v) 0 (s.applyGroupEnable g v))

/-- STUCK_RUN_DETECTED (R79): a run of equal bits longer than `StuckLimit`. -/
def execStuckRunDetected (md : Nat) (s : State) : Host.Outcome State Fault Refusal :=
  .next (if s.inputRuns md then
      (s.setMod md { s.modIn md with stuck := true, valid := false }).raise (s.key 5 (md / 12) md 1) 0
    else s)

/-- STUCK_CLEAR_COUNT (R79): 1,000 modulator clock periods without the condition. -/
def execStuckClearCount (md : Nat) (s : State) : Host.Outcome State Fault Refusal :=
  .next (if s.inputRuns md && (s.modIn md).stuck then
      (s.setMod md { s.modIn md with stuck := false }).clearing (s.key 5 (md / 12) md 1)
    else s)

/-- MCLK_READBACK_FAULT (R519, Table 03-3): the clock ball differs on four consecutive samples. -/
def execMclkReadbackFault (g : Nat) (s : State) : Host.Outcome State Fault Refusal :=
  .next (if s.regionOn .sns && (s.group g).running then
      let v := s.group g
      let k := s.key 5 g 0xFF 4
      let s1 := s.setGroup g { v with clockBad := true, clockFaults := if s.isActive k then v.clockFaults else v.clockFaults + 1 }
      s1.raise k 0
    else s)

/-! Loop path (R81 to R84, R91). -/

/-- n choose 2 of `j + 2`, 0 below 0: the triple sum's growth. -/
def tri (j : Int) : Int := if j < 0 then 0 else (j + 1) * (j + 2) / 2

/-- Coefficient j of the sinc3 kernel of ratio R: ways to write j as a sum of three numbers below R (R81). -/
def sinc3 (R j : Nat) : Int := tri j - 3 * tri ((j : Int) - R) + 3 * tri ((j : Int) - 2 * R) - tri ((j : Int) - 3 * R)

/-- The filter's sum over bits, newest first, from coefficient `j` on. -/
def sincSum (R : Nat) : Nat → List Bool → Int
  | _, [] => 0
  | j, b :: bs => (if b then sinc3 R j else 0) + sincSum R (j + 1) bs

/-- Coefficient j of the sinc2 kernel of ratio R: ways to write j as a sum of two numbers below R (R87). -/
def sinc2 (R j : Nat) : Nat := if j < R then j + 1 else 2 * R - 1 - j

/-- The fast filter's sum over bits, newest first, from coefficient `j` on (R87). -/
def sinc2Sum (R : Nat) : Nat → List Bool → Nat
  | _, [] => 0
  | j, b :: bs => (if b then sinc2 R j else 0) + sinc2Sum R (j + 1) bs

/-- The normalised value of a density of ones by input type (R78). -/
def normalise (type : Nat) (d : Rat) : Rat := if type = 2 then 1 - 2 * d else 2 * d - 1

/-- The calibrated value of a normalised one (R91), rounded once. -/
def ModInput.scaled (m : ModInput) (x : Rat) : F32 := F32.ofRat (F32.toRat m.fs * F32.toRat m.gain * (x - F32.toRat m.offset))

/-- The three factors in force taken from the objects (R91). -/
def State.latchScale (s : State) (md : Nat) : State :=
  s.setMod md { s.modIn md with fs := s.objF (0x4000 + md) 4, gain := s.objF (0x4000 + md) 7, offset := s.objF (0x4000 + md) 6, scalePending := false }

/-- Bits sampled from one tick to another are of the interval that a takeover marks invalid (R361). -/
def State.bitsInvalid (s : State) (first last : Nat) : Bool :=
  decide (s.pair.invalidFrom < s.pair.invalidTo) && decide (first < s.pair.invalidTo) && decide (s.pair.invalidFrom ≤ last)

/-- The frame that ends now holds bits of the interval that a takeover marks invalid (R361), or a word of the input cannot be read. -/
def State.frameInvalid (s : State) (md : Nat) : Bool :=
  let last := s.now - 24
  (s.modIn md).wordBad || s.bitsInvalid (last - 2 * s.divider md * s.osr md) last

/-- A frame of a free-running input can end at an edge (R86): OSR edges, or a multiple, lie from the group's start to it. DESIGN CHOICE (log entry
142): an edge in the tick of the start is the first. -/
def State.freeFrameEnds (s : State) (md t : Nat) : Bool :=
  let per := 2 * s.divider md
  let first := gridUp s.tide.startPulse per (max (s.group (md / 12)).startedAt (nth s.clock.mclkFrom (s.inputClock md) 0))
  decide (first ≤ t) && ((t - first) / per + 1) % s.osr md == 0

/-- A frame of an input can end now (R81, R82, R84, R86): it holds OSR bits, and its last edge was 24 ticks ago. Where the group is anchored, that
edge lies a + i·OSR modulator periods after the latest carrier boundary of the anchor that the alignment has been taken at. -/
def State.frameDue (s : State) (md : Nat) (fb : List Bool) : Bool :=
  let an := s.objN (0x4030 + md / 12) 3
  let per := 2 * s.divider md
  let a := per * s.objN (0x4000 + md) 9
  let b0 := s.tide.startPulse + s.objN (0x3000 + 256 * an) 6
  let t := (s.now - 24 - b0) % s.carrierPeriod an
  let d := if a ≤ t then t - a else t + s.carrierPeriod an - a
  fb.length == s.osr md && decide (24 ≤ s.now) && s.mclkEdge (s.inputClock md) (s.now - 24)
    && (if an == 0xFF then s.freeFrameEnds md (s.now - 24) else decide (b0 ≤ s.now - 24) && d % (per * s.osr md) == 0)
    && ((s.modIn md).frames == 0 || decide ((s.modIn md).availAt < s.now))

/-- One loop-path frame of an input: the sample, its flag and the conditions judged on the frame (R79, R81 to R84). The input shows stuck or decode
while the condition holds, not through the clear window of its source (DESIGN CHOICE, log entry 166). -/
def State.frame (s : State) (md : Nat) (fb : List Bool) (violations : Nat) : State :=
  let s := if s.objN (0x4030 + md / 12) 3 = 0xFF then s.latchScale md else s
  let m := s.modIn md
  let R := s.osr md
  let all := m.hist ++ fb
  let keep := all.drop (all.length - 3 * R)
  let S := sincSum R 0 (keep.reverse.take (3 * R - 2))
  let x := F32.ofRat (normalise (s.modType md) (divR S ((R : Rat) ^ 3)))
  let n := min 4 (m.frames + 1)
  let bad := s.modType md == 3 && decide (4 < violations)
  let dec := if s.modType md ≠ 3 then false else if bad then true else if violations = 0 then false else m.decode
  let valid := decide (3 < n) && !m.stuck && !dec && !(s.group (md / 12)).clockBad && !s.frameInvalid md
  let y := m.scaled (F32.toRat x)
  let lev := s.objR (0x4000 + md) 0x10
  let o := decide (lev ≤ absR (F32.toRat x))
  let below := if o then 0 else m.overrangeBelow + 1
  let cal := m.measures
  let w := { m with
    hist := all.drop (all.length - 2 * R), frames := n, x := x, y := y, valid := valid, decode := dec, availAt := s.now, yOld := m.y, validOld := m.valid, availOld := m.availAt
    last16 := (y :: m.last16).take 16
    overrange := o || (m.overrange && decide (below < 2)), overrangeBelow := min 2 below
    overCount := m.overCount + b2n o
    calSum := if cal then m.calSum + F32.toRat x else m.calSum
    calCount := if cal then m.calCount + 1 else m.calCount
    calBad := m.calBad || (cal && !valid)
    lastGood := if valid then some y else m.lastGood
    acc := ((if valid then [(s.now, y)] else []) ++ m.acc).filter fun p => decide (s.now ≤ p.1 + 40000000) }
  let s := s.setMod md w
  let g := md / 12
  let s := if bad then s.raise (s.key 5 g md 3) 0 else if dec then s else s.clearing (s.key 5 g md 3)
  if o then s.raise (s.key 5 g md 2) 0 else if w.overrange then s else s.clearing (s.key 5 g md 2)

/-! Fast path (R87 to R90). -/

/-- The factor by which a margin moves the window of a rail (R302). DESIGN CHOICE (log entry 159): `MarginPct` as it stands now, also where it has been
written since the rail was margined. -/
def State.marginFactor (s : State) (r : Nat) : Rat :=
  let m := s.objR 0x2711 1 / 100
  match (s.rail r).margin with
  | 1 => 1 + m
  | 2 => 1 - m
  | _ => 1

/-- A threshold that the package keeps: of feed inputs, of the bus input (R216, R229 to R233), and of rails (R288). `neg` is the low one. -/
def State.keptThreshold (s : State) (md : Nat) (neg : Bool) : Option F32 :=
  let feed := fun (f sub : Nat) => s.objF (0x4400 + 16 * f) sub
  let used := fun (f : Nat) => s.objN (0x4400 + 16 * f) 2 == 1
  let cur := fun (f : Nat) => used f && s.objN (0x4400 + 16 * f) 4 == md
  let volt := fun (f : Nat) => used f && s.objN (0x4400 + 16 * f) 3 == md
  if neg && (cur 0 || cur 1) then some (F32.neg (feed (if cur 0 then 0 else 1) 0x0E))
  else if cur 2 || cur 3 then
    let f := if cur 2 then 2 else 3
    some (if neg then F32.neg (feed f 0x12) else if (s.feed f).inrush then feed f 0x13 else feed f 0x12)
  else match (List.range 4).find? volt with
  | some f => some (feed f (if neg then 0x0B else 0x0C))
  | none =>
    if neg && s.objN 0x4500 0x14 == md then some (s.objF 0x4500 0x13)
    else if neg then none
    else match (List.range 32).find? fun r => s.objN (0x4310 + r) 2 != 0xFF && s.objN (0x4310 + r) 6 == 0x40 + md with
      | some r => some (F32.ofRat (s.marginFactor r * s.objR (0x4310 + r) 8 * (1 + s.objR (0x4310 + r) 0x0A / 100)))
      | none => none

/-- A threshold's value: as the package keeps it, as written or imaged, else the multiple of `FullScale` that the table gives (R90). -/
def State.threshold (s : State) (md sub : Nat) (neg : Bool) : F32 :=
  let k := objKey (0x4000 + md) sub
  match s.keptThreshold md neg, storeGet k s.cfg, storeGet k s.imageValues with
  | some v, _, _ => v
  | none, some v, _ => BitVec.ofNat 32 (leNat v)
  | none, none, some v => BitVec.ofNat 32 (leNat v)
  | none, none, none => if neg then F32.neg (s.modIn md).fs else (s.modIn md).fs

/-- `FastHigh`, `FastLow` and `FastHyst` of an input, as they read back and act (R90, R229). -/
def State.comparatorOk (s : State) (md : Nat) : Bool :=
  decide (F32.toRat (s.threshold md 0x0C true) + 2 * s.objR (0x4000 + md) 0x0D < F32.toRat (s.threshold md 0x0B false))

/-- The thresholds keep their order with the scaling in force and with the one that waits for its boundary (R90, R91). -/
def State.thresholdsOk (s : State) (md : Nat) : Bool := s.comparatorOk md && (s.latchScale md).comparatorOk md

/-- The inputs of a feed, and the input that monitors a rail, whose thresholds the package keeps (R229 to R233, R288). -/
def State.feedInputs (s : State) (f : Nat) : List Nat :=
  [s.objN (0x4400 + 16 * f) 3, s.objN (0x4400 + 16 * f) 4].filter (s.part.has .modIn)

def State.railInputs (s : State) (r : Nat) : List Nat :=
  (if 0x40 ≤ s.objN (0x4310 + r) 6 then [s.objN (0x4310 + r) 6 - 0x40] else []).filter (s.part.has .modIn)

/-- What refuses a write of `FeedEnable` that would upset a kept threshold's order (R90; DEDUCED, log entry 115). -/
def State.feedEnableStatus (s : State) (f v : Nat) : Nat :=
  if (s.feedInputs f).all (s.setObjN (0x4400 + 16 * f) 2 1 v).thresholdsOk then 0 else stRange

/-- One fast value, from the edge's bit and those before it, and the comparators' decision on it (R87, R88, R90). DESIGN CHOICE (log entry 115):
a threshold is compared in the physical unit, exactly, without a rounding to the filter's integer scale. A value of the interval of R361 carries valid
flag 0, and the comparators act on it as delivered. -/
def State.fastDecision (s : State) (md : Nat) (b : Bool) : State :=
  let m := s.modIn md
  let R := s.fastOsr md
  let fb := (b :: m.fastBits).take (2 * R - 1)
  let x := normalise (s.modType md) (divR (sinc2Sum R 0 fb) ((R : Rat) ^ 2))
  let hi := s.threshold md 0x0B false
  let lo := s.threshold md 0x0C true
  let hy := s.objF (0x4000 + md) 0x0D
  let y := F32.toRat m.fs * F32.toRat m.gain * (x - F32.toRat m.offset)
  let seen := min (2 * R - 1) (m.fastSeen + 1)
  let D := s.objN (0x4000 + md) 0x0E
  let ready := decide (2 * R - 1 ≤ seen)
  let hr := if ready ∧ F32.toRat hi ≤ y then m.highRun + 1 else 0
  let lr := if ready ∧ y ≤ F32.toRat lo then m.lowRun + 1 else 0
  let high := decide (D + 1 ≤ hr) || (m.high && !decide (y < F32.toRat hi - F32.toRat hy))
  let low := decide (D + 1 ≤ lr) || (m.low && !decide (F32.toRat lo + F32.toRat hy < y))
  let s := if (high && !m.high) || (low && !m.low) then s.trigEvent { bit := 1, md := md, at_ := s.now } else s
  s.setMod md { m with
    fastBits := fb, fast := x, fastPrev := m.fast, fastAt := s.now, fastValid := !s.bitsInvalid (s.now - 6 - 2 * s.divider md * (2 * R - 2)) (s.now - 6)
    fastSeen := seen, thrHigh := hi, thrLow := lo, thrHyst := hy
    highRun := hr, lowRun := lr
    high := high, low := low }

/-- FAST_COMPARATOR_DECISION (R87 to R89): the fast value of one `MCLKj` edge, with the bit sampled at it, 15 ns after the edge. -/
def execFastComparatorDecision (md : Nat) (b : Bool) (s : State) : Host.Outcome State Fault Refusal :=
  .next (if s.inputRuns md && decide (6 ≤ s.now) && s.mclkEdge (s.inputClock md) (s.now - 6) then
      forUnits (List.range 8) (fun t n => t.fenderRead md n) (s.fastDecision md b)
    else s)

/-! Calibration (R92). -/

/-- What refuses an offset measurement (R92). -/
def State.calStatus (s : State) (md v : Nat) : Nat :=
  if v ≠ 1 then stRange
  else if (s.modIn md).cal = 1 then stState
  else if !s.inputRuns md then stState
  else if (List.range 8).any (fun n => s.stageConsumes n md && (s.stageOn n || (s.stage n).stopPending)) then stState
  else 0

/-- An offset measurement begins. -/
def State.applyCal (s : State) (md : Nat) : State :=
  s.setMod md { s.modIn md with cal := 1, calSum := 0, calCount := 0, calBad := false }

/-- A refused measurement reads 3, unless one runs (R92). -/
def State.calRefused (s : State) (md : Nat) : State :=
  let m := s.modIn md
  if m.cal = 1 then s else s.setMod md { m with cal := 3 }

/-- CAL_COMMAND (R92). -/
def execCalCommand (ch : Chan) (md v : Nat) (s : State) : Host.Outcome State Fault Refusal :=
  .next (
    let t := s.guardedWrite ch (0x4000 + md) 8 (leBytes 1 v) (s.calStatus md v) (s.applyCal md)
    if s.calStatus md v = stState ∧ s.served ch = true ∧ s.basicCheck ch (0x4000 + md) 8 (leBytes 1 v) = 0 then t.calRefused md else t)

/-- Starts that the measurement has held begin now (R92). -/
def State.releaseHeld (s : State) : State :=
  forUnits (List.range 8) (fun t n =>
    if (t.stage n).startHeld && !t.calHolds n then
      let t := t.setStage n { t.stage n with startHeld := false }
      if t.stageStartStatus n = 0 then t.startStage n else t
    else t) s

/-- CAL_COMPLETE (R92): 4,096 samples taken, or an invalid one met. -/
def execCalComplete (md : Nat) (s : State) : Host.Outcome State Fault Refusal :=
  .next (
    let m := s.modIn md
    if m.cal = 1 ∧ (m.calBad = true ∨ 4096 ≤ m.calCount) then
      let mean := divR m.calSum m.calCount
      if m.calBad = true ∨ mean < -1 / 4 ∨ 1 / 4 < mean then (s.setMod md { m with cal := 3 }).releaseHeld
      else ((s.setMod md { m with cal := 2, scalePending := true, wordBad := false }).setObj (0x4000 + md) 6 (realBytes mean)).releaseHeld
    else s)

/-! The supervisory converter (R93 to R102). -/

def entryInput (w : Nat) : Nat := bits w 0 5
def entryTSamp (w : Nat) : Nat := bits w 6 3
def entryGain (w : Nat) : Nat := 2 ^ bits w 9 2
def entryAvg (w : Nat) : Nat := bits w 11 4
def entryShift (w : Nat) : Nat := bits w 15 4
def entryOw (w : Nat) : Bool := bit w 21
def entryLimit (w : Nat) : Bool := bit w 22
def entryMoored (w : Nat) : Bool := bit w 23

/-- A sequence entry word the converter accepts (R94). -/
def entryOk (w : Nat) : Bool :=
  bits w 24 8 == 0 && !bit w 5 && decide (entryInput w < 24) && bits w 19 2 != 3 && decide (entryAvg w ≤ 8) && decide (entryShift w ≤ 8)

/-- One conversion (R93). -/
def convert (gain : Nat) (v : Rat) : Nat := min 4095 ((v * gain * 4096 / (12 / 10)).floor.toNat)

/-- The shifted sum of an entry's conversions (R95). -/
def entryResult (w : Nat) (volts : List Rat) : Nat := ((volts.take (2 ^ entryAvg w)).map (convert (entryGain w))).sum / 2 ^ entryShift w

/-- The value at the pin that a result gives (R95). -/
def entryVolts (w r : Nat) : Rat := (r : Rat) * 2 ^ entryShift w / 2 ^ entryAvg w * (12 / 10) / (4096 * entryGain w)

/-- The sampling time of Table 03-11, in ticks. -/
def sampTicks (k : Nat) : Nat := 40 * 2 ^ k

/-- Ticks of an entry (R95). -/
def entryTicks (w : Nat) : Nat := 2 ^ entryAvg w * (sampTicks (entryTSamp w) + 160) + 80

/-- The verdict of an open-wire test (R101). -/
def openWire (up down : Nat) : Bool :=
  decide (95 * 4096 ≤ up * 100) && decide (down * 100 ≤ 5 * 4096)

/-- An entry of the running sequence takes part in an open-wire test in this lap (R100). -/
def State.owDue (s : State) (w : Nat) : Bool :=
  entryOw w && s.objN 0x4100 8 != 0 && decide (s.objN 0x4100 8 ≤ s.adc.owLaps + 1)

/-- SEQ_LENGTH_WRITE (R96): the copy is made at the start of the next lap. -/
def State.applySeqLength (s : State) (n : Nat) : State :=
  { s with adc := { s.adc with seqLength := n, pendingLen := some n }, cfg := storePut (objKey 0x4100 1) (leBytes 1 n) s.cfg }

def execSeqLengthWrite (ch : Chan) (n : Nat) (s : State) : Host.Outcome State Fault Refusal :=
  .next (s.guardedWrite ch 0x4100 1 (leBytes 1 n) 0 (s.applySeqLength n))

/-- The running sequence at a lap's start: the pending entries are copied where `SeqLength` has been written (R96). -/
def State.lapEntries (s : State) : List Nat :=
  match s.adc.pendingLen with
  | some n => (List.range n).map fun e => s.objN 0x4101 (1 + e)
  | none => s.adc.running

/-- A lap may start: none runs, the period has passed, and the sequence is not idle (R97). -/
def State.lapDue (s : State) : Bool :=
  s.regionOn .sadc && !s.isShed 6 0xFF 0 && !s.adc.lapActive && !s.lapEntries.isEmpty && (s.objN 0x4100 2 == 0 || decide (s.adc.due ≤ s.now))

/-- The tick at which the lap after one that starts now is due (R97): the next point of the laps' grid, which begins here after a stop of the
sequence; 0 where laps run back to back. DESIGN CHOICE (log entry 142): a lap that starts late keeps the grid. -/
def State.nextLap (s : State) : Nat :=
  let per := s.objN 0x4100 2 * ticksPerUs
  if per = 0 then 0 else if s.adc.due = 0 then s.now + per else gridUp s.adc.due per (s.now + 1)

/-- The results at the start of a lap: an entry that now reads another input, or no longer makes a test, starts without that verdict. -/
def State.lapResults (s : State) : List AdcEntry :=
  (List.range 32).map fun e =>
    let x := nth s.adc.entries e {}
    let o := nth s.adc.running e 0
    let w := nth s.lapEntries e 0
    let same := entryInput o == entryInput w
    { x with openWire := x.openWire && same && entryOw w, below := x.below && same && entryLimit w, above := x.above && same && entryLimit w }

/-- The sequence stops with the converter's region or with its SHED: a lap is given up, and the lap grid ends (R28, R97, R102). -/
def State.stopAdc (s : State) : State := { s with adc := { s.adc with lapActive := false, pos := 0, due := 0, powered := false, slotDue := 0 } }

/-- ADC_LAP_START (R96, R97, R99): laps start every `SeqPeriod`, or back to back; a converter that a SHED has stopped has given its lap up. -/
def execAdcLapStart (s : State) : Host.Outcome State Fault Refusal :=
  .next (
    if s.isShed 6 0xFF 0 then s.stopAdc
    else if s.lapDue then
      { s with adc := { s.adc with running := s.lapEntries, pendingLen := none, lapActive := true, pos := 0, lapStart := s.now, powered := true
                                   due := s.nextLap, entries := s.lapResults } }
    else if s.adc.pendingLen = some 0 ∧ s.adc.lapActive = false then
      { s with adc := { s.adc with running := [], pendingLen := none, powered := false, due := 0 } }
    else s)

/-- The converter source is active: results are unchecked, and verdicts are suspended (R98). -/
def State.unchecked (s : State) : Bool := s.isActive (s.key 6 0xFF 0 1)

/-- The source of an ADC input after an entry's verdict: raised at once (R101, R102). -/
def State.ainVerdict (s : State) (ain : Nat) (kind : Nat) (bad : Bool) : State := if bad then s.raise (s.key 6 0xFF (0x20 + ain) kind) 0 else s

/-- The entries of the running sequence that use an ADC input, with their results. -/
def State.ainResults (s : State) (ain : Nat) : List (Nat × AdcEntry) :=
  ((List.range s.adc.running.length).filter fun e => entryInput (nth s.adc.running e 0) == ain).map fun e => (nth s.adc.running e 0, nth s.adc.entries e {})

/-- The sources of an ADC input at the end of a lap: one whose entries all lie inside their limits begins to clear, and so does one whose tests in
this lap have passed (Table 03-3); the open-wire source begins to clear at the lap's end, once no entry of the input shows an open wire (DESIGN
CHOICE, log entry 166). -/
def State.ainLapEnd (s : State) (ain : Nat) : State :=
  let l := s.ainResults ain
  let s := if l.any (fun p => entryLimit p.1) && l.all (fun p => !p.2.below && !p.2.above) then s.clearing (s.key 6 0xFF (0x20 + ain) 2) else s
  if l.any (fun p => s.owDue p.1) && l.all (fun p => !p.2.openWire) then s.clearing (s.key 6 0xFF (0x20 + ain) 1) else s

/-- An entry of the running sequence converts: result, limits and open-wire test (R95, R100 to R102). -/
def State.adcEntry (s : State) (volts : List Rat) (up down : Rat) : State :=
  let e := s.adc.pos
  let w := nth s.adc.running e 0
  let r := entryResult w volts
  let v := entryVolts w r
  let lo := entryLimit w && decide (v < s.objR 0x4104 (1 + e))
  let hi := entryLimit w && decide (s.objR 0x4105 (1 + e) < v)
  let test := s.owDue w
  let o := openWire (convert (entryGain w) up) (convert (entryGain w) down)
  let x := nth s.adc.entries e {}
  let frozen := s.unchecked
  if s.isShed 6 0xFF (0x20 + entryInput w) then { s with adc := { s.adc with pos := e + 1 } } else
  let s := { s with adc := { s.adc with
    pos := e + 1
    entries := put s.adc.entries e { raw := r, volts := v, below := if frozen then x.below else lo, above := if frozen then x.above else hi
                                     openWire := if test && !frozen then o else x.openWire } } }
  if frozen then s
  else
    let s := if entryLimit w then s.ainVerdict (entryInput w) 2 (lo || hi) else s
    if test then s.ainVerdict (entryInput w) 1 o else s

/-- ADC_LAP_END (R97 to R99): the check conversion of the 0.600 V reference, and the lap's figures. The converter powers down unless the next
lap is due already. -/
def execAdcLapEnd (refVolts : Rat) (s : State) : Host.Outcome State Fault Refusal :=
  .next (
    if s.isShed 6 0xFF 0 then s.stopAdc
    else if s.adc.lapActive && decide (s.adc.running.length ≤ s.adc.pos) then
      let v := (convert 1 refVolts : Rat) * (12 / 10) / 4096
      let bad := decide (v < 588 / 1000) || decide (612 / 1000 < v)
      let per := s.objN 0x4100 2 * ticksPerUs
      let s := if s.unchecked then s else forUnits (List.range 24) (fun t n => t.ainLapEnd n) s
      let ow := if s.objN 0x4100 8 = 0 then 0 else if s.objN 0x4100 8 ≤ s.adc.owLaps + 1 then 0 else s.adc.owLaps + 1
      let s1 := { s with adc := { s.adc with
        lapActive := false, lapTime := s.since s.adc.lapStart, lapCount := s.adc.lapCount + 1, owLaps := ow, convBad := bad
        overruns := s.adc.overruns + b2n (decide (per ≠ 0) && decide (s.adc.due ≠ 0) && decide (s.adc.due < s.now))
        powered := !s.lapEntries.isEmpty && (per == 0 || decide (s.adc.due ≤ s.now)) } }
      s1.follow (s1.key 6 0xFF 0 1) bad 0
    else s)

/-- An entry has ended while a temperature slot that it has delayed waits: the converter powers down until the slot (R98, R99). -/
def State.slotWaits (s : State) : State := { s with adc := { s.adc with powered := s.adc.powered && decide (s.now < s.adc.slotDue) } }

/-- A temperature slot begins (R98): the next is due 1 ms later on the slots' grid, and a lap goes on after it. -/
def State.slotBegins (s : State) : State :=
  { s with adc := { s.adc with slotDue := (if s.adc.slotDue = 0 then s.now else s.adc.slotDue) + ticksPerMs, powered := s.adc.powered || s.adc.lapActive } }

/-- A `SeqPeriod` write. DESIGN CHOICE (log entry 142): the lap grid begins anew with the next lap, which is due at once. -/
def State.applySeqPeriod (s : State) : State := { s with adc := { s.adc with due := 0 } }

end Sys2Proof.Machine
end

