-- ==== Sys2Proof/Machine/Loops.lean ====
section
/-! DEFINITION. Loop engines and the tide table (chapter 04). -/
namespace Sys2Proof.Machine

/-! Arithmetic of an instance (R107 to R112). -/

/-- What a run computes: the output, the new states, and whether a clamp changed its operand. -/
structure RunResult where
  v : F32 := 0
  states : List F32 := []
  clamped : Bool := false
  deriving DecidableEq, Repr

/-- A clamp, and whether it changed its operand (R109). -/
def clampF (v lo hi : F32) : F32 × Bool := let v := F32.ftz v; let c := F32.clamp v lo hi; (c, !F32.isNaN v && F32.toRat c != F32.toRat v || F32.isInf v && c != v)

/-- The sections of an instance, first to last: input x, states s1 and s2 of each (R107). -/
def runSections : List Slot → List F32 → F32 → List F32 → Bool → F32 × List F32 × Bool
  | [], _, x, acc, c => (x, acc, c)
  | sl :: sls, st, x, acc, c =>
    let s1 := nth st 0 0
    let s2 := nth st 1 0
    let y0 := F32.fma sl.b0 x s1
    let y := clampF y0 sl.lo sl.hi
    let p := F32.mul sl.b2 x
    let t2 := F32.fma (F32.neg sl.a2) y.1 p
    let q := F32.fma (F32.neg sl.a1) y.1 s2
    let t1 := F32.fma sl.b1 x q
    let integ := sl.flags.getLsbD 0
    let u1 := if integ then clampF t1 sl.lo sl.hi else (t1, false)
    let u2 := if integ then clampF t2 sl.lo sl.hi else (t2, false)
    runSections sls (st.drop 2) y.1 (acc ++ [u1.1, u2.1]) (c || y.2 || u1.2 || u2.2)

/-- A run: r, f, d, the gains and limits, the sections and the states before it (R107, R111). -/
def computeRun (r f d gIn gOut lo hi : F32) (sls : List Slot) (st : List F32) : RunResult :=
  let e := F32.fma (F32.neg F32.one) f r
  let x := F32.mul gIn e
  let k := runSections sls st x [] false
  let w := F32.fma F32.one k.1 d
  let v := clampF (F32.mul gOut w) lo hi
  { v := v.1, states := k.2.1, clamped := k.2.2 || v.2 }

/-- The result and every new state are finite (R112). -/
def RunResult.finite (r : RunResult) : Bool := F32.isFinite r.v && r.states.all F32.isFinite

/-! Sources (R119, Table 04-8). -/

/-- The stage that times an instance: its own, or `ref_stage` (R119). -/
def State.instStage (s : State) (r : LoopRec) : Nat := if r.noStage then s.variant.refStage else r.stage

/-- The prediction that an observer substitutes for an input, if it is on and a substitution is in force (R114, R195). -/
def State.substitute (s : State) (md : Nat) : Option Rat :=
  (List.range 8).findSome? fun st =>
    ((List.range (s.stageCount st)).find? fun j => s.stageUsed st && s.objN (0x3D00 + st) 2 == 1 && s.objN (0x3800 + s.stageFirst st + j) 14 == md
        && (nth (s.observer st).ph j {}).subst).map fun j => (nth (s.observer st).ph j {}).pred

/-- A time on the 25 ns grid of a derated variant (R122). DESIGN CHOICE (log entry 118): the grid's instants are counted from the common start pulse,
the origin of the carrier periods and offsets that R121 makes multiples of it. -/
def State.onGrid (s : State) (t : Nat) : Nat :=
  if s.variant.derated then (let o := s.tide.startPulse; o + (t - o + 9) / 10 * 10) else t

/-- The latest sample of an input that is available to ENG (R122): value, valid flag and availability. -/
def State.sampleSeen (s : State) (md : Nat) : F32 × Bool × Nat :=
  let m := s.modIn md
  if s.onGrid m.availAt ≤ s.now then (m.y, m.valid, s.onGrid m.availAt) else (m.yOld, m.validOld, s.onGrid m.availOld)

/-- Ticks in which a committed output reaches the exchange (R128, R130): three engine cycles. -/
def State.exchangeTicks (s : State) : Nat := if s.variant.derated then 4 else 3

/-- An instance's output as its consumers read it through the exchange (R128). -/
def State.exchanged (s : State) (lp : Nat) : F32 :=
  let i := s.inst lp
  if i.outAt + s.exchangeTicks ≤ s.now then i.out else i.outOld

/-- The value of a source code of `ref_src` or `fb_src`. -/
def State.sourceVal (s : State) (r : LoopRec) (code : Nat) : F32 :=
  if code < 0x30 then (s.sampleSeen code).1
  else if 0x40 ≤ code ∧ code < 0x80 then s.exchanged (code - 0x40)
  else if 0x80 ≤ code ∧ code < 0x90 then (s.pg (code - 0x80)).pOut
  else if code = 0x90 then
    F32.ofRat (s.stageSetpoint (s.instStage r) * (if r.outKind = 1 then 1 + nth (s.stage (s.instStage r)).trims r.outDst 0 else 1))
  else 0

/-- The value of a code of `ff_src`. -/
def State.ffVal (s : State) (code : Nat) : F32 :=
  if 1 ≤ code ∧ code ≤ 8 then F32.ofRat (s.rc (code - 1)).u
  else if 0x10 ≤ code ∧ code < 0x20 then (s.pg (code - 0x10)).ffOut
  else 0

/-- A source is a modulator input whose sample is invalid (R114). -/
def State.sourceBad (s : State) (code : Nat) : Bool := decide (code < 0x30) && !(s.sampleSeen code).2.1

/-- The slots of an instance that uses set c (R120). -/
def State.slotsOf (s : State) (r : LoopRec) (c : Nat) : List Slot :=
  (List.range r.sections).map fun k =>
    match s.bank.slots.find? (fun e => e.1 == r.engine && e.2.1 == r.coefBase + c * r.sections + k) with
    | some e => e.2.2
    | none => {}

/-- 0x39nn:09 and :0A: as written, else of the loop section (R117). -/
def State.outLow (s : State) (lp : Nat) : F32 :=
  match storeGet (objKey (0x3900 + lp) 9) s.cfg with
  | some v => BitVec.ofNat 32 (leNat v)
  | none => (s.loopParam lp).outLo
def State.outHigh (s : State) (lp : Nat) : F32 :=
  match storeGet (objKey (0x3900 + lp) 10) s.cfg with
  | some v => BitVec.ofNat 32 (leNat v)
  | none => (s.loopParam lp).outHi

/-! Timing (R122 to R127). -/

/-- An instance is released in its periods: it is in the table, ENG is ON, and it is active (R131). -/
def State.instRuns (s : State) (lp : Nat) : Bool := s.regionOn .eng && (s.inst lp).active && (s.loopRec lp).isSome

/-- Engine cycles since the boundary of the instance's stage, at 400 MHz or 360 MHz (R103). -/
def State.cyclesSince (s : State) (st : Nat) : Nat :=
  s.tickCycles (s.since (s.stage st).boundaryTick)

/-- The input whose sample decides t_avail, if there is one (R123). -/
def LoopRec.deciding (r : LoopRec) : Option Nat :=
  if r.fbSrc < 0x30 then some r.fbSrc else if r.refSrc < 0x30 then some r.refSrc else none

/-- Engine cycles of a run (R115). -/
def LoopRec.cycles (r : LoopRec) : Nat := 21 + 5 * r.sections

/-- The key of an instance's sources. -/
def State.loopKey (s : State) (r : LoopRec) (kind : Nat) : Key := s.key 3 (if r.noStage then 8 else r.stage) r.lp kind

/-- Ticks of a number of engine cycles, up to the edge that ends them (R103). -/
def State.cycleTicks (s : State) (c : Nat) : Nat := if s.variant.derated then (c * 10 + 8) / 9 else c

/-- The 64 registers of an engine after the values of a run (Table 04-1, log entry 117). -/
def regFile (l : List F32) : List F32 := (List.range 64).map (Config.register l)

/-- A run starts: it reads its sources and computes (R107, R114). A run held for an invalid sample takes no cycles and commits the previous
output. DESIGN CHOICE (log entry 119): under `inv_policy` 1 a substitution stands for the sample of `fb_src` alone; an invalid sample of `ref_src`
holds the run. -/
def State.startRun (s : State) (r : LoopRec) : State :=
  let lp := r.lp
  let i := s.inst lp
  let sub := if r.invPolicy = 1 ∧ r.fbSrc < 0x30 then s.substitute r.fbSrc else none
  let fbBad := s.sourceBad r.fbSrc && sub.isNone
  if r.invPolicy ≠ 2 ∧ (fbBad = true ∨ s.sourceBad r.refSrc = true) then
    (s.setInst lp { i with run := .ended, heldRun := true, heldInvalid := true, substituted := false, nan := false, saturated := false
                           invalidCount := i.invalidCount + 1, bufOut := i.out, bufStates := i.states, startedAt := s.now }).raise (s.loopKey r 4) 0
  else
    let rv := s.sourceVal r r.refSrc
    let fv := match sub with | some e => F32.ofRat e | none => s.sourceVal r r.fbSrc
    let dv := s.ffVal r.ffSrc
    let p := s.loopParam lp
    let res := computeRun rv fv dv p.gIn p.gOut i.lo i.hi (s.slotsOf r i.runSet) i.states
    let ok := res.finite
    let w := { i with
      run := .running, runRec := r, heldRun := false, heldInvalid := false, aborted := false, substituted := sub.isSome, ref := rv, fb := fv, ff := dv
      startedAt := s.now, lastStart := s.cyclesSince (s.instStage r)
      tAvail := r.deciding.map fun m => (s.sampleSeen m).2.2
      bufOut := if ok then res.v else i.out, bufStates := if ok then res.states else i.states, bufNan := !ok, bufSat := res.clamped }
    let s := (s.setInst lp w).setEngine r.engine { s.engine r.engine with current := some lp, regs := regFile (rv :: fv :: dv :: res.v :: res.states) }
    s.clearing (s.loopKey r 4)

/-- The ready instances of an engine. -/
def State.readyOn (s : State) (e : Nat) : List LoopRec :=
  s.variant.recs.filter fun r => r.engine == e && (s.inst r.lp).run == .ready

/-- The candidate with the earliest commit; the lowest number on a tie (R125). -/
def State.earliest (s : State) : List LoopRec → Option LoopRec
  | [] => none
  | r :: rs =>
    match s.earliest rs with
    | none => some r
    | some q => if (s.inst r.lp).commitAt ≤ (s.inst q.lp).commitAt then some r else some q

/-- An idle engine starts its next candidate. -/
def State.dispatchOne (s : State) (e : Nat) : State :=
  if (s.engine e).current.isSome then s
  else match s.earliest (s.readyOn e) with
    | none => s
    | some r => s.startRun r

/-- Whenever an engine is idle it starts its next candidate, and goes on where that one is held and takes no cycles (R125). In fixed-latency mode
a release that finds its engine busy waits for it in the same way (DESIGN CHOICE, log entry 120: R124 leaves such a table out). -/
def State.dispatch (s : State) (e : Nat) : State := forUnits (List.range (s.readyOn e).length) (fun t _ => t.dispatchOne e) s

/-- Every engine that a stop has left idle starts its next candidate. -/
def State.dispatchAll (s : State) : State := forUnits (List.range 8) (fun t e => t.dispatch e) s

/-- The producer of an instance: the one that `ref_src` names (R130). -/
def State.producer (s : State) (r : LoopRec) : Option LoopRec :=
  if 0x40 ≤ r.refSrc ∧ r.refSrc < 0x80 then s.loopRec (r.refSrc - 0x40) else none

/-- The commit tick of the producer in its present period (R130). -/
def State.producerCommit (s : State) (r : LoopRec) : Nat :=
  match s.producer r with
  | none => s.now
  | some q => (s.stage (s.instStage q)).boundaryTick + q.commit

/-- The tick at which the producer of an instance has its output of this period at the exchange port, or at which its commit time passes; an instance
that waits goes on waiting for the commit of the period of its release (R130). -/
def State.waitEnd (s : State) (r : LoopRec) : Nat :=
  match s.producer r with
  | none => s.now
  | some q =>
    let p := s.inst q.lp
    let waits := (s.inst r.lp).run == .waiting
    let c := if waits then (s.inst r.lp).waitFor else s.producerCommit r
    if (if waits then p.settledAt == c else p.producerDone) then (if p.miss then c else c + s.exchangeTicks) else c + 1

/-- The producer's output of this period has reached the exchange port, or its commit time has passed (R130). -/
def State.producerReady (s : State) (r : LoopRec) : Bool := decide (s.waitEnd r ≤ s.now)

/-- Tick of the commit that settles a release made now (R124, R126). -/
def State.commitTick (s : State) (r : LoopRec) : Nat :=
  let st := s.instStage r
  (s.stage st).boundaryTick + r.commit + (if r.commit ≤ s.cycleTicks r.release then s.carrierPeriod st else 0)

/-- The release cycle of the present period is now, and the release has not been made (R124, R126). -/
def State.releaseDue (s : State) (r : LoopRec) : Bool :=
  !(s.inst r.lp).released && decide ((s.stage (s.instStage r)).boundaryTick + s.cycleTicks r.release = s.now)

/-- An instance released: ready, or waiting for its producer; its run uses the set in force now (R125, R130, R132). -/
def State.toReady (s : State) (r : LoopRec) : State :=
  let i := s.inst r.lp
  s.setInst r.lp { i with released := true, releasedAt := s.now, commitAt := s.commitTick r, depLate := false, aborted := false, runSet := i.set, runBand := i.band
                          waitFor := s.producerCommit r, gapWrites := [], gapDeltas := [], run := if r.depWait && !s.producerReady r then .waiting else .ready }

/-- 0x3A1k:05 follows the ready instances of an engine in deadline mode (Table 04-13). -/
def State.noteQueue (s : State) (e : Nat) : State :=
  if s.variant.mode = 1 then s.setEngine e { s.engine e with queuePeak := max (s.engine e).queuePeak (s.readyOn e).length } else s

/-- A wait for a producer that has delayed the start past the release (R130). -/
def State.endWait (s : State) (r : LoopRec) : State :=
  let late := decide ((s.inst r.lp).releasedAt < s.now)
  let e := s.engine r.engine
  (s.setInst r.lp { s.inst r.lp with run := .ready, depLate := late }).setEngine r.engine { e with waits := e.waits + b2n late }

/-- DEP_WAIT_END (R130): the producer's output reaches the exchange port, or its commit time passes. -/
def execDepWaitEnd (lp : Nat) (s : State) : Host.Outcome State Fault Refusal :=
  .next (match s.loopRec lp with
    | none => s
    | some r => if (s.inst lp).run == .waiting && decide (s.waitEnd r = s.now) then ((s.endWait r).noteQueue r.engine).dispatch r.engine else s)

/-- A wrong word that a run may read: ENG's SRAM instance (Table 15-5), the coefficient slot, and whether it is uncorrectable. -/
abbrev WordErr := Nat × Nat × Bool

/-- The word lies in a memory of the instance's engine, and in a slot of the set that its run uses (R105, R132). -/
def State.errFits (s : State) (r : LoopRec) (e : WordErr) : Bool :=
  decide (e.1 < 0x18) && e.1 % 8 == r.engine && (e.1 / 8 != 1 || r.slotIn (s.inst r.lp).runSet e.2.1)

/-- A wrong word that a run has read is corrected and counted, or is reported as the memory's source and, in a slot, as the slot's (R105, R138, R447). -/
def State.wordError (s : State) (r : LoopRec) (e : WordErr) : State :=
  if !e.2.2 then s.countSram 2 e.1
  else
    let s := s.raise (s.key 3 0xFE e.1 2) 0
    if e.1 / 8 = 1 then s.raise (s.key 3 (0x40 + r.engine) e.2.1 0) 0 else s

/-- A run of an instance aborts (R105): it has the effect of a miss at its commit, and its engine is free. -/
def State.abortRun (s : State) (lp : Nat) : State :=
  if (s.inst lp).run == .running then (s.setInst lp { s.inst lp with run := .idle, aborted := true }).freeEngine lp else s

/-- A run's C engine cycles end now (R115). -/
def State.runOver (s : State) (r : LoopRec) : Bool :=
  decide (s.cycleStart (s.cycleAt (s.inst r.lp).startedAt + (s.inst r.lp).runRec.cycles) = s.now)

/-- A run has ended: its result waits in the commit buffer; NaN and clamps are judged (R109, R112, R115). -/
def State.closeRun (s : State) (r : LoopRec) : State :=
  let i := s.inst r.lp
  let s := s.setInst r.lp { i with run := .ended, nan := i.bufNan, nanCount := i.nanCount + b2n i.bufNan, saturated := i.bufSat, satCount := i.satCount + b2n i.bufSat }
  if i.bufNan then s.raise (s.loopKey r 1) 0 else s.clearing (s.loopKey r 1)

/-- The end of a run with the wrong words it has read: the engine is free, an uncorrectable one has aborted it, and they are reported. -/
def State.endRun (s : State) (r : LoopRec) (errs : List WordErr) : State :=
  let q := (s.inst r.lp).runRec
  let l := errs.filter (s.errFits q)
  let e := s.engine r.engine
  let s := s.setEngine r.engine { e with current := none, busy := e.busy + min q.cycles (s.ranFor r.lp) }
  let s := if l.any (·.2.2) then s.abortRun r.lp else s.closeRun r
  (l.foldl (fun t e => t.wordError r e) s).dispatch r.engine

/-- The wrong words that a run has read as it started: an uncorrectable one aborts it (R105). -/
def State.startErrors (s : State) (r : LoopRec) (errs : List WordErr) : State :=
  let l := errs.filter (s.errFits r)
  if (s.inst r.lp).run == .running && (s.inst r.lp).startedAt == s.now then
    let s := if l.any (·.2.2) then s.abortRun r.lp else s
    (l.foldl (fun t e => t.wordError r e) s).dispatch r.engine
  else s

/-- INSTANCE_RELEASE (R105, R124, R125): an instance reaches its release; it starts, waits for its producer, or becomes ready. `errs` are the wrong
words that a run which starts here reads at once. -/
def execInstanceRelease (lp : Nat) (errs : List (Nat × Nat × Bool)) (s : State) : Host.Outcome State Fault Refusal :=
  .next (match s.loopRec lp with
    | none => s
    | some r =>
      if s.instRuns lp && (s.inst lp).run == .idle && s.releaseDue r then (((s.toReady r).noteQueue r.engine).dispatch r.engine).startErrors r errs
      else s)

/-- INSTANCE_RUN_END (R105, R112, R115): an instance's run of C engine cycles ends. -/
def execInstanceRunEnd (lp : Nat) (errs : List (Nat × Nat × Bool)) (s : State) : Host.Outcome State Fault Refusal :=
  .next (match s.loopRec lp with
    | none => s
    | some r => if (s.inst lp).run == .running && s.runOver r && decide (s.now ≤ (s.inst lp).commitAt) then s.endRun r errs else s)

/-- Writes and corrections made to a list of states. -/
def writeStates (st : List F32) (w : List (Nat × BitVec 32)) (d : List (Nat × Rat)) : List F32 :=
  let st := w.foldl (fun st w => put st w.1 w.2) st
  d.foldl (fun st w => put st w.1 (F32.ofRat (F32.toRat (nth st w.1 0) + w.2))) st

/-- External state writes that waited for the commit (R137, R352). -/
def Instance.applyWrites (i : Instance) : Instance :=
  { i with states := writeStates i.states i.pendingWrites i.pendingDeltas, gapWrites := i.pendingWrites, gapDeltas := i.pendingDeltas
           pendingWrites := [], pendingDeltas := [] }

/-- States written from outside ENG (R137): at once in the gap between commit and release, else at the next commit. -/
def Instance.write (i : Instance) (st : List F32) : Instance :=
  let w := (List.range st.length).map fun k => (k, nth st k 0)
  if i.run == .idle && !i.aborted then { i with states := st, gapWrites := i.gapWrites ++ w } else { i with pendingWrites := i.pendingWrites ++ w }

/-- A correction of a state from outside ENG: at once in the gap between commit and release, else at the next commit (R137). A run that has been
aborted has its commit still to come. -/
def Instance.correct (i : Instance) (idx : Nat) (d : Rat) : Instance :=
  if i.run == .idle && !i.aborted then { i with states := writeStates i.states [] [(idx, d)], gapDeltas := i.gapDeltas ++ [(idx, d)] }
  else { i with pendingDeltas := i.pendingDeltas ++ [(idx, d)] }

/-- The committed output reaches its destination (R128). -/
def State.deliver (s : State) (r : LoopRec) (v : F32) : State :=
  if r.outKind = 1 then s.commitDuty r.outDst v
  else if r.outKind = 2 then forUnits (s.stagePhases r.stage) (fun t p => t.commitDuty p v) s
  else s

/-- The commit of an instance: its run has ended, or it has missed (R128, R129). DESIGN CHOICE (log entry 121): a run held under R114 has ended on
time. -/
def State.commitInst (s : State) (r : LoopRec) : State :=
  let i := s.inst r.lp
  if i.run == .ended then
    let late := match i.tAvail with | some t => ((s.now - t : Nat) : Rat) | none => 0
    let s := s.setInst r.lp { i with run := .idle, out := i.bufOut, outOld := i.out, outAt := s.now, states := i.bufStates, miss := false, missRun := 0
                                     producerDone := true, settledAt := s.now, lastLatency := if i.heldRun then i.lastLatency else late }.applyWrites
    ((s.deliver r i.bufOut).clearing (s.loopKey r 2)).clearing (s.loopKey r 3)
  else
    let run := i.missRun + 1
    let s := (s.setInst r.lp { i with run := .idle, aborted := false, miss := true, missRun := run, missCount := i.missCount + 1, producerDone := true, settledAt := s.now }.applyWrites).freeEngine r.lp
    let s := { s with tide := { s.tide with totalMisses := s.tide.totalMisses + 1 } }
    let s := (s.deliver r i.out).raise (s.loopKey r 2) 0
    let lim := s.objN (0x3900 + r.lp) 0x11
    let s := if lim ≠ 0 ∧ run = lim then s.raise (s.loopKey r 3) 0 else s
    s.dispatch r.engine

/-- The instance's commit tick is now, and a release or an aborted run waits for it (R124, R129). -/
def State.commitDue (s : State) (lp : Nat) : Bool :=
  s.instRuns lp && ((s.inst lp).run != .idle || (s.inst lp).aborted) && decide ((s.inst lp).commitAt = s.now)

/-- INSTANCE_COMMIT (R128, R129): the instance reaches its commit. -/
def execInstanceCommit (lp : Nat) (s : State) : Host.Outcome State Fault Refusal :=
  .next (match s.loopRec lp with
    | none => s
    | some r => if s.commitDue lp then s.commitInst r else s)

/-! Boundaries (R131 to R137). -/

/-- The variant of an ageing step in a bank: the highest-numbered step at or below it (R118). -/
def variantFor (vs : List Variant) (m : Nat) : Nat :=
  (List.range vs.length).foldl (fun best k =>
    let v := nth vs k {}
    if v.ageing ≤ m ∧ ((nth vs best {}).ageing ≤ v.ageing ∨ m < (nth vs best {}).ageing) then k else best) 0

/-- The band that selects an instance's set: its stage's, or the package's (R132). -/
def State.instBand (s : State) (r : LoopRec) : Nat := if r.noStage then s.thermal.pkgBand else s.stageBandNow r.stage

/-- Limits and set of an instance latched at a boundary of the stage that times it, in whose new period it may be released (R117, R126, R132). -/
def State.latchInst (s : State) (r : LoopRec) : State :=
  let i := s.inst r.lp
  s.setInst r.lp { i with lo := s.outLow r.lp, hi := s.outHigh r.lp, set := r.setOf (s.instBand r), band := s.instBand r
                          producerDone := false, released := false, active := i.active || (r.noStage && !i.shed) }

/-- The set and limits of a new record, taken at the boundary of a switch (R136 step 3): the set of the band in force, and that of the band of its
release for an instance that is ready; a run that has begun keeps its own. A written limit and a new band wait for the boundary of the instance's own
stage (R117, R132). -/
def State.takeRecord (s : State) (r : LoopRec) : State :=
  let i := s.inst r.lp
  let lim := fun (sub : Nat) (old new : F32) => if (storeGet (objKey (0x3900 + r.lp) sub) s.cfg).isSome then old else new
  s.setInst r.lp { i with lo := lim 9 i.lo (s.loopParam r.lp).outLo, hi := lim 10 i.hi (s.loopParam r.lp).outHi, set := r.setOf i.band
                          runSet := if i.run == .running then i.runSet else r.setOf i.runBand }

/-- Initial states by a bank swap: what the present gap has written follows it, and a run in the commit buffer writes no older ones (R135 to R137). -/
def Instance.initialise (i : Instance) (init : List F32) : Instance :=
  { i with states := writeStates init i.gapWrites i.gapDeltas, bufStates := init }

/-- The slot sources whose slots a reload or a swap has rewritten begin to clear (Table 04-10). -/
def State.clearSlots (s : State) : State :=
  (s.faults.active.filter fun a => a.key.region == 3 && decide (0x40 ≤ a.key.cluster) && decide (a.key.cluster < 0x48)).foldl (fun t a => t.clearing a.key) s

/-- An instance of the new table runs at once: with no stage, or with a stage that has enabled its outputs (R131). -/
def State.runsAtSwap (s : State) (r : LoopRec) : Bool := r.noStage || (s.stageOn r.stage && decide (4 ≤ (s.stage r.stage).startStep))

/-- One instance of the new table at a swap: its states kept or initialised; a new one starts from its initial output (R135), and one that the table
moves to another stage, or to or from none, runs as that has it (R131). DESIGN CHOICE (log entry 167): keep with a changed n initialises. -/
def State.swapInst (s : State) (old : List LoopRec) (r : LoopRec) : State :=
  let p := s.loopParam r.lp
  let i := s.inst r.lp
  match old.find? fun o => o.lp == r.lp with
  | some o =>
    let s := if p.keep && o.sections == r.sections then s else s.setInst r.lp (i.initialise p.init)
    if o.noStage == r.noStage && (r.noStage || o.stage == r.stage) then s
    else if s.runsAtSwap r then s.setInst r.lp { s.inst r.lp with active := true, band := s.instBand r }
    else s.stopInst r.lp
  | none => s.setInst r.lp { i with states := p.init, out := p.initOut, outOld := p.initOut, run := .idle, released := false, gapWrites := [], gapDeltas := []
                                    band := s.instBand r, lo := s.outLow r.lp, hi := s.outHigh r.lp
                                    active := s.runsAtSwap r }

/-- An armed bank swap takes effect (R135). -/
def State.swapBanks (s : State) : State :=
  let old := s.variant.recs
  let s1 := { s with tide := { s.tide with active := 1 - s.tide.active, swap := 3, swapCount := s.tide.swapCount + 1
                                           variant := variantFor (nth s.tide.banks (1 - s.tide.active) {}).variants s.tide.ageing } }
  let s2 := s1.variant.recs.foldl (fun (t : State) r => t.swapInst old r) s1
  (old.foldl (fun (t : State) o => if (t.loopRec o.lp).isNone then t.stopInst o.lp else t) s2).clearSlots

/-- Runs in progress when ENG's clock changes: the cycles already made count at the new clock (R134). -/
def State.retimeRuns (s : State) (was : Bool) : State :=
  if was == s.variant.derated then s
  else forUnits (List.range 64) (fun t l =>
    let i := t.inst l
    if i.run == .running then
      let o := t.tide.startPulse
      t.setInst l { i with startedAt := t.now - (if was then (t.now - o) * 9 / 10 - (i.startedAt - o) * 9 / 10 else (t.now - i.startedAt) * 10 / 9) }
    else t) s

/-- What a boundary of R134 applies, in the order of R136: the swap, the variant, then the sets of the new records. -/
def State.switchTable (s : State) : State :=
  let was := s.variant.derated
  let swap := s.tide.swap == 2
  let s := if swap then s.swapBanks else s
  let step := match s.tide.ageingPending with | some a => a | none => s.tide.ageing
  let v := variantFor s.bank.variants step
  let changed := v != s.tide.variant
  let s := { s with tide := { s.tide with ageing := step, ageingPending := none, variant := v, swapCount := s.tide.swapCount + b2n changed } }
  let s := if swap || changed then s.variant.recs.foldl (fun (t : State) r => t.takeRecord r) s else s
  s.retimeRuns was

/-- The integrator states of the running stages' instances, after their last commit: by instance and state (R352). -/
def State.integStates (s : State) : List AlignItem :=
  s.variant.recs.flatMap fun r =>
    if !r.noStage && (s.stage r.stage).state == .running then
      (List.range r.sections).flatMap fun k =>
        let sl := nth (s.slotsOf r (s.inst r.lp).set) k {}
        if sl.flags.getLsbD 0 then
          [{ lp := r.lp, idx := 2 * k, val := nth (s.inst r.lp).states (2 * k) 0 },
           { lp := r.lp, idx := 2 * k + 1, val := nth (s.inst r.lp).states (2 * k + 1) 0 }]
        else []
    else []

/-- The period index advances at a boundary of `ref_stage`, and the integrator states that follow the commits of the period that ends are kept, for the
last 16 periods (R343, R352). -/
def State.nextPeriod (s : State) : State :=
  let k := s.pair.periodIndex
  { s with pair := { s.pair with periodIndex := k + 1, ownStates := ((k, s.integStates) :: s.pair.ownStates).take 16 } }

/-- Scaling of inputs whose group is anchored to a stage (R91). -/
def State.latchAnchored (s : State) (st : Nat) : State :=
  forUnits ((List.range 48).filter fun m => s.objN (0x4030 + m / 12) 3 == st) (fun t m => t.latchScale m) s

/-- The stage that times repetitive controller n (R183). -/
def State.rcStage (s : State) (n : Nat) : Nat :=
  let b := s.objN (0x3C00 + n) 0x17
  if b = 0xFF then s.variant.refStage else b

/-- Outputs of the repetitive controllers that a stage times (R185). -/
def State.latchRcs (s : State) (st : Nat) : State :=
  forUnits ((List.range 8).filter fun n => s.rcStage n == st) (fun t n => t.setRc n { t.rc n with u := (t.rc n).uNext }) s

/-- A carrier boundary of a stage: setpoints, limits, bands, dead times, bindings and scaling come into force; starts, stops and
re-interleaving proceed (R24, R142). -/
def State.boundary (s : State) (st : Nat) : State :=
  let isRef := st == s.variant.refStage
  let s := if isRef && s.variant.mode == 1 then s.switchTable else s
  let s := s.latchStage st
  let s := if (s.stage st).stopPending then s.stopStage .disabled st else s
  let s := if s.follows then s else s.startBoundary st
  let s := if s.inMode .rise && s.follows || s.tracks then s else s.relatch st
  let s := (s.variant.recs.filter fun r => s.instStage r == st).foldl (fun t r => t.latchInst r) s
  let s := (s.latchAnchored st).latchRcs st
  if isRef then s.nextPeriod else s

/-- Every instance of both tables is on the same engine in both (R135). -/
def sameEngines (a b : Variant) : Bool :=
  a.recs.all fun r => match b.recs.find? fun q => q.lp == r.lp with | some q => q.engine == r.engine | none => true

/-- IDLE_BANKS_LOADED (R135): the swap is armed, or refused. -/
def execIdleBanksLoaded (s : State) : Host.Outcome State Fault Refusal :=
  .next (
    if s.tide.swap = 1 then
      let nb := nth s.tide.banks (1 - s.tide.active) {}
      if nb.valid && sameEngines s.variant (nth nb.variants (variantFor nb.variants s.tide.ageing) {}) then
        { s with tide := { s.tide with swap := 2 }, img := { s.img with hitState := if s.img.hitState = 3 then 4 else s.img.hitState } }
      else { s with tide := { s.tide with swap := 4 } }
    else s)

/-! Start of ENG (R42, R123, R131, R482). -/

/-- The check of R123 on one release of a fixed-latency table, `b` ticks after the start pulse the boundary of its period: the latest sample available at
the release, which is of the frames that the anchor of the input's group aligns (R84), and L engine cycles from it to the commit. -/
def State.latencyAt (s : State) (r : LoopRec) (md : Nat) (b : Int) : Bool :=
  let an := s.objN (0x4030 + md / 12) 3
  let per := 2 * s.divider md
  let F : Int := per * s.osr md
  let off : Int := s.objN (0x3000 + 256 * an) 6 + per * s.objN (0x4000 + md) 9 + 24
  let grid := fun (t : Int) => if s.variant.derated then -((-t) / 10) * 10 else t
  let rel := b + (if s.variant.derated then r.release * 10 / 9 else r.release : Nat)
  let t := grid (off + F * ((rel - off) / F))
  let t := if rel < t then grid (off + F * ((rel - off) / F - 1)) else t
  let L : Int := if s.variant.derated then s.variant.latency * 10 / 9 else s.variant.latency
  t + L == b + r.commit + (if r.commit ≤ s.cycleTicks r.release then s.carrierPeriod (s.instStage r) else 0 : Nat)

/-- The check of R123 on one instance, at every release of a frame; one release stands for all where the period holds whole frames of the input. -/
def State.latencyOk (s : State) (r : LoopRec) : Bool :=
  match r.deciding with
  | none => true
  | some md =>
    let st := s.instStage r
    let P := s.carrierPeriod st
    let n := if P % (2 * s.divider md * s.osr md) = 0 then 1 else s.variant.frameLen / P
    (List.range n).all fun k => s.latencyAt r md ((s.objN (0x3000 + 256 * st) 6 + (k + 1) * P : Nat) : Int)

/-- The sequencer's check passes (R123). -/
def State.tideCheck (s : State) : Bool := s.variant.mode == 1 || s.variant.recs.all fun r => s.latencyOk r

/-- The carrier boundary of a stage is now: whole carrier periods after its phase offset from the common start pulse (R142). -/
def State.onBoundary (s : State) (st : Nat) : Bool :=
  let b0 := s.tide.startPulse + s.objN (0x3000 + 256 * st) 6
  decide (b0 ≤ s.now) && (s.now - b0) % s.carrierPeriod st == 0

/-- A generator at rest at the initial position the image gives (R176). Its counters and a target that waits stay. DESIGN CHOICE (log entry 169): a target
taken and not completed is given up, neither completed nor superseded. -/
def State.restPg (s : State) (n : Nat) : State :=
  let x := s.objR (0x3B00 + n) 3
  s.setPg n { s.pg n with p := x, v := 0, a := 0, target := x, moving := false, plan := [], brake := 0, pOut := F32.ofRat x, ffOut := 0, lastUpdate := 0
                          vLim := s.objR (0x3B00 + n) 6, aLim := s.objR (0x3B00 + n) 7, jLim := s.objR (0x3B00 + n) 8 }

/-- A repetitive controller as a start of ENG leaves it: no table, no period, no lock (R42); the count and the host's last reference are kept. -/
def Rc.reloaded (c : Rc) : Rc := { resamples := c.resamples, refAt := c.refAt }

/-- An observer as a start of ENG leaves it (R42): its counts are kept. -/
def Observer.reloaded (o : Observer) : Observer :=
  { substCount := o.substCount, openCount := o.openCount, sensorCount := o.sensorCount, lastClass := o.lastClass, lastDrop := o.lastDrop
    lastRun := o.lastRun, winFrom := o.winFrom }

/-- The engines reloaded from the image in force: bank 0, states, outputs and limits at their initial values, the generators at rest (R42, R131,
R176, R482). -/
def State.reloadEngines (s : State) : State :=
  let b := match s.image with | some sl => { sl.content.bank with valid := true } | none => {}
  let s := { s with tide := { s.tide with active := 0, banks := [b, {}], swap := 0, ageing := s.thermal.step, ageingPending := none
                                          variant := variantFor b.variants s.thermal.step, checkFailed := false } }
  let s := forUnits (List.range 64) (fun t l =>
    let p := t.loopParam l
    let i := t.inst l
    t.setInst l { i with active := false, run := .idle, shed := false, states := p.init, out := p.initOut, outOld := p.initOut, lo := t.outLow l, hi := t.outHigh l
                         set := match t.loopRec l with | some r => r.setOf (t.instBand r) | none => 0
                         band := match t.loopRec l with | some r => t.instBand r | none => 0
                         bufNan := false, bufSat := false, released := false, gapWrites := [], gapDeltas := []
                         miss := false, nan := false, heldInvalid := false, substituted := false, saturated := false, depLate := false
                         aborted := false, producerDone := false, missRun := 0, pendingWrites := [], pendingDeltas := [], tAvail := none }) s
  let s := forUnits (List.range 16) (fun t n => t.restPg n) s
  let s := { s with rcs := s.rcs.map Rc.reloaded, obs := s.obs.map Observer.reloaded }
  (forUnits (List.range 8) (fun t e => t.setEngine e { t.engine e with current := none, busy := 0, badSlots := [] }) s).clearSlots

/-- The 1 ms occupancy interval of the engines, counted from the common start pulse, ends (Table 04-13). -/
def State.occupancyTick (s : State) : State :=
  if ticksPerMs ≤ s.since s.tide.occFrom then
    let cyc : Rat := if s.variant.derated then 360000 else 400000
    let s := forUnits (List.range 8) (fun t e =>
      let v := t.engine e
      let o := minR 1 (((v.busy + (match v.current with | some l => t.ranFor l | none => 0) : Nat) : Rat) / cyc)
      t.setEngine e { v with occupancy := o, peak := maxR v.peak o, busy := 0 }) s
    { s with tide := { s.tide with occFrom := s.tide.occFrom + ticksPerMs } }
  else s

end Sys2Proof.Machine
end

