-- ==== Sys2Proof/Machine/Profile.lean ====
section
/-! DEFINITION. Profile generators (R175 to R182). -/
namespace Sys2Proof.Machine

/-- A value rounded to binary64, nearest, ties to even (R175): 53 significant bits. -/
def round53 (v : Rat) : Rat :=
  if v = 0 then 0 else
    let a := absR v
    let e := F32.expOf a
    let m : Rat := (rne (a * pow2 (52 - e)) : Rat) * pow2 (e - 52)
    if v < 0 then -m else m

/-- A motion state: position, velocity, acceleration. -/
structure Motion where
  p : Rat := 0
  v : Rat := 0
  a : Rat := 0
  deriving DecidableEq, Repr

/-- The motion after a time at constant jerk. -/
def Motion.after (m : Motion) (j t : Rat) : Motion :=
  { p := m.p + m.v * t + m.a * t * t / 2 + j * t * t * t / 6, v := m.v + m.a * t + j * t * t / 2, a := m.a + j * t }

/-- The motion at the end of a plan. -/
def Motion.run (m : Motion) : List Seg → Motion
  | [] => m
  | g :: gs => (m.after g.jerk g.dur).run gs

/-- The motion a time into a plan, and the plan that is left. -/
def Motion.advance (m : Motion) : List Seg → Rat → Motion × List Seg
  | [], _ => (m, [])
  | g :: gs, t => if t < g.dur then (m.after g.jerk t, { g with dur := g.dur - t } :: gs) else (m.after g.jerk g.dur).advance gs (t - g.dur)

/-- The time of a plan. -/
def planTime (l : List Seg) : Rat := sumR (l.map (·.dur))

/-- A plan with every jerk in the other direction. -/
def flipPlan (s : Rat) (l : List Seg) : List Seg := l.map fun g => { g with jerk := s * g.jerk }

/-- The rest-to-rest move over a distance (R178, Table 06-1). -/
def restMove (d V A J : Rat) : List Seg :=
  let D := absR d
  let s : Rat := if d < 0 then -1 else 1
  let full := decide (A * A ≤ V * J)
  let tj := if full then A / J else sqrtR (V / J)
  let ta := if full then V / A - A / J else 0
  let dacc := if full then V * (V / A + A / J) / 2 else V * sqrtR (V / J)
  let mk := fun (tj ta c : Rat) =>
    [({ jerk := J, dur := tj } : Seg), { jerk := 0, dur := ta }, { jerk := -J, dur := tj }, { jerk := 0, dur := c },
     { jerk := -J, dur := tj }, { jerk := 0, dur := ta }, { jerk := J, dur := tj }]
  if D = 0 then []
  else flipPlan s (
    if 2 * dacc ≤ D then mk tj ta ((D - 2 * dacc) / V)
    else if 2 * A * A * A / (J * J) ≤ D then
      let vp := (-(A * A / J) + sqrtR (A * A * A * A / (J * J) + 4 * A * D)) / 2
      mk (A / J) (maxR 0 (vp / A - A / J)) 0
    else mk (cbrtR (D / (2 * J))) 0 0)

/-- From velocity v0 and acceleration a0 down to velocity vc at rest of acceleration, as fast as the limits allow. DESIGN CHOICE (log entry 130):
where J is too small for any braking that keeps the sign of v, the path does not end at rest, and the end of the plan sets p, v and a (R181). -/
def slowTo (v0 a0 vc A J : Rat) : List Seg :=
  let ab := sqrtR (J * (v0 - vc) + a0 * a0 / 2)
  if ab ≤ A then [{ jerk := -J, dur := maxR 0 ((a0 + ab) / J) }, { jerk := J, dur := ab / J }]
  else [{ jerk := -J, dur := maxR 0 ((a0 + A) / J) }, { jerk := 0, dur := maxR 0 ((v0 - vc + (a0 * a0 - 2 * A * A) / (2 * J)) / A) },
        { jerk := J, dur := A / J }]

/-- From velocity v0 and acceleration a0 up to velocity vc. -/
def speedTo (v0 a0 vc A J : Rat) : List Seg :=
  let ap := sqrtR (J * (vc - v0) + a0 * a0 / 2)
  if ap ≤ A then [{ jerk := J, dur := maxR 0 ((ap - a0) / J) }, { jerk := -J, dur := ap / J }]
  else [{ jerk := J, dur := maxR 0 ((A - a0) / J) }, { jerk := 0, dur := maxR 0 ((vc - v0 + (a0 * a0 - 2 * A * A) / (2 * J)) / A) },
        { jerk := -J, dur := A / J }]

/-- Bisection for the largest x in lo to hi with f x ≤ d, f rising. -/
def bisect : Nat → Rat → Rat → (Rat → Rat) → Rat → Rat
  | 0, lo, _, _, _ => lo
  | n + 1, lo, hi, f, d => let m := (lo + hi) / 2; if f m ≤ d then bisect n m hi f d else bisect n lo m f d

/-- Time-optimal path to rest a distance d ahead, moving forward with v0 ≥ 0 (R179). DESIGN CHOICE (log entry 129): where the present acceleration
carries v above V, v is brought back to V, or below it where the target is nearer, before the path goes on. -/
def forwardPlan (v0 a0 d V A J : Rat) : List Seg :=
  let dist := fun (l : List Seg) => (({ p := 0, v := v0, a := a0 } : Motion).run l).p
  let up := fun (vc : Rat) => speedTo v0 a0 vc A J ++ slowTo vc 0 0 A J
  -- the velocity reached when the acceleration is taken straight to 0
  let vNat := if a0 < 0 then v0 - a0 * a0 / (2 * J) else v0 + a0 * a0 / (2 * J)
  let nat := (if a0 < 0 then [({ jerk := J, dur := -a0 / J } : Seg)] else [{ jerk := -J, dur := a0 / J }]) ++ slowTo vNat 0 0 A J
  if d < dist nat then
    -- the acceleration rises part of the way to 0 and falls again
    let part := fun (a1 : Rat) =>
      ({ jerk := J, dur := (a1 - a0) / J } : Seg) :: (let m := ({ p := 0, v := v0, a := a0 } : Motion).after J ((a1 - a0) / J); slowTo m.v m.a 0 A J)
    part (bisect 64 (minR a0 0) 0 (fun x => dist (part x)) d)
  else if V < vNat then
    let down := fun (vc : Rat) => slowTo v0 a0 vc A J ++ slowTo vc 0 0 A J
    if dist (down V) ≤ d then slowTo v0 a0 V A J ++ [{ jerk := 0, dur := (d - dist (down V)) / V }] ++ slowTo V 0 0 A J
    else down (bisect 64 0 V (fun x => dist (down x)) d)
  else if dist (up V) ≤ d then speedTo v0 a0 V A J ++ [{ jerk := 0, dur := (d - dist (up V)) / V }] ++ slowTo V 0 0 A J
  else up (bisect 64 vNat V (fun x => dist (up x)) d)

/-- The sign of the present motion (R179). -/
def motionSign (m : Motion) : Rat :=
  if 0 < m.v then 1 else if m.v < 0 then -1 else if 0 < m.a then 1 else if m.a < 0 then -1 else 0

/-- The part of a plan that brings the state within new limits (R180). -/
def limitFirst (m : Motion) (V A J : Rat) : List Seg :=
  let s : Rat := if m.a < 0 then -1 else 1
  let l1 : List Seg := if A < absR m.a then [{ jerk := -(s * J), dur := (absR m.a - A) / J }] else []
  let m1 := m.run l1
  let sv : Rat := if m1.v < 0 then -1 else 1
  -- v that falls fast enough by itself is left to fall to V
  let fall := sv * m1.a
  l1 ++ (if V < absR m1.v then
      if fall < 0 ∧ J * (absR m1.v - V) < fall * fall / 2 then [{ jerk := 0, dur := (absR m1.v - V) / (-fall) }]
      else flipPlan sv (slowTo (absR m1.v) fall V A J)
    else [])

/-- The plan from a state to a target, and the time of its braking part (R179). -/
def planTo (m0 : Motion) (target V A J : Rat) : List Seg × Rat :=
  let pre := limitFirst m0 V A J
  let m := m0.run pre
  let s := motionSign m
  if s = 0 then (pre ++ restMove (target - m.p) V A J, 0)
  else
    let brake := flipPlan s (slowTo (s * m.v) (s * m.a) 0 A J)
    let stop := (m.run brake).p
    if 0 ≤ s * (target - stop) then (pre ++ flipPlan s (forwardPlan (s * m.v) (s * m.a) (s * (target - m.p)) V A J), 0)
    else (pre ++ brake ++ restMove (target - stop) V A J, planTime (pre ++ brake))

/-! The generators. -/

/-- The stage that times generator n (R175). -/
def State.pgStage (s : State) (n : Nat) : Nat :=
  let b := s.objN (0x3B00 + n) 0x12
  if b = 0xFF then s.variant.refStage else b

/-- Tu in ticks: the smallest whole multiple of a carrier period that is at least 10 µs (R175). -/
def updateTicks (p : Nat) : Nat := if p = 0 then 4000 else p * ((4000 + p - 1) / p)
def State.pgTu (s : State) (n : Nat) : Nat := updateTicks (s.carrierPeriod (s.pgStage n))

/-- A record of the target's end (R181): reached, or superseded. -/
def State.targetRecord (s : State) (n seq : Nat) (sup : Bool) : State :=
  s.enterRecord { s.mkRecord 0x0020 0 0 0 (leBytes 1 n ++ leBytes 4 seq) with superseded := sup }

/-- A superseded target counts and is recorded (R181). -/
def State.supersede (s : State) (n seq : Nat) : State :=
  let g := s.pg n
  (s.setPg n { g with superseded := g.superseded + 1, supBit := true }).targetRecord n seq true

/-- What refuses a target (R177, R182, R366). -/
def State.targetStatus (s : State) (n : Nat) (v : F32) : Nat :=
  let x := F32.toRat v
  if !s.mayWriteCommon then stState
  else if F32.isInf v then stRange
  else if x < s.objX (0x3B00 + n) 9 ∨ s.objX (0x3B00 + n) 10 < x then stRange
  else 0

/-- A target accepted: it waits for an update instant, in place of one that waits already (R177, R179, R181). DESIGN CHOICE (log entry 133): `done`
clears when a target is accepted or taken, and `superseded`, once set, stays. -/
def State.acceptTarget (s : State) (n : Nat) (v : F32) : State :=
  let s := match (s.pg n).waiting with | some w => s.supersede n w.2.1 | none => s
  let g := s.pg n
  let s := s.setPg n { g with targetSeq := g.targetSeq + 1, waiting := some (F32.toRat v, g.targetSeq + 1, s.now), done := false }
  s.setObj (0x3B00 + n) 2 (leBytes 4 v.toNat)

/-- PG_TARGET_WRITE (R177). -/
def execPgTargetWrite (ch : Chan) (n : Nat) (v : BitVec 32) (s : State) : Host.Outcome State Fault Refusal :=
  .next (s.guardedWrite ch (0x3B00 + n) 2 (leBytes 4 v.toNat) (s.targetStatus n v) (s.acceptTarget n v))

/-- A move completes: p equals the target, v and a are 0 (R181). -/
def State.completePg (s : State) (n : Nat) : State :=
  let g := s.pg n
  (s.setPg n { g with p := g.target, v := 0, a := 0, moving := false, plan := [], brake := 0, done := true, doneSeq := g.seq
                      completed := g.completed + 1 }).targetRecord n g.seq false

/-- The waiting target is taken at an update instant (R179, R180). -/
def State.takeTarget (s : State) (n : Nat) : State :=
  match (s.pg n).waiting with
  | none => s
  | some w =>
    if w.2.2 + 8000 ≤ s.now then
      let s := if (s.pg n).moving then s.supersede n (s.pg n).seq else s
      let g := s.pg n
      let V := s.objX (0x3B00 + n) 6
      let A := s.objX (0x3B00 + n) 7
      let J := s.objX (0x3B00 + n) 8
      let pl := planTo { p := g.p, v := g.v, a := g.a } w.1 V A J
      let s := s.setPg n { g with waiting := none, target := w.1, seq := w.2.1, moving := true, plan := pl.1, brake := pl.2, done := false
                                  vLim := V, aLim := A, jLim := J, limitPending := false }
      if planTime pl.1 = 0 then s.completePg n else s
    else s

/-- One update instant of a generator (R175, R179, R181). -/
def State.stepPg (s : State) (n : Nat) : State :=
  let g := s.pg n
  let dt := secOf (s.pgTu n)
  let r := ({ p := g.p, v := g.v, a := g.a } : Motion).advance g.plan dt
  let s := s.setPg n { g with p := round53 r.1.p, v := round53 r.1.v, a := round53 r.1.a, plan := r.2, brake := maxR 0 (g.brake - dt), lastUpdate := s.now }
  let s := if g.moving && r.2.isEmpty then s.completePg n else s
  let s := s.takeTarget n
  let g := s.pg n
  s.setPg n { g with pOut := F32.ofRat g.p, ffOut := F32.ofRat (s.objR (0x3B00 + n) 0x0F * g.v + s.objR (0x3B00 + n) 0x10 * g.a) }

/-- An update instant of a generator is due (R175): on a carrier boundary of its stage, Tu or more after the last, and not before the start pulse,
while ENG is not ON, or in TRACK. -/
def State.pgDue (s : State) (n : Nat) : Bool :=
  s.tide.pulsed && s.regionOn .eng && s.stageUsed (s.pgStage n) && !s.inMode .track && !s.coresHalted && s.onBoundary (s.pgStage n)
    && ((s.pg n).lastUpdate == 0 || decide (s.pgTu n ≤ s.since (s.pg n).lastUpdate)) && decide (n < 16)

end Sys2Proof.Machine
end

