-- ==== Sys2Proof/Machine/Setpoints.lean ====
section
/-! DEFINITION. Repetitive controllers and stage observers (chapter 06). -/
namespace Sys2Proof.Machine

/-! Repetitive controllers (R183 to R191). -/

/-- T_min and T_max of a controller's band (R183). -/
def State.rcMin (s : State) (n : Nat) : Rat := if s.objN (0x3C00 + n) 3 = 0 then 2 else 1 / 100
def State.rcMax (s : State) (n : Nat) : Rat := if s.objN (0x3C00 + n) 3 = 0 then 30 else 2
def State.rcInBand (s : State) (n : Nat) (t : Rat) : Bool := decide (s.rcMin n ≤ t) && decide (t ≤ s.rcMax n)

/-- Tu in s. -/
def State.rcTu (s : State) (n : Nat) : Rat := secOf (s.carrierPeriod (s.rcStage n))

/-- The controller is on and is updated (R183); a SHED stops it (R28). -/
def State.rcRuns (s : State) (n : Nat) : Bool :=
  decide (n < 8) && s.objN (0x3C00 + n) 2 != 0 && s.stageUsed (s.rcStage n) && s.regionOn .eng && s.tide.pulsed && !s.isShed 3 0xFF (0x10 + n)

/-- N_a for a period (R184). -/
def State.rcLen (s : State) (n : Nat) (T : Rat) : Nat := min (s.objN (0x3C00 + n) 2) (divR T (s.rcTu n)).floor.toNat

/-- Linear interpolation between neighbouring bins, the index modulo the length (R185). -/
def interpTable (t : List Rat) (x : Rat) : Rat :=
  let i := x.floor
  let f := x - i
  let at_ := fun (k : Int) => nth t (k % (t.length : Int)).toNat 0
  at_ i + f * (at_ (i + 1) - at_ i)

/-- A table resampled to m points, linear in phase (R189). -/
def resample (t : List Rat) (m : Nat) : List Rat := (List.range m).map fun (j : Nat) => interpTable t ((j : Rat) * t.length / m)

/-- Codes 0 and 2 use the motion reference (R187). -/
def State.rcUsesRef (s : State) (n : Nat) : Bool := s.objN (0x3C00 + n) 4 == 0 || s.objN (0x3C00 + n) 4 == 2

/-- The period that the source in force gives now, if it gives one (R187). -/
def State.rcCandidate (s : State) (n : Nat) : Option Rat :=
  let r := s.rc n
  let est := if r.estimate = 0 then none else some r.estimate
  let ref := s.objR (0x3C00 + n) 5
  match s.objN (0x3C00 + n) 4 with
  | 0 => if r.refStale then none else if s.rcInBand n ref then some ref else none
  | 1 => est
  | 2 => if r.refStale then est else if s.rcInBand n ref then some ref else est
  | _ => let f := s.objR (0x3C00 + n) 7; if s.rcInBand n f then some f else none

/-- The controller learns: locked, γ above 0, not diverged, not fading (R186, R189, R190). -/
def State.rcLearns (s : State) (n : Nat) : Bool :=
  let r := s.rc n
  r.locked && !r.frozen && decide (0 < s.objX (0x3C00 + n) 0x0A) && r.bigChange.isNone

/-- A source of e as the controller reads it, and whether its sample is valid (R184). -/
def State.rcSource (s : State) (n code : Nat) : Rat := F32.toRat (s.sourceVal { stage := s.rcStage n } code)

/-- The factor of a fade. -/
def State.rcFade (s : State) (n : Nat) : Rat :=
  let r := s.rc n
  match r.fadeFrom with
  | none => 1
  | some t => r.fadeStart * maxR 0 (1 - divR (secOf (s.since t)) r.fadeLen)

/-- u fades to 0 over a time from the factor it has (R189, R190); the fade of a reset that waits for its zeroing goes on. -/
def State.startFade (s : State) (n : Nat) (len : Rat) : State :=
  let r := s.rc n
  if r.fadeZero then s else s.setRc n { r with fadeFrom := some s.now, fadeLen := len, fadeStart := s.rcFade n }

/-- A controller becomes unlocked: u fades over 1 s, learning stops, the table stays, a change of period that waits is given up, and the source is
raised (R189). -/
def State.rcUnlock (s : State) (n : Nat) : State :=
  let s := s.startFade n 1
  (s.setRc n { s.rc n with locked := false, offered := false, bigChange := none }).raise (s.key 3 0xFF (0x10 + n) 2) 0

/-- A period comes into force under the resampling rule (R189); u returns where nothing else holds it down. -/
def State.rcApply (s : State) (n : Nat) (T : Rat) : State :=
  let r := s.rc n
  let m := s.rcLen n T
  let same := m = r.table.length
  s.setRc n { r with period := T, len := m, locked := true, table := if same then r.table else resample r.table m
                     resamples := if same then r.resamples else r.resamples + 1
                     fadeFrom := if r.locked || r.fadeZero || r.frozen then r.fadeFrom else none }

/-- A period comes into force with a table of zeros. -/
def State.rcFresh (s : State) (n : Nat) (T : Rat) : State :=
  let r := s.rc n
  let m := s.rcLen n T
  s.setRc n { r with period := T, len := m, locked := true, table := List.replicate m 0, bigChange := none, fadeFrom := none, fadeZero := false
                     bin := 0, binSum := 0, binCount := 0 }

/-- The end of a fade that zeroes the table (R190). -/
def State.rcFadeEnd (s : State) (n : Nat) : State :=
  let r := s.rc n
  match r.fadeFrom with
  | some t =>
    if r.fadeZero && s.elapsed t r.fadeLen then
      s.setRc n { r with table := List.replicate r.len 0, fadeFrom := if r.locked && !r.frozen && r.bigChange.isNone then none else r.fadeFrom, fadeZero := false }
    else s
  | none => s

/-- The mean error of a bin written with the smoothing filter (R184). -/
def Rc.learn (r : Rc) (alpha gamma : Rat) : Rc :=
  if r.binCount = 0 ∨ r.len = 0 then r
  else
    let i := r.bin
    let at_ := fun k => nth r.table (k % r.len) 0
    let v := alpha * (at_ (i + r.len - 1) / 4 + at_ i / 2 + at_ (i + 1) / 4) + gamma * (r.binSum / r.binCount)
    { r with table := put r.table i v }

/-- e of an update, its place in the bin and in the period's RMS, and the bin's write where φ leaves it (R184, R190). DESIGN CHOICE
(log entry 157): e counts for the bin of the phase before the update's advance. -/
def State.rcError (s : State) (n : Nat) : State :=
  let r := s.rc n
  let a := s.objN (0x3C00 + n) 0x0F
  let b := s.objN (0x3C00 + n) 0x10
  let ok := !s.sourceBad a && !s.sourceBad b
  let e := s.objR (0x3C00 + n) 0x11 * (s.rcSource n b - s.rcSource n a)
  let ph := r.phase + divR (s.rcTu n) r.period
  let wrap := decide (1 ≤ ph)
  let ph' := if wrap then ph - ph.floor else ph
  let i := min (r.len - 1) (ph' * r.len).floor.toNat
  let r := if ok then { r with binSum := r.binSum + e, binCount := r.binCount + 1, sqSum := r.sqSum + e * e, sqCount := r.sqCount + 1 } else r
  let leave := wrap || i != r.bin
  let r := if leave && s.rcLearns n then r.learn (s.objR (0x3C00 + n) 0x0C) (s.objR (0x3C00 + n) 0x0A) else r
  let r := if leave then { r with binSum := 0, binCount := 0 } else r
  s.setRc n { r with phase := ph', bin := i, wrapped := r.wrapped || wrap }

/-- The median of five intervals. -/
def median5 (l : List Rat) : Rat := nth (l.mergeSort (fun a b => decide (a ≤ b))) 2 0

/-- The last five crossing intervals lie within a fifth of their median, which lies in the band (R188). -/
def State.rcAccepts (s : State) (n : Nat) (l : List Rat) : Bool :=
  l.length == 5 && l.all (fun x => decide (8 / 10 * median5 l ≤ x) && decide (x ≤ 12 / 10 * median5 l)) && s.rcInBand n (median5 l)

/-- One update of the estimator (R188): the bus power that the manager meters, filtered, and its upward zero crossings. The filters' arithmetic and
the choice of P_load are log entry 13. -/
def State.rcEstimate (s : State) (n : Nat) : State :=
  let r := s.rc n
  let d := Config.powerFilter (divR 1 (2 * s.rcMax n)) (divR 2 (s.rcMin n)) (s.rcTu n) r.filter s.spm.pLoad
  let f := d.2
  let hist := ((s.now, f) :: r.history).filter fun p => decide (secOf (s.now - p.1) ≤ s.rcMax n)
  let h := sqrtR (divR (sumR (hist.map fun p => p.2 * p.2)) hist.length) / 10
  let cross := r.wasLow && decide (h < f)
  let l := if cross && r.lastCross != 0 then (secOf (s.since r.lastCross) :: r.crossings).take 5 else r.crossings
  let ok := cross && s.rcAccepts n l
  let used := ok && (s.objN (0x3C00 + n) 4 == 1 || (s.objN (0x3C00 + n) 4 == 2 && r.refStale))
  s.setRc n { r with
    filter := d.1, history := hist, crossings := l
    lastCross := if cross then s.now else r.lastCross
    wasLow := if f < -h then true else if cross then false else r.wasLow
    estimate := if ok then median5 l else r.estimate
    offered := r.offered || used
    acceptedAt := if used then s.now else r.acceptedAt }

/-- The output of an update (R185). -/
def State.rcOutput (s : State) (n : Nat) : State :=
  let r := s.rc n
  let U := s.objX (0x3C00 + n) 0x0E
  let d := divR (s.objR (0x3C00 + n) 0x0D * r.len) r.period
  s.setRc n { r with uNext := if r.len = 0 then 0 else clampR (interpTable r.table (r.phase * r.len + d)) (-U) U * s.rcFade n }

/-- The first period of a controller comes into force at an update, where no period makes φ wrap (R189). -/
def State.rcFirst (s : State) (n : Nat) : State :=
  if (s.rc n).period = 0 ∧ s.tracks = false then
    match s.rcCandidate n with
    | some T => (s.rcFresh n T).clearing (s.key 3 0xFF (0x10 + n) 2)
    | none => s
  else s

/-- One update of a controller (R183 to R185, R188). -/
def State.rcStep (s : State) (n : Nat) : State :=
  let s := s.rcEstimate n
  let s := if s.objN (0x3C00 + n) 4 = 3 then s.setRc n { s.rc n with acceptedAt := s.now, offered := true } else s
  let s := (s.rcFadeEnd n).rcFirst n
  let s := if (s.rc n).period = 0 then s else s.rcError n
  s.rcOutput n

/-- A controller that is off keeps no state, and its sources end (R183). -/
def State.rcOff (s : State) (n : Nat) : State :=
  [1, 2, 3].foldl (fun (t : State) k => t.clearing (t.key 3 0xFF (0x10 + n) k)) (s.setRc n {})

/-- RC_UPDATE (R183). A controller whose table length is 0 is off. -/
def execRcUpdate (n : Nat) (s : State) : Host.Outcome State Fault Refusal :=
  .next (if s.rcRuns n then s.rcStep n else if s.objN (0x3C00 + n) 2 = 0 then s.rcOff n else s)

/-- A write of `TableLength` (R183, R184): 0 turns the controller off at once; another N gives N_a = min(N, floor(T / Tu)) at once. DESIGN CHOICE
(log entry 131): where N_a changes, the table is resampled as R189 says of a change of period. -/
def State.applyTableLength (s : State) (n : Nat) : State :=
  let r := s.rc n
  if s.objN (0x3C00 + n) 2 = 0 then s.rcOff n
  else if r.period = 0 ∨ s.rcLen n r.period = r.len then s
  else s.setRc n { r with len := s.rcLen n r.period, table := resample r.table (s.rcLen n r.period), resamples := r.resamples + 1 }

/-- The DEGRADE of a controller (R190): learning frozen, u faded to 0 over one period, the table kept. -/
def State.rcFreeze (s : State) (n : Nat) : State :=
  let s := s.startFade n (s.rc n).period
  s.setRc n { s.rc n with frozen := true }

/-- A controller diverges: the source is raised, and its reaction follows where it acts at DEGRADE (R190, R320, R324). -/
def State.rcDiverge (s : State) (n : Nat) : State :=
  let k := s.key 3 0xFF (0x10 + n) 1
  let s := (s.setRc n { s.rc n with diverged := true, growth := 0 }).raise k 0
  if s.degrades k then s.rcFreeze n else s

/-- The RMS of the completed period, and the watch on its growth (R190). -/
def State.rcRms (s : State) (n : Nat) : State :=
  let r := s.rc n
  let rms := sqrtR (divR r.sqSum r.sqCount)
  let g := if s.rcLearns n && decide (3 / 2 * r.errRms < rms) && r.rmsKnown then r.growth + 1 else 0
  let s := s.setRc n { r with errRms := rms, rmsKnown := true, sqSum := 0, sqCount := 0, growth := g, wrapped := false }
  if 3 ≤ g then s.rcDiverge n else s

/-- What a wrap of φ does to the period (R189). -/
def State.rcPeriod (s : State) (n : Nat) : State :=
  let r := s.rc n
  match r.bigChange with
  | some T => (s.rcFresh n T).clearing (s.key 3 0xFF (0x10 + n) 2)
  | none =>
    match s.rcCandidate n with
    | none => s
    | some T =>
      if (T = r.period ∧ r.locked = true) ∨ (r.locked = false ∧ r.offered = false) then s
      else if absR (T - r.period) ≤ r.period / 4 then (s.rcApply n T).clearing (s.key 3 0xFF (0x10 + n) 2)
      else let s := s.startFade n r.period; s.setRc n { s.rc n with bigChange := some T }

/-- RC_PHASE_WRAP (R189 to R191). In TRACK the period and the phase are the active's, which tells them at each wrap; while heartbeats are lost, this
side decides for itself (R351). -/
def execRcPhaseWrap (n : Nat) (s : State) : Host.Outcome State Fault Refusal :=
  .next (if s.rcRuns n && (s.rc n).wrapped then
      let s := s.rcRms n
      let s := if s.tracks then s else s.rcPeriod n
      s.tell (.rc n (s.rc n).phase (if (s.rc n).locked then (s.rc n).period else 0))
    else s)

/-- RC_REF_TIMEOUT (R187): no write of `RefPeriod` for `RefTimeout`, or a value outside the band. Under code 0 the controller is unlocked, but in
TRACK, where φ and T are the active's while it is heard (R191, R351). DESIGN CHOICE (log entry 134): a reference is watched under the codes that use it, 0 and 2. -/
def execRcRefTimeout (n : Nat) (s : State) : Host.Outcome State Fault Refusal :=
  .next (
    let r := s.rc n
    if s.rcRuns n && s.rcUsesRef n && (s.elapsed r.refAt (s.objR (0x3C00 + n) 6) || !s.rcInBand n (s.objR (0x3C00 + n) 5)) then
      let s := (s.setRc n { r with refStale := true }).raise (s.key 3 0xFF (0x10 + n) 3) 0
      if s.objN (0x3C00 + n) 4 = 0 ∧ r.locked = true ∧ s.tracks = false then s.rcUnlock n else s
    else s)

/-- RC_UNLOCK_TIMEOUT (R189): no accepted period for 3·T. -/
def execRcUnlockTimeout (n : Nat) (s : State) : Host.Outcome State Fault Refusal :=
  .next (if s.rcRuns n && (s.rc n).locked && s.elapsed (s.rc n).acceptedAt (3 * (s.rc n).period) && !s.tracks then s.rcUnlock n else s)

/-- A reset is accepted (R190): the diverge source clears, u fades to 0 over 1 s from the factor it has, and the table is zeroed. -/
def State.applyRcReset (s : State) (n : Nat) : State :=
  let s := s.setRc n { s.rc n with fadeZero := false, fadeStart := s.rcFade n }
  let r := s.rc n
  (s.setRc n { r with diverged := false, frozen := false, growth := 0, fadeFrom := some s.now, fadeLen := 1, fadeZero := true }).clearing (s.key 3 0xFF (0x10 + n) 1)

/-- RC_RESET (R190). -/
def execRcReset (ch : Chan) (n v : Nat) (s : State) : Host.Outcome State Fault Refusal :=
  .next (s.guardedWrite ch (0x3C00 + n) 0x16 (leBytes 1 v) (if v = 1 then 0 else stRange) (s.applyRcReset n))

/-- A write of `LearnGain` clears the diverge source and lets u return (R186, R190). -/
def State.applyLearnGain (s : State) (n : Nat) (data : List Byte) : State :=
  let r := s.rc n
  let s := s.setObj (0x3C00 + n) 0x0A data
  if r.diverged then
    (s.setRc n { r with diverged := false, frozen := false, growth := 0
                        fadeFrom := if r.locked && !r.fadeZero && r.bigChange.isNone then none else r.fadeFrom }).clearing (s.key 3 0xFF (0x10 + n) 1)
  else s

/-- A write of `RefPeriod` is a motion reference (R187). -/
def State.applyRefPeriod (s : State) (n : Nat) (data : List Byte) : State :=
  let s := s.setObj (0x3C00 + n) 5 data
  let r := s.rc n
  if s.rcInBand n (realOf data) then
    (s.setRc n { r with refAt := s.now, refStale := false, offered := r.offered || s.rcUsesRef n
                        acceptedAt := if s.rcUsesRef n then s.now else r.acceptedAt }).clearing (s.key 3 0xFF (0x10 + n) 3)
  else s.setRc n { r with refAt := s.now }

/-! Stage observers (R192 to R198). -/

/-- The input that measures a phase's current. -/
def State.phaseInput (s : State) (p : Nat) : Nat := s.objN (0x3800 + p) 14

/-- The latest valid sample of an input since SNS started, or 0 (R42, R192). -/
def State.lastValidY (s : State) (md : Nat) : Rat := match (s.modIn md).lastGood with | some y => F32.toRat y | none => 0

/-- The stage-total input is configured (R194). -/
def State.hasTotal (s : State) (st : Nat) : Bool := s.objN (0x3D00 + st) 4 != 0xFF

/-- A phase takes part in its observer: it is in the interleave and switches (R192). -/
def State.observed (s : State) (p : Nat) : Bool := (s.phase p).inSet && (s.phase p).outOn

/-- The prediction for one position, and its residual (R192). A phase that is not running has no estimate. -/
def State.obsPredict (s : State) (st j : Nat) : ObsPhase :=
  let o := s.observer st
  let x := nth o.ph j {}
  let p := s.stageFirst st + j
  let d := F32.toRat (s.phase p).duty
  if !s.observed p then
    { substTime := x.substTime, substEnd := if x.subst then some s.now else x.substEnd, dPrev := d }
  else
    let e := if x.started then x.est else s.lastValidY (s.phaseInput p)
    let L := s.objR (0x3D00 + st) (0x21 + j)
    let R := nth s.thermal.rp p 0
    let pr := e + divR (secOf (s.carrierPeriod st)) L * (x.dPrev * o.vH - o.vL - R * e)
    { x with pred := pr, resid := s.loopY (s.phaseInput p) - pr, dPrev := d, started := true }

/-- Classification is suspended for a phase (R193). -/
def State.obsSuspended (s : State) (st j : Nat) (x : ObsPhase) : Bool :=
  let md := s.phaseInput (s.stageFirst st + j)
  !((s.stage st).state == .running || (s.stage st).state == .degraded) || decide (absR x.pred < s.objR (0x3D00 + st) 0x0A)
    || (!(s.modIn md).valid && !s.inputBad md)

/-- Alarm of one position in this period, its run, and the estimate (R192, R193). DESIGN CHOICE (log entry 136): a suspended period with the residual
above the threshold holds the run of alarms, neither counted nor reset. -/
def State.obsAlarm (s : State) (st j : Nat) (x : ObsPhase) : ObsPhase :=
  let on := s.observed (s.stageFirst st + j)
  let a := on && decide (maxR (s.objR (0x3D00 + st) 6) (s.objR (0x3D00 + st) 7 * absR x.pred) < absR x.resid)
  let susp := s.obsSuspended st j x
  { x with alarm := a && !susp, alarmRun := if !a then 0 else if susp then x.alarmRun else x.alarmRun + 1
           est := if !on then 0 else if a || x.subst then x.pred else x.pred + s.objR (0x3D00 + st) 5 * x.resid }

/-- Verdicts of R194: 0 none, 1 sensor failed, 2 open phase, 3 ambiguous. -/
def State.obsClass (s : State) (st j : Nat) : Nat :=
  let o := s.observer st
  let p := s.stageFirst st + j
  let md := s.phaseInput p
  let x := nth o.ph j {}
  let i := absR (s.loopY md)
  let run := s.runningPhases st
  let term := fun q (pred : Bool) => let y := nth o.ph (q - s.stageFirst st) {}; if pred || y.subst then y.pred else s.loopY (s.phaseInput q)
  let meas := sumR (run.map fun q => term q false)
  let prd := sumR (run.map fun q => term q true)
  let S := s.loopY (s.objN (0x3D00 + st) 4)
  let th := s.objR (0x3D00 + st) 8
  let low := decide (i ≤ s.objR (0x3D00 + st) 9)
  if !s.observed p || x.subst || s.obsSuspended st j x then 0
  else if s.inputBad md then 1
  else if x.alarmRun < s.objN (0x3D00 + st) 0x0B then 0
  else if s.hasTotal st then
    if absR (S - meas) ≤ th ∧ low = true then 2
    else if th < absR (S - meas) ∧ absR (S - prd) ≤ th then 1
    else 3
  else if low then 2 else 1

/-- One position's part of an observer replaced. -/
def State.setObsPhase (s : State) (st j : Nat) (x : ObsPhase) : State :=
  let o := s.observer st
  s.setObserver st { o with ph := put o.ph j x }

/-- A decision that drops a phase: the substitution ends with it (R195, R196), and the phase has no estimate (R192). -/
def State.obsDrop (s : State) (st j cause : Nat) : State :=
  let s := s.dropPhase (s.stageFirst st + j) cause
  let x := nth (s.observer st).ph j {}
  s.setObsPhase st j { substTime := x.substTime, substEnd := x.substEnd }

/-- An open phase (R196). -/
def State.obsOpen (s : State) (st j : Nat) : State :=
  let o := s.observer st
  let s := s.setObserver st { o with openCount := o.openCount + 1, lastClass := 2 }
  (s.obsDrop st j 1).raiseWith (s.obsKey st 6) 0 (leBytes 1 (s.stageFirst st + j)) false

/-- A substitution begins on a position; within 10 s of the end of its last one it goes on with that one's time (R195). -/
def State.beginSubst (s : State) (x : ObsPhase) : ObsPhase :=
  let resume := match x.substEnd with | some t => !s.elapsed t 10 | none => false
  { x with subst := true, substTime := if resume then x.substTime else 0, recoverRun := 0 }

/-- A substitution, if one is in force, ends (R195). -/
def State.endedSubst (s : State) (x : ObsPhase) : ObsPhase := { x with subst := false, recoverRun := 0, substEnd := if x.subst then some s.now else x.substEnd }

/-- A failed sensor: a substitution begins, or the phase is dropped where `SubstLimit` is 0 (R195). -/
def State.obsSensor (s : State) (st j : Nat) : State :=
  let o := s.observer st
  let p := s.stageFirst st + j
  let s := s.setObserver st { o with sensorCount := o.sensorCount + 1, lastClass := 1 }
  let s := s.raiseWith (s.obsKey st 5) 0 (leBytes 1 p) false
  if s.objR (0x3D00 + st) 0x0D = 0 then s.obsDrop st j 2
  else
    let o := s.observer st
    s.setObserver st { o with substCount := o.substCount + 1, ph := put o.ph j (s.beginSubst (nth o.ph j {})) }

/-- An ambiguous phase (R194). -/
def State.obsAmbiguous (s : State) (st j : Nat) : State :=
  let o := s.observer st
  let x := nth o.ph j {}
  let lim := s.objN (0x3D00 + st) 0x0C
  let s := s.setObserver st { o with lastClass := 3, ph := put o.ph j { x with ambiguous := true, ambRun := x.ambRun + 1 } }
  let s := s.raiseWith (s.obsKey st 7) 0 (leBytes 1 (s.stageFirst st + j)) false
  if lim ≠ 0 ∧ lim ≤ x.ambRun + 1 then s.obsOpen st j else s

/-- A decision that the twin is to be told (R198). -/
def State.noteDecision (s : State) (st j c : Nat) : State :=
  if c = 0 ∨ s.pair.owns = false then s else s.setObserver st { s.observer st with decided := (s.observer st).decided ++ [(j, c)] }

/-- The decision on one position (R194 to R196). -/
def State.obsDecide (s : State) (st j : Nat) : State :=
  let c := s.obsClass st j
  let s := s.noteDecision st j c
  match c with
  | 0 => s
  | 1 => s.obsSensor st j
  | 2 => s.obsOpen st j
  | _ => s.obsAmbiguous st j

/-- The periods of a substitution: its time, and its run without alarm on a valid input (R195). -/
def State.countSubst (s : State) (st j : Nat) (x : ObsPhase) : ObsPhase :=
  let run := if (s.modIn (s.phaseInput (s.stageFirst st + j))).valid && !x.alarm then x.recoverRun + 1 else 0
  if x.subst then { x with recoverRun := run, substTime := x.substTime + secOf (s.carrierPeriod st) } else x

/-- A substitution's time and its recovery (R195), and the end of an ambiguity. DESIGN CHOICE (log entry 145): a period in which classification is
suspended counts as one without alarm. -/
def State.obsRecover (s : State) (st j : Nat) : State :=
  let x := nth (s.observer st).ph j {}
  let x := if x.alarm then x else { x with ambiguous := false, ambRun := 0 }
  let y := s.countSubst st j x
  if y.subst && decide (s.objN (0x3D00 + st) 0x0E ≤ y.recoverRun) then
    let s := s.setObsPhase st j (s.endedSubst x)
    s.setObserver st { s.observer st with ended := if s.pair.owns then (s.observer st).ended ++ [j] else [] }
  else s.setObsPhase st j y

/-- S of a run, or the sum of the phases' samples (R197). -/
def State.obsTotal (s : State) (st : Nat) : Rat :=
  if s.hasTotal st then s.loopY (s.objN (0x3D00 + st) 4) else sumR ((s.runningPhases st).map fun p => s.loopY (s.phaseInput p))

/-- The part of a run that any mode makes: predictions, residuals, alarms, estimates (R192, R193). The demand is that of the periods before the first
alarm, and of none after a drop that has not been judged (R197). -/
def State.obsMeasure (s : State) (st : Nat) : State :=
  let o := s.observer st
  let m := s.stageCount st
  let ph := (List.range 12).map fun j => if j < m then s.obsAlarm st j (s.obsPredict st j) else {}
  let calm := ph.all fun x => x.alarmRun == 0
  s.setObserver st { o with ph := ph, vH := s.loopY (s.objN (0x3000 + 256 * st) 0x14), vL := s.loopY (s.objN (0x3000 + 256 * st) 0x13)
                            demand := if calm && !o.dropCheck then (s.obsTotal st :: o.demand).take 16 else o.demand
                            idle := !((s.stage st).state == .running || (s.stage st).state == .degraded), lastRun := s.now }

/-- More than half of the running phases are in alarm (R193). -/
def State.obsMajority (s : State) (st : Nat) : Bool :=
  let n := ((s.observer st).ph.filter fun x => x.alarm).length
  decide ((s.runningPhases st).length < 2 * n)

/-- With `ObsEnable` 0 an observer takes no decision and substitutes nothing (Table 06-7). -/
def State.obsIdle (s : State) (st : Nat) : State :=
  let o := s.observer st
  s.setObserver st { o with
    model := false
    ph := o.ph.map fun x => { x with subst := false, substEnd := if x.subst then some s.now else x.substEnd, ambiguous := false, ambRun := 0 } }

/-- The decisions of a run (R193 to R196). The model source's record carries the first phase in alarm (R199; log entry 137). DESIGN CHOICE (log entry
157): phases are decided in ascending position, and what one decision of the run changes counts for the next. -/
def State.obsDecisions (s : State) (st : Nat) : State :=
  let js := List.range (s.stageCount st)
  let maj := s.obsMajority st
  let first := (js.find? fun j => (nth (s.observer st).ph j {}).alarm).getD 0
  let s := s.setObserver st { s.observer st with model := maj, lastClass := if maj then 4 else (s.observer st).lastClass }
  let s := if maj then s.raiseWith (s.obsKey st 8) 0 (leBytes 1 (s.stageFirst st + first)) false else js.foldl (fun t j => t.obsDecide st j) s
  js.foldl (fun t j => t.obsRecover st j) s

/-- The part of a run that the owner makes: decisions and sources (R193 to R198). -/
def State.obsAct (s : State) (st : Nat) : State :=
  let s := if s.objN (0x3D00 + st) 2 = 1 then s.obsDecisions st else s.obsIdle st
  let ph := (s.observer st).ph
  let s := if (s.observer st).model then s else s.clearing (s.obsKey st 8)
  let s := if ph.any (fun x => x.subst) then s else s.clearing (s.obsKey st 5)
  let s := if (s.stagePhases st).any (fun p => (s.phase p).dropped && (s.phase p).dropCause == 1) then s else s.clearing (s.obsKey st 6)
  let s := if ph.any (fun x => x.ambiguous) then s else s.clearing (s.obsKey st 7)
  s.obsCapacity st

/-- A run in TRACK: the model and ambiguous verdicts are reported and no decision is taken; a substitution and a missing share, which are the active's,
are counted (R197, R198). -/
def State.obsTrack (s : State) (st : Nat) : State :=
  let on := s.objN (0x3D00 + st) 2 == 1
  let maj := on && s.obsMajority st
  let amb := fun (j : Nat) (x : ObsPhase) => x.alarm && on && (x.ambiguous || (!maj && decide (j < s.stageCount st) && s.obsClass st j == 3))
  let s := s.setObserver st { s.observer st with model := maj, ph := (List.range 12).map fun j => let x := nth (s.observer st).ph j {}; { x with ambiguous := amb j x } }
  let o := s.observer st
  s.setObserver st { o with dropCheck := false, missing := s.missingShare st (o.capShort && s.droppedCount st != 0), ph := (List.range 12).map fun j => s.countSubst st j (nth o.ph j {}) }

/-- OBSERVER_RUN (R192). In TRACK it measures and takes no decision (R198), but while heartbeats are lost it decides for itself (R351). The holder
tells its decisions, which its twin takes at the next carrier boundary (R198). -/
def execObserverRun (st : Nat) (s : State) : Host.Outcome State Fault Refusal :=
  .next (if s.stageUsed st && s.part.has .stage st && s.tide.pulsed && s.regionOn .eng then
      let s := s.obsMeasure st
      if s.tracks then s.obsTrack st else (s.obsAct st).tellStage st ((s.obsAct st).boundaryPlace st + s.carrierPeriod st)
    else s)

/-- SUBSTITUTION_EXPIRED (R195): the phase is dropped with cause 2. -/
def execSubstitutionExpired (ph : Nat) (s : State) : Host.Outcome State Fault Refusal :=
  .next (match s.stageOf ph with
    | none => s
    | some st =>
      let j := ph - s.stageFirst st
      let x := nth (s.observer st).ph j {}
      if x.subst && s.objN (0x3D00 + st) 2 == 1 && decide (s.objR (0x3D00 + st) 0x0D ≤ x.substTime) && !s.tracks then s.obsDrop st j 2 else s)

end Sys2Proof.Machine
end

