-- ==== Sys2Proof/Machine/ModeOps.lean ====
section
/-! DEFINITION. Operations that mode changes share: region states, entry to a mode and to a supply state, the beginning of a descent, and the
queue of commands to partners. -/
namespace Sys2Proof.Machine

/-! Regions (R39, R42, Table 02-4). -/

def State.setRegion (s : State) (r : Region) (v : RegionState) : State :=
  { s with mode := { s.mode with regions := put s.mode.regions r.idx v } }

/-- Table 02-4, the states at entry to a mode, in code order of the regions. -/
def regionsOf (m : Mode) : List RegionState :=
  match m with
  | .pilot => [.on, .on, .off, .safe, .off, .on, .on, .on, .on, .off]
  | .boot => [.on, .on, .hold, .safe, .hold, .on, .hold, .on, .on, .hold]
  | .layup => [.on, .off, .off, .off, .off, .off, .off, .off, .off, .off]
  | .moored => [.on, .ret, .off, .off, .off, .duty, .ret, .off, .duty, .off]
  | .rise => [.on, .on, .hold, .safe, .hold, .on, .on, .on, .on, .on]
  | .track => [.on, .on, .on, .on, .on, .on, .on, .on, .on, .on]
  | .active => [.on, .on, .on, .on, .on, .on, .on, .on, .on, .on]
  | .holdup => [.on, .on, .on, .on, .on, .on, .on, .on, .on, .on]
  | .blackstart => [.on, .on, .on, .on, .on, .on, .on, .on, .on, .on]
  | .service => [.on, .on, .hold, .safe, .on, .on, .on, .on, .on, .on]
  | .descent => [.on, .on, .on, .on, .on, .on, .on, .on, .on, .on]
  | .lockout => [.on, .on, .off, .safe, .off, .on, .on, .on, .on, .on]

/-- A group that is disabled when SNS starts: nothing runs in it, and its clock source clears with the start (Table 03-3). -/
def State.disableGroup (s : State) (g : Nat) : State :=
  let s := (s.stopGroup g).clearing (s.key 5 g 0xFF 4)
  s.setGroup g { s.group g with clockBad := false }

/-- SNS starts: it is reloaded with the scaling that the dictionary holds (R29, R42), every enabled group starts (R74), and the strings' inputs are judged
from here on (R262). -/
def State.startSns (s : State) : State :=
  let s := s.setRegion .sns .on
  let s := forUnits (List.range 48) (fun t m => (t.setMod m { t.modIn m with wordBad := false, lastGood := none }).latchScale m) s
  let s := forUnits (List.range 8) (fun t k =>
    t.setStr k { t.str k with est := { (t.str k).est with iAt := t.now, vAt := t.now, tempAt := t.now, inputsFrom := t.now } }) s
  forUnits (List.range 4) (fun t g => if t.part.has .group g && t.objN (0x4030 + g) 1 == 1 then t.startGroup g else t.disableGroup g) s

/-- ENG powered and loaded from the image in force (R42, R482). -/
def State.loadEng (s : State) : State := (s.setRegion .eng .on).reloadEngines

/-- ENG released from HOLD (R42, R123): reloaded, and held again with the sequencer source where the table fails its check. -/
def State.startEng (s : State) : State :=
  let s := s.loadEng
  let k := s.key 3 0xFF 8 0
  if s.tideCheck then s.clearing k
  else ({ s.setRegion .eng .hold with tide := { s.tide with checkFailed := true } }).raise k 0

/-- What stops with a region that does not run in the new mode; the lanes are trained again when PAIR reaches ON (R342). -/
def State.stopRegions (s : State) : State :=
  let s := if s.regionOn .sns then s else forUnits (List.range 4) (fun t g => t.stopGroup g) { s with log := { s.log with running := false } }
  let s := if s.regionOn .sadc then s else s.stopAdc
  let s := if s.regionOn .eng then s else forUnits (List.range 64) (fun t l => t.stopInst l) s
  let s := if s.regionOn .pair then s else { s with pair := { s.pair with lanes := [false, false] } }
  if s.regionOn .pwm then s else s.stopStages (if s.inMode .lockout then .safe else .disabled)

/-- The sources of a region that is powered down are inactive; nothing is recorded, and a latched fault is kept for the region's next start (R29). -/
def State.dropSources (s : State) : State :=
  let down := fun (k : Key) => s.poweredDown k.region
  { s with faults := { s.faults with
      active := s.faults.active.filter (fun a => !down a.key) ++ s.faults.latched.filter fun a => !down a.key
      latched := s.faults.latched.filter (fun a => down a.key) ++ s.faults.active.filter fun a => down a.key && a.key.latches
      sheds := s.faults.sheds.filter fun k => !down k } }

/-- The buckets of the SRAM instances of a region that is powered down are empty: they count from its start (R447, R452). -/
def State.dropBuckets (s : State) : State :=
  { s with mem := { s.mem with sram := s.mem.sram.mapIdx fun i b => if s.poweredDown (i / 27 + 1) then {} else b } }

/-- The region states of a mode, SNS and ENG started where the mode has them ON and they were not (R42); a lay-up entry from MOORED keeps SUP, SADC and NVM
powered for its length (R282). -/
def State.applyRegions (s : State) (m : Mode) : State :=
  let was := s.regionOn .sns
  let wasEng := s.regionOn .eng
  let l := regionsOf m
  let l := if s.part.has .ddr 0 then l else put l Region.mem.idx .off
  let l := if m == .moored && s.dead.entering then put (put (put l Region.sup.idx .on) Region.sadc.idx .on) Region.nvm.idx .on else l
  let s := { s with mode := { s.mode with regions := l } }
  let s := s.stopRegions.dropSources.dropBuckets
  let s := if s.regionOn .eng && !wasEng then s.startEng else s
  if s.regionOn .sns && !was then s.startSns else s

/-- A string that a descent finds: the precharge ends, and a contactor not yet confirmed opens (R40, R45: the rise stops where it stands). -/
def State.haltString (s : State) (k : Nat) : State :=
  let v := s.str k
  if v.connected then s.setStr k { v with precharging := false, prechargeWaiting := false } else s.openString k

/-- SUP, NET and NVM out of retention while a wake is served in MOORED, or back in it (Table 02-9 steps 3 and 5; log entry 112). -/
def State.serveRegions (s : State) (on : Bool) : State :=
  if s.inMode .moored then
    let up := on || s.dead.entering
    let s := ((s.setRegion .sup (if up then .on else .ret)).setRegion .net (if on then .on else .ret)).setRegion .nvm (if up then .on else .duty)
    if on then s else s.dropSources.dropBuckets
  else s

/-! Modes (R43, R46, R517). -/

/-- A request in progress that an automatic transition overrides reads 3 (R46). -/
def State.supersedeRequest (s : State) : State :=
  { s with mode := { s.mode with reqStatus := if s.mode.reqStatus = 1 then 3 else s.mode.reqStatus } }

/-- The entry to a mode completes the request in progress (R517). DESIGN CHOICE (log entry 141): a RISE asked for by 0x06 that ends in BLACKSTART is
complete there. -/
def requestDone (req : Nat) (m : Mode) : Bool :=
  match m with
  | .rise => req == 4
  | .service => req == 9
  | .active => req == 6
  | .track => req == 6
  | .blackstart => req == 6
  | .moored => req == 3 || req == 0x0A
  | .layup => req == 2 || req == 0x0A
  | .boot => true
  | .pilot => false | .holdup => false | .descent => false | .lockout => false

/-- A supply state is entered (R220, R221); SOURCE starts the low-pass at P_load (R208). DESIGN CHOICE (log entry 171): a `HandbackCommand` that is held
stays held where BATTERY is left before its dwell ends. -/
def State.enterSupply (s : State) (u : SupplyState) : State :=
  { s with spm := { s.spm with supply := u, supplySince := s.now, lpf := if u = .source then s.spm.pLoad else s.spm.lpf
                               grant := if u = .source then s.spm.grant else 0, hbStep := .none } }

/-- The supply state that a mode's entry gives, where it gives one (R220). -/
def State.modeSupply (s : State) (m : Mode) : State :=
  match m with
  | .active => if s.spm.supply = .source then s else s.enterSupply .source
  | .holdup => s
  | .track => s
  | _ => if s.spm.supply = .offline then s else s.enterSupply .offline

/-- A mode is entered (R43): cause, previous mode, time, regions, supply state, record. Entry to RISE ends a TRIP's hold on `TRIP_N` (R48)
and clears the lay-up flag (R285). -/
def State.enterMode (s : State) (m : Mode) (cause : Nat) : State :=
  let old := s.mode.mode
  let s := { s with mode := { s.mode with mode := m, prev := old.code, cause := cause, since := s.now
                                          reqStatus := if s.mode.reqStatus = 1 ∧ requestDone s.mode.req m = true then 2 else s.mode.reqStatus
                                          tripInForce := s.mode.tripInForce && m != Mode.rise } }
  let s := { s with supply := { s.supply with layupFlag := s.supply.layupFlag && m != Mode.rise } }
  let s := (s.applyRegions m).modeSupply m
  (s.note 0x0010 (leBytes 1 old.code ++ leBytes 1 m.code ++ leBytes 2 cause)).driveTrip

/-- A descent begins (R44, R48, R298): feeds off, stages stopping, target and cause noted. A TRIP makes every output safe. A rise program stops where it
stands, and no rail is switched on again (R45, R299). -/
def State.beginDescent (s : State) (target : Mode) (cause : Nat) (trip : Bool) : State :=
  let s := { s with mode := { s.mode with descentTo := if trip && target == .boot then .moored else target, descentByTrip := trip
                                          descentPrograms := false, tripInForce := s.mode.tripInForce || trip }
                    railGroups := s.railGroups.map fun (g : RailGroup) => { g with running := g.running && g.phase != .rising } }
  let s := forUnits [0, 1, 2, 3] (fun t f => let t := t.gateOff f; t.setFeed f { t.feed f with on := false }) s
  let s := if trip then s.outputsSafe .safe
    else forUnits (List.range 8) (fun t k => t.haltString k)
      (forUnits ((List.range 8).filter fun n => s.stageUsed n && s.stageType n != 1) (fun t n => t.applyStageStop n) s)
  let s := s.enterMode .descent cause
  if trip then s.setRegion .pwm .safe else s

/-- A start-up step completes, with its milestone in µs; a step completed again keeps its first time (R51, Table 02-6). -/
def State.milestone (s : State) (n : Nat) : State :=
  let l := s.mode.milestones
  { s with mode := { s.mode with step := n, milestones := if nth l (n - 1) 0 = 0xFFFFFFFF then put l (n - 1) (s.since s.supply.porTick / ticksPerUs) else l } }

/-! Commands to partners (R426). -/

/-- Rounded to the nearest integer, ties to even. -/
def roundEven (v : Rat) : Int := if v < 0 then -(rne (-v) : Int) else rne v

/-- The binary16 pattern nearest to a value. -/
def halfBits (v : Rat) : Nat :=
  let sg := if v < 0 then 0x8000 else 0
  let a := absR v
  if a = 0 then sg
  else
    let e := F32.expOf a
    if e < -14 then sg + rne (a * 2 ^ 24)
    else
      let m := rne (a * pow2 (10 - e))
      let r := (e + 15).toNat * 1024 + (m - 1024)
      sg + min 0x7C00 r

/-- The low bits of a signed value. -/
def wordOf (n : Nat) (v : Int) : Nat := (v % (2 ^ n : Int)).toNat

/-- A signed field of a number. -/
def signedField (v lo w : Nat) : Int := let f := bits v lo w; if f < 2 ^ (w - 1) then f else (f : Int) - 2 ^ w

/-- A voltage encoded by the berth's VOUT_MODE (R426); none in VID mode. -/
def State.voutCode (s : State) (b : Nat) (v : Rat) (signed : Bool) : Option Nat :=
  let m := (s.berth b).voutMode
  match bits m 5 3 with
  | 0 =>
    let r := roundEven (v * pow2 (-(signedField m 0 5)))
    some (wordOf 16 (if signed then max (-32768) (min 32767 r) else max 0 (min 65535 r)))
  | 2 =>
    let k := s.objI (0x4900 + b) 0x2A
    let ten : Rat := if 0 ≤ k then (10 : Rat) ^ k.toNat else 1 / (10 : Rat) ^ (-k).toNat
    some (wordOf 16 (roundEven (((s.objI (0x4900 + b) 0x28 : Rat) * v + (s.objI (0x4900 + b) 0x29 : Rat)) * ten)))
  | 3 => some (halfBits v)
  | _ => none

/-- The port is busy at an address of its own: a mailbox block or 8 Host Notify messages wait for the cores (R413). -/
def Port.busyNow (v : Port) : Bool := v.mailboxBusy || decide (8 ≤ v.notifyQueue.length)

/-- A command queued to a berth, in place of an unsent one of its code; dropped for an absent berth (R426). A host command that is replaced unsent
has failed (DESIGN CHOICE, log entry 154). -/
def State.queueCmd (s : State) (c : PCmd) : State :=
  if (s.berth c.berth).present then
    let n := c.berth / 16
    let p := s.port n
    let v := s.berth c.berth
    let s := if p.cmds.any (fun x => x.berth == c.berth && x.code == c.code && x.host) then s.setBerth c.berth { v with hostStatus := 3 } else s
    s.setPort n { p with cmds := (p.cmds.filter fun x => !(x.berth == c.berth && x.code == c.code)) ++ [c] }
  else s

/-- OPERATION to a berth; 0x00 to a rail forced off has rank 1 (R408). -/
def State.queueOperation (s : State) (b data rank : Nat) : State :=
  s.queueCmd { berth := b, code := 0x01, proto := 1, data := data, rank := rank }

/-- A voltage command to a berth, dropped in VID mode. -/
def State.queueVolts (s : State) (b code : Nat) (v : Rat) (signed : Bool) (rank : Nat) : State :=
  match s.voutCode b v signed with
  | some w => s.queueCmd { berth := b, code := code, proto := 2, data := w, rank := rank }
  | none => s

end Sys2Proof.Machine
end

