-- ==== Sys2Proof/Machine/Power.lean ====
section
/-! DEFINITION. The shelf power manager: sharing, caps, hold-up, hand-over and hand-back (chapter 07). -/
namespace Sys2Proof.Machine

/-! Quantities (R200 to R203). -/

def State.spmN (s : State) (sub : Nat) : Nat := s.objN 0x4500 sub
def State.spmR (s : State) (sub : Nat) : Rat := s.objR 0x4500 sub

/-- The shelf bus voltage. -/
def State.busVolts (s : State) : Rat := s.loopY (s.spmN 0x14)

/-- High-side power of a stage now: V_H × Σ d_p·i_p over its running phases (Table 07-1). -/
def State.stagePower (s : State) (n : Nat) : Rat :=
  s.loopY (s.objN (0x3000 + 256 * n) 0x14) * sumR ((s.runningPhases n).map fun p => F32.toRat (s.phase p).duty * s.loopY (s.phaseInput p))

/-- Mean high-side power of a stage over the update, or its power now where no sample came. -/
def State.meanPower (s : State) (n : Nat) : Rat :=
  let c := nth s.spm.stageCnt n 0
  if c = 0 then s.stagePower n else nth s.spm.stageSum n 0 / c

/-- Mean power of a feed over the update. -/
def State.meanFeed (s : State) (f : Nat) : Rat :=
  let c := nth s.spm.feedCnt f 0
  if c = 0 then (s.feed f).power else nth s.spm.feedSum f 0 / c

/-- Used stages of a type. -/
def State.stagesOf (s : State) (type : Nat) : List Nat := (List.range 8).filter fun n => s.stageUsed n && s.stageType n == type

/-- The string of a stage, and the stage of a string. -/
def State.strStage (s : State) (k : Nat) : Nat := s.objN (0x5001 + 256 * k) 6
def State.strVolts (s : State) (k : Nat) : Rat := s.loopY (s.objN (0x5001 + 256 * k) 3)

/-- The string is present and enabled by the image (R241). -/
def State.strUsed (s : State) (k : Nat) : Bool := s.part.has .string k && s.objN (0x5001 + 256 * k) 1 == 1

/-- A slack-water window takes the string out of sharing (R253). -/
def Slack.out : Slack → Bool
  | .rampDown => true | .rest => true
  | .none => false | .requested => false | .rampUp => false | .complete => false | .aborted => false | .refused => false

/-- A slack-water window runs (R251). -/
def Slack.runs : Slack → Bool
  | .rampDown => true | .rest => true | .rampUp => true
  | .none => false | .requested => false | .complete => false | .aborted => false | .refused => false

/-- A probe or a window runs on the side (R251). -/
def State.probeOrWindow (s : State) : Bool := s.spm.probe.isSome || s.strs.any fun v => v.slack.runs

/-- The string is in sharing (R206). -/
def State.inSharing (s : State) (k : Nat) : Bool :=
  let st := (s.stage (s.strStage k)).state
  s.strUsed k && (s.str k).connected && !(s.str k).shed && (st == .running || st == .degraded) && !(s.str k).slack.out

/-- Strings in sharing. -/
def State.sharers (s : State) : List Nat := (List.range 8).filter fun k => s.inSharing k

/-- The charge limit that the charger hands to the manager in place of the estimator's (R267). -/
def State.chargeLimit (s : State) (k : Nat) : Rat :=
  let c := s.charger k
  match c.phase with
  | .pulse => if c.inRest then 0 else c.iReq
  | .equalise => c.iReq
  | .finalRest => 0
  | .complete => 0
  | .terminated => 0
  | .idle => (s.str k).est.chgLim
  | .bulk => (s.str k).est.chgLim

def State.dischargeLimit (s : State) (k : Nat) : Rat := (s.str k).est.disLim

/-- The channel charges in this update (R266, R268, R272). -/
def State.charges (s : State) (k : Nat) : Bool :=
  let c := s.charger k
  (c.phase == .bulk || c.phase == .equalise || (c.phase == .pulse && !c.inRest)) && !c.paused && s.inSharing k

/-- Σ V_s × I_req (R266). -/
def State.chargeRequest (s : State) : Rat :=
  sumR (((List.range 8).filter fun k => s.charges k).map fun k => s.strVolts k * (s.charger k).iReq)

/-! Partners (R208 to R210, R222). -/

def State.berthKind (s : State) (b : Nat) : Nat := s.objN (0x4900 + b) 3
def State.reading (s : State) (b i : Nat) : Rat := F32.toRat (nth (s.berth b).vals.readings i 0)
def State.berthFault (s : State) (b : Nat) : Bool := nth (s.berth b).vals.flags 0 false
def State.berthOn (s : State) (b : Nat) : Bool := nth (s.berth b).vals.flags 1 false

/-- No run of the berth has been committed for 3 periods, or it has departed (Table 14-5). -/
def State.berthStale (s : State) (b : Nat) : Bool :=
  let p := s.objN (0x4900 + b) 6
  (s.berth b).stale || (p != 0 && (s.berth b).present && decide (3 * p * ticksPerMs ≤ s.since (s.berth b).committedAt))

/-- The offer of a rectifier (R425). -/
def State.offer (s : State) (b : Nat) : Rat :=
  if (s.berth b).hasOffer then s.reading b 7
  else if s.berthOn b && !s.berthFault b then s.objR 0x4503 (0x41 + b) else 0

/-- Rectifier partners in sharing. -/
def State.rectifiers (s : State) : List Nat := (List.range 64).filter fun b => nth s.spm.sharing b false

/-- A rectifier's output voltage lies within its image window (R222). -/
def State.berthInWindow (s : State) (b : Nat) : Bool :=
  match s.image with
  | none => true
  | some sl =>
    match sl.content.berthWindow.find? fun w => w.1 == b with
    | some w => decide (w.2.1 ≤ s.reading b 0) && decide (s.reading b 0 ≤ w.2.2)
    | none => true

/-- A rectifier partner can carry the bus (R53). -/
def State.rectifierCarries (s : State) : Bool :=
  (List.range 64).any fun b => (s.berth b).present && s.berthKind b == 1 && decide (0 < (s.berth b).runs) && s.berthOn b && !s.berthFault b
    && decide ((match s.image with | some sl => sl.content.minOffer | none => 0) ≤ s.offer b)

/-! The manager's fault source (Table 07-8). -/

/-- One detail of the spm source follows its condition; detail 1 is `no_source` (Table 07-10). -/
def State.spmDetail (s : State) (d : Nat) (c : Bool) : State :=
  let s := if d = 1 then { s with spm := { s.spm with noSource := c } } else s
  if c then
    if s.spm.details.contains d then s
    else ({ s with spm := { s.spm with details := d :: s.spm.details } }).raise (s.key 2 0xFF 4 1) d
  else
    let l := s.spm.details.filter (· != d)
    let s := { s with spm := { s.spm with details := l } }
    if l.isEmpty then s.clearing (s.key 2 0xFF 4 1) else s

/-! Caps (R212 to R215). -/

/-- `CapReduction` (R212). -/
def State.capReduction (s : State) : Rat := sumR (s.obs.map (·.missing)) + s.spm.thermal
/-- P_cap (R212). -/
def State.effectiveCap (s : State) : Rat := maxR 0 (minR (s.spmR 4) 600000 - s.capReduction)
def State.absorbCap (s : State) : Rat := s.spmR 5
/-- P_shelf and P_abs (Table 07-1). -/
def Spm.shelf (m : Spm) : Rat := m.pRect + m.pBat + m.pHold
def Spm.absorb (m : Spm) : Rat := maxR 0 (-(m.pBat + m.pHold))

/-- An input feed conducts and is qualified (R208). -/
def State.feedConducts (s : State) (f : Nat) : Bool := (s.feed f).gate && (s.feed f).qualified

/-- `SourceHeadroom` (R208). The rated power of a feed is its rated current at its present voltage (DEDUCED, log entry 14). -/
def State.headroom (s : State) : Rat :=
  sumR (s.rectifiers.map fun b => s.offer b)
    + sumR (([0, 1].filter fun f => s.feedConducts f).map fun f => s.objR (0x4400 + 16 * f) 0x10 * s.loopY (s.objN (0x4400 + 16 * f) 3))

/-! Windows (Table 07-2). -/

/-- A window written: out_lo and out_hi of the stage's window instance, and the record of it (R202). -/
def State.setWindow (s : State) (n : Nat) (lo hi : Rat) : State :=
  let lp := s.objN 0x4505 (1 + n)
  let s := { s with spm := { s.spm with winLo := put s.spm.winLo n lo, winHi := put s.spm.winHi n hi } }
  if lp < 64 then (s.setObj (0x3900 + lp) 9 (realBytes lo)).setObj (0x3900 + lp) 10 (realBytes hi) else s

/-- B_s (R203). -/
def State.followBand (s : State) (k : Nat) : Rat := s.spmR 0x12 * s.dischargeLimit k

/-- The FOLLOW window of a string around a current. DESIGN CHOICE (log entry 146): while the shelf stands above its cap the band is shut towards
discharge, and while it absorbs more than an `AbsorbCap` above 0, towards charge (R213, R214). -/
def State.followWindow (s : State) (k : Nat) (i : Rat) : Rat × Rat :=
  let B := s.followBand k
  let dn := if s.spm.absorbCapped && decide (0 < s.absorbCap) then 0 else B
  let up := if s.spm.capped then 0 else B
  (maxR (i - dn) (-(s.chargeLimit k)), minR (i + up) (s.dischargeLimit k))

/-- The current of Table 08-1 for a string in a slack-water window. -/
def State.slackCurrent (s : State) (k : Nat) : Rat :=
  let v := s.str k
  if v.slack = .rampDown then v.slackI0 * maxR 0 (1 - secOf (s.since v.slackFrom) / 10) else 0

/-- The current that the fender and the phase limits let a stage carry (R164, R204): the sum over its phases that are not dropped. -/
def State.stageBound (s : State) (n : Nat) : Rat := sumR (((s.stagePhases n).filter fun p => !(s.phase p).dropped).map fun p => s.fenderLimitOf n p)

/-- A window within the protection bounds of its stage (R204). -/
def boundWindow (b : Rat) (w : Rat × Rat) : Rat × Rat := (clampR w.1 (-b) b, clampR w.2 (-b) b)

/-- The window of a string's stage before the protection bounds (Table 07-2, R253, R262, R269, R279). -/
def State.stringWindow (s : State) (k : Nat) : Rat × Rat :=
  let v := s.str k
  let ref := divR (nth s.spm.ref k 0) (s.strVolts k)
  let hi := if s.inMode .blackstart then minR (s.dischargeLimit k) (s.objR 0x5900 3) else s.dischargeLimit k
  if v.shed then (0, 0)
  else match s.spm.supply with
  | .source =>
    if v.slack.out then (s.slackCurrent k, s.slackCurrent k)
    else if (s.charger k).inRest && !(s.charger k).loaded then (0, 0)
    else if v.slackUpFrom ≠ 0 then s.followWindow k (v.slackUpI0 + (ref - v.slackUpI0) * minR 1 (secOf (s.since v.slackUpFrom) / 10))
    else s.followWindow k ref
  | .handback =>
    if s.spm.hbStep = .ramping then
      let f := minR 1 (divR (secOf (s.since s.spm.hbRampFrom)) (s.objR 0x4501 7))
      let i0 := nth s.spm.hbFrom k 0
      s.followWindow k (i0 + f * (ref - i0))
    else (-(s.chargeLimit k), hi)
  | .handover => (-(s.chargeLimit k), hi)
  | .battery => (-(s.chargeLimit k), hi)
  | .offline => (-(s.chargeLimit k), hi)

/-- The window of a HOLD stage: STANDBY, CARRY, or shut by the cap towards discharge (R213), by the absorb cap towards recharge (R214). -/
def State.holdWindow (s : State) (n : Nat) (shut : Bool × Bool) : Rat × Rat :=
  let r := s.objR 0x4506 (1 + n)
  (if shut.2 then 0 else -(s.spmR 0x1E), if shut.1 then 0 else if s.spm.supply = .handover then r * s.spm.carry else r)

/-- Protection clips a window of a string or of a HOLD stage (R204). -/
def State.windowsClipped (s : State) (shut : Bool × Bool) : Bool :=
  let cut := fun n w => boundWindow (s.stageBound n) w != w
  (s.stagesOf 0).any (fun n => match s.stageString n with | some k => cut n (s.stringWindow k) | none => false)
    || (s.stagesOf 2).any fun n => cut n (s.holdWindow n shut)

/-- Windows of every BIDIR and HOLD stage, and the setpoint of HOLD stages (R203); a clip by protection sets `share_limited` (R204). -/
def State.writeWindows (s : State) (shut : Bool × Bool) : State :=
  let s := { s with spm := { s.spm with shareLimited := s.spm.shareLimited || s.windowsClipped shut } }
  let s := forUnits (s.stagesOf 0) (fun t n =>
    match t.stageString n with
    | some k => let w := boundWindow (t.stageBound n) (t.stringWindow k); t.setWindow n w.1 w.2
    | none => t) s
  let g := s.pg (s.spmN 3)
  let target := if g.seq = 0 then s.spmR 2 else g.target
  forUnits (s.stagesOf 2) (fun t n =>
    let w := boundWindow (t.stageBound n) (t.holdWindow n shut)
    let t := t.setWindow n w.1 w.2
    t.setStage n { t.stage n with setpointNext := F32.ofRat (target - t.spmR 0x15) }) s

/-! Sharing (R206, R207, R211). -/

/-- The weight of a string (R206), its states of charge in percent (log entry 132). -/
def State.weightOf (s : State) (charge : Bool) (mean : Rat) (k : Nat) : Rat :=
  let e := (s.str k).est
  if s.spmN 0x10 = 0 then e.q
  else e.q * maxR 0 (1 + (if charge then -1 else 1) * s.spmR 0x11 * (e.socR - mean))

/-- SoC_mean over the strings in sharing (R206). -/
def State.socMean (s : State) : Rat :=
  divR (sumR (s.sharers.map fun k => (s.str k).est.q * (s.str k).est.socR)) (sumR (s.sharers.map fun k => (s.str k).est.q))

/-- The limits of a string's power (R207), within what protection lets its stage carry (R204). -/
def State.powerLimits (s : State) (k : Nat) : Rat × Rat :=
  let b := s.stageBound (s.strStage k)
  (-(s.strVolts k * minR (s.chargeLimit k) b), s.strVolts k * minR (s.dischargeLimit k) b)

/-- One pass of R207: the excess is spread over the strings not at a limit, and each is set within its limits. -/
def sharePass (excess : Rat) (l : List (Nat × Rat × Rat × Rat × Rat)) : Rat × List (Nat × Rat × Rat × Rat × Rat) :=
  let free := l.filter fun x => if 0 < excess then decide (x.2.2.1 < x.2.2.2.2) else decide (x.2.2.2.1 < x.2.2.1)
  let W := sumR (free.map fun x => x.2.1)
  let l' := l.map fun x =>
    if free.any fun y => y.1 == x.1 then (x.1, x.2.1, clampR (x.2.2.1 + excess * divR x.2.1 W) x.2.2.2.1 x.2.2.2.2, x.2.2.2.1, x.2.2.2.2) else x
  (excess - (sumR (l'.map fun x => x.2.2.1) - sumR (l.map fun x => x.2.2.1)), l')

/-- At most n passes. -/
def sharePasses : Nat → Rat → List (Nat × Rat × Rat × Rat × Rat) → Rat × List (Nat × Rat × Rat × Rat × Rat)
  | 0, e, l => (e, l)
  | n + 1, e, l => if e = 0 then (e, l) else let r := sharePass e l; sharePasses n r.1 r.2

/-- P*_s of every string for P_bat, and the power left unplaced (R207). Entries are (string, weight, power, lower, upper limit). -/
def State.shareOut (s : State) (pBat : Rat) : Rat × List (Nat × Rat × Rat × Rat × Rat) :=
  let mean := s.socMean
  sharePasses 5 pBat (s.sharers.map fun k => let b := s.powerLimits k; (k, s.weightOf (decide (pBat < 0)) mean k, 0, b.1, b.2))

/-- The shift of a probe on the allocations (R251): its string up, the others down in proportion to their weights. -/
def State.probeShift (s : State) (l : List (Nat × Rat × Rat × Rat × Rat)) : List (Nat × Rat × Rat × Rat × Rat) :=
  match s.spm.probe with
  | none => l
  | some (k, neg, _) =>
    let d := (if neg then -1 else 1) * s.strVolts k * s.objR (0x5006 + 256 * k) 2 * (s.str k).est.q / 3600
    let W := sumR ((l.filter fun x => x.1 != k).map fun x => x.2.1)
    l.map fun x => (x.1, x.2.1, if x.1 = k then x.2.2.1 + d else x.2.2.1 - d * divR x.2.1 W, x.2.2.2.1, x.2.2.2.2)

/-- The sharing of a confirmed HANDBACK (R204): no cap, no absorb cap and no grant. -/
def State.shareUncapped (s : State) : State :=
  let m := s.spm
  let r := s.shareOut (m.pLoad - m.pSrc)
  let of := fun (l : List (Nat × Rat × Rat × Rat × Rat)) (g : Rat × Rat × Rat × Rat → Rat) =>
    (List.range 8).map fun k => match l.find? fun x => x.1 == k with | some x => g x.2 | none => 0
  { s with spm := { m with ref := of r.2 (fun x => x.2.1), weight := of r.2 (fun x => x.1)
                           rectCut := 0, grant := 0, grantNext := 0, granted := List.replicate 8 0
                           capped := false, absorbCapped := false, shareLimited := r.1 != 0 } }

/-- A new P_cap is applied (R213): the response to it is timed from here. -/
def Spm.applyCap (m : Spm) (cap : Rat) (now : Nat) : Spm := if cap = m.lastCap then m else { m with lastCap := cap, capAt := now, capReached := false }

/-- The allocations in SOURCE (R204 to R214): strings, rectifiers, charging grant. The cap takes from the strings at once, from the rectifiers in
proportion to their present power; the grant in force is reduced at once where room is short, and a new one takes effect at the next update. A clip of any
of them sets `share_limited` (R204), and the room for charging is what the strings and the HOLD stages leave of `AbsorbCap` (R211). Answers
with it whether the HOLD windows are shut, towards discharge and towards recharge. -/
def State.allocate (s : State) : State × Bool × Bool :=
  let m := s.spm.applyCap s.effectiveCap s.now
  let pb0 := m.pLoad - m.pSrc
  let offers := sumR (s.rectifiers.map fun b => s.offer b)
  let rect0 := minR m.pSrc offers
  let cap := s.effectiveCap
  let shut := decide (cap < m.shelf) && decide (0 < m.pHold)
  let shutLo := decide (s.absorbCap < m.absorb) && decide (m.pHold < 0)
  let hold := if shut || shutLo then 0 else m.pHold
  let pb1 := minR pb0 (cap - m.pRect - hold)
  let above := decide (cap < m.shelf)
  let clip := decide (pb1 < pb0)
  let cut := maxR 0 (rect0 + pb0 + hold - cap) * divR m.pRect (m.pRect + maxR 0 m.pBat)
  let absLim := -(s.absorbCap) - hold
  let pb := maxR pb1 absLim
  let ab := decide (pb1 < absLim)
  let r := s.shareOut pb
  let l := s.probeShift r.2
  let placed := sumR (l.map fun x => x.2.2.1)
  let want := s.chargeRequest
  let room := if m.grantHeld then 0 else maxR 0 (minR (minR want (s.absorbCap - maxR 0 (-(placed + minR 0 hold)))) (s.headroom - m.pSrc))
  let grant := minR m.grant room
  let gr := (List.range 8).map fun k => if s.charges k then grant * divR (s.strVolts k * (s.charger k).iReq) want else 0
  let ref := (List.range 8).map fun k =>
    match l.find? fun x => x.1 == k with
    | some x => (if (s.charger k).inRest then 0 else x.2.2.1) - nth gr k 0
    | none => 0
  let w := (List.range 8).map fun k => match l.find? fun x => x.1 == k with | some x => x.2.1 | none => 0
  ({ s with spm := { m with ref := ref, weight := w, grant := grant, grantNext := room, granted := gr, want := want, rectCut := minR rect0 cut
                            capped := clip || above, absorbCapped := ab || decide (s.absorbCap < m.absorb)
                            shareLimited := clip || above || decide (0 < minR rect0 cut) || ab || decide (s.absorbCap < m.absorb) || r.1 != 0 } }, shut, shutLo)

/-- What a probe's steps change, as it stands now. -/
def Str.mark (v : Str) : ProbeMark :=
  { r := [v.est.r0, v.est.r1, v.est.r2], rejected := v.rejected, rejectRun := v.rejectRun, steps := v.steps, stepAt := v.stepAt }

/-- A probe ended by a clip: the steps taken during it are undone, and no later step uses its means. -/
def Str.unprobed (v : Str) : Str :=
  let m := v.probeMark
  { v with probeState := 0, rejected := m.rejected, rejectRun := m.rejectRun, steps := m.steps, stepAt := m.stepAt
           est := { v.est with r0 := nth m.r 0 0, r1 := nth m.r 1 0, r2 := nth m.r 2 0, means := v.est.means.map fun x => { x with valid := false } } }

/-- A probe cannot go on: a higher function clips, SOURCE has ended, or its string shares with no other (R251). -/
def State.probeClipped (s : State) : Bool :=
  match s.spm.probe with
  | some (k, _, _) => s.spm.shareLimited || s.spm.supply != .source || !s.inSharing k || !s.sharers.any (· != k)
  | none => false

/-- A probe ended before its time: its shift goes, and its steps are not used (R251). -/
def State.endProbe (s : State) : State :=
  match s.spm.probe with
  | some (k, _, _) => ({ s with spm := { s.spm with probe := none } } : State).setStr k (s.str k).unprobed
  | none => s

/-- The allocations and windows of one computation (R204). In TRACK it writes nothing (R226). -/
def State.spmOnce (s : State) : State :=
  if s.inMode .track then s
  else if s.spm.supply = .source then let r := s.allocate; r.1.writeWindows r.2
  else if s.spm.supply = .handback ∧ s.spm.hbStep = .ramping then s.shareUncapped.writeWindows (false, false)
  else
    ({ s with spm := { s.spm with grant := 0, grantNext := 0, granted := List.replicate 8 0, rectCut := 0, capped := false, absorbCapped := false, shareLimited := false } }).writeWindows (false, false)

/-- One computation of the manager (R204): where a probe cannot go on, it is made again without the probe's shift (R251). -/
def State.spmCompute (s : State) : State :=
  let t := s.spmOnce
  if t.probeClipped && !t.inMode .track then t.endProbe.spmOnce else t

/-! The 1 ms update (R201). -/

/-- The quantities of Table 07-1 from the last 1 ms (R200), the low-pass and the source target (R208), and the grant that takes effect (R211).
DESIGN CHOICE (log entry 157): outside SOURCE the source target and its low-pass stay as they were, and a hand-back's allocation uses that target. -/
def State.spmMeasure (s : State) : State :=
  let m := s.spm
  let pBat := sumR ((s.stagesOf 0).map fun n => -(s.meanPower n))
  let pHold := sumR ((s.stagesOf 2).map fun n => -(s.meanPower n))
  let buck := sumR (((s.stagesOf 1).filter fun n => (s.stage n).state == .running).map fun n => s.meanPower n)
  let pLoad := s.meanFeed 2 + s.meanFeed 3 + buck
  let dt := secOf (s.since m.lastUpdate)
  let a := Config.exp (-(divR dt (s.spmR 7)))
  let lpf := pLoad + (m.lpf - pLoad) * a
  let want := minR s.headroom ((1 - s.spmR 6) * lpf)
  let step := s.spmR 0x19 * dt
  { s with spm := { m with
    pBat := pBat, pHold := pHold, pRect := sumR (s.rectifiers.map fun b => s.reading b 2), pFeed := s.meanFeed 0 + s.meanFeed 1, pLoad := pLoad
    lpf := if m.supply = .source then lpf else m.lpf
    grant := m.grantNext
    pSrc := if m.supply = .source then clampR want (m.pSrc - step) (m.pSrc + step) else m.pSrc
    stageSum := List.replicate 8 0, stageCnt := List.replicate 8 0, feedSum := List.replicate 4 0, feedCnt := List.replicate 4 0
    lastUpdate := s.now } }

/-- E_bank (R219). -/
def State.bankEnergy (s : State) : Rat :=
  sumR ((s.stagesOf 2).map fun n =>
    let v := s.loopY (s.objN (0x3000 + 256 * n) 0x13)
    nth s.thermal.bank n 0 * (v * v - s.spmR 0x18 * s.spmR 0x18) / 2)

/-- A string carries all that its limit allows. -/
def State.atDischargeLimit (s : State) (k : Nat) : Bool := decide (s.dischargeLimit k ≤ (s.str k).est.i)

/-- The hold-up budget is at its reserve (R219). -/
def State.reserveReached (s : State) : Bool :=
  let all := s.sharers.all fun k => s.atDischargeLimit k
  s.inMode .holdup && ((decide (s.bankEnergy ≤ s.spmR 0x16) && all) || (s.sharers.isEmpty && (s.stagesOf 2).isEmpty))

/-- A string carries all that its window lets its stage carry (R204, R219). -/
def State.atWindow (s : State) (k : Nat) : Bool :=
  decide ((boundWindow (s.stageBound (s.strStage k)) (s.stringWindow k)).2 ≤ (s.str k).est.i)

/-- The CARRY ramp advances, unless the strings' windows bind (R219). -/
def State.carryStep (s : State) : State :=
  let m := s.spm
  if m.supply = .handover then
    let bind := s.sharers.all fun k => s.atWindow k
    let d := divR (secOf (s.since m.carryAt)) (s.objR 0x4501 6)
    { s with spm := { m with carry := if bind then m.carry else maxR 0 (m.carry - d), carryAt := s.now } }
  else { s with spm := { m with carry := 1, carryAt := s.now } }

/-- The gate feedback of a feed has been confirmed since the gate command was given (R235). -/
def Feed.confirmed (v : Feed) : Bool := v.gate && v.gon && decide (v.gateAt ≤ v.gonSince)

/-- Step 3 of a hand-back is due (R224): the feed's gate is confirmed, or the partner's first poll in sharing reports its output on. -/
def State.handbackConfirmed (s : State) : Bool :=
  let m := s.spm
  if m.hbSource < 2 then (s.feed m.hbSource).confirmed
  else match m.hbShared with
    | some t => s.berthOn (m.hbSource - 2) && decide (t < (s.berth (m.hbSource - 2)).committedAt)
    | none => false

/-- Steps 2 and 3 of a hand-back (R224); a partner enters sharing at a 10 ms update (R210). -/
def State.handbackStep (s : State) : State :=
  let m := s.spm
  let g := s.pg (s.spmN 3)
  if m.supply ≠ .handback then s
  else match m.hbStep with
  | .moving =>
    if 2 ≤ m.hbSource then { s with spm := { m with hbStep := .allowed } }
    else if !g.moving && g.waiting.isNone then { s with spm := { m with hbStep := .allowed } } else s
  | .allowed =>
    if s.handbackConfirmed then { s with spm := { m with hbStep := .ramping, hbRampFrom := s.now, hbFrom := (List.range 8).map fun k => (s.str k).est.i } } else s
  | .ramping => s
  | .none => s

/-- The cap and the absorb cap watched (R213, R214), with the time in which the shelf has followed a new cap, and the windows' limit (Table 07-8, detail
0x07). -/
def State.capWatch (s : State) : State :=
  let m := s.spm
  let src := m.supply == .source
  let reached := decide (m.shelf ≤ s.effectiveCap) || !src
  let ovr := if reached then none else some (m.overCapSince.getD (if m.capReached then s.now else m.capAt))
  let overA := s.track m.overAbsorbSince (src && decide (s.absorbCap < m.absorb))
  let lim := s.track m.limitedSince (src && m.shareLimited)
  let s := { s with spm := { m with
    capReached := m.capReached || reached
    capResponse := if reached && !m.capReached then s.now - m.capAt else m.capResponse
    overCapSince := ovr, overAbsorbSince := overA, limitedSince := lim } }
  let s := s.spmDetail 2 (s.heldFor ovr (1 / 1000))
  let s := s.spmDetail 3 (s.heldFor overA (1 / 1000))
  s.spmDetail 7 (s.heldFor lim 1)

/-- The highest P*_s of the last 60 s (R252). -/
def State.refHistory (s : State) : State :=
  { s with spm := { s.spm with refHist := (List.range 8).map fun k =>
      ((s.now, nth s.spm.ref k 0) :: nth s.spm.refHist k []).filter fun x => decide (s.now ≤ x.1 + 60 * ticksPerS) } }

/-- The margin condition of a slack-water window or a pinned rest (R252). -/
def State.slackMargin (s : State) (k : Nat) (pPlus pMinus : Rat) : Bool :=
  let others := s.sharers.filter (· != k)
  let ref := fun o => nth s.spm.ref o 0
  let dis := sumR (others.map fun o => maxR 0 (s.strVolts o * s.dischargeLimit o - ref o)) + maxR 0 (s.headroom - s.spm.pSrc)
  let chg := sumR (others.map fun o => maxR 0 (s.strVolts o * s.chargeLimit o + ref o))
  decide (11 / 10 * pPlus ≤ dis) && decide (11 / 10 * pMinus ≤ chg)

/-- P⁺ and P⁻ of a string: the highest P*_s and −P*_s of the last 60 s, not below 0 (R252). -/
def State.peakRef (s : State) (k : Nat) (neg : Bool) : Rat :=
  (nth s.spm.refHist k []).foldl (fun m x => maxR m (if neg then -x.2 else x.2)) 0

/-- Windows before their commit point have their condition evaluated again (R253). -/
def State.slackWatch (s : State) : State :=
  forUnits (List.range 8) (fun t k =>
    let v := t.str k
    if v.slack.out then t.setStr k { v with marginBadSince := t.track v.marginBadSince (!t.slackMargin k v.pPlus v.pMinus) } else t) s

/-- A window may be granted (R252). -/
def State.slackGrantable (s : State) (k : Nat) : Bool :=
  let e := (s.str k).est
  s.spm.supply == .source && s.inSharing k && s.sharers.any (· != k) && !s.probeOrWindow && !e.endDis && !e.endChg
    && s.slackMargin k (s.peakRef k false) (s.peakRef k true)

/-- A requested window is granted or refused (R252). -/
def State.decideSlack (s : State) (k : Nat) : State :=
  let v := s.str k
  if v.slack != .requested then s
  else if s.slackGrantable k then
    (s.setStr k { v with slack := .rampDown, slackFrom := s.now, slackI0 := v.est.i, slackUpFrom := 0
                         pPlus := s.peakRef k false, pMinus := s.peakRef k true, marginBadSince := none, refusedSince := none }).spmCompute
  else s.setStr k { v with slack := .refused, slackRefusals := v.slackRefusals + 1, refusedSince := s.track v.refusedSince true }

/-- Requests of windows, decided at an update of the manager (R252). -/
def State.decideSlacks (s : State) : State := forUnits (List.range 8) (fun t k => t.decideSlack k) s

/-- A window at an input loss (R254): before its commit point it is aborted, after it, complete. -/
def State.slackLost (s : State) (k : Nat) : State :=
  let v := s.str k
  if v.slack.out then s.setStr k { v with slack := .aborted, slackAborts := v.slackAborts + 1, slackUpFrom := 0, marginBadSince := none }
  else if v.slack = .rampUp then (s.setStr k { v with slack := .complete, slackDone := v.slackDone + 1, slackUpFrom := 0 }).clearing (s.key 2 k 0x0B 0)
  else s.setStr k { v with slackUpFrom := 0 }

/-- The update of the manager (R201). -/
def State.spmUpdate (s : State) : State :=
  let s := (s.spmMeasure.carryStep).handbackStep
  let s := s.spmCompute
  let s := s.refHistory.slackWatch
  if s.inMode .track then s
  else
    let s := s.capWatch.decideSlacks
    if s.reserveReached then (s.spmDetail 4 true).supersedeRequest.beginDescent .moored 0x0032 false else s

/-- The shelf power manager runs: SUP is ON, its cores run, and no SHED has stopped it (R28). -/
def State.spmRuns (s : State) : Bool := s.regionOn .sup && !s.coresHalted && !s.isShed 2 0xFF 4

/-- SPM_UPDATE (R201): every 1 ms at a carrier boundary of `ref_stage`. -/
def execSpmUpdate (s : State) : Host.Outcome State Fault Refusal :=
  .next (if s.spmRuns && decide (ticksPerMs ≤ s.since s.spm.lastUpdate) then s.spmUpdate.tellUpdate else s)

/-- SPM_RECOMPUTE (R201): within 100 µs of an event. -/
def execSpmRecompute (s : State) : Host.Outcome State Fault Refusal :=
  .next (if s.spmRuns then s.spmCompute else s)

/-! Droop trims (R209, R210). -/

/-- A rectifier may be in sharing: qualified, present and on, and the state allows it; the partner of a hand-back is being switched on (R210, R222 to
R224, R280). -/
def State.mayShare (s : State) (b : Nat) : Bool :=
  (s.berth b).present && s.berthKind b == 1 && nth s.spm.qualBerth b false && !s.berthFault b
    && ((s.spm.supply == .source && s.berthOn b) || (s.spm.supply == .handback && s.spm.hbSource == 2 + b && s.spm.hbStep != .moving))

/-- A partner in sharing that its poll reports absent, off or faulted (R210). The partner that a hand-back is about to switch on is not off yet. -/
def State.mustLeave (s : State) (b : Nat) : Bool :=
  let m := s.spm
  !(s.berth b).present || s.berthFault b || (!s.berthOn b && !(m.supply == .handback && m.hbSource == 2 + b && m.hbStep != .ramping))

/-- Partners that leave and enter sharing at a 10 ms update (R210). -/
def State.shareBerth (s : State) (b : Nat) : State :=
  let m := s.spm
  if nth m.sharing b false then
    if s.mustLeave b then { s with spm := { m with sharing := put m.sharing b false, trimAtMax := put m.trimAtMax b none } } else s
  else if s.mayShare b then
    { s with spm := { m with sharing := put m.sharing b true, trim := put m.trim b 0, trimAtMax := put m.trimAtMax b none
                             hbShared := if m.supply == .handback then some s.now else m.hbShared } }
  else s

/-- Power that the rectifiers in sharing are asked for (R209): the source target within their offers of this update, less the cap's part; 0 while the
supply state gives them no target (R217). -/
def State.rectTarget (s : State) : Rat :=
  let m := s.spm
  if m.supply == .source || (m.supply == .handback && m.hbStep == .ramping) then maxR 0 (minR m.pSrc (sumR (s.rectifiers.map fun b => s.offer b)) - m.rectCut)
  else 0

/-- The trim of a rectifier in sharing at a 10 ms update (R209), kept where its latest poll is missing. -/
def State.trimOf (s : State) (b : Nat) : Rat :=
  let m := s.spm
  let W := sumR (s.rectifiers.map fun c => s.objR 0x4503 (0x41 + c))
  let I := divR (s.rectTarget * divR (s.objR 0x4503 (0x41 + b)) W) s.busVolts
  let lim := s.spmR 0x1C
  if s.berthStale b || decide (0 < (s.berth b).failRun) then nth m.trim b 0
  else clampR (nth m.trim b 0 + s.spmR 0x1B * (I - s.reading b 1)) (-lim) lim

/-- One rectifier's trim of a 10 ms update, written with VOUT_TRIM (R209). -/
def State.trimBerth (s : State) (b : Nat) : State :=
  let m := s.spm
  if nth m.sharing b false then
    let t := s.trimOf b
    let s := { s with spm := { m with trim := put m.trim b t, trimAtMax := put m.trimAtMax b (s.track (nth m.trimAtMax b none) (decide (absR t = s.spmR 0x1C))) } }
    s.queueVolts b 0x22 t true 3
  else s

/-- DROOP_TRIM_UPDATE (R209, R210): every 10 ms, by the holder. Partners leave and enter first, so that a leaver's share is redistributed at once. -/
def execDroopTrimUpdate (s : State) : Host.Outcome State Fault Refusal :=
  .next (if s.regionOn .sup && !s.coresHalted && !s.inMode .track && s.pair.owns then
      let s := { s with spm := { s.spm with grantHeld := false } }
      let s := forUnits (List.range 64) (fun t b => t.shareBerth b) s
      let s := forUnits (List.range 64) (fun t b => t.trimBerth b) s
      s.spmDetail 5 (s.spm.trimAtMax.any fun t => s.heldFor t 1)
    else s)

/-! Share trims (R205). -/

/-- The running phases' mean trim taken from each of them. -/
def State.centreTrims (s : State) (n : Nat) : State :=
  let ps := s.runningPhases n
  let mean := divR (sumR (ps.map fun p => nth s.spm.shareTrim p 0)) ps.length
  { s with spm := { s.spm with shareTrim := ps.foldl (fun l p => put l p (nth l p 0 - mean)) s.spm.shareTrim } }

/-- A share trim written (R205). -/
def State.applyShareTrim (s : State) (p : Nat) (v : Rat) : State :=
  let s := { s with spm := { s.spm with shareTrim := put s.spm.shareTrim p v } }
  match s.stageOf p with
  | some n => s.centreTrims n
  | none => s

/-- PHASE_SHARE_TRIM_WRITE (R205). -/
def execPhaseShareTrimWrite (ch : Chan) (ph : Nat) (v : BitVec 32) (s : State) : Host.Outcome State Fault Refusal :=
  .next (s.guardedWrite ch 0x4504 (1 + ph) (leBytes 4 v.toNat) (if s.mayWriteCommon then 0 else stState) (s.applyShareTrim ph (F32.toRat v)))

/-! Input loss, hand-over and hand-back (R216 to R225). -/

/-- Input loss is due (R216); a TRIP or LOCKOUT that waits comes first (R46). DEDUCED, log entry 19: on a side with no enabled input feed and no rectifier partner there is no source to lose, and only
the bus decides. -/
def State.inputLossDue (s : State) : Bool :=
  let on := [0, 1].filter fun f => s.objN (0x4400 + 16 * f) 2 == 1
  let feeds := (!on.isEmpty || (List.range 64).any fun b => s.berthKind b == 1) && on.all fun f => (s.feed f).lost
  let rect := s.rectifiers.any fun b => decide (s.spmR 0x1D ≤ s.reading b 2)
  s.inMode .active && s.mode.pendingTrip.isNone && s.mode.pendingLockout.isNone && s.spm.supply == .source && ((feeds && !rect) || (s.modIn (s.spmN 0x14)).low)

/-- The sequence of Table 07-3. DESIGN CHOICE (log entry 171): a feed that is not lost, and conducts while the bus comparator declares the loss, keeps its
gate. -/
def State.declareInputLoss (s : State) : State :=
  let s := forUnits [0, 1] (fun t f => if (t.feed f).lost then t.gateOff f else t) s
  let s := (s.supersedeRequest.enterMode .holdup 0x0030).emcyOf 2 0
  let s := s.trigEvent { bit := 3, at_ := s.now, ref := some (s.refNow 0x0010 { id := 0, kind := 0 }) }
  let s := s.enterSupply .handover
  let s := { s with spm := { s.spm with rectCut := 0, grant := 0, grantNext := 0, granted := List.replicate 8 0, carry := 1, carryAt := s.now, handovers := s.spm.handovers + 1 } }
  (forUnits (List.range 8) (fun t k => t.slackLost k) s).spmCompute

/-- INPUT_LOSS (R216, R217). -/
def execInputLoss (s : State) : Host.Outcome State Fault Refusal := .next (if s.inputLossDue && !s.coresHalted then s.declareInputLoss else s)

/-- The dwell of the present supply state has ended (R221). -/
def State.dwellOver (s : State) : Bool := s.elapsed s.spm.supplySince 2

/-- HANDOVER_END (Table 07-4). -/
def execHandoverEnd (s : State) : Host.Outcome State Fault Refusal :=
  .next (if s.inMode .holdup && s.spm.supply == .handover && s.dwellOver && s.elapsed s.spm.supplySince (s.objR 0x4501 6) then
      (s.enterSupply .battery).carryStep.spmCompute
    else s)

/-- An input feed's fault sources (Table 07-8). -/
def State.feedKey (s : State) (f unit : Nat) : Key := s.key 4 (0x10 + f) unit 0

/-- A feed fault source is active. -/
def State.feedFaulty (s : State) (f : Nat) : Bool := (List.range 8).any fun u => u != 1 && u != 2 && u != 3 && s.isActive (s.feedKey f u)

/-- An input feed qualifies: its loss ends (R222, R230). -/
def State.qualifyFeed (s : State) (f : Nat) : State :=
  let s := s.setFeed f { s.feed f with qualified := true, lost := false }
  (s.clearing (s.feedKey f 2)).clearing (s.feedKey f 3)

/-- SOURCE_QUALIFIED (R222): 500 ms within limits. -/
def execSourceQualified (src : Nat) (s : State) : Host.Outcome State Fault Refusal :=
  .next (
    if src < 2 then
      if s.objN (0x4400 + 16 * src) 2 == 1 && s.heldFor (s.feed src).goodSince (1 / 2) && !s.feedFaulty src then s.qualifyFeed src else s
    else if (s.berth (src - 2)).present && s.berthKind (src - 2) == 1 && s.heldFor (nth s.spm.berthGoodSince (src - 2) none) (1 / 2) then
      { s with spm := { s.spm with qualBerth := put s.spm.qualBerth (src - 2) true } }
    else s)

/-- The sources that a hand-back may use, feeds first (R224). -/
def State.handbackSources (s : State) : List Nat :=
  ([0, 1].filter fun f => s.objN (0x4400 + 16 * f) 2 == 1 && (s.feed f).qualified)
    ++ ((List.range 64).filter fun b => nth s.spm.qualBerth b false && (s.berth b).present).map (2 + ·)

/-- What refuses a hand-back request (R224, R227). -/
def State.handbackStatus (s : State) (v : Nat) : Nat :=
  if !s.mayWriteCommon then stState
  else if v = 1 ∧ (s.spm.supply ≠ .battery ∨ s.handbackSources = []) then stState
  else 0

/-- HANDBACK_COMMAND (R224). -/
def execHandbackCommand (ch : Chan) (v : Nat) (s : State) : Host.Outcome State Fault Refusal :=
  .next (s.guardedWrite ch 0x4501 2 (leBytes 1 v) (s.handbackStatus v) { s with spm := { s.spm with hbRequested := v == 1 } })

/-- Retargeting the bus-voltage generator by the manager itself (R179, R224). -/
def State.retargetBus (s : State) (v : Rat) : State := s.acceptTarget (s.spmN 3) (F32.ofRat v)

/-- A hand-back starts (R224 step 1). -/
def State.startHandback (s : State) (src : Nat) : State :=
  let s := s.enterSupply .handback
  let s := { s with spm := { s.spm with hbStep := .moving, hbSource := src, hbRequested := false, hbShared := none } }
  let s := s.spmDetail 6 false
  if src < 2 then s.retargetBus (s.loopY (s.objN (0x4400 + 16 * src) 3) - s.objR (0x4400 + 16 * src) 0x0D - 1)
  else s.queueOperation (src - 2) 0x80 2

/-- HANDBACK_START (R224). -/
def execHandbackStart (s : State) : Host.Outcome State Fault Refusal :=
  .next (match s.handbackSources with
    | src :: _ =>
      if s.inMode .holdup && s.spm.supply == .battery && s.dwellOver && (s.spm.hbRequested || s.objN 0x4501 3 == 1) then s.startHandback src else s
    | [] => s)

/-- A hand-back is abandoned (R225); its source qualifies afresh. In TRACK the supply state is the active's (R226). -/
def State.abandonHandback (s : State) : State :=
  if s.inMode .track then s else
  let src := s.spm.hbSource
  let s := if src < 2 then (s.gateOff src).setFeed src { (s.gateOff src).feed src with qualified := false, goodSince := none }
    else { s with spm := { s.spm with sharing := put s.spm.sharing (src - 2) false, qualBerth := put s.spm.qualBerth (src - 2) false
                                      berthGoodSince := put s.spm.berthGoodSince (src - 2) none } }
  let s := s.enterSupply .battery
  let s := { s with spm := { s.spm with abandoned := s.spm.abandoned + 1 } }
  (s.spmDetail 6 true).spmCompute

/-- The partner that a hand-back uses is absent, faulted, no longer qualified, or off again once it has been reported on: the hand-back is abandoned
(R225). -/
def State.handbackWatch (s : State) (b : Nat) : State :=
  if s.spm.supply == .handback && s.spm.hbSource == 2 + b
      && (!(s.berth b).present || s.berthFault b || !nth s.spm.qualBerth b false || (s.spm.hbStep == .ramping && !s.berthOn b)) then s.abandonHandback else s

/-- An output feed is switched on (Table 07-7a). -/
def State.switchOn (s : State) (f : Nat) : State :=
  s.setFeed f { s.feed f with on := true, inrush := true, inrushFrom := s.now, gate := true, gateAt := s.now, doneRun := 0, chopAt := none
                              trippedAt := none, runSince := s.now, shed := false, lost := false }

/-- An output feed may be switched on now (R231, R279). -/
def State.feedMayRun (s : State) (f : Nat) : Bool :=
  decide (2 ≤ f) && s.objN (0x4400 + 16 * f) 2 == 1 && s.pair.owns
    && (s.inModes [.active, .holdup] || (s.inMode .blackstart && s.objN 0x5900 7 == 0))

/-- Enabled output feeds switched on at the entry to ACTIVE (R231, R279). -/
def State.autoFeeds (s : State) : State :=
  forUnits [2, 3] (fun t f => if t.feedMayRun f && !(t.feed f).on && !(t.feed f).shed && (t.feed f).trippedAt.isNone then t.switchOn f else t) s

/-- HOLD stages that are stopped are started by the manager at the entry to ACTIVE (Table 05-1; DEDUCED, log entry 15). -/
def State.startHolds (s : State) : State :=
  forUnits (s.stagesOf 2) (fun t n => if (t.stage n).state == .disabled || (t.stage n).state == .unpowered then t.autoStart n else t) s

/-- ACTIVE reached, from RISE or by way of BLACKSTART: milestone 8, once in a start (R51, R54, Table 02-7). -/
def State.reachedActive (s : State) : State := if decide (6 ≤ s.mode.step) && decide (s.mode.step < 8) then s.milestone 8 else s

/-- The entry to ACTIVE, with what follows it. -/
def State.enterActive (s : State) (cause : Nat) : State := (((s.enterMode .active cause).autoFeeds.startHolds).spmDetail 1 false).reachedActive

/-- HANDBACK_RAMP_END (R224 step 4). -/
def execHandbackRampEnd (s : State) : Host.Outcome State Fault Refusal :=
  .next (if s.inMode .holdup && s.spm.supply == .handback && s.spm.hbStep == .ramping && s.elapsed s.spm.hbRampFrom (s.objR 0x4501 7) then
      let s := s.enterSupply .source
      let s := { s with spm := { s.spm with handbacks := s.spm.handbacks + 1, grantHeld := true } }
      let s := (s.spmDetail 4 false).spmDetail 6 false
      (s.enterActive 0x0031).retargetBus (s.spmR 2)
    else s)

end Sys2Proof.Machine
end

