-- ==== Sys2Proof/Machine/Rails.lean ====
section
/-! DEFINITION. The rail tree: sequencer programs, rise, descent, rail faults and margins (chapter 10, R288 to R303). -/
namespace Sys2Proof.Machine

/-! Rails (R288, R289). -/

def State.railR (s : State) (r sub : Nat) : Rat := s.objR (0x4310 + r) sub
def State.railGroupOf (s : State) (r : Nat) : Nat := s.railN r 3
def State.railSrc (s : State) (r : Nat) : Nat := s.railN r 6
/-- Rails of a group, and parents of a rail. -/
def State.groupRails (s : State) (g : Nat) : List Nat := (List.range 32).filter fun r => s.railUsed r && s.railGroupOf r == g
def State.parents (s : State) (r : Nat) : List Nat := (List.range 32).filter fun j => bit (s.railN r 7) j

/-- Ticks of the 32.768 kHz AO clock (R290). -/
def State.aoTick (s : State) : Nat := s.now * 32768 / 400000000

/-- The rail has a monitored value. -/
def State.railMonitored (s : State) (r : Nat) : Bool := s.railSrc r != 0xFF
/-- The monitored value comes from a modulator input. -/
def State.railMd (s : State) (r : Nat) : Bool := decide (0x40 ≤ s.railSrc r) && decide (s.railSrc r < 0x70)
/-- The latest monitored value, V. -/
def State.railVolts (s : State) (r : Nat) : Rat := if s.railMd r then s.loopY (s.railSrc r - 0x40) else (s.rail r).volts
/-- A value counts: an ADC or poll value only when taken after the last switching (R291). -/
def State.railFresh (s : State) (r : Nat) : Bool := s.railMd r || (s.rail r).fresh

def State.railLow (s : State) (r : Nat) : Rat := s.marginFactor r * s.railR r 8 * (1 - s.railR r 9 / 100)
def State.railHigh (s : State) (r : Nat) : Rat := s.marginFactor r * s.railR r 8 * (1 + s.railR r 0x0A / 100)
/-- A value lies inside the window. -/
def State.windowHas (s : State) (r : Nat) (v : Rat) : Bool := decide (s.railLow r ≤ v) && decide (v ≤ s.railHigh r)
/-- The monitored value counts and lies inside the window. -/
def State.inWindow (s : State) (r : Nat) : Bool := s.railFresh r && s.windowHas r (s.railVolts r)

/-- `AUXPGk` has been at a level for `PgFilter` ticks. -/
def State.pgIs (s : State) (r : Nat) (v : Bool) : Bool :=
  let x := s.rail r
  x.pgPin == v && decide (s.objN 0x4300 4 ≤ s.aoTick + 1 - x.pgAt)

/-- The rail is good (Table 10-1). -/
def State.railGood (s : State) (r : Nat) : Bool :=
  match s.railKind r with
  | 0 => (s.railN r 5 == 0xFF || s.pgIs r true) && (!s.railMonitored r || s.inWindow r)
  | 1 => (s.stage (s.railTarget r)).state == .running && (!s.railMonitored r || s.inWindow r)
  | 2 => (s.rail r).polled && !(s.rail r).partnerBad && s.windowHas r (s.rail r).vout
  | 3 => s.inWindow r
  | _ => false

/-- The rail is low (Table 10-1). -/
def State.railIsLow (s : State) (r : Nat) : Bool :=
  let below := s.railFresh r && decide (s.railVolts r < s.railR r 0x0B)
  match s.railKind r with
  | 0 => if s.railMonitored r then below else s.pgIs r false
  | 1 => !s.stageOn (s.railTarget r) && (!s.railMonitored r || below)
  | 2 => (s.rail r).polled && decide ((s.rail r).vout < s.railR r 0x0B)
  | _ => below

/-- Rails whose parent mask includes a rail of a list. -/
def State.childrenOf (s : State) (l : List Nat) : List Nat := (List.range 32).filter fun j => s.railUsed j && l.any fun r => bit (s.railN j 7) r

/-- Rails found from a list in n generations. -/
def State.descendants (s : State) : Nat → List Nat → List Nat
  | 0, _ => []
  | n + 1, l =>
    let c := s.childrenOf l
    if c.isEmpty then [] else c ++ s.descendants n c

/-- The dependants of a rail, directly or through other rails (R289). -/
def State.dependants (s : State) (r : Nat) : List Nat := (s.descendants 32 [r]).eraseDups

/-- The key of a rail's source: kind 1 rise, 2 run, 3 descent. -/
def State.railKey (s : State) (r kind : Nat) : Key := s.key 1 (s.railGroupOf r) r kind
def State.seqKey (s : State) : Key := s.key 1 0xFF 7 0

/-! Switching (R288, R291, R296). -/

/-- A rail switched on; a monitor rail and, by program, a stage rail are never switched. -/
def State.switchRailOn (s : State) (r : Nat) : State :=
  let x := s.rail r
  let s := s.setRail r { x with phase := .rising, on := s.railKind r != 3, fresh := false, polled := false, onAt := s.now, forcedOff := false, outRun := 0, pollRun := 0 }
  if s.railKind r = 2 then s.queueOperation (s.railTarget r) 0x80 2 else s

/-- A rail switched off: its output inactive, its stage stopped, or OPERATION 0x00 queued at a rank. -/
def State.switchRailOff (s : State) (r rank : Nat) : State :=
  let k := s.railKind r
  let s := s.railOff r
  if k = 1 then (if s.stageOn (s.railTarget r) then s.stopStage .disabled (s.railTarget r) else s)
  else if k = 2 then s.queueOperation (s.railTarget r) 0 rank else s

/-- A rail forced off at once (Table 10-4). -/
def State.forceOff (s : State) (r : Nat) : State :=
  if (s.rail r).on then
    let s := s.switchRailOff r 1
    s.setRail r { s.rail r with forcedOff := true }
  else s

/-- Every rail of the side still on switched off at once, without programs (R296). -/
def State.forceAllOff (s : State) : State := forUnits ((List.range 32).filter fun r => s.railUsed r) (fun t r => t.forceOff r) s

/-- A rail becomes good: its sources clear (Table 10-10). -/
def State.railRose (s : State) (r : Nat) : State :=
  let s := s.setRail r { s.rail r with phase := .good, rises := (s.rail r).rises + 1, outRun := 0, pollRun := 0 }
  ((s.clearing (s.railKey r 1)).clearing (s.railKey r 2)).clearing (s.railKey r 3)

/-! Group programs (R290 to R295). -/

/-- A program of the image has words: its first word is given. -/
def State.hasProgram (s : State) (idx : Nat) : Bool := (storeGet (objKey idx 1) s.imageValues).isSome

def State.keepsMoored (s : State) (g : Nat) : Bool := s.objN (0x4304 + g) 3 == 1

/-- Every group is RISEN, or has failed with the reaction SHED, and RISE goes on without it (R294). -/
def State.allRisen (s : State) : Bool := s.railGroups.all fun g => g.phase == .risen || (g.failed && (g.phase == .lowering || g.phase == .lowered))

/-- The rails are up: milestone 5 of RISE (Table 02-6). -/
def State.riseSettled (s : State) : State :=
  if s.inMode .rise && s.allRisen then
    let s := { s with thermal := { s.thermal with lastRise := s.since s.thermal.riseFrom } }
    if s.mode.step < 5 then s.milestone 5 else s
  else s

/-- A group is RISEN: the commit point of its program (R293); its monitor rails are watched from here on, and become good at
their first value inside the window (R288). -/
def State.groupRisen (s : State) (g : Nat) : State :=
  let v := s.railGroup g
  let s := s.setRailGroup g { v with phase := .risen, running := false, failed := false, abortPending := false, riseTime := s.since v.startAt, seenAt := s.aoTick + 1 }
  (forUnits ((s.groupRails g).filter fun r => s.railKind r == 3)
    (fun t r => t.setRail r { t.rail r with phase := if (t.rail r).phase == .good then .good else .rising, outRun := 0 }) s).riseSettled

/-- A group is LOWERED. -/
def State.groupLowered (s : State) (g : Nat) : State :=
  let s := s.setRailGroup g { s.railGroup g with phase := .lowered, running := false, abortPending := false, kept := false, seenAt := s.aoTick + 1 }
  forUnits ((s.groupRails g).filter fun r => s.railKind r == 3) (fun t r => t.setRail r { t.rail r with phase := .off }) s

/-- A phase that the other groups see in this very tick: complete at once (R292, R293). -/
def State.seenNow (s : State) (g : Nat) : State := s.setRailGroup g { s.railGroup g with seenAt := s.aoTick }

/-- The stage rails of a group that an earlier descent or failure left are free to be started in this rise (R293). -/
def State.freeStageRails (s : State) (g : Nat) : State :=
  forUnits ((s.groupRails g).filter fun r => s.railKind r == 1 && !(s.rail r).on) (fun t r => t.setRail r { t.rail r with phase := .off }) s

/-- The rise program of a group starts (R293); one of 0 instructions is complete at once (R292). -/
def State.startRise (s : State) (g : Nat) : State :=
  let has := s.hasProgram (0x4340 + g)
  let s := s.freeStageRails g
  let s := s.setRailGroup g { s.railGroup g with phase := .rising, running := true, failed := false, abortPending := false, pc := 0, nextAt := s.aoTick,
                                                 startAt := s.now, kept := false }
  if has then s else (s.groupRisen g).seenNow g

/-- The descent program of a group starts; one of 0 instructions is complete at once. Where it takes the place of a running rise, whose instruction this tick
has executed, its first word issues at the next tick (R290). -/
def State.startLower (s : State) (g : Nat) : State :=
  let s := s.setRailGroup g { s.railGroup g with phase := .lowering, running := true, abortPending := false, pc := 0,
                                                 nextAt := s.aoTick + b2n (s.railGroup g).running, startAt := s.now }
  if s.hasProgram (0x4344 + g) then s else (s.groupLowered g).seenNow g

/-- A rail of the group has been forced off (R296, R299, R300): the group is risen no more. -/
def State.groupForced (s : State) (g : Nat) : Bool := (s.groupRails g).any fun r => (s.rail r).forcedOff

/-- Rise programs start together at the entry to RISE (R293); a kept group still risen is RISEN at once. The seq source clears with the start. -/
def State.startRises (s : State) : State :=
  let s := { s.clearing s.seqKey with thermal := { s.thermal with riseFrom := s.now } }
  forUnits [0, 1, 2, 3] (fun t g => if t.keepsMoored g && (t.railGroup g).phase == .risen && (t.railGroup g).kept && !t.groupForced g then
      (((t.freeStageRails g).setRailGroup g { t.railGroup g with startAt := t.now, kept := false }).groupRisen g).seenNow g else t.startRise g) s

/-- What follows the failure of a group's rise by the class of its active source (R294, R320): SHED lowers the group, and RISE goes on with the others; a higher
class leaves it failed, but for an accepted abort, which still runs the descent program (R295). -/
def State.failGroup (s : State) (g : Nat) (k : Key) : State :=
  let cls := match s.activeOf k with | some a => a.cls | none => s.classOf k
  if cls = 3 ∨ (s.railGroup g).abortPending = true then
    let s := s.startLower g
    (s.setRailGroup g { s.railGroup g with failed := true, seenAt := s.aoTick + 1 }).riseSettled
  else s.setRailGroup g { s.railGroup g with phase := .failed, running := false, failed := true, seenAt := s.aoTick + 1 }

/-- A rise failure of a rail (R291, R294). -/
def State.riseFailure (s : State) (r detail : Nat) : State :=
  let x := s.rail r
  let s := s.setRail r { x with phase := .failed, riseFails := x.riseFails + 1, lastFault := detail }
  (s.raise (s.railKey r 1) detail).failGroup (s.railGroupOf r) (s.railKey r 1)

/-- A group wait failed (Table 10-3). -/
def State.waitFailure (s : State) (g : Nat) : State := (s.raise s.seqKey 3).failGroup g s.seqKey

/-- A rail's fault in a descent (R299): it and its dependants still on go off at once. -/
def State.descentFault (s : State) (r detail : Nat) : State :=
  let s := s.raise (s.railKey r 3) detail
  let s := s.setRail r { s.rail r with descFaults := (s.rail r).descFaults + 1, lastFault := detail }
  let s := s.forceOff r
  forUnits ((s.dependants r).filter fun j => (s.rail j).on)
    (fun t j => let t := t.forceOff j; t.setRail j { t.rail j with lastFault := 9 }) s

/-- The levels of `AUXPG0` to `AUXPG15` at this tick. -/
def State.seePins (s : State) (pins : Nat) : State :=
  forUnits ((List.range 32).filter fun r => s.railUsed r && decide (s.railN r 5 < 16))
    (fun t r => let v := bit pins (t.railN r 5)
                if (t.rail r).pgPin = v then t else t.setRail r { t.rail r with pgPin := v, pgAt := t.aoTick }) s

/-- The word that a running group program is at, 0 for none. -/
def State.seqWord (s : State) (g : Nat) : Nat :=
  let v := s.railGroup g
  s.objN ((if v.phase == .rising then 0x4340 else 0x4344) + g) (1 + v.pc)

/-- The group's program stands at an instruction with this operation, and the tick at which it issues has come. -/
def State.seqAt (s : State) (g op : Nat) : Bool :=
  let v := s.railGroup g
  v.running && decide (v.nextAt ≤ s.aoTick) && bits (s.seqWord g) 28 4 == op

def State.seqTarget (s : State) (g : Nat) : Nat := bits (s.seqWord g) 23 5
def State.seqTicks (s : State) (g : Nat) : Nat := bits (s.seqWord g) 0 16

/-- The next instruction issues at a tick; an abort that waits stops the rise here (R295). -/
def State.seqNext (s : State) (g at_ : Nat) : State :=
  let v := s.railGroup g
  if v.abortPending then s.startLower g
  else if v.running then s.setRailGroup g { v with pc := v.pc + 1, nextAt := at_ } else s

/-- The group is in its rise program, or in its descent program. -/
def State.rising (s : State) (g : Nat) : Bool := (s.railGroup g).phase == .rising

/-- SEQ_END (R291). -/
def execSeqEnd (g pins : Nat) (s : State) : Host.Outcome State Fault Refusal :=
  let s1 := s.seePins pins
  .next (if s1.seqAt g 0 then
      (if s1.rising g then (if (s1.railGroup g).abortPending then s1.startLower g else s1.groupRisen g) else s1.groupLowered g)
    else s)

/-- SEQ_ON (R291): every parent must be good by the values last known at the tick. -/
def execSeqOn (g pins : Nat) (s : State) : Host.Outcome State Fault Refusal :=
  let s1 := s.seePins pins
  let r := s1.seqTarget g
  .next (if s1.seqAt g 1 && s1.rising g then
      (if (s1.parents r).all s1.railGood then
        (if s1.railKind r = 1 then s1 else s1.switchRailOn r).seqNext g (s1.aoTick + 1)
      else s1.riseFailure r 2)
    else s)

/-- SEQ_OFF (R291): a rail already off completes with no action. -/
def execSeqOff (g pins : Nat) (s : State) : Host.Outcome State Fault Refusal :=
  let s1 := s.seePins pins
  let r := s1.seqTarget g
  .next (if s1.seqAt g 2 && !s1.rising g then
      (if (s1.rail r).on && s1.railKind r != 1 then s1.switchRailOff r 2 else s1).seqNext g (s1.aoTick + 1)
    else s)

/-- SEQ_WAITGOOD (R291). -/
def execSeqWaitgood (g pins : Nat) (s : State) : Host.Outcome State Fault Refusal :=
  let s1 := s.seePins pins
  let r := s1.seqTarget g
  .next (if s1.seqAt g 3 && s1.rising g then
      (if s1.railGood r then (s1.railRose r).seqNext g (s1.aoTick + 1)
      else if (s1.railGroup g).nextAt + s1.seqTicks g ≤ s1.aoTick then s1.riseFailure r 1
      else s1)
    else s)

/-- SEQ_WAITLOW (R291): a rail that does not fall is a descent fault, and the program continues. -/
def execSeqWaitlow (g pins : Nat) (s : State) : Host.Outcome State Fault Refusal :=
  let s1 := s.seePins pins
  let r := s1.seqTarget g
  .next (if s1.seqAt g 4 && !s1.rising g then
      (if s1.railIsLow r then (s1.setRail r { s1.rail r with phase := .off }).seqNext g (s1.aoTick + 1)
      else if (s1.railGroup g).nextAt + s1.seqTicks g ≤ s1.aoTick then (s1.descentFault r 8).seqNext g (s1.aoTick + 1)
      else s1)
    else s)

/-- SEQ_DELAY (R291): the next instruction issues max(1, t) ticks after this one issued; until then the DELAY is the present instruction. -/
def execSeqDelay (g pins : Nat) (s : State) : Host.Outcome State Fault Refusal :=
  let s1 := s.seePins pins
  let till := (s1.railGroup g).nextAt + max 1 (s1.seqTicks g)
  .next (if s1.seqAt g 5 then (if till ≤ s1.aoTick + 1 then s1.seqNext g till else s1) else s)

/-- SEQ_WAITGROUP (R291): what another group does in this tick is seen from the next. -/
def execSeqWaitgroup (g pins : Nat) (s : State) : Host.Outcome State Fault Refusal :=
  let s1 := s.seePins pins
  let w := s1.railGroup (bits (s1.seqWord g) 23 2)
  let late := decide ((s1.railGroup g).nextAt + s1.seqTicks g ≤ s1.aoTick)
  let seen := decide (w.seenAt ≤ s1.aoTick)
  .next (if s1.seqAt g 6 then
      (if s1.rising g then
        (if w.phase == .risen && seen then s1.seqNext g (s1.aoTick + 1) else if (w.failed && seen) || late then s1.waitFailure g else s1)
      else
        (if w.phase == .lowered && seen then s1.seqNext g (s1.aoTick + 1)
        else if late then
          (s1.setRailGroup g { s1.railGroup g with waitTimeouts := (s1.railGroup g).waitTimeouts + 1 }).seqNext g (s1.aoTick + 1)
        else s1))
    else s)

/-- SEQ_MARK (R291). -/
def execSeqMark (g pins : Nat) (s : State) : Host.Outcome State Fault Refusal :=
  let s1 := s.seePins pins
  .next (if s1.seqAt g 7 then
      (s1.setRailGroup g { s1.railGroup g with marker := bits (s1.seqWord g) 0 8 }).seqNext g (s1.aoTick + 1)
    else s)

/-! Stage rails (R293). -/

/-- The stage rails of the RISEN groups that wait to be started, in ascending order. -/
def State.stageRailsWaiting (s : State) : List Nat :=
  (List.range 32).filter fun r => s.railUsed r && s.railKind r == 1 && (s.railGroup (s.railGroupOf r)).phase == .risen && (s.rail r).phase == .off

/-- STAGE_RAIL_START (R293): the lowest stage rail that waits, once all its parents are good; in a descent no rail is switched on (R299). -/
def execStageRailStart (r : Nat) (s : State) : Host.Outcome State Fault Refusal :=
  .next (if s.regionOn .eng && s.pair.owns && !s.inMode .descent && s.stageRailsWaiting.head? == some r && (s.parents r).all (fun j => (s.rail j).phase == .good) then
      (s.switchRailOn r).autoStart (s.railTarget r)
    else s)

/-- The time a stage rail has to be good, in ticks (R293). -/
def State.stageRailLimit (s : State) (r : Nat) : Nat :=
  let n := s.railTarget r
  3 * s.carrierPeriod n + ticksOf (s.objR (0x3000 + 256 * n) 0x0B) + 10 * ticksPerMs

/-- STAGE_RAIL_RISE_TIMEOUT (R293): a rise failure with detail 0x0A. -/
def execStageRailRiseTimeout (r : Nat) (s : State) : Host.Outcome State Fault Refusal :=
  .next (if s.railUsed r && s.railKind r == 1 && (s.rail r).phase == .rising && decide (s.stageRailLimit r ≤ s.since (s.rail r).onAt) then
      s.riseFailure r 0x0A
    else s)

/-! Faults of a running rail (R296, R297) and in a descent (R299, R300). -/

/-- The rail is watched: good, a monitor rail while its group is RISEN, and the mode is neither DESCENT nor MOORED (R288, R296, R297). -/
def State.railRuns (s : State) (r : Nat) : Bool :=
  s.railUsed r && (s.rail r).phase == .good && (s.railKind r != 3 || (s.railGroup (s.railGroupOf r)).phase == .risen) && !s.inModes [.descent, .moored]

/-- What a detail says is so, as far as the package holds it (R296): two samples or polls outside the window in a row, the high comparator, or `AUXPGk` low
for `PgFilter` ticks, which outside a program only the command itself tells (log entry 152). -/
def State.railFaultHolds (s : State) (r detail : Nat) : Bool :=
  match detail with
  | 4 => s.railMonitored r && decide (2 ≤ (s.rail r).outRun) && decide (s.railVolts r < s.railLow r)
  | 5 => s.railMonitored r && ((decide (2 ≤ (s.rail r).outRun) && decide (s.railHigh r < s.railVolts r)) || (s.railMd r && (s.modIn (s.railSrc r - 0x40)).high))
  | 6 => s.railN r 5 != 0xFF && ((s.rail r).pgPin || s.pgIs r false)
  | 7 => s.railKind r == 2 && decide (2 ≤ (s.rail r).pollRun)
  | _ => false

/-- The level of `AUXPGk` that a fault of detail 6 tells: low for `PgFilter` ticks. -/
def State.tellPin (s : State) (r detail : Nat) : State :=
  let x := s.rail r
  if detail = 6 ∧ x.pgPin = true then s.setRail r { x with pgPin := false, pgAt := s.aoTick + 1 - s.objN 0x4300 4 } else s

/-- RAIL_RUN_FAULT (R296): every rail of the side goes off at once, and the run source is raised. While that source is active
and not clearing, the fault is already taken. -/
def execRailRunFault (r detail : Nat) (s : State) : Host.Outcome State Fault Refusal :=
  .next (if s.railRuns r && s.railFaultHolds r detail && (match s.activeOf (s.railKey r 2) with | some a => a.clearing.isSome | none => true) then
      let s := s.tellPin r detail
      let s := s.setRail r { s.rail r with runFaults := (s.rail r).runFaults + 1, lastFault := detail }
      let s := s.raise (s.railKey r 2) detail
      s.forceAllOff
    else s)

/-- A kept rail's fault in MOORED (R297): `AUXPGk`, or the scan of an entry with `moored` 1. -/
def State.mooredFaultHolds (s : State) (r detail : Nat) : Bool :=
  s.railFaultHolds r detail && (detail == 6 ||
    (decide (4 ≤ detail) && decide (1 ≤ s.railSrc r) && decide (s.railSrc r ≤ 0x20) && entryMoored (nth s.adc.running (s.railSrc r - 1) 0)))

/-- The run source of a fault that AO has found in MOORED is raised when SUP resumes (R297). -/
def State.resumeFault (s : State) : State :=
  match s.thermal.mooredFault with
  | some x => if s.regionOn .sup then ({ s with thermal := { s.thermal with mooredFault := none } } : State).raise (s.railKey x.1 2) x.2 else s
  | none => s

/-- MOORED_RAIL_FAULT (R297): every kept rail off, a wake with cause 0x0054, the run source once SUP runs; the controller stays in MOORED, and no group is
kept from here on: the next RISE runs its program. A monitor rail is never switched, and is watched as the others of its group. -/
def execMooredRailFault (r detail : Nat) (s : State) : Host.Outcome State Fault Refusal :=
  .next (if s.inMode .moored && s.railUsed r && (s.railGroup (s.railGroupOf r)).kept && ((s.rail r).on || s.railKind r == 3) && s.mooredFaultHolds r detail then
      let s := s.tellPin r detail
      let s := s.setRail r { s.rail r with runFaults := (s.rail r).runFaults + 1, lastFault := detail }
      let s := s.forceAllOff
      let s := { s with railGroups := s.railGroups.map fun (g : RailGroup) => { g with kept := false } }
      let s := s.enterMode .moored 0x0054
      ({ s with mode := { s.mode with wakeServed := 0x0054 }, thermal := { s.thermal with mooredFault := some (r, detail) } } : State).resumeFault
    else s)

/-- An overvoltage during a descent (R300): the rail's counter and source, and every rail still on goes off at once. Of a rail not yet switched off it is a
fault of R299 as well, and counts as one. -/
def State.descentOver (s : State) (r : Nat) : State :=
  let x := s.rail r
  let s := s.setRail r { x with ovs := x.ovs + 1, descFaults := x.descFaults + b2n x.on, lastFault := 5 }
  (s.raise (s.railKey r 3) 5).forceAllOff

/-- RAIL_DESCENT_FAULT (R299): of a rail not yet switched off; an overvoltage is R300's. -/
def execRailDescentFault (r detail : Nat) (s : State) : Host.Outcome State Fault Refusal :=
  .next (if s.inMode .descent && s.railUsed r && (s.rail r).on && s.railFaultHolds r detail then
      (if detail = 5 then (s.tellPin r detail).descentOver r else (s.tellPin r detail).descentFault r detail)
    else s)

/-- The value of a rail lies above its window in two samples in a row, its comparator decides so, or two polls of its partner report it (R296, R300). -/
def State.railOver (s : State) (r : Nat) : Bool :=
  let x := s.rail r
  s.railFaultHolds r 5 || (s.railKind r == 2 && decide (2 ≤ x.pollRun) && decide (s.railHigh r < x.vout))

/-- The rise of this rail above its window has been taken: its descent source is active with that detail and not clearing. -/
def State.overTaken (s : State) (r : Nat) : Bool :=
  match s.activeOf (s.railKey r 3) with | some a => a.clearing.isNone && (s.rail r).lastFault == 5 | none => false

/-- RAIL_DESCENT_OVERVOLTAGE (R300): on any rail; every rail still on goes off at once. -/
def execRailDescentOvervoltage (r : Nat) (s : State) : Host.Outcome State Fault Refusal :=
  .next (if s.inMode .descent && s.railUsed r && s.railOver r && !s.overTaken r then
      s.descentOver r
    else s)

/-! Host commands to groups and margins (R295, R302). -/

/-- A write of `GroupCommand`, with what refuses it. -/
def State.groupWrite (s : State) (ch : Chan) (g v status : Nat) (t : State) : State :=
  s.guardedWrite ch (0x4304 + g) 2 (leBytes 1 v) (if s.inMode .service then status else stState)
    (t.setRailGroup g { t.railGroup g with command := v })

/-- GROUP_RISE (R295): a group that is lowered or failed runs its rise program. -/
def execGroupRise (ch : Chan) (g : Nat) (s : State) : Host.Outcome State Fault Refusal :=
  .next (s.groupWrite ch g 1 0 (if (s.railGroup g).phase == .lowered || (s.railGroup g).phase == .failed then s.startRise g else s))

/-- GROUP_ABORT_RISE (R295): after END it is answered "already complete". -/
def execGroupAbortRise (ch : Chan) (g : Nat) (s : State) : Host.Outcome State Fault Refusal :=
  .next (s.groupWrite ch g 2 (if (s.railGroup g).phase == .risen then stAlready else 0)
    (if s.rising g then s.setRailGroup g { s.railGroup g with abortPending := true } else s))

/-- GROUP_LOWER (R295). -/
def execGroupLower (ch : Chan) (g : Nat) (s : State) : Host.Outcome State Fault Refusal :=
  .next (s.groupWrite ch g 3 0 (if (s.railGroup g).phase == .risen || (s.railGroup g).phase == .failed then s.startLower g else s))

/-- What refuses a margin write: the mode, the rail (R302, R426), and a kept threshold whose order the margin upsets (R90; DEDUCED, log entry 115). -/
def State.marginStatus (s : State) (r v : Nat) : Nat :=
  if s.inMode .service && s.railKind r == 2 && (s.rail r).phase == .good && bits (s.berth (s.railTarget r)).voutMode 5 3 != 1 then
    if (s.railInputs r).all (s.setRail r { s.rail r with margin := v }).thresholdsOk then 0 else stRange
  else stState

/-- A rail margined: 1 high, 2 low, 0 back (R302). -/
def State.applyMargin (s : State) (r v : Nat) : State :=
  let b := s.railTarget r
  let m := s.objR 0x2711 1 / 100
  let x := s.rail r
  let s := s.setRail r { x with margin := v, margins := x.margins + b2n (v != 0) }
  match v with
  | 1 => (s.queueVolts b 0x25 (s.railR r 8 * (1 + m)) false 2).queueOperation b 0xA8 2
  | 2 => (s.queueVolts b 0x26 (s.railR r 8 * (1 - m)) false 2).queueOperation b 0x98 2
  | _ => s.queueOperation b 0x80 2

/-- RAIL_MARGIN_HIGH (R302). -/
def execRailMarginHigh (ch : Chan) (r : Nat) (s : State) : Host.Outcome State Fault Refusal :=
  .next (s.guardedWrite ch 0x2710 (1 + r) [1] (s.marginStatus r 1) (s.applyMargin r 1))

/-- RAIL_MARGIN_LOW (R302). -/
def execRailMarginLow (ch : Chan) (r : Nat) (s : State) : Host.Outcome State Fault Refusal :=
  .next (s.guardedWrite ch 0x2710 (1 + r) [2] (s.marginStatus r 2) (s.applyMargin r 2))

/-- RAIL_MARGIN_OFF (R302). -/
def execRailMarginOff (ch : Chan) (r : Nat) (s : State) : Host.Outcome State Fault Refusal :=
  .next (s.guardedWrite ch 0x2710 (1 + r) [0] (s.marginStatus r 0) (s.applyMargin r 0))

/-- Every margined rail returned to OPERATION 0x80, on leaving SERVICE (R302). -/
def State.endMargins (s : State) : State :=
  forUnits ((List.range 32).filter fun r => (s.rail r).margin != 0) (fun t r => t.applyMargin r 0) s

/-! What samples and polls bring to the rails. -/

/-- A rail that waits for its values becomes good by them: a stage rail (R293), or a watched monitor rail (R288). -/
def State.railTurns (s : State) (r : Nat) : State :=
  let waits := s.railKind r == 1 || (s.railKind r == 3 && (s.railGroup (s.railGroupOf r)).phase == .risen)
  if waits && (s.rail r).phase == .rising && s.railGood r then s.railRose r else s

/-- A new monitored value of a rail: consecutive values outside the window are counted (R296). -/
def State.railSeen (s : State) (r : Nat) : State :=
  (s.setRail r { s.rail r with outRun := if s.windowHas r (s.railVolts r) then 0 else (s.rail r).outRun + 1 }).railTurns r

/-- A modulator sample reaches the rails that it monitors. -/
def State.railSample (s : State) (md : Nat) : State :=
  if (s.modIn md).valid then forUnits ((List.range 32).filter fun r => s.railUsed r && s.railSrc r == 0x40 + md) (fun t r => t.railSeen r) s else s

/-- An ADC entry, 0 to 31, reaches the rails that it monitors. -/
def State.railEntry (s : State) (e : Nat) : State :=
  let v := (nth s.adc.entries e {}).volts
  forUnits ((List.range 32).filter fun r => s.railUsed r && s.railSrc r == e + 1)
    (fun t r => (t.setRail r { t.rail r with volts := v, fresh := true }).railSeen r) s

/-- A poll of one partner rail: its READ_VOUT, which is its monitored value where 0x43nn:06 says so, and whether it reports a fault or no power good (R288). -/
def State.railPolled (s : State) (r : Nat) (v : Rat) (bad : Bool) : State :=
  let x := s.rail r
  let s := s.setRail r { x with vout := v, polled := true, partnerBad := bad, pollRun := if bad || !s.windowHas r v then x.pollRun + 1 else 0 }
  if s.railSrc r = 0x80 then (s.setRail r { s.rail r with volts := v, fresh := true }).railSeen r else s

/-- A poll reaches the rails of its partner. -/
def State.railPoll (s : State) (b : Nat) (v : Rat) (bad : Bool) : State :=
  forUnits ((List.range 32).filter fun r => s.railUsed r && s.railKind r == 2 && s.railTarget r == b) (fun t r => t.railPolled r v bad) s

/-! Stage rails and their stages (R143, R293). -/

/-- A stage rail follows its stage: on with it, good once it runs, off with it. -/
def State.stageRailFollows (s : State) (n r : Nat) : State :=
  let x := s.rail r
  if s.stageOn n then
    (if x.on then s else s.setRail r { x with phase := .rising, on := true, fresh := false, onAt := s.now, forcedOff := false, outRun := 0 }).railTurns r
  else if x.on then s.railOff r else s

/-- The stage rails of a stage. -/
def State.railsFollow (s : State) (n : Nat) : State :=
  forUnits ((List.range 32).filter fun r => s.railUsed r && s.railKind r == 1 && s.railTarget r == n) (fun t r => t.stageRailFollows n r) s

/-- SOFT_START_END (R158 step 5): RUNNING, or DEGRADED where a phase has been dropped meanwhile. -/
def execSoftStartEnd (st : Nat) (s : State) : Host.Outcome State Fault Refusal :=
  .next (if s.softStartDone st then
      (s.setStage st { s.stage st with startStep := 5, rampOn := false, prebias := false, state := s.ranUp st }).railsFollow st
    else s)

end Sys2Proof.Machine
end

