-- ==== Sys2Proof/Machine/Thermal.lean ====
section
/-! DEFINITION. Temperature and ageing (chapter 10, R304 to R316). -/
namespace Sys2Proof.Machine

/-! Temperature (R304 to R309). Sensors 0 to 11 are ts0 to ts11, 12 to 27 are tx0 to tx15. -/

/-- The median; of an even count, the mean of the middle two (R305). -/
def median (l : List Rat) : Rat :=
  let l := l.mergeSort fun a b => decide (a ≤ b)
  let n := l.length
  if n % 2 = 1 then nth l (n / 2) 0 else (nth l (n / 2 - 1) 0 + nth l (n / 2) 0) / 2

/-- The neighbours of a sensor (0x4203). -/
def State.neighbours (s : State) (n : Nat) : List Nat :=
  ((List.range 4).map fun i => bits (s.objN 0x4203 (1 + n)) (8 * i) 8).filter fun k => decide (k < 28)

/-- The temperatures of the neighbours that are valid and not suspect. -/
def State.usableNear (s : State) (n : Nat) : List Rat :=
  ((s.neighbours n).filter fun k => (s.sensor k).valid && !(s.sensor k).suspect).map fun k => (s.sensor k).t

/-- The suspect source's key of a sensor: its own path, or its ADC input's (R305). -/
def State.suspectKey (s : State) (n : Nat) : Key :=
  if n < 12 then s.key 6 0xFF (0x10 + n) 1
  else s.key 6 0xFF (0x20 + entryInput (nth s.adc.running (s.objN 0x4206 (n - 11) - 1) 0)) 3

/-- The comparison of a sensor with its neighbours after a reading (R305). -/
def State.compareSensor (s : State) (n : Nat) : State :=
  let x := s.sensor n
  let near := s.usableNear n
  if near.length < 2 ∨ x.valid = false then s.setSensor n { x with unchecked := true, closeSince := none }
  else
    let dev := absR (x.t - median near)
    let close := s.track x.closeSince (decide (dev ≤ 6))
    let sus := if 8 < dev then true else x.suspect && !s.heldFor close 10
    let s := s.setSensor n { x with unchecked := false, suspect := sus, closeSince := close }
    s.follow (s.suspectKey n) sus 0

/-- The sensors of a mask (0x4205): bits 0 to 11 ts, 16 to 31 tx. -/
def maskSensors (m : Nat) : List Nat :=
  ((List.range 12).filter fun i => bit m i) ++ ((List.range 16).filter fun i => bit m (16 + i)).map (12 + ·)

/-- The highest temperature of the valid sensors of a list that, where asked, are not suspect. -/
def State.hottest (s : State) (l : List Nat) (trusted : Bool) : Option Rat :=
  (l.filter fun n => (s.sensor n).valid && !(trusted && (s.sensor n).suspect)).foldl
    (fun (m : Option Rat) n => match m with | none => some (s.sensor n).t | some v => some (maxR v (s.sensor n).t)) none

/-- The next band of a temperature (R306). -/
def State.bandOf (s : State) (band : Nat) (t : Rat) : Nat :=
  let th (j : Nat) := s.objR 0x4204 (1 + j)
  let up := ((List.range 7).filter fun j => decide (th j ≤ t)).length
  let dn := ((List.range 7).filter fun j => decide (th j - 3 ≤ t)).length
  if band < up then up else if dn < band then dn else band

/-- The package's temperature and band (R306, R309). -/
def State.packageTemp (s : State) : State :=
  match s.hottest (List.range 12) true with
  | none => s
  | some t =>
    let s := { s with thermal := { s.thermal with pkgTemp := t, pkgBand := s.bandOf s.thermal.pkgBand t } }
    let hot := if s.objR 0x4200 3 ≤ t then true else s.thermal.hot && decide (s.objR 0x4200 3 - 3 < t)
    let s := { s with thermal := { s.thermal with hot := hot } }
    if s.objR 0x4200 3 ≤ t then s.raise (s.key 6 0xFF 0 2) 0 else if hot then s else s.clearing (s.key 6 0xFF 0 2)

/-- A stage's temperature and band; with no usable member it follows the package band (R306). DESIGN CHOICE (log entry 159): it then derates by the package
temperature (R307). -/
def State.stageTempStep (s : State) (n : Nat) : State :=
  match s.hottest (maskSensors (s.objN 0x4205 (1 + n))) true with
  | some t =>
    { s with thermal := { s.thermal with stageTemp := put s.thermal.stageTemp n t, fallback := put s.thermal.fallback n false
                                         stageBand := put s.thermal.stageBand n (s.bandOf (nth s.thermal.stageBand n 0) t) } }
  | none =>
    { s with thermal := { s.thermal with fallback := put s.thermal.fallback n true, stageTemp := put s.thermal.stageTemp n s.thermal.pkgTemp
                                         stageBand := put s.thermal.stageBand n s.thermal.pkgBand } }

/-- The DRAM's temperature, its refresh interval and its source (R308). -/
def State.dramTempStep (s : State) : State :=
  if s.part.has .ddr 0 then
    match s.hottest (maskSensors (s.objN 0x4205 9)) false with
    | none => { s with thermal := { s.thermal with dramFast := true } }
    | some t =>
      let s := { s with thermal := { s.thermal with dramTemp := t
                                                    dramFast := if 85 ≤ t then true else if t < 82 then false else s.thermal.dramFast
                                                    dramHot := if 95 ≤ t then true else s.thermal.dramHot && decide (92 ≤ t) } }
      if 95 ≤ t then s.raise (s.key 8 0xFF 0 1) 0 else if t < 92 then s.clearing (s.key 8 0xFF 0 1) else s
  else s

/-- One on-die reading (R304, R309): 150 °C or more in two slots in a row is the die-temp source. A sensor stopped by a SHED gives no valid
temperature (R28). -/
def State.dieReading (s : State) (n code : Nat) : State :=
  let x := s.sensor n
  let t := Config.sensorTemp n code
  let run := if 150 ≤ t then x.hotRun + 1 else 0
  let s := s.setSensor n { x with t := t, valid := !s.isShed 6 0xFF (0x10 + n), hotRun := run }
  if 2 ≤ run then s.raise (s.key 6 0xFF (0x10 + n) 2) 0 else s

/-- A temperature slot's readings, comparisons and bands. -/
def State.slot (s : State) (codes : List Nat) : State :=
  let s := forUnits (List.range 12) (fun t n => t.dieReading n (nth codes n 0)) s
  let s := forUnits (List.range 12) (fun t n => t.compareSensor n) s
  let s := s.packageTemp
  let s := forUnits ((List.range 8).filter fun n => s.part.has .stage n) (fun t n => t.stageTempStep n) s
  s.dramTempStep

/-- TEMP_SLOT (R98, R304 to R309). -/
def execTempSlot (codes : List Nat) (s : State) : Host.Outcome State Fault Refusal :=
  .next (if s.regionOn .sadc && decide (s.adc.slotDue ≤ s.now) then s.slotBegins.slot codes else s)

/-- A thermistor's temperature from its pin voltage (R304); none where the input is open or the voltage is out of range. -/
def State.thermistor (s : State) (j : Nat) (v : Rat) (o : Bool) : Option Rat :=
  if o || decide (v < 24 / 1000) || decide (1176 / 1000 < v) then none
  else
    let rth := s.objR 0x4209 (1 + j) * divR v (12 / 10 - v)
    some (divR 1 (1 / (29815 / 100) + divR (Config.ln (divR rth (s.objR 0x4207 (1 + j)))) (s.objR 0x4208 (1 + j))) - 27315 / 100)

/-- An ADC entry, 0 to 31, reaches the thermistors that it reads. -/
def State.thermEntry (s : State) (e : Nat) : State :=
  let x := nth s.adc.entries e {}
  forUnits ((List.range 16).filter fun j => s.objN 0x4206 (1 + j) == e + 1) (fun t j =>
    let z := t.sensor (12 + j)
    match t.thermistor j x.volts x.openWire with
    | some v => (t.setSensor (12 + j) { z with t := v, valid := true }).compareSensor (12 + j)
    | none => (t.setSensor (12 + j) { z with valid := false }).compareSensor (12 + j)) s

/-- THERMAL_DERATE_UPDATE (R307). -/
def execThermalDerateUpdate (s : State) : Host.Outcome State Fault Refusal :=
  let a := s.objR 0x4200 6
  let b := s.objR 0x4200 7
  let f (n : Nat) := clampR (divR (nth s.thermal.stageTemp n 0 - a) (b - a)) 0 1
  .next (if s.regionOn .sup then
      { s with spm := { s.spm with thermal := sumR (((List.range 8).filter fun n => s.part.has .stage n).map fun n => f n * s.objR (0x3D00 + n) 0x0F) } }
    else s)

/-! Ageing of the silicon (R310 to R313). -/

/-- A monitor's reading is excluded (R310). -/
def pdmOut (med : Rat) (v : Int) : Bool := decide (v < 0) || decide (2000 < v) || decide (150 < absR ((v : Rat) - med))

/-- The lowest of a list of readings. -/
def minInt : List Int → Option Int
  | [] => none
  | v :: vs => match minInt vs with | none => some v | some m => some (min v m)

/-- PDM_READING (R310, R311): readings within 5 ms after a VID change are discarded. -/
def execPdmReading (ps : List Int) (s : State) : Host.Outcome State Fault Refusal :=
  let settling := match s.thermal.vidAt with | some t => !s.elapsed t (5 / 1000) | none => false
  .next (if s.regionOn .sadc && !settling && !s.isShed 6 0xFF 1 then
      let med := median (ps.map fun (v : Int) => (v : Rat))
      let good := ps.map fun v => !pdmOut med v
      let m := minInt (ps.filter fun v => !pdmOut med v)
      let s := { s with thermal := { s.thermal with
        pdm := ps, pdmBad := good.map (!·), mMin := m
        pdmGood := (List.range 16).map fun i => if nth good i false then nth s.thermal.pdmGood i 0 + 1 else 0
        mins := match m with | some v => (v :: s.thermal.mins).take 10 | none => s.thermal.mins } }
      forUnits (List.range 16) (fun t i =>
        if !nth good i false then t.raise (t.key 6 0xFF (0x40 + i) 0) 0
        else if 10 ≤ nth t.thermal.pdmGood i 0 then t.clearing (t.key 6 0xFF (0x40 + i) 0) else t) s
    else s)

/-- The entry code of an ageing step (0x2602). -/
def State.stepVid (s : State) (a : Nat) : Nat := s.objN 0x2602 (1 + a)

/-- The highest step whose entry code is at or below a code (R312). -/
def State.stepFor (s : State) (code : Nat) : Nat :=
  (List.range 8).foldl (fun m a => if s.stepVid a ≠ 0xFF ∧ s.stepVid a ≤ code then max m a else m) 0

/-- The next higher step entered only by exhaustion. -/
def State.nextStep (s : State) : Option Nat := (List.range 8).find? fun a => decide (s.thermal.step < a) && s.stepVid a == 0xFF

/-- The newer good MRAM copy of the VID code and the step, if one has been made (R313). -/
def Thermal.newestVid (t : Thermal) : Option VidCopy :=
  let c := if t.vidB.good && (!t.vidA.good || decide (t.vidA.seq < t.vidB.seq)) then t.vidB else t.vidA
  if c.seq = 0 || !c.good then none else some c

/-- The VID code and the step committed over the older copy (R313). -/
def Thermal.commitVid (t : Thermal) : Thermal :=
  let c : VidCopy := { seq := max t.vidA.seq t.vidB.seq + 1, vid := t.vid, step := t.step }
  if t.vidA.seq ≤ t.vidB.seq then { t with vidA := c } else { t with vidB := c }

/-- The same where its writes are verified (R450). -/
def State.commitVid (s : State) : State := s.commitCopy .cores fun t => { t with thermal := t.thermal.commitVid }

/-- The code and the step as a start drives them (R313): the newer copy's, or, before the first change, the image's code and step ag0. -/
def State.loadVid (s : State) : State :=
  { s with thermal := match s.thermal.newestVid with
    | some c => { s.thermal with vid := c.vid, step := c.step }
    | none => { s.thermal with vid := s.objN 0x2600 2, step := 0 } }

/-- An ageing step is entered; the tide table takes it at its boundary (R134, R312). -/
def State.enterStep (s : State) (a : Nat) : State :=
  if a = s.thermal.step then s
  else
    let s := { s with thermal := { s.thermal with step := a } }.commitVid
    { s with tide := { s.tide with ageingPending := some a } }

/-- The VID code rises by 1 (R311, R312). -/
def State.raiseVid (s : State) : State :=
  let s := { s with thermal := { s.thermal with vid := s.thermal.vid + 1, vidSteps := s.thermal.vidSteps + 1, vidAt := some s.now, lowSince := none } }.commitVid
  s.enterStep (s.stepFor s.thermal.vid)

/-- The 1 s decision on M (R311, R312). -/
def State.vidStep (s : State) (m : Int) : State :=
  let low := decide ((m : Rat) < s.objR 0x2600 5)
  let crit := decide ((m : Rat) < s.objR 0x2600 6)
  let hold : Rat := s.objN 0x2600 7
  let ready := match s.thermal.vidAt with | none => true | some t => s.elapsed t hold
  if s.thermal.vid < 15 then (if crit || (low && ready) then s.raiseVid else s)
  else
    let since := s.track s.thermal.lowSince low
    let s := { s with thermal := { s.thermal with lowSince := since } }
    match s.nextStep with
    | some a => if s.heldFor since hold then { (s.enterStep a) with thermal := { (s.enterStep a).thermal with lowSince := some s.now } } else s
    | none =>
      let s := if s.heldFor since hold then s.raise (s.key 6 0xFF 1 1) 0 else s
      if crit then s.raise (s.key 6 0xFF 1 2) 0 else s

/-- VID_UPDATE (R311 to R313): M is the lowest of the last ten m_min. -/
def execVidUpdate (s : State) : Host.Outcome State Fault Refusal :=
  .next (if s.regionOn .sadc then (match minInt s.thermal.mins with | some m => s.vidStep m | none => s) else s)

/-- `AgeReset` accepted (R311, R313, Table 10-10): the code back to the image's and the step to ag0, both committed; the margin sources clear. -/
def State.applyAgeReset (s : State) : State :=
  let t := { s with thermal := { s.thermal with vid := s.objN 0x2600 2, vidAt := some s.now, lowSince := none } }.commitVid
  let t := t.enterStep 0
  [t.key 6 0xFF 1 1, t.key 6 0xFF 1 2].foldl (fun t k => (t.clearing k).unlatch k) t

/-- AGE_RESET (R311). -/
def execAgeReset (ch : Chan) (v : Nat) (s : State) : Host.Outcome State Fault Refusal :=
  .next (s.guardedWrite ch 0x2600 9 (leBytes 1 v) 0 s.applyAgeReset)

/-! Ageing of the power stage (R314 to R316). -/

/-- A phase's position in its stage, and the image's R_p. -/
def State.phasePos (s : State) (p : Nat) : Nat := p - s.stageFirst (s.phaseStage p)
def State.imageR (s : State) (p : Nat) : Rat := s.objR (0x3D00 + s.phaseStage p) (0x31 + s.phasePos p)
/-- ρ_p (R314). -/
def State.ronRatio (s : State) (p : Nat) : Rat := if s.imageR p = 0 then 1 else nth s.thermal.rp p 0 / s.imageR p
def State.phaseLimit (s : State) (p : Nat) : Rat := s.objR (0x3800 + p) 0x0A

/-- A sample of a phase's current adds to the sums of R314. -/
def State.ageSample (s : State) (md : Nat) : State :=
  forUnits ((List.range 24).filter fun p => s.phaseInput p == md && (s.phase p).inSet) (fun t p =>
    let n := t.phaseStage p
    let i := t.loopY md
    let o := nth (t.observer n).ph (t.phasePos p) {}
    if (t.stage n).state == .running && !o.alarm && (t.modIn md).valid && decide (3 / 10 * t.phaseLimit p ≤ absR i) then
      let vh := t.loopY (t.objN (0x3000 + 256 * n) 0x14)
      let vl := t.loopY (t.objN (0x3000 + 256 * n) 0x13)
      { t with thermal := { t.thermal with
        num := put t.thermal.num p (nth t.thermal.num p 0 + (F32.toRat (t.phase p).duty * vh - vl) * i)
        den := put t.thermal.den p (nth t.thermal.den p 0 + i * i)
        cnt := put t.thermal.cnt p (nth t.thermal.cnt p 0 + 1) } }
    else t) s

/-- One phase's update of R_p at the end of a 1 s (R314). -/
def State.ronPhase (s : State) (p : Nat) : State :=
  let w := s.objR 0x2600 0x0B
  let r := nth s.thermal.rp p 0
  let d := nth s.thermal.den p 0
  let r' := if 1000 ≤ nth s.thermal.cnt p 0 ∧ d ≠ 0 then r + w * (nth s.thermal.num p 0 / d - r) else r
  let s := { s with thermal := { s.thermal with rp := put s.thermal.rp p r', num := put s.thermal.num p 0, den := put s.thermal.den p 0, cnt := put s.thermal.cnt p 0 } }
  s.follow (s.key 4 (s.phaseStage p) p 5) (decide (s.objR 0x2600 0x0D < s.ronRatio p)) 0

/-- A sample of a bank's current or voltage (R316): the charge that its phases carry into it, and, with its voltage, the last 10 s of both. -/
def State.bankSample (s : State) (md : Nat) : State :=
  forUnits ((List.range 8).filter fun n => s.stageUsed n && s.stageType n == 2) (fun t n =>
    let h := t.thermal
    let t := forUnits ((t.stagePhases n).filter fun p => t.phaseInput p == md) (fun u p =>
      let dt := secOf (u.since (nth u.thermal.bankAt p 0))
      let dq := if u.stageOn n && (u.modIn md).valid then u.loopY md * dt else 0
      { u with thermal := { u.thermal with bankQ := put u.thermal.bankQ n (nth u.thermal.bankQ n 0 + dq), bankAt := put u.thermal.bankAt p u.now } }) t
    if t.objN (0x3000 + 256 * n) 0x13 = md then
      let l := if t.stageOn n then
          (if (t.modIn md).valid then (t.now, t.loopY md, nth t.thermal.bankQ n 0) :: nth h.bankHist n [] else nth h.bankHist n []).filter fun x => !t.elapsed x.1 10
        else []
      { t with thermal := { t.thermal with bankHist := put t.thermal.bankHist n l } }
    else t) s

/-- The bank's samples of the last 10 s show an excursion: its voltage has moved by dv while the charge went in (R316). -/
def State.excursion (s : State) (n : Nat) (charge dv : Rat) : Bool :=
  (nth s.thermal.bankHist n []).any fun x =>
    !s.elapsed x.1 10 && decide (s.loopY (s.objN (0x3000 + 256 * n) 0x13) - x.2.1 = dv) && decide (nth s.thermal.bankQ n 0 - x.2.2 = charge)

/-- RON_UPDATE (R314). -/
def execRonUpdate (s : State) : Host.Outcome State Fault Refusal :=
  .next (if s.regionOn .eng then forUnits ((List.range 24).filter fun p => (s.stageOf p).isSome) (fun t p => t.ronPhase p) s else s)

/-- A value moved towards a target by at most a step. -/
def towards (v target step : Rat) : Rat := v + clampR (target - v) (-step) step

/-- A running phase replanned (R315), with ρ̄ of its stage; a trim outside −0.10 to 0.10 is refused (R205). -/
def State.replanPhase (s : State) (p : Nat) (mean : Rat) : State :=
  let rho := s.ronRatio p
  let t := towards (nth s.spm.shareTrim p 0) (-(s.objR 0x2600 0x0C) * (rho - mean)) (1 / 100)
  let new := s.objR 0x2604 (1 + p)
  let lim := maxR (new / 2) (new * minR 1 (divR 1 (sqrtR rho)))
  let s := if absR t ≤ 1 / 10 then (s.applyShareTrim p t).mirrored 0x4504 (p + 1) (realBytes t) else s
  let v := realBytes (towards (s.phaseLimit p) lim (new / 50))
  (s.setObj (0x3800 + p) 0x0A v).mirrored (0x3800 + p) 0x0A v

/-- REPLAN (R315): the owner in ACTIVE, every running phase. -/
def execReplan (s : State) : Host.Outcome State Fault Refusal :=
  .next (if s.pair.owns && s.inMode .active && s.objN 0x2600 0x0A != 0 then
      forUnits (List.range 8) (fun t n =>
        let ps := t.runningPhases n
        let mean := divR (sumR (ps.map t.ronRatio)) ps.length
        forUnits ps (fun u p => u.replanPhase p mean) t) s
    else s)

/-- BANK_CAP_ESTIMATE (R316): an excursion of at least 2 % of the bank's voltage within 10 s while the HOLD stage runs, as the bank's samples show it. -/
def execBankCapEstimate (st : Nat) (charge dv : Rat) (s : State) : Host.Outcome State Fault Refusal :=
  let v := s.loopY (s.objN (0x3000 + 256 * st) 0x13)
  .next (if s.stageUsed st && s.stageType st == 2 && s.stageOn st && decide (dv ≠ 0) && decide (absR v / 50 ≤ absR dv) && s.excursion st charge dv then
      let c := nth s.thermal.bank st 0
      let c' := c + s.objR 0x2600 0x0B * (charge / dv - c)
      let s := { s with thermal := { s.thermal with bank := put s.thermal.bank st c' } }
      s.follow (s.key 3 st 0x40 0x0A) (decide (c' < s.objR 0x2600 0x0E * s.objR 0x2605 (1 + st))) 0
    else s)

/-- The estimates of the section committed to MRAM (R316, R450). -/
def State.commitAgeing (s : State) : State :=
  s.commitCopy .cores fun t => { t with thermal := { t.thermal with savedRp := t.thermal.rp, savedBank := t.thermal.bank, savedValid := true } }

/-- AGEING_COMMIT (R316). -/
def execAgeingCommit (s : State) : Host.Outcome State Fault Refusal :=
  .next (if s.regionOn .sup && s.supply.phase == .running then s.commitAgeing else s)

/-- The estimates as a start takes them: from MRAM, else the image's. -/
def State.loadAgeing (s : State) : State :=
  { s with thermal := { s.thermal with
    rp := if s.thermal.savedValid then s.thermal.savedRp else (List.range 24).map s.imageR
    bank := if s.thermal.savedValid then s.thermal.savedBank else (List.range 8).map fun n => s.objR 0x2605 (1 + n)
    num := List.replicate 24 0, den := List.replicate 24 0, cnt := List.replicate 24 0 } }

end Sys2Proof.Machine
end

