-- ==== Sys2Proof/Machine/Faults.lean ====
section
/-! DEFINITION. Fault management: clears, severity records, interrupts, LOCKOUT and the EMCY queues (chapter 11). -/
namespace Sys2Proof.Machine

/-- The window in which the clear condition of a source first held, at tick `t`, is over (R319): the carrier period for a source detected in AO, ENG,
PWM or SNS (R323), else the 1 ms update (log entry 138). -/
def State.clearWindowOver (s : State) (k : Key) (t : Nat) : Bool :=
  if s.refCarrierRuns && [1, 3, 4, 5].contains k.region then decide (t < (s.stage s.variant.refStage).boundaryTick)
  else decide (t / ticksPerMs < s.now / ticksPerMs)

/-- FAULT_CLEAR_WINDOW_END (R319): at the end of the window the clear takes effect unless the source has been detected again in it. -/
def execFaultClearWindowEnd (id kind : Nat) (s : State) : Host.Outcome State Fault Refusal :=
  let k : Key := { id := id, kind := kind }
  .next (match (s.activeOf k).bind (·.clearing) with
    | some t => if s.clearWindowOver k t then s.clear k else s
    | none => s)

/-! Severity (R325 to R330). -/

/-- The side's own member nibbles (R31, R33): its own sources, and its partner ports. -/
def State.ownMember (s : State) (m : Nat) : Bool := m == s.member || (decide (2 + 4 * s.member ≤ m) && decide (m < 6 + 4 * s.member))

/-- The key names a source that exists, the die and the partner's port among its bits. -/
def State.keyExists (s : State) (k : Key) : Bool :=
  (if k.member = s.member then k.die == dieOf k.region
   else k.die == 0 && k.region == 7 && k.kind == 0 && k.cluster == k.member - 2 - 4 * s.member) && s.sourceExists k

/-- What refuses the key of a severity record for region `rr` (R330, rows 2 and 3). -/
def State.sevKeyStatus (s : State) (rr w : Nat) (scope : Bool) : Nat :=
  let k : Key := { id := bits w 0 32, kind := bits w 32 8 }
  if !s.ownMember k.member || k.region != rr || bits w 40 5 != 0 || (scope && bits w 46 2 == 3) then stRange
  else if !s.keyExists k then stNoObject else 0

/-- Clusters that a region's tables use. -/
def sevClusters : List Nat := List.range 9 ++ [0x10, 0x11, 0x12, 0x13] ++ (List.range 8).map (0x40 + ·) ++ [0xFE, 0xFF]

/-- The keys of one kind on every unit of one cluster. -/
def State.clusterKeys (s : State) (k : Key) (c : Nat) : List Key :=
  ((List.range 256).map fun u => ({ id := srcId k.member k.die k.region c u, kind := k.kind } : Key)).filter s.keyExists

/-- The keys of one kind on every unit of one region: the side's own, and in NET those of its partners' ports (R31, R33). -/
def State.kindKeys (s : State) (k : Key) : List Key :=
  let own := sevClusters.foldl (fun l c => l ++ s.clusterKeys (s.key k.region 0 0 k.kind) c) []
  if k.region = 7 then own ++ (List.range 4).foldl (fun l p => l ++ s.clusterKeys { s.partnerKey p 0 with kind := k.kind } p) [] else own

/-- The sources that a scope covers (Table 11-4). -/
def State.covers (s : State) (k : Key) (scope : Nat) : List Key :=
  match scope with
  | 0 => [k]
  | 1 => s.clusterKeys k k.cluster
  | _ => s.kindKeys k

/-- The class lies within floor to ceiling (R325). -/
def State.classFits (s : State) (c : Nat) (k : Key) : Bool :=
  decide (s.floorOf k ≤ c) && decide (c ≤ (match k.row with | some r => r.ceil | none => 0))

/-- The conditions of R330 after the access level. -/
def State.sevStatus (s : State) (rr w : Nat) : Nat :=
  let c := s.sevKeyStatus rr w true
  if c ≠ 0 then c
  else if (s.covers { id := bits w 0 32, kind := bits w 32 8 } (bits w 46 2)).all (s.classFits (bits w 48 4)) then 0 else stRange

/-- One entry set to a class. -/
def State.setClass (s : State) (c : Nat) (k : Key) : State :=
  { s with faults := { s.faults with sev := sevPut k c s.faults.sev, sevBroken := s.faults.sevBroken.filter fun x => x != k } }

/-- An accepted severity write (R330): the entries, the counter, the record of Table 16-3. -/
def State.applySev (s : State) (rr w : Nat) : State :=
  let k : Key := { id := bits w 0 32, kind := bits w 32 8 }
  let c := bits w 48 4
  let l := s.covers k (bits w 46 2)
  let counts := (List.range 6).map fun o => (l.filter fun x => s.classOf x == o && o != c).length
  let old := s.classOf k
  let s := l.foldl (fun t x => t.setClass c x) s
  let r := nth s.faults.regions (rr - 1) {}
  let s := { s with faults := { s.faults with regions := put s.faults.regions (rr - 1) { r with sevChanges := r.sevChanges + 1 } } }
  s.record 0x0003 0 k.kind k.id (leBytes 8 w ++ leBytes 1 old ++ leBytes 1 c ++ (counts.map fun n => leBytes 2 n).flatten)

/-- The severity record of a key (Table 11-4), with a class to show. -/
def State.sevRecord (s : State) (k : Key) (c : Nat) : Nat :=
  let d := match k.row with | some r => r.dflt * 16 + r.ceil | none => 0
  k.id + 2 ^ 32 * k.kind + 2 ^ 45 * b2n (s.isActive k) + 2 ^ 48 * c + 2 ^ 52 * s.floorOf k + 2 ^ 56 * d

/-- SEV_WRITE (R330). -/
def execSevWrite (ch : Chan) (region : Nat) (record : BitVec 64) (s : State) : Host.Outcome State Fault Refusal :=
  .next (s.guardedWrite ch (0x2200 + region) 7 (leBytes 8 record.toNat) (s.sevStatus region record.toNat) (s.applySev region record.toNat))

/-- The selection of a session (R330). -/
def State.selectSev (s : State) (ch : Chan) (rr w : Nat) : State :=
  match s.session ch with
  | some x => s.setSession ch { x with sevQuery := put x.sevQuery (rr - 1) (some { id := bits w 0 32, kind := bits w 32 8 }) }
  | none => s

/-- SEV_QUERY_WRITE (R330). -/
def execSevQueryWrite (ch : Chan) (region : Nat) (record : BitVec 64) (s : State) : Host.Outcome State Fault Refusal :=
  .next (s.guardedWrite ch (0x2200 + region) 8 (leBytes 8 record.toNat) (s.sevKeyStatus region record.toNat false) (s.selectSev ch region record.toNat))

/-! Interrupts (R331). -/

/-- Pending bits with those of a mask cleared. -/
def clearBits (v m : Nat) : Nat := packBits ((List.range 8).map fun i => bit v i && !bit m i)

def State.applyIrqClear (s : State) (rr m : Nat) : State :=
  let r := nth s.faults.regions (rr - 1) {}
  { s with faults := { s.faults with regions := put s.faults.regions (rr - 1) { r with irqPending := clearBits r.irqPending m } } }

/-- IRQ_PENDING_CLEAR (R331): a write of 1 clears that bit. -/
def execIrqPendingClear (ch : Chan) (region mask : Nat) (s : State) : Host.Outcome State Fault Refusal :=
  .next (s.guardedWrite ch (0x2200 + region) 4 (leBytes 1 mask) 0 (s.applyIrqClear region mask))

/-- `IRQ_N` is asserted while any pending bit is set (R331): true is asserted. -/
def State.irqLevel (s : State) : Bool := s.faults.regions.any fun r => r.irqPending != 0

/-- LOCKSTEP_MISMATCH (R337). -/
def execLockstepMismatch (s : State) : Host.Outcome State Fault Refusal := .next (if s.regionOn .sup then s.raise (s.key 2 0xFF 0 0) 0 else s)

/-- A bus error returned to a requester (Table 15-3). The operation of the cores that made the access ends, with status 0x0606_0000 where it answers a host, and so
does the transfer that the dictionary server needed the data for; a transfer that the command does not name is the one last answered. -/
def State.busErrorTo (s : State) (rq : Requester) (host : Option Chan) : State :=
  let s := { s with mem := { s.mem with busError := true, busTo := some rq, answer := [] } }
  match rq, host with
  | .recorder, _ => let s := s.raise (s.key 9 0xFF 2 1) 0; { s with log := { s.log with dropped := s.log.dropped + 1 } }
  | .cores, some ch => s.reply ch stHardware []
  | .cores, none => s
  | .server, some ch => s.reply ch stHardware []
  | .server, none => { s with net := { s.net with answer := { s.net.answer with status := stHardware, data := [] } } }
  | .scrubber, _ => s

/-- The requester of the failed transfer, which the command does not name: a free value (log entry 106). -/
def requesterOf (v : Rat) : Requester := nth [.recorder, .cores, .server, .scrubber] (v.floor.toNat % 4) .cores

/-- D2D_TRANSFER_FAIL (R20): the fourth failure in a row raises the source and returns a bus error to the requester. -/
def execD2dTransferFail (s : State) : Host.Outcome State Fault Refusal :=
  .next (if s.regionOn .sup then
      let n := s.pair.d2dRun + 1
      let s := { s with pair := { s.pair with d2dRun := if 4 ≤ n then 0 else n } }
      if 4 ≤ n then let d := s.draw; (d.2.raise (s.key 2 0xFF 3 0) 0).busErrorTo (requesterOf d.1) none else s
    else s)

/-- EMCY_INHIBIT_EXPIRED (R335): the oldest EMCY that waits is sent, and the inhibit time runs again. -/
def execEmcyInhibitExpired (p : Nat) (s : State) : Host.Outcome State Fault Refusal :=
  let due := match nth s.faults.inhibitFrom p none with
    | none => true
    | some t => s.elapsed t ((s.objN 0x1015 0 : Rat) / 10000)
  .next (if due && !s.inGap then
      (match nth s.faults.queues p [] with
      | [] => { s with faults := { s.faults with inhibitFrom := put s.faults.inhibitFrom p none } }
      | e :: q =>
        if s.emcyPort p then ({ s with faults := { s.faults with queues := put s.faults.queues p q } }).sendEmcy p e
        else { s with faults := { s.faults with inhibitFrom := put s.faults.inhibitFrom p none } })
    else s)

end Sys2Proof.Machine
end

