-- ==== Sys2Proof/Machine/Memory.lean ====
section
/-! DEFINITION. DDR4 with its symbol code, the scrubber and the buckets, the flip mask, on-chip SRAM and MRAM (chapter 15). -/
namespace Sys2Proof.Machine

/-! Sparse bytes: strictly rising addresses, no entry that is 0, and 0 where nothing is listed. -/

/-- The byte at an address. -/
def cellGet (a : Nat) : List Host.Cell → Byte
  | [] => 0
  | c :: cs => if c.1 = a then c.2 else if a < c.1 then 0 else cellGet a cs

/-- One byte written; writing 0 removes the entry. -/
def cellPut (a : Nat) (v : Byte) : List Host.Cell → List Host.Cell
  | [] => if v = 0 then [] else [(a, v)]
  | c :: cs =>
    if a < c.1 then (if v = 0 then c :: cs else (a, v) :: c :: cs)
    else if c.1 = a then (if v = 0 then cs else (a, v) :: cs)
    else c :: cellPut a v cs

/-- Bytes written from an address on. -/
def cellsPut (a : Nat) : List Byte → List Host.Cell → List Host.Cell
  | [], l => l
  | v :: vs, l => cellsPut (a + 1) vs (cellPut a v l)

/-- `n` bytes from an address on. -/
def cellsGet (a n : Nat) (l : List Host.Cell) : List Byte := (List.range n).map fun i => cellGet (a + i) l

/-- The form that a sparse memory keeps: strictly rising addresses, all from `a` on, and no entry that is 0. -/
def cellsWf (a : Nat) : List Host.Cell → Bool
  | [] => true
  | c :: cs => decide (a ≤ c.1) && c.2 != 0 && cellsWf (c.1 + 1) cs

/-- The canonical form of a sparse memory: equal memories are equal lists. -/
def Memory.wf (l : List Host.Cell) : Bool := cellsWf 0 l

/-- DRAM and MRAM are in canonical form. -/
def State.memoryWf (s : State) : Bool := Memory.wf s.mem.cells && Memory.wf s.mem.mram

/-! The symbol code (R436): Reed–Solomon over GF(2^8) with x^8 + x^4 + x^3 + x^2 + 1 and α = 2. -/

/-- A symbol times α. -/
def gfDouble (x : Byte) : Byte := if x.getLsbD 7 then (x <<< 1) ^^^ 0x1D else x <<< 1

/-- A symbol times α^n. -/
def gfPow : Nat → Byte → Byte
  | 0, x => x
  | n + 1, x => gfPow n (gfDouble x)

/-- A symbol over α + 1 = α^25, that is times α^230. -/
def gfOver3 (x : Byte) : Byte := gfPow 230 x

/-- The sum of a list of symbols. -/
def gfSum (l : List Byte) : Byte := l.foldl (· ^^^ ·) 0

/-- c(1) and c(α) of the symbols c0 to c9. -/
def syndrome0 (c : List Byte) : Byte := gfSum (c.take 10)
def syndrome1 (c : List Byte) : Byte := gfSum ((List.range 10).map fun i => gfPow (9 - i) (nth c i 0))

/-- The ten symbols of eight data symbols: c8 and c9 make both syndromes 0. -/
def codeword (d : List Byte) : List Byte :=
  let c := d.take 8 ++ [0, 0]
  let c8 := gfOver3 (syndrome0 c ^^^ syndrome1 c)
  d.take 8 ++ [c8, syndrome0 c ^^^ c8]

/-- The data symbols d0 to d7 of the eight data bytes of a codeword (R436). -/
def dataSymbol (b : List Byte) (d : Nat) : Byte :=
  let lo := (nth b (d / 2) 0).toNat / 16 ^ (d % 2) % 16
  let hi := (nth b (4 + d / 2) 0).toNat / 16 ^ (d % 2) % 16
  BitVec.ofNat 8 (lo + 16 * hi)

/-- The data byte i of a codeword from its symbols. -/
def dataByte (c : List Byte) (i : Nat) : Byte :=
  let k := i / 4
  let s0 := (nth c (2 * (i % 4)) 0).toNat / 16 ^ k % 16
  let s1 := (nth c (2 * (i % 4) + 1) 0).toNat / 16 ^ k % 16
  BitVec.ofNat 8 (s0 + 16 * s1)

/-- Even parity of a byte. -/
def parity (b : Byte) : Nat := ((List.range 8).foldl (fun n i => n + b2n (b.getLsbD i)) 0) % 2

/-- The symbol of dv8 in byte-parity mode: the parity of data bytes 0 to 3 of each of the two beats (R438). -/
def paritySymbol (b : List Byte) : Byte :=
  BitVec.ofNat 8 ((List.range 8).foldl (fun n i => n + 2 ^ i * parity (nth b i 0)) 0)

/-- The ten symbols of eight data bytes, in the mode in force. -/
def encodeWord (byteParity : Bool) (b : List Byte) : List Byte :=
  let d := (List.range 8).map (dataSymbol b)
  if byteParity then d ++ [paritySymbol b, 0] else codeword d

/-- What a codeword decodes to: its eight data bytes and the device corrected, or nothing where it is uncorrectable (R437, R438). -/
def decodeWord (byteParity : Bool) (c : List Byte) : Option (List Byte × Option Nat) :=
  let b := (List.range 8).map (dataByte c)
  if byteParity then (if paritySymbol b = nth c 8 0 then some (b, none) else none)
  else
    let s0 := syndrome0 c
    let s1 := syndrome1 c
    if s0 = 0 ∧ s1 = 0 then some (b, none)
    else if s0 = 0 then none
    else
      match (List.range 10).find? fun i => gfPow (9 - i) s0 == s1 with
      | none => none
      | some i => some ((List.range 8).map (dataByte (put c i (nth c i 0 ^^^ s0))), some i)

/-! The channel (R432 to R435). -/

/-- Ranks of the channel: the image's, or in PILOT, where no image declares them, those that the ROM takes (free values; log entry 174). -/
def State.ranks (s : State) : Nat := if s.inMode .pilot then 1 + b2n Config.pilotTwoRanks else s.objN 0x4600 2

/-- Density of the devices, 0 for 8 Gbit and 1 for 16 Gbit; in PILOT a free value of those that Table 15-1 allows. -/
def State.density (s : State) : Nat := if s.inMode .pilot then b2n (Config.pilotDense && !Config.pilotTwoRanks) else s.objN 0x4600 3

/-- Data capacity in bytes (Table 15-1); 0 for a configuration outside the table. -/
def State.dramCapacity (s : State) : Nat :=
  match s.ranks, s.density with
  | 1, 0 => 2 ^ 33
  | 2, 0 => 2 ^ 34
  | 1, 1 => 2 ^ 34
  | _, _ => 0

/-- The unit mc is reachable: DDR4 present, MEM on, training passed, not shed (R433). -/
def State.dramUp (s : State) : Bool := s.part.has .ddr 0 && s.regionOn .mem && s.mem.trainResult == 1 && !s.isShed 8 0xFF 0

/-- The rank that holds a burst: the upper half of two ranks is rk1 (DESIGN CHOICE, log entry 31). -/
def State.rankOf (s : State) (b : Nat) : Nat := if s.ranks = 2 ∧ s.dramCapacity / 2 ≤ 32 * b then 1 else 0

/-- The rank of a burst has been stopped by a SHED: no requester reaches it, and it is not scrubbed (R28, R321; log entry 107). -/
def State.rankShed (s : State) (b : Nat) : Bool := s.isShed 8 (s.rankOf b) 0xFF

/-- The mode that a start or an `EccMode` change puts in force (R438). -/
def State.parityMode (s : State) : Bool := s.inMode .pilot || s.objN 0x4600 5 == 1

/-- What a training's result reads in 0x4600:06: 2 to 6 for the step that failed, +0x10 for rk1 where it is fitted, and 1 where every step passed. -/
def State.trainCode (s : State) (n : Nat) : Nat :=
  if (2 ≤ n ∧ n ≤ 6) ∨ (s.ranks = 2 ∧ 0x12 ≤ n ∧ n ≤ 0x16) then n else 1

/-- The array is refilled in the mode in force; in PILOT no fill is made (R434, R438). A flip mask that is armed waits for the fill to write its codeword (R446). -/
def State.refill (s : State) : State :=
  { s with mem := { s.mem with byteParity := s.parityMode, cells := [], fillPtr := 0, fillFrom := s.now, early := [], filling := !s.inMode .pilot
                               scrubbing := false, scrubPtr := 0, writeBack := [], flipFill := s.mem.flipArmed } }

/-- A window whose frames can no longer be copied, or that a last breath ends, is abandoned: its space is free at once, or at the next start where it was being
promoted (R470). -/
def State.abandonWindow (s : State) (w : Nat) : State :=
  let v := nth s.log.windows w {}
  let lost := if v.state == .promoting then (v.offset, v.offset + v.bytes) :: s.log.lostSpans else s.log.lostSpans
  { s with log := { s.log with windows := put s.log.windows w {}, lostSpans := lost } }.noteWindow w 2 v.trigRec v.trigRef

/-- A window is collecting or being promoted. -/
def Window.busy (w : Window) : Bool := w.state == .collecting || w.state == .promoting

/-- The capture ring in DRAM stops and has lost its contents; a window that still needs its frames is abandoned (R435, R438; DEDUCED, log entry 175). -/
def State.loseRing (s : State) : State :=
  let s := forUnits (List.range 10) (fun t w => if (nth t.log.windows w {}).busy then t.abandonWindow w else t) s
  { s with log := { s.log with running := false, frames := 0 } }

/-- The channel is trained with a result (R433): 1 passes, and the array is filled; any other raises the training failed source. -/
def State.train (s : State) (n : Nat) : State :=
  if s.part.has .ddr 0 then
    let s := { s.loseRing with mem := { s.loseRing.mem with
      trainResult := s.trainCode n, byteParity := true, filling := false, fillPtr := 0, early := [], scrubbing := false, writeBack := [] } }
    let k := s.key 8 0xFF 0 2
    if s.mem.trainResult = 1 then
      let s := s.clearing k
      ({ s with faults := { s.faults with sheds := s.faults.sheds.filter fun x => !(x.region == 8 && x.cluster == 0xFF) } }).refill
    else s.raise k 0
  else s

/-- The DRAM's buckets and counters as MEM's start leaves them, and the training (R433, R445). -/
def State.startMem (s : State) (n : Nat) : State :=
  { s with mem := { s.mem with buckets := List.replicate 20 {}, corrected := 0, uncorrected := 0, lastUncorrected := 0, rmws := 0, peak := 0, laps := 0, lapTime := 0
                               threshold := s.objN 0x4600 0x0B, interval := s.objN 0x4600 0x0C, leakAt := s.now
                               flipArmed := false, alerted := false, busError := false, busTo := none, answer := [] } }.train n

/-- Threshold, interval and leak timer of the SRAM instances as a start takes them (R447). -/
def State.startSram (s : State) : State :=
  { s with mem := { s.mem with sramThreshold := s.objN 0x4600 0x12, sramInterval := s.objN 0x4600 0x13, sramLeakAt := s.now } }

/-! Buckets (R445, R447). -/

/-- A correction of a device in a burst of a rank. -/
def State.countDevice (s : State) (rank d : Nat) : State :=
  let i := 10 * rank + d
  let r := (nth s.mem.buckets i {}).add s.mem.threshold
  let s := { s with mem := { s.mem with buckets := put s.mem.buckets i r.1, corrected := s.mem.corrected + 1 } }
  if r.2 then s.raise (s.key 8 rank d 1) 0 else s

/-! Bursts (R436 to R440). -/

/-- The symbols that a codeword of a burst reads as, with the errors the devices give. -/
def State.readSymbols (s : State) (b k : Nat) (errs : List SymErr) : List Byte :=
  (List.range 10).map fun d =>
    (errs.filter fun e => e.cw == k && e.dev == d).foldl (fun (v : Byte) e => v ^^^ e.bits) (cellGet ((4 * b + k) * 10 + d) s.mem.cells)

/-- The fill pointer: bursts filled so far. While the fill runs its pace is a free value (log entry 155). -/
def State.fillNow (s : State) : Nat := if s.mem.filling then min (s.dramCapacity / 32) (Config.fillPace (s.since s.mem.fillFrom)) else s.mem.fillPtr

/-- Nothing of the burst has been filled yet: a read returns zeros with no access (R434). -/
def State.unfilled (s : State) (b : Nat) : Bool := s.mem.filling && decide (s.fillNow ≤ b) && !s.mem.early.contains b

/-- The burst's four codewords, decoded. -/
def State.readBurst (s : State) (b : Nat) (errs : List SymErr) : List (Option (List Byte × Option Nat)) :=
  (List.range 4).map fun k => if s.unfilled b then some (List.replicate 8 0, none) else decodeWord s.mem.byteParity (s.readSymbols b k errs)

/-- Devices corrected in one or more codewords. -/
def correctedDevices (l : List (Option (List Byte × Option Nat))) : List Nat :=
  (List.range 10).filter fun d => l.any fun r => match r with | some (_, some x) => x == d | _ => false

/-- The data bytes of decoded codewords. -/
def wordsBytes (l : List (Option (List Byte × Option Nat))) : List Byte :=
  (l.map fun r => match r with | some (b, _) => b | none => List.replicate 8 0).flatten

/-- The first uncorrectable codeword. -/
def firstBad (l : List (Option (List Byte × Option Nat))) : Option Nat := (List.range 4).find? fun k => (nth l k none).isNone

/-- Corrections counted for a burst read. -/
def State.countBurst (s : State) (b : Nat) (l : List (Option (List Byte × Option Nat))) : State :=
  forUnits (correctedDevices l) (fun t d => t.countDevice (t.rankOf b) d) s

/-- An uncorrectable codeword (R444): counted, its burst address kept, the rank's source raised with the address and both syndrome symbols. -/
def State.uncorrectable (s : State) (b k : Nat) (errs : List SymErr) : State :=
  let c := s.readSymbols b k errs
  let s := { s with mem := { s.mem with uncorrected := s.mem.uncorrected + 1, lastUncorrected := 32 * b } }
  s.raiseWith (s.key 8 (s.rankOf b) 0 2) 0 (leBytes 8 (32 * b) ++ [syndrome0 c, syndrome1 c]) false

/-- The 80 flip bits of an armed mask on the symbol of a device. -/
def flipSymbol (m : BitVec 80) (d : Nat) : Byte := BitVec.ofNat 8 (m.toNat / 2 ^ (8 * d))

/-- The flip mask is armed for a codeword of the burst. -/
def State.flipsBurst (s : State) (b : Nat) : Bool := s.mem.flipArmed && s.mem.flipAddr / 32 == b

/-- One codeword written, with the flip mask where it applies (R446). -/
def State.writeWord (s : State) (b k : Nat) (data : List Byte) : State :=
  let flip := s.flipsBurst b && s.mem.flipAddr % 32 / 8 == k
  let c := encodeWord s.mem.byteParity data
  let c := if flip then (List.range 10).map fun d => nth c d 0 ^^^ flipSymbol s.mem.flipMask d else c
  { s with mem := { s.mem with cells := cellsPut ((4 * b + k) * 10) c s.mem.cells } }

/-- A whole burst written: it counts as filled, a write-back that waits for it is cancelled, the flip mask is spent (R434, R442, R446). -/
def State.writeBurst (s : State) (b : Nat) (data : List Byte) : State :=
  let t := forUnits [0, 1, 2, 3] (fun t k => t.writeWord b k ((data.drop (8 * k)).take 8)) s
  { t with mem := { t.mem with early := if s.unfilled b then b :: t.mem.early else t.mem.early
                               writeBack := t.mem.writeBack.filter fun x => x != b
                               flipArmed := t.mem.flipArmed && !s.flipsBurst b } }

/-- The zero fill writes the codeword that an armed flip mask names, and the mask is spent (R446). -/
def State.fillFlip (s : State) : State :=
  let t := s.writeWord (s.mem.flipAddr / 32) (s.mem.flipAddr % 32 / 8) (List.replicate 8 0)
  { t with mem := { t.mem with flipArmed := false, flipFill := false } }

/-- An armed mask waits for the fill in progress: no write has come to its burst before. -/
def State.flipWaits (s : State) : Bool := s.mem.filling && s.mem.flipArmed && s.mem.flipFill && !s.mem.early.contains (s.mem.flipAddr / 32)

/-- What the fill has written up to now: it has spent an armed mask where its pointer has passed the mask's burst. -/
def State.filledNow (s : State) : State := if s.flipWaits && decide (s.mem.flipAddr / 32 < s.fillNow) then s.fillFlip else s

/-- 0x2720:04 and `flip_armed` as they read now (R446). -/
def State.flipArmedNow (s : State) : Bool := s.filledNow.mem.flipArmed

/-! Transactions (R441). -/

/-- The order of R441 among requesters. -/
def Requester.rank : Requester → Nat
  | .recorder => 0 | .cores => 1 | .server => 2 | .scrubber => 3

/-- MEM serves the transaction next (R441): no earlier one waits for the same burst, none of a higher rank for another, and at most 64 are outstanding. -/
def MemReq.inTurn (q : MemReq) (b : Nat) : Bool :=
  decide (q.others.length < 64) && q.others.all fun o => if o.2.1 = b then !o.2.2 else decide (q.who.rank ≤ o.1.rank)

/-- 0x4600:11 with a transaction and those beside it (R441). -/
def State.peaked (s : State) (q : MemReq) : State := { s with mem := { s.mem with peak := max (q.others.length + 1) s.mem.peak } }

/-- A burst read that found corrected codewords waits to be written back (R437). -/
def State.queueWriteBack (s : State) (b : Nat) (l : List (Option (List Byte × Option Nat))) : State :=
  if (correctedDevices l).isEmpty || s.mem.writeBack.contains b then s else { s with mem := { s.mem with writeBack := s.mem.writeBack ++ [b] } }

/-- A read of up to a burst (R437, R444, R445). -/
def State.dramReadOp (s : State) (rq : MemReq) (addr len : Nat) (errs : List SymErr) : State :=
  let s := s.filledNow
  let b := addr / 32
  let l := s.readBurst b errs
  let s := (s.peaked rq).countBurst b l
  match firstBad l with
  | some k => (s.uncorrectable b k errs).busErrorTo rq.who rq.host
  | none =>
    let s := s.queueWriteBack b l
    { s with mem := { s.mem with busError := false, busTo := none, answer := ((wordsBytes l).drop (addr % 32)).take len } }

/-- The codewords that a write of bytes within a burst leaves to be read first: all but those it covers whole (Table 15-2). -/
def needsRead (off n k : Nat) : Bool := !(decide (off ≤ 8 * k) && decide (8 * k + 8 ≤ off + n))

/-- A write within a burst (R439, R440). -/
def State.dramWriteOp (s : State) (rq : MemReq) (addr : Nat) (data : List Byte) (errs : List SymErr) : State :=
  let s := s.filledNow
  let b := addr / 32
  let off := addr % 32
  let d := data.take (32 - off)
  let n := d.length
  let l := (s.readBurst b errs).mapIdx fun k r => if needsRead off n k then r else some (List.replicate 8 0, none)
  let narrow := off % 8 != 0 || n % 8 != 0
  let s := ({ (s.peaked rq) with mem := { (s.peaked rq).mem with rmws := s.mem.rmws + b2n narrow } } : State).countBurst b l
  match firstBad l with
  | some k => (s.uncorrectable b k errs).busErrorTo rq.who rq.host
  | none =>
    let old := wordsBytes l
    let s := s.writeBurst b (old.take off ++ d ++ old.drop (off + n))
    { s with mem := { s.mem with busError := false, busTo := none, answer := [] } }

/-- TRAIN_COMMAND (R433): in SERVICE. `result` is what the training finds. -/
def execTrainCommand (ch : Chan) (v result : Nat) (s : State) : Host.Outcome State Fault Refusal :=
  .next (s.guardedWrite ch 0x4600 0x14 (leBytes 1 v) (if s.inMode .service then 0 else stState) (s.train result))

/-- DRAM_FILL_COMPLETE (R434, R443): the scrubber starts unless `EccMode` is 1. -/
def execDramFillComplete (s : State) : Host.Outcome State Fault Refusal :=
  .next (if s.mem.filling && s.dramUp then
      let s := if s.flipWaits then s.fillFlip else s
      { s with mem := { s.mem with filling := false, fillPtr := s.dramCapacity / 32, early := [], scrubbing := s.objN 0x4600 5 == 0, scrubPtr := 0, lapFrom := s.now } }
    else s)

/-- DRAM_READ (R437, R441): the command is the service of a transaction; out of its turn none is made. -/
def execDramRead (rq : MemReq) (addr len : Nat) (errs : List SymErr) (s : State) : Host.Outcome State Fault Refusal :=
  if !s.dramUp then .next s
  else if s.dramCapacity ≤ addr then .fault (.dramAddress addr)
  else .next (if s.rankShed (addr / 32) || !rq.inTurn (addr / 32) then s else s.dramReadOp rq addr len errs)

/-- DRAM_WRITE (R439, R441). -/
def execDramWrite (rq : MemReq) (addr : Nat) (data : List Byte) (errs : List SymErr) (s : State) : Host.Outcome State Fault Refusal :=
  if !s.dramUp then .next s
  else if s.dramCapacity ≤ addr then .fault (.dramAddress addr)
  else .next (if s.rankShed (addr / 32) || !rq.inTurn (addr / 32) then s else s.dramWriteOp rq addr data errs)

/-- The burst that the scrubber reads: a write-back that waits, else the next of its lap. -/
def State.scrubTarget (s : State) : Nat := s.mem.writeBack.headD s.mem.scrubPtr

/-- The scrubber moves on; the wrap ends a lap (R442, R443). -/
def State.scrubAdvance (s : State) : State :=
  match s.mem.writeBack with
  | _ :: w => { s with mem := { s.mem with writeBack := w } }
  | [] =>
    if s.mem.scrubPtr + 1 < s.dramCapacity / 32 then { s with mem := { s.mem with scrubPtr := s.mem.scrubPtr + 1 } }
    else
      let s := { s with mem := { s.mem with scrubPtr := 0, laps := s.mem.laps + 1, lapTime := secOf (s.since s.mem.lapFrom), lapFrom := s.now } }
      s.clearing (s.key 8 0xFF 2 0)

/-- SCRUB_BURST (R442). -/
def execScrubBurst (errs : List SymErr) (s : State) : Host.Outcome State Fault Refusal :=
  .next (if s.mem.scrubbing && s.dramUp then
      let b := s.scrubTarget
      if s.rankShed b then s.scrubAdvance else
      let l := s.readBurst b errs
      let s := s.countBurst b l
      match firstBad l with
      | some k => (s.uncorrectable b k errs).scrubAdvance
      | none =>
        let s := s.scrubAdvance
        if (correctedDevices l).isEmpty then s else s.writeBurst b (wordsBytes l)
    else s)

/-- SCRUB_LAP_OVERDUE (R443). -/
def execScrubLapOverdue (s : State) : Host.Outcome State Fault Refusal :=
  let lim := s.objN 0x4600 0x0A
  .next (if s.mem.scrubbing && s.dramUp && lim != 0 && s.elapsed s.mem.lapFrom lim then s.raise (s.key 8 0xFF 2 0) 0 else s)

/-- One bucket's leak; true where it reaches 0 after an overflow. -/
def Bucket.leak (b : Bucket) : Bucket × Bool := ({ b with level := b.level - 1, full := b.full && decide (1 < b.level) }, b.full && decide (b.level ≤ 1))

/-- The leak of device i. -/
def State.leakDevice (s : State) (i : Nat) : State :=
  let r := (nth s.mem.buckets i {}).leak
  let s := { s with mem := { s.mem with buckets := put s.mem.buckets i r.1 } }
  if r.2 then s.clearing (s.key 8 (i / 10) (i % 10) 1) else s

/-- The leak of SRAM instance i. -/
def State.leakSram (s : State) (i : Nat) : State :=
  let r := (nth s.mem.sram i {}).leak
  let s := { s with mem := { s.mem with sram := put s.mem.sram i r.1 } }
  if r.2 then s.clearing (s.key (i / 27 + 1) 0xFE (i % 27) 1) else s

/-- The devices' buckets leak; a changed threshold or interval takes effect (R445). -/
def State.leakDevices (s : State) : State :=
  let m := s.mem
  let s := { s with mem := { m with threshold := s.objN 0x4600 0x0B, interval := s.objN 0x4600 0x0C, leakAt := m.leakAt + m.interval * ticksPerMs } }
  forUnits (List.range 20) (fun t i => t.leakDevice i) s

/-- The SRAM instances' buckets leak (R447). -/
def State.leakSrams (s : State) : State :=
  let m := s.mem
  let s := { s with mem := { m with sramThreshold := s.objN 0x4600 0x12, sramInterval := s.objN 0x4600 0x13
                                    sramLeakAt := m.sramLeakAt + m.sramInterval * ticksPerMs } }
  forUnits (List.range 270) (fun t i => t.leakSram i) s

/-- BUCKET_LEAK_TICK (R445, R447): each interval in force, each non-empty bucket leaks one. -/
def execBucketLeakTick (sram : Bool) (s : State) : Host.Outcome State Fault Refusal :=
  .next (if sram then (if s.mem.sramLeakAt + s.mem.sramInterval * ticksPerMs ≤ s.now then s.leakSrams else s)
    else if s.part.has .ddr 0 && s.regionOn .mem && decide (s.mem.leakAt + s.mem.interval * ticksPerMs ≤ s.now) then s.leakDevices
    else s)

/-- The mode of the array changes (R438): the queue drains, the ring stops and loses its contents, and a trained channel is refilled. -/
def State.applyEccMode (s : State) (v : Nat) : State :=
  if s.objN 0x4600 5 = v then s.setObjN 0x4600 5 1 v
  else
    let s := (s.setObjN 0x4600 5 1 v).loseRing
    if s.mem.trainResult = 1 then s.refill else s

/-- ECC_MODE_CHANGE (R438): in SERVICE. -/
def execEccModeChange (ch : Chan) (v : Nat) (s : State) : Host.Outcome State Fault Refusal :=
  .next (s.guardedWrite ch 0x4600 5 (leBytes 1 v) (if s.inMode .service then 0 else stState) (s.applyEccMode v))

/-- The mask of 0x2720 armed (R446). -/
def State.armFlip (s : State) : State :=
  let s := s.filledNow
  { s with mem := { s.mem with flipArmed := true, flipFill := s.unfilled (s.objN 0x2720 3 / 32), flipMask := BitVec.ofNat 80 (s.objN 0x2720 1 + 2 ^ 64 * s.objN 0x2720 2), flipAddr := s.objN 0x2720 3 } }

/-- FLIP_ARM (R446): in SERVICE. -/
def execFlipArm (ch : Chan) (v : Nat) (s : State) : Host.Outcome State Fault Refusal :=
  .next (s.guardedWrite ch 0x2720 4 (leBytes 1 v) (if s.inMode .service then 0 else stState) s.armFlip)

/-- DRAM_ALERT (R512): the command is retried once; a second alert is an uncorrectable error of the rank. -/
def execDramAlert (rank : Nat) (s : State) : Host.Outcome State Fault Refusal :=
  .next (if s.dramUp && decide (rank < max 1 s.ranks) then
      (if s.mem.alerted then
        let s := { s with mem := { s.mem with alerted := false, uncorrected := s.mem.uncorrected + 1, busError := true } }
        s.raise (s.key 8 rank 0 2) 0
      else { s with mem := { s.mem with alerted := true } })
    else s)

/-- An SRAM instance of the variant, in a region that is powered. -/
def State.sramPresent (s : State) (region unit : Nat) : Bool :=
  decide (unit < nth sramUnits region 0) && s.supply.phase == .running && nth s.mode.regions region .off != .off
    && !(region == 6 && unit == 1 && !s.part.has .eth 1) && !(region == 7 && !s.part.has .ddr 0) && !(region == 8 && unit == 1 && s.part != .fyx9462)

/-- SRAM_SCRUB_READ (R447): a single-bit error is corrected, written back and counted. -/
def execSramScrubRead (region unit : Nat) (single : Bool) (s : State) : Host.Outcome State Fault Refusal :=
  .next (if single && s.sramPresent region unit then s.countSram region unit else s)

/-! MRAM (R449 to R451). -/

/-- Who writes the partition of a byte offset (Table 15-6): the state partition has two writers. -/
def mramOwner (w : MramWriter) (a : Nat) : Bool :=
  if a < 0x1400000 then w == .update
  else if a < 0x3C00000 then w == .recorder
  else if a < 0x4000000 then w == .cores || w == .ao
  else false

/-- The image write that is open fails with a code: the slot stays invalid, and its transfer is over (R450, R484). -/
def State.failImageWrite (s : State) (reason : Nat) : State :=
  { s.dropImageTransfers with img := { s.img with updState := 5, updReject := reason, updData := [], updByTwin := false } }

/-- A write that has failed three times fails to its writer (R450): the image write fails, the record is dropped or the copy is not committed as it comes to be.
DEDUCED (log entry 174): a window whose word fails is abandoned. -/
def State.writeFailed (s : State) (w : MramWriter) (addr : Nat) : State :=
  match w with
  | .update => if s.img.updState == 1 || s.img.updState == 2 then s.failImageWrite 8 else s
  | .recorder =>
    if addr < 0x1C00000 then { s with mem := { s.mem with failed := .recorder :: s.mem.failed.filter fun x => x != .recorder } }
    else forUnits ((List.range 10).filter fun i =>
        let v := nth s.log.windows i {}
        v.state == .promoting && decide (0x1C00000 + v.offset ≤ addr) && decide (addr < 0x1C00000 + v.offset + v.bytes)) (fun t i => t.abandonWindow i) s
  | w => { s with mem := { s.mem with failed := w :: s.mem.failed.filter fun x => x != w } }

/-- MRAM_WRITE (R450): verified, retried twice, or failed. DEDUCED (log entry 174): every word written is such a command, so that 0x4630:01 counts here alone. -/
def execMramWrite (w : MramWriter) (addr : Nat) (v : BitVec 64) (fails : Nat) (s : State) : Host.Outcome State Fault Refusal :=
  .next (if mramOwner w addr && addr % 8 == 0 then
      let s := { s with mem := { s.mem with mramWrites := s.mem.mramWrites + 1, mramRetries := s.mem.mramRetries + min 2 fails } }
      if 3 ≤ fails then ({ s with mem := { s.mem with mramFails := s.mem.mramFails + 1 } }.raise (s.key 9 0xFF 0 1) 0).writeFailed w addr
      else { s with mem := { s.mem with mram := cellsPut addr (leBytes 8 v.toNat) s.mem.mram, badWords := s.mem.badWords.filter fun a => a != addr } }.d2dGood
    else s)

/-- The slot that holds a byte offset made invalid (R451). -/
def Img.spoil (m : Img) (a : Nat) : Img :=
  let bad (l : List ImgSlot) (i : Nat) : List ImgSlot := put l i { (nth l i {}) with valid := false }
  if a < 0x800000 then { m with fw := bad m.fw 0 }
  else if a < 0x1000000 then { m with fw := bad m.fw 1 }
  else if a < 0x1200000 then { m with cfg := bad m.cfg 0 }
  else if a < 0x1400000 then { m with cfg := bad m.cfg 1 }
  else m

/-- A copy that holds an uncorrectable word is bad until it is written again: its reader takes the other (R65, R451). -/
def State.spoilCopy (s : State) (c : MramCopy) (second : Bool) : State :=
  let i := b2n second
  match c with
  | .counters =>
    let f := fun (x : CounterCopy) => { x with crc := ~~~x.crc }
    { s with supply := if second then { s.supply with copyB := f s.supply.copyB } else { s.supply with copyA := f s.supply.copyA } }
  | .estimator k =>
    let f := fun (x : EstCopy) => { x with crc := ~~~x.crc }
    s.setStr k (if second then { s.str k with savedB := f (s.str k).savedB } else { s.str k with savedA := f (s.str k).savedA })
  | .stored =>
    let f := fun (x : StoreCopy) => { x with crc := ~~~x.crc }
    { s with net := if second then { s.net with storedB := f s.net.storedB } else { s.net with storedA := f s.net.storedA } }
  | .vid =>
    { s with thermal := if second then { s.thermal with vidB := { s.thermal.vidB with good := false } } else { s.thermal with vidA := { s.thermal.vidA with good := false } } }
  | .keys => { s with img := { s.img with keyParts := put s.img.keyParts i { (nth s.img.keyParts i {}) with good := false } } }
  | .markers => let x := nth s.img.marks i {}; { s with img := { s.img with marks := put s.img.marks i { x with crc := ~~~x.crc } } }
  | .head => let x := nth s.log.heads i {}; { s with log := { s.log with heads := put s.log.heads i { x with crc := ~~~x.crc } } }

/-- A word that no read can correct: it stays marked until it is written; an image slot or a copy that holds it is bad (R451). -/
def State.uncorrectableWord (s : State) (e : MramError) : State :=
  let s := { s with mem := { s.mem with mramUncorrected := s.mem.mramUncorrected + 1
                                        badWords := (e.addr / 8 * 8) :: s.mem.badWords.filter fun a => a != e.addr / 8 * 8 }
                    img := (s.img.spoil e.addr).mark }
  let s := match e.copy with
    | some c => if 0x3C00000 ≤ e.addr then s.spoilCopy c.1 c.2 else s
    | none => s
  s.raise (s.key 9 0xFF 0 2) 0

/-- MRAM_READ_UE (R451): an error that a read of the MRAM finds. A single wrong bit is corrected, written back and counted. -/
def execMramReadUe (e : MramError) (s : State) : Host.Outcome State Fault Refusal :=
  .next (if e.addr < 0x4000000 then
      (if e.single then { s with mem := { s.mem with mramCorrected := s.mem.mramCorrected + 1 } } else s.uncorrectableWord e)
    else s)

end Sys2Proof.Machine
end

