-- ==== Sys2Proof/Machine/Logbook.lean ====
section
/-! DEFINITION. The recorder: logbook, freeze, readout, capture ring, windows and last-breath summary (chapter 16). -/
namespace Sys2Proof.Machine

/-! Committing (R457 to R460). -/

def logSlots : Nat := 131072

/-- The source of a capture frame dropped. -/
def State.frameKey (s : State) : Key := s.key 9 0xFF 2 1

/-- The head word written before a record, with its CRC-32, alternating between its copies (R457). -/
def Log.writeHead (l : Log) (slot : Nat) : Log :=
  { l with heads := put l.heads l.nextHead ({ slot := slot, number := l.next } : HeadWord).closed, nextHead := 1 - l.nextHead }

/-- The newer valid head word (R457). -/
def Log.head (l : Log) : Option HeadWord :=
  (l.heads.filter (·.valid)).foldl (fun m h => match m with | some x => if x.number < h.number then some h else m | none => some h) none

/-- What names a record before it has a number. -/
def Record.ref (r : Record) : RecRef := { recType := r.recType, sourceId := r.sourceId, kind := r.kind, tick := r.tick }

/-- The number of the record that is named, 0 while it has none. -/
def Log.numberOf (l : Log) (f : RecRef) : Nat := match l.held.find? fun r => r.ref == f with | some r => r.number | none => 0

/-- A record's payload with the number of the record that it names (Table 16-3, type 0x0040). -/
def Log.payloadOf (l : Log) (r : Record) : List Byte :=
  match r.refers with
  | some f => r.payload.take 2 ++ leBytes 8 (l.numberOf f) ++ r.payload.drop 10
  | none => r.payload

/-- A record written to a slot with the next number, which the windows that it triggered take (R455, R471). -/
def Log.store (l : Log) (r : Record) (slot : Nat) : Log :=
  let l := l.writeHead slot
  { l with held := l.held ++ [{ r with number := l.next, slot := slot, payload := l.payloadOf r }], next := l.next + 1
           windows := l.windows.map fun w => if w.trigRef == some r.ref then { w with trigRec := l.next } else w }

/-- The next free slot while the logbook is not full (R459): the one after the last that was filled, or one that a discarded record has left. -/
def Log.freeSlot (l : Log) : Nat :=
  if l.nextSlot < logSlots then l.nextSlot else ((List.range logSlots).find? fun i => !l.held.any fun r => r.slot == i).getD 0

/-- The oldest record of a class. -/
def oldestOf (c : Nat) (l : List Record) : Option Record := l.find? fun r => r.cls == c

/-- A record committed: to the next free slot, over the oldest of the lowest class, or dropped (R459). -/
def Log.commit (l : Log) (r : Record) : Log :=
  if l.held.length < logSlots then { (l.store r l.freeSlot) with nextSlot := if l.nextSlot < logSlots then l.nextSlot + 1 else l.nextSlot }
  else
    let c := lowestClass l.held
    if c ≤ r.cls then
      let slot := match oldestOf c l.held with | some o => o.slot | none => 0
      { ({ l with held := dropFirst c l.held }.store r slot) with overwrites := l.overwrites + 1 }
    else l.countDrop r.cls

/-- The recorder commits: NVM is powered and no freeze holds it. -/
def State.recorderRuns (s : State) : Bool := s.supply.phase == .running && (s.regionOn .nvm || s.inMode .moored) && s.log.freeze != .frozen

/-- The freeze's commit point (R461). -/
def State.freezeNow (s : State) : State :=
  ({ s with log := { s.log with freeze := .frozen, frozenAt := s.now } }).note 0x0041 (leBytes 1 2)

/-- The oldest pending record can be committed (R458): one that has been raised waits for the end of its carrier period, which may bring a higher one (R324, R455;
DEDUCED, log entry 178). -/
def State.recordDue (s : State) : Bool :=
  s.recorderRuns && (match s.log.waiting with
    | [] => false
    | r :: _ => !(r.recType == 1 && s.refCarrierRuns && decide (s.periodFrom ≤ r.tick)))

/-- The oldest pending record is committed, or dropped where a write of it has failed three times (R450). -/
def State.commitRecord (s : State) : State :=
  match s.log.waiting with
  | [] => s
  | r :: rs =>
    let drops := s.log.drops
    let bad := s.mem.failed.contains .recorder
    let l : Log := { s.log with waiting := rs }
    let s := { s with log := if bad then l.countDrop r.cls else l.commit r, mem := { s.mem with failed := s.mem.failed.filter fun x => x != MramWriter.recorder } }
    if s.log.drops = drops then s.clearing s.dropKey else s.settleDrops

/-- Classes and defined payload bytes of the record types of Table 16-3 but for the fault records. -/
def recordTypes : List (Nat × Nat × Nat) := [
  (0x0003, 0, 22), (0x0010, 0, 4), (0x0011, 1, 5), (0x0012, 0, 4), (0x0013, 0, 3), (0x0020, 0, 5), (0x0030, 1, 5), (0x0040, 0, 10), (0x0041, 0, 1), (0x0050, 0, 3),
  (0x0060, 0, 12), (0x0070, 0, 3), (0x0090, 0, 32)]

/-- A record is one that Table 16-3 lists: a fault record of a source that exists, at the class it is active with or, once clear, at one it can have had; or another
type with its class, no source, and zeros beyond its payload. -/
def State.recordOk (s : State) (r : Record) : Bool :=
  let k : Key := { id := r.sourceId, kind := r.kind }
  if r.recType = 1 ∨ r.recType = 2 then
    s.sourceExists k && decide (r.payload.length ≤ 32)
      && (match k.row, s.activeOf k with
        | some _, some a => r.cls == a.cls
        | some w, none => decide (w.floor ≤ r.cls) && decide (r.cls ≤ w.ceil)
        | none, _ => false)
  else
    match recordTypes.find? fun x => x.1 == r.recType with
    | some x => r.cls == x.2.1 && r.sourceId == 0 && r.kind == 0 && decide (r.payload.length ≤ 32) && (r.payload.drop x.2.2).all (· == 0)
    | none => false

/-- RECORD_ARRIVAL (R454, R455, R460): an event's record is stamped and enters the pending buffer, a raise in the order of R324. A record that Table 16-3 does not list is
never written. -/
def execRecordArrival (r : Record) (s : State) : Host.Outcome State Fault Refusal :=
  .next (if s.supply.phase == .running && s.recordOk r then
      let x := { (s.mkRecord r.recType r.cls r.kind r.sourceId r.payload) with superseded := r.superseded }
      (if r.recType = 1 then { s with log := s.arriveRaise x s.log } else s.enterRecord x).settleDrops
    else s)

/-- RECORD_COMMIT (R458, R459): a freeze that starts waits for this commit (R461). -/
def execRecordCommit (s : State) : Host.Outcome State Fault Refusal :=
  .next (if s.recordDue then
      let s := s.settleDrops.d2dGood.commitRecord
      if s.log.freeze == .freezing then s.freezeNow else s
    else s)

/-! Freeze (R461, R462). -/

def Freeze.code : Freeze → Nat
  | .none => 0 | .freezing => 1 | .frozen => 2 | .released => 3 | .expired => 4 | .aborted => 5

/-- A freeze ends: the records that it has held since its commit point carry `from_freeze`, and the record gives the state (R462). -/
def State.endFreeze (s : State) (f : Freeze) : State :=
  let held := s.log.freeze == .frozen
  ({ s with log := { s.log with freeze := f, waiting := s.log.waiting.map fun (r : Record) => { r with fromFreeze := r.fromFreeze || held } } }).note 0x0041 (leBytes 1 f.code)

def State.freezeHeld (s : State) : Bool := s.log.freeze == .freezing || s.log.freeze == .frozen

/-- A freeze starts: with no record under way its commit point is at once (R461). -/
def State.startFreeze (s : State) (ch : Chan) : State :=
  let s := { s with log := { s.log with freeze := .freezing, owner := ch, command := 1 } }
  if s.log.waiting.isEmpty then s.freezeNow else s

/-- FREEZE_START (R461). -/
def execFreezeStart (ch : Chan) (s : State) : Host.Outcome State Fault Refusal :=
  .next (s.guardedWrite ch 0x4701 6 [1] (if s.inMode .pilot || s.freezeHeld then stState else 0) (s.startFreeze ch))

/-- What answers an abort of a freeze (R462). -/
def State.freezeAbortStatus (s : State) (ch : Chan) : Nat :=
  if s.log.owner != ch || !s.freezeHeld then stState else if s.log.freeze == .frozen then stAlready else 0

/-- FREEZE_ABORT (R462). -/
def execFreezeAbort (ch : Chan) (s : State) : Host.Outcome State Fault Refusal :=
  .next (s.guardedWrite ch 0x4701 6 [2] (s.freezeAbortStatus ch)
    ({ s with log := { s.log with freeze := .aborted, command := 2 } }.note 0x0041 (leBytes 1 5)))

/-- FREEZE_RELEASE (R462). -/
def execFreezeRelease (ch : Chan) (s : State) : Host.Outcome State Fault Refusal :=
  .next (s.guardedWrite ch 0x4701 6 [3] (if s.log.owner == ch && s.log.freeze == .frozen then 0 else stState)
    ({ s with log := { s.log with command := 3 } }.endFreeze .released))

/-- FREEZE_LIMIT_EXPIRED (R462). -/
def execFreezeLimitExpired (s : State) : Host.Outcome State Fault Refusal :=
  .next (if s.log.freeze == .frozen && s.elapsed s.log.frozenAt (s.objN 0x4701 8) then s.endFreeze .expired else s)

/-- The owner's session closes: its freeze ends as expired (R462). -/
def State.freezeSessionClosed (s : State) (ch : Chan) : State := if s.freezeHeld && s.log.owner == ch then s.endFreeze .expired else s

/-! Readout (R463). -/

/-- The readout cursor of a session placed; 0 is the oldest record held. -/
def State.placeCursor (s : State) (ch : Chan) (n : Nat) : State :=
  match s.session ch with
  | some x =>
    let oldest := match s.log.held.head? with | some r => r.number | none => 0
    s.setSession ch { x with cursor := if n = 0 then oldest else n, skipped := 0 }
  | none => s

/-- READ_FROM_WRITE (R463). -/
def execReadFromWrite (ch : Chan) (n : Nat) (s : State) : Host.Outcome State Fault Refusal :=
  .next (s.guardedWrite ch 0x4702 1 (leBytes 8 n) 0 (s.placeCursor ch n))

/-- The record's slot holds a word that no read can correct (R451). -/
def State.recordSpoilt (s : State) (r : Record) : Bool := s.mem.badWords.any fun a => decide (0x1400000 + 64 * r.slot ≤ a) && decide (a < 0x1400000 + 64 * r.slot + 64)

/-- The records a read of `ReadBlock` returns to a session. -/
def State.blockFor (s : State) (x : Session) : List Record := (s.log.held.filter fun r => decide (x.cursor ≤ r.number) && decide (x.minClass ≤ r.cls)).take 21

/-- Numbers that the cursor passed over because no record of theirs is held. -/
def State.passedOver (s : State) (x : Session) (last : Nat) : Nat :=
  let first := if x.cursor = 0 then (match s.log.held.head? with | some r => r.number | none => 0) else x.cursor
  (last + 1 - first) - (s.log.held.filter fun r => decide (first ≤ r.number) && decide (r.number ≤ last)).length

/-- A read of `ReadBlock`: up to 21 records, and the cursor past the last. -/
def State.readBlock (s : State) (ch : Chan) : State :=
  match s.session ch with
  | none => s
  | some x =>
    let l := s.blockFor x
    if l.any s.recordSpoilt then s.reply ch stHardware []
    else
      match l.getLast? with
      | none => s.reply ch stOk []
      | some r => (s.setSession ch { x with cursor := r.number + 1, skipped := x.skipped + s.passedOver x r.number }).reply ch stOk (l.map Record.bytes).flatten

/-- READ_BLOCK (R463). -/
def execReadBlock (ch : Chan) (s : State) : Host.Outcome State Fault Refusal :=
  .next (if !s.served ch then s
    else
      let c := s.existsStatus 0x4702 3
      if c ≠ 0 then s.answerWrite ch c else s.readBlock ch)

/-! The capture ring (R464 to R466). -/

/-- Channels of a frame: md0 to md47, or on the FYX9462 those of `RingChannels`. -/
def State.ringChannels (s : State) : List Nat :=
  if s.part = .fyx9462 then ((List.range 32).filter fun n => bit (s.objN 0x4700 3) n).take 32 else List.range 48

def State.frameBytes (s : State) : Nat := 2 * s.ringChannels.length

/-- Frames that the ring holds. -/
def State.ringFrames (s : State) : Nat :=
  if s.frameBytes = 0 then 0
  else if s.part = .fyx9462 then 2 ^ 22 / s.frameBytes else (s.dramCapacity - 0x10000000) / s.frameBytes

/-- The 16-bit code of an input (R464). -/
def State.ringCode (s : State) (md : Nat) : Nat :=
  let m := s.modIn md
  if !s.part.has .modIn md || !s.inputRuns md || !m.valid then 0x8000
  else
    let c := roundR (F32.toRat m.x * 32767)
    wordOf 16 (max (-32767) (min 32767 c))

/-- The bytes of a frame. -/
def State.frameData (s : State) : List Byte := (s.ringChannels.map fun n => leBytes 2 (s.ringCode n)).flatten

/-- Frames before and after the trigger frame (R469). -/
def State.windowFrames (s : State) (sub : Nat) : Nat := (s.objR 0x4703 sub * 312500).floor.toNat

/-- The fill is past the ring's first window: the frames of one window from the ring's first byte on (R434; DEDUCED, log entry 155). -/
def State.windowFilled (s : State) : Bool :=
  !s.mem.filling || decide (0x10000000 + s.frameBytes * (s.windowFrames 5 + 1 + s.windowFrames 6) ≤ 32 * s.fillNow)

/-- The ring runs (R465, R466). -/
def State.ringRuns (s : State) : Bool :=
  s.part.has .ring 0 && s.objN 0x4700 2 == 1 && s.regionOn .sns && s.ringFrames != 0
    && (s.part == .fyx9462 || (s.part.has .ddr 0 && s.regionOn .mem && !s.mem.byteParity && s.windowFilled))

/-- The ring starts empty; a window that still needs frames of the ring before is abandoned. -/
def State.startRing (s : State) : State :=
  let s := s.loseRing
  { s with log := { s.log with running := true, ringMask := s.objN 0x4700 3, ringFrom := s.now, ringTime := s.ptpNs, ringOt := s.opMs, sramRing := [] } }

/-- The ring as a frame finds it: started anew where it did not run, or ran with other channels (R465, R466). -/
def State.openRing (s : State) : State := if s.log.running && (s.part != .fyx9462 || s.log.ringMask == s.objN 0x4700 3) then s else s.startRing

/-- A frame of bytes written to the DRAM ring, burst by burst. -/
def State.writeFrame (s : State) (at_ : Nat) (data : List Byte) (errs : List SymErr) : State :=
  forUnits (List.range ((data.length + 31) / 32)) (fun t i => t.dramWriteOp { who := .recorder } (at_ + 32 * i) ((data.drop (32 * i)).take 32) errs) s

/-- What a window's header says of its trigger frame: stamp, PTP time of the first frame, scales and offsets as they stand now (R471). -/
def State.stampWindow (s : State) (v : Window) : Window :=
  { v with
    stamp := s.opMs, pcc := s.supply.cycles % 2 ^ 24, seqStamp := s.log.timeInvalid
    ptp := if s.net.time.state = 0 then 0 else s.ptpNs - v.pre * 3200
    scales := (List.range 48).map fun n => F32.ofRat (F32.toRat (s.modIn n).fs * F32.toRat (s.modIn n).gain)
    offsets := (List.range 48).map fun n => (s.modIn n).offset }

/-- The windows whose trigger frame is the one captured now. -/
def State.stampWindows (s : State) : State :=
  { s with log := { s.log with windows := s.log.windows.map fun w => if w.state == .collecting && w.trigFrame == s.log.frames then s.stampWindow w else w
                               lastFrame := some s.now } }

/-- One frame captured. -/
def State.capture (s : State) (errs : List SymErr) : State :=
  let s := s.stampWindows
  let d := s.frameData
  let i := s.log.frames % s.ringFrames
  if s.part = .fyx9462 then
    { (s.clearing s.frameKey) with log := { s.log with frames := s.log.frames + 1, captured := s.log.captured + 1, sramRing := cellsPut (i * s.frameBytes) d s.log.sramRing } }
  else if s.dramUp && !s.rankShed ((0x10000000 + i * 96) / 32) then
    let before := s.log.dropped
    let s := s.writeFrame (0x10000000 + i * 96) d errs
    let ok := s.log.dropped == before
    let s := { s with log := { s.log with frames := s.log.frames + 1, captured := s.log.captured + b2n ok, dropped := before + b2n (!ok) } }
    if ok then s.clearing s.frameKey else s
  else { (s.raise s.frameKey 0) with log := { (s.raise s.frameKey 0).log with frames := s.log.frames + 1, dropped := s.log.dropped + 1 } }

/-- The first frame tick at or after a tick: a whole number of 1,280 ticks from the common start pulse (R464, R467). -/
def State.frameTick (s : State) (t : Nat) : Nat := s.tide.startPulse + (t - s.tide.startPulse + 1279) / 1280 * 1280

/-- CAPTURE_FRAME (R464): one frame falls on every frame tick. -/
def execCaptureFrame (errs : List SymErr) (s : State) : Host.Outcome State Fault Refusal :=
  .next (if s.ringRuns then
      (if s.frameTick s.now = s.now ∧ s.log.lastFrame ≠ some s.now then s.openRing.capture errs else s)
    else { s with log := { s.log with running := false } })

/-! Triggers and windows (R467 to R472). -/

/-- First and one past the last byte of the space in use, by offset: of the windows, and of promotions abandoned since the start (R470). -/
def Log.spans (l : Log) : List (Nat × Nat) :=
  (((l.windows.filter fun w => w.state != .empty).map fun w => (w.offset, w.offset + w.bytes)) ++ l.lostSpans).mergeSort fun a b => decide (a.1 ≤ b.1)

/-- The gaps between spans of the 32 MiB window partition: offset and size. -/
def gaps : Nat → List (Nat × Nat) → List (Nat × Nat)
  | p, [] => [(p, 2 ^ 25 - p)]
  | p, q :: qs => (p, q.1 - p) :: gaps (max p q.2) qs

/-- 0x4703:0A, the largest contiguous free span (R472). -/
def Log.largestFree (l : Log) : Nat := (gaps 0 l.spans).foldl (fun m g => max m g.2) 0

/-- A place for a window: the lowest gap that holds it (DESIGN CHOICE, log entry 34). -/
def Log.place (l : Log) (n : Nat) : Option Nat := ((gaps 0 l.spans).find? fun g => decide (n ≤ g.2)).map (·.1)

/-- Channels of a window: those of `WindowChannels` that the ring holds. -/
def State.windowList (s : State) (mask : Nat) : List Nat := s.ringChannels.filter fun n => bit mask n

/-- A trigger refused (R468). -/
def State.refuseTrigger (s : State) (e : TrigEvent) : State :=
  { s with log := { s.log with refusals := s.log.refusals + 1 } }.noteWindow 0xFF 1 ((e.ref.map s.log.numberOf).getD 0) e.ref

/-- The ring frame of an event: the first whose tick falls at or after it (R467). -/
def State.trigFrameOf (s : State) (e : TrigEvent) : Nat := (s.frameTick e.at_ - s.log.ringFrom) / 1280

/-- The mask of the channels that a window holds (R466, R471). -/
def State.windowMask (s : State) : Nat := packBits ((List.range 48).map fun n => (s.windowList (s.objN 0x4703 4)).contains n)

/-- A window opened in slot w at an offset (R469, R471). What its header says of the trigger frame is taken as that frame is captured. -/
def State.openWindow (s : State) (w off bytes : Nat) (e : TrigEvent) : State :=
  let f := s.trigFrameOf e
  let v := s.stampWindow {
    state := .collecting, offset := off, bytes := bytes, channels := s.windowMask, pre := min (s.windowFrames 5) f, post := s.windowFrames 6
    trigFrame := f, trigTick := s.frameTick e.at_, trigRec := (e.ref.map s.log.numberOf).getD 0, trigRef := e.ref, trigBit := e.bit, key := e.key }
  { s with log := { s.log with windows := put s.log.windows w v, lastOpen := some (s.frameTick e.at_), lastWindow := w } }

/-- A trigger: counted, counted in the open window, refused, or a window opens (R467, R468, R470). -/
def State.trigger (s : State) (e : TrigEvent) : State :=
  let s := { s with log := { s.log with triggers := s.log.triggers + 1 } }
  let held := match s.log.lastOpen with | none => false | some t => !decide (ticksOf (s.objR 0x4703 7) ≤ e.at_ - t)
  if held then
    let w := nth s.log.windows s.log.lastWindow {}
    if w.busy then { s with log := { s.log with windows := put s.log.windows s.log.lastWindow { w with further := min 255 (w.further + 1) } } } else s
  else if !(s.log.running && s.ringRuns) || decide (2 ≤ (s.log.windows.filter Window.busy).length) then s.refuseTrigger e
  else
    let n := 2 * (s.windowList (s.objN 0x4703 4)).length * (min (s.windowFrames 5) (s.trigFrameOf e) + 1 + s.windowFrames 6) + 512
    match (List.range 10).find? (fun w => (nth s.log.windows w {}).state == .empty), s.log.place n with
    | some w, some off => s.openWindow w off n e
    | _, _ => s.refuseTrigger e

/-- The trigger that is due with these figures (R467). -/
def State.dueEvent (s : State) (b : Nat) (key : Key) (cls md at_ : Nat) : Option TrigEvent :=
  s.log.events.find? fun e => e.bit == b && e.key == key && e.cls == cls && e.md == md && e.at_ == at_

/-- CAPTURE_TRIGGER (R467): a trigger that an event has raised is carried out. Its bit, source, class, input and the tick of its event name it. -/
def execCaptureTrigger (b : Nat) (key : Key) (cls md at_ : Nat) (s : State) : Host.Outcome State Fault Refusal :=
  .next (match s.dueEvent b key cls md at_ with
    | some e => if s.part.has .ring 0 && s.regionOn .nvm then { s with log := { s.log with events := s.log.events.erase e } }.trigger e else s
    | none => s)

/-- TRIGGER_NOW (R467). -/
def execTriggerNow (ch : Chan) (s : State) : Host.Outcome State Fault Refusal :=
  .next (s.guardedWrite ch 0x4703 8 [1] 0 (if s.trigEnabled 4 0 0 then s.trigger { bit := 4, at_ := s.now } else s))

/-- WINDOW_LAST_FRAME (R470). -/
def execWindowLastFrame (w : Nat) (s : State) : Host.Outcome State Fault Refusal :=
  let v := nth s.log.windows w {}
  .next (if v.state == .collecting && decide (v.trigFrame + v.post < s.log.frames) then
      { s with log := { s.log with windows := put s.log.windows w { v with state := .promoting } } }
    else s)

/-- First byte of a ring frame in the ring's memory. -/
def State.frameAt (s : State) (f : Nat) : Nat := f % s.ringFrames * s.frameBytes

/-- Errors that the devices give in a burst. -/
def errsOf (errs : List (Nat × SymErr)) (b : Nat) : List SymErr := (errs.filter fun e => e.1 == b).map (·.2)

/-- The two bytes of channel position c of ring frame f. What a codeword that cannot be corrected, or a burst no requester reaches, leaves in the window is a free
value (R444; log entry 175). -/
def State.ringBytesAt (s : State) (errs : List (Nat × SymErr)) (f c : Nat) : List Byte :=
  let a := s.frameAt f + 2 * c
  if s.part = .fyx9462 then cellsGet a 2 s.log.sramRing
  else
    let b := (0x10000000 + a) / 32
    let l := s.readBurst b (errsOf errs b)
    if (firstBad l).isSome || s.rankShed b then [Config.droppedByte f (2 * c), Config.droppedByte f (2 * c + 1)]
    else ((wordsBytes l).drop (a % 32)).take 2

/-- The frames of a window. -/
def Window.frames (v : Window) : List Nat := (List.range (v.pre + 1 + v.post)).map fun i => v.trigFrame - v.pre + i

/-- The bursts that hold a ring frame. -/
def State.frameBursts (s : State) (f : Nat) : List Nat :=
  let a := (0x10000000 + s.frameAt f) / 32
  (List.range ((s.frameBytes + 31) / 32)).map fun i => a + i

/-- One burst of a window read for its promotion: corrections are counted and written back later; with a codeword that cannot be corrected the recorder gets a bus error
and its frame is dropped (R437, R444, R445). -/
def State.promoteBurst (s : State) (errs : List (Nat × SymErr)) (b : Nat) : State :=
  if s.rankShed b then s
  else
    let l := s.readBurst b (errsOf errs b)
    let s := s.countBurst b l
    match firstBad l with
    | some k => (s.uncorrectable b k (errsOf errs b)).busErrorTo .recorder none
    | none => s.queueWriteBack b l

/-- A window's frames read out of the DRAM ring. -/
def State.promoteReads (s : State) (v : Window) (errs : List (Nat × SymErr)) : State :=
  if s.part = .fyx9462 then s else forUnits v.frames (fun t f => forUnits (t.frameBursts f) (fun u b => u.promoteBurst errs b) t) s.filledNow

/-- The data of a window: its channels of its frames (R471). -/
def State.windowData (s : State) (v : Window) (errs : List (Nat × SymErr)) : List Byte :=
  let pos := (List.range s.ringChannels.length).filter fun c => bit v.channels (nth s.ringChannels c 0)
  (v.frames.map fun f => (pos.map fun c => s.ringBytesAt errs f c).flatten).flatten

/-- Bytes 0 to 507 of a window's header (Table 16-4). -/
def State.windowHead (s : State) (v : Window) : List Byte :=
  leBytes 4 1 ++ leBytes 8 v.trigRec ++ leBytes 6 v.stamp ++ leBytes 3 v.pcc ++ leBytes 1 (8 * b2n v.seqStamp) ++ leBytes 1 v.trigBit
    ++ leBytes 1 v.further ++ leBytes 8 v.channels ++ leBytes 4 v.pre ++ leBytes 4 v.post ++ leBytes 8 v.ptp ++ leBytes 4 v.key.id
    ++ leBytes 1 v.key.kind ++ List.replicate 11 0
    ++ ((List.range 48).map fun n => leBytes 4 (nth v.scales n 0).toNat ++ leBytes 4 (nth v.offsets n 0).toNat).flatten
    ++ ((List.range 48).map fun n => leBytes 1 (if s.part.has .modIn n then s.objN (0x4000 + n) 5 else 0)).flatten ++ List.replicate 12 0

/-- The ring has overwritten a frame of a window that is not yet committed (R470). -/
def State.windowLost (s : State) (v : Window) : Bool := v.busy && decide (v.trigFrame - v.pre + s.ringFrames < s.log.frames)

/-- A window's frames are read, and its data and header, with their CRC, stand in the MRAM: it is frozen (R470, R471). -/
def State.promoteWindow (s : State) (w : Nat) (v : Window) (errs : List (Nat × SymErr)) : State :=
  let d := s.windowData v errs
  let h := s.windowHead v
  let t := s.since (v.trigTick + v.post * 1280)
  let s := s.promoteReads v errs
  let s := { s with log := { s.log with
    windows := put s.log.windows w { v with state := .frozen, data := d, header := h ++ leBytes 4 (crc32 (h ++ d)).toNat }
    promoteRate := divR d.length (secOf t) } }
  s.d2dGood.noteWindow w 0 v.trigRec v.trigRef

/-- WINDOW_COMMIT (R470): a window whose frames the ring has overwritten is abandoned; a record that can be committed comes first (R458). -/
def execWindowCommit (p : Promotion) (s : State) : Host.Outcome State Fault Refusal :=
  let v := nth s.log.windows p.window {}
  .next (if v.state == .promoting && !s.recordDue && (s.part == .fyx9462 || s.dramUp) then
      (if s.windowLost v then s.abandonWindow p.window else s.promoteWindow p.window v p.errs)
    else s)

/-- WINDOW_ABANDON (R470): the ring has overwritten a frame of a window not yet committed. -/
def execWindowAbandon (w : Nat) (s : State) : Host.Outcome State Fault Refusal :=
  .next (if s.windowLost (nth s.log.windows w {}) then s.abandonWindow w else s)

/-- A frozen window whose header is valid: its CRC-32 matches its header and data, and every word of the header can be read (R451, R470). -/
def State.headerValid (s : State) (w : Window) : Bool :=
  w.state == .frozen && w.header.length == 512 && leNat (w.header.drop 508) == (crc32 (w.header.take 508 ++ w.data)).toNat
    && !s.mem.badWords.any fun a => decide (0x1C00000 + w.offset ≤ a) && decide (a < 0x1C00000 + w.offset + 512)

/-- WINDOW_RELEASE (R472). -/
def execWindowRelease (ch : Chan) (w v : Nat) (s : State) : Host.Outcome State Fault Refusal :=
  .next (s.guardedWrite ch (0x4710 + w) 4 (leBytes 1 v) (if (nth s.log.windows w {}).state == .frozen then 0 else stState)
    { s with log := { s.log with windows := put s.log.windows w {} } })

/-! The last-breath summary (R473). -/

/-- A string's flags in the summary: contactor closed, `end_dis`, `end_chg`, `disagree`. -/
def Str.flags (v : Str) : Nat := packBits [v.contactor, v.est.endDis, v.est.endChg, v.est.disagree]

/-- The shadow of feed and string figures, refreshed every 1 ms (R473). -/
def State.refreshShadow (s : State) : State :=
  { s with log := { s.log with
    feedShadow := (List.range 4).map fun f => ((s.feed f).power, s.loopY (s.objN (0x4400 + 16 * f) 3), ((s.feed f).fwd * 1000).floor.toNat)
    strShadow := (List.range 8).map fun k => ((s.str k).est.soc, (s.str k).est.i, (s.str k).est.v, (s.str k).flags) } }

/-- The last valid value of an input since SNS started, and the least and greatest of its valid samples of the last 100 ms (R473). -/
def State.inputFigures (s : State) (n : Nat) : List Byte :=
  if !s.part.has .modIn n then List.replicate 12 0
  else
    let l := ((s.modIn n).acc.filter fun p => decide (s.now ≤ p.1 + 100 * ticksPerMs)).map fun p => F32.toRat p.2
    let last := match (s.modIn n).lastGood with | some v => realBytes (F32.toRat v) | none => leBytes 4 0x7FC00000
    match l with
    | [] => last ++ leBytes 4 0x7FC00000 ++ leBytes 4 0x7FC00000
    | v :: vs => last ++ realBytes (vs.foldl minR v) ++ realBytes (vs.foldl maxR v)

/-- Table 16-6. `ended` is the time from the warning to the end of step 4, in µs. -/
def State.summary (s : State) (recNo src : Nat) (vao : Rat) (ended : Nat) : List Byte :=
  let b := leBytes 8 recNo ++ leBytes 6 (if s.log.timeInvalid then 0 else s.opMs) ++ leBytes 3 (s.supply.cycles % 2 ^ 24) ++ leBytes 1 s.modeByte ++ leBytes 1 src ++ [0]
    ++ realBytes vao ++ leBytes 4 ended ++ List.replicate 4 0
    ++ ((List.range 48).map s.inputFigures).flatten
    ++ ((List.range 24).map fun p => if s.part.has .phase p then leBytes 4 (s.phase p).holdDuty.toNat else List.replicate 4 0).flatten
    ++ ((List.range 4).map fun f => let x := nth s.log.feedShadow f (0, 0, 0); realBytes x.1 ++ realBytes x.2.1 ++ leBytes 8 x.2.2).flatten
    ++ ((List.range 8).map fun k => if s.part.has .string k then
          let x := nth s.log.strShadow k (0, 0, 0, 0)
          realBytes x.1 ++ realBytes x.2.1 ++ realBytes x.2.2.1 ++ leBytes 1 x.2.2.2 ++ List.replicate 3 0
        else List.replicate 16 0).flatten
  b ++ leBytes 4 (crc32 b).toNat

end Sys2Proof.Machine
end

