-- ==== Sys2Proof/Machine/Feeds.lean ====
section
/-! DEFINITION. Feeds: gates, inrush, protection, retries, metering (chapter 07). -/
namespace Sys2Proof.Machine

def State.feedN (s : State) (f sub : Nat) : Nat := s.objN (0x4400 + 16 * f) sub
def State.feedR (s : State) (f sub : Nat) : Rat := s.objR (0x4400 + 16 * f) sub
def State.feedVolts (s : State) (f : Nat) : Rat := s.loopY (s.feedN f 3)
def State.feedAmps (s : State) (f : Nat) : Rat := s.loopY (s.feedN f 4)
def State.feedEnabled (s : State) (f : Nat) : Bool := decide (f < 4) && s.feedN f 2 == 1

/-- The comparator outputs of a feed's inputs. -/
def State.voltHigh (s : State) (f : Nat) : Bool := (s.modIn (s.feedN f 3)).high
def State.voltLow (s : State) (f : Nat) : Bool := (s.modIn (s.feedN f 3)).low
def State.currHigh (s : State) (f : Nat) : Bool := (s.modIn (s.feedN f 4)).high
def State.currLow (s : State) (f : Nat) : Bool := (s.modIn (s.feedN f 4)).low

/-- The gate of an input feed is allowed (R229). -/
def State.feedAllowed (s : State) (f : Nat) : Bool :=
  s.spm.supply == .source || (s.spm.supply == .handback && s.spm.hbSource == f && (s.spm.hbStep == .allowed || s.spm.hbStep == .ramping))

/-- A feed source raised: `LastCause` takes its unit code (Table 07-9). -/
def State.raiseFeed (s : State) (f unit detail : Nat) : State :=
  let k := s.feedKey f unit
  let s := if s.isActive k then s else s.setFeed f { s.feed f with lastCause := unit }
  s.raise k detail

/-- Power-good is asserted (R235); on an output feed `GateConfirm` after the end of its inrush (Table 07-7a step 4). -/
def State.feedGood (s : State) (f : Nat) : Bool :=
  let v := s.feed f
  s.feedEnabled f && v.confirmed && (decide (f < 2) || decide (s.feedN f 0x0F * ticksPerUs ≤ s.since v.runSince)) && decide (s.feedR f 0x0B ≤ s.feedVolts f) && decide (s.feedVolts f ≤ s.feedR f 0x0C) && !v.inrush && !v.shed

/-- Power-good follows its conditions (R235). -/
def State.updatePg (s : State) (f : Nat) : State := s.setFeed f { s.feed f with pg := s.feedGood f }

/-- FEED_GATE_ON (R229): the ideal-diode rule of an input feed. In TRACK the gate follows the active's (R228). -/
def execFeedGateOn (f : Nat) (s : State) : Host.Outcome State Fault Refusal :=
  .next (
    let v := s.feed f
    if decide (f < 2) && s.feedEnabled f && !v.gate && v.qualified && !v.shed && s.feedAllowed f && s.pair.owns && s.heldFor v.fwdSince (1 / 10000) then
      (s.setFeed f { v with gate := true, gateAt := s.now, reverseOff := false }).clearing (s.feedKey f 1)
    else s)

/-- FEED_REVERSE_OFF (R229): the low comparator of the current input has decided. -/
def execFeedReverseOff (f : Nat) (s : State) : Host.Outcome State Fault Refusal :=
  .next (if decide (f < 2) && (s.feed f).gate && s.currLow f then
      let s := s.gateOff f
      let s := s.setFeed f { s.feed f with reverseOff := true, reverses := (s.feed f).reverses + 1, fwdSince := none }
      s.raiseFeed f 1 0
    else s)

/-- A feed is lost (R230). -/
def State.loseFeed (s : State) (f unit : Nat) : State :=
  let s := s.gateOff f
  let s := s.setFeed f { s.feed f with lost := true, qualified := false, goodSince := none, fwdSince := none, on := false }
  let s := s.raiseFeed f unit 0
  if s.spm.supply = .handback ∧ s.spm.hbSource = f ∧ f < 2 then s.abandonHandback else s

/-- FEED_LOST (R230): the voltage input has reached `UvLevel` or `OvLevel`. An output feed is watched while it is on outside inrush
(DEDUCED, log entry 16). -/
def execFeedLost (f : Nat) (s : State) : Host.Outcome State Fault Refusal :=
  .next (
    let watched := s.feedEnabled f && (decide (f < 2) || ((s.feed f).on && !(s.feed f).inrush && (s.feed f).gate))
    if watched && s.voltLow f then s.loseFeed f 2
    else if watched && s.voltHigh f then s.loseFeed f 3
    else s)

/-- A feed is enabled again (Table 07-8): its latched sources clear, and an output feed switches on where it may. -/
def State.applyFeedOn (s : State) (f : Nat) : State :=
  if s.feedN f 2 = 1 then s
  else
    let s := s.setObjN (0x4400 + 16 * f) 2 1 1
    let s := s.setFeed f { s.feed f with shed := false, retries := 0, trippedAt := none, lost := (s.feed f).lost && decide (f < 2) }
    let s := [0, 4, 5, 6].foldl (fun (t : State) u => t.clearing (t.feedKey f u)) s
    let s := if 2 ≤ f then (s.clearing (s.feedKey f 2)).clearing (s.feedKey f 3) else s
    if s.feedMayRun f then s.switchOn f else s

/-- FEED_ENABLE_ON (R231, R234, R236). -/
def execFeedEnableOn (ch : Chan) (f : Nat) (s : State) : Host.Outcome State Fault Refusal :=
  .next (s.guardedWrite ch (0x4400 + 16 * f) 2 [1] (s.feedEnableStatus f 1) (s.applyFeedOn f))

/-- A feed is switched off by the host. DESIGN CHOICE (log entry 171): a hand-back that uses it goes on. -/
def State.applyFeedOff (s : State) (f : Nat) : State :=
  let s := (s.setObjN (0x4400 + 16 * f) 2 1 0).gateOff f
  s.setFeed f { s.feed f with on := false, trippedAt := none, retries := 0 }

/-- FEED_ENABLE_OFF (R235). -/
def execFeedEnableOff (ch : Chan) (f : Nat) (s : State) : Host.Outcome State Fault Refusal :=
  .next (s.guardedWrite ch (0x4400 + 16 * f) 2 [0] (s.feedEnableStatus f 0) (s.applyFeedOff f))

/-- INRUSH_CHOP (Table 07-7a step 2), by the holder: a standby's gate follows the active's (R228). -/
def execInrushChop (f : Nat) (s : State) : Host.Outcome State Fault Refusal :=
  .next (if decide (2 ≤ f) && s.pair.owns && (s.feed f).inrush && (s.feed f).gate && s.currHigh f then
      s.setFeed f { s.feed f with gate := false, gateAt := s.now, chopAt := some s.now }
    else s)

/-- INRUSH_OFF_EXPIRED (Table 07-7a step 2). -/
def execInrushOffExpired (f : Nat) (s : State) : Host.Outcome State Fault Refusal :=
  .next (match (s.feed f).chopAt with
    | some t =>
      if s.pair.owns && (s.feed f).inrush && decide (s.feedN f 0x14 * ticksPerUs ≤ s.since t) then
        s.setFeed f { s.feed f with gate := true, gateAt := s.now, chopAt := none }
      else s
    | none => s)

/-- A trip of an output feed: gate inactive, the trip counted, its source raised (R231 to R234). -/
def State.tripFeed (s : State) (f unit : Nat) : State :=
  let s := s.gateOff f
  let s := s.setFeed f { s.feed f with on := false, trips := (s.feed f).trips + 1, trippedAt := if unit = 6 then none else some s.now }
  s.raiseFeed f unit 0

/-- INRUSH_TIMEOUT (Table 07-7a). -/
def execInrushTimeout (f : Nat) (s : State) : Host.Outcome State Fault Refusal :=
  .next (if decide (2 ≤ f) && s.pair.owns && (s.feed f).inrush && decide (s.feedN f 0x15 * ticksPerMs ≤ s.since (s.feed f).inrushFrom) then s.tripFeed f 6 else s)

/-- GATE_CONFIRM_EXPIRED (R235): the gate-on feedback has been active for `GateConfirm`. -/
def execGateConfirmExpired (f : Nat) (s : State) : Host.Outcome State Fault Refusal :=
  .next (if f < 4 then (s.setFeed f { s.feed f with gon := true, gonSince := s.now }).updatePg f else s)

/-- GATE_CONFIRM_TIMEOUT (R236). -/
def execGateConfirmTimeout (f : Nat) (s : State) : Host.Outcome State Fault Refusal :=
  .next (
    let v := s.feed f
    if v.gate && !v.confirmed && decide (10 * s.feedN f 0x0F * ticksPerUs ≤ s.since v.gateAt) then s.raiseFeed f 0 0 else s)

/-- GATE_STUCK_ON (R236): detail 1 is "stuck on". -/
def execGateStuckOn (f : Nat) (s : State) : Host.Outcome State Fault Refusal :=
  .next (if decide (f < 4) && !(s.feed f).gate then (s.setFeed f { s.feed f with gon := true, gonSince := s.now }).raiseFeed f 0 1 else s)

/-- GATE_FEEDBACK_LOST (R235): power-good is deasserted. -/
def execGateFeedbackLost (f : Nat) (s : State) : Host.Outcome State Fault Refusal :=
  .next (s.setFeed f { s.feed f with gon := false, pg := false })

/-- FEED_SHORT (R233): a current comparator of an output feed outside inrush. -/
def execFeedShort (f : Nat) (s : State) : Host.Outcome State Fault Refusal :=
  .next (if decide (2 ≤ f) && (s.feed f).gate && !(s.feed f).inrush && (s.currHigh f || s.currLow f) then s.tripFeed f 4 else s)

/-- A retry is due (R234); the SHED of the gate source holds the command inactive (R236). -/
def State.retryDue (s : State) (f : Nat) : Bool :=
  let v := s.feed f
  s.heldFor v.trippedAt (s.feedR f 0x18) && decide (2 * v.heat ≤ s.feedR f 0x11) && decide (v.retries < s.feedN f 0x17) && s.feedMayRun f
    && !((s.activeOf (s.feedKey f 0)).any fun a => decide (3 ≤ a.cls))

/-- FEED_RETRY (R234). -/
def execFeedRetry (f : Nat) (s : State) : Host.Outcome State Fault Refusal :=
  .next (if s.retryDue f then (s.setFeed f { s.feed f with retries := (s.feed f).retries + 1 }).switchOn f else s)

/-- FEED_RETRY_RESET (R234): 60 s of running without a trip. -/
def execFeedRetryReset (f : Nat) (s : State) : Host.Outcome State Fault Refusal :=
  .next (if (s.feed f).on && !(s.feed f).inrush && s.elapsed (s.feed f).runSince 60 then s.setFeed f { s.feed f with retries := 0 } else s)

/-- METER_TIMEOUT (R237): no valid sample for 10 ms. -/
def execMeterTimeout (f : Nat) (s : State) : Host.Outcome State Fault Refusal :=
  .next (if decide (f < 4) && s.elapsed (s.feed f).validAt (1 / 100) then
      (s.setFeed f { s.feed f with meterStopped := true }).raiseFeed f 7 0
    else s)

/-! What the samples of a feed's inputs do. -/

/-- Fuse heat over one sample of the current input (R232): it moves with the current outside inrush, and falls while the gate is inactive. -/
def State.fuseStep (s : State) (f : Nat) (i dt : Rat) : State :=
  let v := s.feed f
  let lim := s.feedR f 0x11
  let n := s.feedR f 0x10
  if lim = 0 then s.setFeed f { v with heat := 0 }
  else if v.gate && !v.inrush then
    let h := maxR 0 (v.heat + (i * i - n * n) * dt)
    let s := s.setFeed f { v with heat := h }
    if lim ≤ h then s.tripFeed f 5 else s
  else if v.gate then s
  else s.setFeed f { v with heat := maxR 0 (v.heat - n * n * dt) }

/-- The DEGRADE of the meter source freezes the sums (Table 07-8). -/
def State.meterFrozen (s : State) (f : Nat) : Bool := s.degrades (s.feedKey f 7)

/-- Metering over one sample of the current input (R237): power and energy, with the latest valid voltage. DESIGN CHOICE (log entry 148): a sum is
rounded once for each sample, to binary64's 53 bits. -/
def State.meterStep (s : State) (f : Nat) (valid : Bool) (i dt : Rat) : State :=
  let v := s.feed f
  let ok := valid
  let p := if ok then i * v.volts else v.power
  let run := ok || (!v.meterStopped && !s.elapsed v.validAt (1 / 100))
  let e := p * dt
  let add := run && !s.meterFrozen f
  let s := s.setFeed f { v with
    power := p, validAt := if ok then s.now else v.validAt, meterAt := s.now, meterStopped := v.meterStopped && !ok
    fwd := if add && decide (0 < e) then roundBits 53 (v.fwd + e) else v.fwd
    rev := if add && decide (e < 0) then roundBits 53 (v.rev - e) else v.rev }
  if ok then s.clearing (s.feedKey f 7) else s

/-- A sample of a feed's current input: its interval begins with the sample before it, or with the start of the group (R232, R237). -/
def State.feedCurrentSample (s : State) (f md : Nat) : State :=
  let m := s.modIn md
  let i := F32.toRat m.y
  let dt := secOf (s.since (max (s.feed f).meterAt (s.group (md / 12)).startedAt))
  let s := s.meterStep f m.valid i dt
  let s := if 2 ≤ f then s.fuseStep f i dt else s
  { s with spm := { s.spm with feedSum := put s.spm.feedSum f (nth s.spm.feedSum f 0 + (s.feed f).power), feedCnt := put s.spm.feedCnt f (nth s.spm.feedCnt f 0 + 1) } }

/-- A sample of a feed's voltage input: limits for the qualification, the ideal diode's forward voltage, the end of inrush, power-good. -/
def State.feedVoltSample (s : State) (f md : Nat) : State :=
  let v := s.feed f
  let u := F32.toRat (s.modIn md).y
  let bus := s.loopY (s.feedN f 5)
  let good := (s.modIn md).valid && decide (s.feedR f 0x0B ≤ u) && decide (u ≤ s.feedR f 0x0C) && !s.feedFaulty f
  let fwd := decide (s.feedR f 0x0D ≤ u - bus)
  let run := if v.inrush && decide (s.feedR f 0x16 * bus ≤ u) then v.doneRun + 1 else 0
  let done := v.inrush && decide (3 ≤ run)
  let s := s.setFeed f { v with
    volts := if (s.modIn md).valid then u else v.volts
    goodSince := if f < 2 then s.track v.goodSince good else none
    qualified := v.qualified && (good || decide (2 ≤ f))
    fwdSince := if f < 2 then s.track v.fwdSince fwd else none
    doneRun := if done then 0 else run
    inrush := v.inrush && !done, gate := v.gate || (done && s.pair.owns), gateAt := if done && s.pair.owns && !v.gate then s.now else v.gateAt
    chopAt := if done then none else v.chopAt, runSince := if done then s.now else v.runSince }
  let s := if done then (s.clearing (s.feedKey f 4)).clearing (s.feedKey f 5) else s
  let s := if v.qualified && !good && decide (f < 2) && s.spm.supply == .handback && s.spm.hbSource == f then s.abandonHandback else s
  s.updatePg f

/-- What a sample of an input does for the feeds that it serves. -/
def State.feedSample (s : State) (md : Nat) : State :=
  forUnits [0, 1, 2, 3] (fun t f =>
    let t := if t.feedN f 4 = md ∧ t.feedN f 3 ≠ t.feedN f 4 then t.feedCurrentSample f md else t
    if t.feedN f 3 = md ∧ t.feedN f 3 ≠ t.feedN f 4 then t.feedVoltSample f md else t) s

/-- What a sample of a phase's current input adds to its stage's mean power (R200). -/
def State.stageSample (s : State) (md : Nat) : State :=
  forUnits ((List.range 8).filter fun n => (s.runningPhases n).any fun p => s.phaseInput p == md) (fun t n =>
    { t with spm := { t.spm with stageSum := put t.spm.stageSum n (nth t.spm.stageSum n 0 + t.stagePower n), stageCnt := put t.spm.stageCnt n (nth t.spm.stageCnt n 0 + 1) } }) s

end Sys2Proof.Machine
end

