-- ==== Sys2Proof/Machine/Strings.lean ====
section
/-! DEFINITION. Battery strings: the estimator, impedance, probes and slack-water windows (chapter 08). -/
namespace Sys2Proof.Machine

/-! Objects and tables of a string (R239, R240). -/

def State.cfgN (s : State) (k sub : Nat) : Nat := s.objN (0x5001 + 256 * k) sub
def State.cfgR (s : State) (k sub : Nat) : Rat := s.objR (0x5001 + 256 * k) sub
def State.strKey (s : State) (k unit : Nat) : Key := s.key 2 k unit 0
def State.estOf (s : State) (k : Nat) : Estimator := (s.str k).est
def State.setEst (s : State) (k : Nat) (e : Estimator) : State := s.setStr k { s.str k with est := e }

/-- Sources of a string whose conditions outlast a power-down of SUP are raised again as it runs again: unanchored, disagreement, ends in force (R247,
R257, R262). -/
def State.reraiseString (s : State) (k : Nat) : State :=
  let e := s.estOf k
  [(7, e.endDis), (8, e.endChg), (9, e.disagree), (0x0A, e.unanchored)].foldl
    (fun t (x : Nat × Bool) => if x.2 && !t.isActive (t.strKey k x.1) then t.raise (t.strKey k x.1) 0 else t) s

/-- Linear interpolation in a table of n rows, held at the first and the last (R240). -/
def interp (n : Nat) (xs ys : Nat → Rat) (x : Rat) : Rat :=
  if x ≤ xs 0 then ys 0
  else if xs (n - 1) ≤ x then ys (n - 1)
  else match (List.range (n - 1)).find? fun j => decide (xs j ≤ x) && decide (x < xs (j + 1)) with
    | some j => ys j + divR ((x - xs j) * (ys (j + 1) - ys j)) (xs (j + 1) - xs j)
    | none => ys (n - 1)

def State.rowTemp (s : State) (k r : Nat) : Rat := s.objR (0x5004 + 256 * k) (1 + r)
/-- A row quantity of 0x5s04 at a temperature. -/
def State.rowAt (s : State) (k base : Nat) (T : Rat) : Rat := interp 8 (s.rowTemp k) (fun r => s.objR (0x5004 + 256 * k) (base + r)) T
/-- The lowest of a row quantity over all rows (R262). -/
def State.rowMin (s : State) (k base : Nat) : Rat :=
  (List.range 8).foldl (fun m r => minR m (s.objR (0x5004 + 256 * k) (base + r))) (s.objR (0x5004 + 256 * k) base)
/-- f_R(T). -/
def State.rFactor (s : State) (k : Nat) (T : Rat) : Rat := s.rowAt k 0x19 T
/-- The OCV curve's point j at a temperature. -/
def State.ocvPoint (s : State) (k : Nat) (T : Rat) (j : Nat) : Rat :=
  interp 8 (s.rowTemp k) (fun r => s.objR (0x5002 + 256 * k) (1 + 21 * r + j)) T
/-- OCV(SoC, T). -/
def State.ocv (s : State) (k : Nat) (soc T : Rat) : Rat := interp 21 (fun j => 5 * (j : Rat)) (s.ocvPoint k T) soc
/-- OCV⁻¹(v, T). -/
def State.ocvInverse (s : State) (k : Nat) (v T : Rat) : Rat := interp 21 (s.ocvPoint k T) (fun j => 5 * (j : Rat)) v
/-- dOCV/dSoC at a state of charge, V per % (R244). -/
def State.ocvSlope (s : State) (k : Nat) (soc T : Rat) : Rat :=
  let j := min 19 (maxR 0 (soc / 5)).floor.toNat
  (s.ocvPoint k T (j + 1) - s.ocvPoint k T j) / 5
/-- k(T, c). -/
def State.capFactor (s : State) (k : Nat) (T c : Rat) : Rat :=
  interp 6 (fun j => s.objR (0x5004 + 256 * k) (0x21 + j))
    (fun j => interp 8 (s.rowTemp k) (fun r => s.objR (0x5003 + 256 * k) (1 + 6 * r + j)) T) c

/-- C in A. -/
def Estimator.rate (e : Estimator) : Rat := e.q / 3600
/-- η of a current (R242). -/
def State.eta (s : State) (k : Nat) (i : Rat) : Rat := if 0 ≤ i then 1 else s.cfgR k 8

/-! Temperature (R239). -/

/-- The temperature that an ADC input gives: that of the thermistor whose sequence entry reads it (DEDUCED, log entry 17). -/
def State.ainTemp (s : State) (ain : Nat) : Option Rat :=
  match (List.range 16).find? fun j =>
      let e := s.objN 0x4206 (1 + j)
      e != 0 && entryInput (nth s.adc.running (e - 1) 0xFF) == ain with
  | some j => let x := s.sensor (12 + j); if x.valid && !x.suspect then some x.t else none
  | none => none

/-- The summary of a berth reports an alarm (R262). -/
def Berth.alarmNow (b : Berth) : Bool := decide (0 < b.runs) && nth b.vals.flags 0 false

/-- The berth summary of a string: present, committed within 1 s, without alarm (R262). -/
def State.summaryOk (s : State) (k : Nat) : Bool :=
  let b := s.berth (s.cfgN k 5)
  b.present && decide (0 < b.runs) && !s.elapsed b.committedAt 1 && !nth b.vals.flags 0 false

def State.summaryTemp (s : State) (k : Nat) : Option Rat :=
  let b := s.berth (s.cfgN k 5)
  if b.present ∧ 0 < b.runs ∧ s.elapsed b.committedAt 1 = false then some (s.reading (s.cfgN k 5) 0) else none

/-- T of a string, if its source gives one (R239). -/
def State.stringTemp (s : State) (k : Nat) : Option Rat :=
  let src := s.cfgN k 4
  if src < 0x18 then s.ainTemp src
  else if src = 0x40 then s.summaryTemp k
  else match s.ainTemp (src - 0x80), s.summaryTemp k with
    | some a, some b => some (maxR a b)
    | some a, none => some a
    | none, some b => some b
    | none, none => none

/-! Anchors and rest points (R245 to R247). -/

/-- U (R245). -/
def Estimator.uncert (e : Estimator) : Rat := minR 50 ((match e.uv with | some v => minR e.uc v | none => e.uc) + e.uu)

/-- Anchor age in s (R246). -/
def State.anchorAge (s : State) (k : Nat) : Nat := let e := s.estOf k; e.anchorAge + s.since e.anchorAt / ticksPerS

/-- A string is anchored: uncertainty, age, flags and sources (R246, R247, R257). -/
def State.anchor (s : State) (k : Nat) (u : Rat) : State :=
  let e := s.estOf k
  let s := s.setEst k { e with uc := u, uu := 0, anchored := true, anchorAge := 0, anchorAt := s.now, lastAnchor := e.soc, sinceAnchor := 0
                               unanchored := false, disagree := false }
  ((s.clearing (s.strKey k 0)).clearing (s.strKey k 9)).clearing (s.strKey k 0x0A)

/-- A rest point: SoC_i from a voltage and a current, and what its uncertainty allows (R246). `raise` is added to the uncertainty (R253). -/
def State.restPoint (s : State) (k : Nat) (v i raise : Rat) : State :=
  let e := s.estOf k
  let f := s.rFactor k e.temp
  let o := v + i * e.r0 * f + e.v1 + e.v2
  let soc := s.ocvInverse k o e.temp
  let sl := s.ocvSlope k soc e.temp
  let s := s.setEst k { e with soc := soc, restSince := some s.now }
  if sl ≤ 0 then s
  else
    let u := s.cfgR k 0x1B / sl + raise / sl
    if u ≤ s.cfgR k 0x12 then s.anchor k u else s.setEst k { s.estOf k with uc := minR e.uc u }

/-- Means of the voltage and of the current over 1 ms intervals that held a valid sample of it (R246). -/
def meanV (l : List MsMean) : Rat := let l := l.filter (·.hasV); divR (sumR (l.map (·.v))) l.length
def meanI (l : List MsMean) : Rat := let l := l.filter (·.hasI); divR (sumR (l.map (·.i))) l.length
/-- Mean voltage and current of the last second (R246). -/
def Estimator.meanV1s (e : Estimator) : Rat := meanV (e.means.take 1000)
def Estimator.meanI1s (e : Estimator) : Rat := meanI (e.means.take 1000)

/-- A valid voltage sample lies in the last second (R242, R246). -/
def State.hasV1s (s : State) (k : Nat) : Bool := let e := s.estOf k; decide (s.since e.vAt ≤ ticksPerS) && (e.means.take 1000).any (·.hasV)

/-- |I| is below 0.01 C and the voltage is at rest over the last 60 s (R246). -/
def State.atRest (s : State) (k : Nat) : Bool :=
  let e := s.estOf k
  match e.vHist.getLast? with
  | some x => decide (absR e.i < e.rate / 100) && s.elapsed x.1 60 && decide (absR (divR (e.v - x.2) (secOf (s.since x.1))) < s.cfgR k 0x11)
  | none => false

/-! Impedance steps (R249, R250). -/

/-- The width of a scale in 1 ms means: 1, 100, 10,000. -/
def scaleLen (j : Nat) : Nat := if j = 0 then 1 else if j = 1 then 100 else 10000

/-- The observed impedance at a scale, if the means hold a step (R249). -/
def State.observedZ (s : State) (k j : Nat) : Option Rat :=
  let e := s.estOf k
  let n := scaleLen j
  let post := e.means.take n
  let gap := (e.means.drop n).take n
  let pre := (e.means.drop (2 * n)).take n
  let mi := fun (l : List MsMean) => divR (sumR (l.map (·.i))) n
  let mv := fun (l : List MsMean) => divR (sumR (l.map (·.v))) n
  let dI := mi post - mi pre
  let flat := fun (l : List MsMean) => l.all fun m => decide (absR (m.i - mi l) ≤ absR dI / 20)
  let ok := post.all (·.valid) && pre.all (·.valid) && (e.means.take (3 * n)).all (·.runs)
  if pre.length = n ∧ ok = true ∧ s.cfgR k 0x1A * e.rate ≤ absR dI ∧ flat pre = true ∧ flat post = true then
    let tau : Rat := (n : Rat) / 1000
    let q := fun (i : Rat) (dt : Rat) => 100 * s.eta k i * i * dt / e.q
    let socPost := e.soc + q (mi post) (tau / 2)
    let socPre := socPost + q (mi post) (tau / 2) + q (mi gap) tau + q (mi pre) (tau / 2)
    some (-(divR (mv post - mv pre - (s.ocv k socPost e.temp - s.ocv k socPre e.temp)) dI))
  else none

/-- An observed impedance rejected, or taken into its part (R250). -/
def State.takeZ (s : State) (k j : Nat) (z : Rat) : State :=
  let v := s.str k
  let e := v.est
  let f := s.rFactor k e.temp
  let w := s.objR (0x5005 + 256 * k) 6
  let present := f * (if j = 0 then e.r0 else if j = 1 then e.r0 + e.r1 else e.r0 + e.r1 + e.r2)
  let bad := decide (z ≤ 0) || decide (z < present / 2) || decide (2 * present < z)
  let run := nth v.rejectRun j 0
  if bad && decide (run + 1 < 5) then s.setStr k { v with rejected := v.rejected + 1, rejectRun := put v.rejectRun j (run + 1) }
  else
    let e' := if j = 0 then { e with r0 := maxR 0 (e.r0 + w * (z / f - e.r0)) }
      else if j = 1 then { e with r1 := maxR 0 (e.r1 + w * (z / f - e.r0 - e.r1)) }
      else { e with r2 := maxR 0 (e.r2 + w * (z / f - e.r0 - e.r1 - e.r2)) }
    s.setStr k { v with est := e', rejectRun := put v.rejectRun j 0, steps := put v.steps j (nth v.steps j 0 + 1), stepAt := put v.stepAt j s.now }

/-- The steps that end with the newest 1 ms mean. -/
def State.impedance (s : State) (k : Nat) : State :=
  [0, 1, 2].foldl (fun (t : State) j => match t.observedZ k j with | some z => t.takeZ k j z | none => t) s

/-! Ends and disagreement (R255 to R258). -/

/-- The C-rate of the mean discharge current of the last 60 s (R255). -/
def Estimator.meanRate (e : Estimator) : Rat :=
  let span := fun (x : Nat × Nat × Rat) => secOf (x.1 - max (x.1 - x.2.1) (e.stepAt - 60 * ticksPerS))
  divR (maxR 0 (divR (sumR (e.iHist.map fun x => span x * x.2.2)) (sumR (e.iHist.map span)))) e.rate

/-- The end-of-discharge verdict's state of charge (R255). -/
def State.endSoc (s : State) (k : Nat) : Rat := let e := s.estOf k; 100 * (1 - s.capFactor k e.temp e.meanRate)

/-- The disagreement flag set once (R257). -/
def State.setDisagree (s : State) (k : Nat) : State :=
  let e := s.estOf k
  (s.setEst k { e with disagree := true, disCount := e.disCount + 1 }).raise (s.strKey k 9) 0

/-- A verdict (R256): source, limit, disagreement, capacity, SoC_i. -/
def State.verdict (s : State) (k : Nat) (dis : Bool) (soc : Rat) : State :=
  let e := s.estOf k
  let s := s.setEst k (if dis then { e with endDis := true, endDisCount := e.endDisCount + 1, sinceDis := 0 }
    else { e with endChg := true, endChgCount := e.endChgCount + 1, sinceChg := 0 })
  let s := s.raise (s.strKey k (if dis then 7 else 8)) 0
  let s := if s.cfgR k 0x0E < absR (soc - e.soc) then (s.setEst k { s.estOf k with lastDis := soc - e.soc }).setDisagree k else s
  let e := s.estOf k
  let D := e.lastAnchor - soc
  let q' := e.q + s.cfgR k 0x0F * (100 * e.sinceAnchor / D - e.q)
  let q := if e.anchored && decide (40 ≤ absR D) then clampR q' (e.q * 95 / 100) (e.q * 105 / 100) else e.q
  s.setEst k { e with q := q, soc := soc, uc := minR e.uc 2 }

/-- End recognition (R255). -/
def State.endCheck (s : State) (k : Nat) : State :=
  let e := s.estOf k
  let R := (e.r0 + e.r1) * s.rFactor k e.temp
  let dis := decide (e.v ≤ s.cfgR k 9 - e.i * R)
  let chg := decide (s.cfgR k 0x0A - e.i * R ≤ e.v)
  let deb : Rat := (s.cfgN k 0x0C : Rat) / 1000
  let ds := s.track e.disSince dis
  let cs := s.track e.chgSince chg
  let s := s.setEst k { e with disSince := ds, chgSince := cs }
  let s := if s.heldFor ds deb && !e.endDis then s.verdict k true (s.endSoc k) else s
  if s.heldFor cs deb && !(s.estOf k).endChg then s.verdict k false 100 else s

/-- Release of the ends after net charge the other way (R248, R267). -/
def State.endRelease (s : State) (k : Nat) : State :=
  let e := s.estOf k
  let need := s.cfgR k 0x0B * e.q
  let hold := (s.charger k).phase == .pulse || (s.charger k).phase == .equalise
  let s := if e.endDis && decide (need ≤ e.sinceDis) then (s.setEst k { e with endDis := false }).clearing (s.strKey k 7) else s
  let e := s.estOf k
  if e.endChg && decide (need ≤ e.sinceChg) && !hold then (s.setEst k { e with endChg := false }).clearing (s.strKey k 8) else s

/-- SoC_i out of its range without a verdict (R257). -/
def State.rangeCheck (s : State) (k : Nat) : State :=
  let e := s.estOf k
  let lim := s.cfgR k 0x0E
  let s := if (e.soc < s.endSoc k - lim ∨ 100 + lim < e.soc) ∧ e.disagree = false then s.setDisagree k else s
  if e.soc ≤ -20 ∨ 120 ≤ e.soc then s.raise (s.strKey k 0) 0 else s

/-- The voltage terms of R248, before the row limits. -/
def State.disTerm (s : State) (k : Nat) : Rat :=
  let e := s.estOf k
  maxR 0 (divR (s.ocv k e.soc e.temp - e.v1 - e.v2 - s.cfgR k 9) ((e.r0 + e.r1) * s.rFactor k e.temp))
def State.chgTerm (s : State) (k : Nat) : Rat :=
  let e := s.estOf k
  maxR 0 (divR (s.cfgR k 0x0A - s.ocv k e.soc e.temp + e.v1 + e.v2) ((e.r0 + e.r1) * s.rFactor k e.temp))

/-- The row limits I_dis,T and I_chg,T, the lowest of all rows while the temperature is degraded (R248, R262). -/
def State.disRow (s : State) (k : Nat) : Rat := if (s.str k).tempBad then s.rowMin k 9 else s.rowAt k 9 (s.estOf k).temp
def State.chgRow (s : State) (k : Nat) : Rat := if (s.str k).tempBad then s.rowMin k 0x11 else s.rowAt k 0x11 (s.estOf k).temp

/-- The present limits (R248). -/
def State.limits (s : State) (k : Nat) : State :=
  let e := s.estOf k
  s.setEst k { e with disLim := if e.endDis then 0 else minR (s.disRow k) (s.disTerm k), chgLim := if e.endChg then 0 else minR (s.chgRow k) (s.chgTerm k) }

/-! The step (R242, R244, R256). -/

/-- The current that counts without valid samples (R262): from the phases, and whether it came from the window's reference. -/
def State.curFallback (s : State) (k : Nat) : Rat × Bool :=
  let st := s.strStage k
  let l := (s.runningPhases st).filterMap fun p =>
    let md := s.phaseInput p
    if (s.modIn md).valid then some (s.loopY md) else s.substitute md
  if l.isEmpty then (F32.toRat (s.inst (s.objN 0x4505 (1 + st))).out, true) else (-(sumR l), false)

/-- A stretch without a valid current sample is counted up to now (R242): its first 10 ms with the last valid current, the rest with the fallback. It
begins at the last valid sample, and its first part is never counted twice. -/
def State.countGap (s : State) (k : Nat) : State :=
  let e := s.estOf k
  let from_ := match e.gap with | some t => t | none => max e.iAt e.stepAt
  let at_ := match e.gap with | some _ => max e.gapTo e.stepAt | none => from_
  let turn := max at_ (min s.now (from_ + 10 * ticksPerMs))
  let fb := if turn < s.now then s.curFallback k else (0, false)
  let late := secOf (s.now - turn)
  s.setEst k { e with gap := some from_, gapTo := s.now, gapTicks := e.gapTicks + (s.now - at_)
                      gapQ := e.gapQ + e.lastI * secOf (turn - at_) + fb.1 * late, gapRef := e.gapRef + (if fb.2 then absR fb.1 * late else 0) }

/-- i of a step (R242): the mean of its valid samples over the time that they cover, and what its stretches without one counted. -/
def State.stepCurrent (s : State) (k : Nat) : Rat :=
  let e := s.estOf k
  let T := s.since e.stepAt
  let mean := if 0 < e.iCnt then e.iSum / e.iCnt else e.lastI
  if e.iCnt = 0 ∧ e.gapTicks = 0 then e.lastI else divR (mean * secOf (T - e.gapTicks) + e.gapQ) (secOf T)

/-- U_ocv of the step (R244). -/
def State.ocvNoise (s : State) (k : Nat) : State :=
  let e := s.estOf k
  s.setEst k { e with uOcv := s.cfgR k 0x1B + absR e.i * (e.r0 + e.r1 + e.r2) * s.rFactor k e.temp / 10 }

/-- Fusion (R244). -/
def State.fuse (s : State) (k : Nat) (dt : Rat) : State :=
  let e := s.estOf k
  let sl := s.ocvSlope k e.soc e.temp
  let lft := s.cfgR k 0x15
  if s.cfgR k 0x19 ≤ sl ∧ lft ≠ 0 ∧ 0 < sl then
    let uv := e.uOcv / sl
    let kk := dt / lft * divR (e.uc * e.uc) (e.uc * e.uc + uv * uv)
    s.setEst k { e with uv := some uv, soc := clampR (e.soc + kk * (s.ocvInverse k e.ocvL e.temp - e.soc)) (-20) 120 }
  else s.setEst k { e with uv := none }

/-- The part of the time since the last step for which the string has been unanchored (R247): from the anchor age of 72 h on. -/
def State.unanchoredTime (s : State) (k : Nat) : Rat :=
  let e := s.estOf k
  let due := if e.unanchored then e.unanchoredAt else e.anchorAt + (259200 - e.anchorAge) * ticksPerS
  secOf (s.now - max due e.stepAt)

/-- The counting part of a step: current, voltage, RC voltages, uncertainty, charges (R242, R247, R259). `byRef` is the charge counted from the window's
current reference (R262). -/
def State.count (s : State) (k : Nat) (i dt byRef : Rat) : State :=
  let v0 := s.str k
  let e := v0.est
  let T := match s.stringTemp k with | some t => t | none => e.temp
  let v := if 0 < e.vCnt then e.vSum / e.vCnt else e.v
  let f := s.rFactor k T
  let c := s.eta k i * i
  let x1 := Config.exp (-(divR dt (s.cfgR k 0x17)))
  let x2 := Config.exp (-(divR dt (s.cfgR k 0x18)))
  let v1 := e.v1 * x1 + e.r1 * f * (1 - x1) * i
  let v2 := e.v2 * x2 + e.r2 * f * (1 - x2) * i
  let uc := e.uc + divR (100 * (5 / 1000 * absR i + s.cfgR k 0x14) * dt) e.q + divR (10 * byRef) e.q
  let e' := { e with
    temp := T, tempAt := if (s.stringTemp k).isSome then s.now else e.tempAt, i := i, v := v, v1 := v1, v2 := v2
    soc := clampR (e.soc - divR (100 * c * dt) e.q) (-20) 120, uc := minR 50 uc
    ocvL := v + i * e.r0 * f + v1 + v2
    uu := e.uu + s.cfgR k 0x13 * s.unanchoredTime k / 3600
    sinceAnchor := e.sinceAnchor + c * dt, sinceDis := e.sinceDis - i * dt, sinceChg := e.sinceChg + i * dt
    iHist := ((s.now, s.since e.stepAt, i) :: e.iHist).filter fun x => decide (s.now ≤ x.1 + 60 * ticksPerS)
    vHist := (match e.vHist with
      | x :: _ => if s.now < x.1 + ticksPerS then e.vHist else (s.now, v) :: e.vHist
      | [] => [(s.now, v)]).filter fun x => decide (s.now ≤ x.1 + 61 * ticksPerS)
    iSum := 0, iCnt := 0, vSum := 0, vCnt := 0, gapTicks := 0, gapQ := 0, gapRef := 0, stepAt := s.now }
  s.setStr k { v0 with est := e', eOut := v0.eOut + maxR 0 (v * i * dt), eIn := v0.eIn + maxR 0 (-(v * i * dt)), qOut := v0.qOut + maxR 0 (i * dt) }

/-- The rest condition's time, and the rest point at its end (R246), once a valid voltage sample lies in the last second. -/
def State.restCheck (s : State) (k : Nat) : State :=
  let e := s.estOf k
  let r := s.track e.restSince (s.atRest k)
  let s := s.setEst k { e with restSince := r }
  if s.heldFor r (s.cfgN k 0x10) && s.hasV1s k then s.restPoint k e.meanV1s e.meanI1s 0 else s

/-- The reported value (R256). -/
def State.report (s : State) (k : Nat) (counted dt : Rat) : State :=
  let e := s.estOf k
  let r := e.socR + counted
  let m := s.cfgR k 0x0D * dt / 60
  s.setEst k { e with socR := if s.legacy then e.soc else r + clampR (e.soc - r) (-m) m }

/-- The state that the active's estimator gives its twin, over what the twin gathers itself (R261). -/
def Estimator.follow (own e : Estimator) : Estimator :=
  { own with
    soc := e.soc, socR := e.socR, uc := e.uc, uu := e.uu, v1 := e.v1, v2 := e.v2, q := e.q, r0 := e.r0, r1 := e.r1, r2 := e.r2
    anchored := e.anchored, anchorAge := e.anchorAge, anchorAt := e.anchorAt, lastAnchor := e.lastAnchor, sinceAnchor := e.sinceAnchor
    unanchored := e.unanchored, unanchoredAt := e.unanchoredAt, endDis := e.endDis, endChg := e.endChg, sinceDis := e.sinceDis, sinceChg := e.sinceChg
    disagree := e.disagree, disCount := e.disCount, lastDis := e.lastDis, endDisCount := e.endDisCount, endChgCount := e.endChgCount }

/-- The state received since the last step, put in force (R261). -/
def State.takeEst (s : State) (k : Nat) : State :=
  let v := s.str k
  match v.estNews with
  | some e => s.setStr k { v with est := v.est.follow e, estNews := none }
  | none => s

/-- One step of the estimator (R242). -/
def State.estStep (s : State) (k : Nat) : State :=
  let s := s.takeEst k
  let dt := secOf (s.since (s.estOf k).stepAt)
  let hasV := decide (0 < (s.estOf k).vCnt)
  let s := if (s.estOf k).gap.isSome || (s.estOf k).iCnt == 0 then s.countGap k else s
  let before := (s.estOf k).soc
  let s := (s.count k (s.stepCurrent k) dt (s.estOf k).gapRef).ocvNoise k
  let counted := (s.estOf k).soc - before
  let s := if hasV then (s.fuse k dt).endCheck k else s.setEst k { s.estOf k with uv := none }
  let s := (s.endRelease k).rangeCheck k
  let s := if hasV then s.restCheck k else s
  let s := (s.limits k).report k counted dt
  let s := if (s.stringTemp k).isSome then (s.setStr k { s.str k with tempBad := false }).clearing (s.strKey k 3) else s
  if s.cfgN k 5 != 0xFF && s.summaryOk k then s.clearing (s.strKey k 6) else s

/-- The estimator of a string runs: enabled, SUP and SNS on (R241, R260). -/
def State.estRuns (s : State) (k : Nat) : Bool := s.strUsed k && s.regionOn .sup && s.regionOn .sns

/-! 1 ms means (R243, R249). -/

/-- A slack-water window ramps: down, up at its end, or up after an abort (R249, Table 08-1). -/
def State.slackRamps (s : State) : Bool :=
  s.strs.any fun v => v.slack == .rampDown || (v.slackUpFrom != 0 && !s.elapsed v.slackUpFrom 10)

/-- The rest point after a wake from MOORED, once 100 ms worth of valid samples have gathered (R246). -/
def State.wakeRestCheck (s : State) (k : Nat) : State :=
  let v := s.str k
  let l := v.est.means.filter fun m => m.hasI && m.hasV
  if v.wakeRest && decide (100 ≤ l.length) then (s.setStr k { v with wakeRest := false }).restPoint k (meanV l) (meanI l) 0 else s

/-- |I| of a 1 ms interval: the mean over its samples, or what R242 counts where it held no valid one (DEDUCED, log entry 150). -/
def State.msCurrent (s : State) (k : Nat) : Rat :=
  let e := s.estOf k
  if 0 < e.msICnt then e.msAbs / e.msICnt else absR (if s.elapsed e.iAt (1 / 100) then (s.curFallback k).1 else e.lastI)

/-- The end of a 1 ms interval of samples: the mean, the rate, and the impedance steps that end with it. -/
def State.closeMs (s : State) (k : Nat) : State :=
  let e := s.estOf k
  let st := (s.stage (s.strStage k)).state
  let m : MsMean := { i := divR e.msI e.msICnt, v := divR e.msV e.msVCnt, a := s.msCurrent k, hasI := decide (0 < e.msICnt), hasV := decide (0 < e.msVCnt)
                      valid := e.msOk && decide (0 < e.msICnt) && decide (0 < e.msVCnt) && !s.slackRamps, runs := st == .running || st == .degraded }
  let quiet := decide (s.msCurrent k < e.rate / 100)
  let ms := if quiet then e.quietMs + 1 else 0
  let s := s.setEst k { e with means := (m :: e.means).take 30000, msFrom := s.now, msI := 0, msAbs := 0, msICnt := 0, msV := 0, msVCnt := 0, msOk := true
                               quietMs := ms, lowRate := quiet && (e.lowRate || decide (1000 ≤ ms)) }
  let s := if e.lowRate && !quiet then s.estStep k else s
  (s.impedance k).wakeRestCheck k

/-- A valid sample of the current input: a stretch without one ends, and the cur source clears after 10 ms of them (R242, R262). -/
def State.goodCurrent (s : State) (k : Nat) (y : Rat) : State :=
  let s := if (s.estOf k).gap.isSome then s.countGap k else s
  let e := s.estOf k
  let since := s.track (s.str k).curOkSince true
  let s := s.setStr k { s.str k with curOkSince := since, est := { e with
    gap := none, iSum := e.iSum + y, iCnt := e.iCnt + 1, msI := e.msI + y, msAbs := e.msAbs + absR y, msICnt := e.msICnt + 1, lastI := y, iAt := s.now } }
  if s.heldFor since (1 / 100) then (s.setStr k { s.str k with curBad := false }).clearing (s.strKey k 1) else s

/-- An invalid sample of the current input: the stretch without a valid one goes on (R242). -/
def State.badCurrent (s : State) (k : Nat) : State :=
  let s := s.countGap k
  s.setStr k { s.str k with curOkSince := none, est := { s.estOf k with msOk := false } }

/-- A sample of a string's current or voltage input. -/
def State.stringSampleOf (s : State) (md k : Nat) : State :=
  let e := s.estOf k
  let m := s.modIn md
  let y := F32.toRat m.y
  let s := if s.since e.msFrom < ticksPerMs then s else s.closeMs k
  let s := if s.cfgN k 2 = md then (if m.valid then s.goodCurrent k y else s.badCurrent k) else s
  let e := s.estOf k
  if s.cfgN k 3 = md then
    s.setEst k (if m.valid then { e with vSum := e.vSum + y, vCnt := e.vCnt + 1, msV := e.msV + y, msVCnt := e.msVCnt + 1, vAt := s.now } else { e with msOk := false })
  else s

/-- What a sample of an input does for the strings that it serves. -/
def State.stringSample (s : State) (md : Nat) : State :=
  forUnits ((List.range 8).filter fun k => s.estRuns k && (s.cfgN k 2 == md || s.cfgN k 3 == md)) (fun t k => t.stringSampleOf md k) s

/-! Commands of the estimator. -/

/-- UNANCHORED_TIMEOUT (R247): anchor age of 72 h. -/
def execUnanchoredTimeout (k : Nat) (s : State) : Host.Outcome State Fault Refusal :=
  .next (if s.strUsed k && decide (259200 ≤ s.anchorAge k) && !((s.estOf k).unanchored && s.isActive (s.strKey k 0x0A)) then
      (if (s.estOf k).unanchored then s else s.setEst k { s.estOf k with unanchored := true, unanchoredAt := s.now }).raise (s.strKey k 0x0A) 0
    else s)

/-- A step is missing at some scale for `ProbeInterval` (R251). -/
def State.probeWanted (s : State) (k : Nat) : Bool :=
  let p := s.objN (0x5006 + 256 * k) 1
  p != 0 && (s.str k).stepAt.any fun t => s.elapsed t p

/-- The other strings can take the shift of a probe within their limits (R251). -/
def State.probeFits (s : State) (k : Nat) : Bool :=
  let d := (if (s.str k).probeNeg then -1 else 1) * s.strVolts k * s.objR (0x5006 + 256 * k) 2 * (s.estOf k).rate
  let others := s.sharers.filter (· != k)
  let W := sumR (others.map fun o => nth s.spm.weight o 0)
  let fits := fun (o : Nat) (x : Rat) => let b := s.powerLimits o; decide (b.1 ≤ x) && decide (x ≤ b.2)
  others.all fun o => fits o (nth s.spm.ref o 0 - d * divR (nth s.spm.weight o 0) W)

/-- PROBE_START (R251). -/
def execProbeStart (k : Nat) (s : State) : Host.Outcome State Fault Refusal :=
  .next (if s.strUsed k && s.probeWanted k && !s.inMode .track then
      if s.spm.supply == .source && s.inSharing k && s.sharers.any (· != k) && !s.probeOrWindow && s.probeFits k then
        let s := s.setStr k { s.str k with probeState := 2, probeMark := (s.str k).mark }
        ({ s with spm := { s.spm with probe := some (k, (s.str k).probeNeg, s.now) } }).spmCompute
      else s.setStr k { s.str k with probeState := 1 }
    else s)

/-- PROBE_SHIFT_END (R251): 12 s. -/
def execProbeShiftEnd (s : State) : Host.Outcome State Fault Refusal :=
  .next (match s.spm.probe with
    | some (k, _, t) =>
      if s.elapsed t 12 then
        let v := s.str k
        let s := s.setStr k { v with probeState := 0, probeCount := v.probeCount + 1, probeNeg := !v.probeNeg }
        ({ s with spm := { s.spm with probe := none } }).spmCompute
      else s
    | none => s)

/-! Slack-water windows (R252 to R254). -/

/-- A request for a window, which the manager's next update grants or refuses (R252). -/
def State.requestSlack (s : State) (k : Nat) (byCharger : Bool) : State :=
  let v := s.str k
  if v.slack.runs then s else s.setStr k { v with slack := .requested, slackByCharger := byCharger }

/-- SLACK_REQUEST (R252). -/
def execSlackRequest (ch : Chan) (k : Nat) (s : State) : Host.Outcome State Fault Refusal :=
  .next (s.guardedWrite ch (0x5006 + 256 * k) 5 [1] (if !s.mayWriteCommon || s.probeOrWindow then stState else 0)
    ((s.setObjN (0x5006 + 256 * k) 5 1 1).requestSlack k false))

/-- SLACK_AUTO_REQUEST (R252): an unanchored string, repeated every hour. -/
def execSlackAutoRequest (k : Nat) (s : State) : Host.Outcome State Fault Refusal :=
  .next (if s.strUsed k && (s.estOf k).unanchored && s.objN (0x5006 + 256 * k) 7 == 1 && !(s.str k).slack.runs && !s.inMode .track
        && (match (s.str k).lastAuto with | some t => s.elapsed t 3600 | none => true) then
      (s.setStr k { s.str k with lastAuto := some s.now }).requestSlack k false
    else s)

/-- A window before its commit point is aborted (R254): the string returns to sharing through the ramp of step 4. -/
def State.abortSlack (s : State) (k : Nat) : State :=
  let v := s.str k
  if v.slack.out then
    (s.setStr k { v with slack := .aborted, slackAborts := v.slackAborts + 1, slackUpFrom := s.now, slackUpI0 := s.slackCurrent k, marginBadSince := none }).spmCompute
  else s

/-- What an abort answers (R254). -/
def State.slackAbortStatus (s : State) (k : Nat) : Nat :=
  if !s.mayWriteCommon then stState
  else if (s.str k).slack = .rampUp ∨ (s.str k).slack = .complete then stAlready else 0

/-- SLACK_ABORT (R254). -/
def execSlackAbort (ch : Chan) (k : Nat) (s : State) : Host.Outcome State Fault Refusal :=
  .next (s.guardedWrite ch (0x5006 + 256 * k) 5 [2] (s.slackAbortStatus k) ((s.setObjN (0x5006 + 256 * k) 5 1 2).abortSlack k))

/-- SLACK_RAMP_DOWN_END (Table 08-1 step 2). -/
def execSlackRampDownEnd (k : Nat) (s : State) : Host.Outcome State Fault Refusal :=
  .next (if (s.str k).slack == .rampDown && s.elapsed (s.str k).slackFrom 10 then (s.setStr k { s.str k with slack := .rest }).spmCompute else s)

/-- The rest point of a window (Table 08-1 step 3, R253): with the slope of the last 60 s extrapolated over 600 s where the string is not at rest;
without a valid voltage in the last second there is none (R242). -/
def State.slackPoint (s : State) (k : Nat) : State :=
  let e := s.estOf k
  let slope := match e.vHist.getLast? with | some x => divR (e.v - x.2) (secOf (s.since x.1)) | none => 0
  let s := if !s.hasV1s k then s
    else if s.atRest k then s.restPoint k e.meanV1s e.meanI1s 0 else s.restPoint k (e.meanV1s + slope * 600) e.meanI1s (absR slope * 600)
  (s.setStr k { s.str k with slack := .rampUp, slackUpFrom := s.now, slackUpI0 := 0, marginBadSince := none }).spmCompute

/-- SLACK_REST_POINT (Table 08-1 step 3). -/
def execSlackRestPoint (k : Nat) (s : State) : Host.Outcome State Fault Refusal :=
  .next (
    let v := s.str k
    if v.slack == .rest && ((s.elapsed v.slackFrom (10 + s.objN (0x5006 + 256 * k) 8) && s.atRest k) || s.elapsed v.slackFrom 1190) then s.slackPoint k else s)

/-- SLACK_COMPLETE (Table 08-1 step 5). -/
def execSlackComplete (k : Nat) (s : State) : Host.Outcome State Fault Refusal :=
  .next (
    let v := s.str k
    if v.slack == .rampUp && s.elapsed v.slackUpFrom 10 then
      (s.setStr k { v with slack := .complete, slackDone := v.slackDone + 1, slackUpFrom := 0 }).clearing (s.strKey k 0x0B)
    else s)

/-- SLACK_CONDITION_ABORT (R253): the margin condition has failed for 1 s. -/
def execSlackConditionAbort (k : Nat) (s : State) : Host.Outcome State Fault Refusal :=
  .next (if (s.str k).slack.out && s.heldFor (s.str k).marginBadSince 1 then s.abortSlack k else s)

/-- SLACK_REFUSAL_TIMEOUT (R252): refused for 24 h. -/
def execSlackRefusalTimeout (k : Nat) (s : State) : Host.Outcome State Fault Refusal :=
  .next (if s.heldFor (s.str k).refusedSince 86400 then s.raise (s.strKey k 0x0B) 0 else s)

/-! Replacement, commit, inputs (R259, R260, R262). -/

/-- What refuses `StringReplaced` (R259, R261). -/
def State.replacedStatus (s : State) (k v : Nat) : Nat :=
  if v ≠ 1 then stRange else if (s.str k).contactor then stState else 0

/-- A string replaced (R259). -/
def State.replaceString (s : State) (k : Nat) : State :=
  let v := s.str k
  let imp := 0x5005 + 256 * k
  let r2 := (storeGet (objKey imp 3) s.imageValues).map realOf
  let e := { v.est with q := s.cfgR k 7, r0 := s.objR imp 4, r1 := s.objR imp 5, r2 := r2.getD 0, uc := 50, anchored := false, anchorAge := 0, anchorAt := s.now
                        sinceAnchor := 0, disCount := 0, lastDis := 0, endDisCount := 0, endChgCount := 0 }
  let c := s.charger k
  let s := s.setStr k { v with est := e, eOut := 0, eIn := 0, qOut := 0, rejected := 0, rejectRun := [0, 0, 0], steps := [0, 0, 0], probeCount := 0
                               slackDone := 0, slackAborts := 0, slackRefusals := 0 }
  s.setCharger k { c with completed := 0, eqDone := 0, eqAborts := 0 }

/-- STRING_REPLACED (R259). -/
def execStringReplaced (ch : Chan) (k v : Nat) (s : State) : Host.Outcome State Fault Refusal :=
  .next (s.guardedWrite ch (0x5005 + 256 * k) 0x0C (leBytes 1 v) (s.replacedStatus k v) (s.replaceString k))

/-- The bytes of a copy that its CRC-32 covers (R65, R260; DESIGN CHOICE, log entry 108: their order and widths). -/
def EstCopy.bytes (c : EstCopy) : List Byte :=
  let e := c.est
  leBytes 8 c.seq ++ leBytes 1 (b2n c.atEnd)
    ++ ([e.soc, e.socR, e.uc, e.uu, e.v1, e.v2, e.q, e.r0, e.r1, e.r2, e.lastI, e.lastAnchor, e.sinceAnchor, c.eOut, c.eIn, c.qOut].map realBytes).flatten
    ++ ([e.anchorAge, b2n e.anchored, b2n e.unanchored, b2n e.endDis, b2n e.endChg, b2n e.disagree, e.disCount, e.endDisCount, e.endChgCount, c.rejected, c.probeCount,
      c.slackDone, c.slackAborts, c.slackRefusals] ++ c.steps ++ c.rejectRun).flatMap (leBytes 4)

/-- A copy with its CRC-32 computed. -/
def EstCopy.closed (c : EstCopy) : EstCopy := { c with crc := crc32 c.bytes }

/-- A copy that has been committed and whose CRC-32 is good (R65). -/
def EstCopy.valid (c : EstCopy) : Bool := c.seq != 0 && crc32 c.bytes == c.crc

/-- The newer valid one of a string's MRAM copies (R65, R260). -/
def Str.newest (v : Str) : Option EstCopy :=
  if v.savedA.valid && v.savedB.valid then some (if v.savedA.seq < v.savedB.seq then v.savedB else v.savedA)
  else if v.savedA.valid then some v.savedA else if v.savedB.valid then some v.savedB else none

/-- A cycle goes on with the copies that the one before has left: they no longer stand for its end (R260). -/
def Str.begun (v : Str) : Str :=
  { v with savedA := if v.savedA.atEnd then ({ v.savedA with atEnd := false } : EstCopy).closed else v.savedA
           savedB := if v.savedB.atEnd then ({ v.savedB with atEnd := false } : EstCopy).closed else v.savedB }

/-- The estimator's state, counters and impedance committed over the older copy (R260); the anchor age is brought to the commit. -/
def State.commitString (s : State) (k : Nat) (atEnd : Bool) : State :=
  let v := s.str k
  let c : EstCopy :=
    { seq := max v.savedA.seq v.savedB.seq + 1, atEnd := atEnd, est := { v.est with anchorAge := s.anchorAge k }, eOut := v.eOut, eIn := v.eIn, qOut := v.qOut
      rejected := v.rejected, rejectRun := v.rejectRun, steps := v.steps, probeCount := v.probeCount, slackDone := v.slackDone, slackAborts := v.slackAborts
      slackRefusals := v.slackRefusals }
  s.setStr k (if v.savedA.seq ≤ v.savedB.seq then { v with savedA := c.closed } else { v with savedB := c.closed })

/-- Every string's commit (R260). -/
def State.commitEst (s : State) (atEnd : Bool) : State := forUnits ((List.range 8).filter fun k => s.strUsed k) (fun t k => t.commitCopy .cores fun u => u.commitString k atEnd) s

/-- ESTIMATOR_COMMIT (R260): every 10 s. -/
def execEstimatorCommit (s : State) : Host.Outcome State Fault Refusal := .next (if s.regionOn .sup then s.commitEst false else s)

/-- STRING_INPUT_TIMEOUT (R262): the current for 10 ms, the voltage for 10 ms, the temperature for 2 s, the summary for 1 s or with an alarm. -/
def execStringInputTimeout (k which : Nat) (s : State) : Host.Outcome State Fault Refusal :=
  .next (if !s.estRuns k then s
    else
      let e := s.estOf k
      match which with
      | 0 => if s.elapsed e.iAt (1 / 100) then (s.setStr k { s.str k with curBad := true }).raise (s.strKey k 1) 0 else s
      | 1 => if s.elapsed e.vAt (1 / 100) then s.raise (s.strKey k 2) 0 else s
      | 2 =>
        if s.elapsed e.tempAt 2 && (s.stringTemp k).isNone then
          let s := s.raise (s.strKey k 3) 0
          s.setStr k { s.str k with tempBad := s.degrades (s.strKey k 3) }
        else s
      | _ => if s.cfgN k 5 != 0xFF && !s.summaryOk k && ((s.berth (s.cfgN k 5)).alarmNow || s.elapsed e.inputsFrom 1) then s.raise (s.strKey k 6) 0 else s)

/-- AUX_CONTACT_MISMATCH (R262): the feedback has differed from the command for 30 ms. -/
def execAuxContactMismatch (k : Nat) (s : State) : Host.Outcome State Fault Refusal :=
  .next (if s.strUsed k && decide (30 * ticksPerMs ≤ s.since (s.str k).contactorAt) then
      (s.setStr k { s.str k with auxClosed := !(s.str k).contactor }).raise (s.strKey k 4) 0
    else s)

/-- STRING_SHED_OPEN (R262): 10 ms after the SHED the contactor command becomes inactive. -/
def execStringShedOpen (k : Nat) (s : State) : Host.Outcome State Fault Refusal :=
  .next (if (s.str k).shed && (s.str k).contactor && decide (10 * ticksPerMs ≤ s.since (s.str k).shedAt) then s.openString k else s)

end Sys2Proof.Machine
end

