-- ==== Sys2Proof/Machine/Charging.lean ====
section
/-! DEFINITION. The charge cycle, equalisation, final rest, and black start (chapter 09). -/
namespace Sys2Proof.Machine

def State.chN (s : State) (k sub : Nat) : Nat := s.objN (0x5810 + k) sub
def State.chR (s : State) (k sub : Nat) : Rat := s.objR (0x5810 + k) sub
def State.chKey (s : State) (k kind : Nat) : Key := s.key 2 8 k kind

/-- Codes of Table 09-1. -/
def ChargePhase.code : ChargePhase → Nat
  | .idle => 0 | .bulk => 1 | .pulse => 2 | .equalise => 3 | .finalRest => 4 | .complete => 5 | .terminated => 6

/-- A cycle is under way. -/
def ChargePhase.cycling : ChargePhase → Bool
  | .bulk => true | .pulse => true | .equalise => true | .finalRest => true
  | .idle => false | .complete => false | .terminated => false

/-- I_prog and T_nom of a phase (Table 09-1). -/
def State.progCurrent (s : State) (k : Nat) : Rat :=
  match (s.charger k).phase with
  | .bulk => s.chR k 5 | .pulse => s.chR k 7 | .equalise => s.chR k 0x0D
  | .idle => 0 | .finalRest => 0 | .complete => 0 | .terminated => 0
def State.nomTime (s : State) (k : Nat) : Nat :=
  match (s.charger k).phase with
  | .bulk => s.chN k 6 | .pulse => s.chN k 0x0A | .equalise => s.chN k 0x0F
  | .idle => 0 | .finalRest => 0 | .complete => 0 | .terminated => 0

/-- The current that holds V ≤ vm + I_in × R_est over the next step (R266, R268). DEDUCED (log entry 18): with R_est taken for R0 and a settled R1, what is
left below vm is OCV − v2 at the step's end, which the current moves through R2 alone. -/
def State.holdTerm (s : State) (k : Nat) (vm : Rat) : Rat :=
  let e := s.estOf k
  let x := Config.exp (-(divR (if e.lowRate then 1 else 1 / 1000) (s.cfgR k 0x18)))
  let g := e.r2 * s.rFactor k e.temp * (1 - x)
  let room := vm - s.ocv k e.soc e.temp + e.v2 * x
  if 0 < g then maxR 0 (room / g) else if 0 ≤ room then s.progCurrent k else 0

/-- The voltage term I_v (R266): that of R248, and in PULSE and EQUALISE the limit against `VPulseMax` and `VEqMax`. -/
def State.voltTerm (s : State) (k : Nat) : Rat :=
  match (s.charger k).phase with
  | .pulse => s.holdTerm k (s.chR k 0x0B)
  | .equalise => s.holdTerm k (s.chR k 0x10)
  | .bulk => s.chgTerm k
  | .idle => s.chgTerm k
  | .finalRest => s.chgTerm k
  | .complete => s.chgTerm k
  | .terminated => s.chgTerm k

/-- A charger source raised, with its phase in the payload (R276). -/
def State.raiseCharger (s : State) (k kind : Nat) : State := s.raiseWith (s.chKey k kind) 0 (leBytes 1 (s.charger k).phase.code) false

/-- Entry to a phase: timers at 0 (R270). -/
def State.enterPhase (s : State) (k : Nat) (p : ChargePhase) : State :=
  let c := s.charger k
  s.setCharger k { c with phase := p, ts := 0, el := 0, rate := 0, inRest := false, loaded := false, pulseFrom := s.now, restHist := []
                          full := if p = .pulse then 0 else c.full
                          eqCharge := if p = .equalise then 0 else c.eqCharge
                          restFromFinal := if p = .finalRest then s.now else c.restFromFinal, stepAt := s.now }

/-- A cycle reaches COMPLETE (R274). -/
def State.completeCycle (s : State) (k : Nat) (skipped : Bool) : State :=
  let s := s.enterPhase k .complete
  let c := s.charger k
  let s := s.setCharger k { c with completed := c.completed + 1, endCause := 1, restSkipped := skipped }
  let s := s.setStr k { s.str k with slackByCharger := false }
  (s.clearing (s.chKey k 1)).clearing (s.chKey k 2)

/-- FINAL REST, or COMPLETE where it is switched off (Table 09-1). -/
def State.enterFinal (s : State) (k : Nat) : State :=
  if s.chN k 0x12 = 0 then s.completeCycle k false else (s.enterPhase k .finalRest).requestSlack k true

/-- What follows PULSE, or BULK where PULSE is switched off (R265, R273). -/
def State.afterPulse (s : State) (k : Nat) : State := if (s.charger k).eqDue then s.enterPhase k .equalise else s.enterFinal k

/-- A cycle ends in TERMINATED with a cause; an equalisation in progress counts as aborted (R271 to R273). -/
def State.endCycle (s : State) (k cause : Nat) : State :=
  let c := s.charger k
  let s := if c.phase = .finalRest then (s.abortSlack k).setStr k { (s.abortSlack k).str k with slackByCharger := false } else s
  let s := s.setCharger k { c with eqAborts := c.eqAborts + b2n (c.phase == .equalise && decide (cause ≤ 4)), endCause := cause, paused := false
                                   hostOnly := cause == 3, requested := c.requested && cause != 2 }
  s.enterPhase k .terminated

/-- The conditions of a cycle but its cause (R264). -/
def State.chargeReady (s : State) (k : Nat) : Bool :=
  s.inMode .active && s.spm.supply == .source && s.inSharing k && s.objN 0x5800 1 == 1 && decide (0 < s.chgRow k)

/-- A cycle starts (R264); after cause 4 only where I_th is at or above `BulkCurrent` (R271). -/
def State.cycleStarts (s : State) (k : Nat) : Bool :=
  let c := s.charger k
  !c.phase.cycling && s.chargeReady k
    && (c.endCause != 4 || decide (s.chR k 5 ≤ s.chgRow k)) && (c.requested || (!c.hostOnly && decide ((s.estOf k).socR ≤ s.objR 0x5800 2)))

/-- The start of a cycle. -/
def State.startCycle (s : State) (k : Nat) : State :=
  let s := s.enterPhase k .bulk
  let s := s.setCharger k { s.charger k with requested := false, hostOnly := false, restSkipped := false, paused := false, eqCommitted := false }
  s.clearing (s.chKey k 3)

/-- A cycle is to be paused now (R272). The window that FINAL REST requests does not pause it while it runs; whatever else takes the string out of sharing
meanwhile does. -/
def State.pauses (s : State) (k : Nat) : Bool :=
  let v := s.str k
  let own := (s.charger k).phase == .finalRest && v.slackByCharger && v.slack.runs
  s.spm.supply != .source || !(if own then (s.setStr k { v with slack := .none }).inSharing k else s.inSharing k)

/-- The requested and the allocated current, and the timers, over one step (R266, R270). -/
def State.chargeTimers (s : State) (k : Nat) (dt : Rat) : State :=
  let c := s.charger k
  let prog := s.progCurrent k
  let th := s.chgRow k
  let v := s.voltTerm k
  let a := divR (nth s.spm.granted k 0) (s.strVolts k)
  let half := decide (th ≤ prog) && decide (th ≤ v) && decide (s.spm.want ≤ s.spm.grant)
  let timed := c.phase == .bulk || c.phase == .pulse || c.phase == .equalise
  let rate : Nat := if c.paused || !timed then 0 else if prog ≤ 2 * a ∨ c.inRest = true then 2 else if half then 1 else 0
  s.setCharger k { c with iTh := th, iV := v, iA := a, iReq := maxR 0 (minR prog (minR th v)), rate := rate
                          ts := c.ts + dt * (rate : Rat) / 2, el := if rate = 0 then c.el else c.el + dt }

/-- Measurements of a rest (Table 09-2). -/
def State.restStep (s : State) (k : Nat) : State :=
  let c := s.charger k
  if c.inRest then
    let e := s.estOf k
    let take := !c.vPeTaken && decide (ticksPerMs ≤ s.since c.restFrom)
    s.setCharger k { c with vPe := if take then e.v else c.vPe, vPeTaken := c.vPeTaken || take
                            restHist := (s.now, if c.loaded then e.ocvL else e.v) :: c.restHist }
  else s

/-- The part of a step that a phase gives (Table 09-1). -/
def State.phaseStep (s : State) (k : Nat) (dt : Rat) : State :=
  let c := s.charger k
  match c.phase with
  | .bulk => if (s.estOf k).endChg then (if s.chR k 8 = 0 then s.afterPulse k else s.enterPhase k .pulse) else s
  | .pulse => s.restStep k
  | .equalise =>
    let q := c.eqCharge - (s.estOf k).i * dt
    if s.chR k 0x0E * (s.estOf k).q ≤ q then
      let s := s.setCharger k { c with eqCharge := q, eqCommitted := true, eqDone := c.eqDone + 1, lastEq := s.opMs / 3600000, eqDue := false }
      s.enterFinal k
    else s.setCharger k { c with eqCharge := q }
  | .finalRest =>
    let v := s.str k
    if !v.slack.runs && v.slack != .requested && s.slackGrantable k then s.requestSlack k true else s
  | .idle => s | .complete => s | .terminated => s

/-- The window that FINAL REST requested is complete or aborted, whatever the supply state (R274). -/
def State.restDone (s : State) (k : Nat) : Bool :=
  let v := s.str k
  (s.charger k).phase == .finalRest && v.slackByCharger && (v.slack == .complete || v.slack == .aborted)

/-- A cycle paused or resumed (R272); a pulse or a rest in progress goes on where the pause met it. -/
def State.setPaused (s : State) (k : Nat) (p : Bool) : State :=
  let c := s.charger k
  if p then s.setCharger k { c with paused := true, pausedAt := if c.paused then c.pausedAt else s.now }
  else if c.paused then
    let d := s.since c.pausedAt
    s.setCharger k { c with paused := false, pulseFrom := c.pulseFrom + d, restFrom := c.restFrom + d }
  else s

/-- One step of a charger channel, with the step of its string's estimator (R266). In TRACK it follows the active (R275). DESIGN CHOICE (log entry 158):
the net charge of EQUALISE is not counted while the cycle is paused (R272, R273). -/
def State.chargeStep (s : State) (k : Nat) : State :=
  if s.inMode .track ∨ s.part.has .charger k = false then s
  else
    let c := s.charger k
    let dt := secOf (s.since c.stepAt)
    let due := s.chN k 0x11 != 0 && decide (c.lastEq + s.chN k 0x11 ≤ s.opMs / 3600000)
    let s := s.setCharger k { c with eqDue := c.eqDue || due, stepAt := s.now }
    if !c.phase.cycling then if s.cycleStarts k then (s.startCycle k).chargeTimers k 0 else s
    else if (s.str k).shed || !s.strUsed k then s.endCycle k 6
    else if s.restDone k then s.completeCycle k false
    else
      let p := s.pauses k
      let s := (s.setPaused k p).chargeTimers k dt
      let s := if s.chargeReady k then s.setCharger k { s.charger k with requested := false } else s
      if p then s else s.phaseStep k dt

/-- ESTIMATOR_STEP (R242, R243, R266): 1 ms or 1 s after the last. -/
def execEstimatorStep (k : Nat) (s : State) : Host.Outcome State Fault Refusal :=
  .next (if s.estRuns k && !s.coresHalted && decide ((if (s.estOf k).lowRate then ticksPerS else ticksPerMs) ≤ s.since (s.estOf k).stepAt) then ((s.estStep k).chargeStep k).tellString k else s)

/-- `ChargeCommand` 1 and 2, `EqCommand` 1 and 2, accepted. A start that the conditions do not allow now is stored; a cycle that runs as they hold meets it
(R264). -/
def State.applyChargeStart (s : State) (k : Nat) : State :=
  let s := s.setObjN (0x5810 + k) 3 1 1
  let c := s.charger k
  s.setCharger k { c with requested := c.requested || !c.phase.cycling || !s.chargeReady k }
def State.applyChargeStop (s : State) (k : Nat) : State :=
  let s := s.setObjN (0x5810 + k) 3 1 2
  if (s.charger k).phase.cycling then s.endCycle k 2 else s.setCharger k { s.charger k with requested := false }
def State.applyEqRequest (s : State) (k : Nat) : State :=
  let s := s.setObjN (0x5810 + k) 4 1 1
  s.setCharger k { s.charger k with eqDue := true }
def State.applyEqAbort (s : State) (k : Nat) : State :=
  let s := s.setObjN (0x5810 + k) 4 1 2
  let c := s.charger k
  if c.phase = .equalise then (s.setCharger k { c with eqAborts := c.eqAborts + 1, eqDue := true }).enterFinal k else s

/-- CHARGE_COMMAND_START (R264): stored, and acted on when the other conditions hold. -/
def execChargeCommandStart (ch : Chan) (k : Nat) (s : State) : Host.Outcome State Fault Refusal :=
  .next (s.guardedWrite ch (0x5810 + k) 3 [1] (if s.mayWriteCommon then 0 else stState)
    (s.applyChargeStart k))

/-- What a stop answers (R264, R273): after the commit point of its equalisation, the cycle goes on to its end. -/
def State.chargeStopStatus (s : State) (k : Nat) : Nat := if !s.mayWriteCommon then stState else if (s.charger k).eqCommitted then stAlready else 0

/-- CHARGE_COMMAND_STOP (R264): the cycle ends with cause 2. -/
def execChargeCommandStop (ch : Chan) (k : Nat) (s : State) : Host.Outcome State Fault Refusal :=
  .next (s.guardedWrite ch (0x5810 + k) 3 [2] (s.chargeStopStatus k)
    (s.applyChargeStop k))

/-- PULSE_END (R268, R269): the rest begins, pinned where the margin condition holds. -/
def execPulseEnd (k : Nat) (s : State) : Host.Outcome State Fault Refusal :=
  .next (
    let c := s.charger k
    if c.phase == .pulse && !c.inRest && !c.paused && !s.inMode .track && s.elapsed c.pulseFrom (s.chR k 8) then
      (s.setCharger k { c with inRest := true, loaded := !s.slackMargin k (s.peakRef k false) (s.peakRef k true), restFrom := s.now, restHist := []
                               vPeTaken := false }).spmCompute
    else s)

/-- The slope of a rest's voltage over its second half (Table 09-2): between the first and the last 1 ms mean of it, or, of a rest longer than the
means are kept for, between the first and the last step. -/
def State.relaxRate (s : State) (k : Nat) : Rat :=
  let c := s.charger k
  let ms := s.since c.restFrom / (2 * ticksPerMs)
  let l := ((s.estOf k).means.take ms).filter (·.hasV)
  let half := c.restHist.filter fun x => decide (c.restFrom + s.since c.restFrom / 2 ≤ x.1)
  if ms ≤ 20000 then
    match l.head?, l.getLast? with
    | some a, some b => divR (a.v - b.v) (((l.length - 1 : Nat) : Rat) / 1000)
    | _, _ => 0
  else
    match half.head?, half.getLast? with
    | some a, some b => divR (a.2 - b.2) (secOf (a.1 - b.1))
    | _, _ => 0

/-- V_re (Table 09-2): the mean of the last 100 ms of a rest, which the 1 ms means give at every step rate; in a loaded rest as ocv_l. -/
def State.restVolts (s : State) (k : Nat) : Rat :=
  let e := s.estOf k
  let l := e.means.take 100
  let v := if l.any (·.hasV) then meanV l else e.v
  if (s.charger k).loaded then v + (if l.any (·.hasI) then meanI l else e.i) * e.r0 * s.rFactor k e.temp + e.v1 + e.v2 else v

/-- A rest ends: its measurements, the count of rests at full, and the next pulse or phase (R268, R269). -/
def State.endRest (s : State) (k : Nat) : State :=
  let c := s.charger k
  let v := s.restVolts k
  let n := if s.chR k 0x0C ≤ v then c.full + 1 else 0
  let s := s.setCharger k { c with vRe := v, relax := s.relaxRate k, full := n, inRest := false, loaded := false, pulseFrom := s.now, restHist := [] }
  if 3 ≤ n then (s.afterPulse k).spmCompute else s.spmCompute

/-- REST_END (R268, R269, R272). -/
def execRestEnd (k : Nat) (s : State) : Host.Outcome State Fault Refusal :=
  .next (
    let c := s.charger k
    if c.phase == .pulse && c.inRest && !c.paused && !s.inMode .track && s.elapsed c.restFrom (s.chR k 9) then s.endRest k else s)

/-- CHARGE_TIMER_EXPIRED (R271). -/
def execChargeTimerExpired (k : Nat) (s : State) : Host.Outcome State Fault Refusal :=
  .next (
    let c := s.charger k
    let t : Rat := s.nomTime k
    if (c.phase == .bulk || c.phase == .pulse || c.phase == .equalise) && !s.inMode .track && (decide (t ≤ c.ts) || decide (2 * t ≤ c.el)) then
      let cause := if c.rate = 1 ∨ 2 * t ≤ c.el then 4 else 3
      (s.raiseCharger k (if cause = 4 then 2 else 1)).endCycle k cause
    else s)

/-- CHARGE_PAUSE_TIMEOUT (R272): a pause of 1 h. -/
def execChargePauseTimeout (k : Nat) (s : State) : Host.Outcome State Fault Refusal :=
  .next (
    let c := s.charger k
    if c.phase.cycling && c.paused && !s.inMode .track && s.elapsed c.pausedAt 3600 then (s.raiseCharger k 3).endCycle k 5 else s)

/-- EQ_REQUEST (R273). -/
def execEqRequest (ch : Chan) (k : Nat) (s : State) : Host.Outcome State Fault Refusal :=
  .next (s.guardedWrite ch (0x5810 + k) 4 [1] (if !s.mayWriteCommon || s.objN 0x5800 1 == 0 then stState else 0)
    (s.applyEqRequest k))

/-- What an abort of an equalisation answers (R273). -/
def State.eqAbortStatus (s : State) (k : Nat) : Nat :=
  s.chargeStopStatus k

/-- EQ_ABORT (R273): before the commit point the cycle goes on to FINAL REST, and the equalisation stays due. -/
def execEqAbort (ch : Chan) (k : Nat) (s : State) : Host.Outcome State Fault Refusal :=
  .next (s.guardedWrite ch (0x5810 + k) 4 [2] (s.eqAbortStatus k)
    (s.applyEqAbort k))

/-- FINAL_REST_SKIP (R274): no window within 1 h. -/
def execFinalRestSkip (k : Nat) (s : State) : Host.Outcome State Fault Refusal :=
  .next (
    let c := s.charger k
    if c.phase == .finalRest && !(s.str k).slack.runs && !s.inMode .track && s.elapsed c.restFromFinal 3600 then s.completeCycle k true else s)

/-! Black start (R278 to R281). -/

/-- The bus is dead (R278). -/
def State.busDead (s : State) : Bool :=
  !(s.feed 0).qualified && !(s.feed 1).qualified && !s.rectifierCarries && decide (s.busVolts < s.objR 0x5900 2)

/-- BLACKSTART entered (Table 09-8 steps 1 and 2). -/
def State.enterBlackstart (s : State) : State :=
  let s := s.enterMode .blackstart 0x0033
  let s := forUnits (s.stagesOf 2) (fun t n => t.applyStageStop n) s
  let s := { s with dead := { s.dead with bsState := 1, bsStarts := s.dead.bsStarts + 1, bsFrom := s.now, bsInSince := none } }
  let n := s.spmN 3
  let s := if (s.pg n).moving then s.supersede n (s.pg n).seq else s
  let s := s.setPg n { s.pg n with p := s.busVolts, v := 0, a := 0, moving := false, plan := [], brake := 0 }
  ((s.retargetBus (s.spmR 2)).autoFeeds).spmCompute

/-- The bus lies inside the black-start window (Table 09-8 step 3). -/
def State.bsInside (s : State) : Bool := decide (absR (s.busVolts - s.spmR 2) ≤ s.objR 0x5900 4)

/-- BS_IN_WINDOW (Table 09-8 step 3). -/
def execBsInWindow (s : State) : Host.Outcome State Fault Refusal :=
  .next (if s.inMode .blackstart && s.dead.bsState == 1 && s.bsInside then { s with dead := { s.dead with bsState := 2, bsInSince := some s.now } } else s)

/-- A sample of the bus voltage that lies outside the window restarts the settling (Table 09-8 step 3). DESIGN CHOICE (log entry 158): `BsState` reads 1
again until the bus is back inside. -/
def State.bsSample (s : State) (md : Nat) : State :=
  if s.inMode .blackstart && md == s.spmN 0x14 && s.dead.bsState == 2 && !s.bsInside then
    { s with dead := { s.dead with bsState := 1, bsInSince := none } }
  else s

/-- BS_SETTLE_EXPIRED (Table 09-8 step 4). -/
def execBsSettleExpired (s : State) : Host.Outcome State Fault Refusal :=
  .next (if s.inMode .blackstart && s.dead.bsState == 2 && s.bsInside && s.heldFor s.dead.bsInSince (s.objR 0x5900 5) then
      let s := { s with dead := { s.dead with bsState := 3, bsTime := secOf (s.since s.dead.bsFrom), bsInSince := none } }
      s.enterActive 0x0034
    else s)

/-- BS_TIMEOUT (R281): not at step 4 in time, or no BIDIR stage runs. -/
def execBsTimeout (s : State) : Host.Outcome State Fault Refusal :=
  .next (if s.inMode .blackstart && (s.elapsed s.dead.bsFrom (s.objR 0x5900 6) || !(s.stagesOf 0).any fun n => s.stageOn n) then
      ({ s with dead := { s.dead with bsState := 4, bsFailures := s.dead.bsFailures + 1 } }).raise (s.key 2 0xFF 4 2) 0
    else s)

end Sys2Proof.Machine
end

