-- ==== Sys2Proof/Machine/Samples.lean ====
section
/-! DEFINITION. A new sample of a modulator input or of the supervisory ADC, and everything that it feeds (R82, R95, R102). -/
namespace Sys2Proof.Machine

/-- LOOP_SAMPLE_AVAILABLE (R82): the frame, then the feeds, stages, strings, black start, ageing sums and rails that read the input. -/
def execLoopSampleAvailable (md : Nat) (fb : List Bool) (violations : Nat) (s : State) : Host.Outcome State Fault Refusal :=
  .next (if s.inputRuns md && s.frameDue md fb then
      let s := s.frame md fb violations
      ((((((s.feedSample md).stageSample md).stringSample md).bsSample md).ageSample md).bankSample md).railSample md
    else s)

/-- ADC_ENTRY_COMPLETE (R95): the entry, then the thermistors and rails that read it, unless a SHED has stopped its input. -/
def execAdcEntryComplete (volts : List Rat) (up down : Rat) (s : State) : Host.Outcome State Fault Refusal :=
  .next (if s.isShed 6 0xFF 0 then s.stopAdc
    else if s.adc.lapActive && decide (s.adc.pos < s.adc.running.length) then
      let e := s.adc.pos
      let stopped := s.isShed 6 0xFF (0x20 + entryInput (nth s.adc.running e 0))
      let s := (s.adcEntry volts up down).slotWaits.d2dGood
      if s.unchecked || stopped then s else (s.thermEntry e).railEntry e
    else s)

end Sys2Proof.Machine
end

