-- ==== Sys2Proof/Machine/ImageCheck.lean ====
section
/-! DEFINITION. The image check (check 7 of R477): what the chapters require of a configuration image, judged on a state in which the image
is in force and nothing is written. -/
namespace Sys2Proof.Machine

/-- Bit of `variants` for the part (Table 17-1). -/
def PartNo.idx : PartNo → Nat | .fyx9480 => 0 | .fyx9462 => 1 | .fyx9424 => 2

/-! Dictionary values (R7, R378). -/

/-- What a value of the image can name (R7). -/
inductive RefKind where
  | input | source | stage | berth | binding | monitor | inputs | mapping
  deriving DecidableEq, Repr

/-- The objects that name a unit (R7): first index, indices, stride, first and last sub-index, and what they name. -/
def refRows : List (Nat × Nat × Nat × Nat × Nat × RefKind) := [
  (0x3000, 8, 0x100, 0x12, 0x14, .input), (0x3004, 8, 0x100, 1, 4, .binding), (0x3800, 24, 1, 14, 14, .input), (0x3B00, 16, 1, 0x12, 0x12, .stage),
  (0x3C00, 8, 1, 0x0F, 0x10, .source), (0x3C00, 8, 1, 0x17, 0x17, .stage), (0x3D00, 8, 1, 4, 4, .input), (0x4400, 4, 16, 3, 5, .input),
  (0x1600, 32, 1, 1, 64, .mapping), (0x1A00, 32, 1, 1, 64, .mapping), (0x4030, 4, 1, 3, 3, .stage), (0x4310, 32, 1, 6, 6, .monitor), (0x4700, 1, 1, 3, 3, .inputs), (0x4703, 1, 1, 3, 4, .inputs),
  (0x4500, 1, 1, 0x14, 0x14, .input), (0x5001, 8, 0x100, 2, 3, .input), (0x5001, 8, 0x100, 5, 5, .berth), (0x5001, 8, 0x100, 6, 6, .stage)]

/-- What an object names, if it names a unit. -/
def refKind (idx sub : Nat) : Option RefKind :=
  (refRows.find? fun (b, n, st, lo, hi, _) =>
    decide (b ≤ idx) && decide ((idx - b) / st < n) && (idx - b) % st == 0 && decide (lo ≤ sub) && decide (sub ≤ hi)).map fun r => r.2.2.2.2.2

/-- The unit that a value names is present (R7); 0xFF names none. -/
def State.refOk (s : State) (k : RefKind) (v : Nat) : Bool :=
  match k with
  | .input => v == 0xFF || s.part.has .modIn v
  | .source => !decide (v < 0x30) || s.part.has .modIn v
  | .stage => v == 0xFF || s.part.has .stage v
  | .berth => v == 0xFF || s.part.has .berth v
  | .binding => s.part.has .modIn (bits v 16 8) && (bit v 12 || s.part.has .phase (bits v 0 5))
  | .monitor => !(decide (0x40 ≤ v) && decide (v < 0x80)) || s.part.has .modIn (v - 0x40)
  | .inputs => decide (v < 2 ^ s.part.mods)
  | .mapping => match objRow (bits v 16 16) (bits v 8 8) with
    | some r => s.part.has r.pres (r.unit (bits v 16 16) (bits v 8 8))
    | none => s.hasIndex (bits v 16 16) || !objRows.any fun r => r.hasIndex (bits v 16 16)

/-- The target of a rail is present (R7, R288). -/
def State.railRefOk (s : State) (r : Nat) : Bool :=
  let o := s.objN (0x4310 + r)
  (o 2 != 1 || s.part.has .stage (o 4)) && (o 2 != 2 || s.part.has .berth (o 4))

/-- A value of the image names an object that exists on the variant, of its type's length and within its range, and names no absent unit (R7). -/
def State.valueOk (s : State) (p : Nat × List Byte) : Bool :=
  let idx := p.1 / 256
  let sub := p.1 % 256
  match objRow idx sub with
  | none => false
  | some r => s.part.has r.pres (r.unit idx sub) && (r.typ.size == 0 || p.2.length == r.typ.size) && r.rng.ok r.typ p.2
      && (match refKind idx sub with | some k => s.refOk k (leNat p.2) | none => true)

/-! Measurement (R78, R84, R85). -/

/-- An input's frames and clock (R78, R84, R85), whether or not its group is enabled: the modulator period is 2·N PWM ticks. -/
def State.inputOk (s : State) (md : Nat) : Bool :=
  let g := md / 12
  let n := s.divider md
  let an := s.objN (0x4030 + g) 3
  !(s.part.has .modIn md && s.modType md != 0) || ((s.modType md != 3 || decide (16 ≤ n)) && decide (s.objN (0x4000 + md) 9 < s.osr md)
    && (an == 0xFF || (s.stageUsed an && s.carrierPeriod an % (s.osr md * (2 * n)) == 0 && s.objN (0x3000 + 256 * an) 6 % (2 * n) == 0)))

/-- The input belongs to a group that no stage anchors (R86). -/
def State.freeRunning (s : State) (md : Nat) : Bool := s.objN (0x4030 + md / 12) 3 == 0xFF

/-! Loops (R108, R116, R118 to R121, R478). -/

/-- A slot keeps Table 04-3. DESIGN CHOICE (log entry 143): an infinite limit of either sign is accepted, so long as lo is not above hi. -/
def Slot.ok (x : Slot) : Bool :=
  [x.b0, x.b1, x.b2, x.a1, x.a2].all F32.isFinite && !F32.isNaN x.lo && !F32.isNaN x.hi && !F32.lt x.hi x.lo && decide (x.flags.toNat ≤ 1)

/-- A record of the loop section keeps Table 17-3. -/
def LoopParam.ok (p : LoopParam) : Bool :=
  F32.isFinite p.gIn && F32.isFinite p.gOut && !F32.isNaN p.outLo && !F32.isNaN p.outHi && !F32.lt p.outHi p.outLo
    && F32.isFinite p.initOut && !F32.lt p.initOut p.outLo && !F32.lt p.outHi p.initOut && p.init.all F32.isFinite

/-- A code of `ref_src` or `fb_src` (Table 04-8). -/
def srcCodeOk (c : Nat) (ref : Bool) : Bool := decide (c < 0x30) || (decide (0x40 ≤ c) && decide (c < 0x80)) || c == 0xFF || (ref && decide (0x80 ≤ c) && decide (c ≤ 0x90))

/-- A code of `ff_src`. -/
def ffCodeOk (c : Nat) : Bool := decide (c ≤ 8) || (decide (0x10 ≤ c) && decide (c < 0x20))

/-- The stage that times a record in a variant. -/
def Variant.stageOf (v : Variant) (r : LoopRec) : Nat := if r.noStage then v.refStage else r.stage

/-- A record keeps R114 and R121. -/
def State.recOk (s : State) (b : Bank) (v : Variant) (r : LoopRec) : Bool :=
  let st := v.stageOf r
  let P := s.carrierPeriod st
  let freq : Rat := if v.derated then 9 / 10 else 1
  let p := (b.params.find? fun p => p.lp == r.lp).getD {}
  let refIn := decide (r.refSrc < 0x30)
  let fbIn := decide (r.fbSrc < 0x30)
  decide (r.lp < 64) && decide (r.engine < 8) && decide (r.sections ≤ 8) && decide (r.invPolicy < 3) && decide (r.outKind < 3)
    && srcCodeOk r.refSrc true && srcCodeOk r.fbSrc false && ffCodeOk r.ffSrc && s.stageUsed st && (!r.noStage || r.stage == 0)
    && (r.outKind == 1 || r.outDst == 0) && decide (r.outDst < s.part.phases)
    && (r.sections == 0 || (List.range 8).all fun band => decide (r.coefBase + r.setOf band * r.sections + r.sections - 1 ≤ 255))
    && (r.outKind == 0 || (!F32.lt p.outLo 0 && !F32.lt F32.one p.outHi))
    && decide ((r.release : Rat) < P * freq) && decide (r.commit < P)
    && (!r.depWait || (decide (0x40 ≤ r.refSrc) && decide (r.refSrc < 0x80)
          && v.recs.any fun q => q.lp == r.refSrc - 0x40 && ((q.noStage && r.noStage) || (!q.noStage && !r.noStage && q.stage == r.stage))))
    && !(refIn && s.freeRunning r.refSrc) && !(fbIn && s.freeRunning r.fbSrc)
    && (!refIn || s.part.has .modIn r.refSrc) && (!fbIn || s.part.has .modIn r.fbSrc)

/-- Records in strictly ascending order. -/
def ascendingLps : List LoopRec → Bool
  | a :: b :: l => decide (a.lp < b.lp) && ascendingLps (b :: l)
  | _ => true

/-- A variant keeps R121. DESIGN CHOICE (log entry 143): the carrier periods and phase offsets of a derated variant, and the stages that a table serves, are
those of the stages that its instances are timed by: `ref_stage` is one of them where an instance has `no_stage` 1. -/
def State.variantOk (s : State) (b : Bank) (v : Variant) : Bool :=
  let stages := (v.recs.map v.stageOf).eraseDups
  let n := v.recs.length
  decide (v.mode ≤ 1) && decide (n ≤ 64) && s.part.has .stage v.refStage && ascendingLps v.recs && decide (v.ageing < 8)
    && (if v.mode = 0 then decide (n ≤ 32) && v.admission == 0 && decide (64 ≤ v.latency) && decide (v.latency ≤ 512) && decide (1 ≤ v.frameLen)
          && stages.all fun st => s.carrierPeriod st != 0 && v.frameLen % s.carrierPeriod st == 0
        else decide (32 < n) && decide (v.admission ≤ 1) && v.latency == 0 && v.frameLen == 0)
    && (!v.derated || (v.frameLen % 10 == 0 && (v.mode == 1 || v.latency % 9 == 0)
          && stages.all fun st => s.carrierPeriod st % 10 == 0 && s.objN (0x3000 + 256 * st) 6 % 10 == 0))
    && (List.range 8).all (fun e => decide ((v.recs.filter fun r => r.engine == e).length ≤ 16))
    && v.recs.all (s.recOk b v)

/-- What variants of one section may not differ in. -/
def LoopRec.fixed (r : LoopRec) : LoopRec := { r with release := 0, commit := 0 }

/-- The four words of an instance record (Tables 04-6 and 04-7); none where a reserved field is not 0. -/
def recOf (w0 w1 w2 w3 : Nat) : Option LoopRec :=
  if bits w1 0 4 = 0 ∧ bits w2 0 4 = 0 then
    some { lp := bits w0 26 6, engine := bits w0 23 3, stage := bits w0 20 3, noStage := bit w0 19, sections := bits w0 15 4, invPolicy := bits w0 13 2
           outKind := bits w0 11 2, depWait := bit w0 10, outDst := bits w0 5 5, ffSrc := bits w0 0 5, release := bits w1 12 20, fbSrc := bits w1 4 8
           commit := bits w2 12 20, refSrc := bits w2 4 8, coefBase := bits w3 24 8, bandMap := bits w3 0 24 }
  else none

/-- The records of a variant's words after its header. -/
def recsOf : List Nat → Option (List LoopRec)
  | [] => some []
  | w0 :: w1 :: w2 :: w3 :: l =>
    match recOf w0 w1 w2 w3, recsOf l with
    | some r, some rs => some (r :: rs)
    | _, _ => none
  | _ => none

/-- The variant that the words of a schedule section spell (R118, Tables 04-4 to 04-7); none where the format is not 0x01, a reserved field is not 0
or the records are not as many as the header says (R121). -/
def tableOf : List Nat → Option Variant
  | h0 :: h1 :: l =>
    match recsOf l with
    | none => none
    | some rs =>
      if bits h0 24 8 = 1 ∧ bits h0 17 7 = rs.length ∧ bits h1 27 5 = 0 ∧ bits h1 20 4 = 0 ∧ (h0 :: h1 :: l).all (fun w => decide (w < 2 ^ 32)) = true then
        some { mode := bits h0 16 1, admission := bits h0 14 2, refStage := bits h0 11 3, derated := bit h0 10, latency := bits h0 0 10
               ageing := bits h1 24 3, frameLen := bits h1 0 20, recs := rs }
      else none
  | _ => none

/-- The schedule, loop and coefficient sections (R118, R121, R478), and the code of each engine (Table 04-1). -/
def State.scheduleOk (s : State) (b : Bank) : Bool :=
  let v0 := (b.variants.head?).getD {}
  b.tables.map tableOf == b.variants.map some && decide (b.code.length ≤ 8) && b.code.all (fun c => decide (c.length ≤ 16384))
    && decide (1 ≤ b.variants.length) && decide (b.variants.length ≤ 8) && b.variants.any (fun v => v.ageing == 0)
    && ((b.variants.map (·.ageing)).eraseDups.length == b.variants.length)
    && b.variants.all (fun v => s.variantOk b v && v.mode == v0.mode && v.refStage == v0.refStage && v.recs.map LoopRec.fixed == v0.recs.map LoopRec.fixed)
    && b.slots.all (fun x => x.2.2.ok)
    && b.params.all (fun p => p.ok && v0.recs.any fun r => r.lp == p.lp)
    && v0.recs.all fun r => b.params.any fun p => p.lp == r.lp

/-! Stages (R141, R152, R202, R203). -/

/-- Entries of an angle table give distinct offsets, the first 0 (R152). -/
def anglesOk (P : Nat) (l : List Nat) : Bool :=
  let o := l.map fun a => (a * P + 32768) / 65536 % P
  l.headD 0 == 0 && o.eraseDups.length == o.length

/-- The image gives an object a value. -/
def State.imageGives (s : State) (idx sub : Nat) : Bool := (storeGet (objKey idx sub) s.imageValues).isSome

/-- Every angle table that a stage of m phases needs is there (R152): the full set, and for m of 2 and more the n−1 table of each position. -/
def State.anglesGiven (s : State) (n m : Nat) : Bool :=
  (List.range m).all fun i => s.imageGives (0x3002 + 256 * n) (1 + i)
    && (decide (m ≤ 1) || (List.range (m - 1)).all fun j => s.imageGives (0x3003 + 256 * n) (1 + 11 * i + j))

/-- The phases that instances drive: each phase of the stage exactly once. -/
def State.drivenOnce (s : State) (v : Variant) (n : Nat) : Bool :=
  (s.stagePhases n).all fun p => (v.recs.filter fun r => (r.outKind == 1 && r.outDst == p) || (r.outKind == 2 && r.stage == n && !r.noStage)).length == 1

def State.stageImageOk (s : State) (v : Variant) (n : Nat) : Bool :=
  let m := s.stageCount n
  let P := s.carrierPeriod n
  let lp := s.objN 0x4505 (1 + n)
  let win := (v.recs.find? fun r => r.lp == lp)
  !s.stageUsed n ||
    (s.part.has .stage n && decide (m ≤ 12) && decide (s.stageFirst n + m ≤ s.part.phases) && decide (800 ≤ P) && decide (P ≤ 80000)
      && decide (s.objN (0x3000 + 256 * n) 6 < P) && s.drivenOnce v n
      && s.anglesGiven n m && anglesOk P ((List.range m).map fun j => s.objN (0x3002 + 256 * n) (1 + j))
      && (decide (m ≤ 1) || (List.range m).all fun i => anglesOk P ((List.range (m - 1)).map fun j => s.objN (0x3003 + 256 * n) (1 + 11 * i + j)))
      && (!(s.stageType n == 0 || s.stageType n == 2) || (match win with | some r => r.outKind == 0 | none => false))
      && (s.stageType n != 2 || decide (0 < s.objR 0x4506 (1 + n)))
      && (List.range 8).all fun k => k == n || !s.stageUsed k || (s.stagePhases k).all fun p => !(s.stagePhases n).contains p)

/-- A stage is present and used. -/
def State.stageThere (s : State) (n : Nat) : Bool := s.part.has .stage n && s.stageUsed n

/-- The generators that the image binds are bound to used stages; for 0xFF the `ref_stage` of every variant is one (R175). -/
def State.pgBindingsOk (s : State) (b : Bank) : Bool :=
  (List.range 16).all fun n => !s.imageGives (0x3B00 + n) 0x12 ||
    (let st := s.objN (0x3B00 + n) 0x12
     if st == 0xFF then b.variants.all fun v => s.stageThere v.refStage else s.stageThere st)

/-! Feeds (R229). -/

/-- The reverse decision of an enabled input feed comes within 250 ns. -/
def State.feedImageOk (s : State) (f : Nat) : Bool :=
  let md := s.objN (0x4400 + 16 * f) 4
  s.objN (0x4400 + 16 * f) 2 != 1 || decide ((s.objN (0x4000 + md) 0x0E : Rat) * s.divider md * 5 + 35 ≤ 250)

/-! Strings (R241). -/

/-- A list rises strictly. -/
def risesR : List Rat → Bool
  | a :: b :: l => decide (a < b) && risesR (b :: l)
  | _ => true

def State.stringImageOk (s : State) (k : Nat) : Bool :=
  let o := fun (idx sub : Nat) => s.objR (idx + 256 * k) sub
  let st := s.objN (0x5001 + 256 * k) 6
  let src := s.objN (0x5001 + 256 * k) 4
  s.objN (0x5001 + 256 * k) 1 != 1 ||
    (s.part.has .string k && risesR ((List.range 8).map fun r => o 0x5004 (1 + r)) && risesR ((List.range 6).map fun c => o 0x5004 (0x21 + c))
      && decide (0 ≤ o 0x5004 0x21)
      && (List.range 8).all (fun r => risesR ((List.range 21).map fun j => o 0x5002 (1 + 21 * r + j)) && decide (0 < o 0x5004 (0x19 + r)))
      && (List.range 48).all (fun j => decide (0 < o 0x5003 (1 + j)) && decide (o 0x5003 (1 + j) ≤ 1))
      && (decide (src ≤ 0x17) || (src == 0x40 && s.objN (0x5001 + 256 * k) 5 != 0xFF) || (decide (0x80 ≤ src) && decide (src ≤ 0x97)))
      && s.stageUsed st && s.stageType st == 0
      && (List.range 8).all fun j => j == k || s.objN (0x5001 + 256 * j) 1 != 1 || s.objN (0x5001 + 256 * j) 6 != st)

/-- Every BIDIR stage is the stage of an enabled string. -/
def State.bidirNamed (s : State) : Bool :=
  (List.range 8).all fun n => !s.stageUsed n || s.stageType n != 0 || (List.range 8).any fun k => s.objN (0x5001 + 256 * k) 1 == 1 && s.objN (0x5001 + 256 * k) 6 == n

/-! Rails (R289 to R293). -/

def State.imgRailUsed (s : State) (r : Nat) : Bool := decide (s.objN (0x4310 + r) 2 < 4)
def State.imgParents (s : State) (r : Nat) : List Nat := (List.range 32).filter fun j => bit (s.objN (0x4310 + r) 7) j

/-- Rails whose parents all lie in a set already ordered; 32 rounds order every rail unless the relation has a cycle. -/
def State.orderRails (s : State) : Nat → List Nat → List Nat
  | 0, l => l
  | n + 1, l => s.orderRails n ((List.range 32).filter fun r => (s.imgParents r).all fun j => l.contains j)

/-- The words of a program, as many as the image gives. -/
def State.program (s : State) (idx : Nat) : List Nat :=
  ((List.range 64).filter fun w => s.imageGives idx (1 + w)).map fun w => s.objN idx (1 + w)

/-- A word keeps Tables 10-2 and 10-3 in a program of group g. -/
def State.seqWordOk (s : State) (g : Nat) (rise : Bool) (w : Nat) : Bool :=
  let op := bits w 28 4
  let t := bits w 23 5
  let k := bits w 0 16
  let rail := s.imgRailUsed t && s.objN (0x4310 + t) 3 == g && !(s.objN (0x4310 + t) 2 == 1 && (op == 1 || op == 2))
  bits w 16 7 == 0 &&
    (match op with
     | 0 => t == 0
     | 1 => rise && rail
     | 2 => !rise && rail
     | 3 => rise && rail && k != 0
     | 4 => !rise && rail && k != 0
     | 5 => t == 0
     | 6 => decide (t < 4) && k != 0
     | 7 => t == 0 && decide (k < 256)
     | _ => false)

/-- A rise program turns a rail on only after its parents are good (R289): `good` the rails and `grp` the groups waited for so far. -/
def State.riseOrder (s : State) (g : Nat) : List Nat → List Nat → List Nat → Bool
  | [], _, _ => true
  | w :: ws, good, grp =>
    let t := bits w 23 5
    match bits w 28 4 with
    | 1 => (s.imgParents t).all (fun j => if s.objN (0x4310 + j) 3 = g then good.contains j else grp.contains (s.objN (0x4310 + j) 3)) && s.riseOrder g ws good grp
    | 3 => s.riseOrder g ws (t :: good) grp
    | 6 => s.riseOrder g ws good (t :: grp)
    | _ => s.riseOrder g ws good grp

/-- A rail that a descent program can turn off: stage rails are stopped before it (R293, R298), and monitor rails are never switched. -/
def State.fallsByProgram (s : State) (g j : Nat) : Bool :=
  s.imgRailUsed j && s.objN (0x4310 + j) 3 == g && s.objN (0x4310 + j) 2 != 1 && s.objN (0x4310 + j) 2 != 3

/-- A descent program turns a rail off only after its dependants in the group, direct or through other rails (R289). -/
def State.fallOrder (s : State) (g : Nat) : List Nat → List Nat → Bool
  | [], _ => true
  | w :: ws, off =>
    let t := bits w 23 5
    if bits w 28 4 = 2 then (s.dependants t).all (fun j => !s.fallsByProgram g j || off.contains j) && s.fallOrder g ws (t :: off)
    else s.fallOrder g ws off

/-- Worst-case ticks of a rise program; `n` bounds the depth of WAITGROUP, and none is a cycle (R292). -/
def State.riseTicks (s : State) : Nat → Nat → Option Nat
  | 0, _ => none
  | n + 1, g =>
    (s.program (0x4340 + g)).foldl (fun acc w =>
      match acc with
      | none => none
      | some a =>
        match bits w 28 4 with
        | 3 => some (a + 1 + bits w 0 16)
        | 5 => some (a + 1 + bits w 0 16)
        | 6 => (s.riseTicks n (bits w 23 5)).map (a + 1 + ·)
        | _ => some (a + 1)) (some 0)

/-- WAITGROUP of the descent programs forms no cycle. -/
def State.fallAcyclic (s : State) : Nat → Nat → Bool
  | 0, _ => false
  | n + 1, g => (s.program (0x4344 + g)).all fun w => bits w 28 4 != 6 || s.fallAcyclic n (bits w 23 5)

def State.programOk (s : State) (g : Nat) (rise : Bool) : Bool :=
  let l := s.program ((if rise then 0x4340 else 0x4344) + g)
  l.isEmpty || (l.all (s.seqWordOk g rise) && bits (l.getLastD 0xFFFFFFFF) 28 4 == 0 && (if rise then s.riseOrder g l [] [] else s.fallOrder g l []))

def State.railsImageOk (s : State) : Bool :=
  decide ((s.orderRails 32 []).length = 32)
    && (List.range 32).all (fun r => !s.imgRailUsed r || s.objN (0x4310 + r) 2 == 1 || (s.imgParents r).all fun j => s.objN (0x4310 + j) 2 != 1)
    && (List.range 4).all (fun g => s.programOk g true && s.programOk g false && s.fallAcyclic 5 g
          && (match s.riseTicks 5 g with | some t => decide (t ≤ 12124) | none => false))

/-! Temperature and ageing (R306, R312). -/

def State.bandsOk (s : State) : Bool := (List.range 6).all fun i => decide (s.objR 0x4204 (1 + i) + 4 ≤ s.objR 0x4204 (2 + i))

/-- A step marked 0xFF selects a derated variant. -/
def State.stepsOk (s : State) (b : Bank) : Bool :=
  (List.range 8).all fun m => s.stepVid m != 0xFF || !s.imageGives 0x2602 (1 + m) || (nth b.variants (variantFor b.variants m) {}).derated

/-! Severity (R325, R327). -/

/-- Classes within floor to ceiling, of units that are present (R7); LEGACY's floors do not fail an image (R328). -/
def State.sevImageOk (s : State) (e : SevEntry) : Bool :=
  match e.key.row with
  | some r => decide (r.floor ≤ e.cls) && decide (e.cls ≤ r.ceil) && s.unitPresent e.key
  | none => false

/-! Two-wire ports and scripts (R406, R428). -/

/-- Port speed in Hz and bus-free time in s. -/
def busSpeed (c : Nat) : Rat × Rat := match c with | 0 => (100000, 47 / 10000000) | 1 => (400000, 13 / 10000000) | _ => (1000000, 5 / 10000000)

/-- Bus time in s of a transaction of n bytes (R406). -/
def busTime (speed n : Nat) (read : Bool) : Rat := let f := busSpeed speed; (9 * (n : Rat) + (if read then 3 else 2)) / f.1 + f.2

/-- The words of a script. A berth with none (0xFF) runs an END alone: its arrival has nothing to run (DESIGN CHOICE, log entry 163). -/
def State.script (s : State) (k : Nat) : List Nat :=
  if 16 ≤ k then [0]
  else ((List.range 32).filter fun w => s.imageGives (0x4820 + k) (1 + w)).map fun w => s.objN (0x4820 + k) (1 + w)

/-- A script word keeps Tables 14-1 and 14-2. -/
def scriptWordOk (w : Nat) : Bool :=
  let op := bits w 28 4
  let inv := bits w 27 1
  let sl := bits w 24 3
  let cmd := bits w 16 8
  let imm := bits w 0 16
  let kept := !(cmd == 0 || cmd == 1 || cmd == 0x22 || cmd == 0x25 || cmd == 0x26)
  match op with
  | 0x0 => inv == 0 && sl == 0 && cmd == 0 && imm == 0
  | 0x1 => inv == 0 && sl == 0 && cmd == 0 && decide (imm < 256)
  | 0x2 => inv == 0 && imm == 0
  | 0x3 => inv == 0 && imm == 0
  | 0x4 => inv == 0 && decide (imm ≤ 32)
  | 0x5 => inv == 0 && sl == 0 && kept && decide (imm < 256)
  | 0x6 => kept && (if inv = 1 then imm == 0 else sl == 0)
  | 0x7 => inv == 0 && sl == 0 && imm == 0 && kept
  | 0x8 => inv == 0 && cmd == 0 && decide (imm < 0x1000) && bits imm 3 5 == 0 && decide (bits imm 8 4 ≤ 4)
  | 0x9 => cmd == 0
  | 0xA => decide (cmd ≤ 2)
  | 0xB => inv == 0 && sl == 0 && cmd == 0
  | 0xC => inv == 0 && cmd == 0 && decide (imm < 32)
  | _ => false

/-- Bus time of one script word at its longest (R428). -/
def scriptTime (speed w : Nat) (pec : Bool) : Rat :=
  let p := b2n pec
  match bits w 28 4 with
  | 0x1 => busTime speed (3 + p) false
  | 0x2 => busTime speed (4 + p) true
  | 0x3 => busTime speed (5 + p) true
  | 0x4 => busTime speed (4 + bits w 0 6 + p) true
  | 0x5 => busTime speed (3 + p) false
  | 0x6 => busTime speed (4 + p) false
  | 0x7 => busTime speed (2 + p) false
  | 0xB => (bits w 0 16 : Rat) / 1000000
  | _ => 1 / 10000000

/-- Run time of a berth's script at its longest. -/
def State.runTime (s : State) (b : Nat) : Rat :=
  sumR ((s.script (s.objN (0x4900 + b) 4)).map fun w => scriptTime (s.objN (0x4800 + b / 16) 3) w (s.objN (0x4900 + b) 8 != 0))

def scriptOk (l : List Nat) : Bool :=
  l.isEmpty || (l.all scriptWordOk && bits (l.getLastD 0xFFFFFFFF) 28 4 == 0 && bits ((l.dropLast).getLastD 0) 28 4 != 9)

/-- Berths of a port in use. -/
def State.portBerths (s : State) (p : Nat) : List Nat := ((List.range 16).map (16 * p + ·)).filter fun b => s.objN (0x4900 + b) 2 != 0

/-- The load of a port with the poll periods given (R428). -/
def State.portLoadOk (s : State) (p : Nat) (period : Nat → Nat) : Bool :=
  let speed := s.objN (0x4800 + p) 3
  let trim := busTime speed 5 false
  decide (sumR ((s.portBerths p).map fun b =>
    (if period b = 0 then 0 else s.runTime b * 1000 / period b) + (if s.berthKind b = 1 then trim * 100 else 0)) ≤ 8 / 10)

/-- Addresses of a port: its berths', its spare range's. -/
def State.portAddrs (s : State) (p : Nat) : List Nat :=
  let a := s.objN (0x4800 + p) 0x0A
  let z := s.objN (0x4800 + p) 0x0B
  (s.portBerths p).map (fun b => s.objN (0x4900 + b) 0x0A) ++ (if a = 0 ∧ z = 0 then [] else (List.range (z + 1 - a)).map (a + ·))

/-- The own addresses of both sides on a port, as the image gives them (R412). -/
def State.ownAddrs (s : State) (p : Nat) : List Nat :=
  let k := objKey (0x4800 + p) 6
  match s.image with
  | some sl => ([storeGet k sl.content.values, storeGet k (sl.content.valuesB ++ sl.content.values)].filterMap id).map leNat
  | none => [s.objN (0x4800 + p) 6]

def addrOk (a : Nat) : Bool := decide (8 < a) && decide (a < 0x78) && a != 0x0C && a != 0x61

/-- A port's part of R428. -/
def State.portImageOk (s : State) (p : Nat) : Bool :=
  let l := s.portAddrs p
  let rails := ((List.range 32).filter fun r => s.objN (0x4310 + r) 2 == 2 && s.objN (0x4310 + r) 4 / 16 == p).length
  l.all (fun a => addrOk a && !(s.ownAddrs p).contains a) && l.eraseDups.length == l.length
    && (s.portBerths p).all (fun b => decide (s.runTime b ≤ 7 / 1000))
    && s.portLoadOk p (fun b => s.objN (0x4900 + b) 6)
    && decide (rails ≤ (match s.objN (0x4800 + p) 3 with | 0 => 2 | 1 => 9 | _ => 13))

/-- Presence pins are given to one berth each. -/
def State.presencePinsOk (s : State) : Bool :=
  let l := ((List.range 64).map fun b => s.objN (0x4900 + b) 7).filter fun p => p != 0xFF
  l.eraseDups.length == l.length

/-- The wake sources and the output-voltage windows name units that are present (R7). -/
def State.wakesOk (s : State) (content : Image) : Bool :=
  (List.range 4).all (fun p => s.part.has .twoWire p || !(bit content.wakeEnable p || bit content.wakeStart p))
    && (List.range 2).all (fun p => s.part.has .can p || !(bit content.wakeEnable (4 + p) || bit content.wakeStart (4 + p)))
    && content.berthWindow.all (fun w => s.part.has .berth w.1)
    && content.prebias.all (fun p => s.part.has .stage p.stage && decide (p.lp < 64))

/-! The whole check. -/

/-- The state on which an image is judged: its values in force, nothing written. -/
def State.underImage (s : State) (content : Image) : State :=
  { s with cfg := [], kept := [], img := { s.img with imgRun := some 0, cfg := [{ valid := true, content := content }, {}] } }

/-- The DDR4 parameters lie within Table 18-14 (R433, R512). -/
def DramTiming.ok (x : DramTiming) (dense : Bool) : Bool :=
  x.tCk == 833 && decide (15 ≤ x.cl) && decide (x.cl ≤ 18) && decide (12 ≤ x.cwl) && decide (x.cwl ≤ 16)
    && [x.tRcd, x.tRp].all (fun t => decide (12500 ≤ t) && decide (t ≤ 15000)) && decide (32000 ≤ x.tRas) && decide (13000 ≤ x.tFaw) && decide (x.tFaw ≤ 21000)
    && decide ((if dense then 550000 else 350000) ≤ x.tRfc) && [7800000, 3900000].contains x.tRefi.1 && [7800000, 3900000].contains x.tRefi.2 && x.parityOn && x.crcOn

/-- The image passes the image check on this variant. -/
def State.imageOk (s : State) (content : Image) : Bool :=
  let t := s.underImage content
  let b := content.bank
  let v := (b.variants.head?).getD {}
  content.values.all t.valueOk && content.valuesB.all t.valueOk && (List.range 48).all t.inputOk && t.scheduleOk b && (List.range 8).all (t.stageImageOk v) && t.pgBindingsOk b
    && t.feedImageOk 0 && t.feedImageOk 1 && (List.range 8).all t.stringImageOk && t.bidirNamed && t.railsImageOk && t.bandsOk && t.stepsOk b
    && content.severity.all t.sevImageOk && (List.range 32).all t.railRefOk && (List.range 16).all (fun k => scriptOk (t.script k)) && (List.range 4).all t.portImageOk && t.presencePinsOk && t.wakesOk content
    && (!s.part.has .ddr 0 || content.dram.ok (t.objN 0x4600 3 == 1))

end Sys2Proof.Machine
end

