-- ==== Sys2Proof/Machine/ImageBytes.lean ====
section
/-! DEFINITION. The bytes of an image: header, sections, digest and signature, and the first checks of R477 (chapter 17). -/
namespace Sys2Proof.Machine

/-! The bytes of an image (R475, R477). -/

/-- A field of an image, least significant byte first. -/
def field (d : List Byte) (at_ n : Nat) : Nat := leNat ((d.drop at_).take n)

/-- The header of an image (Table 17-1). -/
def headerOf (d : List Byte) : ImgHeader :=
  { kind := field d 6 1, keyIndex := field d 7 1, build := field d 8 4, security := field d 12 4, variants := field d 16 1, total := field d 20 4
    iface := field d 24 2, ifaceMax := field d 26 2, manifestMin := field d 28 2, manifestMax := field d 30 2, dictDigest := (d.drop 32).take 32 }

/-- Check 1 of R477. -/
def headOk (d : List Byte) (target : Nat) : Bool :=
  decide (128 ≤ d.length) && field d 0 4 == 0x49585946 && field d 4 2 == 1 && field d 6 1 == target && decide (field d 7 1 ≤ 1)
    && decide (field d 16 1 < 8) && field d 17 1 == 0 && decide (1 ≤ field d 18 2) && decide (field d 18 2 ≤ 32)
    && (target == 1 || (field d 26 2 == 0 && field d 28 2 == 0 && field d 30 2 == 0)) && (target == 2 || ((d.drop 32).take 32).all (· == 0))

/-- The constants of the 64 rounds of SHA-256 (R476), from the cube roots of the first 64 primes (FIPS 180-4). -/
def shaK : List (BitVec 32) := [
  0x428a2f98, 0x71374491, 0xb5c0fbcf, 0xe9b5dba5, 0x3956c25b, 0x59f111f1, 0x923f82a4, 0xab1c5ed5, 0xd807aa98, 0x12835b01, 0x243185be, 0x550c7dc3,
  0x72be5d74, 0x80deb1fe, 0x9bdc06a7, 0xc19bf174] ++ [
  0xe49b69c1, 0xefbe4786, 0x0fc19dc6, 0x240ca1cc, 0x2de92c6f, 0x4a7484aa, 0x5cb0a9dc, 0x76f988da, 0x983e5152, 0xa831c66d, 0xb00327c8, 0xbf597fc7,
  0xc6e00bf3, 0xd5a79147, 0x06ca6351, 0x14292967] ++ [
  0x27b70a85, 0x2e1b2138, 0x4d2c6dfc, 0x53380d13, 0x650a7354, 0x766a0abb, 0x81c2c92e, 0x92722c85, 0xa2bfe8a1, 0xa81a664b, 0xc24b8b70, 0xc76c51a3,
  0xd192e819, 0xd6990624, 0xf40e3585, 0x106aa070] ++ [
  0x19a4c116, 0x1e376c08, 0x2748774c, 0x34b0bcb5, 0x391c0cb3, 0x4ed8aa4a, 0x5b9cca4f, 0x682e6ff3, 0x748f82ee, 0x78a5636f, 0x84c87814, 0x8cc70208,
  0x90befffa, 0xa4506ceb, 0xbef9a3f7, 0xc67178f2]

/-- The hash before the first block. -/
def shaStart : List (BitVec 32) := [0x6a09e667, 0xbb67ae85, 0x3c6ef372, 0xa54ff53a, 0x510e527f, 0x9b05688c, 0x1f83d9ab, 0x5be0cd19]

/-- The message schedule, latest word first, extended by n words. -/
def shaExtend : Nat → List (BitVec 32) → List (BitVec 32)
  | 0, l => l
  | n + 1, l =>
    let a := nth l 1 0
    let b := nth l 14 0
    let s1 := a.rotateRight 17 ^^^ a.rotateRight 19 ^^^ (a >>> 10)
    let s0 := b.rotateRight 7 ^^^ b.rotateRight 18 ^^^ (b >>> 3)
    shaExtend n ((s1 + nth l 6 0 + s0 + nth l 15 0) :: l)

/-- One round on the eight working words, with the round's constant and schedule word added up. -/
def shaRound (v : List (BitVec 32)) (kw : BitVec 32) : List (BitVec 32) :=
  let g := fun i => nth v i 0
  let e := g 4
  let a := g 0
  let t1 := g 7 + (e.rotateRight 6 ^^^ e.rotateRight 11 ^^^ e.rotateRight 25) + ((e &&& g 5) ^^^ (~~~e &&& g 6)) + kw
  let t2 := (a.rotateRight 2 ^^^ a.rotateRight 13 ^^^ a.rotateRight 22) + ((a &&& g 1) ^^^ (a &&& g 2) ^^^ (g 1 &&& g 2))
  [t1 + t2, a, g 1, g 2, g 3 + t1, e, g 5, g 6]

/-- A number of four bytes, most significant first. -/
def beNat (b : List Byte) : Nat := leNat b.reverse

/-- The hash after one block of 64 bytes. -/
def shaBlock (h : List (BitVec 32)) (b : List Byte) : List (BitVec 32) :=
  let w := shaExtend 48 (((List.range 16).map fun i => BitVec.ofNat 32 (beNat ((b.drop (4 * i)).take 4))).reverse)
  let v := (List.zipWith (· + ·) shaK w.reverse).foldl shaRound h
  List.zipWith (· + ·) h v

/-- The hash after n blocks of a padded message. -/
def shaBlocks : Nat → List Byte → List (BitVec 32) → List (BitVec 32)
  | 0, _, h => h
  | n + 1, b, h => shaBlocks n (b.drop 64) (shaBlock h (b.take 64))

/-- SHA-256 (R476, FIPS 180-4). -/
def sha256 (b : List Byte) : List Byte :=
  let z := (119 - b.length % 64) % 64
  let m := b ++ [0x80] ++ List.replicate z 0 ++ (leBytes 8 (8 * b.length)).reverse
  ((shaBlocks (m.length / 64) m shaStart).map fun x => (leBytes 4 x.toNat).reverse).flatten

/-- The digest of an image, over bytes 0 to `total_length` − 65 (R476). -/
def imageDigest (d : List Byte) : List Byte := sha256 (d.take (field d 20 4 - 64))

/-- Its signature: the last 64 bytes. -/
def imageSignature (d : List Byte) : List Byte := (d.drop (field d 20 4 - 64)).take 64

/-- Size of a slot of a kind (Table 15-6). -/
def slotSize (kind : Nat) : Nat := if kind = 1 then 0x800000 else 0x200000

/-- A section of the table lies inside the image with its CRC-32, and its type is one of its kind. -/
def sectionOk (d : List Byte) (kind i : Nat) : Bool :=
  let e := 64 + 16 * i
  let off := field d (e + 4) 4
  let len := field d (e + 8) 4
  let ty := field d e 2
  decide (off + len + 64 ≤ field d 20 4) && field d (e + 2) 2 == 0 && field d (e + 12) 4 == (crc32 ((d.drop off).take len)).toNat
    && (if kind = 1 then decide (0x100 ≤ ty) && decide (ty ≤ 0x1FF) else decide (1 ≤ ty) && decide (ty ≤ 0xF))

/-- Check 2 of R477: lengths, sections, CRCs, and each section type of Table 17-2 once. -/
def layoutOk (d : List Byte) (kind : Nat) : Bool :=
  let n := field d 18 2
  decide (field d 20 4 ≤ slotSize kind) && field d 20 4 == d.length && decide (64 + 16 * n + 64 ≤ d.length)
    && (List.range n).all (sectionOk d kind)
    && (kind == 1 || (n == 15 && (List.range 15).all fun k => (List.range n).any fun i => field d (64 + 16 * i) 2 == k + 1))

/-- The bytes of the section of a type (R475, Table 17-2). -/
def sectionBytes (d : List Byte) (ty : Nat) : List Byte :=
  match (List.range (field d 18 2)).find? fun i => field d (64 + 16 * i) 2 == ty with
  | some i => (d.drop (field d (68 + 16 * i) 4)).take (field d (72 + 16 * i) 4)
  | none => []

/-- The word at an index of a section, least significant byte first (R118). -/
def wordAt (d : List Byte) (i : Nat) : Nat := field d (4 * i) 4

/-- The variants of a schedule section, each a header of two words and four words for each of its instances (R118). A rest that is no word leaves a
variant that no table spells. -/
def tablesOf (d : List Byte) : Nat → List (List Nat)
  | 0 => []
  | n + 1 =>
    if d.isEmpty then []
    else
      let k := 2 + 4 * bits (wordAt d 0) 17 7
      if d.length < 4 * k then [[]] else ((List.range k).map (wordAt d)) :: tablesOf (d.drop (4 * k)) n

/-- A coefficient slot (Table 04-3). -/
def slotOf (d : List Byte) : Slot :=
  let w := fun i => BitVec.ofNat 32 (wordAt d i)
  { b0 := w 0, b1 := w 1, b2 := w 2, a1 := w 3, a2 := w 4, lo := w 5, hi := w 6, flags := w 7 }

/-- A loop record of `n` sections (Table 17-3); one whose `present` is neither 0 nor 1 names no instance. -/
def loopOf (d : List Byte) (lp n : Nat) : LoopParam :=
  let w := fun i => BitVec.ofNat 32 (wordAt d i)
  { lp := if field d 21 1 = 1 then lp else 64, gIn := w 0, gOut := w 1, outLo := w 2, outHi := w 3, initOut := w 4
    init := (List.range (2 * n)).map fun i => w (6 + i), keep := field d 20 1 == 0 }

/-- The loop section keeps R478 and Table 17-3: 64 records of 96 bytes, whose reserved bytes are 0, whose `swap_action` and `present` are 0 or 1, and whose values are
in their limits. -/
def loopSectionOk (d : List Byte) : Bool :=
  let l := sectionBytes d 2
  l.length == 6144 && (List.range 64).all fun i =>
    let r := (l.drop (96 * i)).take 96
    decide (field r 20 1 ≤ 1) && decide (field r 21 1 ≤ 1) && field r 22 2 == 0 && field r 88 8 == 0 && (loopOf r i 8).ok

/-- The loop, coefficient and schedule sections of an image's bytes (R118, R478, Table 17-2); the code of the engines is its content's (log entry 8). -/
def readBank (d : List Byte) (b : Bank) : Bank :=
  let loops := sectionBytes d 2
  let coef := sectionBytes d 3
  let tables := tablesOf (sectionBytes d 5) 9
  let variants := tables.map fun t => (tableOf t).getD {}
  let n := fun (lp : Nat) => match ((variants.head?).getD {}).recs.find? fun r => r.lp == lp with | some r => r.sections | none => 0
  { b with
    tables := tables, variants := variants
    params := ((List.range (loops.length / 96)).filter fun l => field loops (96 * l + 21) 1 != 0).map fun l => loopOf (loops.drop (96 * l)) l (n l)
    slots := (List.range (coef.length / 32)).map fun i => (i / 256, i % 256, slotOf (coef.drop (32 * i))) }

/-- The records of a dictionary section: index, sub-index, length and value (Table 17-2). -/
def readValues : Nat → List Byte → List (Nat × List Byte)
  | 0, _ => []
  | n + 1, d => if d.length < 4 then [] else (objKey (field d 0 2) (field d 2 1), (d.drop 4).take (field d 3 1)) :: readValues n (d.drop (4 + field d 3 1))

/-- What an image gives: its dictionary, loop, coefficient and schedule sections read from its bytes, and the sections whose layout the spec does not
give as its content has them (log entry 8). -/
def readImage (d : List Byte) (c : Image) : Image :=
  let dict := sectionBytes d 1
  { c with values := (readValues dict.length dict).foldl (fun l x => storePut x.1 x.2 l) c.values, bank := readBank d c.bank }

/-! The key partition and the markers (R451, R479, R484). -/

/-- The copy of the key partition that is read: a good one. DESIGN CHOICE (log entry 176): with neither good no key verifies and every image is below the minimum. -/
def Img.keyPart (m : Img) : KeyPart := (m.keyParts.find? (·.good)).getD { fwMin := 2 ^ 32, imgMin := 2 ^ 32 }
def Img.keys (m : Img) : List (List Byte) := m.keyPart.keys
/-- The minimum security version of firmware, and that of configuration images (R479). -/
def Img.fwMin (m : Img) : Nat := m.keyPart.fwMin
def Img.imgMin (m : Img) : Nat := m.keyPart.imgMin

/-- The key partition written, both copies. -/
def Img.setKeyPart (m : Img) (f : KeyPart → KeyPart) : Img :=
  { m with keyParts := List.replicate 2 { f ((m.keyParts.find? (·.good)).getD (nth m.keyParts 0 {})) with good := true } }

/-- The minimum of a kind raised to a security version (R479). -/
def Img.raiseMin (m : Img) (kind security : Nat) : Img :=
  m.setKeyPart fun k => if kind = 1 then { k with fwMin := max k.fwMin security } else { k with imgMin := max k.imgMin security }

/-- The public key that a kind and a number name, of which those in ROM have no bytes here (R476). -/
def Img.keyOf (m : Img) (kind i : Nat) : List Byte := if kind = 1 then [] else nth m.keys i []

/-- Check 4 of R477: the signature over the digest verifies under the key of `key_index` (R476). -/
def Img.signatureOk (m : Img) (kind : Nat) (d : List Byte) : Bool :=
  let i := (headerOf d).keyIndex
  Config.ed25519 (if kind = 1 then Config.romKey i else m.keyOf 2 i) (imageDigest d) (imageSignature d)

end Sys2Proof.Machine
end

