-- ==== Sys2Proof/Machine/Start.lean ====
section
/-! DEFINITION. The counter block, the last-breath sequence, and a start through BOOT (R61 to R70, R42, R51 steps 1 and 2, R480 to R482). -/
namespace Sys2Proof.Machine

/-! The counter block (R63 step 3, R65). -/

/-- The bytes of a copy that its CRC-32 covers (R65; DESIGN CHOICE, log entry 108: their order and widths). -/
def CounterCopy.bytes (c : CounterCopy) : List Byte :=
  leBytes 8 c.seq ++ leBytes 8 c.opTime ++ leBytes 4 c.cycles ++ (c.drops.map (leBytes 4)).flatten ++ (c.energy.map (intBytes 8)).flatten
    ++ (c.railEvents.map (leBytes 4)).flatten

/-- A copy with its CRC-32 computed. -/
def CounterCopy.closed (c : CounterCopy) : CounterCopy := { c with crc := crc32 c.bytes }

/-- A copy that has been committed and whose CRC-32 is good (R65). -/
def CounterCopy.valid (c : CounterCopy) : Bool := c.seq != 0 && crc32 c.bytes == c.crc

/-- The newer valid copy. -/
def State.newerCopy (s : State) : Option CounterCopy :=
  let a := s.supply.copyA
  let b := s.supply.copyB
  if a.valid && b.valid then some (if b.seq ≤ a.seq then a else b)
  else if a.valid then some a else if b.valid then some b else none

/-- The energy accumulators in mWs, forward then reverse for each feed. -/
def State.energies (s : State) : List Int := (s.feeds.map fun f => [(f.fwd * 1000).floor, (f.rev * 1000).floor]).flatten

/-- The event counters of every rail. -/
def State.railEvents (s : State) : List Nat := (s.rails.map fun r => [r.rises, r.riseFails, r.runFaults, r.descFaults, r.ovs, r.margins]).flatten

/-- The block as it stands. -/
def State.counterBlock (s : State) : CounterCopy :=
  CounterCopy.closed { seq := (match s.newerCopy with | some c => c.seq + 1 | none => 1), opTime := s.opMs, cycles := s.supply.cycles, drops := s.log.drops
                       energy := s.energies, railEvents := s.railEvents }

/-- The copy that a commit overwrites is A: an invalid one, else the older (R65). -/
def State.olderIsA (s : State) : Bool :=
  if !s.supply.copyA.valid then true else if !s.supply.copyB.valid then false else decide (s.supply.copyA.seq < s.supply.copyB.seq)

/-- The block committed; `last` marks a last-breath commit. -/
def State.writeCounters (s : State) (last : Bool) : State :=
  let c := s.counterBlock
  { s with supply := { s.supply with copyA := if s.olderIsA then c else s.supply.copyA, copyB := if s.olderIsA then s.supply.copyB else c, countersDone := last } }

/-- The same where AO's writes are verified; else the copy is not committed (R450). -/
def State.commitCounters (s : State) (last : Bool) : State := s.commitCopy .ao fun t => t.writeCounters last

/-- The block restored after a POR: the newer copy, or zeros; the operating time is valid after a last-breath commit (R65, R456). -/
def State.restoreCounters (s : State) : State :=
  let c := s.newerCopy.getD {}
  let s := { s with
    supply := { s.supply with opTime := c.opTime, opTick := s.now, cycles := c.cycles, opValid := s.newerCopy.isSome && s.supply.countersDone }
    log := { s.log with drops := c.drops } }
  let s := forUnits [0, 1, 2, 3] (fun t f => t.setFeed f { t.feed f with fwd := ((nth c.energy (2 * f) (0 : Int) : Int) : Rat) / 1000, rev := ((nth c.energy (2 * f + 1) (0 : Int) : Int) : Rat) / 1000 }) s
  forUnits (List.range 32) (fun t r =>
    let e := fun (i : Nat) => nth c.railEvents (6 * r + i) 0
    t.setRail r { t.rail r with rises := e 0, riseFails := e 1, runFaults := e 2, descFaults := e 3, ovs := e 4, margins := e 5 }) s

/-! The last-breath sequence (Table 02-10). -/

/-- Steps 1 and 2: outputs safe, ownership released, a freeze ended, windows not yet frozen abandoned. -/
def State.breathStops (s : State) (reason : Nat) (railsOff : Bool) : State :=
  let s := (s.outputsSafe .safe).releaseOwn reason
  let s := if railsOff then s.railsOff else s
  let s := if s.freezeHeld then s.endFreeze .expired else s
  forUnits (List.range 10) (fun t w => if (nth t.log.windows w {}).busy then t.abandonWindow w else t) s

/-- The records that wait are committed before NVM goes off on the way into LAYUP, whose last breath commits none (R64, R69; DEDUCED, log entry 156). -/
def State.flushLog (s : State) : State :=
  { s with log := s.log.waiting.foldl (fun (g : Log) (r : Record) => g.commit r) { s.log with waiting := [] } }

/-- A record begun and not ended: its head word is written, and a record that it was to overwrite is lost (R457, R459). -/
def Log.tear (l : Log) (r : Record) : Log :=
  if l.held.length < logSlots then l.writeHead l.freeSlot
  else
    let c := lowestClass l.held
    if c ≤ r.cls then ({ l with held := dropFirst c l.held }).writeHead (match oldestOf c l.held with | some o => o.slot | none => 0) else l

/-- Step 4: every pending record, then the power-fail record; with `cut`, the record of that place is the one being written as VAO falls below the write limit. -/
def State.breathRecords (s : State) (src : Nat) (vao : Rat) (cut : Option Nat) : State :=
  let l := s.log.waiting ++ [s.mkRecord 0x0011 1 0 0 (leBytes 1 src ++ realBytes vao)]
  let g := (l.take (cut.getD l.length)).foldl (fun (g : Log) (r : Record) => g.commit { r with lastBreath := true }) { s.log with waiting := [] }
  { s with log := match cut with | some i => (match l[i]? with | some r => g.tear r | none => g) | none => g }

/-- A free time up to a bound, in µs. -/
def timeBelow (v : Rat) (bound : Nat) : Nat := v.floor.toNat % (bound + 1)

/-- Every region but AO held (step 6, R67). -/
def State.holdRegions (s : State) : State := { s with mode := { s.mode with regions := ({} : ModeState).regions, online := false } }

/-- The board's hold-up ended below its specification (Table 02-11): the record being written as VAO falls below the MRAM write limit may be lost, and the summary may be
absent, with bit 2 of 0x2103:03 at 0. Free values say so, and which record: at most one of those pending is lost, so that it is the last of them or the power-fail record
(log entry 114). -/
def State.breathShort (s : State) (short : Bool) : Option Nat × Bool × State :=
  if short then
    let a := s.drawBool
    let c := a.2.drawBool
    let b := c.2.drawBool
    (if a.1 then some (s.log.waiting.length - b2n c.1) else none, a.1 || b.1, b.2)
  else (none, false, s)

/-- The last-breath sequence run to its end, and what it leaves for the next start. In LAYUP it is step 3 alone; in MOORED steps 3 to 5 (R64).
`rst` is the sequence of `RST_N`, whose record carries no source (R67); `short` is a hold-up below specification (R69). DESIGN CHOICE (log entry 156): in
LAYUP, where no summary is committed, the time stored is that of the sequence. -/
def State.lastBreath (s : State) (src : Nat) (rst railsOff short : Bool) : State :=
  let early := decide (s.mode.step < 4) && !rst && s.img.trial == 1 && s.img.fwRun == some s.img.trialSlot
  let s : State := { s.supersedeRequest with img := { s.img with trialStarts := if early then s.img.trialStarts - 1 else s.img.trialStarts } }
  let layup : Bool := s.inMode .layup
  let s := if layup || s.inMode .moored then s else s.breathStops (if rst then 4 else 3) railsOff
  let d := s.draw
  let e := d.2.draw
  let v := e.2.draw
  let time := timeBelow d.1 (if layup then 500 else 3200)
  let s := v.2.commitCounters true
  let cut := s.breathShort short
  let s := cut.2.2
  let lost := cut.1.isSome && !layup
  let s := if layup then s else s.breathRecords (if rst then 0 else src) v.1 cut.1
  let s := if layup || cut.2.1 then s else
    { s with log := { s.log with summaries := (s.summary (s.log.next - 1) (if rst then 0 else src) v.1 (timeBelow e.1 time) :: s.log.summaries).take 4 } }
  let s := { s with supply := { s.supply with nextResult := BitVec.ofNat 8 (1 + (if layup then 0 else 2 * b2n (!lost) + 4 * b2n (!cut.2.1)) + 32 * b2n rst), nextTime := time
                                              phase := if rst then .afterRst else .afterWarning } }
  s.holdRegions.driveTrip

/-! What a start keeps. -/

/-- An estimator as a start finds it (R260): the newer copy, or the image's values; U_c rises after a cycle that ended without a commit. -/
def State.startEst (s : State) (k : Nat) : Estimator :=
  let imp := 0x5005 + 256 * k
  let image := fun (sub : Nat) => match storeGet (objKey imp sub) s.imageValues with | some b => realOf b | none => 0
  match (s.str k).newest with
  | some c =>
    let e := c.est
    { e with
      uc := minR 50 (e.uc + (if c.atEnd then 0 else divR (100 * absR e.lastI * 10) e.q))
      gap := none, gapTicks := 0, gapQ := 0, gapRef := 0, msAbs := 0, unanchoredAt := s.now
      anchorAt := s.now, iAt := s.now, vAt := s.now, tempAt := s.now, stepAt := s.now, msFrom := s.now, iSum := 0, iCnt := 0, vSum := 0, vCnt := 0
      msI := 0, msICnt := 0, msV := 0, msVCnt := 0, msOk := true, means := [], restSince := none, vHist := [], iHist := [], disSince := none, chgSince := none
      lowRate := false, quietMs := 0 }
  | none =>
    { q := s.objR (0x5001 + 256 * k) 7, r0 := image 1, r1 := image 2, r2 := image 3, anchorAt := s.now, iAt := s.now, vAt := s.now, tempAt := s.now
      stepAt := s.now, msFrom := s.now }

/-- A string's counters as its newer copy holds them, and its copies, all else as at reset (R260). -/
def Str.kept (v : Str) : Str :=
  let c := v.newest.getD {}
  { eOut := c.eOut, eIn := c.eIn, qOut := c.qOut, rejected := c.rejected, rejectRun := c.rejectRun, steps := c.steps, probeCount := c.probeCount
    slackDone := c.slackDone, slackAborts := c.slackAborts, slackRefusals := c.slackRefusals, savedA := v.savedA, savedB := v.savedB
    openedAt := v.openedAt, lastAuto := v.lastAuto, auxClosed := v.auxClosed }

/-- A string at a start: its estimator, and the est source where neither copy is valid (R260, R262). -/
def State.startString (s : State) (k : Nat) : State :=
  let bad := s.strUsed k && (s.str k).newest.isNone
  let s := s.setStr k { (s.str k).begun with est := s.startEst k, stepAt := List.replicate 3 s.now }
  if bad then s.raise (s.strKey k 0) 0 else s.reraiseString k

def Charger.kept (c : Charger) : Charger := { completed := c.completed, eqDone := c.eqDone, eqAborts := c.eqAborts, lastEq := c.lastEq, eqDue := c.eqDue, eqCharge := c.eqCharge }
def Rail.kept (r : Rail) : Rail := { rises := r.rises, riseFails := r.riseFails, runFaults := r.runFaults, descFaults := r.descFaults, ovs := r.ovs, margins := r.margins }
/-- DESIGN CHOICE (log entry 159): `VidHoldoff` counts from changes of this start alone (R311). -/
def Thermal.kept (t : Thermal) : Thermal := { vid := t.vid, step := t.step, vidSteps := t.vidSteps, savedRp := t.savedRp, savedBank := t.savedBank, savedValid := t.savedValid
                                              vidA := t.vidA, vidB := t.vidB }
def Dead.kept (d : Dead) : Dead :=
  { bsStarts := d.bsStarts, bsFailures := d.bsFailures, bsTime := d.bsTime, openUnderLoad := d.openUnderLoad, layupEntries := d.layupEntries
    lastWake := d.lastWake, wakePending := d.wakePending }
/-- Of the SRAM's buckets those of AO, which stays ON, go on where there was no POR (R447). -/
def Mem.kept (m : Mem) (por : Bool) : Mem :=
  { sram := if por then List.replicate 270 {} else m.sram.mapIdx fun i b => if i < 27 then b else {}
    mram := m.mram, badWords := m.badWords, mramWrites := m.mramWrites, mramRetries := m.mramRetries, mramFails := m.mramFails
    mramCorrected := m.mramCorrected, mramUncorrected := m.mramUncorrected }
/-- The MRAM's part of the log; the pending buffer survives a start without POR. A window without a valid header frees its space, as promotions abandoned before do
(R470). -/
def State.keptLog (s : State) (por : Bool) : Log :=
  let l := s.log
  { held := l.held, heads := l.heads, nextHead := l.nextHead, next := l.next, nextSlot := l.nextSlot, waiting := if por then [] else l.waiting
    drops := l.drops, overwrites := l.overwrites, summaries := l.summaries, indexReady := true
    windows := l.windows.map fun w => if s.headerValid w then w else {} }
def Net.kept (n : Net) : Net :=
  { storedA := n.storedA, storedB := n.storedB, storedDrop := n.storedDrop, legacyHeld := n.legacyHeld
    challenges := n.challenges, can := n.can.map fun c => { storedNode := c.storedNode, storedRate := c.storedRate } }
def Img.kept (m : Img) (por : Bool) : Img :=
  { fw := m.fw, cfg := m.cfg, fwNext := m.fwNext, imgNext := m.imgNext, keyParts := m.keyParts, marks := m.marks, trial := m.trial, trialStarts := m.trialStarts
    trialSlot := m.trialSlot, pairState := if por then 0 else m.pairState, pairKind := if por then 0 else m.pairKind, pairDigest := if por then [] else m.pairDigest }
/-- UDIDs of the berths and the late-wake counters are kept since manufacture. -/
def Berth.kept (b : Berth) : Berth := { udidHigh := b.udidHigh, udidLow := b.udidLow, pinLow := b.pinLow }
def Port.kept (p : Port) : Port := { lateWakes := p.lateWakes, alertLow := p.alertLow }

/-- Every state that a start does not keep is as at reset. Without a POR, AO keeps its counters, its latch, its clock and its sources. -/
def State.fresh (s : State) (por : Bool) : State :=
  { pending := s.pending, now := s.now, part := s.part, serial := s.serial, draws := s.draws, kept := s.kept
    supply := { s.supply with phase := .running, warn := false, rstLow := false }
    mode := if por then {} else
      { mode := s.mode.mode, prev := s.mode.prev, lockoutLatch := s.mode.lockoutLatch, lockoutCause := s.mode.lockoutCause, holdoffFrom := s.mode.holdoffFrom
        estopLow := s.mode.estopLow }
    clock := if por then {} else s.clock
    feeds := s.feeds.map fun f => { fwd := f.fwd, rev := f.rev }
    strs := s.strs.map Str.kept, chargers := s.chargers.map Charger.kept, dead := if por then { s.dead.kept with wakePending := none } else s.dead.kept
    rails := s.rails.map Rail.kept, thermal := s.thermal.kept
    faults := { active := if por then [] else (s.faults.active ++ s.faults.latched).filter fun a => a.key.member == s.member && (a.key.region == 1 || a.key.outlives) }
    pair := { netHigh := s.pair.netHigh, takeovers := s.pair.takeovers, dualClaims := s.pair.dualClaims, twinAt := s.now }
    net := s.net.kept, berths := s.berths.map Berth.kept, ports := s.ports.map Port.kept, mem := s.mem.kept por, log := s.keptLog por, img := s.img.kept por }

/-! Slots at a start (R480, R481). -/

/-- The payload of an image and update record (R495). -/
def State.imageNote (s : State) (event kind slot reason : Nat) : State :=
  let sl := nth (if kind = 1 then s.img.fw else s.img.cfg) slot {}
  s.note 0x0060 (leBytes 1 event ++ leBytes 1 kind ++ leBytes 1 slot ++ leBytes 4 sl.header.build ++ leBytes 4 sl.header.security ++ leBytes 1 reason)

/-- A slot replaced. -/
def Img.setSlot (m : Img) (kind slot : Nat) (v : ImgSlot) : Img :=
  if kind = 1 then { m with fw := put m.fw slot v } else { m with cfg := put m.cfg slot v }
def Img.slot (m : Img) (kind slot : Nat) : ImgSlot := nth (if kind = 1 then m.fw else m.cfg) slot {}

/-- The image's interface version lies within the firmware's (check 6). -/
def ifaceFits (fw img : ImgHeader) : Bool := decide (fw.iface ≤ img.iface) && decide (img.iface ≤ fw.ifaceMax)

/-- The first check of R477 that a slot fails, 0 for none, run again on the bytes that it holds (R480). `fw` is the firmware that will run a configuration image. A
slot whose marker says invalid, or one of whose words cannot be read, fails check 1 (log entry 43). A signature that has verified under the key in force verifies again. -/
def State.slotReason (s : State) (kind slot : Nat) (fw : ImgHeader) : Nat :=
  let sl := s.img.slot kind slot
  if !sl.valid || !headOk sl.bytes kind then 1
  else if !layoutOk sl.bytes kind then 2
  else if !bit sl.header.variants s.part.idx then 3
  else if !(sl.key == s.img.keyOf kind sl.header.keyIndex || s.img.signatureOk kind sl.bytes) then 4
  else if sl.header.security < (if kind = 1 then s.img.fwMin else s.img.imgMin) then 5
  else if kind == 2 && !ifaceFits fw sl.header then 6
  else if kind == 2 && !(loopSectionOk sl.bytes && s.imageOk sl.content) then 7
  else 0

/-- A slot checked at a start: one that fails is marked invalid, with its record. -/
def State.checkSlot (s : State) (kind slot : Nat) (fw : ImgHeader) : State × Bool :=
  let r := s.slotReason kind slot fw
  if r = 0 then (s, true)
  else (({ s with img := (s.img.setSlot kind slot { s.img.slot kind slot with valid := false }).mark }).imageNote 4 kind slot r, false)

/-- The slot a kind runs from: the selected one, else the other, which the selector then names (R480). -/
def State.pickSlot (s : State) (kind : Nat) (fw : ImgHeader) : State × Option Nat :=
  let n := if kind = 1 then s.img.fwNext else s.img.imgNext
  let a := s.checkSlot kind n fw
  if a.2 then (a.1, some n)
  else
    let b := a.1.checkSlot kind (1 - n) fw
    if b.2 then
      let s := { b.1 with img := (if kind = 1 then { b.1.img with fwNext := 1 - n } else { b.1.img with imgNext := 1 - n } : Img).mark }
      (s.imageNote 5 kind (1 - n) 0, some (1 - n))
    else (b.1, none)

/-- The third start of a trial that did not reach step 4 has ended it: the next start goes to the other slot, if that is valid (R481). -/
def State.trialEnd (s : State) : State :=
  if s.img.trial = 1 ∧ 3 ≤ s.img.trialStarts then
    let other := 1 - s.img.trialSlot
    let s := s.imageNote 6 1 s.img.trialSlot 0
    { s with img := ({ s.img with trial := 0, fwNext := if (s.img.slot 1 other).valid then other else s.img.fwNext } : Img).mark }
  else s

/-- A start into the slot on trial counts, and so does one that falls back into it (R481). -/
def State.trialStart (s : State) (slot : Nat) : State :=
  if s.img.trial = 1 ∧ slot = s.img.trialSlot then { s with img := { s.img with trialStarts := s.img.trialStarts + 1 } } else s

/-! The dictionary's values at a start (R327, R328, R378). -/

/-- A value of a stored set of this tag is applied: every one under its own dictionary, else one that still fits. -/
def State.storedFits (s : State) (tag : Option Nat) (p : Nat × List Byte) : Bool :=
  let same := match s.image with | some sl => tag == some (leNat sl.header.dictDigest) | none => false
  same || s.valueOk p

/-- Stored values applied over the image's, each value dropped noted; a set marked for deletion goes first (R376). -/
def State.applyStored (s : State) : State :=
  let s := if s.net.storedDrop then { s with net := { s.net with storedA := {}, storedB := {}, storedDrop := false } } else s
  let c := s.net.stored
  c.values.foldl (fun t p =>
    if t.storedFits c.tag p then { t with cfg := storePut p.1 p.2 t.cfg } else t.note 0x0050 (leBytes 2 (p.1 / 256) ++ leBytes 1 (p.1 % 256))) s

/-- Stored values of objects with a home of their own: a stored image key stands in the key partition; `Traceable` of 1 counts as written now, while the
time is unset (R378, R400); a session starts with the stored `SummarySelect`, and with the rest of its readout as R463 says. -/
def State.loadHomes (s : State) : State :=
  let key := fun (i : Nat) (old : List Byte) => match storeGet (objKey 0x2404 (1 + i)) s.cfg with | some k => if k.length = 32 then k else old | none => old
  let on : Bool := s.objN 0x2310 3 == 1
  { s with img := if s.img.keys.mapIdx key = s.img.keys then s.img else s.img.setKeyPart fun k => { k with keys := k.keys.mapIdx key }
           net := { s.net with time := { s.net.time with traceable := b2n on, traceAt := s.now }
                               sdo := s.net.sdo.map fun x => { x with summary := s.objN 0x4720 2 } } }

/-- The severity entries: the image's, then the stored ones, none below its floor in force. -/
def State.startSev (s : State) : State :=
  let img := match s.image with | some sl => sl.content.severity | none => []
  let l := s.net.stored.sev.foldl (fun (l : List SevEntry) (e : SevEntry) => sevPut e.key e.cls l) img
  { s with faults := { s.faults with sev := l.map fun (e : SevEntry) => { e with cls := max e.cls (s.floorOf e.key) } } }

/-- Values in force that the units take from the dictionary when they are reloaded (R42). -/
def State.loadUnits (s : State) : State :=
  let s := forUnits (List.range 48) (fun t m => t.latchScale m) s
  let s := forUnits (List.range 24) (fun t p => t.setPhase p { t.phase p with enable := t.objN (0x3800 + p) 4 != 0 }) s
  let s := forUnits (List.range 16) (fun t n => t.restPg n) s
  let s := forUnits (List.range 8) (fun t n => t.setStage n { t.stage n with bandNext := 0 }) s
  let s := forUnits (List.range 8) (fun t k => t.startString k) s
  let s := forUnits (List.range 64) (fun t b => t.setBerth b { t.berth b with present := false }) s
  let n := s.objN 0x4100 1
  { s with adc := { s.adc with seqLength := n, pendingLen := some n }
           spm := { s.spm with shareTrim := (List.range 24).map fun p => s.objR 0x4504 (1 + p) }
           img := { s.img with target := s.objN 0x2401 1 }
           faults := { s.faults with regions := (List.range 10).map fun i => { nth s.faults.regions i {} with irqEnable := s.objN (0x2201 + i) 3 } } }

/-! The health score (R346, Table 12-4). -/

/-- The distinct clusters that the list of sheds names; a unit at region level and a region's own memories have none (R28). -/
def State.listedSheds (s : State) : List (Nat × Nat) :=
  s.faults.sheds.foldl (fun l k => if k.cluster < 0xFE ∧ (k.region, k.cluster) ∉ l then (k.region, k.cluster) :: l else l) []

/-- Clusters in SHED. -/
def State.shedClusters (s : State) : Nat :=
  (s.stages.filter fun g => g.state == .shed).length + (s.feeds.filter (·.shed)).length + (s.strs.filter (·.shed)).length
    + (s.groups.filter (·.shed)).length + b2n (s.insts.any (·.shed)) + s.listedSheds.length

/-- 255 less the deductions, and never below 0. -/
def State.healthScore (s : State) : Nat :=
  255 - min 40 (2 * (s.faults.active.filter fun a => a.cls == 2).length) - min 64 (8 * s.shedClusters) - 16 * (s.pair.lanes.filter (!·)).length
    - 64 * b2n (s.faults.active.any fun a => a.key.member == s.member && a.key.region == 5 && a.key.unit == 0xFF && a.key.kind == 4) - 32 * b2n (decide (2 ≤ s.mem.trainResult)) - 4 * b2n s.variant.derated

/-- PAIR is released at the end of step 2 and the score frozen for the election (R347, Table 02-4). -/
def State.startPair (s : State) : State :=
  let h := s.healthScore
  { s with mode := { s.mode with regions := put s.mode.regions Region.pair.idx .on }, pair := { s.pair with health := h, frozen := some h, twinAt := s.now } }

/-! The start (R51 steps 1 and 2). -/

/-- The slot that is free next, as the index of the slots held shows it. -/
def Log.reindex (l : Log) : Log := { l with nextSlot := l.held.foldl (fun m r => max m (r.slot + 1)) 0 }

/-- The last slot written is the one that the newer valid head word names, and the next number is one more than that head's (R457). The record in it is discarded when it
was cut off or a word of it cannot be read (R70, R451). -/
def State.tornCheck (s : State) : State :=
  match s.log.head with
  | none => s
  | some h =>
    let s := { s with log := { s.log.reindex with next := h.number + 1 } }
    if s.log.held.any fun r => r.slot == h.slot && r.number == h.number && !s.recordSpoilt r then s
    else
      ({ s with log := ({ s.log with held := s.log.held.filter fun r => r.slot != h.slot } : Log).reindex
                supply := { s.supply with result := s.supply.result ||| 0x10, torn := s.supply.torn + 1 } }).note 0x0012 (leBytes 4 h.slot)

/-- The source of an invalid operating time (R456), and of a counter block with no valid copy. -/
def State.otcKey (s : State) : Key := s.key 1 0xFF 1 0
def State.pccKey (s : State) : Key := s.key 1 0xFF 2 0

/-- What the start reports of the end before it (Table 02-3). -/
def State.startResult (s : State) (cause : Nat) : BitVec 8 :=
  if cause ≤ 3 then s.supply.nextResult ||| (if cause = 3 then 8 else 0) else s.supply.result &&& 0xEF

/-- Step 1: AO's counters, straps and LEGACY. -/
def State.startAo (s : State) (cause : Nat) : State :=
  let s := { s with net := { s.net with legacy := s.supply.legacyStrap || s.net.legacyHeld == some 1 }
                    log := { s.log with timeInvalid := !s.supply.opValid } }
  let s := s.enterMode .boot cause
  let s := { s with supply := { s.supply with result := s.startResult cause, time := if cause ≤ 3 then s.supply.nextTime else s.supply.time
                                              nextResult := if cause ≤ 3 then 0x20 else s.supply.nextResult, nextTime := 0 } }
  let s := s.follow s.otcKey (!s.supply.opValid) 0
  let s := if s.newerCopy.isNone then s.raise s.pccKey 0 else s
  s.milestone 1

/-- PILOT is entered with a cause: the ROM runs (R493, Table 02-4). -/
def State.enterPilot (s : State) (cause : Nat) (train : Nat) : State :=
  let s := { s with img := { s.img with fwRun := none, imgRun := none, digest := [], pilotCause := cause }, log := { s.log with timeInvalid := true }
                    supply := { s.supply with countersDone := false } }
  let s := (s.enterMode .pilot cause).raise s.otcKey 0
  s.startSram.startMem train

/-- Step 2 after the slots: the image in force, the values, the memory, the estimates, the start record. -/
def State.startImage (s : State) (cause : Nat) (train : Nat) : State :=
  let sl := s.image.getD {}
  let s := { s with img := { (if s.img.imgMin < sl.header.security then s.img.raiseMin 2 sl.header.security else s.img) with digest := sl.digest } }
  let s := s.applyStored.loadHomes.startSev.loadUnits.loadAgeing.loadVid
  let s := (s.startSram.startMem train).reloadEngines
  let s := (s.note 0x0013 (leBytes 2 cause ++ leBytes 1 s.supply.result.toNat)).milestone 2
  { s.startPair with supply := { s.startPair.supply with countersDone := false } }

/-- The return to LAYUP of a start that finds the flag (R285): every aux contact is checked to read open, and no contactor sequence runs. DEDUCED (log
entry 151): one that reads closed raises the string's ctr source, as R262 has it for a feedback that differs from the command. -/
def State.backToLayup (s : State) : State :=
  let s := forUnits ((List.range 8).filter fun k => s.strUsed k && (s.str k).auxClosed) (fun t k => t.raise (t.strKey k 4) 0) s
  (s.enterMode .layup 0x0064).flushLog

/-- A start: AO, the power-cycle count after a POR, the slots, then BOOT goes on, or PILOT or LAYUP is entered (Table 02-5). DESIGN CHOICE (log
entry 109): `WAKE_N` low at AO ready is judged at a start from POR alone. -/
def State.startFrom (s : State) (cause : Nat) (wakeLow : Bool) (train : Nat) : State :=
  let por := cause == 1
  let s := ({ s with img := s.img.loadMarks } : State).startAo cause
  if por && wakeLow then s.enterPilot 0x0062 train
  else
    let s := if por then ({ s with supply := { s.supply with cycles := s.supply.cycles + 1 } }).commitCounters false else s
    let s := s.tornCheck.trialEnd
    let f := s.pickSlot 1 {}
    match f.2 with
    | none => f.1.enterPilot 0x0060 train
    | some k =>
      let s := ({ f.1 with img := { f.1.img with fwRun := some k } } : State).trialStart k
      let c := s.pickSlot 2 (s.img.slot 1 k).header
      match c.2 with
      | none => c.1.enterPilot 0x0061 train
      | some j =>
        let s := ({ c.1 with img := { c.1.img with imgRun := some j } }).startImage cause train
        if s.supply.layupFlag && !s.mode.lockoutLatch && s.dead.wakePending.isNone then s.backToLayup else s

/-- A freeze that is held when the controller starts again without a last breath ends with its owner's session (R462). -/
def State.endHeldFreeze (s : State) : State := if s.freezeHeld then s.endFreeze .expired else s

/-- A start without a POR (R50). -/
def State.restart (s : State) (cause : Nat) (train : Nat) : State := (s.endHeldFreeze.fresh false).startFrom cause false train

/-- The controller restarts through BOOT by itself with cause 0x0002, as after the sequence of R67: AO holds the regions until RST_N_RELEASED. -/
def State.selfRestart (s : State) : State := s.lastBreath 0 true true false

end Sys2Proof.Machine
end

