-- ==== Sys2Proof/Machine/TwoWire.lean ====
section
/-! DEFINITION. Two-wire ports, berths, discovery, poll scripts and commands to partners (chapter 14). -/
namespace Sys2Proof.Machine

/-! Hosts (R404, R407). -/

def State.portN (s : State) (p sub : Nat) : Nat := s.objN (0x4800 + p) sub
def State.berthN (s : State) (b sub : Nat) : Nat := s.objN (0x4900 + b) sub

/-- The holder is the shelf host, from step 4 of a start on (R51, R416). -/
def State.shelfHost (s : State) : Bool :=
  s.pair.owns && (s.inModes [.rise, .active, .holdup, .blackstart, .descent] || (s.inMode .boot && s.mode.online))

/-- A rail host acts. -/
def State.railHosts (s : State) : Bool :=
  s.inModes [.rise, .track, .active, .holdup, .blackstart, .service, .descent] || (s.inMode .boot && s.mode.online)

/-- The port is present, enabled and not shed (R28), and its region runs. -/
def State.portUp (s : State) (p : Nat) : Bool := s.part.has .twoWire p && s.portN p 2 == 1 && s.regionOn .net && s.supply.phase == .running && !s.isShed 7 p 0x40

/-- This controller is host for a berth. -/
def State.hosts (s : State) (b : Nat) : Bool := s.portUp (b / 16) && (s.shelfHost || (s.railHosts && s.railBerth b))

/-- The port acts as host for some berth. -/
def State.portHosts (s : State) (p : Nat) : Bool := s.portUp p && (s.shelfHost || (s.railHosts && (List.range 16).any fun i => s.railBerth (16 * p + i)))

/-- The berth is used and enabled (R415, R431). -/
def State.berthUsed (s : State) (b : Nat) : Bool :=
  s.part.has .berth b && decide (1 ≤ s.berthN b 2) && decide (s.berthN b 2 ≤ 3) && s.berthN b 5 == 1

def State.portKey (s : State) (p kind : Nat) : Key := s.key 7 p 0x40 kind
def State.berthKey (s : State) (b kind : Nat) : Key := s.key 7 (b / 16) (b % 64) kind
def State.scriptKey (s : State) : Key := s.key 7 0xFF 5 0

/-- Bus time added to a port's load; the windows of 1 s follow one another, and the last whole one is reported (0x480p:0C). -/
def State.busyFor (s : State) (p : Nat) (t : Rat) : State :=
  let v := s.port p
  let n := s.since v.busyFrom / ticksPerS
  if n = 0 then s.setPort p { v with busy := v.busy + t }
  else s.setPort p { v with load := if n = 1 then minR 1 v.busy else 0, busy := t, busyFrom := v.busyFrom + n * ticksPerS }

/-- Bus time of a transaction of the port (R406). -/
def State.timeOf (s : State) (p n : Nat) (read : Bool) : Rat := busTime (s.portN p 3) n read

/-- Transactions of the port have completed: losses end, the port may take other work, and the arbitration-lost source clears (R410, R430). -/
def State.completed (s : State) (p : Nat) (t : Rat) : State :=
  let s := s.busyFor p t
  (s.setPort p { s.port p with losses := 0, work := .none }).clearing (s.portKey p 2)

/-- One transaction of the port has completed. -/
def State.transacted (s : State) (p n : Nat) (read : Bool) : State := s.completed p (s.timeOf p n read)

/-! Departure and arrival (R418, R419). -/

/-- A berth departs; `cause` is the place of the reason in the list of R419. A host command that is dropped unsent has failed (DESIGN CHOICE, log
entry 154). -/
def State.depart (s : State) (b cause : Nat) : State :=
  let v := s.berth b
  let p := b / 16
  let s := s.setBerth b { v with present := false, arriving := false, awaited := false, stale := true, due := false, redo := none, departures := v.departures + 1, failRun := 0
                                 hostStatus := if v.hostStatus = 1 then 3 else v.hostStatus }
  let q := s.port p
  let s := s.setPort p { q with cmds := q.cmds.filter fun c => c.berth != b
                                run := q.run.filter fun r => r.berth != b
                                work := if (q.run.any fun r => r.berth == b) ∧ q.work = .run then .none else q.work }
  let s := { s with spm := { s.spm with berthGoodSince := put s.spm.berthGoodSince b none, qualBerth := put s.spm.qualBerth b false } }
  let s := s.handbackWatch b
  (s.note 0x0070 (leBytes 1 b ++ leBytes 1 1 ++ leBytes 1 cause)).raise (s.berthKey b 1) 0

/-- PEC in use after CAPABILITY is read; none where the arrival fails (R418). -/
def State.pecOf (s : State) (b cap : Nat) : Option Bool :=
  match s.berthN b 8 with
  | 0 => some false
  | 1 => if bit cap 7 then some true else none
  | _ => some (bit cap 7)

/-- Steps 1 and 2 of an arrival; the arrival run follows when the port takes it (R418). What step 1 has read stays where step 2 fails, and the partner
found is awaited until its arrival completes (R54). -/
def State.beginArrival (s : State) (b : Nat) (a : Arrival) : State :=
  let p := b / 16
  let s := s.setBerth b { s.berth b with awaited := true }
  let s := s.completed p (s.timeOf p 4 true + s.timeOf p 4 true)
  if !a.voutReads then s
  else
    let s := s.setBerth b { s.berth b with voutMode := a.voutMode }
    match s.pecOf b a.capability with
    | some pec =>
      if a.capReads then
        s.setBerth b { s.berth b with arriving := true, capability := a.capability, pec := pec, page := none
                                      found := if a.arp then some (a.udidHigh, a.udidLow) else none }
      else s
    | none => s

/-- An empty berth of a port that may take an ARP device. -/
def State.emptyBerth (s : State) (b : Nat) : Bool := s.berthUsed b && !(s.berth b).present && !(s.berth b).arriving

/-- The presence pin, if the berth has one, is low. -/
def State.pinAllows (s : State) (b : Nat) : Bool := s.berthN b 7 == 0xFF || (s.berth b).pinLow

/-- The UDID's vendor and device fit the berth's (R415). UDID byte 0 is the most significant of `UdidHigh` (PRESUMED, log entry 47). -/
def State.udidMatches (s : State) (b hi : Nat) : Bool := s.berthN b 9 == bits hi 16 32

/-- A device of fixed address type fits only the berth of that address; the type is capabilities bits 7 and 6 = 0 (PRESUMED, log entry 47). -/
def State.fixedFits (s : State) (b : Nat) (a : Arrival) : Bool := bits a.udidHigh 62 2 != 0 || s.berthN b 0x0A == a.addr

/-- The berth given to a UDID (R415). -/
def State.place (s : State) (p : Nat) (a : Arrival) : Option Nat :=
  let l := ((List.range 16).map (16 * p + ·)).filter fun b => s.emptyBerth b && s.fixedFits b a
  match l.find? fun b => decide (2 ≤ s.berthN b 2) && (s.berth b).udidHigh == a.udidHigh && (s.berth b).udidLow == a.udidLow
      && (a.udidHigh != 0 || a.udidLow != 0) with
  | some b => some b
  | none =>
    match l.find? fun b => s.berthN b 2 == 2 && s.udidMatches b a.udidHigh && s.pinAllows b with
    | some b => some b
    | none => l.find? fun b => s.berthN b 2 == 3 && s.pinAllows b

/-- The next free address of the spare range, if one is left (R415). -/
def State.spare (s : State) (p : Nat) : Option Nat :=
  let a := s.portN p 0x0A + (s.port p).strays
  if s.portN p 0x0A ≠ 0 ∧ a ≤ s.portN p 0x0B then some a else none

/-- A device that fits no berth has taken a spare address: a stray, logged and counted (R415). -/
def State.stray (s : State) (p a : Nat) : State :=
  (s.setPort p { s.port p with strays := min 255 (a + 1 - s.portN p 0x0A) }).note 0x0090 (leBytes 1 p ++ leBytes 1 a)

/-- The spare range is exhausted: discovery on the port ends (R415). -/
def State.spareOut (s : State) (p : Nat) : State := 
  let v := s.port p
  (s.setPort p { v with discovering := false, todo := [], discTime := if v.discovering then s.since v.discFrom else v.discTime }).raise s.scriptKey 2

/-- A present berth of the port that holds the UDID. -/
def State.holderOf (s : State) (p : Nat) (a : Arrival) : Option Nat :=
  ((List.range 16).map (16 * p + ·)).find? fun b => (s.berth b).present && decide (2 ≤ s.berthN b 2) && (s.berth b).udidHigh == a.udidHigh && (s.berth b).udidLow == a.udidLow

/-- A device answers Get UDID and is assigned an address: a berth that has lost its address departs first (R415, R416, R419). -/
def State.foundArp (s : State) (a : Arrival) : State :=
  let p := a.port
  let s := match s.holderOf p a with | some b => s.depart b 3 | none => s
  match s.place p a, s.spare p with
  | some b, _ => (s.completed p (s.timeOf p 22 true + s.timeOf p 21 false)).beginArrival b a
  | none, some x => (s.completed p (s.timeOf p 22 true + s.timeOf p 21 false)).stray p x
  | none, none => (s.completed p (s.timeOf p 22 true)).spareOut p

/-- The berths of mode 1 that a probe looks for: in a discovery every absent one, in a scan those that have no presence pin or whose pin is low
(R416, R417). -/
def State.probes (s : State) (p : Nat) (disc : Bool) : List Nat :=
  ((List.range 16).map (16 * p + ·)).filter fun b => s.emptyBerth b && s.berthN b 2 == 1 && s.hosts b && (disc || s.pinAllows b)

/-- A fixed partner acknowledges its probe (R416, R417). -/
def State.foundFixed (s : State) (disc : Bool) (a : Arrival) : State :=
  match (s.probes a.port disc).find? fun b => s.berthN b 0x0A == a.addr with
  | some b => s.beginArrival b a
  | none => s

/-- Berths of the port that arrive with this controller as host. -/
def State.arrivals (s : State) (p : Nat) : List Nat := ((List.range 16).map (16 * p + ·)).filter fun b => (s.berth b).arriving && s.hosts b

/-- Get UDID is won by the numerically lowest UDID (R415). -/
def lowestUdid : List (Bool × Arrival) → Option (Bool × Arrival)
  | [] => none
  | x :: xs =>
    match lowestUdid xs with
    | some y => if y.2.udidHigh * 2 ^ 64 + y.2.udidLow < x.2.udidHigh * 2 ^ 64 + x.2.udidLow then some y else some x
    | none => some x

/-- Discovery or a scan goes on (R416): the next device that answers Get UDID is placed and its arrival runs before the next is asked for; when none
answers any more, the fixed partners that acknowledge. The shelf host alone runs ARP, on ports with `ArpEnable`. -/
def State.goOn (s : State) (p : Nat) : Nat → State
  | 0 => s
  | n + 1 =>
    if !(s.arrivals p).isEmpty then s
    else
      let q := s.port p
      match lowestUdid (q.todo.filter fun x => x.2.arp) with
      | some x =>
        let s := s.setPort p { q with todo := q.todo.erase x }
        (if s.shelfHost && s.portN p 9 == 1 then s.foundArp x.2 else s).goOn p n
      | none => q.todo.foldl (fun t x => t.foundFixed x.1 x.2) (s.setPort p { q with todo := [] })

/-- Bus time of a scan or a discovery beside what answers: the Get UDID that none answers, and the probes. -/
def State.scanTime (s : State) (p : Nat) (disc : Bool) (l : List Arrival) : Rat :=
  (if s.shelfHost ∧ s.portN p 9 = 1 then s.timeOf p 1 false else 0)
    + sumR ((s.probes p disc).map fun b => if l.any fun a => !a.arp && a.addr == s.berthN b 0x0A then s.timeOf p 4 true else s.timeOf p 1 false)

/-- A scan of a port begins afresh: a partner found before whose arrival has failed is awaited only if the scan finds it again (R54, R418). -/
def State.forgetFailed (s : State) (p : Nat) : State :=
  forUnits ((List.range 16).map (16 * p + ·)) (fun t b => if (t.berth b).arriving then t else t.setBerth b { t.berth b with awaited := false }) s

/-- What a discovery or a scan of a port finds waits to be placed; a fixed partner that a discovery has still to ask stays. -/
def State.found (s : State) (p : Nat) (disc : Bool) (l : List Arrival) : State :=
  let s := s.forgetFailed p
  let q := s.port p
  let l := l.filter fun a => a.port == p
  let old := q.todo.filter fun x => !x.2.arp && l.all fun a => a.arp || a.addr != x.2.addr
  let s := s.completed p (s.scanTime p disc l)
  (s.setPort p { s.port p with todo := l.map (fun a => (disc, a)) ++ old }).goOn p (l.length + 1)

/-- A discovery that completes clears the script source of detail 0x02; detail 0x01 stays until the next start (Table 14-4). -/
def State.clearSpare (s : State) : State :=
  match s.activeOf s.scriptKey with
  | some a => if a.detail = 2 then s.clearing s.scriptKey else s
  | none => s

/-- Discovery of a port goes on, and ends with its last arrival; with the last port, milestone 7 (R416, Table 02-6). -/
def State.discoveryDone (s : State) (p : Nat) : State :=
  let s := s.goOn p ((s.port p).todo.length + 1)
  let v := s.port p
  let s := if v.discovering && v.todo.isEmpty && (s.arrivals p).isEmpty then
      (s.setPort p { v with discovering := false, discTime := s.since v.discFrom }).clearSpare
    else s
  if !s.mode.discovered && (List.range 4).all (fun q => !(s.port q).discovering) then
    { s with mode := { s.mode with discovered := true, milestones := put s.mode.milestones 6 (s.since s.supply.porTick / ticksPerUs) } }
  else s

/-- Discovery begins on a port with `ArpEnable` 1, with Prepare to ARP (R416); scans follow from 1 s on (R417). -/
def State.discover (s : State) (p : Nat) (l : List Arrival) : State :=
  let on : Bool := s.portUp p && s.portN p 9 == 1
  let s := s.setPort p { s.port p with discFrom := s.now, nextScan := s.now + ticksPerS, discovering := on && s.shelfHost }
  let s := if on && s.shelfHost then s.busyFor p (s.timeOf p 3 false) else s
  if on then s.found p true l else s

/-! Runs (R420 to R425). -/

/-- The word at a run's place. -/
def State.runWord (s : State) (r : Run) : Option Nat := (s.script (s.berthN r.berth 4))[r.pc]?

/-- A run starts from the berth's committed values. -/
def State.newRun (s : State) (b : Nat) : Run := { berth := b, vals := (s.berth b).vals, arrival := (s.berth b).arriving }

/-- The consumers of a committed run (R425): qualification, rails, the partner report, whose record carries the page last written and the
status word (R33). -/
def State.consume (s : State) (b : Nat) : State :=
  let v := s.berth b
  let fault := nth v.vals.flags 0 false
  let good := v.present && s.berthKind b == 1 && !fault && s.berthInWindow b
  let s := { s with spm := { s.spm with berthGoodSince := put s.spm.berthGoodSince b (s.track (nth s.spm.berthGoodSince b none) good)
                                        qualBerth := if good then s.spm.qualBerth else put s.spm.qualBerth b false } }
  let s := s.handbackWatch b
  let s := s.railPoll b (s.reading b 0) (fault || !nth v.vals.flags 2 false)
  let k := s.partnerKey (b / 16) b
  if fault then s.raiseWith k 0 (leBytes 1 (v.page.getD 0) ++ leBytes 2 (nth v.vals.w 0 0)) false else s.clearing k

/-- END commits a run (R424), and ends an arrival (R418). -/
def State.commitRun (s : State) (r : Run) : State :=
  let b := r.berth
  let v := s.berth b
  let v := { v with vals := r.vals, hasOffer := v.hasOffer || r.offer, committedAt := s.now, runs := v.runs + 1, failRun := 0, alert := r.alerted, stale := false }
  let s := s.setBerth b v
  let s := (s.clearing (s.berthKey b 2)).clearing (s.berthKey b 3)
  let s := if r.arrival then
      let P := s.berthN b 6
      let s := s.setBerth b { v with present := true, arriving := false, awaited := false, arrivals := v.arrivals + 1, arrivedAt := s.now, dueAt := s.now + P * ticksPerMs
                                     due := false, redo := none, onAtArrival := nth r.vals.flags 1 false
                                     udidHigh := (v.found.getD (v.udidHigh, v.udidLow)).1, udidLow := (v.found.getD (v.udidHigh, v.udidLow)).2, found := none }
      (s.note 0x0070 (leBytes 1 b ++ leBytes 1 0 ++ leBytes 1 0)).clearing (s.berthKey b 1)
    else s
  s.consume b

/-- A run fails and commits nothing (R424); kind 3 is a PEC mismatch, kind 2 any other cause. A former holder's last transaction fails no run (R407). -/
def State.failRun (s : State) (p kind : Nat) : State :=
  match (s.port p).run with
  | none => s
  | some r =>
    let b := r.berth
    let q := s.port p
    if r.last then s.setPort p { q with run := none, work := .none, losses := 0 } else
    let s := s.setPort p { q with run := none, work := .none, losses := 0, runFails := q.runFails + 1 }
    let v := s.berth b
    let s := s.setBerth b { v with fails := v.fails + 1, failRun := v.failRun + 1, pecs := v.pecs + b2n (kind == 3), arriving := false, found := none }
    let s := ({ s with spm := { s.spm with berthGoodSince := put s.spm.berthGoodSince b none, qualBerth := put s.spm.qualBerth b false } } : State).handbackWatch b
    let s := s.raise (s.berthKey b kind) 0
    let s := if v.present && decide (s.berthN b 0x2B ≤ v.failRun + 1) then s.depart b 2 else s
    s.discoveryDone p

/-- The run of a port moves past its word; one whose last transaction this was is abandoned (R407). -/
def State.setRun (s : State) (p : Nat) (r : Run) : State := s.setPort p { s.port p with run := if r.last = true then none else some r }

/-! The work that a port takes (R408). -/

/-- Rail number of a command that switches a forced-off rail's partner off. -/
def State.cmdRail (s : State) (c : PCmd) : Nat := ((List.range 32).find? fun r => s.railUsed r && s.railKind r == 2 && s.railTarget r == c.berth).getD 32

/-- The most urgent command of a port: by rank, within rank 1 by rail number, else as queued. -/
def State.urgent (s : State) (p : Nat) : Option PCmd :=
  let l := (s.port p).cmds.filter fun c => s.hosts c.berth
  let one := l.filter fun c => c.rank == 1
  match one with
  | c :: cs => some (cs.foldl (fun m x => if s.cmdRail x < s.cmdRail m then x else m) c)
  | [] =>
    match l.find? fun c => c.rank == 2 with
    | some c => some c
    | none => l.head?

/-- 10 ms have passed since the port last read the Alert Response Address. -/
def State.alertDue (s : State) (p : Nat) : Bool :=
  match (s.port p).alertAt with
  | some t => decide (10 * ticksPerMs ≤ s.since t)
  | none => true

/-- A scan is due (R417). -/
def State.scanDue (s : State) (p : Nat) : Bool := s.portHosts p && decide ((s.port p).nextScan ≤ s.now)

/-- A scan is due, or an alert read while the pin was last seen low: work of rank 4 beside arrivals. -/
def State.serviceDue (s : State) (p : Nat) : Bool := s.scanDue p || (s.portUp p && s.shelfHost && (s.port p).alertLow && s.alertDue p)

/-- The most urgent work of a port that waits: a command; a scan or an alert read, unless an arrival run, which has the same rank, is open; the open run. -/
def State.nextWork (s : State) (p : Nat) : Work :=
  match s.urgent p, (s.port p).run with
  | some c, _ => .cmd c.berth c.code c.rank
  | none, some r => if s.serviceDue p && !r.arrival then .service else .run
  | none, none => if s.serviceDue p then .service else .none

/-- The work in hand: what the port took at its last transaction boundary, else what it takes now (R408). -/
def State.inHand (s : State) (p : Nat) : Work := if (s.port p).work = .none then s.nextWork p else (s.port p).work

/-- A scan or an alert read may go on the bus: it is in hand, or nothing is and no command waits. -/
def State.serviceTurn (s : State) (p : Nat) : Bool := s.inHand p == .service || ((s.port p).work == .none && (s.urgent p).isNone)

/-- A command of rank 1 or 2 waits: it ends a read (R408). -/
def State.endsRead (s : State) (p : Nat) : Bool := match s.urgent p with | some c => decide (c.rank ≤ 2) | none => false

/-- The words that put bytes on the bus, and the reads among them (Table 14-2). -/
def isBusOp (op : Nat) : Bool := decide (1 ≤ op) && decide (op ≤ 7)
def isReadOp (op : Nat) : Bool := decide (2 ≤ op) && decide (op ≤ 4)

/-- The run of a port when its word has an op, no WAIT holds it, this controller is host for its berth, and the script engine is not stopped by a
SHED (R28). A bus word needs the port's turn; a transaction in progress completes though the controller is host no more (R407). -/
def State.runAt (s : State) (p op : Nat) : Option (Run × Nat) :=
  match (s.port p).run with
  | none => none
  | some r =>
    match s.runWord r with
    | none => none
    | some w =>
      let turn : Bool := !isBusOp op || (s.inHand p == .run && !(isReadOp op && s.endsRead p))
      if (s.hosts r.berth || (r.last && isBusOp op)) && bits w 28 4 == op && decide (r.ready ≤ s.now) && !s.isShed 7 0xFF 5 && turn then some (r, w) else none

/-- A run with a slot set. -/
def Run.setSlot (r : Run) (i v : Nat) : Run := { r with pc := r.pc + 1, vals := { r.vals with w := put r.vals.w i v } }
def Run.next (r : Run) : Run := { r with pc := r.pc + 1 }

/-- The word that a WRW writes: `imm`, or the slot with `inv` 1. -/
def Run.wordOut (r : Run) (w : Nat) : Nat := if bits w 27 1 = 1 then nth r.vals.w (bits w 24 3) 0 else bits w 0 16

/-- Bytes of the PEC. -/
def State.pecBytes (s : State) (b : Nat) : Nat := b2n (s.berth b).pec

/-- A bus read of a run: fails on a NACK or a PEC mismatch. -/
def State.busRead (s : State) (p : Nat) (r : Run) (n : Nat) (ack pecOk : Bool) (t : Run) : State :=
  if !ack then (s.busyFor p (busTime (s.portN p 3) n true)).failRun p 2
  else if (s.berth r.berth).pec && !pecOk then (s.busyFor p (busTime (s.portN p 3) n true)).failRun p 3
  else (s.transacted p (n + s.pecBytes r.berth) true).setRun p t

/-- The bytes of an acknowledged write stay as those of the port's last one. -/
def State.wrote (s : State) (p cmd : Nat) (data : List Byte) : State := s.setPort p { s.port p with lastWrite := leBytes 1 cmd ++ data }

/-- A bus write of a run: a command code and its data. -/
def State.busWrite (s : State) (p : Nat) (r : Run) (cmd : Nat) (data : List Byte) (ack : Bool) (t : Run) : State :=
  if !ack then (s.busyFor p (busTime (s.portN p 3) (2 + data.length) false)).failRun p 2
  else ((s.transacted p (2 + data.length + s.pecBytes r.berth) false).wrote p cmd data).setRun p t

/-- The last page written to a berth. -/
def State.setPage (s : State) (b page : Nat) : State := s.setBerth b { s.berth b with page := some page }

/-- The value of a binary16 pattern as binary32, the sign of a zero kept. -/
def halfF32 (w : Nat) : F32 :=
  let e := bits w 10 5
  let f := bits w 0 10
  let sg := bit w 15
  if e = 31 then (if f = 0 then F32.inf sg else F32.nan)
  else
    let m : Rat := if e = 0 then (f : Rat) * pow2 (-24) else ((1024 + f : Nat) : Rat) * pow2 ((e : Int) - 25)
    if m = 0 ∧ sg = true then F32.neg 0 else F32.ofRat (if sg then -m else m)

/-- DIRECT (R423); a zero m leaves the value open. -/
def State.direct (s : State) (b w : Nat) : F32 :=
  let q := s.objI (0x4900 + b) 0x2A
  let ten : Rat := if 0 ≤ q then 1 / (10 : Rat) ^ q.toNat else (10 : Rat) ^ (-q).toNat
  let m : Rat := s.objI (0x4900 + b) 0x28
  let y := (signedField w 0 16 : Rat) * ten - (s.objI (0x4900 + b) 0x29 : Rat)
  F32.ofRat (if m = 0 then Config.freeReal s.draws else y / m)

/-- CNV of a word (R423); none where the conversion fails the run. -/
def State.convert (s : State) (b fmt w : Nat) : Option F32 :=
  let m := (s.berth b).voutMode
  match fmt with
  | 0 => some (F32.ofRat ((signedField w 0 11 : Rat) * pow2 (signedField w 11 5)))
  | 1 =>
    match bits m 5 3 with
    | 0 => some (F32.ofRat ((w : Rat) * pow2 (signedField m 0 5)))
    | 2 => some (s.direct b w)
    | 3 => some (halfF32 w)
    | _ => none
  | 2 => some (s.direct b w)
  | 3 => some (F32.ofRat w)
  | 4 => some (F32.ofRat (signedField w 0 16))
  | _ => none

/-- A word without bus bytes, on a run; none where CNV fails. -/
def State.freeWord (s : State) (r : Run) (w : Nat) : Option Run :=
  let sl := bits w 24 3
  let v := nth r.vals.w sl 0
  let imm := bits w 0 16
  match bits w 28 4 with
  | 0x8 =>
    match s.convert r.berth (bits imm 8 4) v with
    | some f => some { r.next with vals := { r.vals with readings := put r.vals.readings (bits imm 0 3) f }, offer := r.offer || bits imm 0 3 == 7 }
    | none => none
  | 0x9 => some { r with pc := r.pc + (if ((v &&& imm) == 0) != bit w 27 then 2 else 1) }
  | 0xA => some { r.next with vals := { r.vals with flags := put r.vals.flags (bits w 16 8) (((v &&& imm) != 0) != bit w 27) } }
  | 0xB => some { r.next with ready := s.now + imm * ticksPerUs }
  | 0xC =>
    let byte := fun (i : Nat) => (nth r.vals.block i 0).toNat
    some (r.setSlot sl (byte (bits imm 0 5) + 256 * byte (bits imm 0 5 + 1)))
  | _ => some r.next

/-- A word without bus bytes acts on the port's run. -/
def State.runFree (s : State) (p op : Nat) : State :=
  match s.runAt p op with
  | none => s
  | some (r, w) =>
    let s := { s with draws := s.draws + b2n (op == 8) }
    match s.freeWord r w with
    | some t => s.setRun p t
    | none => s.failRun p 2

/-! Commands of the script engine (R422). -/

/-- SCRIPT_END (R424). -/
def execScriptEnd (p : Nat) (s : State) : Host.Outcome State Fault Refusal :=
  .next (match s.runAt p 0 with
    | none => s
    | some (r, _) =>
      let q := s.port p
      let s := (s.setPort p { q with run := none, work := if q.work = .run then .none else q.work, commits := q.commits + 1 }).commitRun r
      s.discoveryDone p)

/-- SCRIPT_PAGE (R422): skipped when the page is in force. -/
def execScriptPage (p : Nat) (ack : Bool) (s : State) : Host.Outcome State Fault Refusal :=
  .next (match s.runAt p 1 with
    | none => s
    | some (r, w) =>
      if (s.berth r.berth).page = some (bits w 0 8) then s.setRun p r.next
      else
        let t := s.busWrite p r 0 (leBytes 1 (bits w 0 8)) ack r.next
        if ack then t.setPage r.berth (bits w 0 8) else t)

/-- SCRIPT_RDB (R422). -/
def execScriptRdb (p : Nat) (ack pecOk : Bool) (v : BitVec 8) (s : State) : Host.Outcome State Fault Refusal :=
  .next (match s.runAt p 2 with
    | none => s
    | some (r, w) => s.busRead p r 4 ack pecOk (r.setSlot (bits w 24 3) v.toNat))

/-- SCRIPT_RDW (R422). -/
def execScriptRdw (p : Nat) (ack pecOk : Bool) (v : BitVec 16) (s : State) : Host.Outcome State Fault Refusal :=
  .next (match s.runAt p 3 with
    | none => s
    | some (r, w) => s.busRead p r 5 ack pecOk (r.setSlot (bits w 24 3) v.toNat))

/-- The block read into a run. -/
def Run.setBlock (r : Run) (w : Nat) (data : List Byte) : Run :=
  let t := r.setSlot (bits w 24 3) data.length
  { t with vals := { t.vals with block := data } }

/-- SCRIPT_RDK (R422): a count above the limit fails the run. -/
def execScriptRdk (p : Nat) (ack pecOk : Bool) (data : List Byte) (s : State) : Host.Outcome State Fault Refusal :=
  .next (match s.runAt p 4 with
    | none => s
    | some (r, w) =>
      if ack && decide (bits w 0 6 < data.length) then (s.busyFor p (busTime (s.portN p 3) 4 true)).failRun p 2
      else s.busRead p r (4 + data.length) ack pecOk (r.setBlock w data))

/-- SCRIPT_WRB (R422). -/
def execScriptWrb (p : Nat) (ack : Bool) (s : State) : Host.Outcome State Fault Refusal :=
  .next (match s.runAt p 5 with | none => s | some (r, w) => s.busWrite p r (bits w 16 8) (leBytes 1 (bits w 0 8)) ack r.next)

/-- SCRIPT_WRW (R422). -/
def execScriptWrw (p : Nat) (ack : Bool) (s : State) : Host.Outcome State Fault Refusal :=
  .next (match s.runAt p 6 with | none => s | some (r, w) => s.busWrite p r (bits w 16 8) (leBytes 2 (r.wordOut w)) ack r.next)

/-- SCRIPT_SND (R422). -/
def execScriptSnd (p : Nat) (ack : Bool) (s : State) : Host.Outcome State Fault Refusal :=
  .next (match s.runAt p 7 with | none => s | some (r, w) => s.busWrite p r (bits w 16 8) [] ack r.next)

/-- SCRIPT_CNV (R423). -/
def execScriptCnv (p : Nat) (s : State) : Host.Outcome State Fault Refusal := .next (s.runFree p 0x8)

/-- SCRIPT_TST (R422). -/
def execScriptTst (p : Nat) (s : State) : Host.Outcome State Fault Refusal := .next (s.runFree p 0x9)

/-- SCRIPT_REP (R422). -/
def execScriptRep (p : Nat) (s : State) : Host.Outcome State Fault Refusal := .next (s.runFree p 0xA)

/-- SCRIPT_WAIT (R422): the port may carry commands meanwhile. -/
def execScriptWait (p : Nat) (s : State) : Host.Outcome State Fault Refusal := .next (s.runFree p 0xB)

/-- SCRIPT_XTR (R422). -/
def execScriptXtr (p : Nat) (s : State) : Host.Outcome State Fault Refusal := .next (s.runFree p 0xC)

/-! Work of a port (R408, R420). -/

/-- POLL_RUN_DUE (R420): a due time that finds the previous run not yet started is dropped. A listener follows the due times, and treats a
berth as departed after `AbsentRun` periods without a committed run (R429). -/
def execPollRunDue (b : Nat) (s : State) : Host.Outcome State Fault Refusal :=
  let v := s.berth b
  let P := s.berthN b 6
  .next (if v.present && s.berthUsed b && P != 0 && s.portUp (b / 16) && decide (v.dueAt ≤ s.now) then
      let v := { v with dueAt := v.dueAt + P * ticksPerMs }
      if s.hosts b then
        if v.due then
          let q := s.port (b / 16)
          (s.setBerth b v).setPort (b / 16) { q with latePolls := q.latePolls + 1 }
        else s.setBerth b { v with due := true, dueSince := (s.berth b).dueAt }
      else if s.berthN b 0x2B * P * ticksPerMs < s.since v.committedAt then (s.setBerth b v).depart b 2
      else s.setBerth b v
    else s)

/-- The due time by which a berth's run takes its turn: that of an interrupted run, else that of the run which waits (R408). -/
def Berth.turnAt (v : Berth) : Option Nat := match v.redo with | some t => some t | none => if v.due then some v.dueSince else none

/-- The berth whose run a port takes next: an arrival, a run moved forward, else the earliest due (R408 ranks 4 and 5). -/
def State.nextBerth (s : State) (p : Nat) : Option Nat :=
  let l := ((List.range 16).map (16 * p + ·)).filter s.hosts
  match l.find? fun b => (s.berth b).arriving with
  | some b => some b
  | none =>
    match l.find? fun b => (s.berth b).present && (s.berth b).alert with
    | some b => some b
    | none =>
      match l.filter fun b => (s.berth b).present && (s.berth b).turnAt.isSome with
      | [] => none
      | b :: bs => some (bs.foldl (fun m x => if (s.berth x).turnAt.getD 0 < (s.berth m).turnAt.getD 0 then x else m) b)

/-- The work that a port takes; losses count for one transaction (R410). -/
def State.takeWork (s : State) (p : Nat) (w : Work) : State :=
  let q := s.port p
  s.setPort p { q with work := w, losses := if q.work = w then q.losses else 0 }

/-- The run starts: an interrupted one again, else the one that waits. -/
def State.takeRun (s : State) (p b : Nat) : State :=
  let v := s.berth b
  let s := (s.setPort p { s.port p with run := some { s.newRun b with due := v.turnAt.getD s.now } }).takeWork p .run
  s.setBerth b { v with due := v.due && v.redo.isSome, redo := none }

/-- A read is in progress: the port took its run at the last boundary and the run stands at a read. -/
def State.readCut (s : State) (p : Nat) : Bool :=
  (s.port p).work == .run && (match (s.port p).run with
    | some r => (match s.runWord r with | some w => isReadOp (bits w 28 4) | none => false)
    | none => false)

/-- An interrupted run restarts from its first word at its next turn, which it takes by its own due time (R408). -/
def State.cutRun (s : State) (p : Nat) : State :=
  match (s.port p).run with
  | none => s
  | some r => (s.setPort p { s.port p with run := none }).setBerth r.berth { s.berth r.berth with redo := if r.arrival then none else some r.due }

/-- A run of a berth for which this controller is no longer host is abandoned (R407). -/
def State.dropForeign (s : State) (p : Nat) : State :=
  match (s.port p).run with
  | some r => if s.hosts r.berth then s else s.setPort p { s.port p with run := none }
  | none => s

/-- TW_TRANSACTION_BOUNDARY (R408): the most urgent work is taken; where nothing waits but runs, the open one goes on, or the next starts. -/
def execTwTransactionBoundary (p : Nat) (s : State) : Host.Outcome State Fault Refusal :=
  .next (if !s.portUp p then s
    else
      match s.urgent p with
      | some c => (if c.rank ≤ 2 ∧ s.readCut p = true then s.cutRun p else s).takeWork p (.cmd c.berth c.code c.rank)
      | none =>
        let s := s.dropForeign p
        let s := if (s.port p).run.isNone ∧ (s.port p).discovering = true then s.discoveryDone p else s
        match s.nextWork p with
        | .none =>
          (match s.nextBerth p with
          | some b => s.takeRun p b
          | none => s.takeWork p .none)
        | w => s.takeWork p w)

/-! Commands to partners (R426, R427). -/

/-- The queue of a port without a command. -/
def Port.dropCmd (v : Port) (c : PCmd) : Port := { v with cmds := v.cmds.filter fun x => !(x.berth == c.berth && x.code == c.code) }

/-- A command has failed: it is repeated up to 3 times, then dropped (R426). -/
def State.cmdFailed (s : State) (p : Nat) (c : PCmd) : State :=
  let v := s.port p
  if c.fails < 3 then
    s.setPort p { v with work := .none, losses := 0, cmds := v.cmds.map fun (x : PCmd) => if x.berth = c.berth ∧ x.code = c.code then { x with fails := x.fails + 1 } else x }
  else
    let s := s.setPort p { v.dropCmd c with work := .none, losses := 0 }
    let b := s.berth c.berth
    let s := s.setBerth c.berth { b with fails := b.fails + 1, hostStatus := if c.host then 3 else b.hostStatus }
    s.raise (s.berthKey c.berth 2) 0

/-- Bytes of a command on the bus (R406). -/
def PCmd.bytes (c : PCmd) : Nat := match c.proto with | 0 => 2 | 1 => 3 | 2 => 4 | 3 => 4 | _ => 5

/-- PAGE 0 has been written before a command (R426). -/
def State.pageZero (s : State) (p b : Nat) : State := ((s.transacted p (3 + s.pecBytes b) false).wrote p 0 [0]).setPage b 0

/-- A command has been carried out, and a host command's result is held. -/
def State.cmdDone (s : State) (p : Nat) (c : PCmd) (v : Nat) : State :=
  let s := s.transacted p (c.bytes + s.pecBytes c.berth) (decide (3 ≤ c.proto))
  let s := if c.proto < 3 then s.wrote p c.code (leBytes c.proto c.data) else s
  let s := s.setPort p ((s.port p).dropCmd c)
  let b := s.berth c.berth
  s.setBerth c.berth { b with hostStatus := if c.host then 2 else b.hostStatus
                              hostResult := if c.host && decide (3 ≤ c.proto) then (if c.proto = 3 then v % 256 else v) else b.hostResult }

/-- The command that a port has in hand. -/
def State.picked (s : State) (p : Nat) : Option PCmd :=
  match s.inHand p with
  | .cmd b code _ => (s.port p).cmds.find? fun c => c.berth == b && c.code == code
  | _ => none

/-- A command's transaction: PAGE 0 first, as a write of its own, where another page was written last (R426). -/
def State.sendCmd (s : State) (p : Nat) (c : PCmd) (ack pecOk : Bool) (v : Nat) : State :=
  if (s.berth c.berth).page ≠ some 0 then (if ack then s.pageZero p c.berth else s.cmdFailed p c)
  else if ack && (pecOk || !(s.berth c.berth).pec || decide (c.proto < 3)) then s.cmdDone p c v
  else s.cmdFailed p c

/-- An OPERATION 0x80 still waits on a port that can send it. -/
def State.marginsOut (s : State) : Bool := (List.range 4).all fun p => !s.portUp p || (s.port p).cmds.all fun c => !(c.code == 1 && c.data == 0x80)

/-- The departure from SERVICE ends when no rail's OPERATION 0x80 waits any more (R302); the selections of R503 go back with it. DESIGN CHOICE (log entry
164): an owner that has kept `OWN_N` releases it before the restart, with the reason of `RST_N`. -/
def State.finishLeaving (s : State) : State :=
  match s.mode.leaving with
  | some train =>
    if s.marginsOut then
      let s := s.releaseOwn 4
      ({ s with cfg := ((storeDel (objKey 0x2700 1) s.cfg).filter fun p => p.1 != objKey 0x2700 2 && p.1 != objKey 0x2700 3) } : State).restart 0x0011 train
    else s
  | none => s

/-- PARTNER_COMMAND_SEND (R426): the next transaction of the command in hand. -/
def execPartnerCommandSend (p : Nat) (ack pecOk : Bool) (v : BitVec 16) (s : State) : Host.Outcome State Fault Refusal :=
  .next (if !s.portUp p then s
    else
      match s.picked p with
      | none => s
      | some c => (s.sendCmd p c ack pecOk v.toNat).finishLeaving)

/-- What refuses a host command (R427). -/
def State.hostCmdStatus (s : State) (b : Nat) (w : Nat) : Nat :=
  let code := bits w 0 8
  let proto := bits w 8 3
  if decide (4 < proto) || bits w 11 5 != 0 then stRange
  else if decide (proto ≤ 2) && (code == 0 || code == 1 || code == 0x22 || code == 0x25 || code == 0x26) then stRange
  else if !s.hosts b || !(s.berth b).present || (s.port (b / 16)).cmds.any (fun c => c.berth == b && c.host) then stState
  else 0

/-- HOST_COMMAND (R427). -/
def execHostCommand (ch : Chan) (b : Nat) (w : BitVec 32) (s : State) : Host.Outcome State Fault Refusal :=
  let n := w.toNat
  .next (s.guardedWrite ch (0x4900 + b) 0x25 (leBytes 4 n) (s.hostCmdStatus b n)
    (let s := s.queueCmd { berth := b, code := bits n 0 8, proto := bits n 8 3, data := bits n 16 16, rank := 2, host := true }
     s.setBerth b { s.berth b with hostStatus := 1 }))

/-! Faults of the bus (R410, R411). -/

/-- The transaction in progress fails: a command's, or the run's; a scan or an alert read comes again when it is due. -/
def State.failTransaction (s : State) (p : Nat) : State :=
  match s.inHand p with
  | .cmd _ _ _ => (match s.picked p with | some c => s.cmdFailed p c | none => s.takeWork p .none)
  | .run => s.failRun p 2
  | _ => s.takeWork p .none

/-- TW_ARBITRATION_LOST (R410): the fourth loss fails the transaction. -/
def execTwArbitrationLost (p : Nat) (s : State) : Host.Outcome State Fault Refusal :=
  .next (if s.portHosts p then
      let v := s.port p
      let s := s.setPort p { v with arbLosses := v.arbLosses + 1, losses := v.losses + 1, work := s.inHand p }
      if 3 ≤ v.losses then
        let s := (s.failTransaction p).raise (s.portKey p 2) 0
        s.setPort p { s.port p with losses := 0 }
      else s
    else s)

/-- TW_SCL_TIMEOUT (R410): both lines released, the transaction failed. -/
def execTwSclTimeout (p : Nat) (s : State) : Host.Outcome State Fault Refusal :=
  .next (if s.portHosts p then s.failTransaction p else s)

/-- TW_BUS_RECOVERY (R411): by the holder alone. -/
def execTwBusRecovery (p : Nat) (ok : Bool) (s : State) : Host.Outcome State Fault Refusal :=
  .next (if s.portUp p && s.shelfHost then
      let v := s.port p
      if ok then (s.setPort p { v with stuck := false }).clearing (s.portKey p 1)
      else (s.setPort p { v with stuck := true, stucks := v.stucks + 1 }).raise (s.portKey p 1) 0
    else s)

/-! Scans, presence, alerts (R417, R419). -/

/-- TW_SCAN (R417): every 1 s, or after a presence pin has gone low. -/
def execTwScan (p : Nat) (found : List Arrival) (s : State) : Host.Outcome State Fault Refusal :=
  .next (if s.scanDue p && s.serviceTurn p then (s.setPort p { s.port p with nextScan := s.now + ticksPerS }).found p false found else s)

/-- BERTH_PRESENCE_LOW (R417): the port's next scan is due at once. -/
def execBerthPresenceLow (b : Nat) (s : State) : Host.Outcome State Fault Refusal :=
  .next (if s.part.has .berth b && s.berthN b 7 != 0xFF then
      let s := s.setBerth b { s.berth b with pinLow := true }
      s.setPort (b / 16) { s.port (b / 16) with nextScan := min (s.port (b / 16)).nextScan s.now }
    else s)

/-- BERTH_PRESENCE_HIGH (R419). -/
def execBerthPresenceHigh (b : Nat) (s : State) : Host.Outcome State Fault Refusal :=
  .next (if s.part.has .berth b && s.berthN b 7 != 0xFF then
      let s := s.setBerth b { s.berth b with pinLow := false }
      if (s.berth b).present then s.depart b 1 else s
    else s)

/-- `BerthEnable` 0: a present berth departs. -/
def State.applyBerthDisable (s : State) (b : Nat) : State :=
  let s := s.setObjN (0x4900 + b) 5 1 0
  if (s.berth b).present then s.depart b 4 else s.setBerth b { s.berth b with arriving := false, awaited := false }

/-- BERTH_DISABLE (R419). -/
def execBerthDisable (ch : Chan) (b : Nat) (s : State) : Host.Outcome State Fault Refusal :=
  .next (s.guardedWrite ch (0x4900 + b) 5 [0] 0 (s.applyBerthDisable b))

/-- The berth of a port at an address. -/
def State.berthAt (s : State) (p addr : Nat) : Option Nat :=
  ((List.range 16).map (16 * p + ·)).find? fun b => (s.berth b).present && s.berthN b 0x0A == addr

/-- A run of the berth that is open is not the one that an alert moves forward. -/
def Run.alertFor (b : Nat) (r : Run) : Run := { r with alerted := r.alerted || r.berth == b }

/-- A berth's next run is moved forward to rank 4 (R412, R417). -/
def State.alertBerth (s : State) (p addr : Nat) : State :=
  match s.berthAt p addr with
  | some b =>
    let v := s.port p
    (s.setPort p { v with run := v.run.map (Run.alertFor b), heard := v.heard.map (Run.alertFor b) }).setBerth b { s.berth b with alert := true }
  | none => s

/-- ALERT_RESPONSE_READ (R417): at most every 10 ms; the address returned, 0 where no device answers. -/
def execAlertResponseRead (p addr : Nat) (s : State) : Host.Outcome State Fault Refusal :=
  .next (if s.portUp p && s.shelfHost && s.alertDue p && s.serviceTurn p then
      let s := s.completed p (s.timeOf p (if addr = 0 then 1 else 2) false)
      (s.setPort p { s.port p with alertLow := addr != 0, alertAt := some s.now }).alertBerth p addr
    else s)

/-! The port as target (R412, R413). -/

/-- The target path of a port runs: the port is up, or woken in MOORED by an address match (R58, R414). -/
def State.targetUp (s : State) (p : Nat) : Bool :=
  s.portUp p || (s.inMode .moored && s.mode.wakeServed == 0x0052 && s.part.has .twoWire p && s.portN p 2 == 1 && s.supply.phase == .running)

/-- The target path takes a transaction: the stretch of a wake match ends (Table 02-9 step 5). -/
def State.targetTakes (s : State) (p : Nat) : State :=
  { s with mode := { s.mode with stretchFrom := s.mode.stretchFrom.filter fun x => x.1 != p } }

/-- A busy target address: held low with `SlowMode` 0 until the cores have taken what waits, refused and counted with 1. -/
def State.busyTarget (s : State) (p : Nat) (m : TargetMsg) : State :=
  let v := s.port p
  if s.portN p 5 = 1 then s.setPort p { v with busyNacks := v.busyNacks + 1 } else s.setPort p { v with stretching := true, held := some m }

/-- SUP, NET and NVM leave retention 200 µs after a wake that is served in MOORED (Table 02-9 steps 2 to 5). After a wake that brings no message they
go back when the records that wait have been committed (log entry 112). -/
def State.wakeRegions (s : State) : State :=
  if !(s.inMode .moored && s.mode.wakeServed != 0) then s
  else if s.region .net == .ret then (if 200 * ticksPerUs ≤ s.since s.mode.since then s.serveRegions true else s)
  else if [0x0051, 0x0054, 0x0056].contains s.mode.wakeServed && s.mode.canAwakeSince.isNone && decide (400 * ticksPerUs ≤ s.since s.mode.since) && s.log.waiting.isEmpty then
    let t := s.serveRegions false
    { t with mode := { t.mode with wakeServed := 0 } }
  else s

/-- The matcher answers NACK to one byte after a late wake (R59). -/
def State.lateNack (s : State) (p : Nat) : State := s.setPort p { s.port p with nackNext := false }

/-- The regions go back to retention when a message that woke the controller has been dealt with (log entry 112). -/
def State.messageServed (s : State) : State :=
  if s.inMode .moored && s.mode.wakeServed == 0x0052 && s.mode.canAwakeSince.isNone then
    { s.serveRegions false with mode := { (s.serveRegions false).mode with wakeServed := 0 } }
  else s

/-- A Host Notify message is taken (R412). -/
def State.takeNotify (s : State) (p addr data : Nat) : State :=
  let v := s.port p
  let m := addr * 65536 + data
  (s.setPort p { v with lastNotify := m, notifies := v.notifies + 1, notifyQueue := v.notifyQueue ++ [m] }).alertBerth p addr

/-- A mailbox block is taken when its PEC passes and it has 1 to 32 bytes (R412). -/
def State.takeBlock (s : State) (p cmd : Nat) (data : List Byte) (pecOk : Bool) : State :=
  if pecOk && decide (1 ≤ data.length) && decide (data.length ≤ 32) then s.setPort p { s.port p with mailboxBusy := true, mailIn := leBytes 1 cmd ++ data } else s

/-- A Block Read is answered from `MailboxReply` (R412). -/
def State.answerRead (s : State) (p : Nat) : State := s.setPort p { s.port p with mailboxSent := s.raw (0x4800 + p) 0x17 }

/-- The stretch of a busy address ends and its transaction goes on (R413). -/
def State.endStretch (s : State) (p : Nat) : State :=
  let m := (s.port p).held
  let s := s.setPort p { s.port p with stretching := false, held := none }
  match m with
  | some (.notify addr data) => s.takeNotify p addr data
  | some (.write cmd data pecOk) => s.takeBlock p cmd data pecOk
  | some .read => s.answerRead p
  | none => s

/-- HOST_NOTIFY_RECEIVED (R412). -/
def execHostNotifyReceived (p addr data : Nat) (s : State) : Host.Outcome State Fault Refusal :=
  .next (if (s.port p).nackNext then s.lateNack p
    else if s.targetUp p && s.portN p 7 == 1 then
      let s := s.targetTakes p
      if 8 ≤ (s.port p).notifyQueue.length then s.busyTarget p (.notify addr data) else s.takeNotify p addr data
    else s)

/-- MAILBOX_BLOCK_WRITE (R412). -/
def execMailboxBlockWrite (p cmd : Nat) (data : List Byte) (pecOk : Bool) (s : State) : Host.Outcome State Fault Refusal :=
  .next (if (s.port p).nackNext then s.lateNack p
    else if s.targetUp p && s.portN p 6 != 0xFF then
      let s := s.targetTakes p
      if (s.port p).mailboxBusy then s.busyTarget p (.write cmd data pecOk) else s.takeBlock p cmd data pecOk
    else s)

/-- MAILBOX_BLOCK_READ (R412). -/
def execMailboxBlockRead (p : Nat) (s : State) : Host.Outcome State Fault Refusal :=
  .next (if (s.port p).nackNext then s.lateNack p
    else if s.targetUp p && s.portN p 6 != 0xFF then
      let s := s.targetTakes p
      if (s.port p).mailboxBusy then s.busyTarget p .read
      else (s.answerRead p).messageServed
    else s)

/-- MAILBOX_BLOCK_TAKEN (R413): the cores take the block and the Host Notify messages; a stretched address is acknowledged, and its transaction
goes on. A message taken in that way waits for the cores in its turn. -/
def execMailboxBlockTaken (p : Nat) (s : State) : Host.Outcome State Fault Refusal :=
  .next (if (s.regionOn .sup || s.inMode .moored) && s.targetUp p then
      let v := s.port p
      let s := (s.setPort p { v with mailbox := if v.mailboxBusy then v.mailIn else v.mailbox, mailIn := [], mailboxBusy := false, notifyQueue := [] }).endStretch p
      if (s.port p).busyNow then s else s.messageServed
    else s)

/-! The standby listens (R429). -/

/-- A run's words without bus bytes executed, up to the next bus word or END. -/
def State.runOn (s : State) : Nat → Run → Option Run
  | 0, r => some r
  | n + 1, r =>
    match s.runWord r with
    | none => none
    | some w =>
      let op := bits w 28 4
      if op = 1 ∧ (s.berth r.berth).page = some (bits w 0 8) then s.runOn n r.next
      else if op = 0 ∨ op < 8 then some r
      else
        match s.freeWord r w with
        | some t => s.runOn n t
        | none => none

/-- The transaction matches the run's bus word; what the run becomes. -/
def State.heardWord (s : State) (r : Run) (cmd : Nat) (write : Bool) (data : List Byte) : Option Run :=
  match s.runWord r with
  | none => none
  | some w =>
    let imm := bits w 0 16
    let code := bits w 16 8 == cmd
    match bits w 28 4 with
    | 1 => if write && cmd == 0 && leNat data == bits w 0 8 then some r.next else none
    | 2 => if !write && code && data.length == 1 then some (r.setSlot (bits w 24 3) (leNat data)) else none
    | 3 => if !write && code && data.length == 2 then some (r.setSlot (bits w 24 3) (leNat data)) else none
    | 4 => if !write && code && decide (data.length ≤ bits w 0 6) then some (r.setBlock w data) else none
    | 5 => if write && code && data == leBytes 1 imm then some r.next else none
    | 6 => if write && code && data == leBytes 2 (r.wordOut w) then some r.next else none
    | 7 => if write && code && data.isEmpty then some r.next else none
    | _ => none

/-- The listened run goes on to its next bus word, or commits at END. -/
def State.heardOn (s : State) (p : Nat) (r : Run) : State :=
  let s := s.setPort p { s.port p with heard := none }
  match s.runOn 33 r with
  | none => s
  | some t =>
    match s.runWord t with
    | some w => if bits w 28 4 = 0 then s.commitRun t else s.setPort p { s.port p with heard := some t }
    | none => s

/-- A bus word of a berth that another controller polls: it goes on with the run followed, or begins one. -/
def State.hear (s : State) (p b cmd : Nat) (write : Bool) (data : List Byte) : State :=
  let s := if write && cmd == 0 then s.setPage b (leNat data) else s
  let start := (s.runOn 33 (s.newRun b)).bind fun r => s.heardWord r cmd write data
  match (s.port p).heard with
  | some r =>
    match (if r.berth = b then s.heardWord r cmd write data else none) with
    | some t => s.heardOn p t
    | none => (match start with | some t => s.heardOn p t | none => s.setPort p { s.port p with heard := none })
  | none => (match start with | some t => s.heardOn p t | none => s)

/-- A berth that an Assign Address heard on the bus gives to a device (R415, R429): an arrival that this controller only follows may have failed at the
holder, so a new device takes its place. -/
def State.assignable (s : State) (b : Nat) : Bool :=
  s.berthUsed b && !(s.berth b).present && !((s.berth b).arriving && s.hosts b) && decide (2 ≤ s.berthN b 2)

/-- LISTENED_TRANSACTION (R429). -/
def execListenedTransaction (p : Nat) (t : Listened) (s : State) : Host.Outcome State Fault Refusal :=
  .next (if s.portUp p && !s.shelfHost then
      match t with
      | .assign hi lo addr =>
        let a : Arrival := { port := p, arp := true, addr := addr, udidHigh := hi, udidLow := lo }
        let s := match s.holderOf p a with | some b => s.depart b 3 | none => s
        (match ((List.range 16).map (16 * p + ·)).find? fun b => s.assignable b && s.berthN b 0x0A == addr with
        | some b => s.setBerth b { s.berth b with arriving := true, awaited := true, found := some (hi, lo), page := none }
        | none => if s.portN p 0x0A ≤ addr ∧ addr ≤ s.portN p 0x0B ∧ s.portN p 0x0A ≠ 0 then s.stray p addr else s)
      | .word b cmd write data =>
        if b / 16 = p ∧ s.berthUsed b = true then
          let v := s.berth b
          if !write && cmd == 0x20 && v.arriving then s.setBerth b { v with voutMode := leNat data }
          else if !write && cmd == 0x19 && v.arriving then
            (match s.pecOf b (leNat data) with
            | some pec => s.setBerth b { v with capability := leNat data, pec := pec }
            | none => s.setBerth b { v with arriving := false, found := none })
          else if s.hosts b then s
          else if v.present || v.arriving then s.hear p b cmd write data
          else if !write && cmd == 0x78 && s.berthN b 2 == 1 then s.setBerth b { v with arriving := true }
          else s
        else s
    else s)

/-! All joined (R54). -/

/-- A string has joined: its stage has enabled its outputs, or it has been shed. -/
def State.strJoined (s : State) (k : Nat) : Bool :=
  (s.str k).shed || (s.stageOn (s.strStage k) && ((s.stagePhases (s.strStage k)).any fun p => (s.phase p).outOn))

/-- A partner found has joined: it has arrived, and one whose output was on has entered sharing. -/
def State.berthJoined (s : State) (b : Nat) : Bool :=
  !(s.berth b).arriving && !(s.berth b).awaited && (!(s.berth b).present || s.berthKind b != 1 || !(s.berth b).onAtArrival || nth s.spm.sharing b false)

/-- Milestone 9 at the first moment the shelf is all joined. -/
def State.joinCheck (s : State) : State :=
  if s.mode.step == 8 && s.mode.discovered && (List.range 8).all (fun k => !s.strUsed k || s.strJoined k) && (List.range 64).all s.berthJoined && s.ports.all (fun v => v.todo.isEmpty) then s.milestone 9 else s

end Sys2Proof.Machine
end

