-- ==== Sys2Proof/Machine/Joining.lean ====
section
/-! DEFINITION. How strings join: precharge, contactor, stage (R52, R54, R246, R260). -/
namespace Sys2Proof.Machine

/-- Strings of a pair, s0 and s1 first. -/
def pairStrings (n : Nat) : List Nat := [2 * n, 2 * n + 1]

/-- A string waits for precharge; one that a SHED has stopped does not (R262). -/
def State.waits (s : State) (k : Nat) : Bool := s.strUsed k && (s.str k).prechargeWaiting && !(s.str k).contactor && !(s.str k).shed

/-- The rest point at the start of a precharge, when the contactor has been open for `RestTime` by the operating time (R246); with no 1 ms
mean gathered yet, it is taken over the first 100 ms of valid samples. -/
def State.prechargeRest (s : State) (k : Nat) : State :=
  let e := s.estOf k
  if s.cfgN k 0x10 * 1000 ≤ s.opMs - (s.str k).openedAt then
    if e.means.isEmpty then s.setStr k { s.str k with wakeRest := true } else if s.hasV1s k then s.restPoint k e.meanV1s e.meanI1s 0 else s
  else s

/-- The precharge of one string begins: the string is started again, which clears its volt source (Table 08-3). -/
def State.startPrecharge (s : State) (k : Nat) : State :=
  let s := (s.prechargeRest k).clearing (s.strKey k 2)
  s.setStr k { s.str k with precharging := true, prechargeWaiting := false, prechargeDone := false, prechargeFrom := s.now }

/-- The precharge of the first pair from `n` on that holds a string to precharge begins (R52). -/
def State.beginPrecharge (s : State) (n : Nat) : State :=
  match ((List.range 4).filter fun m => decide (n ≤ m)).find? fun m => (pairStrings m).any s.waits with
  | some m => forUnits ((pairStrings m).filter s.waits) (fun t k => t.startPrecharge k) s
  | none => s

/-- A string's contactor is confirmed: it has connected, and its stage's start is requested (R52). -/
def State.connect (s : State) (k : Nat) : State :=
  let s := s.setStr k { s.str k with connected := true, auxClosed := true, precharging := false, prechargeDone := false }
  (s.clearing (s.strKey k 4)).autoStart (s.strStage k)

/-- Joining begins on the holder from step 6 on: stages of connected strings start, and the first pair precharges. -/
def State.beginJoining (s : State) : State :=
  let s := forUnits ((List.range 8).filter fun k => s.strUsed k && (s.str k).connected) (fun t k => t.autoStart (t.strStage k)) s
  s.beginPrecharge 0

end Sys2Proof.Machine
end

