-- ==== Sys2Proof/Machine/Pair.lean ====
section
/-! DEFINITION. The Kopol link, the election, tracking, ownership and takeover (chapter 12). -/
namespace Sys2Proof.Machine

/-! Keys of the pair's sources (Table 12-11). -/

def State.laneKey (s : State) (ln : Nat) : Key := s.key 10 0xFF ln 1
def State.hbKey (s : State) : Key := s.key 10 0xFF 2 0
def State.twinKey (s : State) : Key := s.key 10 0xFF 3 1
def State.lockKey (s : State) : Key := s.key 10 0xFF 3 2
def State.ownKey (s : State) : Key := s.key 4 0xFF 3 0

/-- The controller carries the shelf. -/
def State.carries (s : State) : Bool := s.pair.owns && s.inModes [.active, .holdup, .blackstart]

/-! Eligibility (R354, R357). -/

/-- The twin's last good heartbeat, at most 25 µs old, reports eligible (R357). -/
def State.twinEligible (s : State) : Bool := s.pair.twinSeen && s.pair.twin.eligible && decide (s.since s.pair.twinAt ≤ 25 * ticksPerUs)

/-- `OWN_N` asserted. -/
def State.claim (s : State) : State := { s with pair := { s.pair with owns := true, reason := 0, hoAccept := false, hoRequest := false } }

/-- `track_ready` from what it rests on (R350): the snapshot and every later message up to the present period index applied, and the clock locked. -/
def State.setReady (s : State) : State :=
  let ready := s.pair.snapApplied && s.pair.early.isEmpty && s.pair.mirrorWaiting.all (fun w => decide (s.pair.periodIndex < w.1)) && s.pair.locked && s.follows
  { s with pair := { s.pair with trackReady := ready } }

/-- The descent that the holder's orderly descent makes a follower run (R47). -/
def State.followDescent (s : State) : State :=
  s.beginDescent (if s.pair.twin.target = 1 then .boot else if s.pair.twin.target = 2 then .layup else .moored) 0x0024 false

/-! Outputs of a controller that no longer holds, or takes over (R41, R172, R357). -/

/-- Every output of the package low or inactive, the tracked units unchanged. -/
def State.outputsLow (s : State) : State :=
  let s := forUnits (List.range 24) (fun t p => t.setPhase p { t.phase p with outOn := false }) s
  let s := forUnits [0, 1, 2, 3] (fun t f => t.setFeed f { t.feed f with gate := false, gateAt := if (t.feed f).gate then t.now else (t.feed f).gateAt, pg := false }) s
  forUnits (List.range 8) (fun t k => t.setStr k { t.str k with contactor := false, precharging := false }) s

/-- One phase of a running stage at a takeover (R172): its first load point loads its hold register; its outputs are enabled at once, the pulse in
progress judged (R151), unless it is on its way back to the set (R157). -/
def State.takePhase (s : State) (n p : Nat) : State :=
  let v := { s.phase p with shadow := (s.phase p).holdDuty, shadowOld := (s.phase p).holdDuty }
  s.setPhase p (if v.returning then v
    else ({ v with outOn := true, onAt := s.now }).judge (s.objN (0x3800 + p) 3) (s.objN (0x3000 + 256 * n) 0x0E) (32 * s.now) false)

/-- Outputs enabled from the hold registers and the hold levels, the hold engaged on every running phase (R172, Table 12-7 step 2). A stage before
step 4 of its start and a phase that is on its way back stay low until their own load points (R157, R158). -/
def State.takeOutputs (s : State) : State :=
  let s := forUnits ((List.range 8).filter fun n => s.stageOn n && decide (4 ≤ (s.stage n).startStep)) (fun t n =>
    (forUnits (t.runningPhases n) (fun u p => u.takePhase n p) t).engageHold n) s
  let s := forUnits [0, 1, 2, 3] (fun t f =>
    let v := t.feed f
    let g := nth t.pair.holdGates f false
    t.setFeed f { v with gate := g, gateAt := if v.gate = g then v.gateAt else t.now, on := g || v.on }) s
  forUnits (List.range 8) (fun t k =>
    let c := nth t.pair.holdContactors k false
    t.setStr k { t.str k with contactor := c, contactorAt := t.now, connected := c, precharging := nth t.pair.holdPrecharges k false }) s

/-- The mode entered by a takeover (Table 12-7 step 2), the supply state going on as received (R226). DEDUCED (log entry 149): HOLDUP follows at once
where the supply state received belongs to it (R220), and a twin that takes over in BLACKSTART goes on in it, its time counted anew (R281). -/
def State.takeShelf (s : State) (cause : Nat) : State :=
  let m := s.spm
  if s.pair.twin.mode = Mode.blackstart.code then
    let s := s.enterMode .blackstart cause
    { s with dead := { s.dead with bsFrom := s.now } }
  else
    let s := s.enterActive cause
    if m.supply = .offline then s
    else
      let s := if m.supply = .source then s else s.enterMode .holdup 0x0030
      { s with spm := { s.spm with supply := m.supply, supplySince := m.supplySince, lpf := m.lpf, grant := m.grant, grantNext := m.grantNext, hbStep := m.hbStep } }

/-! Heartbeats (R343 to R345). -/

/-- HEARTBEAT_SEND (R343): the cores have advanced `sup_live` unless they have stalled (R344). -/
def execHeartbeatSend (s : State) : Host.Outcome State Fault Refusal :=
  .next (if s.pairUp then
      let s := { s with pair := { s.pair with supLive := if s.pair.supStalled then s.pair.supLive else (s.pair.supLive + 1) % 2 ^ 16 } }
      s.sendHeartbeat
    else s)

/-- Frames of a class that an acknowledgement of one byte confirms (R341). -/
def acked (q : List SentFrame) (a : Nat) : List SentFrame :=
  if q.any (fun f => f.seq % 256 == a) then (q.dropWhile fun f => f.seq % 256 != a).drop 1 else q

/-- Clock lock from one arrival error (R349). 1 ns is 0.4 tick. -/
def State.lockStep (s : State) (err : Rat) : State :=
  let good := decide (absR err ≤ 2 / 5)
  let bad := decide (4 / 5 < absR err)
  let p := s.pair
  let runGood := if good then p.lockGood + 1 else 0
  let runBad := if bad then p.lockBad + 1 else 0
  if 3 ≤ runBad then
    let s := { s with pair := { p with lockError := err, lockGood := 0, lockBad := runBad, locked := false } }
    s.raise s.lockKey 0
  else
    let d := s.draw
    let now := p.locked || decide (100 ≤ runGood)
    let s := { d.2 with pair := { d.2.pair with lockError := err, lockGood := runGood, lockBad := runBad, locked := now, trim := clampR d.1 (-50000) 50000
                                                periodIndex := if now && !p.locked then p.twin.periodIndex else p.periodIndex } }
    if now then s.clearing s.lockKey else s

/-- The twin's image digest is this side's: the last snapshot received named it, or the twin has accepted this side's (R350, R355). Where neither has come, nothing
tells it: a free value (log entry 161). -/
def State.sameDigest (s : State) : Bool × State :=
  if s.pair.twinDigest.isEmpty && !s.pair.twinAccepted then s.drawBool
  else (s.pair.twinDigest == s.img.digest || (s.pair.twinAccepted && s.img.pairDigest.isEmpty), s)

/-- A dual claim: side B yields, and enters TRACK without a snapshot where the digests match (R355). DESIGN CHOICE (log entry 161): a carrying side B
whose digest differs can follow no holder, and leaves as a former owner that a TRIP takes does (R48, R362); one in RISE stays there. -/
def State.dualClaim (s : State) : State :=
  if s.supply.sideB then
    let same := s.sameDigest.1
    let was := s.carries
    let s := s.sameDigest.2.releaseOwn 9
    let s := { s with pair := { s.pair with dualClaims := s.pair.dualClaims + 1, snapApplied := same } }
    if was then (if same then s.outputsLow.enterMode .track 0x0023 else (s.outputsSafe .safe).supersedeRequest.beginDescent .moored 0x0040 true)
    else if same && s.inMode .rise && decide (6 ≤ s.mode.step) && s.regionOn .eng then s.outputsLow.enterMode .track 0x0021
    else s
  else s

/-- A pair update reaches a state, with its record: of the firmware slot where the update brings one, else of the configuration slot (R495; DEDUCED, log entry 176). -/
def State.pairReach (s : State) (n : Nat) : State :=
  let fw := s.img.fwRun != some s.img.fwNext && (s.img.slot 1 s.img.fwNext).valid
  let k := if n = 1 ∨ s.img.pairKind = 0 then (if fw then 1 else 2) else s.img.pairKind
  ({ s with img := { s.img with pairState := n, pairKind := k } }).imageNote (0x0A + n) k (if k = 1 then s.img.fwNext else s.img.imgNext) 0

/-- A handover offered (Table 12-9 step 1). -/
def State.applyHandover (s : State) : State := { s with pair := { s.pair with hoRequest := true, hoState := 1, hoFrom := s.now } }

/-- What refuses a `HandoverRequest` of 1 (R363). -/
def State.handoverStatus (s : State) : Nat :=
  let t := s.pair.twin
  if s.pair.owns && s.inMode .active && s.spm.supply == .source && !s.pair.hoRequest && s.pair.twinSeen && t.mode == Mode.track.code && t.trackReady && t.eligible
      && t.locked then 0 else stState

/-- The pair update follows what the twin reports (Table 17-6 steps 4 to 7). -/
def State.pairProgress (s : State) (hb : Heartbeat) : State :=
  let s := if s.img.pairState = 2 ∧ hb.mode = Mode.track.code then s.pairReach 3 else s
  let s := if s.img.pairState = 3 ∧ s.handoverStatus = 0 then s.applyHandover.pairReach 4 else s
  if s.img.pairState = 4 ∧ s.inMode .track = true ∧ s.pair.hoState = 3 then (s.pairReach 5).selfRestart
  else if s.img.pairState = 5 ∧ s.pair.trackReady = true then s.pairReach 6 else s

/-- The objects of a row. -/
def ObjRow.objects (r : ObjRow) : List (Nat × Nat) :=
  (List.range r.n).flatMap fun i => (List.range (r.s1 + 1 - r.s0)).map fun j => (r.base + r.stride * i, r.s0 + j)

/-- The pair-common objects whose values the dictionary holds (R350, R368): the share trims are part of the manager's state, and the time is told as such. -/
def commonObjects : List (Nat × Nat) :=
  ((objRows.filter fun r => r.acc == .rw && decide (0x3800 ≤ r.base) && decide (r.base ≤ 0x5900)).flatMap ObjRow.objects).filter fun k => isCommon k.1 k.2 && k.1 != 0x4504

/-- The snapshot as the holder copies it now (R350). -/
def State.snapshotNow (s : State) : Snapshot :=
  { periodIndex := s.pair.periodIndex
    insts := s.insts.map fun i => (i.states, i.out)
    pgs := s.pgs, rcs := s.rcs, obs := s.obs, spm := s.spm, windows := s.strs.map Str.slackNews, ests := s.strs.map (·.est), chargers := s.chargers, dead := s.dead
    stages := (List.range 8).map fun n => s.newsOf n (s.boundaryPlace n)
    common := commonObjects.map fun k => (objKey k.1 k.2, s.raw k.1 k.2)
    digest := s.img.digest, manifest := match s.firmware with | some f => f.header.manifestMax | none => 0 }

/-- The snapshot sent to the twin. -/
def State.sendSnapshot (s : State) : State :=
  let p := s.snapshotNow
  let s := s.sendFrame 5 (.snapshot p)
  { s with pair := { s.pair with snapWanted := false, snapSentAt := some p.periodIndex, snapTick := s.now, told := p.stages } }

/-- The carrier of `ref_stage` runs, at whose boundaries a snapshot is copied and mirror writes are applied (R350, R367). -/
def State.refRuns (s : State) : Bool := s.stageUsed s.variant.refStage && s.tide.pulsed && s.pwmPowered

/-- What the holder takes from a good heartbeat: the handover's progress, and the twin's need of a snapshot (R350, R363), which is copied at the next
carrier boundary of `ref_stage`. DEDUCED (log entry 153): at once while that carrier does not run; again where the twin still reports no readiness after
the 25 ms within which a snapshot is sent and applied. -/
def State.holderHears (s : State) (hb : Heartbeat) : State :=
  let s := if s.pair.hoState = 1 ∧ hb.accept = true then { s with pair := { s.pair with hoState := 2 } } else s
  let follows := hb.mode == Mode.rise.code || hb.mode == Mode.track.code
  let wants := follows && !hb.trackReady
  let s := { s with pair := { s.pair with twinAccepted := s.pair.twinAccepted || (follows && hb.trackReady) } }
  if !wants then { s with pair := { s.pair with snapSentAt := none, snapWanted := false } }
  else if s.pair.snapSentAt.isSome && !(decide (25 * ticksPerMs ≤ s.since s.pair.snapTick)) then s
  else if s.refRuns then { s with pair := { s.pair with snapWanted := true } }
  else s.sendSnapshot

/-- A gate command follows the holder's level (R228), and an output feed that it turns on is in inrush until its own voltage says otherwise; power-good
follows its conditions (R235). -/
def State.followGate (s : State) (f : Nat) (g : Bool) : State :=
  let v := s.feed f
  let rush := g && decide (2 ≤ f)
  if v.gate = g then s
  else
    (s.setFeed f { v with gate := g, gateAt := s.now, inrush := v.inrush || rush, inrushFrom := if rush && !v.inrush then s.now else v.inrushFrom
                          runSince := if rush then s.now else v.runSince, doneRun := if rush then 0 else v.doneRun }).updatePg f

/-- What a follower takes from a good heartbeat: hold levels, clock lock, readiness, an orderly descent (R47, R349, R351). -/
def State.followerHears (s : State) (hb : Heartbeat) (err : Rat) : State :=
  let s := { s with pair := { s.pair with holdGates := hb.gates, holdContactors := hb.contactors, holdPrecharges := hb.precharges
                                          hoAccept := s.pair.hoAccept && hb.offer } }
  let s := forUnits [0, 1, 2, 3] (fun t f => t.followGate f (nth hb.gates f false)) s
  let s := (s.lockStep err).setReady
  if hb.orderly then s.followDescent else s

/-- A good heartbeat taken. -/
def State.takeHeartbeat (s : State) (hb : Heartbeat) (err : Rat) : State :=
  let s : State := { s with pair := { s.pair with
    early := s.pair.early.map fun e => (some (e.1.getD hb.periodIndex), e.2)
    twin := hb, twinSeen := true, twinAt := s.now, twinExpect := s.now + 10 * ticksPerUs, missRun := 0, hbLost := false
    netHigh := !hb.drives, netHighAt := if s.pair.netHigh then s.pair.netHighAt else s.now
    unacked := (List.range 4).map fun i => acked (nth s.pair.unacked i []) (nth hb.ack i 0)
    hoState := if s.pair.hoState = 2 ∧ s.pair.owns = false ∧ hb.drives = true then 3 else s.pair.hoState
    hoRequest := s.pair.hoRequest && !(s.pair.hoState == 2 && !s.pair.owns && hb.drives) } }
  let s := (s.clearing s.hbKey).clearing s.twinKey
  let s := if s.pair.owns && hb.drives then s.dualClaim
    else if s.pair.owns then s.holderHears hb
    else if s.follows then s.followerHears hb err
    else s
  s.pairProgress hb

/-! Frames in sequence (R339 to R341). -/

/-- A frame number follows the last one of its class: the next one; in class 1, whose frames are not repeated, a later one. DESIGN CHOICE (log entry
160). The first frame of a class after the link came up is in sequence. -/
def State.frameFollows (s : State) (c seq : Nat) : Bool :=
  let last := nth s.pair.rxSeq (c - 1) 0
  !nth s.pair.rxSync (c - 1) false
    || (if c = 1 then seq != last && decide ((seq + 2 ^ 32 - last) % 2 ^ 32 < 2 ^ 31) else seq == (last + 1) % 2 ^ 32)

/-- A frame of a class is taken where its CRC is good and it is in sequence; else it is dropped and counted (R341). -/
def State.seqIn (s : State) (c seq : Nat) (ok : Bool) : State × Bool :=
  if ok && s.frameFollows c seq then ({ s with pair := { s.pair with rxSeq := put s.pair.rxSeq (c - 1) seq, rxSync := put s.pair.rxSync (c - 1) true } }, true)
  else ({ s with pair := { s.pair with linkErrors := s.pair.linkErrors + 1 } }, false)

/-- A frame of a type of Table 12-2 and its class, by its header: one of another type or of more than 256 bytes is dropped and counted (R339 to R341). -/
def State.frameIn (s : State) (c type : Nat) (hd : FrameHead) (crcOk : Bool) : State × Bool :=
  s.seqIn c hd.seq (crcOk && hd.type == type && decide (hd.length ≤ 256))

/-- HEARTBEAT_RECEIVED (R341, R344): good when a copy passes its CRC, `sup_live` has advanced and the mode is not LOCKOUT. The release reason counts also
of one that is not good (Table 12-12). -/
def execHeartbeatReceived (frame : Nat × Heartbeat) (err : Rat) (ok0 ok1 : Bool) (s : State) : Host.Outcome State Fault Refusal :=
  let hb := frame.2
  .next (if s.pairUp then
      let up := fun (i : Nat) => nth s.pair.lanes i false && !s.isShed 10 0xFF i
      let bad := b2n (up 0 && !ok0) + b2n (up 1 && !ok1)
      let s := { s with pair := { s.pair with linkErrors := s.pair.linkErrors + bad } }
      if (up 0 && ok0) || (up 1 && ok1) then
        let f := s.seqIn 1 frame.1 true
        let good := f.1.pair.heardLive != some hb.supLive && hb.mode != Mode.lockout.code
        let t := { f.1 with pair := { f.1.pair with heardLive := some hb.supLive, heardReason := hb.reason
                                                    lastReason := if hb.reason = 0 then f.1.pair.lastReason else hb.reason } }
        if !f.2 then f.1 else if good then t.takeHeartbeat hb err else t
      else s
    else s)

/-- HEARTBEAT_MISS (R345): the second in a row means that the twin is lost; a follower's readiness ends (R351). -/
def execHeartbeatMiss (s : State) : Host.Outcome State Fault Refusal :=
  .next (if s.pairUp && s.pair.twinSeen && decide (s.pair.twinExpect + 5 * ticksPerUs / 2 ≤ s.now) then
      let n := s.pair.missRun + 1
      let s := { s with pair := { s.pair with missRun := n, twinExpect := s.pair.twinExpect + 10 * ticksPerUs } }
      if n = 2 then
        let s := { s with pair := { s.pair with
          hbMisses := s.pair.hbMisses + 1, hbLost := true, snapApplied := false, trackReady := false
          rxSync := List.replicate 5 false, early := [], snapHeld := none } }
        let s := s.raise s.hbKey 0
        if s.img.pairState = 1 then s.pairReach 2 else s
      else s
    else s)

/-- TWIN_ABSENT_TIMEOUT (R366, R370): no good heartbeat for 1 s. What was not acknowledged reaches the twin in its next snapshot (R367). -/
def execTwinAbsentTimeout (s : State) : Host.Outcome State Fault Refusal :=
  .next (if s.pairUp && s.elapsed s.pair.twinAt 1 then
      let s := { s with pair := { s.pair with unacked := List.replicate 4 [], snapSentAt := none, snapWanted := false } }
      s.raise s.twinKey 0
    else s)

/-! Election (R346 to R348). -/

/-- The election runs: step 2 is done and no decision has come. -/
def State.electing (s : State) : Bool := s.pairUp && s.inMode .boot && s.mode.step == 2 && s.pair.frozen.isSome && !s.pair.electionDone

/-- The decision: the winner asserts `OWN_N` when the net is released; else it loses (R56, R347). The level of the net as the controller finds it
at step 3 is a free value (log entry 113). -/
def State.elect (s : State) (wins : Bool) : State :=
  let d := s.drawBool
  let s := { d.2 with pair := { d.2.pair with netHigh := d.1 } }
  let s := if wins && s.pair.netHigh then s.claim else s
  ({ s with pair := { s.pair with electionDone := true } }).milestone 3

/-- ELECTION_FRAME_SEND (R347): until the twin's frame has come. -/
def execElectionFrameSend (s : State) : Host.Outcome State Fault Refusal :=
  .next (if s.pairUp && s.pair.frozen.isSome && s.pair.twinScore.isNone then
      { s with pair := { s.pair with txSeq := put s.pair.txSeq 0 (s.nextSeq 1) } } else s)

/-- The 60 ms have passed within which the twin's frame decides (R348). -/
def State.electionLate (s : State) : Bool := s.elapsed s.mode.since (60 / 1000)

/-- ELECTION_FRAME_RECEIVED (R341, R347): side A wins unless its frozen score is lower than side B's. A frame that comes after 60 ms decides nothing
(R348). -/
def execElectionFrameReceived (e : ElectionFrame) (s : State) : Host.Outcome State Fault Refusal :=
  .next (if s.pairUp then
      let f := s.frameIn 1 0x02 e.hd e.crcOk
      if f.2 then
        let s := f.1
        let own := s.pair.frozen.getD 0
        let wins := if s.supply.sideB then decide (e.score < own) else decide (e.score ≤ own)
        let run := s.electing && !s.electionLate
        let s := { s with pair := { s.pair with twinScore := some e.score } }
        if run then s.elect wins else s
      else f.1
    else s)

/-- ELECTION_TIMEOUT (R348): 60 ms after the POR release on side A, 65 ms on side B. -/
def execElectionTimeout (s : State) : Host.Outcome State Fault Refusal :=
  .next (if s.electing && s.elapsed s.mode.since (if s.supply.sideB then 65 / 1000 else 60 / 1000) then
      (s.elect true).raise s.twinKey 0
    else s)

/-- HEALTH_UPDATE (R346). -/
def execHealthUpdate (s : State) : Host.Outcome State Fault Refusal :=
  .next (if s.regionOn .sup then { s with pair := { s.pair with health := s.healthScore } } else s)

/-! Tracked items (Table 12-5). -/

/-- A step of Table 05-4 that the holder's stage has reached, made on the follower's (R131, R143). -/
def State.followStep (s : State) (st j : Nat) : State :=
  match j with
  | 1 => s.startStage st
  | 2 => (s.prebias st).setStage st { (s.prebias st).stage st with startStep := 2 }
  | 3 => (s.prebiasLoad st).setStage st { (s.prebiasLoad st).stage st with startStep := 3 }
  | 4 => s.beginRamp st
  | _ => s.setStage st { s.stage st with startStep := 5, rampOn := false, prebias := false }

/-- A phase as the message reports it: dropped with its cause, running, or returned at its next load point (R143, R154, R157). -/
def Phase.follow (v : Phase) (on : Bool) (cause : Nat) : Phase :=
  if cause = 5 then { (if v.inSet then v.low else v) with enable := false, dropped := false, dropCause := 0 }
  else if cause ≠ 0 then (if v.dropped && !v.inSet then v else { v.low with enable := false, dropped := true, dropCause := cause })
  else if on && !v.inSet then { v with enable := true, dropped := false, dropCause := 0, inSet := true, returning := true, awaitsSet := true, missedCommits := 0 }
  else if v.inSet then { v with enable := true }
  else { v with enable := true, dropped := false, dropCause := 0 }

/-- The phases of a stage as the message reports them; a drop that is new is the observer's last one (R198, R199). -/
def State.followPhases (s : State) (st : Nat) (on : Bool) (n : StageNews) : State :=
  forUnits (s.stagePhases st) (fun t p =>
    let v := t.phase p
    let w := v.follow on (nth n.drops (p - t.stageFirst st) 0)
    let t := if w.dropped && !v.dropped then t.setObserver st { t.observer st with lastDrop := p } else t
    t.setPhase p w) s

/-- The offsets of the set in force, moved to as the holder's are (R155). -/
def State.followAngles (s : State) (st set : Nat) : State :=
  let inSet := fun p => (s.phase p).inSet
  let s1 := (s.setOffsets st inSet).foldl (fun t (po : Nat × Nat) => t.setPhase po.1 { t.phase po.1 with offsetNext := po.2, awaitsSet := false }) s
  s1.setStage st { s1.stage st with angleSet := set, releavePending := false
                                    reinterleaving := (s.setOffsets st inSet).any fun po => (s.phase po.1).offset != po.2 }

/-- A stage's news put in force: stopped as the holder's is, or started step by step, with its drops and angles. -/
def State.takeNews (s : State) (st : Nat) (n : StageNews) : State :=
  if !n.state.switches then (s.stopStage n.state st).followPhases st false n
  else
    let was := s.stageOn st
    let s := s.followPhases st was n
    let from_ := if was then (s.stage st).startStep else 0
    let s := forUnits (((List.range 5).map (· + 1)).filter fun j => decide (from_ < j) && decide (j ≤ n.step)) (fun t j => t.followStep st j) s
    let s := if was && n.angleSet == angleSetOf (s.missing st fun p => (s.phase p).inSet) then s.followAngles st n.angleSet else s
    let s := match n.decision with
      | none => s
      | some (j, c) =>
        let o := s.observer st
        s.setObserver st { o with lastClass := c, ph := if c = 1 then put o.ph j (s.beginSubst (nth o.ph j {})) else o.ph }
    let s := n.ends.foldl (fun t j => t.setObsPhase st j (t.endedSubst (nth (t.observer st).ph j {}))) s
    let s := s.setObserver st { s.observer st with capShort := n.short }
    s.setStage st { s.stage st with state := n.state }

/-- A stage that the holder runs when the snapshot is taken: it runs here too, in the holder's state and running set, its instances on the states that
the snapshot gave (R143, R350). -/
def State.joinStage (s : State) (st : Nat) (n : StageNews) : State :=
  let s := forUnits (s.stageInsts st) (fun t l => t.setInst l { t.inst l with active := decide (4 ≤ n.step), run := .idle, aborted := false }) s
  let on := fun p => nth n.drops (p - s.stageFirst st) 0 == 0
  let s := s.followPhases st false n
  let s := (s.setOffsets st on).foldl (fun t (po : Nat × Nat) =>
    t.setPhase po.1 { t.phase po.1 with inSet := true, returning := false, dropped := false, dropCause := 0, offset := po.2, offsetNext := po.2 }) s
  s.setStage st { s.stage st with state := n.state, startStep := n.step, angleSet := angleSetOf (s.missing st on), band := s.stageBandNow st }

/-- News that wait for a stage's boundary and are due. -/
def State.dueNews (s : State) (st : Nat) : State :=
  let g := s.stage st
  let k := s.boundaryPlace st
  let due := g.news.filter fun n => decide (n.k ≤ k)
  let s := s.setStage st { g with news := g.news.filter fun n => decide (k < n.k) }
  due.foldl (fun t n => if t.follows then (t.takeNews st n).railsFollow st else t) s

/-- φ and T of the active at a wrap, T 0 while it is unlocked (R191, 0x3C0n:08): a new T acts on the table as R189 says. -/
def State.rcFollow (s : State) (n : Nat) (ph T : Rat) : State :=
  let r := s.rc n
  let s := if s.objN (0x3C00 + n) 2 = 0 then s
    else if T = 0 then (if r.locked then s.rcUnlock n else s)
    else if T = r.period ∧ r.locked = true then s
    else (if r.period ≠ 0 ∧ absR (T - r.period) ≤ r.period / 4 then s.rcApply n T else s.rcFresh n T).clearing (s.key 3 0xFF (0x10 + n) 2)
  s.setRc n { s.rc n with phase := ph }

/-- The manager's state as received (R226): the holder's supply state, targets, grant and windows, which the window instances' limits follow; what this
side measures and raises itself stays. -/
def State.takeSpm (s : State) (m : Spm) : State :=
  let o := s.spm
  let s := { s with spm := { m with details := o.details, stageSum := o.stageSum, stageCnt := o.stageCnt, feedSum := o.feedSum, feedCnt := o.feedCnt
                                    lastUpdate := o.lastUpdate } }
  forUnits (s.stagesOf 0 ++ s.stagesOf 2) (fun t n => t.setWindow n (nth m.winLo n 0) (nth m.winHi n 0)) s

/-- The slack-water windows and the probe of the active (R261). -/
def State.takeWindows (s : State) (l : List SlackNews) : State :=
  forUnits (List.range l.length) (fun t k =>
    let w := nth l k {}
    t.setStr k { t.str k with slack := w.slack, slackFrom := w.slackFrom, slackByCharger := w.slackByCharger, slackI0 := w.slackI0
                              slackUpFrom := w.slackUpFrom, slackUpI0 := w.slackUpI0, pPlus := w.pPlus, pMinus := w.pMinus, marginBadSince := none
                              probeMark := w.probeMark, probeState := w.probeState }) s

/-- A tracking message applied by a follower. -/
def State.takeTrack (s : State) (m : TrackMsg) : State :=
  match m with
  | .stage st n => ({ s with stages := put s.stages st { s.stage st with news := (s.stage st).news ++ [n] } }).dueNews st
  | .pg n g => s.setPg n g
  | .rc n ph T => s.rcFollow n ph T
  | .spm m w => (s.takeSpm m).takeWindows w
  | .estimator k e => s.setStr k { s.str k with estNews := some e }
  | .charger k c => s.setCharger k c
  | .blackstart d => { s with dead := { s.dead with bsState := d.bsState, bsFrom := d.bsFrom, bsInSince := d.bsInSince } }
  | .ptp tai =>
    let s := s.settleTime
    let off := ((s.net.time.tai : Rat) - (tai : Rat)) * 5 / 2
    { s with pair := { s.pair with timeOffset := off }, net := { s.net with time := { s.net.time with slew := -off } } }

/-- A message that comes before the snapshot waits for it, with the period index at which it takes effect (R350). DESIGN CHOICE (log entry 160): for a tracking
message, which names none, that of the next heartbeat. -/
def State.keepEarly (s : State) (k : Option Nat) (b : KopolBody) : State := { s with pair := { s.pair with early := s.pair.early ++ [(k, b)] } }

/-- TRACKING_MESSAGE_RECEIVED (R341, R350, R351): the message comes whole with its last frame. -/
def execTrackingMessageReceived (hd : FrameHead) (crcOk : Bool) (m : TrackMsg) (s : State) : Host.Outcome State Fault Refusal :=
  .next (if s.pairUp then
      let f := s.frameIn 2 0x10 hd crcOk
      if f.2 && hd.last && f.1.follows then
        if f.1.pair.snapApplied then f.1.takeTrack m else f.1.keepEarly none (.track m)
      else f.1
    else s)

/-! Alignment (R352). -/

/-- An alignment message is due: the holder's last one lies `AlignPeriod` back (R352). -/
def State.alignDue (s : State) : Bool :=
  s.pairUp && s.pair.owns && (match s.pair.alignAt with | some t => s.elapsed t (s.objR 0x2500 0x0E) | none => true)

/-- ALIGNMENT_SEND (R352): the integrator states of the RUNNING stages, after the commits of the last period completed. -/
def execAlignmentSend (s : State) : Host.Outcome State Fault Refusal :=
  .next (match s.pair.ownStates with
    | (k, l) :: _ =>
      if s.alignDue then
        let s := s.sendFrame 3 (.align k l)
        { s with pair := { s.pair with lastAlign := l, alignIndex := k, alignAt := some s.now } }
      else s
    | [] => s)

/-- hi − lo of the section that holds a state. -/
def State.sectionSpan (s : State) (lp idx : Nat) : Rat :=
  match s.loopRec lp with
  | none => 0
  | some r => let x := nth (s.slotsOf r (s.inst lp).set) (idx / 2) {}; F32.toRat x.hi - F32.toRat x.lo

/-- Δ of each state of a message that this side kept for the same period, with whether it is above the limit. -/
def State.alignDeltas (s : State) (own items : List AlignItem) : List (AlignItem × Rat × Bool) :=
  items.filterMap fun a =>
    match own.find? fun o => o.lp == a.lp && o.idx == a.idx with
    | none => none
    | some o =>
      let d := F32.toRat a.val - F32.toRat o.val
      some (a, d, decide (s.objR 0x2500 0x19 * s.sectionSpan a.lp a.idx < absR d))

/-- An alignment message applied by a follower. -/
def State.takeAlign (s : State) (k : Nat) (items : List AlignItem) : State :=
  if k + 16 < s.pair.periodIndex then { s with pair := { s.pair with alignCorr := s.pair.alignCorr + 1 } }
  else
    match s.pair.ownStates.find? fun o => o.1 == k with
    | none => s
    | some o =>
      let l := s.alignDeltas o.2 items
      let big := (l.filter fun x => x.2.2).length
      let s := l.foldl (fun t x => t.setInst x.1.lp ((t.inst x.1.lp).correct x.1.idx x.2.1)) s
      { s with pair := { s.pair with alignCorr := s.pair.alignCorr + big, alignMax := l.foldl (fun m x => maxR m (absR x.2.1)) 0
                                     hoAccept := s.pair.hoAccept || (s.pair.twin.offer && big == 0) } }

/-- ALIGNMENT_RECEIVED (R352, R363 step 2). -/
def execAlignmentReceived (hd : FrameHead) (crcOk : Bool) (k : Nat) (items : List AlignItem) (s : State) : Host.Outcome State Fault Refusal :=
  .next (if s.pairUp then
      let f := s.frameIn 3 0x20 hd crcOk
      if f.2 && hd.last && f.1.follows then f.1.takeAlign k items else f.1
    else s)

/-! Mirror writes (R366, R367). -/

/-- A pair-common value of the holder put in force on the twin. What the value starts on the holder reaches the twin as tracked state. -/
def State.takeCommon (s : State) (key : Nat) (data : List Byte) : State :=
  let idx := key / 256
  let sub := key % 256
  if idx = 0x2310 ∧ sub = 1 then s.applyTimeSet (leNat data)
  else if idx = 0x2310 ∧ sub = 2 then s.applyPhase (leInt data)
  else if idx = 0x2310 ∧ sub = 3 then s.applyTraceable (leNat data)
  else if idx = 0x4504 then s.applyShareTrim (sub - 1) (realOf data)
  else if isCommon idx sub then s.setObj idx sub data
  else s

/-- Mirror writes whose period, up to period `k`, has come. -/
def State.dueMirrors (s : State) (k : Nat) : State :=
  let due := s.pair.mirrorWaiting.filter fun w => decide (w.1 ≤ k)
  let s := { s with pair := { s.pair with mirrorWaiting := s.pair.mirrorWaiting.filter fun w => decide (k < w.1) } }
  due.foldl (fun t w => t.takeCommon w.2.1 w.2.2) s

/-- A mirror write taken: at its period, or at the next carrier boundary when that has passed (R367). DEDUCED (log entry 153): at the next boundary
while the clocks are not locked, and at once while the carrier does not run. -/
def State.takeMirror (s : State) (k key : Nat) (data : List Byte) : State :=
  if s.refRuns then
    let at_ := if s.pair.locked then max k (s.pair.periodIndex + 1) else s.pair.periodIndex + 1
    { s with pair := { s.pair with mirrorWaiting := s.pair.mirrorWaiting ++ [(at_, key, data)] } }
  else s.takeCommon key data

/-- MIRROR_WRITE_RECEIVED (R350, R367). -/
def execMirrorWriteReceived (hd : FrameHead) (crcOk : Bool) (k idx sub : Nat) (data : List Byte) (s : State) : Host.Outcome State Fault Refusal :=
  .next (if s.pairUp then
      let f := s.frameIn 4 0x30 hd crcOk
      if f.2 && hd.last && !f.1.pair.owns then
        if f.1.follows && !f.1.pair.snapApplied then f.1.keepEarly (some k) (.mirror k (objKey idx sub) data) else f.1.takeMirror k (objKey idx sub) data
      else f.1
    else s)

/-! Snapshot (R350). -/

/-- A follower in RISE with its engines running and the snapshot applied enters TRACK (Table 02-5, R56). -/
def State.tryTrack (s : State) : State :=
  if s.inMode .rise && !s.pair.owns && s.regionOn .eng && decide (6 ≤ s.mode.step) && s.pair.snapApplied then (s.enterMode .track 0x0021).setReady else s

/-- What has waited for the snapshot and was sent after its copy, applied in order (R350). -/
def State.takeEarly (s : State) (k : Nat) : State :=
  let l := s.pair.early.filter fun e => e.1.all fun i => decide (k ≤ i)
  l.foldl (fun t e => match e.2 with
    | .track m => t.takeTrack m
    | .mirror i key data => t.takeMirror i key data
    | _ => t) { s with pair := { s.pair with early := [] } }

/-- The pair-common values of a snapshot put in force (R350, R491): one whose object this side's image does not have is dropped, and an object that the snapshot does
not carry takes the image's value. -/
def State.takeCommons (s : State) (l : List (Nat × List Byte)) : State :=
  let s := { s with cfg := s.cfg.filter fun p => !isCommon (p.1 / 256) (p.1 % 256) || l.any fun w => w.1 == p.1 }
  (l.filter fun w => !(s.raw (w.1 / 256) (w.1 % 256)).isEmpty).foldl (fun t w => t.takeCommon w.1 w.2) s

/-- A snapshot put in force: states, generators, controllers, observers, manager, strings, chargers, black start, pair-common values. DESIGN CHOICE
(log entry 144): a stage that the holder no longer runs stops with it. The states of a loop or a string that this side's image does not use are dropped (R491). -/
def State.takeSnapshot (s : State) (p : Snapshot) : State :=
  let s := { s with
    insts := (List.range 64).map fun l => match p.insts[l]?, s.loopRec l with | some (st, o), some _ => { (s.inst l).write st with out := o } | _, _ => s.inst l
    pgs := if p.pgs.length = 16 then p.pgs else s.pgs
    rcs := if p.rcs.length = 8 then p.rcs else s.rcs
    obs := if p.obs.length = 8 then p.obs else s.obs
    chargers := if p.chargers.length = 8 then p.chargers else s.chargers
    dead := { s.dead with bsState := p.dead.bsState, bsFrom := p.dead.bsFrom, bsInSince := p.dead.bsInSince } }
  let s := (s.takeSpm p.spm).takeWindows p.windows
  let s := forUnits ((List.range p.ests.length).filter s.strUsed) (fun t k => t.setStr k { t.str k with estNews := some (nth p.ests k {}) }) s
  let s := s.takeCommons p.common
  let news := fun n => nth p.stages n {}
  let on := fun n => (news n).state.switches
  let s := forUnits ((List.range 8).filter fun n => s.stageUsed n && on n) (fun t n =>
    (if t.stageOn n then t.takeNews n (news n) else t.joinStage n (news n)).railsFollow n) s
  let s := forUnits ((List.range 8).filter fun n => s.stageUsed n && !on n) (fun t n =>
    let u := if t.stageOn n then t.stopStage (news n).state n else t.setStage n { t.stage n with state := (news n).state }
    (u.followPhases n false (news n)).railsFollow n) s
  let s := { s with pair := { s.pair with snapApplied := true, twinDigest := p.digest, snapTime := s.since s.pair.snapFrom, fragments := 0, snapHeld := none } }
  s.takeEarly p.periodIndex

/-- The digest fits, or it is the one recorded at step 1 of a pair update and the firmware reads the manifest (R350, R491). -/
def State.snapshotFits (s : State) (p : Snapshot) : Bool :=
  p.digest == s.img.digest
    || (!s.img.pairDigest.isEmpty && p.digest == s.img.pairDigest
        && (match s.firmware with | some f => decide (f.header.manifestMin ≤ p.manifest) && decide (p.manifest ≤ f.header.manifestMax) | none => false))

/-- An accepted snapshot put in force, or held while ENG, which loads its memories when it starts, does not run (R42, R350). -/
def State.applySnapshot (s : State) (p : Snapshot) : State :=
  if s.regionOn .eng then ((s.takeSnapshot p).setReady).tryTrack else { s with pair := { s.pair with snapHeld := some p, fragments := 0 } }

/-- The snapshot that waited for ENG, put in force. -/
def State.applyHeld (s : State) : State := match s.pair.snapHeld with | some p => s.applySnapshot p | none => s.tryTrack

/-- SNAPSHOT_FRAGMENT_RECEIVED (R350). -/
def execSnapshotFragmentReceived (hd : FrameHead) (crcOk : Bool) (k : Nat) (snap : Snapshot) (s : State) : Host.Outcome State Fault Refusal :=
  .next (if s.pairUp then
      let f := s.frameIn 5 0x40 hd crcOk
      if f.2 && f.1.follows then
        let t := { f.1 with pair := { f.1.pair with fragments := f.1.pair.fragments + 1, snapFrom := if f.1.pair.fragments = 0 then s.now else f.1.pair.snapFrom } }
        if !hd.last then t
        else if t.snapshotFits snap then t.applySnapshot { snap with periodIndex := k }
        else { t with pair := { t.pair with fragments := 0 } }
      else f.1
    else s)

/-! Lanes (R341, R342). -/

/-- KOPOL_FRAME_RETRANSMIT (R341): every unacknowledged frame of the class is sent again when the oldest is 50 µs old. -/
def execKopolFrameRetransmit (cls : Nat) (s : State) : Host.Outcome State Fault Refusal :=
  .next (match nth s.pair.unacked (cls - 2) [] with
    | [] => s
    | f :: fs =>
      if s.pairUp && decide (2 ≤ cls) && decide (f.at_ + 50 * ticksPerUs ≤ s.now) then
        { s with pair := { s.pair with unacked := put s.pair.unacked (cls - 2) ((f :: fs).map fun x => { x with at_ := s.now }), retransmits := s.pair.retransmits + fs.length + 1 } }
      else s)

/-- LANE_DOWN (R342). -/
def execLaneDown (lane : Nat) (s : State) : Host.Outcome State Fault Refusal :=
  .next (if s.pairUp && decide (lane < 2) then
      let s := { s with pair := { s.pair with lanes := put s.pair.lanes lane false } }
      s.raise (s.laneKey lane) 0
    else s)

/-- LANE_RETRAIN (R338, R342): a lane that passes is up, with the link delay measured. -/
def execLaneRetrain (lane : Nat) (ok : Bool) (roundTrip : Rat) (s : State) : Host.Outcome State Fault Refusal :=
  .next (if s.pairUp && decide (lane < 2) && ok && !nth s.pair.lanes lane true then
      let s := { s with pair := { s.pair with lanes := put s.pair.lanes lane true, linkDelay := roundTrip / 2 } }
      s.clearing (s.laneKey lane)
    else s)

/-! Ownership (R354 to R358). -/

/-- The takeover of Table 12-7. -/
def State.takeover (s : State) : State :=
  let reason := s.pair.heardReason
  let d := s.draw
  let gap := s.since s.pair.twinAt + timeBelow d.1 (11 * ticksPerUs / 10)
  let s := d.2.supersedeRequest.takeOutputs.claim
  let s := { s with img := { s.img with pairDigest := [] } }
  let s := { s with pair := { s.pair with takeovers := s.pair.takeovers + 1, lastGap := gap
                                          invalidFrom := if reason = 0 then s.pair.twinAt else s.pair.invalidFrom
                                          invalidTo := if reason = 0 then s.now + 6 * ticksPerUs else s.pair.invalidTo } }
  let s := (s.takeShelf (if reason = 7 then 0x0023 else 0x0022)).record 0x0030 1 0 0 (leBytes 1 reason ++ realBytes (secOf gap))
  (s.trigEvent { bit := 2, at_ := s.now, ref := some (s.refNow 0x0030 { id := 0, kind := 0 }) }).emcyOf 10 1

/-- The release that has come is not to be claimed: it carries reason 0x08, or a heartbeat has reported an orderly descent (R348). A controller whose
link has failed receives no reason. -/
def State.orderlyHeard (s : State) : Bool := !s.pair.hbLost && (s.heardDescent || (s.pair.twinSeen && s.pair.twin.orderly))

/-- OWN_N_RELEASED (R348, R358): the net has been high for 1 µs. A controller that waits as non-holder, in BOOT after its election or in RISE, claims. -/
def execOwnNReleased (s : State) : Host.Outcome State Fault Refusal :=
  .next (if s.pair.owns || s.supply.phase != .running then s
    else
      let s := { s with pair := { s.pair with netHigh := true, netHighAt := s.now - ticksPerUs } }
      if s.eligible then s.takeover
      else if s.inMode .rise then
        (if s.orderlyHeard then s.followDescent
        else if 6 ≤ s.mode.step then s.claim.beginJoining else s.claim)
      else if s.inMode .boot && s.pair.electionDone && !s.orderlyHeard then s.claim
      else s)

/-- OWN_READBACK_FAULT (R354). -/
def execOwnReadbackFault (s : State) : Host.Outcome State Fault Refusal := .next (if s.pair.owns then s.raise s.ownKey 0 else s)

/-- A self-release, when the twin reports eligible (R357). -/
def State.selfRelease (s : State) (reason : Nat) : State :=
  if s.twinEligible then
    let s := s.releaseOwn reason
    { s with pair := { s.pair with selfRelease := some s.now, tripOnResume := true } }
  else s

/-- ENG_STOP_SELF_RELEASE (R171, R357): ENG has left ON; the hold engages on every started stage. The release belongs to ACTIVE, HOLDUP
and BLACKSTART. -/
def execEngStopSelfRelease (s : State) : Host.Outcome State Fault Refusal :=
  .next (if s.regionOn .eng then
      let s := s.setRegion .eng .hold
      let s := forUnits ((List.range 8).filter fun n => s.stageOn n) (fun t n => t.engageHold n) s
      if s.carries then s.selfRelease 5 else s
    else s)

/-- SUP_STALL_SELF_RELEASE (R357). -/
def execSupStallSelfRelease (s : State) : Host.Outcome State Fault Refusal :=
  .next (if s.carries then
      let s := { s with pair := { s.pair with supStalled := true } }
      s.selfRelease 6
    else s)

/-- The TRIP that a self-release leaves, once the cores run (R357). -/
def State.tripAfterRelease (s : State) : State :=
  if s.pair.tripOnResume && !s.pair.supStalled then
    { s with pair := { s.pair with tripOnResume := false }, mode := { s.mode with pendingTrip := some s.pair.reason } }
  else s

/-- SELF_RELEASE_OUTPUTS_LOW (R357, R363): 20 µs after the release. -/
def execSelfReleaseOutputsLow (s : State) : Host.Outcome State Fault Refusal :=
  .next (match s.pair.selfRelease with
    | none => s
    | some t =>
      if 20 * ticksPerUs ≤ s.since t then
        let s := { s.outputsLow with pair := { s.outputsLow.pair with selfRelease := none } }
        s.tripAfterRelease
      else s)

/-- SUPERVISORY_CORES_RESUME (R357). -/
def execSupervisoryCoresResume (s : State) : Host.Outcome State Fault Refusal :=
  .next (if s.pair.supStalled then ({ s with pair := { s.pair with supStalled := false } }).tripAfterRelease else s)

/-! Deliberate handover (R363, R364). -/

/-- HANDOVER_REQUEST (R363). -/
def execHandoverRequest (ch : Chan) (s : State) : Host.Outcome State Fault Refusal :=
  .next (s.guardedWrite ch 0x2500 7 [1] s.handoverStatus s.applyHandover)

/-- A handover not yet released is cancelled (R364). -/
def State.cancelHandover (s : State) : State :=
  if s.pair.hoRequest && s.pair.owns then { s with pair := { s.pair with hoRequest := false, hoState := 5 } } else s

/-- HANDOVER_CANCEL (R364). -/
def execHandoverCancel (ch : Chan) (s : State) : Host.Outcome State Fault Refusal :=
  .next (s.guardedWrite ch 0x2500 7 [0] 0 s.cancelHandover)

/-- HANDOVER_RELEASE (R363 step 3): the former holder stays ready and needs no snapshot. -/
def execHandoverRelease (s : State) : Host.Outcome State Fault Refusal :=
  .next (if s.pair.owns && s.inMode .active && s.pair.hoState == 2 then
      let s := s.releaseOwn 7
      let s := { s with pair := { s.pair with selfRelease := some s.now, snapApplied := true, locked := true, lockGood := 100, lockBad := 0 } }
      (s.enterMode .track 0x0023).setReady
    else s)

/-- HANDOVER_TIMEOUT (R363, R492): 100 ms without acceptance; a pair update stops. -/
def execHandoverTimeout (s : State) : Host.Outcome State Fault Refusal :=
  .next (if s.pair.hoState == 1 && s.elapsed s.pair.hoFrom (100 / 1000) then
      let s := { s with pair := { s.pair with hoRequest := false, hoState := 4 } }
      if s.img.pairState = 4 then s.pairReach 8 else s
    else s)

end Sys2Proof.Machine
end

