-- ==== Sys2Proof/Machine/Images.lean ====
section
/-! DEFINITION. Writing an image, hitless activation, pair update and the way out of PILOT (chapter 17). -/
namespace Sys2Proof.Machine

/-! Writing an image (R483 to R486). -/

/-- An image write is open. -/
def State.updOpen (s : State) : Bool := s.img.updState == 1 || s.img.updState == 2

/-- What refuses `UpdateTarget` and `UpdateData`. -/
def State.updStatus (s : State) : Nat := if s.updOpen || !s.inModes [.boot, .track, .active, .service, .pilot] then stState else 0

/-- The slot that is not running; with none running, an invalid one, A before B (DESIGN CHOICE, log entry 58). -/
def State.idleSlot (s : State) (kind : Nat) : Nat :=
  match (if kind = 1 then s.img.fwRun else s.img.imgRun) with
  | some k => 1 - k
  | none => if (s.img.slot kind 0).valid then 1 else 0

/-- An image write begins: the slot is marked invalid at the first byte. -/
def State.beginUpdate (s : State) (kind size : Nat) : State :=
  let slot := s.idleSlot kind
  let m := (s.img.setSlot kind slot { s.img.slot kind slot with valid := false }).mark
  ({ s with img := { m with target := kind, updSlot := slot, updSize := size, updData := [], updState := 1, updReject := 0, updByTwin := false } }).imageNote 1 kind slot 0

/-- UPDATE_TRANSFER_COMPLETE (R484). -/
def execUpdateTransferComplete (s : State) : Host.Outcome State Fault Refusal :=
  .next (if s.img.updState == 1 && s.img.updData.length == s.img.updSize
      && !s.imageTransfer then { s with img := { s.img with updState := 2 } } else s)

/-- The first check of R477 that the image received fails, 0 for none. In PILOT checks 6 and 7 wait for the next start (R493). -/
def State.updReason (s : State) (content : Image) : Nat :=
  let d := s.img.updData
  let k := s.img.target
  let h := headerOf d
  if !headOk d k then 1
  else if !layoutOk d k then 2
  else if !bit h.variants s.part.idx then 3
  else if !s.img.signatureOk k d then 4
  else if h.security < (if k = 1 then s.img.fwMin else s.img.imgMin) then 5
  else if s.inMode .pilot || k == 1 then 0
  else if !ifaceFits (s.img.slot 1 s.img.fwNext).header h then 6
  else if !(loopSectionOk d && s.imageOk (readImage d content)) then 7
  else 0

/-- The commit of an image write: the slot valid and the selector naming it, in one step and in two copies; a firmware slot is on trial (R481, R484). -/
def State.commitUpdate (s : State) (content : Image) : State :=
  let k := s.img.target
  let n := s.img.updSlot
  let d := s.img.updData
  let h := headerOf d
  let m := s.img.setSlot k n { valid := true, header := h, digest := imageDigest d, key := s.img.keyOf k h.keyIndex, bytes := d
                               content := if k = 2 then readImage d content else content }
  let m := { m with updState := 3, updReject := 0 }
  let m := if k = 1 then { m with fwNext := n, trial := 1, trialStarts := 0, trialSlot := n } else { m with imgNext := n }
  ({ s with img := m.mark }).imageNote 2 k n 0

/-- First byte of a slot in the MRAM (Table 15-6). -/
def slotBase (kind slot : Nat) : Nat := if kind = 1 then slot * 0x800000 else 0x1000000 + slot * 0x200000

/-- What the checks' reads of the slot find (R451): single wrong bits, which are corrected and counted, and words that cannot be read. -/
def State.checkReads (s : State) (bad : List Nat) (corrected : Nat) : State :=
  let s := { s with mem := { s.mem with mramCorrected := s.mem.mramCorrected + corrected } }
  forUnits bad (fun t a => t.uncorrectableWord { addr := slotBase s.img.target s.img.updSlot + a }) s

/-- Both kinds have a valid slot (R494). -/
def State.bothKinds (s : State) : Bool := s.img.fw.any (·.valid) && s.img.cfg.any (·.valid)

/-- PILOT is left for BOOT (R494). -/
def State.leavePilot (s : State) (train : Nat) : State := s.restart 0x0063 train

/-- UPDATE_CHECKS_DONE (R484): the commit, or the rejection. `bad` are the bytes, by offset in the image, whose words the checks cannot read, which fail check 2, and
`corrected` counts the single wrong bits they meet (R451). In PILOT a commit that leaves both kinds valid ends PILOT (R494); a twin that a pair update wrote restarts into its
new slots (Table 17-6 step 3). -/
def execUpdateChecksDone (bad : List Nat) (corrected : Nat) (content : Image) (train : Nat) (s : State) : Host.Outcome State Fault Refusal :=
  .next (if s.img.updState == 2 then
      let bad := bad.filter fun a => decide (a < s.img.updData.length)
      let r := if bad.isEmpty then s.updReason content else if headOk s.img.updData s.img.target then 2 else 1
      let s := s.checkReads bad corrected
      if r = 0 then
        let s := s.commitUpdate content
        if s.inMode .pilot && s.bothKinds then s.leavePilot train
        else if s.img.updByTwin && s.img.twinData.isEmpty then s.selfRestart
        else s
      else { s with img := { s.img with updState := 5, updReject := r, updByTwin := false } }
    else s)

/-- The open image write undone (Table 17-4); where no byte has come yet, no slot has been touched. -/
def State.undoUpdate (s : State) : State :=
  if s.updOpen || s.imageTransfer then
    let slot := if s.updOpen then s.img.updSlot else s.idleSlot s.img.target
    let s := s.dropImageTransfers
    ({ s with img := { s.img with updState := 4, updData := [], updByTwin := false } }).imageNote 3 s.img.target slot 0
  else s

/-- `UpdateCommand` of 2 accepted. -/
def State.abortUpdate (s : State) : State := { s.undoUpdate with img := { s.undoUpdate.img with updCommand := 2 } }

/-- The answer to an abort that reaches a finished operation, and 0 otherwise (R383). -/
def State.updAbortStatus (s : State) : Nat := if s.img.updState = 3 then stAlready else 0

/-- UPDATE_ABORT (R485). -/
def execUpdateAbort (ch : Chan) (v : Nat) (s : State) : Host.Outcome State Fault Refusal :=
  .next (s.guardedWrite ch 0x2401 3 (leBytes 1 v) s.updAbortStatus s.abortUpdate)

/-- The slot on trial is confirmed, and the minimum raised to its security version. -/
def Img.confirm (m : Img) (security : Nat) : Img := { (m.raiseMin 1 security) with trial := 2 }

/-- A firmware slot on trial that runs is confirmed, and the minimum raised (R479, R481). -/
def State.confirmTrial (s : State) : State :=
  match s.img.fwRun with
  | none => s
  | some k =>
    if s.img.trial = 1 ∧ k = s.img.trialSlot then { s with img := s.img.confirm (s.img.slot 1 k).header.security } else s

/-! Hitless activation (R487 to R489). -/

/-- The dictionary sections of two images differ only in objects writable in ACTIVE and in poll scripts (Table 17-2). -/
def valuesMayDiffer (a b : List (Nat × List Byte)) : Bool :=
  (a ++ b).all fun p =>
    storeGet p.1 a == storeGet p.1 b
      || (decide (0x4820 ≤ p.1 / 256) && decide (p.1 / 256 < 0x4830))
      || (match objRow (p.1 / 256) (p.1 % 256) with | some r => r.acc == .rw && p.1 / 256 != 0x2800 | none => false)

/-- The bank swap to the idle images would be accepted (R135). -/
def State.swapFits (s : State) (new : Image) : Bool :=
  sameEngines s.variant (nth new.bank.variants (variantFor new.bank.variants s.tide.ageing) {})

/-- Condition 5 of R487: the sections that may not differ are equal, and the bank swap would be accepted (R135). -/
def State.swapAllowed (s : State) (new old : Image) : Bool :=
  valuesMayDiffer new.values old.values && valuesMayDiffer new.valuesB old.valuesB && new.prebias == old.prebias && new.berthWindow == old.berthWindow && new.minOffer == old.minOffer
    && new.wakeEnable == old.wakeEnable && new.wakeStart == old.wakeStart && new.wakeTimer == old.wakeTimer
    && s.swapFits new

/-- The reason that refuses a hitless activation, 0 for none. -/
def State.hitlessReason (s : State) : Nat :=
  let f := s.img.slot 1 s.img.fwNext
  let c := s.img.slot 2 s.img.imgNext
  let rf := (s.firmware.getD {}).header
  if s.twinPresent then 1
  else if !s.inMode .active || s.spm.supply != .source then 2
  else if s.img.fwRun == some s.img.fwNext && s.img.imgRun == some s.img.imgNext then 3
  else if !(decide (f.header.manifestMin ≤ rf.manifestMax) && decide (rf.manifestMax ≤ f.header.manifestMax) && ifaceFits f.header c.header) then 4
  else if !s.swapAllowed c.content (s.image.getD {}).content then 5
  else if s.longOpen || s.pgs.any (·.moving) then 6
  else 0

/-- The new image's sections loaded into the idle banks (R487). -/
def State.loadIdleBanks (s : State) : State :=
  let b := { (s.img.slot 2 s.img.imgNext).content.bank with valid := true }
  { s with tide := { s.tide with banks := put s.tide.banks (1 - s.tide.active) b, swap := 1 }, img := { s.img with hitState := 3 } }

/-- A hitless activation begins: with new firmware the manifest is written, with a new image alone the idle banks are loaded. -/
def State.applyHitless (s : State) : State :=
  let fw := s.img.fwRun != some s.img.fwNext
  let s := { s with img := { s.img with hitCommand := 1, hitState := 1, hitRefusal := 0, hitFrom := s.now, hitOldFw := s.img.fwRun.getD 0, hitReverted := false } }
  let s := s.imageNote 7 (if fw then 1 else 2) (if fw then s.img.fwNext else s.img.imgNext) 0
  if fw then s else s.loadIdleBanks

/-- A refused `HitlessCommand` of 1 reads 7 with its reason, and 0x3A00:0A reads 4 where the bank swap is what is refused (R135). -/
def State.hitlessRefused (s : State) : State :=
  { s with img := { s.img with hitState := 7, hitRefusal := s.hitlessReason }
           tide := { s.tide with swap := if s.hitlessReason = 5 ∧ s.swapFits (s.img.slot 2 s.img.imgNext).content = false then 4 else s.tide.swap } }

/-- The write of 1 is refused by R487 itself. -/
def State.hitlessStatus (s : State) : Nat := if s.hitlessReason = 0 then 0 else stState

/-- HITLESS_START (R487). -/
def execHitlessStart (ch : Chan) (s : State) : Host.Outcome State Fault Refusal :=
  .next (
    let t := s.guardedWrite ch 0x2402 1 [1] s.hitlessStatus s.applyHitless
    if s.hitlessStatus ≠ 0 ∧ s.served ch = true ∧ s.basicCheck ch 0x2402 1 [1] = 0 then { t with img := s.hitlessRefused.img, tide := s.hitlessRefused.tide } else t)

/-- The activation has passed its commit point: the cores' stop with new firmware, the swap with a new image alone. -/
def State.hitlessCommitted (s : State) : Bool :=
  s.img.hitState == 2 || s.img.hitState == 5 || s.img.hitState == 8
    || ((s.img.hitState == 3 || s.img.hitState == 4) && s.img.fwRun != some s.img.hitOldFw)

/-- An activation before its commit point undone. -/
def State.undoHitless (s : State) : State :=
  if s.img.hitState = 1 ∨ s.img.hitState = 3 ∨ s.img.hitState = 4 then
    let fw := s.img.fwRun != some s.img.fwNext
    ({ s with img := { s.img with hitState := 6, hitCommand := 2 }, tide := { s.tide with swap := 0 } }).imageNote 9 (if fw then 1 else 2) (if fw then s.img.fwNext else s.img.imgNext) 0
  else { s with img := { s.img with hitCommand := 2 } }

/-- HITLESS_ABORT (R485). In the gap it is answered already complete (worked example of R487). -/
def execHitlessAbort (ch : Chan) (s : State) : Host.Outcome State Fault Refusal :=
  .next (if s.inGap then s.answerWrite ch stAlready
    else s.guardedWrite ch 0x2402 1 [2] (if s.hitlessCommitted then stAlready else 0) s.undoHitless)

/-- HITLESS_COMMIT_POINT (R487): the manifest is committed and the cores stop. -/
def execHitlessCommitPoint (s : State) : Host.Outcome State Fault Refusal :=
  .next (if s.img.hitState == 1 && s.img.fwRun != some s.img.fwNext then { s with img := { s.img with hitState := 2, hitFrom := s.now } } else s)

/-- What the gap leaves in the estimators: U_c widened, the steps begin again (Table 17-5). -/
def State.gapEnd (s : State) : State :=
  let gap := secOf (s.since s.img.hitFrom)
  let s := forUnits (List.range 8) (fun t k =>
    let e := t.estOf k
    (t.setEst k { e with uc := e.uc + divR (100 * absR e.lastI * gap) e.q, stepAt := t.now }).setCharger k { t.charger k with stepAt := t.now }) s
  { s with img := { s.img with hitGap := s.since s.img.hitFrom } }

/-- HITLESS_RESUME (R487, R489): the new firmware resumes and its trial is confirmed; or the old one, after a revert. -/
def execHitlessResume (s : State) : Host.Outcome State Fault Refusal :=
  .next (if s.img.hitReverted then { s.gapEnd with img := { s.gapEnd.img with hitReverted := false } }
    else if s.img.hitState == 2 then
      let s := s.gapEnd
      let s := ({ s with img := { s.img with fwRun := some s.img.fwNext } }).confirmTrial
      (s.imageNote 8 1 s.img.fwNext 0).loadIdleBanks
    else s)

/-- A failed start of a trial: the third ends the trial (R481). -/
def State.failTrial (s : State) : State :=
  if s.img.trial = 1 then
    if 2 ≤ s.img.trialStarts then ({ s with img := { s.img with trial := 0, trialStarts := 3 } }).imageNote 6 1 s.img.trialSlot 0
    else { s with img := { s.img with trialStarts := s.img.trialStarts + 1 } }
  else s

/-- HITLESS_RESUME_TIMEOUT (R489): 30 ms after the commit point. -/
def execHitlessResumeTimeout (s : State) : Host.Outcome State Fault Refusal :=
  .next (if s.img.hitState == 2 && decide (30 * ticksPerMs ≤ s.since s.img.hitFrom) then
      let s := s.failTrial
      ({ s with img := ({ s.img with hitState := 8, hitReverted := true, fwNext := s.img.hitOldFw } : Img).mark }).imageNote 0x0A 1 s.img.hitOldFw 0
    else s)

/-- HITLESS_REVERT_TIMEOUT (R489): 60 ms after the commit point, as if `RST_N` had been asserted. -/
def execHitlessRevertTimeout (s : State) : Host.Outcome State Fault Refusal :=
  .next (if s.img.hitReverted && decide (60 * ticksPerMs ≤ s.since s.img.hitFrom) then s.selfRestart else s)

/-- Severity entries still at the old image's class take the new image's (R320, R487). -/
def newSev (old new cur : List SevEntry) : List SevEntry :=
  new.foldl (fun l e => if sevFind e.key l == sevFind e.key old then sevPut e.key e.cls l else l) cur

/-- The swap of an activation has taken effect: the new image is in force, and untouched values follow it. -/
def State.finishHitless (s : State) : State :=
  if s.img.hitState = 4 ∧ s.tide.swap = 3 then
    let old := (s.image.getD {}).content
    let sl := s.img.slot 2 s.img.imgNext
    { s with
      img := { (s.img.raiseMin 2 sl.header.security) with hitState := 5, imgRun := some s.img.imgNext, digest := sl.digest }
      cfg := s.cfg.filter fun p => !((storeGet p.1 old.values).isSome && storeGet p.1 old.values == some p.2)
      faults := { s.faults with sev := newSev old.severity sl.content.severity s.faults.sev } }
  else s

/-- A frame boundary of the fixed-latency table: whole frames from the common start pulse. -/
def State.frameBoundary (s : State) : Bool := s.since s.tide.startPulse % s.variant.frameLen == 0

/-- The boundary of a stage that is now has not been handled yet. -/
def State.boundaryDue (s : State) (st : Nat) : Bool := s.onBoundary st && ((s.stage st).boundary == 0 || (s.stage st).boundaryTick != s.now)

/-- TIDE_FRAME_BOUNDARY (R134): in fixed-latency mode, the step's variant and an armed swap take effect. -/
def execTideFrameBoundary (s : State) : Host.Outcome State Fault Refusal :=
  .next (if s.regionOn .eng && s.variant.mode == 0 && s.tide.pulsed && s.frameBoundary then s.switchTable.finishHitless else s)

/-- CARRIER_BOUNDARY (R24, R142, R350, R351, R367): the holder tells the twin what has changed, and copies the snapshot it asks for. The counters run
from the common start pulse (R75). The mirror writes of a boundary of `ref_stage` come before what that boundary, or one of another stage at the same tick, puts in
force. -/
def execCarrierBoundary (st : Nat) (s : State) : Host.Outcome State Fault Refusal :=
  .next (if s.stageUsed st && s.tide.pulsed && s.pwmPowered && s.boundaryDue st then
      let s := s.dueMirrors (s.pair.periodIndex + b2n (s.boundaryDue s.variant.refStage))
      let s := ((s.boundary st).dueNews st).finishHitless
      let s := s.tellStage st (s.boundaryPlace st)
      if st == s.variant.refStage && s.pair.snapWanted && s.pair.owns then s.sendSnapshot else s
    else s)

/-! Update of a pair (R490 to R492). -/

/-- A selector names a committed slot that does not run. -/
def State.updateWaits (s : State) : Bool :=
  (s.img.fwRun != some s.img.fwNext && (s.img.slot 1 s.img.fwNext).valid) || (s.img.imgRun != some s.img.imgNext && (s.img.slot 2 s.img.imgNext).valid)

/-- What refuses a `PairUpdateCommand` of 1. In state 8 the write repeats step 5 under the conditions of R363. -/
def State.pairUpdateStatus (s : State) : Nat :=
  if s.img.pairState = 8 then s.handoverStatus
  else if s.pair.owns && s.inMode .active && s.spm.supply == .source && s.pair.twinSeen && s.pair.twin.mode == Mode.track.code && s.pair.twin.trackReady
      && s.updateWaits then 0 else stState

/-- A pair update starts, or its handover is repeated. -/
def State.applyPairUpdate (s : State) : State :=
  let s := { s with img := { s.img with pairCommand := 1 } }
  if s.img.pairState = 8 then s.applyHandover.pairReach 4
  else (({ s with img := { s.img with pairDigest := s.img.digest } }).sendFrame 5 .image).pairReach 1

/-- PAIR_UPDATE_START (R490, R492). -/
def execPairUpdateStart (ch : Chan) (s : State) : Host.Outcome State Fault Refusal :=
  .next (s.guardedWrite ch 0x2402 5 [1] s.pairUpdateStatus s.applyPairUpdate)

/-- A pair update before its commit point undone: the handover it has offered is cancelled; the twin undoes its part (R492). -/
def State.undoPairUpdate (s : State) : State :=
  let s := { s with img := { s.img with pairCommand := 2 } }
  if (1 ≤ s.img.pairState ∧ s.img.pairState ≤ 4) ∨ s.img.pairState = 8 then
    (({ s.cancelHandover with img := { s.cancelHandover.img with pairDigest := [] } }).sendFrame 5 .image).pairReach 7
  else s

/-- An abort at or after the handover release, which is the commit point, is answered already complete (R485, R486, R492). -/
def State.pairAbortStatus (s : State) : Nat :=
  if s.img.pairState = 5 ∨ s.img.pairState = 6 ∨ (s.img.pairState = 4 ∧ s.pair.owns = false) then stAlready else 0

/-- PAIR_UPDATE_ABORT (R492). -/
def execPairUpdateAbort (ch : Chan) (s : State) : Host.Outcome State Fault Refusal :=
  .next (s.guardedWrite ch 0x2402 5 [2] s.pairAbortStatus s.undoPairUpdate)

/-- IMAGE_TRANSFER_RECEIVED (R490, Table 17-6 step 2): the frames of one image; with the last, it is written to the idle slot and checked. -/
def execImageTransferReceived (hd : FrameHead) (crcOk : Bool) (kind offset : Nat) (data : List Byte) (s : State) : Host.Outcome State Fault Refusal :=
  .next (if s.pairUp then
      let f := s.frameIn 5 0x41 hd crcOk
      if f.2 && f.1.inMode .track then
        let d := (if f.1.img.twinKind = kind then f.1.img.twinData.take offset else []) ++ data
        if !hd.last then { f.1 with img := { f.1.img with twinKind := kind, twinData := d } }
        else
          let t := { f.1 with img := { f.1.img with twinKind := 0, twinData := [], pairDigest := if f.1.img.pairDigest = [] then f.1.img.digest else f.1.img.pairDigest } }
          if t.updOpen || slotSize kind < d.length then t
          else
            let t := t.beginUpdate kind d.length
            { t with img := { t.img with updData := d, updState := 2, updByTwin := true } }
      else f.1
    else s)

/-! PILOT (R494). -/

/-- What refuses `PilotExit`. -/
def State.pilotExitStatus (s : State) : Nat := if s.inMode .pilot && s.img.pilotCause == 0x0062 && s.bothKinds then 0 else stState

/-- PILOT_EXIT (R494). -/
def execPilotExit (ch : Chan) (v : Nat) (train : Nat) (s : State) : Host.Outcome State Fault Refusal :=
  .next (s.guardedWrite ch 0x2403 2 (leBytes 1 v) s.pilotExitStatus (s.leavePilot train))

/-- A public key of the shelf builder written (Table 17-7). -/
def State.keyStatus (s : State) (data : List Byte) : Nat := if data.length ≠ 32 then stRange else if s.updOpen || s.imageTransfer then stState else 0

def State.applyKey (s : State) (i : Nat) (data : List Byte) : State := { s with img := s.img.setKeyPart fun k => { k with keys := put k.keys i data } }

end Sys2Proof.Machine
end

