-- ==== Sys2Proof/Machine/Sessions.lean ====
section
/-! DEFINITION. Sessions of the dictionary service: closing one, closing those of a port, and the state of the CAN ports (R374, R386, R388, R394). -/
namespace Sys2Proof.Machine

/-- An image write whose transfer has gone is undone (Table 17-4). -/
def State.endUpdateOf (s : State) (l : List Transfer) : State := if l.any Transfer.isUpdate && s.img.updState == 1 then s.undoUpdate else s

/-- A Nireo session closes (R394): its transfers end, and a freeze that it owns. -/
def State.closeNireo (s : State) (n : Nat) : State :=
  match s.session (.nireo n) with
  | none => s
  | some x =>
    let s := (s.endUpdateOf x.transfers).freezeSessionClosed (.nireo n)
    { s with net := { s.net with nireo := s.net.nireo.filter fun y => y.num != n } }

/-- The Nireo sessions of a port. -/
def State.portSessions (s : State) (port : Nat) : List Nat := (s.net.nireo.filter fun x => x.port == port).map (·.num)

/-- A port goes down: its Nireo sessions close (R394). -/
def State.closePort (s : State) (port : Nat) : State := forUnits (s.portSessions port) (fun t n => t.closeNireo n) s

/-- The open transfer of an SDO channel ends, and writes nothing (R384). -/
def State.dropSdo (s : State) (p v : Nat) : State :=
  match s.session (.sdo p v) with
  | none => s
  | some x => let s := s.endUpdateOf x.transfers; s.setSession (.sdo p v) { x with transfers := [] }

/-- A session's level is user again (R374). -/
def State.dropLevel (s : State) (ch : Chan) : State :=
  match s.session ch with
  | some x => s.setSession ch { x with level := 0, challenge := none }
  | none => s

/-- The SDO channels of a port. -/
def State.dropSdos (s : State) (p : Nat) : State := forUnits [1, 2, 3, 4] (fun t v => t.dropSdo p v) s

/-- An image's value as a number, if the image gives it. -/
def State.imageN (s : State) (idx sub : Nat) : Option Nat := (storeGet (objKey idx sub) s.imageValues).map leNat

/-- The node-ID and the bit rate that a port takes at its next start (R387). -/
def State.nodeFor (s : State) (p : Nat) : Nat := ((s.can p).storedNode).getD (((s.imageN (0x4A10 + p) 2).getD 1) + s.member)
def State.rateFor (s : State) (p : Nat) : Nat := ((s.can p).storedRate).getD (s.objN (0x4A10 + p) 3)

/-- A port enters pre-operational, with its boot-up message (R386, R388). -/
def State.preOperational (s : State) (p : Nat) : State :=
  let s := s.setCan p { s.can p with nmt := .preOperational, hbAt := s.now }
  s.sendCan p (0x700 + (s.can p).nodeId) [0]

/-- The CAN ports of this variant. -/
def State.canPorts (s : State) : List Nat := [0, 1].filter fun p => s.part.has .can p

/-- A port comes up with the node-ID and rate of its configuration; values that LSS has set since come before the stored ones (R387). -/
def State.canStart (s : State) (p : Nat) : State :=
  let v := s.can p
  (s.setCan p { v with nodeId := v.pendNode.getD (s.nodeFor p), rate := v.pendRate.getD (s.rateFor p), lssConfig := false, busOff := false }).preOperational p

/-- Every present CAN port comes up (R388, R51 step 4). -/
def State.canUp (s : State) : State := forUnits s.canPorts (fun t p => t.canStart p) s

/-- The ports come back from retention with the node-ID and rate they had (R388). -/
def State.canBack (s : State) : State := forUnits s.canPorts (fun t p => t.preOperational p) s

/-- The CAN ports go into retention: no answers, open transfers gone (R388). -/
def State.canDown (s : State) : State :=
  forUnits [0, 1] (fun t p => ((t.setCan p { t.can p with nmt := .off, fd := [] }).dropSdos p).closePort (3 + p)) s

/-! Port faults (R399): unit 0, 1 an Ethernet port, 2, 3 a CAN port. -/

def State.portFaults (s : State) (u : Nat) : List Nat := if u < 2 then (s.eth u).faults else (s.can (u - 2)).faults
def State.setPortFaults (s : State) (u : Nat) (l : List Nat) : State :=
  if u < 2 then s.setEth u { s.eth u with faults := l } else s.setCan (u - 2) { s.can (u - 2) with faults := l }

/-- A condition of a port begins: its source is raised with that detail. -/
def State.portFault (s : State) (u detail : Nat) (data : List Byte) : State :=
  (s.setPortFaults u (if (s.portFaults u).contains detail then s.portFaults u else s.portFaults u ++ [detail])).raiseWith (s.key 7 0xFF u 1) detail data false

/-- A condition of a port ends: its source clears with the last of them. -/
def State.portFaultEnd (s : State) (u detail : Nat) : State :=
  if (s.portFaults u).contains detail then
    let l := (s.portFaults u).filter fun d => d != detail
    let s := s.setPortFaults u l
    if l.isEmpty then s.clearing (s.key 7 0xFF u 1) else s
  else s

/-- An Ethernet port takes its values from the dictionary, as it is enabled or at a start (R398). -/
def State.ethStart (s : State) (p : Nat) : State :=
  let x := 0x4A00 + p
  let on : Bool := s.part.has .eth p && s.objN x 2 == 1
  s.setEth p { s.eth p with enabled := on, linkLocal := false, addr := if on = true then s.objN x 4 else 0, mask := s.objN x 5, gateway := s.objN x 6
                            txLat := s.objR x 9, rxLat := s.objR x 0x0A, ptpOn := s.objN x 0x0B == 1, passive := false, faults := [] }
def State.ethUp (s : State) : State := forUnits [0, 1] (fun t p => t.ethStart p) s

/-- Every network port down, as in MOORED and LAYUP; what the two-wire ports were at ends. -/
def State.networksDown (s : State) : State :=
  let s := ((s.canDown.closePort 0).closePort 1).closePort 2
  { s with ports := s.ports.map fun v => { v with run := none, heard := none, work := .none, discovering := false, todo := [] } }

end Sys2Proof.Machine
end

