-- ==== Sys2Proof/Machine/Modes.lean ====
section
/-! DEFINITION. Modes: the start from step 3 on, joining, mode requests, TRIP, descent (R43 to R60, R298, R301, R517). -/
namespace Sys2Proof.Machine

/-! RISE (R43, R58, R293, R301). -/

/-- The time spent moored is applied in one step of each estimator (R260), and a rest point awaits its samples after `RestTime` (R246). -/
def State.mooredStep (s : State) (k : Nat) : State :=
  let e := s.estOf k
  let i := s.cfgR k 0x16
  let dt := secOf (s.since e.stepAt)
  let s := s.setStr k (s.str k).begun
  let s := s.count k i dt 0
  let s := s.report k ((s.estOf k).soc - e.soc) dt
  let s := s.setEst k { s.estOf k with means := [], gap := none, iAt := s.now, msFrom := s.now }
  s.setStr k { s.str k with wakeRest := decide (s.cfgN k 0x10 * ticksPerS ≤ s.since s.mode.since) && decide (absR i < (s.estOf k).rate / 100) }

def State.mooredSteps (s : State) : State := forUnits ((List.range 8).filter fun k => s.strUsed k) (fun t k => t.mooredStep k) s

/-- The link to the twin starts afresh when PAIR is powered up again (R348). -/
def State.restartPair (s : State) : State :=
  { s with pair := { s.pair with
    twinSeen := false, locked := false, lockGood := 0, lockBad := 0, snapApplied := false, trackReady := false, twinAt := s.now, heardReason := 0
    rxSync := List.replicate 5 false, early := [], snapHeld := none, snapWanted := false, snapSentAt := none, twinAccepted := false, twinDigest := [] } }

/-! LOCKOUT (R332, R333). -/

/-- MEM starts again where a mode powers it after one that did not: it is trained, with a result that is free, and filled (R433 to R435). -/
def State.memStarts (s : State) (was : Bool) : State :=
  if s.regionOn .mem && !was then let d := s.draw; d.2.startMem d.1.floor.toNat else s

/-- The entry to LOCKOUT: outputs safe, `OWN_N` released with reason 0x02, the latch set, ENG and SNS powered down. The flip mask of a SERVICE that ends so is
disarmed (R446). -/
def State.enterLockout (s : State) : State :=
  let s := (s.outputsSafe .safe).releaseOwn 2
  let s := s.supersedeRequest
  let s := { s with mode := { s.mode with lockoutLatch := true, pendingLockout := none, pendingTrip := none }
                    mem := { s.mem with flipArmed := s.mem.flipArmed && !s.inMode .service } }
  (s.enterMode .lockout 0x0041).memStarts (s.regionOn .mem)

/-- LOCKOUT_ENTRY (R332, Table 02-5): from any mode but LAYUP. While a last breath runs only the latch is set (R324). -/
def execLockoutEntry (s : State) : Host.Outcome State Fault Refusal :=
  .next (match s.mode.pendingLockout with
    | none => s
    | some _ =>
      if s.inModes [.layup, .lockout] || s.supply.phase != .running then
        { s with mode := { s.mode with lockoutLatch := s.mode.lockoutLatch || s.supply.phase != .running, pendingLockout := none } }
      else s.enterLockout)

/-- The regions of a moored controller run again (Table 02-9); it goes on at step 5 of Table 02-6. MEM starts, with a training whose result is
free (R433). -/
def State.leaveMoored (s : State) : State :=
  let s := s.mooredSteps
  let s := { s with mode := { s.mode with online := true, step := 4, canAwakeSince := none, wakeTimerFrom := none, wakeServed := 0 }
                    tide := { s.tide with pulsed := false } }
  let s := s.restartPair.canUp.ethUp
  if s.part.has .ddr 0 then (s.setRegion .mem .on).memStarts false else s

/-- RISE entered: open strings wait for precharge, the rise programs start, and from now on a high `ESTOP_N` clears the estop source (R48, R52, R168). -/
def State.enterRise (s : State) (cause : Nat) : State :=
  let s := if s.inMode .moored then s.leaveMoored else s
  let s := { s with mode := { s.mode with riseWaiting := none, estopRose := true }, dead := { s.dead with wakePending := none, entering := false } }
  let s := (s.enterMode Mode.rise cause).seeEstop
  let s := forUnits ((List.range 8).filter fun k => s.strUsed k) (fun t k => t.reraiseString k) s
  let s := forUnits (List.range 8) (fun t k =>
    let v := t.str k
    t.setStr k { v with prechargeWaiting := t.strUsed k && !v.connected, precharging := false, prechargeDone := false, shed := false }) s
  s.startRises

/-- The restart hold-off runs (R301). -/
def State.heldOff (s : State) : Bool :=
  match s.mode.holdoffFrom with
  | some t => !s.elapsed t (s.objR 0x4300 2)
  | none => false

/-- A trigger for RISE: at once, or at the end of the hold-off (R301). -/
def State.toRise (s : State) (cause : Nat) : State :=
  if s.heldOff then { s with mode := { s.mode with riseWaiting := some cause } } else s.enterRise cause

/-- RESTART_HOLDOFF_END (R301). -/
def execRestartHoldoffEnd (s : State) : Host.Outcome State Fault Refusal :=
  .next (match s.mode.riseWaiting with
    | some c => if s.inModes [.boot, .moored] && !s.heldOff && s.supply.phase == .running then s.enterRise c else s
    | none => s)

/-! Start-up steps (Table 02-6). -/

/-- POR_RELEASE (R51, R68): POR released and the warning clear; a start that a warning held back goes on with its counters restored. -/
def execPorRelease (sideB legacy wakeLow : Bool) (train : Nat) (s : State) : Host.Outcome State Fault Refusal :=
  .next (match s.supply.phase with
    | .por =>
      let s := { s with supply := { s.supply with sideB := sideB, legacyStrap := legacy, porTick := s.now } }
      (s.fresh true).restoreCounters.startFrom 1 wakeLow train
    | .waiting =>
      let s := { s with supply := { s.supply with sideB := sideB, legacyStrap := legacy } }
      (s.fresh true).startFrom 1 wakeLow train
    | .running => s
    | .afterWarning => s
    | .afterRst => s)

/-- Two-wire discovery on every enabled port, and arrival of what it finds (R416). DESIGN CHOICE (log entry 110): a discovery that finds no
partner ends at once. -/
def State.discoverAll (s : State) (l : List Arrival) : State :=
  let ps := [0, 1, 2, 3].filter fun p => s.portUp p
  let s := forUnits ps (fun t p => t.discover p (l.filter fun a => a.port == p)) s
  let s := forUnits ps (fun t p => t.discoveryDone p) s
  if (List.range 4).all (fun q => !(s.port q).discovering) then { s with mode := { s.mode with discovered := true } } else s

/-- DICTIONARY_ONLINE (R51 step 4): the networks come up, discovery begins, and LOCKOUT, a held BOOT or RISE follows. -/
def execDictionaryOnline (l : List Arrival) (s : State) : Host.Outcome State Fault Refusal :=
  .next (if s.inMode .boot && s.mode.step == 3 && s.pair.electionDone && s.supply.phase == .running then
      let s := s.confirmTrial.setRegion .net .on
      let s := (({ s with mode := { s.mode with online := true } }).canUp.ethUp).discoverAll l
      let s := s.milestone 4
      if s.mode.lockoutLatch then s.enterLockout
      else if s.supply.bootHold ≠ 0 then s
      else s.toRise 0x0012
    else s)

/-- The common start pulse of the modulator dividers and the carrier counters (R75). -/
def State.commonPulse (s : State) : State :=
  if s.tide.pulsed then s
  else { s with tide := { s.tide with pulsed := true, startPulse := s.now, occFrom := s.now }
                stages := s.stages.map fun g => { g with boundary := 0, boundaryTick := s.now } }

/-- SNS_ENG_RELEASE (R51 step 6, R75, R123). -/
def execSnsEngRelease (s : State) : Host.Outcome State Fault Refusal :=
  .next (if s.inMode .rise && s.mode.step == 5 && s.supply.phase == .running then
      let s := s.startSns.startEng.commonPulse
      if s.regionOn .eng then
        let s := s.milestone 6
        let s := { s with mode := { s.mode with step6 := s.now } }
        if s.pair.owns then s.beginJoining else s.applyHeld
      else s
    else s)

/-! Joining (R52). -/

/-- The voltage on the stage side of a string's contactor (R260). -/
def State.stageSide (s : State) (k : Nat) : Rat := s.loopY (s.objN (0x3000 + 256 * s.strStage k) 0x13)

/-- A precharge has succeeded (R52, R260). -/
def State.prechargeOk (s : State) (k : Nat) : Bool := decide (absR (s.stageSide k - s.strVolts k) ≤ s.cfgR k 0x1C * absR (s.strVolts k))

/-- One string's precharge ends: the contactor closes, or the string is shed; one shed during it stays open (R262). -/
def State.endPrecharge (s : State) (k : Nat) : State :=
  if (s.str k).shed then s.setStr k { s.str k with precharging := false }
  else if s.prechargeOk k then
    (s.setStr k { s.str k with prechargeDone := true, contactor := true, contactorAt := s.now }).clearing (s.strKey k 5)
  else ((s.setStr k { s.str k with precharging := false }).raise (s.strKey k 5) 0).shedString k

/-- The strings of a pair whose precharge has lasted its 150 ms. -/
def State.precharged (s : State) (n : Nat) : List Nat :=
  (pairStrings n).filter fun k => (s.str k).precharging && !(s.str k).prechargeDone && decide (150 * ticksPerMs ≤ s.since (s.str k).prechargeFrom)

/-- A mode in which strings join (R45, R52): the rise has not been stopped by a descent. -/
def State.joins (s : State) : Bool := s.inModes [.rise, .active, .holdup, .blackstart]

/-- PRECHARGE_END (R52). -/
def execPrechargeEnd (n : Nat) (s : State) : Host.Outcome State Fault Refusal :=
  .next (if s.pair.owns && s.joins && !(s.precharged n).isEmpty && s.supply.phase == .running then
      let s := forUnits (s.precharged n) (fun t k => t.endPrecharge k) s
      (s.beginPrecharge (n + 1)).joinCheck
    else s)

/-- AUX_CONTACT_CONFIRM (R52). -/
def execAuxContactConfirm (k : Nat) (s : State) : Host.Outcome State Fault Refusal :=
  .next (if s.pair.owns && s.joins && (s.str k).contactor && (s.str k).prechargeDone && s.supply.phase == .running then (s.connect k).joinCheck else s)

/-! A source that can carry the bus (R53 to R55). -/

/-- A string's stage has enabled its outputs. -/
def State.stringCarries (s : State) : Bool :=
  (List.range 8).any fun k => s.strUsed k && (s.str k).connected && s.stageOn (s.strStage k) && (s.stagePhases (s.strStage k)).any fun p => (s.phase p).outOn

/-- A source can carry the bus (R53). -/
def State.canCarry (s : State) : Bool :=
  s.stringCarries || s.rectifierCarries || [0, 1].any fun f => s.objN (0x4400 + 16 * f) 2 == 1 && (s.feed f).qualified

/-- Some string is connected. -/
def State.anyConnected (s : State) : Bool := (List.range 8).any fun k => s.strUsed k && (s.str k).connected

/-- Black start is permitted and its conditions hold (R278). -/
def State.mayBlackstart (s : State) : Bool := s.busDead && s.anyConnected && s.objN 0x5900 1 == 1

/-- The `OWN_N` net at the end of RISE has been high for 1 µs (R48, R354): by what is known of it while the twin is heard, else a free value (log
entry 113). -/
def State.seeNet (s : State) : State × Bool :=
  if s.pair.twinSeen && !s.pair.hbLost then (s, s.pair.netHigh && decide (ticksPerUs ≤ s.since s.pair.netHighAt))
  else let d := s.drawBool; ({ d.2 with pair := { d.2.pair with netHigh := d.1, netHighAt := s.now - ticksPerUs } }, d.1)

/-- ENTER_ACTIVE (R53, R60, R278): a moored controller whose twin has released `OWN_N` first takes it. -/
def execEnterActive (s : State) : Host.Outcome State Fault Refusal :=
  .next (if s.inMode .rise && decide (6 ≤ s.mode.step) && s.regionOn .eng && s.supply.phase == .running then
      let s := if !s.pair.owns && s.mode.prev == 3 then (let t := s.seeNet; if t.2 then t.1.claim.beginJoining else t.1) else s
      if !(s.pair.owns && s.canCarry) then s
      else if s.busDead then (if s.mayBlackstart then s.enterBlackstart else s)
      else ((s.enterActive 0x0020).milestone 8).joinCheck
    else s)

/-- Every activity that could still give a source has ended (R55). -/
def State.joiningEnded (s : State) : Bool :=
  (List.range 8).all (fun k => !s.strUsed k || ((!(s.str k).precharging || (s.str k).prechargeDone) && !(s.str k).prechargeWaiting)) && s.mode.discovered && s.elapsed s.mode.step6 (1 / 2)

/-- NO_SOURCE_DECLARED (R55). -/
def execNoSourceDeclared (s : State) : Host.Outcome State Fault Refusal :=
  .next (if s.inMode .rise && s.pair.owns && decide (6 ≤ s.mode.step) && s.joiningEnded && !s.canCarry && s.supply.phase == .running then
      (if s.mayBlackstart then s.enterBlackstart else s.spmDetail 1 true)
    else s)

/-! Mode requests (R44, R45, R517). -/

/-- BOOT is held with the dictionary online (R45). -/
def State.held (s : State) : Bool := s.inMode .boot && s.mode.online && s.mode.riseWaiting.isNone

/-- A descent request is allowed (R44, R45). -/
def State.mayDescend (s : State) : Bool :=
  s.inModes [.rise, .track, .active, .blackstart] || (s.inMode .holdup && !(s.mode.cause == 0x0030 && decide (s.since s.mode.since < 200 * ticksPerUs)))

/-- What refuses a request for a mode (R44, R45); in LOCKOUT every one (R332). -/
def State.requestStatus (s : State) (ch : Chan) (code : Nat) : Nat :=
  if s.inMode .lockout then stState
  else if 0x0B < code then stRange
  else if s.mode.leaving.isSome then stState
  else if s.inMode .service then (if code = 9 then stState else 0)
  else if code = 9 then (if s.level ch < 1 then stAccess else if s.held || (s.inMode .moored && !s.dead.entering) || s.inMode .track then 0 else stState)
  else if code = 4 then (if s.held then 0 else stState)
  else if code = 6 then (if s.inMode .moored && !s.dead.entering then 0 else stState)
  else if code = 2 then (if s.mayDescend || (s.inMode .moored && !s.dead.entering) then 0 else stState)
  else if code = 3 ∨ code = 0x0A then (if s.mayDescend then 0 else stState)
  else stState

/-- The end of the descent that a request names. -/
def State.requestTarget (s : State) (code : Nat) : Mode :=
  match (if code = 0x0A then s.objN 0x2101 3 else code) with
  | 1 => .boot
  | 2 => .layup
  | _ => .moored

/-- SERVICE entered: outputs safe, and the start pulse where none has been given (R75). DESIGN CHOICE (log entry 164): an owner held in BOOT
keeps `OWN_N`. -/
def State.enterService (s : State) : State :=
  let s := if s.inMode .moored then s.leaveMoored else s
  ((s.outputsSafe .safe).enterMode .service 0x0010).commonPulse

/-- SERVICE left (R302, R503): every margined rail is returned to OPERATION 0x80 and the selections go back to normal; once those commands are out, the start
through BOOT follows. -/
def State.leaveService (s : State) (train : Nat) : State :=
  ({ s.endMargins with mode := { s.endMargins.mode with leaving := some train } } : State).finishLeaving

/-- A lay-up entry begins (R282): SUP, SADC and NVM are powered for its length, and every wake source but `WAKE_N` and `SRCDET` is disarmed. -/
def State.beginLayup (s : State) : State :=
  let s := { s with dead := { s.dead with entering := true, entryFrom := none, entryTurn := 0, entryWaits := false, entryShift := 0 } }
  if s.inMode .moored then ((s.setRegion .sup .on).setRegion .sadc .on).setRegion .nvm .on else s

/-- A request for lay-up from MOORED: the kept groups are lowered first (R297). -/
def State.lowerKept (s : State) : State :=
  let s := s.beginLayup
  forUnits ([0, 1, 2, 3].filter fun g => (s.railGroup g).phase != .lowered) (fun t g => t.startLower g) s

/-- What an accepted request starts. -/
def State.applyRequest (s : State) (code : Nat) (train : Nat) : State :=
  let s := { s with mode := { s.mode with req := code, reqStatus := 1 } }
  if s.inMode .service then s.leaveService train
  else if code = 9 then s.enterService
  else if code = 4 ∨ code = 6 then s.toRise 0x0010
  else if s.inMode .moored then s.lowerKept
  else s.beginDescent (s.requestTarget code) 0x0010 false

/-- A write of `ModeRequest`. -/
def State.writeRequest (s : State) (ch : Chan) (code : Nat) (train : Nat) : State :=
  s.guardedWrite ch 0x2101 1 (leBytes 1 code) (s.requestStatus ch code) (s.applyRequest code train)

/-- A request whose start, should it leave SERVICE, trains the DRAM with an outcome of its own. -/
def State.requestFree (s : State) (ch : Chan) (code : Nat) : State := let d := s.draw; d.2.writeRequest ch code d.1.floor.toNat

/-- MODE_REQUEST_RISE. -/
def execModeRequestRise (ch : Chan) (s : State) : Host.Outcome State Fault Refusal := .next (s.requestFree ch 4)
/-- MODE_REQUEST_SERVICE. -/
def execModeRequestService (ch : Chan) (s : State) : Host.Outcome State Fault Refusal := .next (s.requestFree ch 9)
/-- MODE_REQUEST_ACTIVE. -/
def execModeRequestActive (ch : Chan) (s : State) : Host.Outcome State Fault Refusal := .next (s.requestFree ch 6)
/-- MODE_REQUEST_DESCENT. -/
def execModeRequestDescent (ch : Chan) (s : State) : Host.Outcome State Fault Refusal := .next (s.requestFree ch 0x0A)
/-- MODE_REQUEST_MOORED. -/
def execModeRequestMoored (ch : Chan) (s : State) : Host.Outcome State Fault Refusal := .next (s.requestFree ch 3)
/-- MODE_REQUEST_LAYUP. -/
def execModeRequestLayup (ch : Chan) (s : State) : Host.Outcome State Fault Refusal := .next (s.requestFree ch 2)
/-- MODE_REQUEST_LEAVE_SERVICE: the request of a code, which in SERVICE leaves it. -/
def execModeRequestLeaveService (ch : Chan) (code : Nat) (train : Nat) (s : State) : Host.Outcome State Fault Refusal :=
  .next (s.writeRequest ch code train)

/-! TRIP (R48). -/

/-- The cause of the descent of a TRIP: 0x0040, or the release reason where a self-release has left it (R357; DEDUCED, log entry 164). A source's ID is
never below 256. -/
def tripCause (t : Nat) : Nat := if t < 0x100 then t else 0x0040

/-- TRIP_REACTION (R48, R357): a descent that runs already goes on, with BOOT as its target made MOORED; modes that carry nothing go safe.
A LOCKOUT that waits comes first, and its entry discards the TRIP (R46). -/
def execTripReaction (s : State) : Host.Outcome State Fault Refusal :=
  .next (if s.mode.pendingTrip.isNone || s.mode.pendingLockout.isSome then s
    else
      let cause := tripCause (s.mode.pendingTrip.getD 0)
      let s := { s with mode := { s.mode with pendingTrip := none } }
      if s.supply.phase != .running then s
      else if s.inModes [.rise, .track, .active, .holdup, .blackstart] then
        ((s.outputsSafe .safe).releaseOwn 1).supersedeRequest.beginDescent .moored cause true
      else
        let s := (s.releaseOwn 1).outputsSafe .safe
        let m := s.mode
        ({ s with mode := { m with tripInForce := true, descentByTrip := m.descentByTrip || s.inMode .descent
                                   descentTo := if s.inMode .descent && m.descentTo == Mode.boot then Mode.moored else m.descentTo } }).driveTrip)

/-! Descent (R298). -/

/-- Every BIDIR and HOLD stage of the side is stopped. -/
def State.descentStopped (s : State) : Bool := (s.stagesOf 0 ++ s.stagesOf 2).all fun n => !s.stageOn n

/-- A stage rail stopped with the effect of `StageCommand` 0. -/
def State.stopStageRail (s : State) (r : Nat) : State := (s.railOff r).applyStageStop (s.railTarget r)

/-- A group flagged `KeepMoored` in a descent to MOORED keeps its rails and runs no descent program (R298); a rise that stands in it stops there (R45). One
whose rails have been forced off (R296, R299) has none to keep, and runs its program. -/
def State.keepGroup (s : State) (g : Nat) : State :=
  let v := s.railGroup g
  s.setRailGroup g { v with kept := true, running := false, phase := if v.phase == .rising then .failed else v.phase }

/-- DESCENT_PROGRAMS_START (R298). -/
def execDescentProgramsStart (s : State) : Host.Outcome State Fault Refusal :=
  .next (if s.inMode .descent && !s.mode.descentPrograms && s.descentStopped && s.supply.phase == .running then
      let s := forUnits ((List.range 32).filter fun r => s.railUsed r && s.railKind r == 1) (fun t r => t.stopStageRail r) s
      let s := { s with mode := { s.mode with descentPrograms := true }, thermal := { s.thermal with descentFrom := s.now } }
      let s := (s.setRegion .pwm .safe).driveTrip
      forUnits [0, 1, 2, 3] (fun t g =>
        if t.mode.descentTo == .moored && t.keepsMoored g && !t.groupForced g then t.keepGroup g
        else if (t.railGroup g).phase == .lowered then t else t.startLower g) s
    else s)

/-- Every group to be lowered is LOWERED. -/
def State.allLowered (s : State) : Bool := s.railGroups.all fun g => g.phase == .lowered || g.kept

/-- DESCENT_COMPLETE (R298): MOORED, the lay-up entry, or a start through BOOT, all with cause 0x0070. -/
def execDescentComplete (train : Nat) (s : State) : Host.Outcome State Fault Refusal :=
  .next (if s.inMode .descent && s.mode.descentPrograms && s.allLowered && !s.dead.entering && s.supply.phase == .running then
      let s := { s with mode := { s.mode with holdoffFrom := some s.now }, thermal := { s.thermal with lastDescent := s.since s.thermal.descentFrom } }
      let s := ((s.commitEst true).commitAgeing).releaseOwn 8
      match s.mode.descentTo with
      | .boot => s.restart 0x0070 train
      | .layup => s.beginLayup
      | _ =>
        let s := (s.enterMode .moored 0x0070).networksDown
        { s with mode := { s.mode with online := false, wakeTimerFrom := some s.now, wakeServed := 0, stretchFrom := [], canAwakeSince := none } }
    else s)

end Sys2Proof.Machine
end

