-- ==== Sys2Proof/Machine/Supply.lean ====
section
/-! DEFINITION. Loss of supply, `RST_N`, POR and the AO clock (R61 to R71, R333, R501). -/
namespace Sys2Proof.Machine

/-- The power-fail warning as a source (Table 11-8). -/
def State.vaoKey (s : State) : Key := s.key 1 0xFF 6 0

/-- The supply sources that a warning counts, as enabled by `PfwSources` (R61). -/
def State.warnSources (s : State) (pfw vao : Bool) : Nat :=
  b2n (pfw && bit (s.objN 0x2103 1) 0) + 2 * b2n (vao && bit (s.objN 0x2103 1) 1)

/-- POWER_FAIL_WARNING (R61 to R64, R68, R69): a warning at POR release holds the controller in AO, and the counter block is
committed if it was restored; a warning while it runs starts the last breath, in which `PFW_N` with VAO good switches the rails off at step 1. Whether the board's
hold-up is below specification is a free value (log entry 42). -/
def execPowerFailWarning (pfw vao : Bool) (s : State) : Host.Outcome State Fault Refusal :=
  .next (
    let src := s.warnSources pfw vao
    if src = 0 then s
    else
      let s := { s with supply := { s.supply with pfwEvents := s.supply.pfwEvents + 1, warn := true } }
      match s.supply.phase with
      | .por =>
        let t := ({ s with supply := { s.supply with porTick := s.now } }).restoreCounters
        let s := if s.newerCopy.isSome then t.commitCounters true else t
        { s with supply := { s.supply with phase := .waiting } }
      | .waiting => s
      | .running => let d := s.drawBool; (d.2.raise s.vaoKey 0).lastBreath src false (pfw && !vao) d.1
      | .afterWarning => s
      | .afterRst => s)

/-- RST_N_ASSERTED (R67): low for 10 µs. -/
def execRstNAsserted (s : State) : Host.Outcome State Fault Refusal :=
  .next (
    let t := { s with supply := { s.supply with rstLow := true } }
    if s.supply.phase == .running then t.lastBreath 0 true true false else t)

/-- RST_N_RELEASED (R67, R68): the sequence has ended and the pin is high; a warning that is present keeps the controller in AO. -/
def execRstNReleased (train : Nat) (s : State) : Host.Outcome State Fault Refusal :=
  .next (
    let t := { s with supply := { s.supply with rstLow := false } }
    if s.supply.phase == .afterRst && !s.supply.warn then t.restart 2 train else t)

/-- SUPPLY_DIP_RESTART (R66, R68): the warning clear for 10 ms without POR; its source clears at the end of its window (R319). A start that a warning held back after `RST_N` goes on with its own
cause; with `RST_N` low the warning alone ends. -/
def execSupplyDipRestart (train : Nat) (s : State) : Host.Outcome State Fault Refusal :=
  .next (if s.supply.phase == SupplyPhase.afterWarning && !s.supply.rstLow then (s.clearing s.vaoKey).restart 3 train
    else if s.supply.phase == SupplyPhase.afterRst && s.supply.warn then
      let t := { s.clearing s.vaoKey with supply := { s.supply with warn := false } }
      if s.supply.rstLow then t else t.restart 2 train
    else s)

/-- COUNTER_BLOCK_PERIODIC_COMMIT (R65): every 1 s while the controller runs. -/
def execCounterBlockPeriodicCommit (s : State) : Host.Outcome State Fault Refusal :=
  .next (if s.supply.phase == .running && !s.inMode .layup then s.commitCounters false else s)

/-- POR_ASSERTED (R21, R50, R333): the whole package is reset; MRAM keeps what it holds. -/
def execPorAsserted (s : State) : Host.Outcome State Fault Refusal :=
  .next (
    let t := (s.outputsSafe .safe).fresh true
    { t with supply := { t.supply with phase := .por }, mode := {} })

/-! The AO clock (R501). -/

def State.oscKey (s : State) : Key := s.key 1 0xFF 0 0

/-- XTAL_FAIL (R501): no edge for 122 µs. -/
def execXtalFail (s : State) : Host.Outcome State Fault Refusal :=
  .next (if s.clock.rc then { s with clock := { s.clock with running := false } }
    else ({ s with clock := { s.clock with rc := true, running := false, retryAt := s.now } }).raise s.oscKey 0)

/-- XTAL_RETRY (R501): the crystal restarted 1 s ago has run since, and AO returns to it; or it is restarted. -/
def execXtalRetry (runs : Bool) (s : State) : Host.Outcome State Fault Refusal :=
  .next (if s.clock.rc && s.elapsed s.clock.retryAt 1 then
      (if runs then ({ s with clock := { s.clock with rc := false, running := true, retryAt := s.now } }).clearing s.oscKey
       else { s with clock := { s.clock with running := false, retryAt := s.now } })
    else s)

end Sys2Proof.Machine
end

