-- ==== Sys2Proof/Machine/Wakes.lean ====
section
/-! DEFINITION. Wakes from MOORED, the moored scan, lay-up (R57 to R60, R102, R282 to R287, R388, R414). -/
namespace Sys2Proof.Machine

/-- Wake settings of the image (R57). -/
def State.wakeOn (s : State) (n : Nat) : Bool := match s.image with | some sl => bit sl.content.wakeEnable n | none => false
def State.wakeStarts (s : State) (n : Nat) : Bool := match s.image with | some sl => bit sl.content.wakeStart n | none => false
def State.wakeTime (s : State) : Nat := match s.image with | some sl => sl.content.wakeTimer | none => 0

/-- A controller in MOORED may be woken. -/
def State.asleep (s : State) : Bool := s.inMode .moored && s.supply.phase == .running

/-- A wake served in MOORED (Table 02-5): its cause and record, and the estimators' step (R260). -/
def State.serveWake (s : State) (cause : Nat) : State :=
  let s := s.mooredSteps.enterMode .moored cause
  { s with mode := { s.mode with wakeServed := cause } }

/-- A wake source has qualified (R57): it starts operation, or is served in MOORED. While a lay-up entry runs, `WAKE_N` and `SRCDET` stay
pending for its end, and the other sources are disarmed (R282, R284). -/
def State.wake (s : State) (cause : Nat) (starts : Bool) : State :=
  if s.dead.entering then (if cause ≤ 0x0051 then { s with dead := { s.dead with wakePending := some cause } } else s)
  else if starts && !s.heldOff then s.enterRise cause
  else
    let t := s.serveWake cause
    if starts then t.toRise cause else t

/-- WAKE_N_WAKE (R57): always a start of operation. -/
def execWakeNWake (s : State) : Host.Outcome State Fault Refusal := .next (if s.asleep then s.wake 0x0050 true else s)

/-- `SrcDetEnable` and `SrcDetStart` in force: a value written outside BOOT, SERVICE and MOORED waits for the next lay-up entry (Table 09-11). -/
def State.srcEnable (s : State) : Nat := s.dead.srcEnable.getD (s.objN 0x5910 2)
def State.srcStart (s : State) : Nat := s.dead.srcStart.getD (s.objN 0x5910 6)

/-- The level of comparator n and the time in force (Table 09-11). -/
def State.srcLevel (s : State) (n : Nat) : Rat := match s.dead.srcLevels with | some l => nth l n 0 | none => s.objR 0x5910 (3 + n)
def State.srcTime (s : State) : Nat := s.dead.srcTime.getD (s.objN 0x5910 5)

/-- The comparator of `SRCDETn` (R287): above its level it reads high, and low again only 40 mV below it. -/
def State.srcdetHigh (s : State) (n : Nat) (was : Bool) (v : Rat) : Bool :=
  if was then decide (s.srcLevel n - 4 / 100 < v) else decide (s.srcLevel n < v)

/-- An enabled comparator has qualified (R57, R287): its pin has taken it high and has kept it high for the time in force. -/
def State.srcQualified (s : State) (d : SrcPin) : Bool :=
  decide (d.n < 2) && bit s.srcEnable d.n && s.srcdetHigh d.n false d.first && s.srcdetHigh d.n true d.least && decide (s.srcTime ≤ d.ms)

/-- SRCDET_WAKE (R57, R287). -/
def execSrcdetWake (d : SrcPin) (s : State) : Host.Outcome State Fault Refusal :=
  .next (if s.asleep && s.srcQualified d then s.wake 0x0051 (bit s.srcStart d.n) else s)

/-- An address that the AO matcher of a port watches for (R414). -/
def State.matches (s : State) (p addr : Nat) : Bool :=
  s.part.has .twoWire p && s.portN p 2 == 1
    && ((bit (s.portN p 8) 0 && s.portN p 6 != 0xFF && addr == s.portN p 6) || (bit (s.portN p 8) 1 && s.portN p 7 == 1 && addr == 8))

/-- TW_ADDRESS_MATCH_WAKE (R59, R414): with `SlowMode` 0 the address is acknowledged and SCL held. A lay-up entry has disarmed the matcher (R282). -/
def execTwAddressMatchWake (p addr : Nat) (s : State) : Host.Outcome State Fault Refusal :=
  .next (if s.asleep && !s.dead.entering && s.matches p addr then
      let s := if s.portN p 5 = 1 then s else { s with mode := { s.mode with stretchFrom := (s.mode.stretchFrom.filter fun x => x.1 != p) ++ [(p, s.now)] } }
      s.wake 0x0052 (s.wakeStarts p)
    else s)

/-- TW_MATCH_STRETCH_TIMEOUT (R59): 400 µs have passed. Where the target path does not run by then, SCL is released, the next byte gets NACK and
the late wake is counted. -/
def execTwMatchStretchTimeout (p : Nat) (s : State) : Host.Outcome State Fault Refusal :=
  .next (match s.mode.stretchFrom.find? fun x => x.1 == p with
    | some x =>
      if 400 * ticksPerUs ≤ s.since x.2 then
        let s := { s with mode := { s.mode with stretchFrom := s.mode.stretchFrom.filter fun x => x.1 != p } }
        if s.regionOn .net then s
        else (s.setPort p { s.port p with lateWakes := (s.port p).lateWakes + 1, nackNext := true }).raise (s.key 1 0xFF (8 + p) 0) 0
      else s
    | none => s)

/-- CAN_WAKE (R388). -/
def execCanWake (p : Nat) (s : State) : Host.Outcome State Fault Refusal :=
  .next (if s.asleep && s.part.has .can p && s.wakeOn (4 + p) then
      let s := s.wake 0x0053 (s.wakeStarts (4 + p))
      if s.inMode .moored && !s.dead.entering then
        let s := (s.serveRegions true).canBack
        { s with mode := { s.mode with canAwakeSince := some s.now } }
      else s
    else s)

/-- CAN_RETENTION_TIMEOUT (R388). -/
def execCanRetentionTimeout (s : State) : Host.Outcome State Fault Refusal :=
  .next (match s.mode.canAwakeSince with
    | some t =>
      if s.inMode .moored && s.elapsed t 1 then
        let s := s.canDown.serveRegions false
        { s with mode := { s.mode with canAwakeSince := none } }
      else s
    | none => s)

/-- One moored entry converted: its result, and whether it lies outside its limits (R102). The voltages left over follow. -/
def State.mooredEntry (s : State) (e : Nat) (volts : List Rat) : State × Bool × List Rat :=
  let w := nth s.adc.running e 0
  let n := 2 ^ entryAvg w
  let r := entryResult w volts
  let v := entryVolts w r
  let lo := entryLimit w && decide (v < s.objR 0x4104 (1 + e))
  let hi := entryLimit w && decide (s.objR 0x4105 (1 + e) < v)
  let s := { s with adc := { s.adc with entries := put s.adc.entries e { nth s.adc.entries e {} with raw := r, volts := v, below := lo, above := hi } } }
  ((s.thermEntry e).railEntry e, lo || hi, volts.drop n)

/-- The entries of a scan in order. -/
def State.mooredEntries (s : State) (volts : List Rat) (hit : Bool) : List Nat → State × Bool
  | [] => (s, hit)
  | e :: es => let r := s.mooredEntry e volts; r.1.mooredEntries r.2.2 (hit || r.2.1) es

/-- MOORED_ADC_SCAN (R102). -/
def execMooredAdcScan (volts : List Rat) (codes : List Nat) (s : State) : Host.Outcome State Fault Refusal :=
  .next (if s.asleep then
      let l := (List.range s.adc.running.length).filter fun e => entryMoored (nth s.adc.running e 0)
      let r := s.mooredEntries volts false l
      let s := r.1.slot codes
      if r.2 && s.wakeOn 6 then s.wake 0x0054 (s.wakeStarts 6) else s
    else s)

/-- OWN_N_RELEASE_WAKE (R57, R60): the net has been released for 10 µs. -/
def execOwnNReleaseWake (s : State) : Host.Outcome State Fault Refusal :=
  .next (if s.asleep && s.wakeOn 7 then ({ s with pair := { s.pair with netHigh := true } }).wake 0x0055 true else s)

/-- AO_WAKE_TIMER_EXPIRED (R57). -/
def execAoWakeTimerExpired (s : State) : Host.Outcome State Fault Refusal :=
  .next (match s.mode.wakeTimerFrom with
    | some t =>
      if s.asleep && s.wakeOn 8 && s.elapsed t s.wakeTime then
        ({ s with mode := { s.mode with wakeTimerFrom := some s.now } }).wake 0x0056 (s.wakeStarts 8)
      else s
    | none => s)

/-! Lay-up (R282 to R286). -/

/-- A string opened at its turn of Table 09-10 step 2. -/
def State.layupOpen (s : State) (k : Nat) (underLoad auxOpen : Bool) : State :=
  let s := s.openString k
  let s := s.setStr k { s.str k with auxClosed := !auxOpen }
  let s := if underLoad then ({ s with dead := { s.dead with openUnderLoad := s.dead.openUnderLoad + 1 } }).note 0x0090 (leBytes 1 k) else s
  if auxOpen then s else s.raise (s.strKey k 4) 0

/-- The string whose turn it is to open: the lowest whose contactor command is active. -/
def State.layupNext (s : State) : Option Nat := (List.range 8).find? fun k => (s.str k).contactor

/-- The string's 1 ms mean of |I| is at or above 0.01 C (R283): its own latest mean, or, with SNS off, what the command says. -/
def State.layupLoaded (s : State) (k : Nat) (told : Bool) : Bool :=
  match (s.estOf k).means with
  | m :: _ => if s.estRuns k then decide ((s.estOf k).rate / 100 ≤ m.a) else told
  | [] => told

/-- One turn of Table 09-10 step 2, where it has come: the string opens, or is waited for, up to 10 s (R283). -/
def State.layupTurn (s : State) (underLoad auxOpen : List Bool) : State :=
  match s.layupNext with
  | none => s
  | some k =>
    let d := s.dead
    let due := d.entryFrom.getD s.now + 100 * ticksPerMs * d.entryTurn + d.entryShift
    let loaded := s.layupLoaded k (nth underLoad k false)
    if s.now < due then s
    else if loaded && !s.elapsed due 10 then { s with dead := { d with entryWaits := true } }
    else
      let wait := if d.entryWaits || loaded then s.now - due else 0
      ({ s with dead := { d with entryTurn := d.entryTurn + 1, entryWaits := false, entryShift := d.entryShift + wait } } : State).layupOpen k loaded (nth auxOpen k true)

/-- A start out of LAYUP (R286): the times of Table 02-6 count from here, where its wake has qualified. -/
def State.layupStart (s : State) (c : Nat) (train : Nat) : State :=
  ({ s with dead := { s.dead with lastWake := c }, supply := { s.supply with porTick := s.now } }).restart c train

/-- Steps 3 and 4 of Table 09-10; a wake that qualified meanwhile leaves LAYUP at once (R284). -/
def State.layupEnd (s : State) : State :=
  let cause := if s.inMode .moored then 0x0010 else 0x0070
  let s := (s.commitEst true).commitCounters false
  let s := { s with supply := { s.supply with layupFlag := true }
                    dead := { s.dead with layupEntries := s.dead.layupEntries + 1, entering := false, srcEnable := none, srcStart := none, srcLevels := none
                                          srcTime := none } }
  let s := (s.enterMode .layup cause).networksDown.flushLog
  let s := { s with mode := { s.mode with online := false, stretchFrom := [], canAwakeSince := none, wakeTimerFrom := none } }
  match s.dead.wakePending with
  | some c =>
    let d := s.draw
    d.2.layupStart c d.1.floor.toNat
  | none => s

/-- LAYUP_ENTRY (Table 09-10): accepted when every group is LOWERED. Each such command takes the entry as far as its times allow (log entry 66): the
strings whose turn has come, and, with the last one open, steps 3 and 4. -/
def execLayupEntry (underLoad auxOpen : List Bool) (s : State) : Host.Outcome State Fault Refusal :=
  .next (if s.dead.entering && s.inModes [.moored, .descent] && s.railGroups.all (fun g => g.phase == .lowered) && s.supply.phase == .running then
      let s := { s with dead := { s.dead with entryFrom := some (s.dead.entryFrom.getD s.now) } }
      let s := forUnits ((List.range 8).filter fun k => !(s.str k).contactor) (fun t k => t.openString k) s
      let s := forUnits (List.range 8) (fun t _ => t.layupTurn underLoad auxOpen) s
      if s.layupNext.isNone then s.layupEnd else s
    else s)

/-- The cause of a lay-up exit: `WAKE_N` or a comparator (R286). -/
def srcCause (src : Option SrcPin) : Nat := if src.isNone then 0x0050 else 0x0051

/-- LAYUP_WAKE (R284, R286): `WAKE_N`, or what the pin of a comparator has shown. -/
def execLayupWake (src : Option SrcPin) (train : Nat) (s : State) : Host.Outcome State Fault Refusal :=
  .next (if s.supply.phase == .running && src.all s.srcQualified then
      let c := srcCause src
      if s.inMode .layup then ({ s with dead := { s.dead with wakePending := some c } }).layupStart c train
      else if s.dead.entering then { s with dead := { s.dead with wakePending := some c } }
      else s
    else s)

end Sys2Proof.Machine
end

