-- ==== Sys2Proof/Machine/Sram.lean ====
section
/-! DEFINITION. Uncorrectable errors of the SRAM instances and what each requester does (R448, Table 15-5). -/
namespace Sys2Proof.Machine

/-- A program word of a group cannot be read (R317): in a rise a group failure; in a descent the group's rails go off at once. -/
def State.seqWordBad (s : State) (g : Nat) : State :=
  match (s.railGroup g).phase with
  | .rising => if (s.railGroup g).running then (s.raise s.seqKey 1).failGroup g s.seqKey else s
  | .lowering =>
    if (s.railGroup g).running then
      let s := s.raise s.seqKey 1
      (forUnits (s.groupRails g) (fun t r => t.forceOff r) s).groupLowered g
    else s
  | _ => s

/-- An uncorrectable word of a repetitive controller's table takes its DEGRADE (R190, R448); a controller that is off has no source (R183). -/
def State.degradeRc (s : State) (n : Nat) : State := if s.objN (0x3C00 + n) 2 = 0 then s else (s.rcDiverge n).rcFreeze n

/-- The observer of a stage starts afresh, without its substitutions: DESIGN CHOICE (log entry 177), as the DEGRADE reactions of R199 are those of its phases and
none is given to the observer itself. -/
def State.degradeObserver (s : State) (st : Nat) : State := s.setObserver st {}

/-- The reaction in AO and SUP. A data abort in core data ends the operation that made the access, with status 0x0606_0000 where it answers a host (Table 15-3,
Table 15-5); the cores run on. -/
def State.sramLow (s : State) (region unit item : Nat) : State :=
  match region, unit with
  | 0, 0 => s.seqWordBad item
  | 0, 1 => let s := s.restoreCounters; if s.supply.opValid then s else s.raise s.otcKey 0
  | 1, 0 =>
    let s := { s with pair := { s.pair with supStalled := true } }
    if s.carries then s.selfRelease 6 else s
  | 1, 1 => { s with net := { s.net with answer := { s.net.answer with status := stHardware, data := [] } } }
  | 1, 2 => { s with net := { s.net with answer := { s.net.answer with status := stHardware, data := [] } } }
  | 1, 3 =>
    let k : Key := { id := item % 2 ^ 32, kind := item / 2 ^ 32 }
    ({ s with faults := { s.faults with sevBroken := if s.faults.sevBroken.contains k then s.faults.sevBroken else k :: s.faults.sevBroken } }).raise (s.key 2 0xFF 2 0) 0
  | _, _ => s

/-- The run of an instance aborts where it reads the word (R105): in a memory of its engine and, in a coefficient slot, in the set that it uses. -/
def State.abortReader (s : State) (unit lp slot : Nat) : State :=
  match s.loopRec lp with
  | some _ => if s.errFits (s.inst lp).runRec (unit, slot, true) then s.abortRun lp else s
  | none => s

/-- The reaction in ENG: `item` is the instance that runs and, for a coefficient word, 64 times the slot added to it. -/
def State.sramEng (s : State) (unit item : Nat) : State :=
  if unit < 0x18 then
    let s := s.abortReader unit (item % 64) (item / 64 % 256)
    if 8 ≤ unit ∧ unit < 0x10 then s.raise (s.key 3 (0x40 + unit - 8) (item / 64 % 256) 0) 0 else s
  else if unit = 0x18 then s.raise (s.key 3 0xFF 8 0) 0
  else if unit = 0x19 then (if item < 8 then s.degradeRc item else s)
  else (if item < 8 then s.degradeObserver item else s)

/-- The reaction in NET. -/
def State.sramNet (s : State) (unit item : Nat) : State :=
  match unit with
  | 0 => s.setEth 0 { s.eth 0 with dropped := (s.eth 0).dropped + 1 }
  | 1 => s.setEth 1 { s.eth 1 with dropped := (s.eth 1).dropped + 1 }
  | 2 => s.setCan (item % 2) { s.can (item % 2) with fd := [], dropped := (s.can (item % 2)).dropped + 1 }
  | 3 => { s with net := { s.net with hsCrc := s.net.hsCrc + 1 } }
  | 4 => s.raise s.scriptKey 1
  | _ => s.closeNireo item

/-- A pending record lost with its word (R459). -/
def State.dropWaiting (s : State) (i : Nat) : State :=
  match s.log.waiting[i]? with
  | some r => ({ s with log := ({ s.log with waiting := s.log.waiting.eraseIdx i } : Log).countDrop r.cls } : State).settleDrops
  | none => s.raise s.dropKey 0

/-- The reaction in MEM, NVM and PAIR. -/
def State.sramHigh (s : State) (region unit item : Nat) : State :=
  match region, unit with
  | 7, 0 => s.busErrorTo (match item with | 0 => .recorder | 1 => .cores | 2 => .server | _ => .scrubber) none
  | 8, 0 => s.dropWaiting item
  | 8, 1 => let s := s.raise s.frameKey 0; { s with log := { s.log with frames := s.log.frames + 1, dropped := s.log.dropped + 1 } }
  | 9, 0 => { s with pair := { s.pair with linkErrors := s.pair.linkErrors + 1 } }
  | _, _ => s

/-- SRAM_UNCORRECTABLE (R448). -/
def execSramUncorrectable (region unit item : Nat) (s : State) : Host.Outcome State Fault Refusal :=
  .next (if s.sramPresent region unit then
      let s := s.raise (s.key (region + 1) 0xFE unit 2) 0
      match region with
      | 0 => s.sramLow 0 unit item
      | 1 => s.sramLow 1 unit item
      | 2 => s.sramEng unit item
      | 3 => s.shedStage item
      | 4 => if item < 48 then s.setMod item { s.modIn item with wordBad := true } else s
      | 6 => s.sramNet unit item
      | _ => s.sramHigh region unit item
    else s)

end Sys2Proof.Machine
end

