-- ==== Sys2Proof/Machine/Status.lean ====
section
/-! DEFINITION. Status words of units, clusters and regions (R25 to R29, Tables 01-5 and 01-6). -/
namespace Sys2Proof.Machine

/-- Codes of Table 01-6. -/
def UState.code : UState → Nat
  | .disabled => 0 | .unpowered => 1 | .starting => 2 | .running => 3 | .degraded => 4 | .shed => 5 | .safe => 6

/-- A DEGRADE reaction in force shows on a unit that runs (R321, R324). -/
def UState.acting (u : UState) (acts : List ActiveSrc) : UState :=
  if u = .running ∧ acts.any (·.degrades) = true then .degraded else u

/-- A status word (Table 01-5), of a region whose power state is given. -/
def statusWord (down : Bool) (acts : List ActiveSrc) (u : UState) (kind : List Bool) : List Byte :=
  if down then leBytes 2 1
  else leBytes 2 ((u.acting acts).code + 16 * (topClass acts - 1) + 128 * b2n (!acts.isEmpty) + 256 * packBits kind)

def State.word (s : State) (code : Nat) (acts : List ActiveSrc) (u : UState) (kind : List Bool) : List Byte :=
  statusWord (s.poweredDown code) acts u kind

/-- A TRIP or LOCKOUT holds the side safe. -/
def State.sideSafe (s : State) : Bool := s.mode.tripInForce || s.inMode .lockout

/-- A unit that is disabled, held safe, stopped, running or still to run, the first that holds (R27: a SHED does not lower SAFE). -/
def ustate (disabled shed safe running : Bool) : UState :=
  if disabled then .disabled else if safe then .safe else if shed then .shed else if running then .running else .starting

/-- The highest state among a cluster's enabled units (R26). -/
def clusterState (l : List UState) : UState :=
  (l.filter fun u => u != .disabled).foldl (fun a u => if a.code < u.code then u else a) .disabled

/-! Measurement (R80, Table 03-4). -/

/-- The group counts as enabled: by the value in force while SNS is ON, else by the value that its next start takes (R74). -/
def State.groupOn (s : State) (g : Nat) : Bool := if s.regionOn .sns then (s.group g).enabled else s.objN (0x4030 + g) 1 != 0

def State.inputState (s : State) (md : Nat) : UState :=
  let g := s.group (md / 12)
  ustate (!s.groupOn (md / 12) || s.modType md == 0) g.shed false (decide (3 ≤ (s.modIn md).frames))

def State.inputActs (s : State) (md : Nat) : List ActiveSrc := s.activeUnit 5 (md / 12) md

def State.inputWord (s : State) (md : Nat) : List Byte :=
  let m := s.modIn md
  let on := fun kind => s.isActive (s.key 5 (md / 12) md kind)
  s.word 5 (s.inputActs md) (s.inputState md) [on 1, on 2, on 3, decide (m.frames < 3), m.cal == 1, m.high, m.low]

def State.groupWord (s : State) (g : Nat) : List Byte :=
  s.word 5 (s.activeCluster 5 g)
    (if !s.groupOn g then .disabled else if (s.group g).shed then .shed else clusterState ((groupInputs g).map s.inputState)) []

def State.ainWord (s : State) (n : Nat) : List Byte :=
  let l := (s.ainResults n).map (·.2)
  s.word 6 (s.activeUnit 6 0xFF (0x20 + n)) (ustate l.isEmpty (s.isShed 6 0xFF (0x20 + n)) false true)
    [l.any (·.openWire), l.any (·.below), l.any (·.above), s.unchecked]

def State.adcWord (s : State) : List Byte :=
  s.word 6 (s.activeUnit 6 0xFF 0) (ustate s.adc.running.isEmpty (s.isShed 6 0xFF 0) false true) []

/-! Loop engines (Table 04-11, R140). -/

def State.instState (s : State) (lp : Nat) : UState :=
  match s.loopRec lp with
  | none => .disabled
  | some r =>
    if r.noStage then ustate false (s.inst lp).shed false (s.inst lp).active
    else match (s.stage r.stage).state with
      | .shed => .shed
      | .safe => .safe
      | .disabled => .disabled
      | _ => ustate false (s.inst lp).shed false (s.inst lp).active

def State.instActs (s : State) (lp : Nat) : List ActiveSrc := s.faults.active.filter fun a => a.key.region == 3 && decide (a.key.cluster ≤ 8) && a.key.unit == lp

def State.instWord (s : State) (lp : Nat) : List Byte :=
  let i := s.inst lp
  let pend : Bool := match s.loopRec lp with
    | some r => i.band != s.instBand r
    | none => false
  s.word 3 (s.instActs lp) (s.instState lp) [i.miss, i.nan, i.heldInvalid, i.substituted, i.saturated, i.depLate, pend]

/-- An instance in force uses the slot (R116). -/
def State.slotUsed (s : State) (e m : Nat) : Bool := s.variant.recs.any fun r => s.usesSlot r e m

def State.slotWord (s : State) (e m : Nat) : List Byte :=
  s.word 3 (s.activeUnit 3 (0x40 + e) m) (ustate (!s.slotUsed e m) (s.isShed 3 (0x40 + e) m) false true) []

def State.engineWord (s : State) (e : Nat) : List Byte :=
  s.word 3 (s.activeCluster 3 (0x40 + e)) (ustate (!s.variant.recs.any fun r => r.engine == e) (s.faults.sheds.any fun k => k.region == 3 && k.cluster == 0x40 + e) false true) []

def State.ttsWord (s : State) : List Byte :=
  s.word 3 (s.activeUnit 3 0xFF 8) (ustate (!s.bank.valid) (s.isShed 3 0xFF 8) false (s.tide.pulsed && !s.tide.checkFailed))
    [s.tide.checkFailed, s.tide.swap == 2, s.variant.derated, s.variant.mode == 1]

/-! Stages and phases (Table 05-8). -/

def State.stageActs (s : State) (n : Nat) : List ActiveSrc := s.activeCluster 3 n ++ s.activeCluster 4 n

def State.stageWord (s : State) (n : Nat) : List Byte :=
  let v := s.stage n
  s.word 4 (s.stageActs n) v.state [v.rampOn, v.hold, v.bwAny, v.fenderAny, v.reinterleaving, v.estop, v.prebias]

def State.phaseWord (s : State) (p : Nat) : List Byte :=
  let v := s.phase p
  let st := s.phaseStage p
  let u := if (s.stageOf p).isNone || (!v.enable && !v.dropped) then UState.disabled
    else match (s.stage st).state with
      | .starting => if v.dropped then .degraded else .starting
      | .running => if v.dropped then .degraded else .running
      | .degraded => if v.dropped then .degraded else .running
      | x => x
  s.word 4 (s.activeUnit 4 st p) u [v.dropped, v.hold, v.bwTrunc, v.fenderTrunc, v.pulseDropped, v.tickOnly, v.moving]

/-! Setpoints (chapter 06). -/

def State.pgWord (s : State) (n : Nat) : List Byte :=
  let v := s.pg n
  s.word 2 [] (ustate false false false (s.regionOn .eng && s.tide.pulsed)) [v.moving, decide (0 < v.brake), v.done, v.supBit, v.limitPending]

def State.rcWord (s : State) (n : Nat) : List Byte :=
  let v := s.rc n
  s.word 3 (s.activeUnit 3 0xFF (0x10 + n)) (ustate (s.objN (0x3C00 + n) 2 == 0) (s.isShed 3 0xFF (0x10 + n)) false (s.rcRuns n))
    [v.locked, s.rcLearns n, v.fadeFrom.isSome, v.refStale, v.diverged]

def State.obsWord (s : State) (n : Nat) : List Byte :=
  let v := s.observer n
  let u := if s.objN (0x3D00 + n) 2 = 0 then UState.disabled
    else match (s.stage n).state with
      | .shed => .shed
      | .safe => .safe
      | .disabled => .disabled
      | _ => ustate false false false (s.stageOn n)
  s.word 3 (s.activeUnit 3 n 0x40) u
    [v.ph.any (·.alarm), v.ph.any (·.subst), v.model, v.ph.any (·.ambiguous), v.capShort, v.idle]

/-! Shelf power and feeds (R238). -/

/-- A source is within its limits and not yet qualified (R222, R238). -/
def State.qualifying (s : State) : Bool :=
  [0, 1].any (fun f => s.objN (0x4400 + 16 * f) 2 == 1 && (s.feed f).goodSince.isSome && !(s.feed f).qualified)
    || (List.range 64).any fun b => (nth s.spm.berthGoodSince b none).isSome && !nth s.spm.qualBerth b false

def State.spmWord (s : State) : List Byte :=
  let m := s.spm
  s.word 2 (s.activeUnit 2 0xFF 4) (ustate false (s.isShed 2 0xFF 4) false (s.regionOn .sup))
    [m.capped, m.supply != .source, s.inMode .holdup, s.qualifying, m.noSource, m.shareLimited, m.absorbCapped]

def State.feedWord (s : State) (f : Nat) : List Byte :=
  let v := s.feed f
  let hot : Bool := decide (0 < s.feedR f 0x11) && decide (s.feedR f 0x11 / 2 < v.heat)
  s.word 4 (s.activeCluster 4 (0x10 + f)) (ustate (!s.feedEnabled f) v.shed s.sideSafe v.gate)
    [v.gate, v.gon, v.pg, v.reverseOff, v.inrush, hot, v.qualified, v.lost]

/-! Strings and chargers (R263, Table 09-4). -/

def State.stringWord (s : State) (k : Nat) : List Byte :=
  let v := s.str k
  let probe : Bool := match s.spm.probe with
    | some p => p.1 == k
    | none => false
  s.word 2 (s.activeCluster 2 k) (ustate (!s.strUsed k) v.shed s.sideSafe v.connected)
    [v.connected, v.est.lowRate, v.est.unanchored, v.slack.runs, probe, v.est.endDis, v.est.endChg, v.est.disagree]

def State.channelState (s : State) (k : Nat) : UState :=
  ustate (!s.strUsed k || s.objN 0x5800 1 == 0) (s.str k).shed s.sideSafe true

def State.channelWord (s : State) (k : Nat) : List Byte :=
  let c := s.charger k
  s.word 2 (s.activeUnit 2 8 k) (s.channelState k)
    [c.paused, decide (c.iTh < s.progCurrent k / 2), c.inRest, c.inRest && c.loaded, c.eqDue, c.restSkipped, c.rate == 1]

def State.chargerWord (s : State) : List Byte := s.word 2 (s.activeCluster 2 8) (clusterState ((List.range 8).map s.channelState)) []

/-! Rails (Table 10-6). -/

def RailPhase.code : RailPhase → Nat | .off => 0 | .rising => 1 | .good => 2 | .falling => 3 | .failed => 4
def GroupPhase.code : GroupPhase → Nat | .lowered => 0 | .rising => 1 | .risen => 2 | .lowering => 3 | .failed => 4

/-- Three bits of a number. -/
def bits3 (n : Nat) : List Bool := [bit n 0, bit n 1, bit n 2]

def State.railState (s : State) (r : Nat) : UState :=
  if !s.railUsed r then .disabled
  else if s.isShed 1 (s.railGroupOf r) r then (if s.sideSafe then .safe else .shed)
  else match (s.rail r).phase with
    | .off => .disabled
    | .rising => .starting
    | .good => .running
    | .falling => .running
    | .failed => if s.sideSafe then .safe else .shed

def State.railWord (s : State) (r : Nat) : List Byte :=
  let v := s.rail r
  s.word 1 (s.activeUnit 1 (s.railGroupOf r) r) (s.railState r)
    (bits3 v.phase.code ++ [v.margin != 0, (s.railGroup (s.railGroupOf r)).kept, v.forcedOff, v.pgPin])

def State.railGroupWord (s : State) (g : Nat) : List Byte :=
  let v := s.railGroup g
  s.word 1 (s.activeCluster 1 g) (clusterState ((s.groupRails g).map s.railState)) (bits3 v.phase.code ++ [v.kept, v.abortPending])

def State.seqStatusWord (s : State) : List Byte := s.word 1 (s.activeUnit 1 0xFF 7) (ustate false (s.isShed 1 0xFF 7) false true) []

/-! Networks, ports and berths (Table 14-5). -/

def State.ethWord (s : State) (p : Nat) : List Byte :=
  let v := s.eth p
  let sp := if v.speed = 10 then 1 else if v.speed = 100 then 2 else if v.speed = 1000 then 3 else 0
  s.word 7 (s.activeUnit 7 0xFF p) (ustate (!v.enabled) (s.isShed 7 0xFF p) false v.linkUp) [v.linkUp, bit sp 0, bit sp 1, v.linkLocal]

/-- Bits 9:8 of `CanStatus`. -/
def Nmt.code : Nmt → Nat | .off => 0 | .stopped => 0 | .preOperational => 1 | .operational => 2

def State.canWord (s : State) (p : Nat) : List Byte :=
  let v := s.can p
  s.word 7 (s.activeUnit 7 0xFF (2 + p)) (ustate false (s.isShed 7 0xFF (2 + p)) false (v.nmt != .off && !v.busOff))
    [bit v.nmt.code 0, bit v.nmt.code 1, v.busOff]

def State.hsWord (s : State) : List Byte := s.word 7 (s.activeUnit 7 0xFF 4) (ustate (s.objN 0x4A20 2 == 0) (s.isShed 7 0xFF 4) false true) []

def State.portWord (s : State) (p : Nat) : List Byte :=
  let v := s.port p
  let on : Bool := s.portN p 2 == 1
  let u := ustate (!on) (s.isShed 7 p 0x40) false true
  s.word 7 (s.activeCluster 7 p) (if u = .running ∧ v.stuck = true then .degraded else u)
    [s.portHosts p, s.portUp p && !s.shelfHost, v.discovering, v.busyNow, v.stuck, v.alertLow]

def State.berthWord (s : State) (b : Nat) : List Byte :=
  let v := s.berth b
  let p := b / 16
  let acts := s.activeUnit 7 p b
  s.word 7 acts (ustate (!s.berthUsed b || s.portN p 2 != 1) (s.isShed 7 p b) false v.present)
    [v.present, s.berthN b 6 != 0, s.berthOn b, s.berthFault b, nth v.vals.flags 2 false, s.berthStale b, v.alert, v.pec]

def State.scriptWord (s : State) : List Byte :=
  s.word 7 (s.activeUnit 7 0xFF 5) (ustate (s.objN 0x4810 2 == 0) (s.isShed 7 0xFF 5) false (s.regionOn .net)) []

/-! Memory, recorder, pair, regions (R452, R474, R369). -/

def State.memWord (s : State) : List Byte :=
  let m := s.mem
  if !s.part.has .ddr 0 then leBytes 2 1
  else s.word 8 (s.activeUnit 8 0xFF 0) (ustate false (s.isShed 8 0xFF 0) false (s.regionOn .mem))
    [m.trainResult == 1, m.byteParity, m.filling, m.scrubbing, s.flipArmedNow]

def State.deviceWord (s : State) (i : Nat) : List Byte :=
  s.word 8 (s.activeUnit 8 (i / 10) (i % 10)) (ustate (decide (s.ranks ≤ i / 10)) (s.isShed 8 (i / 10) 0xFF) false s.dramUp) [(nth s.mem.buckets i {}).full]

def State.sramWord (s : State) (code unit : Nat) : List Byte :=
  s.word code (s.activeUnit code 0xFE unit) (ustate false (s.isShed code 0xFE unit) false true) [(nth s.mem.sram (27 * (code - 1) + unit) {}).full]

def State.logWord (s : State) : List Byte :=
  s.word 9 (s.activeUnit 9 0xFF 1) (ustate false (s.isShed 9 0xFF 1) false (s.regionOn .nvm))
    [decide (logSlots ≤ s.log.held.length), s.log.freeze == .frozen, s.log.timeInvalid, s.log.indexReady]

def State.ringWord (s : State) : List Byte :=
  s.word 9 (s.activeUnit 9 0xFF 2) (ustate (s.objN 0x4700 2 == 0) (s.isShed 9 0xFF 2) false (s.log.running && s.ringRuns))
    [s.log.running && s.ringRuns, decide (s.ringFrames < s.log.frames), s.log.windows.any fun w => w.state == .promoting, s.part == .fyx9462]

def State.pairWord (s : State) : List Byte :=
  let p := s.pair
  s.word 10 (s.activeCluster 10 0xFF) (ustate false (s.isShed 10 0xFF 0xFF) false (p.lanes.any id))
    [p.owns, p.trackReady, s.twinPresent, p.locked, nth p.lanes 0 false != nth p.lanes 1 false, p.hoRequest, !(nth p.unacked 2 []).isEmpty]

/-- 0x22rr:01 (Table 11-6). -/
def State.regionWord (s : State) (code : Nat) : List Byte :=
  let acts := s.faults.active.filter fun a => a.key.region == code && a.key.member == s.member
  let u : Nat := match s.regionCode code with
    | .on => 3
    | .hold => 2
    | .safe => 6
    | .ret => 1
    | .duty => 1
    | .off => 1
  if s.poweredDown code then leBytes 2 1
  else leBytes 2 (u + 16 * (topClass acts - 1) + 128 * b2n (!acts.isEmpty) + 256 * b2n ((nth s.faults.regions (code - 1) {}).irqPending != 0))

end Sys2Proof.Machine
end

