-- ==== Sys2Proof/Machine/ViewsA.lean ====
section
/-! DEFINITION. What reads of objects return that the package computes: measurement, engines, stages, setpoints (Tables 03-6 to 06-7). -/
namespace Sys2Proof.Machine

/-! Encodings of a value that is read. A counter saturates at its type's maximum (R375). -/

def vN (n x : Nat) : Option (List Byte) := some (leBytes n (min x (256 ^ n - 1)))
def vR (x : Rat) : Option (List Byte) := some (realBytes x)
def vF (x : F32) : Option (List Byte) := some (leBytes 4 x.toNat)
def vI (n : Nat) (x : Int) : Option (List Byte) := some (intBytes n x)
def vS (x : List Byte) : Option (List Byte) := some x

/-- Modulator inputs and groups (Tables 03-6 to 03-8). -/
def State.viewSns (s : State) (idx sub : Nat) : Option (List Byte) :=
  if idx < 0x4030 then
    let md := idx - 0x4000
    let m := s.modIn md
    match sub with
    | 0x08 => vN 1 m.cal
    | 0x0A => vF m.y
    | 0x0B => vF (s.threshold md 0x0B false)
    | 0x0C => vF (s.threshold md 0x0C true)
    | 0x11 => vS (s.inputWord md)
    | 0x12 => vR (3 * ((s.osr md : Rat) - 1) * s.divider md / 400000000 + 60 / 1000000000)
    | 0x13 => vN 4 m.overCount
    | 0x14 => vR (s.fastY md)
    | _ => none
  else if idx < 0x4034 then
    match sub with
    | 4 => vS (s.groupWord (idx - 0x4030))
    | 5 => vN 4 (s.group (idx - 0x4030)).clockFaults
    | _ => none
  else if 5 ≤ sub ∧ sub ≤ 8 then vR (divR 200000000 (s.objN 0x4034 (sub - 4)))
  else none

/-- The supervisory ADC (Table 03-10). -/
def State.viewAdc (s : State) (idx sub : Nat) : Option (List Byte) :=
  let a := s.adc
  match idx with
  | 0x4100 =>
    match sub with
    | 1 => vN 1 a.seqLength
    | 3 => vS s.adcWord
    | 4 => vR (secOf a.lapTime)
    | 5 => vN 4 a.lapCount
    | 6 => vN 4 a.overruns
    | _ => none
  | 0x4102 => vN 4 (nth a.entries (sub - 1) {}).raw
  | 0x4103 => vR (nth a.entries (sub - 1) {}).volts
  | 0x4106 => vS (s.ainWord (sub - 1))
  | _ => none

/-- Loop instances (Table 04-12). -/
def State.viewInst (s : State) (lp sub : Nat) : Option (List Byte) :=
  let i := s.inst lp
  match sub with
  | 1 => vS (s.instWord lp)
  | 2 => vN 1 (match s.loopRec lp with | some r => r.engine | none => 0xFF)
  | 3 => vN 1 (match s.loopRec lp with | some r => (if r.noStage then 0xFF else r.stage) | none => 0xFF)
  | 4 => vN 1 (match s.loopRec lp with | some r => r.sections | none => 0)
  | 5 => vN 1 i.set
  | 6 => vF i.out
  | 7 => vF i.ref
  | 8 => vF i.fb
  | 9 => vF (s.outLow lp)
  | 0x0A => vF (s.outHigh lp)
  | 0x0B => vN 4 i.lastStart
  | 0x0C => vR (i.lastLatency / ticksPerS)
  | 0x0D => vN 4 i.missCount
  | 0x0E => vN 4 i.nanCount
  | 0x0F => vN 4 i.invalidCount
  | 0x10 => vN 4 i.satCount
  | _ => none

/-- The sequencer, engines and slots (Tables 04-13 and 04-14). -/
def State.viewEng (s : State) (idx sub : Nat) : Option (List Byte) :=
  let t := s.tide
  let v := s.variant
  if idx = 0x3A00 then
    match sub with
    | 1 => vN 1 v.mode
    | 2 => vN 2 (if v.mode = 1 then 0 else v.latency)
    | 3 => vN 4 (if v.mode = 1 then 0 else v.frameLen)
    | 4 => vN 1 v.recs.length
    | 5 => vN 1 v.admission
    | 6 => vN 1 t.active
    | 7 => vN 1 t.ageing
    | 8 => vN 1 v.ageing
    | 9 => vR (if v.derated then 360000000 else 400000000)
    | 0x0A => vN 1 t.swap
    | 0x0B => vS s.ttsWord
    | 0x0C => vN 4 t.totalMisses
    | 0x0D => vN 4 t.swapCount
    | _ => none
  else if 0x3A10 ≤ idx ∧ idx < 0x3A18 then
    let e := s.engine (idx - 0x3A10)
    match sub with
    | 1 => vS (s.engineWord (idx - 0x3A10))
    | 2 => vN 1 (v.recs.filter fun r => r.engine == idx - 0x3A10).length
    | 3 => vR e.occupancy
    | 4 => vR e.peak
    | 5 => vN 1 (if v.mode = 0 then 0 else e.queuePeak)
    | 6 => vN 4 e.waits
    | 7 => vN 1 (packBits (t.banks.map (·.valid)))
    | _ => none
  else if 0x3A80 ≤ idx ∧ idx < 0x3A88 then (if sub = 0 then none else vS (s.slotWord (idx - 0x3A80) (sub - 1)))
  else if 0x3AC0 ≤ idx ∧ idx < 0x3AC8 then (if sub = 0 then none else vS (s.slotWord (idx - 0x3AC0) (sub + 127)))
  else none

/-- Stages and phases (Tables 05-9 and 05-10). -/
def State.viewStage (s : State) (idx sub : Nat) : Option (List Byte) :=
  let n := (idx - 0x3000) / 256
  let v := s.stage n
  if (idx - 0x3000) % 256 = 0 then
    match sub with
    | 7 => vN 1 v.command
    | 8 => vS (s.stageWord n)
    | 9 => vN 4 (packBits ((List.range 24).map fun p => (s.stagePhases n).contains p && (s.phase p).inSet))
    | 0x0A => vN 1 v.angleSet
    | 0x0D => vF v.d0
    | 0x15 => vN 1 v.band
    | _ => none
  else if (idx - 0x3000) % 256 = 6 then
    match sub with
    | 1 => vR v.fenderVolts
    | 2 => vR v.fenderLimit
    | _ => none
  else none

def State.viewPhase (s : State) (p sub : Nat) : Option (List Byte) :=
  let v := s.phase p
  match sub with
  | 1 => vS (s.phaseWord p)
  | 2 => vN 1 (s.phaseStage p)
  | 4 => vN 1 (b2n v.enable)
  | 5 => vN 1 v.dropCause
  | 6 => vF v.duty
  | 7 => vF v.holdDuty
  | 8 => vN 4 v.offset
  | 0x0B => vN 4 v.bwCount
  | 0x0C => vN 4 v.fenderCount
  | 0x0D => vN 4 v.pulseDrops
  | _ => none

/-- Profile generators, repetitive controllers, observers (Tables 06-1, 06-4, 06-6). -/
def State.viewPg (s : State) (n sub : Nat) : Option (List Byte) :=
  let v := s.pg n
  match sub with
  | 1 => vS (s.pgWord n)
  | 3 => vR v.p
  | 4 => vR v.v
  | 5 => vR v.a
  | 0x0B => vN 4 v.targetSeq
  | 0x0C => vN 4 v.doneSeq
  | 0x0D => vN 4 v.superseded
  | 0x0E => vN 4 v.completed
  | 0x11 => vR (secOf (s.pgTu n))
  | 0x13 => vR (planTime v.plan)
  | _ => none

def State.viewRc (s : State) (n sub : Nat) : Option (List Byte) :=
  let v := s.rc n
  match sub with
  | 1 => vS (s.rcWord n)
  | 8 => vR (if v.locked then v.period else 0)
  | 9 => vN 2 v.len
  | 0x12 => vR v.u
  | 0x13 => vR v.phase
  | 0x14 => vR v.errRms
  | 0x15 => vN 4 v.resamples
  | _ => none

def State.viewObs (s : State) (n sub : Nat) : Option (List Byte) :=
  let v := s.observer n
  match sub with
  | 1 => vS (s.obsWord n)
  | 0x10 => vR v.missing
  | 0x11 => vN 4 v.substCount
  | 0x12 => vN 4 v.openCount
  | 0x13 => vN 4 v.sensorCount
  | 0x14 => vN 1 v.lastClass
  | _ =>
    if 0x41 ≤ sub ∧ sub ≤ 0x4C then vR (nth v.ph (sub - 0x41) {}).est
    else if 0x51 ≤ sub ∧ sub ≤ 0x5C then vR (nth v.ph (sub - 0x51) {}).resid
    else if 0x61 ≤ sub ∧ sub ≤ 0x6C then vR (nth v.ph (sub - 0x61) {}).substTime
    else none

/-- Objects 0x3000 to 0x3DFF. -/
def State.viewLoop (s : State) (idx sub : Nat) : Option (List Byte) :=
  if idx < 0x3800 then s.viewStage idx sub
  else if idx < 0x3818 then s.viewPhase (idx - 0x3800) sub
  else if 0x3900 ≤ idx ∧ idx < 0x3940 then s.viewInst (idx - 0x3900) sub
  else if 0x3A00 ≤ idx ∧ idx < 0x3B00 then s.viewEng idx sub
  else if 0x3B00 ≤ idx ∧ idx < 0x3B10 then s.viewPg (idx - 0x3B00) sub
  else if 0x3C00 ≤ idx ∧ idx < 0x3C08 then s.viewRc (idx - 0x3C00) sub
  else if 0x3D00 ≤ idx ∧ idx < 0x3D08 then s.viewObs (idx - 0x3D00) sub
  else none

end Sys2Proof.Machine
end

