-- ==== Sys2Proof/Machine/ViewsB.lean ====
section
/-! DEFINITION. What reads of objects return that the package computes: shelf power, feeds, strings, chargers, rails, temperature, ageing
(Tables 07-8 to 10-10). -/
namespace Sys2Proof.Machine

/-- Codes of Table 07-4. -/
def SupplyState.code : SupplyState → Nat | .source => 0 | .handover => 1 | .battery => 2 | .handback => 3 | .offline => 4

/-- Feeds (Table 07-9). -/
def State.viewFeed (s : State) (f sub : Nat) : Option (List Byte) :=
  let v := s.feed f
  match sub with
  | 1 => vS (s.feedWord f)
  | 6 => vR (s.feedVolts f)
  | 7 => vR (s.feedAmps f)
  | 8 => vR (s.feedVolts f * s.feedAmps f)
  | 9 => vN 8 (v.fwd * 1000).floor.toNat
  | 0x0A => vN 8 (v.rev * 1000).floor.toNat
  | 0x19 => vR v.heat
  | 0x1A => vN 4 v.trips
  | 0x1B => vN 4 v.reverses
  | 0x1C => vN 1 v.lastCause
  | _ => none

/-- The manager (Tables 07-10 and 07-11). -/
def State.viewSpm (s : State) (idx sub : Nat) : Option (List Byte) :=
  let m := s.spm
  match idx with
  | 0x4500 =>
    match sub with
    | 1 => vS s.spmWord
    | 8 => vR s.effectiveCap
    | 9 => vR s.capReduction
    | 0x0A => vR m.shelf
    | 0x0B => vR m.pLoad
    | 0x0C => vR (m.pRect + m.pFeed)
    | 0x0D => vR m.pBat
    | 0x0E => vR m.pHold
    | 0x0F => vR m.grant
    | 0x17 => vR s.bankEnergy
    | 0x1A => vR (secOf m.capResponse)
    | _ => none
  | 0x4501 =>
    match sub with
    | 1 => vN 1 m.supply.code
    | 2 => vN 1 (b2n m.hbRequested)
    | 8 => vN 1 (packBits ((s.feeds.take 2).map (·.qualified)))
    | 9 => vN 8 (packBits m.qualBerth)
    | 0x0A => vN 4 (s.since m.supplySince / ticksPerMs)
    | 0x0B => vN 4 m.handovers
    | 0x0C => vN 4 m.handbacks
    | 0x0D => vN 4 m.abandoned
    | _ => none
  | 0x4502 => if sub ≤ 8 then vR (nth m.ref (sub - 1) 0) else vR (nth m.weight (sub - 9) 0)
  | 0x4503 => if 1 ≤ sub ∧ sub ≤ 0x40 then vR (nth m.trim (sub - 1) 0) else none
  | 0x4504 => if 1 ≤ sub then vR (nth m.shareTrim (sub - 1) 0) else none
  | _ => none

/-- Codes of 0x5s06:06. -/
def Slack.code : Slack → Nat
  | .none => 0 | .requested => 1 | .rampDown => 2 | .rest => 3 | .rampUp => 4 | .complete => 5 | .aborted => 6 | .refused => 7

/-- Strings (Tables 08-4 to 08-6). -/
def State.viewString (s : State) (k tab sub : Nat) : Option (List Byte) :=
  let v := s.str k
  let e := v.est
  let imp := 0x5005 + 256 * k
  match tab with
  | 0 =>
    match sub with
    | 1 => vS (s.stringWord k)
    | 2 => vR (clampR e.socR 0 100)
    | 3 => vR e.soc
    | 4 => vR e.uncert
    | 5 => vR e.q
    | 6 => vR (maxR 0 (e.q * (e.socR / 100 - (1 - s.capFactor k e.temp e.meanRate))))
    | 7 => vR e.ocvL
    | 8 => vR e.uOcv
    | 9 => vR e.i
    | 0x0A => vR e.v
    | 0x0B => vR e.temp
    | 0x0C => vR e.disLim
    | 0x0D => vR e.chgLim
    | 0x0E => vR (if e.lowRate then 1 else 1000)
    | 0x0F => vN 4 (s.anchorAge k)
    | 0x10 => vR e.lastAnchor
    | 0x11 => vN 4 e.disCount
    | 0x12 => vR e.lastDis
    | 0x13 => vN 4 e.endDisCount
    | 0x14 => vN 4 e.endChgCount
    | 0x15 => vN 8 (v.eOut * 1000).floor.toNat
    | 0x16 => vN 8 (v.eIn * 1000).floor.toNat
    | 0x17 => vR (divR (100 * e.q) (s.cfgR k 7))
    | 0x18 => vR (divR (100 * e.r0) (s.objR imp 4))
    | 0x19 => vR (divR (100 * (s.objR imp 4 + s.objR imp 5)) (e.r0 + e.r1))
    | 0x1A => vR (divR v.qOut (s.cfgR k 7))
    | _ => none
  | 5 =>
    match sub with
    | 1 => vR e.r0
    | 2 => vR e.r1
    | 3 => vR e.r2
    | 7 => vR ((e.r0 + e.r1) * s.rFactor k e.temp)
    | 8 => vN 4 v.rejected
    | 9 => vN 4 (nth v.steps 0 0)
    | 0x0A => vN 4 (nth v.steps 1 0)
    | 0x0B => vN 4 (nth v.steps 2 0)
    | _ => none
  | 6 =>
    match sub with
    | 3 => vN 1 v.probeState
    | 4 => vN 4 v.probeCount
    | 6 => vN 1 v.slack.code
    | 9 => vN 4 (if v.slack.runs then s.since v.slackFrom / ticksPerS else 0)
    | 0x0A => vN 4 v.slackDone
    | 0x0B => vN 4 v.slackAborts
    | 0x0C => vN 4 v.slackRefusals
    | _ => none
  | _ => none

/-- Chargers, black start and lay-up (Tables 09-5 to 09-11). -/
def State.viewCharge (s : State) (idx sub : Nat) : Option (List Byte) :=
  if idx = 0x5800 then
    match sub with
    | 3 => vS s.chargerWord
    | 4 => vR s.chargeRequest
    | _ => none
  else if 0x5810 ≤ idx ∧ idx < 0x5818 then
    let c := s.charger (idx - 0x5810)
    match sub with
    | 1 => vS (s.channelWord (idx - 0x5810))
    | 2 => vN 1 c.phase.code
    | 0x13 => vR c.ts
    | 0x14 => vR c.el
    | 0x15 => vN 1 c.rate
    | 0x16 => vR c.vRe
    | 0x17 => vR c.vPe
    | 0x18 => vR c.relax
    | 0x19 => vN 1 c.full
    | 0x1A => vN 4 c.completed
    | 0x1B => vN 4 c.eqDone
    | 0x1C => vN 4 c.eqAborts
    | 0x1D => vN 4 c.lastEq
    | 0x1E => vN 1 c.endCause
    | _ => none
  else if idx = 0x5900 then
    match sub with
    | 8 => vN 1 s.dead.bsState
    | 9 => vN 4 s.dead.bsStarts
    | 0x0A => vN 4 s.dead.bsFailures
    | 0x0B => vR s.dead.bsTime
    | _ => none
  else if idx = 0x5910 then
    match sub with
    | 1 => vN 1 (b2n s.supply.layupFlag)
    | 7 => vN 4 s.dead.openUnderLoad
    | 8 => vN 4 s.dead.layupEntries
    | 9 => vN 2 s.dead.lastWake
    | _ => none
  else none

/-- Rails and the sequencer (Table 10-7). -/
def State.viewRail (s : State) (idx sub : Nat) : Option (List Byte) :=
  if idx = 0x4300 then
    match sub with
    | 1 => vS s.seqStatusWord
    | 3 => vR (match s.mode.holdoffFrom with | some t => maxR 0 (s.objR 0x4300 2 - secOf (s.since t)) | none => 0)
    | 5 => vR (secOf s.thermal.lastRise)
    | 6 => vR (secOf s.thermal.lastDescent)
    | _ => none
  else if 0x4304 ≤ idx ∧ idx < 0x4308 then
    let g := s.railGroup (idx - 0x4304)
    match sub with
    | 1 => vS (s.railGroupWord (idx - 0x4304))
    | 2 => vN 1 g.command
    | 4 => vN 1 g.pc
    | 5 => vN 1 g.marker
    | 6 => vR (secOf g.riseTime)
    | _ => none
  else if 0x4310 ≤ idx ∧ idx < 0x4330 then
    let r := idx - 0x4310
    let v := s.rail r
    match sub with
    | 1 => vS (s.railWord r)
    | 0x0C => vR (if s.railMonitored r then s.railVolts r else 0)
    | 0x0D => vN 4 v.rises
    | 0x0E => vN 4 v.riseFails
    | 0x0F => vN 4 v.runFaults
    | 0x10 => vN 4 v.descFaults
    | 0x11 => vN 4 v.ovs
    | 0x12 => vN 4 v.margins
    | 0x13 => vN 1 v.lastFault
    | _ => none
  else none

/-- 0x4202: 0 valid, 1 suspect, 2 unchecked, 3 invalid, 4 unused. -/
def State.sensorCode (s : State) (n : Nat) : Nat :=
  let x := s.sensor n
  if 12 ≤ n ∧ s.objN 0x4206 (n - 11) = 0 then 4
  else if !x.valid then 3 else if x.unchecked then 2 else if x.suspect then 1 else 0

/-- Temperature and ageing (Tables 10-8 to 10-10). -/
def State.viewThermal (s : State) (idx sub : Nat) : Option (List Byte) :=
  let t := s.thermal
  match idx with
  | 0x4200 =>
    match sub with
    | 1 => vN 1 t.pkgBand
    | 2 => vR t.pkgTemp
    | 4 => vR t.dramTemp
    | 5 => vR (if t.dramFast then 39 / 10000000 else 78 / 10000000)
    | 8 => vR s.spm.thermal
    | 9 => vN 2 (packBits (t.fallback ++ [t.dramFast && s.part.has .ddr 0]))
    | _ => none
  | 0x4201 => if 1 ≤ sub then vR (s.sensor (sub - 1)).t else none
  | 0x4202 => if 1 ≤ sub then vN 1 (s.sensorCode (sub - 1)) else none
  | 0x2600 =>
    match sub with
    | 1 => vN 1 t.step
    | 2 => vN 1 t.vid
    | 3 => vR (75 / 100 + t.vid / 100)
    | 4 => vR (match t.mMin with | some m => m | none => 0)
    | 8 => vN 4 t.vidSteps
    | _ => none
  | 0x2601 => if 1 ≤ sub then vR ((nth t.pdm (sub - 1) (0 : Int) : Int) : Rat) else none
  | 0x2603 => if 1 ≤ sub then vR (s.ronRatio (sub - 1)) else none
  | 0x2605 => if 1 ≤ sub then vR (if s.stageType (sub - 1) = 2 then nth t.bank (sub - 1) 0 else 0) else none
  | 0x2710 => if 1 ≤ sub then vN 1 (s.rail (sub - 1)).margin else none
  | _ => none

/-- Objects 0x4200 to 0x45FF and 0x5000 to 0x5FFF. -/
def State.viewPower (s : State) (idx sub : Nat) : Option (List Byte) :=
  if 0x4200 ≤ idx ∧ idx < 0x4300 then s.viewThermal idx sub
  else if 0x4300 ≤ idx ∧ idx < 0x4400 then s.viewRail idx sub
  else if 0x4400 ≤ idx ∧ idx < 0x4440 then (if idx % 16 = 0 then s.viewFeed ((idx - 0x4400) / 16) sub else none)
  else if 0x4500 ≤ idx ∧ idx < 0x4600 then s.viewSpm idx sub
  else if 0x5000 ≤ idx ∧ idx < 0x5800 then s.viewString ((idx - 0x5000) / 256) (idx % 256) sub
  else if 0x5800 ≤ idx ∧ idx < 0x5A00 then s.viewCharge idx sub
  else none

end Sys2Proof.Machine
end

