-- ==== Sys2Proof/Machine/ViewsC.lean ====
section
/-! DEFINITION. What reads of objects return that the package computes: identity, modes, faults, images, pair, time, networks, ports, berths,
memory, recorder (Tables 00-5, 02-7, 11-5, 11-6, 12-10, 13-8 to 13-10, 14-6 to 14-8, 15-7, 16-7, 17-8), and a read of any object. -/
namespace Sys2Proof.Machine

/-- A mask of the units of a kind that are present. -/
def State.presence (s : State) (k : Pres) (n : Nat) : Nat := packBits ((List.range n).map fun i => s.part.has k i)

/-- Sub-indices that answer under one row on this variant. -/
def State.rowEntries (s : State) (r : ObjRow) : Nat :=
  ((List.range r.n).map fun i => ((List.range (r.s1 + 1 - r.s0)).filter fun j =>
    s.objectStatus (r.base + i * r.stride) (r.s0 + j) == 0).length).sum

/-- The indices of every row. -/
def allIndices : List Nat := (objRows.map fun r => (List.range r.n).map fun i => r.base + i * r.stride).flatten.eraseDups

/-- 0x2002 (R379). -/
def State.dictIndices (s : State) : Nat := (allIndices.filter s.hasIndex).length
def State.dictEntries (s : State) : Nat := (objRows.map s.rowEntries).sum + (allIndices.filter fun i => s.countSub i 0).length

/-- Identity, presence and access (Tables 00-5 and 13-8). -/
def State.viewIdentity (s : State) (ch : Chan) (idx sub : Nat) : Option (List Byte) :=
  let fixed := fun (n : Nat) => vS (padTo n (Config.fixedBytes (objKey idx sub)))
  match idx with
  | 0x1000 => fixed 4
  | 0x1001 => vN 1 s.errorRegister
  | 0x1003 => if sub = 0 then vN 1 s.net.history.length else vN 4 (nth s.net.history (sub - 1) 0)
  | 0x1008 => vS (Config.fixedBytes (objKey idx 0))
  | 0x1009 => vS (Config.fixedBytes (objKey idx 0))
  | 0x100A => vS (Config.fixedBytes (objKey idx 0))
  | 0x1014 => vN 4 (s.emcyObj (match ch with | .sdo p _ => p | _ => 0))
  | 0x1018 =>
    match sub with
    | 1 => vN 4 0x0A7E
    | 2 => vN 4 s.part.id
    | 3 => fixed 4
    | 4 => vN 4 s.serial
    | _ => none
  | 0x1200 =>
    match ch with
    | .sdo p _ => if sub = 1 then vN 4 (0x600 + (s.can p).nodeId) else if sub = 2 then vN 4 (0x580 + (s.can p).nodeId) else none
    | _ => if sub = 1 then vN 4 (0x600 + (s.can 0).nodeId) else if sub = 2 then vN 4 (0x580 + (s.can 0).nodeId) else none
  | 0x2001 => if sub = 1 then vN 2 s.part.id else if sub = 2 then vS (Config.fixedBytes (objKey idx sub)) else none
  | 0x2002 => if sub = 1 then vN 2 s.dictEntries else if sub = 2 then vN 2 s.dictIndices else none
  | 0x2003 =>
    match sub with
    | 1 => vN 1 (b2n s.supply.sideB)
    | 2 => vN 1 (b2n s.supply.legacyStrap)
    | 3 => vN 1 (b2n s.clock.rc)
    | _ => none
  | 0x2010 =>
    match sub with
    | 1 => vN 4 (s.presence .phase 24)
    | 2 => vN 1 (s.presence .stage 8)
    | 3 => vN 8 (s.presence .modIn 48)
    | 4 => vN 1 (s.presence .string 8)
    | 5 => vN 8 (s.presence .berth 64)
    | 6 => vN 4 s.part.functions
    | _ => none
  | 0x2020 => if sub = 1 then vN 1 (s.level ch) else none
  | 0x2021 => if sub = 2 then vS (padTo 32 (Config.fixedBytes (objKey idx sub))) else none
  | 0x2800 => if sub = 1 then vN 1 (b2n s.net.legacy) else none
  | _ => none

/-- Modes, start-up and power-fail (Tables 02-7 and 02-8). -/
def State.viewMode (s : State) (idx sub : Nat) : Option (List Byte) :=
  match idx with
  | 0x2100 =>
    match sub with
    | 1 => vN 1 s.mode.mode.code
    | 2 => vN 1 s.mode.prev
    | 3 => vN 2 s.mode.cause
    | 4 => vN 4 (s.since s.mode.since / ticksPerMs)
    | _ => none
  | 0x2101 =>
    match sub with
    | 1 => vN 1 s.mode.req
    | 2 => vN 1 s.mode.reqStatus
    | 4 => vN 1 s.supply.bootHold
    | _ => none
  | 0x2102 => if 1 ≤ sub then vN 4 (nth s.mode.milestones (sub - 1) 0xFFFFFFFF) else none
  | 0x2103 =>
    match sub with
    | 3 => vN 1 s.supply.result.toNat
    | 4 => vN 4 s.supply.time
    | 5 => vN 4 s.supply.pfwEvents
    | 6 => vN 4 s.supply.torn
    | _ => none
  | _ => none

/-- The record of Table 11-4 of a raise held as key and class. -/
def State.heldRecord (s : State) (w : Nat) : Nat := if w = 0 then 0 else s.sevRecord { id := bits w 0 32, kind := bits w 32 8 } (bits w 48 4)

/-- Every source of a region, ascending by cluster, unit and kind (0x22rr:09). -/
def State.regionKeys (s : State) (code : Nat) : List Key :=
  ((sevClusters.map fun c => ((List.range 256).map fun u =>
      (if code = 7 then [s.partnerKey c u] else []) ++ (List.range 11).map fun k => s.key code c u k).flatten).flatten).filter s.keyExists

/-- Fault objects (Tables 11-5 and 11-6). -/
def State.viewFault (s : State) (ch : Chan) (idx sub : Nat) : Option (List Byte) :=
  if idx = 0x2200 then
    match sub with
    | 1 => vN 2 (2 * packBits (s.faults.regions.map fun r => r.irqPending != 0))
    | 2 => vN 1 (match topClass s.faults.active with | 0 => 0xFF | c + 1 => c)
    | 3 => vN 4 s.faults.emcySent
    | 4 => vN 4 s.faults.emcyDropped
    | 5 => vN 8 (if s.mode.lockoutLatch then s.heldRecord s.mode.lockoutCause else 0)
    | _ => none
  else
    let code := idx - 0x2200
    let r := nth s.faults.regions (code - 1) {}
    let own := s.faults.active.filter fun a => a.key.region == code
    match sub with
    | 1 => vS (s.regionWord code)
    | 2 => vN 2 own.length
    | 3 => vN 1 r.irqEnable
    | 4 => vN 1 r.irqPending
    | 5 => vN 4 r.raises
    | 6 => vN 8 (s.heldRecord r.lastSource)
    | 8 => vN 8 (match s.session ch with
        | some x => (match nth x.sevQuery (code - 1) none with | some k => s.sevRecord k (s.classOf k) | none => 0)
        | none => 0)
    | 9 => vS ((s.regionKeys code).map fun k => leBytes 8 (s.sevRecord k (s.classOf k))).flatten
    | 0x0A => vS (own.map fun a => leBytes 8 (s.sevRecord a.key a.cls)).flatten
    | 0x0B => vN 4 r.sevChanges
    | _ => none

/-- A port's PTP state: 0 disabled, 1 MASTER, 2 PASSIVE, 3 silent as standby (R402). -/
def State.ptpState (s : State) (p : Nat) : Nat :=
  if !(s.part.has .eth p && (s.eth p).enabled && (s.eth p).ptpOn) then 0
  else if !s.pair.owns then 3 else if (s.eth p).passive then 2 else 1

/-- Time (Table 13-9). -/
def State.viewTime (s : State) (idx sub : Nat) : Option (List Byte) :=
  if idx = 0x2300 then
    match sub with
    | 1 => vN 8 s.opMs
    | 2 => vN 1 (b2n s.supply.opValid)
    | 3 => vN 4 s.supply.cycles
    | _ => none
  else
    match sub with
    | 3 => vN 1 s.net.time.traceable
    | 5 => vN 1 s.net.time.state
    | 0x0D => vN 1 s.clockClass
    | 0x10 => vN 8 (s.taiNow * 5 / 2)
    | 0x11 => vN 1 (s.ptpState 0 + 4 * s.ptpState 1)
    | _ => none

/-- A slot number as it is reported: 0xFF for none. -/
def slotCode (o : Option Nat) : Nat := match o with | some k => k | none => 0xFF

/-- Images (Table 17-8). -/
def State.viewImage (s : State) (idx sub : Nat) : Option (List Byte) :=
  let m := s.img
  let build := fun (l : List ImgSlot) (k : Nat) => let x := nth l k {}; if x.valid then x.header.build else 0
  match idx with
  | 0x2400 =>
    match sub with
    | 1 => vN 1 (slotCode m.fwRun)
    | 2 => vN 1 m.fwNext
    | 3 => vN 1 (packBits (m.fw.map (·.valid)))
    | 4 => vN 1 (slotCode m.imgRun)
    | 5 => vN 1 m.imgNext
    | 6 => vN 1 (packBits (m.cfg.map (·.valid)))
    | 7 => vN 4 (build m.fw 0)
    | 8 => vN 4 (build m.fw 1)
    | 9 => vN 4 (build m.cfg 0)
    | 0x0A => vN 4 (build m.cfg 1)
    | 0x0B => vN 4 m.fwMin
    | 0x0C => vN 4 m.imgMin
    | 0x0D => vS m.digest
    | 0x0E => vS (match s.image with | some x => x.header.dictDigest | none => [])
    | 0x0F => vN 2 (match s.firmware with | some x => x.header.manifestMax | none => 0)
    | 0x10 => vN 1 m.trial
    | 0x11 => vN 1 m.trialStarts
    | _ => none
  | 0x2401 =>
    match sub with
    | 1 => vN 1 m.target
    | 3 => vN 1 m.updCommand
    | 4 => vN 1 m.updState
    | 5 => vN 1 m.updReject
    | 6 => vR (divR m.updData.length m.updSize)
    | _ => none
  | 0x2402 =>
    match sub with
    | 1 => vN 1 m.hitCommand
    | 2 => vN 1 m.hitState
    | 3 => vN 1 m.hitRefusal
    | 4 => vR (secOf m.hitGap)
    | 5 => vN 1 m.pairCommand
    | 6 => vN 1 m.pairState
    | _ => none
  | 0x2403 => if sub = 1 then vN 2 (if s.inMode .pilot then m.pilotCause else 0) else none
  | 0x2404 => if 1 ≤ sub then vS (nth m.keys (sub - 1) []) else none
  | _ => none

/-- The pair (Table 12-10). -/
def State.viewPair (s : State) (sub : Nat) : Option (List Byte) :=
  let p := s.pair
  match sub with
  | 1 => vN 1 (if p.owns then 0 else if s.inMode .track then 1 else 2)
  | 2 => vN 1 (if p.twinSeen then p.twin.mode else 0xFF)
  | 3 => vN 1 p.twin.health
  | 4 => vN 1 p.health
  | 5 => vN 1 (packBits [p.owns, p.owns || !p.netHigh, p.twinSeen && p.twin.drives])
  | 6 => vN 1 (packBits p.lanes)
  | 7 => vN 1 (b2n p.hoRequest)
  | 8 => vN 1 p.hoState
  | 0x0A => vN 1 p.lastReason
  | 0x0B => vN 4 p.takeovers
  | 0x0C => vR (secOf p.lastGap)
  | 0x0D => vR (p.lockError / ticksPerS)
  | 0x0F => vN 4 p.alignCorr
  | 0x10 => vR p.alignMax
  | 0x11 => vR (secOf p.snapTime)
  | 0x12 => vN 2 (nth p.unacked 2 []).length
  | 0x13 => vN 4 p.hbMisses
  | 0x14 => vN 4 p.linkErrors
  | 0x15 => vS s.pairWord
  | 0x16 => vR (p.linkDelay / ticksPerS)
  | 0x17 => vR (p.timeOffset / 1000000000)
  | 0x18 => vN 4 p.dualClaims
  | _ => none

/-- Open transfers (R396). -/
def State.inFlight (s : State) : Nat := ((s.net.sdo ++ s.net.nireo).map fun x => x.transfers.length).sum

/-- Network ports (Table 13-10). -/
def State.viewNet (s : State) (idx sub : Nat) : Option (List Byte) :=
  if idx < 0x4A10 then
    let p := idx - 0x4A00
    let v := s.eth p
    match sub with
    | 1 => vS (s.ethWord p)
    | 3 => vS (padTo 6 (Config.fixedBytes (objKey idx sub)) ++ [0, 0])
    | 8 => vN 4 v.addr
    | 0x0C => vN 4 v.received
    | 0x0D => vN 4 v.dropped
    | _ => none
  else if idx < 0x4A20 then
    let p := idx - 0x4A10
    let v := s.can p
    match sub with
    | 1 => vS (s.canWord p)
    | 2 => vN 1 (s.nodeOf p)
    | 5 => vN 4 v.busOffs
    | 6 => vN 1 v.txErr
    | 7 => vN 4 v.rpdoRefused
    | 8 => vN 4 v.rpdoNotOwner
    | 9 => vN 1 (nth s.faults.queues p []).length
    | _ => none
  else if idx = 0x4A20 then (if sub = 1 then vS s.hsWord else if sub = 3 then vN 4 s.net.hsCrc else none)
  else if idx = 0x4A30 then
    match sub with
    | 1 => vN 1 s.inFlight
    | 2 => vN 1 s.net.peak
    | 3 => vN 4 s.net.slotRefusals
    | 4 => vN 1 s.net.nireo.length
    | 6 => vN 4 s.net.dropped
    | _ => none
  else none

/-- Two-wire ports, scripts and berths (Tables 14-6 to 14-8). -/
def State.viewTwoWire (s : State) (idx sub : Nat) : Option (List Byte) :=
  if idx < 0x4804 then
    let p := idx - 0x4800
    let v := s.port p
    match sub with
    | 1 => vS (s.portWord p)
    | 0x0C => vR (if s.since v.busyFrom < ticksPerS then v.load else if s.since v.busyFrom < 2 * ticksPerS then minR 1 v.busy else 0)
    | 0x0D => vR (secOf v.discTime)
    | 0x0E => vN 1 v.strays
    | 0x0F => vN 4 v.arbLosses
    | 0x10 => vN 4 v.stucks
    | 0x11 => vN 4 v.lateWakes
    | 0x12 => vN 4 v.busyNacks
    | 0x13 => vN 4 v.latePolls
    | 0x14 => vN 4 v.lastNotify
    | 0x15 => vN 4 v.notifies
    | 0x16 => vS v.mailbox
    | _ => none
  else if idx = 0x4810 then
    match sub with
    | 1 => vS s.scriptWord
    | 3 => vN 4 (s.ports.map (·.commits)).sum
    | 4 => vN 4 (s.ports.map (·.runFails)).sum
    | _ => none
  else if 0x4900 ≤ idx ∧ idx < 0x4940 then
    let b := idx - 0x4900
    let v := s.berth b
    match sub with
    | 1 => vS (s.berthWord b)
    | 0x0B => vN 8 v.udidHigh
    | 0x0C => vN 8 v.udidLow
    | 0x0D => vN 1 v.voutMode
    | 0x1E => vS v.vals.block
    | 0x1F => vR (secOf (s.since v.committedAt))
    | 0x20 => vN 4 v.runs
    | 0x21 => vN 4 v.fails
    | 0x22 => vN 4 v.pecs
    | 0x23 => vN 4 v.arrivals
    | 0x24 => vN 4 v.departures
    | 0x26 => vN 1 v.hostStatus
    | 0x27 => vN 2 v.hostResult
    | _ =>
      if 0x0E ≤ sub ∧ sub ≤ 0x15 then vN 2 (nth v.vals.w (sub - 0x0E) 0)
      else if 0x16 ≤ sub ∧ sub ≤ 0x1D then vF (nth v.vals.readings (sub - 0x16) 0)
      else none
  else none

/-- Memory (Table 15-7). -/
def State.viewMem (s : State) (idx sub : Nat) : Option (List Byte) :=
  let m := s.mem
  match idx with
  | 0x4600 =>
    match sub with
    | 1 => vS s.memWord
    | 4 => vN 8 s.dramCapacity
    | 6 => vN 1 m.trainResult
    | 7 => vR (divR s.fillNow (s.dramCapacity / 32))
    | 8 => vR m.lapTime
    | 9 => vN 4 m.laps
    | 0x0D => vN 4 m.corrected
    | 0x0E => vN 4 m.uncorrected
    | 0x0F => vN 8 m.lastUncorrected
    | 0x10 => vN 4 m.rmws
    | 0x11 => vN 1 m.peak
    | _ => none
  | 0x2720 => if sub = 4 then vN 1 (b2n s.flipArmedNow) else none
  | 0x4610 => if 1 ≤ sub then vN 4 (nth m.buckets (sub - 1) {}).corrected else none
  | 0x4611 => if 1 ≤ sub then vN 2 (nth m.buckets (sub - 1) {}).level else none
  | 0x4612 => if 1 ≤ sub then vS (s.deviceWord (sub - 1)) else none
  | 0x4630 =>
    match sub with
    | 1 => vN 8 m.mramWrites
    | 2 => vN 4 m.mramRetries
    | 3 => vN 4 m.mramFails
    | 4 => vN 4 m.mramCorrected
    | 5 => vN 4 m.mramUncorrected
    | _ => none
  | _ =>
    if sub = 0 then none
    else if 0x4641 ≤ idx ∧ idx ≤ 0x464A then vN 4 (nth m.sram (27 * (idx - 0x4641) + sub - 1) {}).corrected
    else if 0x4651 ≤ idx ∧ idx ≤ 0x465A then vS (s.sramWord (idx - 0x4650) (sub - 1))
    else none

def WinState.code : WinState → Nat | .empty => 0 | .collecting => 1 | .promoting => 2 | .frozen => 3

/-- The recorder (Tables 16-7). -/
def State.viewLog (s : State) (ch : Chan) (idx sub : Nat) : Option (List Byte) :=
  let l := s.log
  let x := (s.session ch).getD {}
  match idx with
  | 0x4700 =>
    match sub with
    | 1 => vS s.ringWord
    | 3 => if s.part = .fyx9480 then vN 8 0x0000FFFFFFFFFFFF else none
    | 4 => vN 8 (s.ringFrames * s.frameBytes)
    | 5 => vR ((s.ringFrames : Rat) / 312500)
    | 6 => vN 8 l.frames
    | 7 => vN 8 l.captured
    | 8 => vN 4 l.dropped
    | 9 => vN 8 l.ringTime
    | 0x0A => vN 8 l.ringOt
    | 0x0B => vR l.promoteRate
    | _ => none
  | 0x4701 =>
    match sub with
    | 1 => vS s.logWord
    | 2 => vN 4 l.held.length
    | 3 => vN 8 l.next
    | 4 => vN 2 l.waiting.length
    | 5 => vN 2 l.peak
    | 6 => vN 1 l.command
    | 7 => vN 1 l.freeze.code
    | 9 => vR (if l.freeze = .frozen then maxR 0 ((s.objN 0x4701 8 : Rat) - secOf (s.since l.frozenAt)) else 0)
    | 0x10 => vN 4 l.overwrites
    | 0x11 => vN 1 (if l.held.length < logSlots then 0xFF else lowestClass l.held)
    | _ => if 0x0A ≤ sub ∧ sub ≤ 0x0F then vN 4 (nth l.drops (sub - 0x0A) 0) else none
  | 0x4702 =>
    match sub with
    | 1 => vN 8 x.cursor
    | 2 => vN 1 x.minClass
    | 4 => vN 8 x.cursor
    | 5 => vN 4 x.skipped
    | _ => none
  | 0x4703 =>
    match sub with
    | 9 => vN 1 (l.windows.filter fun w => w.state == .frozen).length
    | 0x0A => vN 4 l.largestFree
    | 0x0B => vN 4 l.refusals
    | 0x0C => vN 4 l.triggers
    | _ => none
  | 0x4720 =>
    let y := nth l.summaries x.summary []
    match sub with
    | 1 => vN 1 l.summaries.length
    | 2 => vN 1 x.summary
    | 3 => vS y
    | 4 => vS (padTo 8 y)
    | _ => none
  | _ =>
    let w := nth l.windows (idx - 0x4710) {}
    match sub with
    | 1 => vN 1 w.state.code
    | 2 => vS w.header
    | 3 => vS w.data
    | 5 => vN 4 (if w.state = .empty then 0 else w.bytes)
    | _ => none

/-- The value an object reads as that the package computes; none where the object holds its value. -/
def State.view (s : State) (ch : Chan) (idx sub : Nat) : Option (List Byte) :=
  if s.countSub idx sub then vN 1 (subCount idx)
  else if idx < 0x2100 then s.viewIdentity ch idx sub
  else if idx < 0x2200 then s.viewMode idx sub
  else if idx < 0x2300 then s.viewFault ch idx sub
  else if idx < 0x2400 then s.viewTime idx sub
  else if idx < 0x2500 then s.viewImage idx sub
  else if idx < 0x2600 then s.viewPair sub
  else if idx < 0x2720 then s.viewThermal idx sub
  else if idx < 0x2800 then s.viewMem idx sub
  else if idx < 0x3000 then s.viewIdentity ch idx sub
  else if idx < 0x4000 then s.viewLoop idx sub
  else if idx < 0x4100 then s.viewSns idx sub
  else if idx < 0x4200 then s.viewAdc idx sub
  else if idx < 0x4600 then s.viewPower idx sub
  else if idx < 0x4700 then s.viewMem idx sub
  else if idx < 0x4800 then s.viewLog ch idx sub
  else if idx < 0x4A00 then s.viewTwoWire idx sub
  else if idx < 0x5000 then s.viewNet idx sub
  else s.viewPower idx sub

/-- The bytes that an object reads as. -/
def State.value (s : State) (ch : Chan) (idx sub : Nat) : List Byte := (s.view ch idx sub).getD (s.raw idx sub)

/-- A fresh challenge for a session (R374). -/
def State.challengeRead (s : State) (ch : Chan) : State :=
  let c := padTo 32 (Config.challenge s.net.challenges)
  match s.session ch with
  | none => s
  | some x =>
    let s := s.setSession ch { x with challenge := some c }
    { s with net := { s.net with challenges := s.net.challenges + 1 } }.reply ch stOk c

/-- Window data with a word that no read can correct (R451). -/
def State.windowSpoilt (s : State) (idx : Nat) : Bool :=
  let w := nth s.log.windows (idx - 0x4710) {}
  s.mem.badWords.any fun a => decide (0x1C00000 + w.offset ≤ a) && decide (a < 0x1C00000 + w.offset + w.bytes)

/-- A read of an object by a session, answered to it (R372, R373, R379). -/
def State.readObject (s : State) (ch : Chan) (idx0 sub : Nat) : State :=
  let idx := s.target idx0
  let c := s.existsStatus idx sub
  if c ≠ 0 then s.answerWrite ch c
  else if (match objRow idx sub with | some r => r.acc == .wo | none => false) = true then s.answerWrite ch stAccess
  else if idx = 0x2020 ∧ sub = 2 then s.challengeRead ch
  else if idx = 0x4702 ∧ sub = 3 then s.readBlock ch
  else if 0x4710 ≤ idx ∧ idx < 0x471A ∧ (sub = 2 ∨ sub = 3) ∧ s.windowSpoilt idx = true then s.answerWrite ch stHardware
  else if 0x4710 ≤ idx ∧ idx < 0x471A ∧ sub = 3 ∧ (nth s.log.windows (idx - 0x4710) {}).state = .promoting then s.answerWrite ch stState
  else s.reply ch stOk (s.value ch idx sub)

end Sys2Proof.Machine
end

