-- ==== Sys2Proof/Machine/Conditions.lean ====
section
/-! DEFINITION. What each chapter refuses of a write beyond access, level, type and range (R385): `t` is the state with every value of the
transfer in place, so that a condition that relates two objects is judged against what the transfer would leave. -/
namespace Sys2Proof.Machine

/-- The place of an index in a family of `n` indices, `stride` apart. -/
def fam (idx base n stride : Nat) : Option Nat :=
  if base ≤ idx ∧ (idx - base) % stride = 0 ∧ (idx - base) / stride < n then some ((idx - base) / stride) else none

/-- `code` where a condition fails, else 0. -/
def need (ok : Bool) (code : Nat) : Nat := if ok then 0 else code

/-- The first refusal of two. -/
def orElseSt (a b : Nat) : Nat := if a ≠ 0 then a else b

/-! Measurement (chapter 03). -/

/-- The objects of R74 may be written: SNS is HOLD or OFF, or the controller is in SERVICE. -/
def State.snsFree (s : State) : Bool := !s.regionOn .sns || s.inMode .service

/-- An input's type fits its clock (R78). -/
def State.manchesterOk (s : State) (md : Nat) : Bool := !s.part.has .modIn md || s.modType md != 3 || decide (16 ≤ s.divider md)

/-- The reverse decision of enabled input feeds whose current input is one of a list keeps 250 ns (R229). -/
def State.reverseOk (s : State) (l : List Nat) : Bool :=
  [0, 1].all fun f => !l.contains (s.objN (0x4400 + 16 * f) 4) || s.feedImageOk f

/-- Inputs whose group takes clock `j`. -/
def State.clockInputs (s : State) (j : Nat) : List Nat := (List.range 48).filter fun md => s.part.has .modIn md && s.objN (0x4030 + md / 12) 2 == j

def State.condMeasure (t : State) (idx sub : Nat) (data : List Byte) : Nat :=
  match fam idx 0x4000 48 1 with
  | some md =>
    match sub with
    | 1 => if 3 < leNat data then stRange else if !t.snsFree then stState else need (t.manchesterOk md) stRange
    | 2 => if !t.snsFree then stState else need (decide (t.objN idx 9 < t.osr md)) stRange
    | 3 => need t.snsFree stState
    | 8 => t.calStatus md (leNat data)
    | 9 => if !t.snsFree then stState else need (decide (t.objN idx 9 < t.osr md)) stRange
    | 4 => need (t.thresholdsOk md) stRange
    | 0x0B => need (t.thresholdsOk md) stRange
    | 0x0C => need (t.thresholdsOk md) stRange
    | 0x0D => need (t.thresholdsOk md) stRange
    | 0x0E => need (t.reverseOk [md]) stRange
    | _ => 0
  | none =>
    match fam idx 0x4030 4 1 with
    | some g =>
      if sub = 2 then (if !t.snsFree then stState else need ((groupInputs g).all t.manchesterOk) stRange)
      else if sub = 3 then need t.snsFree stState else 0
    | none =>
      if idx = 0x4034 then
        let l := t.clockInputs (sub - 1)
        if !t.snsFree then stState else need (l.all t.manchesterOk && t.reverseOk l) stRange
      else if idx = 0x4101 then need (entryOk (leNat data)) stRange
      else if idx = 0x4104 ∨ idx = 0x4105 then need (decide (t.objR 0x4104 sub ≤ t.objR 0x4105 sub)) stRange
      else 0

/-! Loops (R117, R202). -/

/-- The instance is a window instance of the manager, in a mode from RISE to the end of DESCENT (R202). -/
def State.managed (s : State) (lp : Nat) : Bool :=
  (List.range 8).any (fun n => s.stageUsed n && s.objN 0x4505 (1 + n) == lp) && s.inModes [.rise, .track, .active, .holdup, .blackstart, .descent]

def State.condLoops (t : State) (idx sub : Nat) : Nat :=
  match fam idx 0x3900 64 1 with
  | none => 0
  | some lp =>
    if sub ≠ 9 ∧ sub ≠ 10 then 0
    else if t.managed lp then stState
    else
      let kind := match t.loopRec lp with | some r => r.outKind | none => 0
      let v := if sub = 9 then t.outLow lp else t.outHigh lp
      if F32.isNaN v || F32.lt (t.outHigh lp) (t.outLow lp) then stRange
      else if kind ≠ 0 ∧ (F32.lt v 0 = true ∨ F32.lt F32.one v = true) then stRange
      else 0

/-! Stages (R149, R152, R157, R162, R164). -/

/-- The stage is DISABLED, UNPOWERED, SHED or SAFE. -/
def State.stageQuiet (s : State) (n : Nat) : Bool := !s.stageOn n

/-- A breakwater word (R162, Table 05-5): its input is present and decoded, its phase is of the stage, whatever its action. -/
def State.bindingOk (s : State) (n w : Nat) : Bool :=
  let md := bits w 16 8
  bits w 24 8 == 0 && bits w 5 7 == 0
    && s.part.has .modIn md && s.modType md != 0 && (if bit w 12 then bits w 0 5 == 0 else (s.stagePhases n).contains (bits w 0 5))

/-- A band of the fender curve (R164). -/
def State.bandOk (s : State) (n b : Nat) : Bool :=
  risesR ((List.range 4).map fun k => s.objR (0x3005 + 256 * n) (1 + 8 * b + 2 * k))
    && (List.range 4).all fun k => decide (0 ≤ s.objR (0x3005 + 256 * n) (2 + 8 * b + 2 * k))

def State.condStages (t : State) (idx sub : Nat) (data : List Byte) : Nat :=
  match fam idx 0x3800 24 1 with
  | some p =>
    match sub with
    | 3 => need (match t.stageOf p with | some n => t.stageQuiet n | none => true) stState
    | 4 => if leNat data = 1 then t.phaseReturnStatus p else 0
    | _ => 0
  | none =>
    if idx < 0x3000 ∨ 0x3800 ≤ idx then 0
    else
      let n := (idx - 0x3000) / 256
      match idx % 256 with
      | 0 => if sub = 7 ∧ leNat data = 1 then t.stageStartStatus n else 0
      | 2 => need (t.stageQuiet n) stState
      | 3 => need (t.stageQuiet n) stState
      | 4 => need (t.bindingOk n (leNat data)) stRange
      | 5 => need (t.bandOk n ((sub - 1) / 8)) stRange
      | _ => 0

/-! Setpoints (R177, R183, R186). -/

def State.condSetpoints (t : State) (idx sub : Nat) (data : List Byte) : Nat :=
  match fam idx 0x3B00 16 1 with
  | some n =>
    if sub = 2 then t.targetStatus n (BitVec.ofNat 32 (leNat data))
    else if sub = 9 ∨ sub = 10 then need (decide (t.objX idx 9 ≤ t.objX idx 10)) stRange else 0
  | none =>
    match fam idx 0x3C00 8 1 with
    | some n =>
      let fixed := t.rcInBand n (t.objX idx 7)
      let lead := decide (0 ≤ t.objX idx 0x0D) && decide (t.objX idx 0x0D ≤ t.rcMin n / 4)
      match sub with
      | 3 => need (fixed && lead) stRange
      | 7 => need fixed stRange
      | 0x0A => need (decide (0 ≤ t.objX idx 0x0A) && decide (t.objX idx 0x0A ≤ t.objX idx 0x0B)) stRange
      | 0x0D => need lead stRange
      | _ => 0
    | none => 0

/-! Feeds and the manager (chapter 07). -/

/-- The inputs whose thresholds the package keeps at a level that the write moves (R90, R216, R229 to R233, R288; DEDUCED, log entry 115). -/
def State.keptInputs (s : State) (idx sub : Nat) : List Nat :=
  let l := match fam idx 0x4400 4 16, fam idx 0x4310 32 1 with
    | some f, _ => if sub = 2 then s.feedInputs f else if sub = 0x0B ∨ sub = 0x0C then [s.objN idx 3] else if sub = 0x0E ∨ sub = 0x12 ∨ sub = 0x13 then [s.objN idx 4] else []
    | _, some r => if sub = 0x0A then s.railInputs r else []
    | none, none =>
      if idx = 0x4500 ∧ sub = 0x13 then [s.objN 0x4500 0x14]
      else if idx = 0x2711 ∧ sub = 1 then ((List.range 32).map s.railInputs).flatten else []
  l.filter (s.part.has .modIn)

def State.condPower (t : State) (idx sub : Nat) (data : List Byte) : Nat :=
  orElseSt (need ((t.keptInputs idx sub).all t.thresholdsOk) stRange) <|
  match fam idx 0x4400 4 16 with
  | some _ =>
    if sub = 0x0B ∨ sub = 0x0C then need (decide (t.objR idx 0x0B < t.objR idx 0x0C)) stRange
    else if (sub = 0x10 ∨ sub = 0x12) ∧ 0x4420 ≤ idx then need (decide (t.objR idx 0x10 < t.objR idx 0x12)) stRange
    else 0
  | none =>
    if idx = 0x4500 ∧ sub = 2 then t.targetStatus (t.spmN 3) (BitVec.ofNat 32 (leNat data))
    else if idx = 0x4501 ∧ sub = 2 then t.handbackStatus (leNat data)
    else 0

/-! Strings and chargers (chapters 08 and 09). -/

def State.condStrings (t : State) (idx sub : Nat) (data : List Byte) : Nat :=
  match fam idx 0x5001 8 256, fam idx 0x5005 8 256, fam idx 0x5006 8 256, fam idx 0x5810 8 1 with
  | some k, _, _, _ =>
    let c := 0x5810 + k
    if sub = 9 ∨ sub = 10 then
      need (decide (t.objR idx 9 < t.objR idx 10)
        && (sub == 9 || !t.part.has .charger k || (decide (t.objR idx 10 ≤ t.objR c 0x0B) && decide (t.objR c 0x0C ≤ t.objR idx 10)))) stRange
    else 0
  | _, some k, _, _ => if sub = 0x0C then t.replacedStatus k (leNat data) else 0
  | _, _, some k, _ => if sub ≠ 5 then 0 else if leNat data = 1 then need (!t.probeOrWindow) stState else t.slackAbortStatus k
  | _, _, _, some k =>
    let v := t.objR (0x5001 + 256 * k) 10
    match sub with
    | 3 => if leNat data = 2 then t.chargeStopStatus k else 0
    | 4 => if leNat data = 1 then need (t.objN 0x5800 1 != 0) stState else t.eqAbortStatus k
    | 0x0B => need (decide (v ≤ t.objR idx 0x0B) && decide (t.objR idx 0x0B ≤ t.objR idx 0x10)) stRange
    | 0x0C => need (decide (t.objR idx 0x0C ≤ v)) stRange
    | 0x10 => need (decide (t.objR idx 0x0B ≤ t.objR idx 0x10)) stRange
    | _ => 0
  | none, none, none, none => 0

/-! Rails, temperature and ageing (chapter 10). -/

/-- `OffLevel` lies below the window of its rail. -/
def State.offLevelOk (s : State) (r : Nat) : Bool := decide (s.railR r 0x0B < s.railR r 8 * (1 - s.railR r 9 / 100))

/-- What a write of `GroupCommand` answers (R295). -/
def State.groupStatus (s : State) (g v : Nat) : Nat :=
  if !s.inMode .service then stState else if v = 2 ∧ (s.railGroup g).phase = .risen then stAlready else 0

def State.condRails (t : State) (idx sub : Nat) (data : List Byte) : Nat :=
  match fam idx 0x4304 4 1, fam idx 0x4310 32 1 with
  | some g, _ => if sub = 2 then t.groupStatus g (leNat data) else 0
  | _, some r => if sub = 9 ∨ sub = 0x0B then need (t.offLevelOk r) stRange else 0
  | none, none =>
    if idx = 0x2710 then t.marginStatus (sub - 1) (leNat data)
    else if idx = 0x4200 ∧ (sub = 6 ∨ sub = 7) then need (decide (t.objR 0x4200 6 < t.objR 0x4200 7)) stRange
    else if idx = 0x2600 ∧ (sub = 5 ∨ sub = 6) then need (decide (t.objR 0x2600 6 ≤ t.objR 0x2600 5)) stRange
    else 0

/-! Networks (this chapter's objects), two-wire ports and berths (chapter 14). -/

/-- A network mask of contiguous ones. -/
def maskOk (m : Nat) : Bool := (List.range 33).any fun k => m == 2 ^ 32 - 2 ^ k

/-- A period of SYNC (R389). -/
def State.syncPeriodOk (s : State) (p : Nat) : Bool :=
  p == 0 || (decide (100 ≤ p) && decide (p ≤ 1000000) && 1000000 % p == 0 && (!s.legacy || p % 100 == 0))

/-- The bits of a mapping entry, and its object. -/
def mapBits (e : Nat) : Nat := bits e 0 8
def mapIdx (e : Nat) : Nat := bits e 16 16
def mapSub (e : Nat) : Nat := bits e 8 8

/-- An object may be mapped to a TPDO, or to an RPDO (R372). -/
def State.mappable (s : State) (tx : Bool) (e : Nat) : Bool :=
  match objRow (s.target (mapIdx e)) (mapSub e) with
  | none => false
  | some r =>
    s.existsStatus (s.target (mapIdx e)) (mapSub e) == 0 && r.typ.size != 0 && mapBits e == 8 * r.typ.size
      && (if tx then r.acc == .ro || r.acc == .rw else (r.acc == .rw || r.acc == .wo) && r.level == 0)

/-- The entries in force of a mapping. -/
def State.mapping (s : State) (idx : Nat) : List Nat := (List.range (s.objN idx 0)).map fun i => s.objN idx (1 + i)

/-- The mapping objects of RPDOs and TPDOs: up to 64 bits of mappable objects (Table 13-3). -/
def State.condMapping (t : State) (idx sub : Nat) (data : List Byte) : Nat :=
  let tx := decide (0x1A00 ≤ idx)
  if sub = 0 then need ((t.mapping idx).all (t.mappable tx) && decide (((t.mapping idx).map mapBits).sum ≤ 64)) stRange
  else need (leNat data == 0 || t.mappable tx (leNat data)) stRange

/-- The samples that glitch suppression may take at a speed (R405). -/
def glitchMax (speed : Nat) : Nat := match speed with | 0 => 63 | 1 => 14 | _ => 6

def State.condNet (s t : State) (idx sub : Nat) (data : List Byte) : Nat :=
  if idx = 0x1006 then need (t.syncPeriodOk (leNat data)) stRange
  else if (0x1600 ≤ idx ∧ idx < 0x1620) ∨ (0x1A00 ≤ idx ∧ idx < 0x1A20) then t.condMapping idx sub data
  else if idx = 0x1010 then
    if leNat data ≠ 0x65766173 then stRange else need (!s.inMode .pilot && !s.inMode .lockout && !s.updOpen) stAccess
  else if idx = 0x1011 then need (leNat data == 0x64616F6C) stRange
  else if idx = 0x2020 ∧ sub = 3 then need (decide (data.length = 64)) stRange
  else if idx = 0x2800 then
    if !s.inModes [.boot, .service] then stState else need (!(s.supply.legacyStrap && leNat data == 0)) stState
  else
    match fam idx 0x4A00 2 1, fam idx 0x4800 4 1, fam idx 0x4900 64 1 with
    | some _, _, _ => if sub = 5 then need (maskOk (leNat data)) stRange else 0
    | _, some p, _ =>
      match sub with
      | 3 => if t.portN p 2 ≠ 0 then stState else need (decide (t.portN p 4 ≤ glitchMax (t.portN p 3))) stRange
      | 4 => need (decide (t.portN p 4 ≤ glitchMax (t.portN p 3))) stRange
      | 0x17 => need (decide (data.length ≤ 32)) stRange
      | _ => 0
    | _, _, some b =>
      match sub with
      | 6 => need (t.portLoadOk (b / 16) (fun b => t.berthN b 6)) stRange
      | 0x25 => t.hostCmdStatus b (leNat data)
      | _ => 0
    | none, none, none => 0

/-! Memory, logbook, windows (chapters 15 and 16). -/

/-- The windows that the settings would give fit the ring and the capture area (R469). -/
def State.windowFits (s : State) : Bool :=
  let n := s.windowFrames 5 + 1 + s.windowFrames 6
  decide (2 * (s.windowList (s.objN 0x4703 4)).length * n ≤ 33553920) && (s.ringFrames == 0 || decide (n ≤ s.ringFrames))

def State.condLog (t : State) (ch : Chan) (idx sub : Nat) (data : List Byte) : Nat :=
  let v := leNat data
  if idx = 0x4600 then
    if sub = 5 ∨ sub = 0x14 then need (t.inMode .service) stState else 0
  else if idx = 0x2720 then
    if !t.inMode .service then stState else if sub = 3 then need (decide (v < t.dramCapacity)) stRange else 0
  else if idx = 0x2700 then need (t.inMode .service) stState
  else if idx = 0x4700 then
    if sub = 3 then need (v != 0 && decide (v < 2 ^ 32) && t.windowFits) stRange else 0
  else if idx = 0x4701 ∧ sub = 6 then
    match v with
    | 1 => need (!t.inMode .pilot && !t.freezeHeld) stState
    | 2 => t.freezeAbortStatus ch
    | _ => need (t.log.owner == ch && t.log.freeze == .frozen) stState
  else if idx = 0x4703 then
    if sub = 4 then need t.windowFits stRange
    else if sub = 5 ∨ sub = 6 then need (F32.isFinite (BitVec.ofNat 32 v) && t.windowFits) stRange else 0
  else
    match fam idx 0x4710 10 1 with
    | some w => if sub = 4 then need ((nth t.log.windows w {}).state == .frozen) stState else 0
    | none => 0

/-! Image writes (R483). -/

/-- An image write is open: received, or with its transfer begun. -/
def State.updBusy (s : State) : Bool := s.updOpen || s.imageTransfer

/-- What refuses `UpdateTarget`, and the beginning of `UpdateData`; with no target chosen there is no slot to write (DESIGN CHOICE, log entry 82). -/
def State.updOpenStatus (s : State) : Nat := if s.updBusy then stState else s.updStatus
def State.updBeginStatus (s : State) (size : Nat) : Nat :=
  if s.updOpenStatus ≠ 0 ∨ s.img.target = 0 then stState else need (decide (size ≤ slotSize s.img.target)) stRange

/-- The image write that is open is the session's own transfer. -/
def State.ownsUpdate (s : State) (ch : Chan) : Bool := match s.session ch with | some x => x.transfers.any Transfer.isUpdate | none => false

/-! Modes, faults, pair, images (chapters 02, 11, 12, 17). -/

def State.condSystem (t : State) (ch : Chan) (idx sub : Nat) (data : List Byte) : Nat :=
  let v := leNat data
  if idx = 0x2101 ∧ sub = 1 then t.requestStatus ch v
  else if idx = 0x2401 then
    match sub with
    | 1 => t.updOpenStatus
    | 2 => if t.ownsUpdate ch then 0 else t.updBeginStatus data.length
    | 3 => t.updAbortStatus
    | _ => 0
  else if idx = 0x2402 then
    match sub, v with
    | 1, 1 => t.hitlessStatus
    | 1, _ => if t.hitlessCommitted then stAlready else 0
    | 5, 1 => t.pairUpdateStatus
    | 5, _ => t.pairAbortStatus
    | _, _ => 0
  else if idx = 0x2403 ∧ sub = 2 then t.pilotExitStatus
  else if idx = 0x2404 then t.keyStatus data
  else if idx = 0x2500 ∧ sub = 7 then (if v = 1 then t.handoverStatus else 0)
  else
    match fam idx 0x2201 10 1 with
    | some i =>
      match sub with
      | 7 => t.sevStatus (i + 1) v
      | 8 => t.sevKeyStatus (i + 1) v false
      | _ => 0
    | none => 0

/-- What the object's chapter refuses: the first of the chapters' conditions. `s` is the state before the transfer, `t` with its values. -/
def State.condition (s t : State) (ch : Chan) (idx sub : Nat) (data : List Byte) : Nat :=
  orElseSt (t.condMeasure idx sub data) (orElseSt (t.condLoops idx sub) (orElseSt (t.condStages idx sub data) (orElseSt (t.condSetpoints idx sub data)
    (orElseSt (t.condPower idx sub data) (orElseSt (t.condStrings idx sub data) (orElseSt (t.condRails idx sub data)
      (orElseSt (s.condNet t idx sub data) (orElseSt (t.condLog ch idx sub data) (t.condSystem ch idx sub data)))))))))

end Sys2Proof.Machine
end

