-- ==== Sys2Proof/Machine/Writes.lean ====
section
/-! DEFINITION. What an accepted write does: its value stored, and the action of its object's chapter (R384, R385). -/
namespace Sys2Proof.Machine

/-- Objects whose value the dictionary's store does not hold: commands, and objects with a home of their own. -/
def isPlain (idx sub : Nat) : Bool :=
  if idx < 0x2101 then !(idx == 0x1003 || idx == 0x1010 || idx == 0x1011 || idx == 0x2020)
  else if idx < 0x3000 then
    !((idx == 0x2101 && (sub == 1 || sub == 4)) || (decide (0x2201 ≤ idx) && decide (idx ≤ 0x220A) && sub != 3) || (idx == 0x2310 && decide (sub ≤ 3))
      || (decide (0x2401 ≤ idx) && decide (idx ≤ 0x2404)) || (idx == 0x2500 && sub == 7) || (idx == 0x2600 && sub == 9) || idx == 0x2710
      || (idx == 0x2720 && sub == 4) || idx == 0x2800)
  else if idx < 0x3800 then !(idx % 256 == 0 && sub == 7)
  else if idx < 0x4000 then
    !((decide (idx < 0x3818) && sub == 4) || (decide (0x3B00 ≤ idx) && decide (idx < 0x3B10) && sub == 2)
      || (decide (0x3C00 ≤ idx) && decide (idx < 0x3C08) && (sub == 5 || sub == 10 || sub == 0x16)))
  else if idx < 0x4400 then
    !((decide (idx < 0x4030) && sub == 8) || (decide (0x4030 ≤ idx) && decide (idx < 0x4034) && sub == 1) || (idx == 0x4100 && sub == 1)
      || (decide (0x4304 ≤ idx) && decide (idx < 0x4308)))
  else if idx < 0x4800 then
    !((decide (idx < 0x4440) && sub == 2) || (idx == 0x4501 && sub == 2) || idx == 0x4504 || (idx == 0x4600 && (sub == 5 || sub == 0x14))
      || (idx == 0x4701 && sub == 6) || idx == 0x4702 || (idx == 0x4703 && sub == 8) || (decide (0x4710 ≤ idx) && decide (idx < 0x471A))
      || idx == 0x4720)
  else if idx < 0x5000 then !(decide (0x4900 ≤ idx) && decide (idx < 0x4940) && (sub == 5 || sub == 0x25))
  else if idx < 0x5800 then !((idx % 256 == 5 && sub == 0x0C) || (idx % 256 == 6 && sub == 5))
  else !((decide (0x5810 ≤ idx) && decide (idx < 0x5818) && (sub == 3 || sub == 4)) || (idx == 0x5910 && decide (2 ≤ sub) && decide (sub ≤ 4)))

/-! Measurement (R74, R90 to R92). -/

/-- A group restarts at once after a write accepted in SERVICE (R74). -/
def State.regroup (s : State) (g : Nat) : State := if s.inMode .service && (s.group g).running then s.startGroup g else s

/-- The groups that select a clock restart. -/
def State.regroupClock (s : State) (j : Nat) : State :=
  forUnits ([0, 1, 2, 3].filter fun g => s.objN (0x4030 + g) 2 == j) (fun t g => t.regroup g) s

/-- A divider written in SERVICE (R75): the first new edge is the first of the new grid, counted from the common start pulse, that lies at least one
new period later. -/
def State.retimeClock (s : State) (j : Nat) : State :=
  let per := 2 * s.objN 0x4034 (1 + j)
  if s.regionOn .sns then { s with clock := { s.clock with mclkFrom := put s.clock.mclkFrom j (gridUp s.tide.startPulse per (s.now + per)) } } else s

/-- Scaling and thresholds written: the words of the input are whole again, and a new scaling waits for its boundary (R90, R91). -/
def State.rescale (s : State) (md : Nat) (scaling : Bool) : State :=
  let m := s.modIn md
  s.setMod md { m with wordBad := false, scalePending := m.scalePending || scaling }

def State.actMeasure (s : State) (idx sub : Nat) (data : List Byte) : State :=
  let v := leNat data
  match fam idx 0x4000 48 1, fam idx 0x4030 4 1 with
  | some md, _ =>
    match sub with
    | 1 => s.regroup (md / 12)
    | 2 => s.regroup (md / 12)
    | 3 => s.regroup (md / 12)
    | 4 => s.rescale md true
    | 6 => s.rescale md true
    | 7 => s.rescale md true
    | 8 => s.applyCal md
    | 9 => s.regroup (md / 12)
    | 0x0B => s.rescale md false
    | 0x0C => s.rescale md false
    | 0x0D => s.rescale md false
    | _ => s
  | none, some g => if sub = 1 then s.applyGroupEnable g v else s.regroup g
  | none, none =>
    if idx = 0x4034 then (s.retimeClock (sub - 1)).regroupClock (sub - 1)
    else if idx = 0x4100 ∧ sub = 2 then s.applySeqPeriod
    else if idx = 0x4100 ∧ sub = 1 then s.applySeqLength v
    else s

/-! Stages, phases and setpoints. -/

def State.actStages (s : State) (idx sub : Nat) (data : List Byte) : State :=
  let v := leNat data
  match fam idx 0x3000 8 256, fam idx 0x3800 24 1 with
  | some n, _ => if sub ≠ 7 then s else if v = 1 then s.applyStageStart n else s.applyStageStop n
  | _, some p => if sub ≠ 4 then s else if v = 1 then s.returnPhase p else s.dropPhase p 4
  | none, none => s

/-- A limit of a generator written: it is taken with the next target (R180). -/
def State.limitWritten (s : State) (n : Nat) : State := s.setPg n { s.pg n with limitPending := true }

def State.actSetpoints (s : State) (idx sub : Nat) (data : List Byte) : State :=
  match fam idx 0x3B00 16 1, fam idx 0x3C00 8 1 with
  | some n, _ =>
    if sub = 2 then s.acceptTarget n (BitVec.ofNat 32 (leNat data)) else if 6 ≤ sub ∧ sub ≤ 8 then s.limitWritten n else s
  | _, some n =>
    match sub with
    | 2 => s.applyTableLength n
    | 5 => s.applyRefPeriod n data
    | 0x0A => s.applyLearnGain n data
    | 0x16 => s.applyRcReset n
    | _ => s
  | none, none => s

/-! Power, strings, chargers, rails. -/

def State.actPower (s : State) (idx sub : Nat) (data : List Byte) : State :=
  let v := leNat data
  match fam idx 0x4400 4 16 with
  | some f => if sub ≠ 2 then s else if v = 1 then s.applyFeedOn f else s.applyFeedOff f
  | none =>
    if idx = 0x4500 ∧ sub = 2 then s.acceptTarget (s.spmN 3) (BitVec.ofNat 32 v)
    else if idx = 0x4501 ∧ sub = 2 then { s with spm := { s.spm with hbRequested := v == 1 } }
    else if idx = 0x4504 then s.applyShareTrim (sub - 1) (realOf data)
    else s

def State.actStrings (s : State) (idx sub : Nat) (data : List Byte) : State :=
  let v := leNat data
  match fam idx 0x5005 8 256, fam idx 0x5006 8 256, fam idx 0x5810 8 1 with
  | some k, _, _ => if sub = 0x0C then s.replaceString k else s
  | _, some k, _ =>
    if sub ≠ 5 then s
    else
      let s := s.setObjN idx 5 1 v
      if v = 1 then s.requestSlack k false else s.abortSlack k
  | _, _, some k =>
    match sub, v with
    | 3, 1 => s.applyChargeStart k
    | 3, _ => s.applyChargeStop k
    | 4, 1 => s.applyEqRequest k
    | 4, _ => s.applyEqAbort k
    | _, _ => s
  | none, none, none => s

/-- `GroupCommand` accepted (R295). -/
def State.applyGroupCommand (s : State) (g v : Nat) : State :=
  let ph : GroupPhase := (s.railGroup g).phase
  let t : State :=
    match v with
    | 1 => if ph == .lowered || ph == .failed then s.startRise g else s
    | 2 => if s.rising g then s.setRailGroup g { s.railGroup g with abortPending := true } else s
    | _ => if ph == .risen || ph == .failed then s.startLower g else s
  t.setRailGroup g { t.railGroup g with command := v }

def State.actRails (s : State) (idx sub : Nat) (data : List Byte) : State :=
  match fam idx 0x4304 4 1 with
  | some g => s.applyGroupCommand g (leNat data)
  | none => if idx = 0x2710 then s.applyMargin (sub - 1) (leNat data) else if idx = 0x2600 ∧ sub = 9 then s.applyAgeReset else s

/-! Memory, logbook, windows. -/

/-- The outcome of a training that no command gives: passed, or a free code of 0x4600:06. -/
def State.trainFree (s : State) : State := let d := s.draw; d.2.train d.1.floor.toNat

/-- `RingEnable` of 0 stops the ring; one that is enabled, or whose channels have changed, starts empty at its next frame tick (R464 to R466). -/
def State.applyRing (s : State) : State := if s.ringRuns then s else { s with log := { s.log with running := false } }

def State.actLog (s : State) (ch : Chan) (idx sub : Nat) (data : List Byte) : State :=
  let v := leNat data
  let mine := fun (f : Session → Session) => match s.session ch with | some x => s.setSession ch (f x) | none => s
  if idx = 0x4600 then (if sub = 5 then s.applyEccMode v else if sub = 0x14 then s.trainFree else s)
  else if idx = 0x2720 then (if sub = 4 then s.armFlip else s)
  else if idx = 0x4700 then (if sub = 2 ∨ sub = 3 then s.applyRing else s)
  else if idx = 0x4701 then
    if sub ≠ 6 then s
    else match v with
    | 1 => s.startFreeze ch
    | 2 => { s with log := { s.log with freeze := .aborted, command := 2 } }.note 0x0041 (leBytes 1 5)
    | _ => { s with log := { s.log with command := 3 } }.endFreeze .released
  else if idx = 0x4702 then (if sub = 1 then s.placeCursor ch v else mine fun x => { x with minClass := v })
  else if idx = 0x4720 then mine fun x => { x with summary := v }
  else if idx = 0x4703 then (if sub = 8 ∧ s.trigEnabled 4 0 0 = true then s.trigger { bit := 4, at_ := s.now } else s)
  else match fam idx 0x4710 10 1 with
  | some w => { s with log := { s.log with windows := put s.log.windows w {} } }
  | none => s

/-! Modes, faults, pair, images. -/

/-- A value that MRAM keeps whatever the image and the stored set (R377). -/
def State.keep (s : State) (idx sub : Nat) (data : List Byte) : State := { s with kept := storePut (objKey idx sub) data s.kept }

/-- The bytes of an image received: the write has begun with its first byte, or begins and ends here (R483). -/
def State.takeImage (s : State) (data : List Byte) : State :=
  let t := if s.img.updState = 1 then s else s.beginUpdate s.img.target data.length
  { t with img := { t.img with updData := data, updSize := data.length } }

/-- A lay-up object about to be written (Table 09-11): in BOOT, SERVICE and MOORED it takes effect at once; elsewhere the values in force stay until the
next lay-up entry. -/
def State.holdLayup (s : State) (sub : Nat) (data : List Byte) : State :=
  let d := s.dead
  { s with dead :=
    if s.inModes [.boot, .service, .moored] then
      { d with srcEnable := if sub = 2 then none else d.srcEnable, srcStart := if sub = 6 then none else d.srcStart
               srcTime := if sub = 5 then none else d.srcTime
               srcLevels := if sub = 3 ∨ sub = 4 then d.srcLevels.map fun l => put l (sub - 3) (realOf data) else d.srcLevels }
    else { d with srcEnable := some s.srcEnable, srcStart := some s.srcStart, srcLevels := some [s.srcLevel 0, s.srcLevel 1], srcTime := some s.srcTime } }

/-- A level in whole steps of 10 mV, the nearest, half up. -/
def roundLevel (data : List Byte) : List Byte := realBytes (((realOf data * 100 + 1 / 2).floor : Int) / 100 : Rat)

def State.actSystem (s : State) (ch : Chan) (idx sub : Nat) (data : List Byte) : State :=
  let v := leNat data
  match idx with
  | 0x2101 =>
    if sub = 1 then (let d := s.draw; d.2.applyRequest v d.1.floor.toNat) else if sub = 4 then { s with supply := { s.supply with bootHold := v } } else s
  | 0x2401 =>
    match sub with
    | 1 => { s with img := { s.img with target := v } }
    | 2 => s.takeImage data
    | _ => s.abortUpdate
  | 0x2402 =>
    match sub, v with
    | 1, 1 => s.applyHitless
    | 1, _ => s.undoHitless
    | _, 1 => s.applyPairUpdate
    | _, _ => s.undoPairUpdate
  | 0x2403 => let d := s.draw; d.2.leavePilot d.1.floor.toNat
  | 0x2404 => s.applyKey (sub - 1) data
  | 0x2500 => if sub ≠ 7 then s else if v = 1 then s.applyHandover else s.cancelHandover
  | _ =>
    match fam idx 0x2201 10 1 with
    | none => s
    | some i =>
      match sub with
      | 3 => { s with faults := { s.faults with regions := put s.faults.regions i { nth s.faults.regions i {} with irqEnable := v } } }
      | 4 => s.applyIrqClear (i + 1) v
      | 7 => s.applySev (i + 1) v
      | _ => s.selectSev ch (i + 1) v

/-! Networks, time, access, store. -/

/-- Objects that a "save" takes: every rw object but those of R377's list. What a session holds for itself is stored as the saving session has it. -/
def storable (idx sub : Nat) : Bool :=
  match objRow idx sub with
  | none => false
  | some r =>
    r.acc == .rw && !(idx == 0x2101 && (sub == 1 || sub == 4)) && !(decide (0x3B00 ≤ idx) && decide (idx < 0x3B10) && sub == 2)
      && !(decide (0x2201 ≤ idx) && decide (idx ≤ 0x220A) && (sub == 4 || sub == 8)) && idx != 0x2710 && idx != 0x2800 && !(idx == 0x5910 && sub == 2)
      && !(decide (0x4000 ≤ idx) && decide (idx < 0x4030) && sub == 8) && !(decide (0x3000 ≤ idx) && decide (idx < 0x3800) && idx % 256 == 0 && sub == 7)
      && !(idx == 0x4501 && sub == 2) && !(decide (0x4304 ≤ idx) && decide (idx < 0x4308)) && !(decide (0x5000 ≤ idx) && decide (idx < 0x5800) && idx % 256 == 6 && sub == 5)
      && !(decide (0x5810 ≤ idx) && decide (idx < 0x5818) && (sub == 3 || sub == 4)) && !(idx == 0x2500 && sub == 7) && !(idx == 0x4701 && sub == 6)
      && !(idx == 0x2401 && sub == 3) && !(idx == 0x2402)

/-- Every storable object of the variant. -/
def State.storables (s : State) : List (Nat × Nat) :=
  (objRows.map fun r => ((List.range r.n).map fun i => (List.range (r.s1 + 1 - r.s0)).map fun j => (r.base + i * r.stride, r.s0 + j)).flatten).flatten.filter
    fun p => storable p.1 p.2 && s.objectStatus p.1 p.2 == 0

/-- The present values stored (R376): the object values, the severity classes in force, the tag of the image's dictionary section. -/
def State.saveAll (s : State) (ch : Chan) : State :=
  let l := s.storables.map fun p => (objKey p.1 p.2, s.value ch p.1 p.2)
  { s with net := s.net.commitStore { values := l.foldl (fun m p => storePut p.1 p.2 m) [], sev := s.faults.sev
                                      tag := s.image.map fun sl => leNat sl.header.dictDigest } }

/-- `Traceable`, `TimeSetSeconds`, `PhaseAdjust` accepted. -/
def State.actTime (s : State) (sub : Nat) (data : List Byte) : State :=
  match sub with
  | 1 => s.applyTimeSet (leNat data)
  | 2 => s.applyPhase (leInt data)
  | 3 => s.applyTraceable (leNat data)
  | _ => s

/-- A session's number (R374). -/
def Chan.number : Chan → Nat
  | .sdo p v => 0xFF00 + 0x10 * p + v
  | .nireo n => n
  | .own => 0

/-- A session's level falls, or rises by a good signature (R374). The message is the challenge, the level, the node-ID on C0 and the session's
number. A bad response is noted; after five within 60 s every response is refused for 60 s. -/
def State.accessMessage (s : State) (ch : Chan) (x : Session) (level : Nat) : List Byte :=
  x.challenge.getD [] ++ leBytes 1 level ++ leBytes 1 (s.nodeOf 0) ++ leBytes 2 ch.number

def State.accessKey (s : State) (level : Nat) : List Byte :=
  if level = 1 then s.raw 0x2021 1 else padTo 32 (Config.fixedBytes (objKey 0x2021 2))

/-- The response to a session's challenge raises its level. -/
def State.signatureGood (s : State) (ch : Chan) (x : Session) (level : Nat) (sig : List Byte) : Bool :=
  x.challenge.isSome && (level == 1 || level == 2) && Config.ed25519 (s.accessKey level) (s.accessMessage ch x level) sig

/-- Every response of the session is refused at present (R374). -/
def State.responsesRefused (s : State) (x : Session) : Bool := decide (s.now < x.refusedUntil)

/-- A bad response: the challenge is spent, and the fifth within 60 s starts the refusal. -/
def State.badResponse (s : State) (ch : Chan) : State :=
  match s.session ch with
  | none => s
  | some x =>
    let bad := (s.now :: x.bad).filter fun t => decide (s.now ≤ t + 60 * ticksPerS)
    s.setSession ch { x with challenge := none, bad := if 5 ≤ bad.length then [] else bad
                             refusedUntil := if 5 ≤ bad.length then s.now + 60 * ticksPerS else x.refusedUntil }

def State.goodResponse (s : State) (ch : Chan) (level : Nat) : State :=
  match s.session ch with
  | none => s
  | some x => s.setSession ch { x with challenge := none, level := level }

/-- A response with the level it asks for. -/
def State.respond (s : State) (ch : Chan) (level : Nat) (sig : List Byte) : State :=
  match s.session ch with
  | none => s
  | some x =>
    if s.responsesRefused x then s.answerWrite ch stAccess
    else if s.signatureGood ch x level sig then (s.goodResponse ch level).answerWrite ch stOk
    else (s.badResponse ch).answerWrite ch stAccess

/-- The consumer heartbeat time of a node in ms, by an entry of 0x1016; 0 for none. -/
def State.consumerTime (s : State) (node : Nat) : Nat :=
  (((List.range 8).map fun i => s.objN 0x1016 (1 + i)).filterMap fun e => if bits e 16 7 = node ∧ node ≠ 0 then some (bits e 0 16) else none).headD 0

/-- A port no longer watches a node; its fault ends with the last node that has timed out there. -/
def State.unwatch (s : State) (p node : Nat) : State :=
  let s := s.setCan p { s.can p with consumers := (s.can p).consumers.filter fun c => c.1 != node }
  if (s.can p).consumers.any fun c => c.2.2 then s else s.portFaultEnd (2 + p) 4

/-- 0x1016 written: a node that no entry consumes any more is not watched, and its fault ends (R399). -/
def State.consumersWritten (s : State) : State :=
  forUnits [0, 1] (fun t p => ((t.can p).consumers.filter fun c => t.consumerTime c.1 == 0).foldl (fun u c => u.unwatch p c.1) t) s

/-- A `PollPeriod` written: the grid of due times starts at the berth's arrival (R420). -/
def State.regrid (s : State) (b P : Nat) : State :=
  let v := s.berth b
  if P = 0 then s else s.setBerth b { v with dueAt := v.arrivedAt + (s.since v.arrivedAt / (P * ticksPerMs) + 1) * (P * ticksPerMs) }

/-- The level that a response written as a value proves: the highest whose key verifies it; 0 for none. -/
def State.provenLevel (s : State) (ch : Chan) (x : Session) (sig : List Byte) : Nat :=
  if s.signatureGood ch x 2 sig then 2 else if s.signatureGood ch x 1 sig then 1 else 0

def State.actNet (s : State) (ch : Chan) (idx sub : Nat) (data : List Byte) : State :=
  let v := leNat data
  match idx with
  | 0x1003 => { s with net := { s.net with history := [] } }
  | 0x1010 => s.saveAll ch
  | 0x1011 => { s with net := { s.net with storedDrop := true } }
  | 0x1016 => s.consumersWritten
  | 0x2020 =>
    if sub = 4 then s.dropLevel ch
    else match s.session ch with
    | some x => s.goodResponse ch (s.provenLevel ch x data)
    | none => s
  | 0x2310 => s.actTime sub data
  | 0x2800 => { s with net := { s.net with legacyHeld := some v } }
  | 0x4A20 => if sub = 2 ∧ v = 0 then (let t := s.closePort 2; { t with net := { t.net with hsQueue := [], hsOut := [] } }) else s
  | 0x5910 =>
    match sub with
    | 2 => (s.holdLayup 2 data).keep 0x5910 2 data
    | 3 => (s.holdLayup 3 (roundLevel data)).setObj 0x5910 3 (roundLevel data)
    | 4 => (s.holdLayup 4 (roundLevel data)).setObj 0x5910 4 (roundLevel data)
    | _ => s
  | _ =>
    match fam idx 0x4A00 2 1, fam idx 0x4A10 2 1, fam idx 0x4800 4 1, fam idx 0x4900 64 1 with
    | some p, _, _, _ =>
      if sub ≠ 2 then s
      else if v = 1 then (if (s.eth p).enabled then s else s.ethStart p)
      else ((s.closePort p).ethStart p).clearing (s.key 7 0xFF p 1)
    | _, some p, _, _ => if sub = 4 ∧ v = 0 then s.closePort (3 + p) else s
    | _, _, some p, _ => if sub = 2 ∧ v = 0 then (forUnits ((List.range 16).map (16 * p + ·)) (fun t b =>
            if (t.berth b).hostStatus = 1 then t.setBerth b { t.berth b with hostStatus := 3 } else t) s).setPort p
          { s.port p with run := none, heard := none, cmds := [], work := .none, todo := [], discovering := false, stretching := false, held := none } else s
    | _, _, _, some b =>
      match sub, v with
      | 5, 0 => s.applyBerthDisable b
      | 5, _ => s.setObjN idx 5 1 1
      | 6, _ => s.regrid b v
      | 0x25, _ =>
        let t := s.queueCmd { berth := b, code := bits v 0 8, proto := bits v 8 3, data := bits v 16 16, rank := 2, host := true }
        t.setBerth b { t.berth b with hostStatus := 1 }
      | _, _ => s
    | none, none, none, none => s

/-- The action of a write, after every plain value of its transfer is in place. -/
def State.act (s : State) (ch : Chan) (idx sub : Nat) (data : List Byte) : State :=
  if idx < 0x2101 ∨ idx = 0x2310 ∨ idx = 0x2800 ∨ (0x4800 ≤ idx ∧ idx < 0x5000) ∨ idx = 0x5910 then s.actNet ch idx sub data
  else if idx = 0x2710 ∨ idx = 0x2600 ∨ (0x4304 ≤ idx ∧ idx < 0x4308) then s.actRails idx sub data
  else if idx = 0x2720 ∨ (0x4600 ≤ idx ∧ idx < 0x4800) then s.actLog ch idx sub data
  else if idx < 0x3000 then s.actSystem ch idx sub data
  else if idx < 0x3900 then s.actStages idx sub data
  else if idx < 0x4000 then s.actSetpoints idx sub data
  else if idx < 0x4300 then s.actMeasure idx sub data
  else if idx < 0x4600 then s.actPower idx sub data
  else s.actStrings idx sub data

/-! A transfer of one or several values (R384, R385). -/

/-- A value of a transfer: index, sub-index, bytes. -/
abbrev Entry := Nat × Nat × List Byte

/-- Every value of a transfer in place. -/
def State.placed (s : State) (l : List Entry) : State := l.foldl (fun t e => t.setObj e.1 e.2.1 e.2.2) s

/-- Open DOMAIN writes of an object among sessions; one whose value is being written is not counted. -/
def State.writesOpen (s : State) (l : List Session) (idx sub : Nat) : Nat :=
  match objRow idx sub with
  | some r => if r.typ = .dom then (l.map fun x => (x.transfers.filter fun t => !t.upload && !t.closing && s.target t.idx == idx && t.sub == sub).length).sum else 0
  | none => 0

/-- The object has an open DOMAIN write, of whatever session (R384). -/
def State.domainOpen (s : State) (idx sub : Nat) : Bool := decide (0 < s.writesOpen (s.net.sdo ++ s.net.nireo) idx sub)

/-- The answer that one value alone would have, judged against what the whole transfer leaves in `t`. A value of the access response is judged
by its signature. -/
def State.entryStatus (s t : State) (ch : Chan) (e : Entry) : Nat :=
  let c := s.basicCheck ch e.1 e.2.1 e.2.2
  if c ≠ 0 then c
  else if isCommon e.1 e.2.1 && !s.mayWriteCommon then stState
  else if s.domainOpen e.1 e.2.1 then stState
  else if e.1 = 0x2020 ∧ e.2.1 = 3 then
    match s.session ch with
    | some x => if e.2.2.length ≠ 64 then stRange else if s.responsesRefused x || s.provenLevel ch x e.2.2 == 0 then stAccess else 0
    | none => stAccess
  else s.condition t ch e.1 e.2.1 e.2.2

/-- The place and the answer of the first value that refuses the transfer; "already complete" refuses nothing. -/
def State.firstRefusal (s : State) (ch : Chan) (l : List Entry) : Option (Nat × Nat) :=
  let t := s.placed l
  let r := l.map fun e => s.entryStatus t ch e
  match r.findIdx? (fun c => c != 0 && c != stAlready) with
  | some i => some (i, nth r i 0)
  | none => none

/-- The values of a transfer take effect together: plain values first, then the actions in transfer order. A value that is already complete changes
nothing; a pair-common value goes to the twin (R366). -/
def State.applyAll (s : State) (ch : Chan) (l : List Entry) : State :=
  let t := s.placed l
  let live := l.filter fun e => s.entryStatus t ch e == 0
  let s := (live.filter fun e => e.1 == 0x5910 && decide (5 ≤ e.2.1)).foldl (fun t e => t.holdLayup e.2.1 e.2.2) s
  let s := (live.filter fun e => isPlain e.1 e.2.1).foldl (fun t e => t.setObj e.1 e.2.1 e.2.2) s
  let s := live.foldl (fun t e => t.act ch e.1 e.2.1 e.2.2) s
  live.foldl (fun t e => if isCommon e.1 e.2.1 then t.mirrored e.1 e.2.1 e.2.2 else t) s

/-- What a refused value leaves: a refused `CalCommand` reads 3, a refused `HitlessCommand` of 1 gives its reason, a bad response is noted. -/
def State.afterRefusal (s : State) (ch : Chan) (e : Entry) (c : Nat) : State :=
  if c = stState ∧ 0x4000 ≤ e.1 ∧ e.1 < 0x4030 ∧ e.2.1 = 8 then s.calRefused (e.1 - 0x4000)
  else if c = stState ∧ e.1 = 0x2402 ∧ e.2.1 = 1 ∧ leNat e.2.2 = 1 then s.hitlessRefused
  else if c = stAccess ∧ e.1 = 0x2020 ∧ e.2.1 = 3 then
    match s.session ch with
    | some x => if s.responsesRefused x then s else s.badResponse ch
    | none => s
  else s

/-- A transfer with every index taken to its target (R380), checked and applied as one step. -/
def State.transferWrite (s : State) (ch : Chan) (l0 : List Entry) : State :=
  let l := l0.map fun e => (s.target e.1, e.2.1, e.2.2)
  match s.firstRefusal ch l with
  | some r => ((s.afterRefusal ch (nth l r.1 (0, 0, [])) r.2).touch ch).answerWrite ch r.2
  | none =>
    let done := match l with | [e] => s.entryStatus (s.placed l) ch e | _ => 0
    ((s.applyAll ch l).touch ch).answerWrite ch done

end Sys2Proof.Machine
end

