-- ==== Sys2Proof/Machine/Dictionary.lean ====
section
/-! DEFINITION. The dictionary's protocols: writes by a session, SDO, Nireo and its transports, access levels, the store (chapter 13). -/
namespace Sys2Proof.Machine

/-- Values written by a session, where the dictionary is served. -/
def State.hostWrite (s : State) (ch : Chan) (l : List Entry) : State := if s.served ch then s.transferWrite ch l else s

/-- OBJECT_WRITE (R373, R384): a complete value for one object. -/
def execObjectWrite (ch : Chan) (idx sub : Nat) (data : List Byte) (s : State) : Host.Outcome State Fault Refusal :=
  .next (s.hostWrite ch [(idx, sub, data)])

/-- PAIR_COMMON_WRITE (R366): as above, of a pair-common object. -/
def execPairCommonWrite (ch : Chan) (idx sub : Nat) (data : List Byte) (s : State) : Host.Outcome State Fault Refusal :=
  .next (if isCommon (s.target idx) sub then s.hostWrite ch [(idx, sub, data)] else s)

/-! Complete access (R385): the sub-indices of an index from one on, ascending, each in its type's length (DEDUCED, log entry 81). -/

/-- The sub-indices of an index that answer, from one on. -/
def State.subsFrom (s : State) (idx sub : Nat) : List Nat :=
  ((List.range (subCount (s.target idx) + 1)).drop sub).filter fun j => s.existsStatus (s.target idx) j == 0

/-- The bytes of a complete access cut by the types' lengths. -/
def State.split (s : State) (idx : Nat) : List Nat → List Byte → List Entry
  | [], _ => []
  | j :: l, data =>
    let n := match objRow (s.target idx) j with | some r => r.typ.size | none => 1
    if data.isEmpty then [] else (idx, j, data.take n) :: s.split idx l (data.drop n)

/-- The values that a download gives; bytes left over fail the length of the last. -/
def State.entriesOf (s : State) (idx sub : Nat) (ca : Bool) (data : List Byte) : List Entry :=
  if !ca then [(idx, sub, data)]
  else
    let l := s.subsFrom idx sub
    let n := (l.map fun j => match objRow (s.target idx) j with | some r => r.typ.size | none => 1).sum
    if data.length ≤ n then s.split idx l data else s.split idx l (data.take n) ++ [(idx, l.getLastD sub, data.drop n)]

/-- A read of one object, or of the sub-indices of an index: the answer of the first that is refused, else the values one after another. -/
def State.readAll (s : State) (ch : Chan) (idx sub : Nat) (ca : Bool) : State :=
  if !ca then s.readObject ch idx sub
  else
    let l := s.subsFrom idx sub
    if l.isEmpty then s.readObject ch idx sub
    else
      l.foldl (fun (t : State) j =>
        if t.net.answer.status ≠ 0 then t
        else let u := t.readObject ch idx j; u.reply ch u.net.answer.status (t.net.answer.data ++ u.net.answer.data)) (s.reply ch stOk [])

/-! Transfers in flight (R384, R396). -/

/-- No slot is free. -/
def State.slotsFull (s : State) : Bool := decide (128 ≤ s.inFlight)

/-- A request refused for want of a slot. -/
def State.refuseSlot (s : State) (ch : Chan) : State := ({ s with net := { s.net with slotRefusals := s.net.slotRefusals + 1 } }).answerWrite ch stAccess

/-- The peak with one more transfer in flight. -/
def State.notePeak (s : State) : State := { s with net := { s.net with peak := max s.net.peak (s.inFlight + 1) } }

/-- What refuses the opening of a download: all that can be judged before its value is known. -/
def State.openStatus (s : State) (ch : Chan) (idx0 sub size : Nat) : Nat :=
  let idx := s.target idx0
  let e := s.existsStatus idx sub
  if e ≠ 0 then e
  else match objRow idx sub with
  | none => stReadOnly
  | some r =>
    if r.acc == .ro || r.acc == .const then stReadOnly
    else if s.level ch < r.level then stAccess
    else if isCommon idx sub && !s.mayWriteCommon then stState
    else if s.domainOpen idx sub then stState
    else if idx = 0x2401 ∧ sub = 2 then s.updBeginStatus size
    else if r.typ.size ≠ 0 ∧ size ≠ 0 ∧ size ≠ r.typ.size then stRange
    else 0

/-- A transfer put in place of the session's transfers of the same object, which is named by its target (R380). -/
def State.setTransfer (s : State) (ch : Chan) (t : Transfer) : State :=
  match s.session ch with
  | some x => s.setSession ch { x with transfers := t :: x.transfers.filter fun y => !(y.idx == t.idx && y.sub == t.sub) }
  | none => s

/-- The session's transfer of an object gone, with nothing undone. -/
def State.endTransfer (s : State) (ch : Chan) (idx sub : Nat) : State :=
  match s.session ch with
  | some x => s.setSession ch { x with transfers := x.transfers.filter fun y => !(y.idx == idx && y.sub == sub) }
  | none => s

/-- The same, and what it had begun undone (R384, Table 17-4). -/
def State.dropTransfer (s : State) (ch : Chan) (idx sub : Nat) : State :=
  match s.session ch with
  | some x => (s.endUpdateOf (x.transfers.filter fun y => y.idx == idx && y.sub == sub)).endTransfer ch idx sub
  | none => s

/-- A part of an image has come: its slot is marked invalid at the first byte (R483). -/
def State.noteImageBytes (s : State) (t : Transfer) (data : List Byte) : State :=
  if t.isUpdate then
    let s := if s.img.updState = 1 then s else s.beginUpdate s.img.target t.size
    { s with img := { s.img with updData := s.img.updData ++ data } }
  else s

/-- The whole value received: its transfer is no longer open to others, and it is checked and takes effect, or nothing is written. -/
def State.finishTransfer (s : State) (ch : Chan) (t : Transfer) (value : List Byte) : State :=
  let s := s.setTransfer ch { t with closing := true }
  let u := s.transferWrite ch (s.entriesOf t.idx t.sub t.ca value)
  if u.net.answer.status ≤ 1 then u.endTransfer ch t.idx t.sub else u.dropTransfer ch t.idx t.sub

/-! SDO (R386). -/

/-- CiA 301 aborts of the protocol itself (R382): toggle, timeout, command specifier, block size, sequence number, CRC. -/
def stToggle : Nat := 0x05030000
def stTimeout : Nat := 0x05040000
def stCommand : Nat := 0x05040001
def stBlockSize : Nat := 0x05040002
def stSequence : Nat := 0x05040003
def stCrc : Nat := 0x05040004

/-- Server `v` of a port is there: server 1 always, servers 2 to 4 where both COB-IDs of 0x1201 to 0x1203 are valid. -/
def State.serverValid (s : State) (v : Nat) : Bool :=
  v == 1 || (decide (2 ≤ v) && decide (v ≤ 4) && !bit (s.objN (0x1200 + v - 1) 1) 31 && !bit (s.objN (0x1200 + v - 1) 2) 31)

/-- The channel's open transfer. -/
def State.sdoTransfer (s : State) (p v : Nat) : Option Transfer :=
  match s.session (.sdo p v) with
  | some x => x.transfers.head?
  | none => none

/-- The server aborts the channel's transfer with a code. -/
def State.sdoAbort (s : State) (p v code : Nat) : State := (s.dropSdo p v).answerWrite (.sdo p v) code

/-- A new initiate on a channel ends the transfer that is open on it, and needs a free slot (R396). -/
def State.sdoInitiate (s : State) (p v : Nat) (f : State → State) : State :=
  let s := s.dropSdo p v
  if s.slotsFull then s.refuseSlot (.sdo p v) else f s.notePeak

/-- The open transfer of the channel that a request goes on with: one that fits it, else an abort. -/
def State.sdoContinue (s : State) (p v : Nat) (fits : Transfer → Bool) (f : Transfer → State) : State :=
  match s.sdoTransfer p v with
  | none => s.answerWrite (.sdo p v) stCommand
  | some t => if fits t then f t else s.sdoAbort p v stCommand

/-- A download begins: `t` is what it has from its request; the answer is `d` where nothing refuses it. -/
def State.sdoDownload (s : State) (p v : Nat) (t : Transfer) (d : List Byte) : State :=
  let ch := Chan.sdo p v
  let c := if t.ca then s.openStatus ch t.idx (if t.sub = 0 then 1 else t.sub) 0 else s.openStatus ch t.idx t.sub t.size
  if c ≠ 0 then s.answerWrite ch c else (s.setTransfer ch { t with idx := s.target t.idx, at_ := s.now }).reply ch stOk d

/-- A segment of a segmented download. -/
def State.sdoSegment (s : State) (p v : Nat) (t : Transfer) (toggle last : Bool) (data : List Byte) : State :=
  let ch := Chan.sdo p v
  let all := t.data ++ data
  if toggle != t.toggle then s.sdoAbort p v stToggle
  else if t.size ≠ 0 ∧ t.size < all.length then s.sdoAbort p v stRange
  else
    let u := { t with data := all, toggle := !t.toggle, at_ := s.now }
    let s := (s.setTransfer ch u).noteImageBytes t data
    if !last then s.answerWrite ch stOk
    else if t.size ≠ 0 ∧ t.size ≠ all.length then s.sdoAbort p v stRange
    else s.finishTransfer ch u all

/-! SDO block transfers (Table 13-3; their flow is that of CiA 301, PRESUMED, log entry 79). -/

/-- The block size that the server gives in a block download, 1 to 127: the spec does not say which (log entry 79). -/
def sdoBlockSize : Nat := 1 + Config.sdoBlockSize % 127

/-- One bit of the block CRC: the polynomial x^16 + x^12 + x^5 + 1, most significant bit first. -/
def crc16Bit (c : BitVec 16) : BitVec 16 := if c.msb then (c <<< 1) ^^^ 0x1021 else c <<< 1

/-- The CRC of a block transfer, from 0 (CiA 301). -/
def crc16 (bs : List Byte) : BitVec 16 :=
  bs.foldl (fun c b => (List.range 8).foldl (fun c _ => crc16Bit c) (c ^^^ (BitVec.setWidth 16 b <<< (8 : Nat)))) 0

/-- A segment of a block download. The next in order is taken; one out of order is not. At the end of the block the server answers with the last one
taken and the size of the next block. -/
def State.sdoBlockSegment (s : State) (p v : Nat) (t : Transfer) (seq : Nat) (last : Bool) (data : List Byte) : State :=
  let ch := Chan.sdo p v
  let inOrder : Bool := seq == t.seq + 1 && !t.ended
  let d := padTo 7 data
  let all := if inOrder = true then t.data ++ d else t.data
  if seq = 0 ∨ t.blk < seq then s.sdoAbort p v stSequence
  else if t.size ≠ 0 ∧ t.size + 7 ≤ all.length then s.sdoAbort p v stRange
  else
    let n := if inOrder = true then seq else t.seq
    let full : Bool := last || seq == t.blk
    let u := { t with data := all, seq := if full = true then 0 else n, ended := t.ended || (inOrder && last), at_ := s.now }
    let s := s.setTransfer ch u
    let s := if inOrder = true then s.noteImageBytes t d else s
    if full = true then s.reply ch stOk (leBytes 1 n ++ leBytes 1 t.blk) else s

/-- The end of a block download. -/
def State.sdoBlockEnd (s : State) (p v : Nat) (t : Transfer) (unused crc : Nat) : State :=
  let value := t.data.take (t.data.length - unused)
  if !t.ended || decide (6 < unused) then s.sdoAbort p v stCommand
  else if t.crc = true ∧ (crc16 value).toNat ≠ crc then s.sdoAbort p v stCrc
  else if t.size ≠ 0 ∧ t.size ≠ value.length then s.sdoAbort p v stRange
  else s.finishTransfer (.sdo p v) t value

/-- The next block of an upload, seven bytes a segment; when every byte has been confirmed, the bytes of the last segment that hold no data and the CRC. -/
def State.sdoNextBlock (s : State) (p v : Nat) (t : Transfer) : State :=
  let ch := Chan.sdo p v
  let rest := t.data.drop t.sent
  if rest.isEmpty then
    (s.setTransfer ch { t with ended := true, at_ := s.now }).reply ch stOk
      (leBytes 1 ((7 - t.data.length % 7) % 7) ++ leBytes 2 (if t.crc = true then (crc16 t.data).toNat else 0))
  else
    let n := min t.blk ((rest.length + 6) / 7)
    (s.setTransfer ch { t with seq := n, at_ := s.now }).reply ch stOk (rest.take (7 * n))

/-- The client confirms segments of a block; the next block starts after the last that it has taken. -/
def State.sdoBlockAck (s : State) (p v : Nat) (t : Transfer) (seq size : Nat) : State :=
  if t.seq < seq then s.sdoAbort p v stSequence
  else if size = 0 ∨ 127 < size then s.sdoAbort p v stBlockSize
  else s.sdoNextBlock p v { t with sent := min t.data.length (t.sent + 7 * seq), blk := size, seq := 0 }

/-- An upload begins: a value that is refused, or fits the first answer, is answered at once. -/
def State.sdoUpload (s : State) (p v : Nat) (t : Transfer) : State :=
  let ch := Chan.sdo p v
  let u := s.readAll ch t.idx t.sub t.ca
  let d := u.net.answer.data
  if u.net.answer.status ≠ 0 ∨ (t.blk = 0 ∧ d.length ≤ 4) then u
  else (u.setTransfer ch { t with idx := s.target t.idx, upload := true, size := d.length, data := d, at_ := u.now }).reply ch stOk (leBytes 4 d.length)

/-- A segment of an upload. -/
def State.sdoUploadSegment (s : State) (p v : Nat) (t : Transfer) (toggle : Bool) : State :=
  let ch := Chan.sdo p v
  let rest := t.data.drop 7
  if toggle != t.toggle then s.sdoAbort p v stToggle
  else (if rest.isEmpty then s.endTransfer ch t.idx t.sub else s.setTransfer ch { t with data := rest, toggle := !t.toggle, at_ := s.now }).reply ch stOk (t.data.take 7)

/-- A request of an SDO client. -/
def State.sdoServe (s : State) (p v : Nat) (r : SdoReq) : State :=
  let ch := Chan.sdo p v
  match r with
  | .expedited idx sub ca data => s.sdoInitiate p v fun s => s.transferWrite ch (s.entriesOf idx sub ca data)
  | .downloadInit idx sub ca size => s.sdoInitiate p v fun s => s.sdoDownload p v { idx := idx, sub := sub, ca := ca, size := size } []
  | .downloadSegment toggle last data => s.sdoContinue p v (fun t => !t.upload && t.blk == 0) fun t => s.sdoSegment p v t toggle last data
  | .uploadInit idx sub ca => s.sdoInitiate p v fun s => s.sdoUpload p v { idx := idx, sub := sub, ca := ca }
  | .uploadSegment toggle => s.sdoContinue p v (fun t => t.upload && t.blk == 0) fun t => s.sdoUploadSegment p v t toggle
  | .blockDownloadInit idx sub ca size crc =>
    s.sdoInitiate p v fun s => s.sdoDownload p v { idx := idx, sub := sub, ca := ca, size := size, blk := sdoBlockSize, crc := crc } (leBytes 1 sdoBlockSize)
  | .blockSegment seq last data => s.sdoContinue p v (fun t => !t.upload && t.blk != 0) fun t => s.sdoBlockSegment p v t seq last data
  | .blockDownloadEnd unused crc => s.sdoContinue p v (fun t => !t.upload && t.blk != 0) fun t => s.sdoBlockEnd p v t unused crc
  | .blockUploadInit idx sub ca size crc =>
    s.sdoInitiate p v fun s =>
      if size = 0 ∨ 127 < size then s.answerWrite ch stBlockSize else s.sdoUpload p v { idx := idx, sub := sub, ca := ca, blk := size, crc := crc }
  | .blockUploadStart => s.sdoContinue p v (fun t => t.upload && t.blk != 0 && !t.ended) fun t => s.sdoNextBlock p v t
  | .blockUploadAck seq size => s.sdoContinue p v (fun t => t.upload && t.blk != 0 && !t.ended) fun t => s.sdoBlockAck p v t seq size
  | .blockUploadEnd => s.sdoContinue p v (fun t => t.upload && t.ended) fun t => (s.endTransfer ch t.idx t.sub).answerWrite ch stOk

/-- SDO_REQUEST (R372, R385, R386, R396). -/
def execSdoRequest (p v : Nat) (r : SdoReq) (s : State) : Host.Outcome State Fault Refusal :=
  .next (if s.sdoReady p && s.serverValid v && s.served (.sdo p v) then (s.touch (.sdo p v)).sdoServe p v r else s)

/-- SDO_ABORT_TRANSFER (R486): with no transfer open nothing changes. -/
def execSdoAbortTransfer (p v : Nat) (s : State) : Host.Outcome State Fault Refusal :=
  .next (if s.sdoReady p && s.served (.sdo p v) then (s.touch (.sdo p v)).dropSdo p v else s)

/-- SDO_SEGMENT_TIMEOUT (Table 13-3): 1 s without a segment. -/
def execSdoSegmentTimeout (p v : Nat) (s : State) : Host.Outcome State Fault Refusal :=
  .next (match s.sdoTransfer p v with
    | some t => if s.elapsed t.at_ 1 then s.sdoAbort p v stTimeout else s
    | none => s)

/-! Nireo (R393 to R396). -/

/-- A response frame (Table 13-5). -/
def responseFrame (op tag idx sub flags session status : Nat) (data : List Byte) : List Byte :=
  leBytes 1 1 ++ leBytes 1 op ++ leBytes 2 data.length ++ leBytes 2 tag ++ leBytes 2 idx ++ leBytes 1 sub ++ leBytes 1 flags ++ leBytes 2 session
    ++ leBytes 4 status ++ data

/-- A response of a session on HS waits for the host to fetch it (Table 13-7). -/
def State.queueHs (s : State) (frame : List Byte) : State := { s with net := { s.net with hsQueue := s.net.hsQueue ++ [frame] } }

/-- The 29-bit identifier of a CAN FD frame of Nireo: host, direction, node (Table 13-7). -/
def State.fdIdent (s : State) (p host dir : Nat) : Nat := 0x1E400000 + 0x1000 * host + 0x100 * dir + s.nodeOf p

/-- The lengths that a CAN FD frame can have (ISO 11898-1). -/
def fdLength (n : Nat) : Nat := if n ≤ 8 then n else ([12, 16, 20, 24, 32, 48].find? fun l => decide (n ≤ l)).getD 64

/-- A Nireo frame split into CAN FD frames of 64 bytes, each opened by its segment byte, the last at the smallest length that holds it. What fills
it up is not stated: zeros (DESIGN CHOICE, log entry 162). -/
def fdFrames (frame : List Byte) : List (List Byte) :=
  let n := (frame.length + 62) / 63
  (List.range n).map fun i =>
    let d := (frame.drop (63 * i)).take 63
    let b := [BitVec.ofNat 8 (i % 64 + (if i = 0 then 128 else 0) + (if i + 1 = n then 64 else 0))] ++ d
    padTo (fdLength b.length) b

/-- A response frame sent over a transport to a host (Table 13-7): a datagram, through the gateway where the host lies outside the port's network; a
waiting response on HS; frames of CAN FD, which a stopped port does not send (R388). -/
def State.sendResponse (s : State) (port : Nat) (peer : Nat × Nat) (frame : List Byte) : State :=
  match port with
  | 2 => s.queueHs frame
  | 3 => if (s.can 0).nmt = .stopped then s else s.setCan 0 { s.can 0 with fdTx := (s.fdIdent 0 peer.1 1, fdFrames frame) }
  | 4 => if (s.can 1).nmt = .stopped then s else s.setCan 1 { s.can 1 with fdTx := (s.fdIdent 1 peer.1 1, fdFrames frame) }
  | p =>
    let v := s.eth p
    let near : Bool := peer.1 &&& v.mask == v.addr &&& v.mask
    s.setEth p { v with lastUdp := { hop := if near = true ∨ v.gateway = 0 then peer.1 else v.gateway, addr := peer.1, port := peer.2, data := frame } }

/-- The answer just given, kept with its request for 2 s, among the session's last 128 (R395). -/
def State.keepAnswer (s : State) (n op tag idx sub word : Nat) : State :=
  match s.session (.nireo n) with
  | none => s
  | some x =>
    let k : Kept := { op := op, tag := tag, idx := idx, sub := sub, word := word, status := s.net.answer.status, data := s.net.answer.data, at_ := s.now }
    s.setSession (.nireo n) { x with kept := (k :: x.kept.filter fun y => decide (s.now ≤ y.at_ + 2 * ticksPerS)).take 128 }

/-- The kept response of a repeated request. -/
def State.keptFor (s : State) (x : Session) (op tag idx sub word : Nat) : Option Kept :=
  x.kept.find? fun y => y.op == op && y.tag == tag && y.idx == idx && y.sub == sub && y.word == word && decide (s.now ≤ y.at_ + 2 * ticksPerS)

/-- A frame received on an Ethernet port (0x4A0p:0C). -/
def State.ethReceived (s : State) (p : Nat) : State := s.setEth p { s.eth p with received := (s.eth p).received + 1 }

/-- The session's open DOMAIN write of an object. -/
def State.domainWrite (s : State) (n idx sub : Nat) : Option Transfer :=
  match s.session (.nireo n) with
  | some x => x.transfers.find? fun t => t.idx == s.target idx && t.sub == sub
  | none => none

/-- A request that names an open DOMAIN write keeps it from the idle timeout, whatever it is answered (R394). -/
def State.renewDomain (s : State) (n op idx sub : Nat) : State :=
  if 3 ≤ op ∧ op ≤ 6 then
    match s.domainWrite n idx sub with
    | some t => s.setTransfer (.nireo n) { t with at_ := s.now }
    | none => s
  else s

/-- A session hears from its host, and answers there (R397). -/
def State.hearFrom (s : State) (n : Nat) (peer : Nat × Nat) : State :=
  match s.session (.nireo n) with
  | some x => s.setSession (.nireo n) { x with peer := peer }
  | none => s

/-- The head of a request that its transport has carried: the response goes to where the request comes from (R397). -/
def State.requestFrom (s : State) (rq : NireoReq) : State := if s.served (.nireo rq.session) then s.hearFrom rq.session rq.src else s

/-- A request of a session: unknown sessions are refused, a repeated request gets its kept response, a request that needs a slot and finds none
is refused, and any other is carried out by `f`. The response goes where the request came from (R397). -/
def State.nireo (s : State) (n op tag idx sub word : Nat) (slot : Bool) (f : State → State) : State :=
  let ch := Chan.nireo n
  if !s.dictUp then s
  else match s.session ch with
  | none => s.answerWrite ch stState
  | some x =>
    if !s.transportUp x.port then s
    else
      let s := ((s.touch ch).ethReceived x.port).renewDomain n op idx sub
      let t :=
        match s.keptFor x op tag idx sub word with
        | some k => s.reply ch k.status k.data
        | none => (if slot && s.slotsFull then s.refuseSlot ch else f (if slot then s.notePeak else s)).keepAnswer n op tag idx sub word
      t.sendResponse x.port x.peer (responseFrame op tag idx sub 1 n t.net.answer.status t.net.answer.data)

/-- NIREO_READ: the value, up to 1,400 bytes from `word` on. -/
def State.nireoReadOp (s : State) (n tag idx sub : Nat) (ca : Bool) (word : Nat) : State :=
  s.nireo n 1 tag idx sub word true fun s =>
    let u := s.readAll (.nireo n) idx sub ca
    u.reply (.nireo n) u.net.answer.status ((u.net.answer.data.drop word).take 1400)

def execNireoRead (rq : NireoReq) (tag idx sub : Nat) (ca : Bool) (word : Nat) (s : State) : Host.Outcome State Fault Refusal :=
  .next ((s.requestFrom rq).nireoReadOp rq.session tag idx sub ca word)

/-- A status poll (R393): the status that a write would have now, its value taken as the present one (DESIGN CHOICE, log entry 80). -/
def State.pollStatus (s : State) (ch : Chan) (idx0 sub : Nat) : Nat :=
  let idx := s.target idx0
  let c := s.openStatus ch idx sub 0
  if c ≠ 0 then c
  else if idx = 0x2020 ∧ sub = 3 then (match s.session ch with | some x => if s.responsesRefused x then stAccess else 0 | none => stAccess)
  else s.condition s ch idx sub (s.value ch idx sub)

/-- NIREO_WRITE; with no payload, a status poll. -/
def State.nireoWriteOp (s : State) (n tag idx sub : Nat) (ca : Bool) (data : List Byte) : State :=
  s.nireo n 2 tag idx sub 0 true fun s =>
    let subs := if ca then s.subsFrom idx sub else [sub]
    if data.isEmpty then s.answerWrite (.nireo n) (((subs.map fun j => s.pollStatus (.nireo n) idx j).find? fun c => c != 0).getD 0)
    else s.transferWrite (.nireo n) (s.entriesOf idx sub ca data)

def execNireoWrite (rq : NireoReq) (tag idx sub : Nat) (ca : Bool) (data : List Byte) (s : State) : Host.Outcome State Fault Refusal :=
  .next ((s.requestFrom rq).nireoWriteOp rq.session tag idx sub ca data)

/-- The session notes that its DOMAIN write of an object has ended, or begun again (R383). -/
def State.noteFinished (s : State) (n idx sub : Nat) (done : Bool) : State :=
  match s.session (.nireo n) with
  | some x =>
    let l := x.finished.filter fun y => !(y.1 == s.target idx && y.2 == sub)
    s.setSession (.nireo n) { x with finished := if done then (s.target idx, sub) :: l else l }
  | none => s

/-- NIREO_DOMAIN_BEGIN: a total size up to 16,777,216 bytes. -/
def State.nireoBeginOp (s : State) (n tag idx sub size : Nat) : State :=
  s.nireo n 3 tag idx sub 0 true fun s =>
    let c := s.openStatus (.nireo n) idx sub size
    if 16777216 < size then s.answerWrite (.nireo n) stRange
    else if c ≠ 0 then s.answerWrite (.nireo n) c
    else (((s.setTransfer (.nireo n) { idx := s.target idx, sub := sub, size := size, at_ := s.now }).noteFinished n idx sub false)).answerWrite (.nireo n) stOk

def execNireoDomainBegin (rq : NireoReq) (tag idx sub size : Nat) (s : State) : Host.Outcome State Fault Refusal :=
  .next ((s.requestFrom rq).nireoBeginOp rq.session tag idx sub size)

/-- Byte `i` of a DOMAIN write received in parts, the newest part first. -/
def byteOf (parts : List (Nat × List Byte)) (i : Nat) : Option Byte :=
  match parts with
  | [] => none
  | p :: ps => if decide (p.1 ≤ i) && decide (i < p.1 + p.2.length) then p.2[i - p.1]? else byteOf ps i

/-- Bytes received in order: from 0 to the first that is missing. -/
def inOrder (parts : List (Nat × List Byte)) : Nat → Nat → Nat
  | 0, at_ => at_
  | n + 1, at_ =>
    match parts.find? fun p => decide (p.1 ≤ at_) && decide (at_ < p.1 + p.2.length) with
    | some p => inOrder parts n (p.1 + p.2.length)
    | none => at_

/-- NIREO_DOMAIN_SEGMENT (R394): segments come in any order; an empty one is a status poll. -/
def State.nireoSegmentOp (s : State) (n tag idx sub word : Nat) (data : List Byte) : State :=
  s.nireo n 4 tag idx sub word (s.domainWrite n idx sub).isNone fun s =>
    match s.domainWrite n idx sub with
    | none => s.answerWrite (.nireo n) stState
    | some t =>
      if data.isEmpty then
        s.reply (.nireo n) stOk (leBytes 4 (inOrder t.parts (t.parts.length + 1) 0))
      else if t.size < word + data.length then s.answerWrite (.nireo n) stRange
      else ((s.setTransfer (.nireo n) { t with parts := (word, data) :: t.parts }).noteImageBytes t data).answerWrite (.nireo n) stOk

def execNireoDomainSegment (rq : NireoReq) (tag idx sub word : Nat) (data : List Byte) (s : State) : Host.Outcome State Fault Refusal :=
  .next ((s.requestFrom rq).nireoSegmentOp rq.session tag idx sub word data)

/-- NIREO_DOMAIN_END (R394): every byte received and the CRC right, or nothing is written. -/
def State.nireoEndOp (s : State) (n tag idx sub : Nat) (crc : BitVec 32) : State :=
  s.nireo n 5 tag idx sub 0 (s.domainWrite n idx sub).isNone fun s =>
    match s.domainWrite n idx sub with
    | none => s.answerWrite (.nireo n) stState
    | some t =>
      let l := (List.range t.size).map (byteOf t.parts)
      let value := l.map fun b => b.getD 0
      if l.all (·.isSome) && crc32 value == crc then
        let u := s.finishTransfer (.nireo n) t value
        if u.net.answer.status ≤ 1 then u.noteFinished n idx sub true else u
      else (s.dropTransfer (.nireo n) t.idx sub).answerWrite (.nireo n) stRange

def execNireoDomainEnd (rq : NireoReq) (tag idx sub : Nat) (crc : BitVec 32) (s : State) : Host.Outcome State Fault Refusal :=
  .next ((s.requestFrom rq).nireoEndOp rq.session tag idx sub crc)

/-- NIREO_DOMAIN_ABORT: after op 0x05 it is answered "already complete" (R486). -/
def State.nireoAbortOp (s : State) (n tag idx sub : Nat) : State :=
  s.nireo n 6 tag idx sub 0 (s.domainWrite n idx sub).isNone fun s =>
    match s.domainWrite n idx sub, s.session (.nireo n) with
    | some t, _ => (s.dropTransfer (.nireo n) t.idx sub).answerWrite (.nireo n) stOk
    | none, some x => s.answerWrite (.nireo n) (if x.finished.contains (s.target idx, sub) then stAlready else stState)
    | none, none => s

def execNireoDomainAbort (rq : NireoReq) (tag idx sub : Nat) (s : State) : Host.Outcome State Fault Refusal := .next ((s.requestFrom rq).nireoAbortOp rq.session tag idx sub)

/-- A session number not in use, below 0xFF00 and not 0, from a free value on: the spec does not say which number op 0x08 gives (R374, R394). -/
def State.newSession (s : State) (from_ : Nat) : Nat :=
  (((List.range 33).map fun i => (from_ + i) % 0xFEFF + 1).find? fun n => s.net.nireo.all fun x => x.num != n).getD 0

/-- NIREO_OPEN_SESSION (R394): up to 8 on a port and 32 in all, and a free slot (R396). -/
def State.nireoOpenOp (s : State) (port tag : Nat) (peer : Nat × Nat) : State :=
  if !(s.dictUp && s.transportUp port) then s
  else
    let s := s.ethReceived port
    let d := s.draw
    let n := s.newSession d.1.floor.natAbs
    let t :=
      if s.slotsFull then s.refuseSlot (.nireo 0)
      else if 8 ≤ (s.portSessions port).length ∨ 32 ≤ s.net.nireo.length then s.answerWrite (.nireo 0) stAccess
      else
        let s := d.2.notePeak
        let x : Session := { num := n, port := port, lastReq := s.now, summary := s.objN 0x4720 2, peer := peer }
        ({ s with net := { s.net with nireo := s.net.nireo ++ [x] } }).reply (.nireo 0) stOk (leBytes 2 n)
    t.sendResponse port peer (responseFrame 8 tag 0 0 1 0 t.net.answer.status t.net.answer.data)

def execNireoOpenSession (src : Nat × Nat × Nat) (tag : Nat) (s : State) : Host.Outcome State Fault Refusal := .next (s.nireoOpenOp src.1 tag src.2)

/-- NIREO_CLOSE_SESSION (R394). -/
def State.nireoCloseOp (s : State) (n tag : Nat) : State :=
  s.nireo n 9 tag 0 0 0 true fun s => (s.closeNireo n).answerWrite (.nireo n) stOk

def execNireoCloseSession (rq : NireoReq) (tag : Nat) (s : State) : Host.Outcome State Fault Refusal := .next ((s.requestFrom rq).nireoCloseOp rq.session tag)

/-- NIREO_BATCH_WRITE (R385): up to 128 entries; a refusal gives the place of the first failing one. -/
def State.nireoBatchOp (s : State) (n tag : Nat) (l : List Entry) : State :=
  s.nireo n 0x0B tag 0 0 0 true fun s =>
    if 128 < l.length then s.reply (.nireo n) stRange (leBytes 2 128)
    else
      let u := s.transferWrite (.nireo n) l
      match s.firstRefusal (.nireo n) (l.map fun e => (s.target e.1, e.2.1, e.2.2)) with
      | some r => u.reply (.nireo n) u.net.answer.status (leBytes 2 r.1)
      | none => u

def execNireoBatchWrite (rq : NireoReq) (tag : Nat) (entries : List Entry) (s : State) : Host.Outcome State Fault Refusal :=
  .next ((s.requestFrom rq).nireoBatchOp rq.session tag entries)

/-- A frame dropped and counted (0x4A30:06). -/
def State.dropNireo (s : State) : State := { s with net := { s.net with dropped := s.net.dropped + 1 } }

/-- NIREO_FRAME_DROPPED (R393, R397): a bad version, op or framing on an open transport. -/
def execNireoFrameDropped (port : Nat) (s : State) : Host.Outcome State Fault Refusal :=
  .next (if s.dictUp && s.transportUp port then s.dropNireo else s)

/-- SESSION_IDLE_TIMEOUT (R394): 600 s without a request. -/
def execSessionIdleTimeout (n : Nat) (s : State) : Host.Outcome State Fault Refusal :=
  .next (match s.session (.nireo n) with
    | some x => if s.elapsed x.lastReq 600 then s.closeNireo n else s
    | none => s)

/-- DOMAIN_WRITE_IDLE_TIMEOUT (R394): 10 s without a request. -/
def execDomainWriteIdleTimeout (n idx sub : Nat) (s : State) : Host.Outcome State Fault Refusal :=
  .next (match s.domainWrite n idx sub with
    | some t => if s.elapsed t.at_ 10 then s.dropTransfer (.nireo n) t.idx sub else s
    | none => s)

/-! Frames of the transports that this model sees as bytes: HS and CAN FD (R397). -/

/-- The entries of a batch payload. -/
def batchEntries : Nat → List Byte → Option (List Entry)
  | 0, _ => none
  | n + 1, d =>
    match d with
    | [] => some []
    | _ =>
      let len := leNat ((d.drop 3).take 1)
      if d.length < 4 + len then none
      else (batchEntries n (d.drop (4 + len))).map fun l => (leNat (d.take 2), leNat ((d.drop 2).take 1), (d.drop 4).take len) :: l

/-- A request frame from a host carried out; a bad version, op, length or flag drops it, and a session of another port is not this port's. -/
def State.nireoFrame (s : State) (port : Nat) (peer : Nat × Nat) (d : List Byte) : State :=
  let op := field d 1 1
  let len := field d 2 2
  let tag := field d 4 2
  let idx := field d 6 2
  let sub := field d 8 1
  let flags := field d 9 1
  let n := field d 10 2
  let word := field d 12 4
  let body := (d.drop 16).take len
  let ca := bit flags 1
  let own := match s.session (.nireo n) with | some x => x.port == port | none => false
  if decide (d.length < 16) || field d 0 1 != 1 || decide (1400 < len) || decide (d.length < 16 + len) || bit flags 0 || decide (4 ≤ flags) then s.dropNireo
  else if op != 8 && !own && [1, 2, 3, 4, 5, 6, 9, 0x0B].contains op then
    (s.answerWrite (.nireo n) stState).sendResponse port peer (responseFrame op tag idx sub 1 n stState [])
  else
  let s := s.hearFrom n peer
  match op with
  | 1 => s.nireoReadOp n tag idx sub ca word
  | 2 => s.nireoWriteOp n tag idx sub ca body
  | 3 => if len = 4 then s.nireoBeginOp n tag idx sub (leNat body) else s.dropNireo
  | 4 => s.nireoSegmentOp n tag idx sub word body
  | 5 => if len = 4 then s.nireoEndOp n tag idx sub (BitVec.ofNat 32 (leNat body)) else s.dropNireo
  | 6 => s.nireoAbortOp n tag idx sub
  | 8 => s.nireoOpenOp port tag peer
  | 9 => s.nireoCloseOp n tag
  | 0x0B => match batchEntries 1401 body with | some l => s.nireoBatchOp n tag l | none => s.dropNireo
  | _ => s.dropNireo

/-- The HS port answers. -/
def State.hsUp (s : State) : Bool := s.dictUp && s.transportUp 2

/-- HS_FRAME_COMMAND (Table 13-7): a frame and its CRC-32; one whose CRC fails is dropped and counted. -/
def execHsFrameCommand (frame : List Byte) (crcOk : Bool) (s : State) : Host.Outcome State Fault Refusal :=
  .next (if !s.hsUp then s
    else if crcOk then s.nireoFrame 2 (0, 0) frame
    else { s with net := { s.net with hsCrc := s.net.hsCrc + 1 } })

/-- HS_STATUS_COMMAND: responses waiting and free slots. -/
def execHsStatusCommand (s : State) : Host.Outcome State Fault Refusal :=
  .next (if s.hsUp then { s with net := { s.net with hsOut := leBytes 2 s.net.hsQueue.length ++ leBytes 2 (128 - s.inFlight) } } else s)

/-- HS_RESPONSE_COMMAND: the oldest waiting response and its CRC-32, or a header of op 0x00. -/
def execHsResponseCommand (s : State) : Host.Outcome State Fault Refusal :=
  .next (if !s.hsUp then s
    else match s.net.hsQueue with
    | [] => { s with net := { s.net with hsOut := responseFrame 0 0 0 0 1 0 0 [] } }
    | r :: rs => { s with net := { s.net with hsQueue := rs, hsOut := r ++ leBytes 4 (crc32 r).toNat } })

/-- NIREO_CAN_FD_SEGMENT (Table 13-7): a CAN FD frame with its identifier, which names the host and this node; its segment byte opens it. The frames
of each host are put together apart; a gap in the counter drops what has come. -/
def execNireoCanFdSegment (p ident : Nat) (seg : Byte) (data : List Byte) (s : State) : Host.Outcome State Fault Refusal :=
  let host := (ident - 0x1E400000) / 0x1000 % 16
  let b := seg.toNat
  let first : Bool := bit b 7
  let counter := b % 64
  .next (if !(decide (p < 2) && s.dictUp && s.transportUp (3 + p)) || ident != s.fdIdent p host 0 then s
    else
      let v := s.can p
      let s := s.canHeard
      let old := v.fd.find? fun a => a.1 == host
      let others := v.fd.filter fun a => a.1 != host
      let follows : Bool := match old with | some a => a.2.2 == counter && !first | none => false
      let all := (match old with | some a => if first then [] else a.2.1 | none => []) ++ data
      if first || follows then
        let s := if first && old.isSome then s.dropNireo else s
        if bit b 6 then (s.setCan p { v with fd := others }).nireoFrame (3 + p) (host, 0) all
        else s.setCan p { v with fd := others ++ [(host, all, (counter + 1) % 64)] }
      else (s.setCan p { v with fd := others }).dropNireo)

/-! Access levels (R374). -/

/-- ACCESS_CHALLENGE_READ. -/
def execAccessChallengeRead (ch : Chan) (s : State) : Host.Outcome State Fault Refusal :=
  .next (if s.served ch then (s.touch ch).readObject ch 0x2020 2 else s)

/-- What refuses an access response before its signature is looked at: its length, and a DOMAIN write of the object that is open (R384). -/
def State.responseStatus (s : State) (sig : List Byte) : Nat := if sig.length ≠ 64 then stRange else if s.domainOpen 0x2020 3 then stState else 0

/-- ACCESS_RESPONSE: the level that it asks for, and the signature. -/
def execAccessResponse (ch : Chan) (level : Nat) (sig : List Byte) (s : State) : Host.Outcome State Fault Refusal :=
  .next (if s.served ch then
      (if s.responseStatus sig = 0 then (s.touch ch).respond ch level sig else (s.touch ch).answerWrite ch (s.responseStatus sig))
    else s)

/-- ACCESS_DROP. -/
def execAccessDrop (ch : Chan) (v : Nat) (s : State) : Host.Outcome State Fault Refusal := .next (s.hostWrite ch [(0x2020, 4, leBytes 1 v)])

/-- ACCESS_IDLE_TIMEOUT: 600 s without a request from the session. -/
def execAccessIdleTimeout (ch : Chan) (s : State) : Host.Outcome State Fault Refusal :=
  .next (match s.session ch with
    | some x => if s.elapsed x.lastReq 600 then s.dropLevel ch else s
    | none => s)

/-! The store, LEGACY (R376, R380). -/

/-- STORE_SAVE. -/
def execStoreSave (ch : Chan) (sig : Nat) (s : State) : Host.Outcome State Fault Refusal := .next (s.hostWrite ch [(0x1010, 1, leBytes 4 sig)])

/-- RESTORE_LOAD. -/
def execRestoreLoad (ch : Chan) (sig : Nat) (s : State) : Host.Outcome State Fault Refusal := .next (s.hostWrite ch [(0x1011, 1, leBytes 4 sig)])

/-- LEGACY_MODE_WRITE: it takes effect at the next start. -/
def execLegacyModeWrite (ch : Chan) (v : Nat) (s : State) : Host.Outcome State Fault Refusal := .next (s.hostWrite ch [(0x2800, 1, leBytes 1 v)])

end Sys2Proof.Machine
end

