-- ==== Sys2Proof/Machine/CanOpen.lean ====
section
/-! DEFINITION. CANopen: NMT, LSS, SYNC, TIME, PDOs, heartbeats and bus-off (R386 to R392, R399). -/
namespace Sys2Proof.Machine

/-- A CAN port's node runs: present, past its boot-up, and the cores serve it (R388). -/
def State.canRuns (s : State) (p : Nat) : Bool := s.part.has .can p && (s.can p).nmt != .off && s.dictUp

/-- A CAN port hears its bus: its node runs and it is not bus-off. -/
def State.canHears (s : State) (p : Nat) : Bool := s.canRuns p && !(s.can p).busOff

/-- A CAN port carries CANopen: it hears its bus and no SHED has stopped it (R28). -/
def State.canLive (s : State) (p : Nat) : Bool := s.canHears p && !s.isShed 7 0xFF (2 + p)

/-! NMT (R386, R388). -/

/-- The RPDOs of a port that wait for a SYNC are dropped when the port leaves operational. -/
def State.dropRpdos (s : State) (p : Nat) : State := { s with net := { s.net with rpdoQueue := s.net.rpdoQueue.filter fun w => w.2.1 != p } }

/-- NMT_START. -/
def execNmtStart (p : Nat) (s : State) : Host.Outcome State Fault Refusal :=
  .next (if s.canLive p then (s.setCan p { s.can p with nmt := .operational }).canHeard else s)

/-- NMT_STOP: only heartbeat and NMT answers from here; open SDO transfers end. -/
def execNmtStop (p : Nat) (s : State) : Host.Outcome State Fault Refusal :=
  .next (if s.canLive p then (((s.setCan p { s.can p with nmt := .stopped }).dropSdos p).dropRpdos p).canHeard else s)

/-- NMT_ENTER_PRE_OPERATIONAL: a boot-up message on the entry. -/
def execNmtEnterPreOperational (p : Nat) (s : State) : Host.Outcome State Fault Refusal :=
  .next (if s.canLive p then
      (if (s.can p).nmt = .preOperational then s.canHeard else ((s.dropRpdos p).preOperational p).canHeard)
    else s)

/-- An object of the communication profile, 0x1000 to 0x1FFF, by its key. -/
def commKey (k : Nat) : Bool := decide (0x100000 ≤ k) && decide (k < 0x200000)

/-- The communication objects as the stored set has them, else as the image has them (R388). -/
def State.reloadComm (s : State) : State :=
  let c := s.net.stored
  (c.values.filter fun p => commKey p.1 && s.storedFits c.tag p).foldl (fun (t : State) p => { t with cfg := storePut p.1 p.2 t.cfg })
    { s with cfg := s.cfg.filter fun p => !commKey p.1 }

/-- What both resets do: transfers and waiting PDOs of the port end, the communication objects are reloaded, the consumers start afresh. -/
def State.resetCan (s : State) (p : Nat) : State :=
  let s := (((s.dropSdos p).dropRpdos p).reloadComm).consumersWritten.portFaultEnd (2 + p) 4
  s.setCan p { s.can p with consumers := [], foreign := false, lssConfig := false, fastscanSub := 0 }

/-- NMT_RESET_NODE: the node-ID and rate in force stay. -/
def execNmtResetNode (p : Nat) (s : State) : Host.Outcome State Fault Refusal :=
  .next (if s.canLive p then ((s.resetCan p).preOperational p).canHeard else s)

/-- NMT_RESET_COMMUNICATION: a new node-ID or rate takes effect, and the SDO channels of the port fall to user level (R374, R387). -/
def execNmtResetCommunication (p : Nat) (s : State) : Host.Outcome State Fault Refusal :=
  .next (if s.canLive p then
      ((forUnits [1, 2, 3, 4] (fun t v => t.dropLevel (.sdo p v)) (s.resetCan p)).canStart p).canHeard
    else s)

/-! LSS (Table 13-3, R387). The frames are those of CiA 305 (PRESUMED, log entry 83). -/

/-- COB-ID of an LSS slave's answers. -/
def lssCob : Nat := 0x7E4

/-- An LSS answer: its command specifier and what follows, in eight bytes. A stopped port sends none (R388). -/
def State.lssAnswer (s : State) (p : Nat) (data : List Byte) : State :=
  (if (s.can p).nmt = .stopped then s else s.sendCan p lssCob (padTo 8 data)).canHeard

/-- The identity: vendor, product code, revision, serial number (0x1018). -/
def State.identity (s : State) : List Nat := [1, 2, 3, 4].map fun k => leNat (s.value .own 0x1018 k)

/-- LSS_SWITCH_STATE: globally to a state, or to configuration where the identity is this one. -/
def execLssSwitchState (p : Nat) (global configuration : Bool) (ident : List Nat) (s : State) : Host.Outcome State Fault Refusal :=
  .next (if s.canLive p then
      (if global then (s.setCan p { s.can p with lssConfig := configuration }).canHeard
      else if ident = s.identity then (s.setCan p { s.can p with lssConfig := true }).lssAnswer p [0x44]
      else s)
    else s)

/-- LSS commands of the configuration state. -/
def State.lssReady (s : State) (p : Nat) : Bool := s.canLive p && (s.can p).lssConfig

/-- LSS_CONFIGURE_NODE_ID: 1 to 127. -/
def execLssConfigureNodeId (p node : Nat) (s : State) : Host.Outcome State Fault Refusal :=
  .next (if s.lssReady p then
      (if 1 ≤ node ∧ node ≤ 127 then (s.setCan p { s.can p with pendNode := some node }).lssAnswer p [0x11, 0] else s.lssAnswer p [0x11, 1])
    else s)

/-- The bit rates of the timing table, entries 0 to 4: 1 Mbit/s to 125 kbit/s. -/
def lssRate (entry : Nat) : Option Nat :=
  match entry with
  | 0 => some 1000000
  | 1 => some 800000
  | 2 => some 500000
  | 3 => some 250000
  | 4 => some 125000
  | _ => none

/-- LSS_CONFIGURE_BIT_TIMING. -/
def execLssConfigureBitTiming (p entry : Nat) (s : State) : Host.Outcome State Fault Refusal :=
  .next (if s.lssReady p then
      (match lssRate entry with
      | some r => (s.setCan p { s.can p with pendRate := some r }).lssAnswer p [0x13, 0]
      | none => s.lssAnswer p [0x13, 1])
    else s)

/-- LSS_STORE: the configured values are kept in place of the image's. -/
def execLssStore (p : Nat) (s : State) : Host.Outcome State Fault Refusal :=
  .next (if s.lssReady p then
      let v := s.can p
      (s.setCan p { v with storedNode := if v.pendNode.isSome then v.pendNode else v.storedNode
                           storedRate := if v.pendRate.isSome then v.pendRate else v.storedRate }).lssAnswer p [0x17, 0]
    else s)

/-- LSS_INQUIRE: 0 to 3 an identity field, 4 the node-ID. -/
def execLssInquire (p what : Nat) (s : State) : Host.Outcome State Fault Refusal :=
  .next (if s.lssReady p then
      (if what < 4 then s.lssAnswer p ([BitVec.ofNat 8 (0x5A + what)] ++ leBytes 4 (nth s.identity what 0))
      else if what = 4 then s.lssAnswer p ([0x5E] ++ leBytes 1 (s.can p).nodeId)
      else s)
    else s)

/-- LSS_FASTSCAN: bit check 0x80 starts the scan; a field that agrees down to the bit is answered, and at bit 0 the scan goes to the next field,
or ends in the configuration state. -/
def execLssFastscan (p idNumber bitCheck lssSub lssNext : Nat) (s : State) : Host.Outcome State Fault Refusal :=
  .next (if s.canLive p && !(s.can p).lssConfig then
      (if bitCheck = 0x80 then (s.setCan p { s.can p with fastscanSub := 0 }).lssAnswer p [0x4F]
      else if bitCheck < 32 ∧ lssSub < 4 ∧ lssSub = (s.can p).fastscanSub ∧ nth s.identity lssSub 0 / 2 ^ bitCheck = idNumber / 2 ^ bitCheck then
        (if bitCheck = 0 then s.setCan p { s.can p with fastscanSub := lssNext, lssConfig := decide (lssNext < lssSub ∨ lssSub = 3) } else s).lssAnswer p [0x4F]
      else s)
    else s)

/-! PDOs (R391, R392). -/

def State.tpdo (s : State) (n : Nat) : Pdo := nth s.net.tpdo n {}
def State.setTpdo (s : State) (n : Nat) (v : Pdo) : State := { s with net := { s.net with tpdo := put s.net.tpdo n v } }

/-- The dict source (Table 11-9). -/
def State.dictKey (s : State) : Key := s.key 2 0xFF 1 0

/-- A PDO's data cut into the values of its mapping, none when it is too short. -/
def cutPdo : List Nat → List Byte → Option (List Entry)
  | [], _ => some []
  | e :: l, data =>
    let n := mapBits e / 8
    if data.length < n then none
    else (cutPdo l (data.drop n)).map fun r => (mapIdx e, mapSub e, data.take n) :: r

/-- The values of an RPDO, with every index taken to its target. -/
def State.rpdoEntries (s : State) (n : Nat) (data : List Byte) : Option (List Entry) :=
  (cutPdo (s.mapping (0x1600 + n)) data).map fun l => l.map fun e => (s.target e.1, e.2.1, e.2.2)

/-- An RPDO that fails its check: counted at its port, and the dict source raised with the PDO's number. -/
def State.refuseRpdo (s : State) (n p : Nat) : State :=
  (s.setCan p { s.can p with rpdoRefused := (s.can p).rpdoRefused + 1 }).raiseWith s.dictKey 1 (leBytes 1 (n + 1)) false

/-- The RPDO maps a pair-common object (R391). -/
def State.rpdoCommon (s : State) (n : Nat) : Bool := (s.mapping (0x1600 + n)).any fun e => isCommon (s.target (mapIdx e)) (mapSub e)

/-- An RPDO takes effect whole, is ignored and counted as another's, or is refused (R391). The dict source clears when an RPDO next passes. -/
def State.applyRpdo (s : State) (n p : Nat) (data : List Byte) : State :=
  if s.rpdoCommon n && !s.mayWriteCommon then s.setCan p { s.can p with rpdoNotOwner := (s.can p).rpdoNotOwner + 1 }
  else match s.rpdoEntries n data with
  | none => s.refuseRpdo n p
  | some l => if (s.firstRefusal .own l).isSome then s.refuseRpdo n p else (s.applyAll .own l).clearing s.dictKey

/-- The RPDOs that wait take effect, in the order of their reception (R391). -/
def State.takeRpdos (s : State) : State :=
  s.net.rpdoQueue.foldl (fun (t : State) w => t.applyRpdo w.1 w.2.1 w.2.2) { s with net := { s.net with rpdoQueue := [] } }

/-- RPDO_RECEIVED: in operational state, of a PDO whose COB-ID is valid; types 254 and 255 act at once, each of 0 to 240 at the next SYNC. -/
def execRpdoReceived (p n : Nat) (data : List Byte) (s : State) : Host.Outcome State Fault Refusal :=
  .next (if s.canLive p && (s.can p).nmt == .operational && decide (n < 32) && !bit (s.objN (0x1400 + n) 1) 31 then
      let s := s.canHeard
      if s.objN (0x1400 + n) 2 ≤ 240 then { s with net := { s.net with rpdoQueue := s.net.rpdoQueue ++ [(n, p, data)] } }
      else s.applyRpdo n p data
    else s)

/-- The data of a TPDO: its mapped objects one after another. -/
def State.tpdoData (s : State) (n : Nat) : List Byte :=
  ((s.mapping (0x1A00 + n)).map fun e => padTo (mapBits e / 8) (s.value .own (s.target (mapIdx e)) (mapSub e))).flatten

/-- The ports that carry PDOs. -/
def State.pdoPorts (s : State) : List Nat := [0, 1].filter fun p => s.canLive p && (s.can p).nmt == .operational

/-- A TPDO can be sent: its COB-ID is valid and some port is operational. -/
def State.tpdoLive (s : State) (n : Nat) : Bool := decide (n < 32) && !bit (s.objN (0x1800 + n) 1) 31 && !s.pdoPorts.isEmpty

/-- A TPDO sent on every port in operational state. -/
def State.sendTpdo (s : State) (n : Nat) : State :=
  let d := s.tpdoData n
  let c := s.objN (0x1800 + n) 1 % 0x800
  (forUnits s.pdoPorts (fun t p => t.sendCan p c d) s).setTpdo n { s.tpdo n with sentAt := some s.now, changed := false, syncs := 0 }

def State.tpdoType (s : State) (n : Nat) : Nat := s.objN (0x1800 + n) 2

/-- The inhibit time, in 100 µs, has passed since the last sending. -/
def State.inhibitOver (s : State) (n : Nat) : Bool :=
  match (s.tpdo n).sentAt with
  | none => true
  | some t => s.elapsed t ((s.objN (0x1800 + n) 3 : Rat) / 10000)

/-- An event of a TPDO: an event type goes at once or after its inhibit time, type 0 at the next SYNC. -/
def State.tpdoChanged (s : State) (n : Nat) : State :=
  if !s.tpdoLive n then s
  else if 254 ≤ s.tpdoType n then (if s.inhibitOver n then s.sendTpdo n else s.setTpdo n { s.tpdo n with changed := true })
  else if s.tpdoType n = 0 then s.setTpdo n { s.tpdo n with changed := true }
  else s

/-- TPDO_EVENT: a mapped object changes. -/
def execTpdoEvent (n : Nat) (s : State) : Host.Outcome State Fault Refusal := .next (s.tpdoChanged n)

/-- TPDO_EVENT_TIMER: the event timer, in ms, has passed since the last sending. -/
def execTpdoEventTimer (n : Nat) (s : State) : Host.Outcome State Fault Refusal :=
  let T := s.objN (0x1800 + n) 5
  let due := match (s.tpdo n).sentAt with | none => true | some t => s.elapsed t ((T : Rat) / 1000)
  .next (if s.tpdoLive n && decide (254 ≤ s.tpdoType n) && T != 0 && due then s.sendTpdo n else s)

/-- TPDO_INHIBIT_EXPIRED: a change that came during the inhibit time is sent. -/
def execTpdoInhibitExpired (n : Nat) (s : State) : Host.Outcome State Fault Refusal :=
  .next (if s.tpdoLive n && decide (254 ≤ s.tpdoType n) && (s.tpdo n).changed && s.inhibitOver n then s.sendTpdo n else s)

/-- The TPDOs that map an object. -/
def State.tpdosOf (s : State) (idx sub : Nat) : List Nat :=
  (List.range 32).filter fun n => (s.mapping (0x1A00 + n)).any fun e => s.target (mapIdx e) == idx && mapSub e == sub

/-- PG_UPDATE (R175): an update instant; a move that completes triggers the TPDOs that map 0x3B0n:0C (R181). The holder tells its twin (R182). -/
def execPgUpdate (n : Nat) (s : State) : Host.Outcome State Fault Refusal :=
  .next (if s.pgDue n then
      let t := (s.stepPg n).tell (.pg n ((s.stepPg n).pg n))
      if (t.pg n).completed = (s.pg n).completed then t else forUnits (t.tpdosOf (0x3B00 + n) 0x0C) (fun u i => u.tpdoChanged i) t
    else s)

/-! SYNC and TIME (R389, R390). -/

/-- What a SYNC starts: the waiting RPDOs in the order of their reception, then the TPDOs of synchronous types. -/
def State.atSync (s : State) : State :=
  let s := s.takeRpdos
  (List.range 32).foldl (fun (t : State) n =>
    let k := t.tpdoType n
    if !t.tpdoLive n || decide (240 < k) then t
    else if k = 0 then (if (t.tpdo n).changed then t.sendTpdo n else t)
    else if k ≤ (t.tpdo n).syncs + 1 then t.sendTpdo n
    else t.setTpdo n { t.tpdo n with syncs := (t.tpdo n).syncs + 1 }) s

/-- The producer is on: the holder, with a period, and 0x1005 bit 30 set. -/
def State.syncOn (s : State) : Bool := s.pair.owns && s.objN 0x1006 0 != 0 && bit (s.objN 0x1005 0) 30

/-- Ports in pre-operational or operational state. -/
def State.syncPorts (s : State) : List Nat := [0, 1].filter fun p => s.canLive p && ((s.can p).nmt == .preOperational || (s.can p).nmt == .operational)

/-- The number of whole SYNC periods since the epoch, and the ticks past the last. -/
def State.syncIndex (s : State) : Nat := s.taiNow / (s.objN 0x1006 0 * ticksPerUs)
def State.syncPhase (s : State) : Nat := s.taiNow % (s.objN 0x1006 0 * ticksPerUs)

/-- The next SYNC counter, 1 to the limit of 0x1019; no counter for 0. -/
def State.nextSync (s : State) : Nat := if s.objN 0x1019 0 = 0 then 0 else s.net.time.syncCounter % s.objN 0x1019 0 + 1

/-- SYNC_PRODUCE: at a period's instant, within the 2 µs of R389, once. A port's SYNC fault ends when no other node has sent SYNC since. -/
def execSyncProduce (s : State) : Host.Outcome State Fault Refusal :=
  .next (if s.syncOn && !s.syncPorts.isEmpty && s.net.time.syncK != some s.syncIndex && decide (s.syncPhase < 2 * ticksPerUs) then
      let c := s.nextSync
      let d := if c = 0 then [] else leBytes 1 c
      let s := s.setTime { s.net.time with syncK := some s.syncIndex, syncCounter := c }
      let s := forUnits s.syncPorts (fun t p =>
        let t := t.sendCan p (t.objN 0x1005 0 % 0x800) d
        if (t.can p).foreign then t.setCan p { t.can p with foreign := false } else t.portFaultEnd (2 + p) 3) s
      s.atSync
    else s)

/-- SYNC_RECEIVED: the synchronous PDOs (R391); while this node produces SYNC, the port's fault with detail 3 as well. -/
def execSyncReceived (p : Nat) (s : State) : Host.Outcome State Fault Refusal :=
  .next (if s.syncPorts.contains p then
      (if s.syncOn then (s.setCan p { s.can p with foreign := true }).portFault (2 + p) 3 [] else s).atSync
    else s)

/-- TIME_OF_DAY of a TAI second: milliseconds after midnight and days since 1 January 1984, in UTC (R390). -/
def State.timeOfDay (s : State) (sec : Nat) : List Byte :=
  let utc := ((sec : Int) - s.objI 0x2310 4).toNat
  leBytes 4 (utc % 86400 * 1000) ++ leBytes 2 (utc / 86400 - 5113)

/-- TIME_PRODUCE: 500 ms past a PTP second, once, while the time is set. -/
def execTimeProduce (s : State) : Host.Outcome State Fault Refusal :=
  let sec := s.taiNow / ticksPerS
  let past := s.taiNow % ticksPerS
  .next (if s.pair.owns && bit (s.objN 0x1012 0) 30 && s.net.time.state != 0 && !s.syncPorts.isEmpty && s.net.time.timeSent != sec
        && decide (500 * ticksPerMs ≤ past) && decide (past < 500 * ticksPerMs + 2 * ticksPerUs) then
      forUnits s.syncPorts (fun t p => t.sendCan p (t.objN 0x1012 0 % 0x800) (s.timeOfDay sec)) (s.setTime { s.net.time with timeSent := sec })
    else s)

/-! Heartbeats (Table 13-3, R399). -/

/-- The state byte of a heartbeat (CiA 301). -/
def Nmt.byte : Nmt → Nat
  | .operational => 5
  | .stopped => 4
  | .preOperational => 127
  | .off => 0

/-- CAN_HEARTBEAT_PRODUCE: every 0x1017 ms, 0 for none. -/
def execCanHeartbeatProduce (p : Nat) (s : State) : Host.Outcome State Fault Refusal :=
  let T := s.objN 0x1017 0
  .next (if s.canLive p && T != 0 && s.elapsed (s.can p).hbAt ((T : Rat) / 1000) then
      let v := s.can p
      (s.setCan p { v with hbAt := s.now }).sendCan p (0x700 + v.nodeId) (leBytes 1 v.nmt.byte)
    else s)

/-- CAN_HEARTBEAT_RECEIVED: the node's timer starts again, on the port that heard it last. -/
def execCanHeartbeatReceived (p node : Nat) (s : State) : Host.Outcome State Fault Refusal :=
  .next (if s.canHears p && s.consumerTime node != 0 then
      let s := (s.unwatch 0 node).unwatch 1 node
      s.setCan p { s.can p with consumers := (s.can p).consumers ++ [(node, s.now, false)] }
    else s)

/-- CAN_HEARTBEAT_CONSUMER_TIMEOUT: the port fault with detail 4 and the node-ID. -/
def execCanHeartbeatConsumerTimeout (p node : Nat) (s : State) : Host.Outcome State Fault Refusal :=
  let T := s.consumerTime node
  let late := (s.can p).consumers.any fun c => c.1 == node && !c.2.2 && s.elapsed c.2.1 ((T : Rat) / 1000)
  .next (if s.canRuns p && !s.isShed 7 0xFF (2 + p) && T != 0 && late then
      (s.setCan p { s.can p with consumers := (s.can p).consumers.map fun c => if c.1 = node then (c.1, c.2.1, true) else c }).portFault (2 + p) 4 (leBytes 1 node)
    else s)

/-! Bus-off (R399). -/

/-- A CAN port drives its bus: its node runs, or the ROM serves Nireo over it in PILOT (R388). -/
def State.canDrives (s : State) (p : Nat) : Bool :=
  s.part.has .can p && ((s.can p).nmt != .off || s.inMode .pilot) && s.dictUp && !(s.can p).busOff && !s.isShed 7 0xFF (2 + p)

/-- CAN_BUS_OFF: sessions and transfers of the port end; the transmit error counter has passed 255. -/
def execCanBusOff (p : Nat) (s : State) : Host.Outcome State Fault Refusal :=
  .next (if s.canDrives p then
      let v := s.can p
      (((s.setCan p { v with busOff := true, busOffs := v.busOffs + 1, txErr := 255, fd := [] }).dropSdos p).closePort (3 + p)).portFault (2 + p) 2 []
    else s)

/-- CAN_BUS_OFF_RECOVERY: after 128 occurrences of 11 recessive bits. -/
def execCanBusOffRecovery (p : Nat) (s : State) : Host.Outcome State Fault Refusal :=
  .next (if (s.can p).busOff then (s.setCan p { s.can p with busOff := false, txErr := 0 }).portFaultEnd (2 + p) 2 else s)

end Sys2Proof.Machine
end

