-- ==== Sys2Proof/Machine/NetTime.lean ====
section
/-! DEFINITION. Ethernet ports, PTP, the PPS output and the time state (R398 to R403). -/
namespace Sys2Proof.Machine

/-! Ethernet ports (R398, R399). -/

/-- An Ethernet port carries frames: present, enabled, link up, not shed (R28), and NET runs. -/
def State.ethLive (s : State) (p : Nat) : Bool :=
  s.part.has .eth p && (s.eth p).enabled && (s.eth p).linkUp && s.regionOn .net && s.supply.phase == .running && !s.isShed 7 0xFF p

/-- An IPv4 link-local address (RFC 3927): 169.254.1.0 to 169.254.254.255. -/
def linkLocal (d : Nat) : Nat := 0xA9FE0100 + d % 65024

/-- The port's address in PILOT (R398): link-local, the first choice from its MAC address that the probe finds free, and announced. How the choices
follow from the address is not stated, nor how many are taken by others: both are free (log entry 89). -/
def State.takeLinkLocal (s : State) (p : Nat) : State :=
  let d := s.draw
  let addr := linkLocal (Config.linkLocalChoice (s.objN (0x4A00 + p) 3) d.1.floor.natAbs)
  d.2.setEth p { s.eth p with enabled := true, linkLocal := true, addr := addr, mask := 0xFFFF0000, gateway := 0, lastReply := 3 }

/-- ETH_LINK_UP: the speed is 10, 100 or 1000. -/
def execEthLinkUp (p speed : Nat) (s : State) : Host.Outcome State Fault Refusal :=
  .next (if s.part.has .eth p && s.regionOn .net && s.supply.phase == .running && (speed == 10 || speed == 100 || speed == 1000) then
      let s := s.setEth p { s.eth p with linkUp := true, speed := speed }
      let s := s.portFaultEnd p 1
      if s.inMode .pilot && !(s.eth p).linkLocal then s.takeLinkLocal p else s
    else s)

/-- ETH_LINK_DOWN: for 1 s while the port is enabled; its sessions close (R394). -/
def execEthLinkDown (p : Nat) (s : State) : Host.Outcome State Fault Refusal :=
  .next (if s.part.has .eth p && (s.eth p).enabled && s.regionOn .net && s.supply.phase == .running then
      ((s.setEth p { s.eth p with linkUp := false, speed := 0 }).closePort p).portFault p 1 []
    else s)

/-- ETH_FRAME_DROPPED. -/
def execEthFrameDropped (p : Nat) (s : State) : Host.Outcome State Fault Refusal :=
  .next (if s.ethLive p then s.setEth p { s.eth p with dropped := (s.eth p).dropped + 1 } else s)

/-- A frame for an address, answered when that is the port's own: 1 ARP, 2 ICMP. -/
def State.ethAnswer (s : State) (p addr kind : Nat) : State :=
  if s.ethLive p then
    let t := s.ethReceived p
    if addr = (t.eth p).addr then t.setEth p { t.eth p with lastReply := kind } else t
  else s

/-- ETH_ARP_REQUEST. -/
def execEthArpRequest (p addr : Nat) (s : State) : Host.Outcome State Fault Refusal := .next (s.ethAnswer p addr 1)

/-- ICMP_ECHO_REQUEST. -/
def execIcmpEchoRequest (p addr : Nat) (s : State) : Host.Outcome State Fault Refusal := .next (s.ethAnswer p addr 2)

/-! PTP (R402). -/

/-- A port is in MASTER: the holder's, with its link up and not PASSIVE. -/
def State.ptpMaster (s : State) (p : Nat) : Bool := s.ethLive p && s.ptpState p == 1

/-- An interval given by its base 2 logarithm in s. -/
def State.logInterval (s : State) (sub : Nat) : Rat := pow2 (s.objI 0x2310 sub)

/-- The interval has passed since the last message. -/
def State.ptpDue (s : State) (last : Option Nat) (sub : Nat) : Bool :=
  match last with
  | none => true
  | some t => s.elapsed t (s.logInterval sub)

/-- PTP time in ns at the ball of a port, corrected by a latency of its PHY (0x4A0p:09 on sending, :0A on receiving, as in use). -/
def State.txStamp (s : State) (p : Nat) : Nat := (((s.taiNow : Rat) * 5 / 2) + (s.eth p).txLat * 1000000000).floor.toNat
def State.rxStamp (s : State) (p rx : Nat) : Nat := ((rx : Rat) - (s.eth p).rxLat * 1000000000).floor.toNat

/-- The clock that a port tells of: the objects of Table 13-9, the class of R401, a variance and a clock identity that the spec does not give (free, log
entry 89). -/
def State.ptpClock (s : State) (p : Nat) : Announce :=
  { domain := s.objN 0x2310 7, priority1 := s.objN 0x2310 8, cls := s.clockClass, accuracy := s.objN 0x2310 0x0E, variance := Config.ptpVariance
    priority2 := s.objN 0x2310 9, identity := Config.clockIdentity (s.objN (0x4A00 + p) 3) }

/-- What the best master clock algorithm compares, in its order (IEEE 1588). -/
def Announce.rank (a : Announce) : List Nat := [a.priority1, a.cls, a.accuracy, a.variance, a.priority2, a.identity]

/-- The first value in which two lists differ is the lower in the first. -/
def lexBelow : List Nat → List Nat → Bool
  | a :: as, b :: bs => decide (a < b) || (a == b && lexBelow as bs)
  | _, _ => false

/-- An Announce of the port's domain ranks above the port's own clock (R402). -/
def State.outranked (s : State) (p : Nat) (a : Announce) : Bool := a.domain == (s.ptpClock p).domain && lexBelow a.rank (s.ptpClock p).rank

/-- PTP_SYNC_SEND: two-step Sync (type 0, an event message, whose own time is 0), then Follow_Up (type 8) with the time at which Sync left. DESIGN CHOICE (log
entry 172): the time that a two-step Sync itself carries. -/
def execPtpSyncSend (p : Nat) (s : State) : Host.Outcome State Fault Refusal :=
  .next (if s.ptpMaster p && s.ptpDue (s.eth p).syncAt 0x0A then
      s.setEth p { s.eth p with syncAt := some s.now, syncSeq := ((s.eth p).syncSeq + 1) % 65536
                                lastSync := some { kind := 0, seq := (s.eth p).syncSeq, clock := s.ptpClock p, port := 319 }
                                lastPtp := { kind := 8, seq := (s.eth p).syncSeq, time := s.txStamp p, clock := s.ptpClock p } }
    else s)

/-- PTP_ANNOUNCE_SEND: Announce (type 11). -/
def execPtpAnnounceSend (p : Nat) (s : State) : Host.Outcome State Fault Refusal :=
  .next (if s.ptpMaster p && s.ptpDue (s.eth p).annAt 0x0B then
      s.setEth p { s.eth p with annAt := some s.now, annSeq := ((s.eth p).annSeq + 1) % 65536
                                lastPtp := { kind := 11, seq := (s.eth p).annSeq, time := s.txStamp p, clock := s.ptpClock p } }
    else s)

/-- PTP_DELAY_REQ_RECEIVED: Delay_Resp (type 9) with the request's sequence number, the port that asks and the time at which the request came. -/
def execPtpDelayReqReceived (p : Nat) (req : DelayReq) (s : State) : Host.Outcome State Fault Refusal :=
  .next (if s.ptpMaster p then
      (s.ethReceived p).setEth p { (s.ethReceived p).eth p with lastPtp := { kind := 9, seq := req.seq, time := s.rxStamp p req.rx, clock := s.ptpClock p, asked := some req.from_ } }
    else s)

/-- PTP_ANNOUNCE_RECEIVED: one that ranks above the port's own puts the port in PASSIVE, with a port fault of detail 5. -/
def execPtpAnnounceReceived (p : Nat) (a : Announce) (s : State) : Host.Outcome State Fault Refusal :=
  .next (if s.ethLive p then
      let t := s.ethReceived p
      if s.outranked p a && (s.ptpState p == 1 || s.ptpState p == 2) then (t.setEth p { t.eth p with passive := true, betterAt := s.now }).portFault p 5 [] else t
    else s)

/-- PTP_ANNOUNCE_TIMEOUT: 3 announce intervals without it. -/
def execPtpAnnounceTimeout (p : Nat) (s : State) : Host.Outcome State Fault Refusal :=
  .next (if (s.eth p).passive && s.elapsed (s.eth p).betterAt (3 * s.logInterval 0x0B) then
      (s.setEth p { s.eth p with passive := false }).portFaultEnd p 5
    else s)

/-! The time base (R400, R401, R403). -/

/-- TIME_SET_SECONDS. -/
def execTimeSetSeconds (ch : Chan) (v : Nat) (s : State) : Host.Outcome State Fault Refusal := .next (s.hostWrite ch [(0x2310, 1, leBytes 8 v)])

/-- PHASE_ADJUST. -/
def execPhaseAdjust (ch : Chan) (ns : Int) (s : State) : Host.Outcome State Fault Refusal := .next (s.hostWrite ch [(0x2310, 2, intBytes 4 ns)])

/-- TRACEABLE_WRITE. -/
def execTraceableWrite (ch : Chan) (v : Nat) (s : State) : Host.Outcome State Fault Refusal := .next (s.hostWrite ch [(0x2310, 3, leBytes 1 v)])

/-- A pending set that came at least 10 ms before this edge: the second that it names begins now (R400). -/
def State.stepTime (s : State) : State :=
  match s.net.time.pendingSet with
  | some (v, at_) =>
    if 10 * ticksPerMs ≤ s.since at_ then
      let s := s.settleTime
      let t := s.net.time
      s.setTime { t with tai := v * ticksPerS + t.tai % ticksPerS, pendingSet := none
                         state := if t.state = 0 then (if t.traceable = 1 then 1 else 3) else t.state }
    else s
  | none => s


/-- PPS_EDGE: the start of a PTP second, within the 5 ns of R403. -/
def execPpsEdge (s : State) : Host.Outcome State Fault Refusal :=
  .next (if s.pwmPowered && s.net.time.ppsSec != some (s.taiNow / ticksPerS) && decide (s.taiNow % ticksPerS ≤ 2) then
      let s := s.stepTime
      s.setTime { s.net.time with ppsSec := some (s.taiNow / ticksPerS), ppsAt := s.now, pps := s.net.time.pps + 1 }
    else s)

/-- The level of `PPS_OUT`: high for `PpsWidth` ms from its edge (R403). -/
def State.ppsHigh (s : State) : Bool :=
  s.pwmPowered && s.net.time.ppsSec.isSome && decide (s.now < s.net.time.ppsAt + s.objN 0x2310 0x0F * ticksPerMs)

/-- TRACEABLE_TIMEOUT: 3,600 s without a write of `Traceable` 1. -/
def execTraceableTimeout (s : State) : Host.Outcome State Fault Refusal :=
  .next (if s.net.time.state = 1 ∧ s.elapsed s.net.time.traceAt 3600 then s.leaveTraceable else s)

/-- HOLDOVER_END: `HoldoverLimit` has passed. -/
def execHoldoverEnd (s : State) : Host.Outcome State Fault Refusal :=
  .next (if s.net.time.state = 2 ∧ s.elapsed s.net.time.holdoverAt (s.objN 0x2310 6) then s.setTime { s.net.time with state := 3 } else s)

end Sys2Proof.Machine
end

