-- ==== Sys2Proof/Machine/Dispatch.lean ====
section
/-! DEFINITION. One arm for each command: its meaning, or a refusal by name. -/
namespace Sys2Proof.Machine

def exec (i : Instr) (s : State) : Host.Outcome State Fault Refusal :=
  match i with
  | .porRelease sideB legacy wakeLow train => Sys2Proof.Machine.execPorRelease sideB legacy wakeLow train s
  | .dictionaryOnline found => Sys2Proof.Machine.execDictionaryOnline found s
  | .snsEngRelease => Sys2Proof.Machine.execSnsEngRelease s
  | .prechargeEnd pair => Sys2Proof.Machine.execPrechargeEnd pair s
  | .auxContactConfirm str => Sys2Proof.Machine.execAuxContactConfirm str s
  | .enterActive => Sys2Proof.Machine.execEnterActive s
  | .noSourceDeclared => Sys2Proof.Machine.execNoSourceDeclared s
  | .modeRequestRise ch => Sys2Proof.Machine.execModeRequestRise ch s
  | .modeRequestService ch => Sys2Proof.Machine.execModeRequestService ch s
  | .modeRequestActive ch => Sys2Proof.Machine.execModeRequestActive ch s
  | .modeRequestDescent ch => Sys2Proof.Machine.execModeRequestDescent ch s
  | .modeRequestMoored ch => Sys2Proof.Machine.execModeRequestMoored ch s
  | .modeRequestLayup ch => Sys2Proof.Machine.execModeRequestLayup ch s
  | .modeRequestLeaveService ch code train => Sys2Proof.Machine.execModeRequestLeaveService ch code train s
  | .tripReaction => Sys2Proof.Machine.execTripReaction s
  | .descentProgramsStart => Sys2Proof.Machine.execDescentProgramsStart s
  | .descentComplete train => Sys2Proof.Machine.execDescentComplete train s
  | .restartHoldoffEnd => Sys2Proof.Machine.execRestartHoldoffEnd s
  | .powerFailWarning pfw vao => Sys2Proof.Machine.execPowerFailWarning pfw vao s
  | .rstNAsserted => Sys2Proof.Machine.execRstNAsserted s
  | .rstNReleased train => Sys2Proof.Machine.execRstNReleased train s
  | .supplyDipRestart train => Sys2Proof.Machine.execSupplyDipRestart train s
  | .counterBlockPeriodicCommit => Sys2Proof.Machine.execCounterBlockPeriodicCommit s
  | .wakeNWake => Sys2Proof.Machine.execWakeNWake s
  | .srcdetWake d => Sys2Proof.Machine.execSrcdetWake d s
  | .twAddressMatchWake port addr => Sys2Proof.Machine.execTwAddressMatchWake port addr s
  | .canWake port => Sys2Proof.Machine.execCanWake port s
  | .mooredAdcScan volts codes => Sys2Proof.Machine.execMooredAdcScan volts codes s
  | .ownNReleaseWake => Sys2Proof.Machine.execOwnNReleaseWake s
  | .aoWakeTimerExpired => Sys2Proof.Machine.execAoWakeTimerExpired s
  | .twMatchStretchTimeout port => Sys2Proof.Machine.execTwMatchStretchTimeout port s
  | .canRetentionTimeout => Sys2Proof.Machine.execCanRetentionTimeout s
  | .groupEnableWrite ch g v => Sys2Proof.Machine.execGroupEnableWrite ch g v s
  | .stuckRunDetected md => Sys2Proof.Machine.execStuckRunDetected md s
  | .stuckClearCount md => Sys2Proof.Machine.execStuckClearCount md s
  | .loopSampleAvailable md bits violations => Sys2Proof.Machine.execLoopSampleAvailable md bits violations s
  | .mclkReadbackFault g => Sys2Proof.Machine.execMclkReadbackFault g s
  | .fastComparatorDecision md b => Sys2Proof.Machine.execFastComparatorDecision md b s
  | .calCommand ch md v => Sys2Proof.Machine.execCalCommand ch md v s
  | .calComplete md => Sys2Proof.Machine.execCalComplete md s
  | .seqLengthWrite ch n => Sys2Proof.Machine.execSeqLengthWrite ch n s
  | .adcLapStart => Sys2Proof.Machine.execAdcLapStart s
  | .adcEntryComplete volts up down => Sys2Proof.Machine.execAdcEntryComplete volts up down s
  | .adcLapEnd refVolts => Sys2Proof.Machine.execAdcLapEnd refVolts s
  | .tempSlot codes => Sys2Proof.Machine.execTempSlot codes s
  | .instanceRelease lp errs => Sys2Proof.Machine.execInstanceRelease lp errs s
  | .instanceRunEnd lp errs => Sys2Proof.Machine.execInstanceRunEnd lp errs s
  | .instanceCommit lp => Sys2Proof.Machine.execInstanceCommit lp s
  | .depWaitEnd lp => Sys2Proof.Machine.execDepWaitEnd lp s
  | .carrierBoundary st => Sys2Proof.Machine.execCarrierBoundary st s
  | .tideFrameBoundary => Sys2Proof.Machine.execTideFrameBoundary s
  | .idleBanksLoaded => Sys2Proof.Machine.execIdleBanksLoaded s
  | .loadPoint ph => Sys2Proof.Machine.execLoadPoint ph s
  | .stageStart ch st => Sys2Proof.Machine.execStageStart ch st s
  | .softStartEnd st => Sys2Proof.Machine.execSoftStartEnd st s
  | .stageStop ch st => Sys2Proof.Machine.execStageStop ch st s
  | .delayLineCalibration bad => Sys2Proof.Machine.execDelayLineCalibration bad s
  | .phaseDrop ch ph => Sys2Proof.Machine.execPhaseDrop ch ph s
  | .phaseReturn ch ph => Sys2Proof.Machine.execPhaseReturn ch ph s
  | .breakwaterTruncation st b => Sys2Proof.Machine.execBreakwaterTruncation st b s
  | .fenderTruncation ph => Sys2Proof.Machine.execFenderTruncation ph s
  | .estopAsserted => Sys2Proof.Machine.execEstopAsserted s
  | .tripReadbackFault => Sys2Proof.Machine.execTripReadbackFault s
  | .driveReadbackFault ph => Sys2Proof.Machine.execDriveReadbackFault ph s
  | .holdWatchExpired st => Sys2Proof.Machine.execHoldWatchExpired st s
  | .holdLimitExpired st => Sys2Proof.Machine.execHoldLimitExpired st s
  | .pgTargetWrite ch n v => Sys2Proof.Machine.execPgTargetWrite ch n v s
  | .pgUpdate n => Sys2Proof.Machine.execPgUpdate n s
  | .rcUpdate n => Sys2Proof.Machine.execRcUpdate n s
  | .rcPhaseWrap n => Sys2Proof.Machine.execRcPhaseWrap n s
  | .rcRefTimeout n => Sys2Proof.Machine.execRcRefTimeout n s
  | .rcUnlockTimeout n => Sys2Proof.Machine.execRcUnlockTimeout n s
  | .rcReset ch n v => Sys2Proof.Machine.execRcReset ch n v s
  | .observerRun st => Sys2Proof.Machine.execObserverRun st s
  | .substitutionExpired ph => Sys2Proof.Machine.execSubstitutionExpired ph s
  | .spmUpdate => Sys2Proof.Machine.execSpmUpdate s
  | .spmRecompute => Sys2Proof.Machine.execSpmRecompute s
  | .droopTrimUpdate => Sys2Proof.Machine.execDroopTrimUpdate s
  | .phaseShareTrimWrite ch ph v => Sys2Proof.Machine.execPhaseShareTrimWrite ch ph v s
  | .inputLoss => Sys2Proof.Machine.execInputLoss s
  | .handoverEnd => Sys2Proof.Machine.execHandoverEnd s
  | .sourceQualified src => Sys2Proof.Machine.execSourceQualified src s
  | .handbackCommand ch v => Sys2Proof.Machine.execHandbackCommand ch v s
  | .handbackStart => Sys2Proof.Machine.execHandbackStart s
  | .handbackRampEnd => Sys2Proof.Machine.execHandbackRampEnd s
  | .feedGateOn f => Sys2Proof.Machine.execFeedGateOn f s
  | .feedReverseOff f => Sys2Proof.Machine.execFeedReverseOff f s
  | .feedLost f => Sys2Proof.Machine.execFeedLost f s
  | .feedEnableOn ch f => Sys2Proof.Machine.execFeedEnableOn ch f s
  | .feedEnableOff ch f => Sys2Proof.Machine.execFeedEnableOff ch f s
  | .inrushChop f => Sys2Proof.Machine.execInrushChop f s
  | .inrushOffExpired f => Sys2Proof.Machine.execInrushOffExpired f s
  | .inrushTimeout f => Sys2Proof.Machine.execInrushTimeout f s
  | .gateConfirmExpired f => Sys2Proof.Machine.execGateConfirmExpired f s
  | .gateConfirmTimeout f => Sys2Proof.Machine.execGateConfirmTimeout f s
  | .gateStuckOn f => Sys2Proof.Machine.execGateStuckOn f s
  | .gateFeedbackLost f => Sys2Proof.Machine.execGateFeedbackLost f s
  | .feedShort f => Sys2Proof.Machine.execFeedShort f s
  | .feedRetry f => Sys2Proof.Machine.execFeedRetry f s
  | .feedRetryReset f => Sys2Proof.Machine.execFeedRetryReset f s
  | .meterTimeout f => Sys2Proof.Machine.execMeterTimeout f s
  | .estimatorStep str => Sys2Proof.Machine.execEstimatorStep str s
  | .unanchoredTimeout str => Sys2Proof.Machine.execUnanchoredTimeout str s
  | .probeStart str => Sys2Proof.Machine.execProbeStart str s
  | .probeShiftEnd => Sys2Proof.Machine.execProbeShiftEnd s
  | .slackRequest ch str => Sys2Proof.Machine.execSlackRequest ch str s
  | .slackAutoRequest str => Sys2Proof.Machine.execSlackAutoRequest str s
  | .slackAbort ch str => Sys2Proof.Machine.execSlackAbort ch str s
  | .slackRampDownEnd str => Sys2Proof.Machine.execSlackRampDownEnd str s
  | .slackRestPoint str => Sys2Proof.Machine.execSlackRestPoint str s
  | .slackComplete str => Sys2Proof.Machine.execSlackComplete str s
  | .slackConditionAbort str => Sys2Proof.Machine.execSlackConditionAbort str s
  | .slackRefusalTimeout str => Sys2Proof.Machine.execSlackRefusalTimeout str s
  | .stringReplaced ch str v => Sys2Proof.Machine.execStringReplaced ch str v s
  | .estimatorCommit => Sys2Proof.Machine.execEstimatorCommit s
  | .stringInputTimeout str which => Sys2Proof.Machine.execStringInputTimeout str which s
  | .auxContactMismatch str => Sys2Proof.Machine.execAuxContactMismatch str s
  | .stringShedOpen str => Sys2Proof.Machine.execStringShedOpen str s
  | .chargeCommandStart ch str => Sys2Proof.Machine.execChargeCommandStart ch str s
  | .chargeCommandStop ch str => Sys2Proof.Machine.execChargeCommandStop ch str s
  | .pulseEnd str => Sys2Proof.Machine.execPulseEnd str s
  | .restEnd str => Sys2Proof.Machine.execRestEnd str s
  | .chargeTimerExpired str => Sys2Proof.Machine.execChargeTimerExpired str s
  | .chargePauseTimeout str => Sys2Proof.Machine.execChargePauseTimeout str s
  | .eqRequest ch str => Sys2Proof.Machine.execEqRequest ch str s
  | .eqAbort ch str => Sys2Proof.Machine.execEqAbort ch str s
  | .finalRestSkip str => Sys2Proof.Machine.execFinalRestSkip str s
  | .bsInWindow => Sys2Proof.Machine.execBsInWindow s
  | .bsSettleExpired => Sys2Proof.Machine.execBsSettleExpired s
  | .bsTimeout => Sys2Proof.Machine.execBsTimeout s
  | .layupEntry underLoad auxOpen => Sys2Proof.Machine.execLayupEntry underLoad auxOpen s
  | .layupWake src train => Sys2Proof.Machine.execLayupWake src train s
  | .seqEnd g pins => Sys2Proof.Machine.execSeqEnd g pins s
  | .seqOn g pins => Sys2Proof.Machine.execSeqOn g pins s
  | .seqOff g pins => Sys2Proof.Machine.execSeqOff g pins s
  | .seqWaitgood g pins => Sys2Proof.Machine.execSeqWaitgood g pins s
  | .seqWaitlow g pins => Sys2Proof.Machine.execSeqWaitlow g pins s
  | .seqDelay g pins => Sys2Proof.Machine.execSeqDelay g pins s
  | .seqWaitgroup g pins => Sys2Proof.Machine.execSeqWaitgroup g pins s
  | .seqMark g pins => Sys2Proof.Machine.execSeqMark g pins s
  | .stageRailStart r => Sys2Proof.Machine.execStageRailStart r s
  | .railRunFault r detail => Sys2Proof.Machine.execRailRunFault r detail s
  | .mooredRailFault r detail => Sys2Proof.Machine.execMooredRailFault r detail s
  | .railDescentFault r detail => Sys2Proof.Machine.execRailDescentFault r detail s
  | .railDescentOvervoltage r => Sys2Proof.Machine.execRailDescentOvervoltage r s
  | .groupRise ch g => Sys2Proof.Machine.execGroupRise ch g s
  | .groupAbortRise ch g => Sys2Proof.Machine.execGroupAbortRise ch g s
  | .groupLower ch g => Sys2Proof.Machine.execGroupLower ch g s
  | .railMarginHigh ch r => Sys2Proof.Machine.execRailMarginHigh ch r s
  | .railMarginLow ch r => Sys2Proof.Machine.execRailMarginLow ch r s
  | .railMarginOff ch r => Sys2Proof.Machine.execRailMarginOff ch r s
  | .thermalDerateUpdate => Sys2Proof.Machine.execThermalDerateUpdate s
  | .pdmReading ps => Sys2Proof.Machine.execPdmReading ps s
  | .vidUpdate => Sys2Proof.Machine.execVidUpdate s
  | .ageReset ch v => Sys2Proof.Machine.execAgeReset ch v s
  | .ronUpdate => Sys2Proof.Machine.execRonUpdate s
  | .replan => Sys2Proof.Machine.execReplan s
  | .bankCapEstimate st charge dv => Sys2Proof.Machine.execBankCapEstimate st charge dv s
  | .ageingCommit => Sys2Proof.Machine.execAgeingCommit s
  | .faultClearWindowEnd id kind => Sys2Proof.Machine.execFaultClearWindowEnd id kind s
  | .sevWrite ch region record => Sys2Proof.Machine.execSevWrite ch region record s
  | .sevQueryWrite ch region record => Sys2Proof.Machine.execSevQueryWrite ch region record s
  | .irqPendingClear ch region mask => Sys2Proof.Machine.execIrqPendingClear ch region mask s
  | .lockoutEntry => Sys2Proof.Machine.execLockoutEntry s
  | .lockstepMismatch => Sys2Proof.Machine.execLockstepMismatch s
  | .d2dTransferFail => Sys2Proof.Machine.execD2dTransferFail s
  | .heartbeatSend => Sys2Proof.Machine.execHeartbeatSend s
  | .heartbeatReceived hb err ok0 ok1 => Sys2Proof.Machine.execHeartbeatReceived hb err ok0 ok1 s
  | .heartbeatMiss => Sys2Proof.Machine.execHeartbeatMiss s
  | .twinAbsentTimeout => Sys2Proof.Machine.execTwinAbsentTimeout s
  | .electionFrameReceived frame => Sys2Proof.Machine.execElectionFrameReceived frame s
  | .electionFrameSend => Sys2Proof.Machine.execElectionFrameSend s
  | .electionTimeout => Sys2Proof.Machine.execElectionTimeout s
  | .trackingMessageReceived hd crcOk m => Sys2Proof.Machine.execTrackingMessageReceived hd crcOk m s
  | .alignmentSend => Sys2Proof.Machine.execAlignmentSend s
  | .alignmentReceived hd crcOk k items => Sys2Proof.Machine.execAlignmentReceived hd crcOk k items s
  | .mirrorWriteReceived hd crcOk k idx sub data => Sys2Proof.Machine.execMirrorWriteReceived hd crcOk k idx sub data s
  | .snapshotFragmentReceived hd crcOk k snap => Sys2Proof.Machine.execSnapshotFragmentReceived hd crcOk k snap s
  | .imageTransferReceived hd crcOk kind offset data => Sys2Proof.Machine.execImageTransferReceived hd crcOk kind offset data s
  | .kopolFrameRetransmit cls => Sys2Proof.Machine.execKopolFrameRetransmit cls s
  | .laneDown lane => Sys2Proof.Machine.execLaneDown lane s
  | .laneRetrain lane ok roundTrip => Sys2Proof.Machine.execLaneRetrain lane ok roundTrip s
  | .healthUpdate => Sys2Proof.Machine.execHealthUpdate s
  | .ownNReleased => Sys2Proof.Machine.execOwnNReleased s
  | .ownReadbackFault => Sys2Proof.Machine.execOwnReadbackFault s
  | .engStopSelfRelease => Sys2Proof.Machine.execEngStopSelfRelease s
  | .supStallSelfRelease => Sys2Proof.Machine.execSupStallSelfRelease s
  | .selfReleaseOutputsLow => Sys2Proof.Machine.execSelfReleaseOutputsLow s
  | .handoverRequest ch => Sys2Proof.Machine.execHandoverRequest ch s
  | .handoverCancel ch => Sys2Proof.Machine.execHandoverCancel ch s
  | .handoverRelease => Sys2Proof.Machine.execHandoverRelease s
  | .handoverTimeout => Sys2Proof.Machine.execHandoverTimeout s
  | .pairCommonWrite ch idx sub data => Sys2Proof.Machine.execPairCommonWrite ch idx sub data s
  | .objectWrite ch idx sub data => Sys2Proof.Machine.execObjectWrite ch idx sub data s
  | .sdoRequest port srv r => Sys2Proof.Machine.execSdoRequest port srv r s
  | .sdoAbortTransfer port srv => Sys2Proof.Machine.execSdoAbortTransfer port srv s
  | .sdoSegmentTimeout port srv => Sys2Proof.Machine.execSdoSegmentTimeout port srv s
  | .nireoRead rq tag idx sub ca word => Sys2Proof.Machine.execNireoRead rq tag idx sub ca word s
  | .nireoWrite rq tag idx sub ca data => Sys2Proof.Machine.execNireoWrite rq tag idx sub ca data s
  | .nireoDomainBegin rq tag idx sub size => Sys2Proof.Machine.execNireoDomainBegin rq tag idx sub size s
  | .nireoDomainSegment rq tag idx sub word data => Sys2Proof.Machine.execNireoDomainSegment rq tag idx sub word data s
  | .nireoDomainEnd rq tag idx sub crc => Sys2Proof.Machine.execNireoDomainEnd rq tag idx sub crc s
  | .nireoDomainAbort rq tag idx sub => Sys2Proof.Machine.execNireoDomainAbort rq tag idx sub s
  | .nireoOpenSession src tag => Sys2Proof.Machine.execNireoOpenSession src tag s
  | .nireoCloseSession rq tag => Sys2Proof.Machine.execNireoCloseSession rq tag s
  | .nireoBatchWrite rq tag entries => Sys2Proof.Machine.execNireoBatchWrite rq tag entries s
  | .nireoFrameDropped port => Sys2Proof.Machine.execNireoFrameDropped port s
  | .sessionIdleTimeout session => Sys2Proof.Machine.execSessionIdleTimeout session s
  | .domainWriteIdleTimeout session idx sub => Sys2Proof.Machine.execDomainWriteIdleTimeout session idx sub s
  | .hsFrameCommand frame crcOk => Sys2Proof.Machine.execHsFrameCommand frame crcOk s
  | .hsStatusCommand => Sys2Proof.Machine.execHsStatusCommand s
  | .hsResponseCommand => Sys2Proof.Machine.execHsResponseCommand s
  | .accessChallengeRead ch => Sys2Proof.Machine.execAccessChallengeRead ch s
  | .accessResponse ch level sig => Sys2Proof.Machine.execAccessResponse ch level sig s
  | .accessDrop ch v => Sys2Proof.Machine.execAccessDrop ch v s
  | .accessIdleTimeout ch => Sys2Proof.Machine.execAccessIdleTimeout ch s
  | .storeSave ch sig => Sys2Proof.Machine.execStoreSave ch sig s
  | .restoreLoad ch sig => Sys2Proof.Machine.execRestoreLoad ch sig s
  | .legacyModeWrite ch v => Sys2Proof.Machine.execLegacyModeWrite ch v s
  | .nmtStart port => Sys2Proof.Machine.execNmtStart port s
  | .nmtStop port => Sys2Proof.Machine.execNmtStop port s
  | .nmtEnterPreOperational port => Sys2Proof.Machine.execNmtEnterPreOperational port s
  | .nmtResetNode port => Sys2Proof.Machine.execNmtResetNode port s
  | .nmtResetCommunication port => Sys2Proof.Machine.execNmtResetCommunication port s
  | .lssSwitchState port global configuration ident => Sys2Proof.Machine.execLssSwitchState port global configuration ident s
  | .lssConfigureNodeId port node => Sys2Proof.Machine.execLssConfigureNodeId port node s
  | .lssConfigureBitTiming port entry => Sys2Proof.Machine.execLssConfigureBitTiming port entry s
  | .lssStore port => Sys2Proof.Machine.execLssStore port s
  | .lssInquire port what => Sys2Proof.Machine.execLssInquire port what s
  | .lssFastscan port idNumber bitCheck lssSub lssNext => Sys2Proof.Machine.execLssFastscan port idNumber bitCheck lssSub lssNext s
  | .syncProduce => Sys2Proof.Machine.execSyncProduce s
  | .syncReceived port => Sys2Proof.Machine.execSyncReceived port s
  | .timeProduce => Sys2Proof.Machine.execTimeProduce s
  | .rpdoReceived port n data => Sys2Proof.Machine.execRpdoReceived port n data s
  | .tpdoEvent n => Sys2Proof.Machine.execTpdoEvent n s
  | .tpdoEventTimer n => Sys2Proof.Machine.execTpdoEventTimer n s
  | .canHeartbeatProduce port => Sys2Proof.Machine.execCanHeartbeatProduce port s
  | .canHeartbeatConsumerTimeout port node => Sys2Proof.Machine.execCanHeartbeatConsumerTimeout port node s
  | .canBusOff port => Sys2Proof.Machine.execCanBusOff port s
  | .canBusOffRecovery port => Sys2Proof.Machine.execCanBusOffRecovery port s
  | .ethLinkDown port => Sys2Proof.Machine.execEthLinkDown port s
  | .ethArpRequest port addr => Sys2Proof.Machine.execEthArpRequest port addr s
  | .icmpEchoRequest port addr => Sys2Proof.Machine.execIcmpEchoRequest port addr s
  | .ptpSyncSend port => Sys2Proof.Machine.execPtpSyncSend port s
  | .ptpAnnounceSend port => Sys2Proof.Machine.execPtpAnnounceSend port s
  | .ptpDelayReqReceived port req => Sys2Proof.Machine.execPtpDelayReqReceived port req s
  | .ptpAnnounceReceived port clock => Sys2Proof.Machine.execPtpAnnounceReceived port clock s
  | .ptpAnnounceTimeout port => Sys2Proof.Machine.execPtpAnnounceTimeout port s
  | .timeSetSeconds ch v => Sys2Proof.Machine.execTimeSetSeconds ch v s
  | .ppsEdge => Sys2Proof.Machine.execPpsEdge s
  | .phaseAdjust ch ns => Sys2Proof.Machine.execPhaseAdjust ch ns s
  | .traceableWrite ch v => Sys2Proof.Machine.execTraceableWrite ch v s
  | .traceableTimeout => Sys2Proof.Machine.execTraceableTimeout s
  | .holdoverEnd => Sys2Proof.Machine.execHoldoverEnd s
  | .twScan port found => Sys2Proof.Machine.execTwScan port found s
  | .berthPresenceLow b => Sys2Proof.Machine.execBerthPresenceLow b s
  | .berthPresenceHigh b => Sys2Proof.Machine.execBerthPresenceHigh b s
  | .berthDisable ch b => Sys2Proof.Machine.execBerthDisable ch b s
  | .alertResponseRead port addr => Sys2Proof.Machine.execAlertResponseRead port addr s
  | .hostNotifyReceived port addr data => Sys2Proof.Machine.execHostNotifyReceived port addr data s
  | .mailboxBlockWrite port cmd data pecOk => Sys2Proof.Machine.execMailboxBlockWrite port cmd data pecOk s
  | .mailboxBlockRead port => Sys2Proof.Machine.execMailboxBlockRead port s
  | .twTransactionBoundary port => Sys2Proof.Machine.execTwTransactionBoundary port s
  | .twArbitrationLost port => Sys2Proof.Machine.execTwArbitrationLost port s
  | .twSclTimeout port => Sys2Proof.Machine.execTwSclTimeout port s
  | .twBusRecovery port ok => Sys2Proof.Machine.execTwBusRecovery port ok s
  | .pollRunDue b => Sys2Proof.Machine.execPollRunDue b s
  | .scriptEnd port => Sys2Proof.Machine.execScriptEnd port s
  | .scriptPage port ack => Sys2Proof.Machine.execScriptPage port ack s
  | .scriptRdb port ack pecOk v => Sys2Proof.Machine.execScriptRdb port ack pecOk v s
  | .scriptRdw port ack pecOk v => Sys2Proof.Machine.execScriptRdw port ack pecOk v s
  | .scriptRdk port ack pecOk data => Sys2Proof.Machine.execScriptRdk port ack pecOk data s
  | .scriptWrb port ack => Sys2Proof.Machine.execScriptWrb port ack s
  | .scriptWrw port ack => Sys2Proof.Machine.execScriptWrw port ack s
  | .scriptSnd port ack => Sys2Proof.Machine.execScriptSnd port ack s
  | .scriptCnv port => Sys2Proof.Machine.execScriptCnv port s
  | .scriptTst port => Sys2Proof.Machine.execScriptTst port s
  | .scriptRep port => Sys2Proof.Machine.execScriptRep port s
  | .scriptWait port => Sys2Proof.Machine.execScriptWait port s
  | .scriptXtr port => Sys2Proof.Machine.execScriptXtr port s
  | .partnerCommandSend port ack pecOk v => Sys2Proof.Machine.execPartnerCommandSend port ack pecOk v s
  | .hostCommand ch b w => Sys2Proof.Machine.execHostCommand ch b w s
  | .listenedTransaction port t => Sys2Proof.Machine.execListenedTransaction port t s
  | .trainCommand ch v result => Sys2Proof.Machine.execTrainCommand ch v result s
  | .dramFillComplete => Sys2Proof.Machine.execDramFillComplete s
  | .dramRead rq addr len errs => Sys2Proof.Machine.execDramRead rq addr len errs s
  | .dramWrite rq addr data errs => Sys2Proof.Machine.execDramWrite rq addr data errs s
  | .scrubBurst errs => Sys2Proof.Machine.execScrubBurst errs s
  | .scrubLapOverdue => Sys2Proof.Machine.execScrubLapOverdue s
  | .bucketLeakTick sram => Sys2Proof.Machine.execBucketLeakTick sram s
  | .eccModeChange ch v => Sys2Proof.Machine.execEccModeChange ch v s
  | .flipArm ch v => Sys2Proof.Machine.execFlipArm ch v s
  | .dramAlert rank => Sys2Proof.Machine.execDramAlert rank s
  | .sramUncorrectable region unit item => Sys2Proof.Machine.execSramUncorrectable region unit item s
  | .mramWrite w addr v fails => Sys2Proof.Machine.execMramWrite w addr v fails s
  | .mramReadUe e => Sys2Proof.Machine.execMramReadUe e s
  | .recordArrival r => Sys2Proof.Machine.execRecordArrival r s
  | .recordCommit => Sys2Proof.Machine.execRecordCommit s
  | .freezeStart ch => Sys2Proof.Machine.execFreezeStart ch s
  | .freezeAbort ch => Sys2Proof.Machine.execFreezeAbort ch s
  | .freezeRelease ch => Sys2Proof.Machine.execFreezeRelease ch s
  | .freezeLimitExpired => Sys2Proof.Machine.execFreezeLimitExpired s
  | .readFromWrite ch n => Sys2Proof.Machine.execReadFromWrite ch n s
  | .readBlock ch => Sys2Proof.Machine.execReadBlock ch s
  | .captureFrame errs => Sys2Proof.Machine.execCaptureFrame errs s
  | .captureTrigger bit key cls md at_ => Sys2Proof.Machine.execCaptureTrigger bit key cls md at_ s
  | .triggerNow ch => Sys2Proof.Machine.execTriggerNow ch s
  | .windowLastFrame w => Sys2Proof.Machine.execWindowLastFrame w s
  | .windowCommit p => Sys2Proof.Machine.execWindowCommit p s
  | .windowAbandon w => Sys2Proof.Machine.execWindowAbandon w s
  | .windowRelease ch w v => Sys2Proof.Machine.execWindowRelease ch w v s
  | .updateTransferComplete => Sys2Proof.Machine.execUpdateTransferComplete s
  | .updateChecksDone bad corrected content train => Sys2Proof.Machine.execUpdateChecksDone bad corrected content train s
  | .updateAbort ch v => Sys2Proof.Machine.execUpdateAbort ch v s
  | .hitlessStart ch => Sys2Proof.Machine.execHitlessStart ch s
  | .hitlessAbort ch => Sys2Proof.Machine.execHitlessAbort ch s
  | .hitlessCommitPoint => Sys2Proof.Machine.execHitlessCommitPoint s
  | .hitlessResume => Sys2Proof.Machine.execHitlessResume s
  | .hitlessResumeTimeout => Sys2Proof.Machine.execHitlessResumeTimeout s
  | .hitlessRevertTimeout => Sys2Proof.Machine.execHitlessRevertTimeout s
  | .pairUpdateStart ch => Sys2Proof.Machine.execPairUpdateStart ch s
  | .pairUpdateAbort ch => Sys2Proof.Machine.execPairUpdateAbort ch s
  | .pilotExit ch v train => Sys2Proof.Machine.execPilotExit ch v train s
  | .xtalFail => Sys2Proof.Machine.execXtalFail s
  | .xtalRetry runs => Sys2Proof.Machine.execXtalRetry runs s
  | .porAsserted => Sys2Proof.Machine.execPorAsserted s
  | .ethLinkUp port speed => Sys2Proof.Machine.execEthLinkUp port speed s
  | .ethFrameDropped port => Sys2Proof.Machine.execEthFrameDropped port s
  | .nireoCanFdSegment port ident seg data => Sys2Proof.Machine.execNireoCanFdSegment port ident seg data s
  | .canHeartbeatReceived port node => Sys2Proof.Machine.execCanHeartbeatReceived port node s
  | .emcyInhibitExpired port => Sys2Proof.Machine.execEmcyInhibitExpired port s
  | .tpdoInhibitExpired n => Sys2Proof.Machine.execTpdoInhibitExpired n s
  | .sramScrubRead region unit single => Sys2Proof.Machine.execSramScrubRead region unit single s
  | .mailboxBlockTaken port => Sys2Proof.Machine.execMailboxBlockTaken port s
  | .stageRailRiseTimeout r => Sys2Proof.Machine.execStageRailRiseTimeout r s
  | .supervisoryCoresResume => Sys2Proof.Machine.execSupervisoryCoresResume s

end Sys2Proof.Machine
end

