-- ==== Sys2Proof/Machine/Step.lean ====
section
/-! DEFINITION. One step: the command at the front of the queue runs; with none waiting, one PWM tick passes. -/
namespace Sys2Proof.Machine

/-- What the block does by itself as time passes, with no row of the table for it: every 1 ms the occupancy of the engines is taken (Table 04-13)
and the last-breath shadow refreshed (R473), an engine that a stop has left idle starts its next candidate (R125), `ESTOP_N` and the readback of
`TRIP_N` are looked at (R168, R173), the shelf is found all joined (R54), a rail fault of MOORED is raised once SUP runs (R297),
and dropped records raise their source (R459). -/
def State.background (s : State) : State :=
  if s.supply.phase != .running then s
  else
    let s := s.occupancyTick.dispatchAll
    if s.coresHalted then s
    else
      let s := if s.now % ticksPerMs = 0 then s.refreshShadow else s
      s.seeEstop.tripMatches.joinCheck.wakeRegions.resumeFault.settleDrops

/-- One tick of the block with no command waiting (DESIGN CHOICE, log entry 1). -/
def State.idle (s : State) : State := ({ s with now := s.now + 1 }).background

/-- One step: the front of the queue runs on the state with the queue's rest; an empty queue lets one tick pass. -/
def step (s : State) : Host.Outcome State Fault Refusal :=
  match s.pending with
  | [] => .next s.idle
  | c :: cs => exec c { s with pending := cs }

/-- The state with the command a table word spells put at the front of its queue; unchanged where it spells none. -/
def State.withFetchWord (s : State) (nbits w : Nat) : State :=
  match decodeTableWord nbits w with
  | none => s
  | some c => { s with pending := c :: s.pending }

end Sys2Proof.Machine
end

