-- ==== Sys2Proof/Machine/Pins.lean ====
section
/-! DEFINITION. The levels of pins that the state decides: reserved balls (R2, R498), modulator clocks (R72, R73), phase outputs (R148, R149, R151,
R172) and the converter reference (R508). Time within a tick is in fine steps, 32 to the tick (R144). -/
namespace Sys2Proof.Machine

/-! Reserved balls (Table 18-3). -/

/-- The balls reserved on both variants: E1 and DDR4. -/
def reservedBoth : List (BallRow × Nat × Nat) :=
  [(.N, 21, 22), (.P, 16, 22), (.T, 16, 18), (.W, 1, 22), (.Y, 1, 22), (.AA, 1, 16), (.AB, 1, 22), (.AC, 1, 13)]

/-- The reserved balls of a variant: row, first and last column (Table 18-3). -/
def PartNo.reservedBalls : PartNo → List (BallRow × Nat × Nat)
  | .fyx9480 => []
  | .fyx9462 => [(.B, 11, 22), (.C, 1, 4), (.D, 22, 22), (.E, 1, 15), (.G, 3, 14)] ++ reservedBoth
  | .fyx9424 =>
    [(.B, 3, 22), (.C, 1, 4), (.D, 14, 22), (.E, 1, 15), (.F, 13, 22), (.G, 1, 14), (.U, 16, 17), (.H, 22, 22), (.J, 16, 20)] ++ reservedBoth

/-- The ball is reserved on the variant. -/
def PartNo.reserves (p : PartNo) (b : Ball) : Bool :=
  p.reservedBalls.any fun r => decide (r.1 = b.row) && decide (r.2.1 ≤ b.col) && decide (b.col ≤ r.2.2)

/-- How a ball is held by R2: a reserved ball, in every mode, is high-impedance with its input buffer disabled and no pull; `none` where its
function decides. -/
def State.ballHold (s : State) (b : Ball) : Option BallHold :=
  if s.part.reserves b then some { drives := false, input := false, pull := false } else none

/-! Modulator clocks. -/

/-- `MCLKj` toggles: SNS is ON and an enabled group selects it (R73). -/
def State.mclkToggles (s : State) (j : Nat) : Bool :=
  s.regionOn .sns && s.tide.pulsed && (List.range 4).any fun g => s.part.has .group g && (s.group g).enabled && s.inputClock (12 * g) == j

/-- The level of `MCLKj` in the present tick (R72, R73): N of the 2·N ticks of a period high for even N, N + 1 for odd N; else low. DESIGN CHOICE
(log entry 164): low from an accepted write of its divider until the first edge of the new clock (R75). -/
def State.mclkLevel (s : State) (j : Nat) : Bool :=
  let n := s.objN 0x4034 (1 + j)
  s.mclkToggles j && decide (s.tide.startPulse ≤ s.now) && decide (nth s.clock.mclkFrom j 0 ≤ s.now)
    && decide ((s.now - s.tide.startPulse) % (2 * n) < n + n % 2)

/-! Phase outputs. -/

/-- The I/O ring lets the phase outputs follow their commands: PWM is ON and not held low by a halt, and the controller has `OWN_N` (R12, R41), or has
released it less than 20 µs ago with its waveform kept (R357, R363). -/
def State.ringOpen (s : State) : Bool :=
  s.regionOn .pwm && (s.pair.owns || s.pair.selfRelease.isSome) && s.supply.phase == .running && !s.mode.estopLow

/-- The fine step at which an output rises whose command has changed at `chg` (R148, R149): its dead time after the change and after the enable,
and at least one fine step after the other output's fall. DESIGN CHOICE (log entry 144): that fine step of R148 is kept where the phase is tick-only and
its dead time rounds to no tick, and the edge then lies off the tick. -/
def Phase.riseAt (v : Phase) (chg dead : Nat) : Nat := max (chg + 1) (tickRound v.tickOnly (max chg (32 * v.onAt) + dead))

/-- The level of one side at a fine step, counted from tick 0: the carrier command has the side's value, its dead time is over, its pulse, which began
with the command or with the enable, is produced (R149, R151, R163). -/
def Phase.sideHigh (v : Phase) (side : Bool) (x : Nat) : Bool :=
  match v.command x with
  | some (c, chg) => c == side && decide (v.riseAt chg (if side then v.tLH else v.tHL) ≤ x) 
      && !(let d := v.verdict (max chg (32 * v.onAt)); if side then d.1 else d.2)
  | none => false

/-- `PHn_H` (`side` true) or `PHn_L` at a fine step of the present period (R148, R149, R172): low unless the ring is open, the phase's outputs are
enabled and `OutMode` drives the side. -/
def State.phaseLevel (s : State) (p : Nat) (side : Bool) (x : Nat) : Bool :=
  s.ringOpen && (s.phase p).outOn && s.objN (0x3800 + p) 3 != (if side then 2 else 1) && (s.phase p).sideHigh side x

/-! The converter reference. -/

/-- `ADCREF` delivers its voltage: SADC is ON or runs a duty cycle (R508). -/
def State.adcRef (s : State) : Bool := s.region .sadc == .on || s.region .sadc == .duty

end Sys2Proof.Machine
end

