-- ==== Sys2Proof/Safety.lean ====
section
/-! DEFINITION. What counts as a safe run, in the terms that claims use. -/
namespace Sys2Proof

open Machine

/-- Every phase output is low. -/
def Safety.outputsLow (s : State) : Bool := s.phases.all fun p => !p.outOn

/-- A step goes on: it neither faults nor is refused. -/
def Safety.goesOn (s : State) : Prop := ∃ t, step s = .next t

/-- A write that the dictionary's own checks let pass: the dictionary is served, the object exists and may be written at the channel's level with
these bytes, and a pair-common object may be written on this side (R366, R372, R373, R375). What the object's chapter refuses comes besides. -/
def Safety.writable (s : State) (ch : Chan) (idx sub : Nat) (data : List Byte) : Bool :=
  s.served ch && s.basicCheck ch (s.target idx) sub data == 0 && (!isCommon (s.target idx) sub || s.mayWriteCommon)

/-- The last answer of the dictionary confirms a request of a channel (R382). -/
def Safety.confirms (t : State) (ch : Chan) : Prop := t.net.answer.chan = ch ∧ t.net.answer.status = stOk

/-- A session after a Nireo request has come: touched, the frame counted, the DOMAIN write that the request names kept from its timeout (R394). -/
def Safety.nireoHeard (s : State) (n : Nat) (x : Session) (op idx sub : Nat) : State :=
  ((s.touch (.nireo n)).ethReceived x.port).renewDomain n op idx sub

/-- The state in which a Nireo request of a session is carried out: where it takes a slot, the peak of slots in use is noted (R396). -/
def Safety.nireoTurn (s : State) (n : Nat) (x : Session) (op idx sub : Nat) (slot : Bool) : State :=
  if slot then (Safety.nireoHeard s n x op idx sub).notePeak else Safety.nireoHeard s n x op idx sub

/-- A Nireo request is carried out anew: its session is open on a transport that is, no response to it is kept, and a slot is free where it takes one
(R394, R396). -/
def Safety.nireoAnew (s : State) (n : Nat) (x : Session) (op tag idx sub word : Nat) (slot : Bool) : Bool :=
  s.served (.nireo n) && s.session (.nireo n) == some x
    && ((Safety.nireoHeard s n x op idx sub).keptFor x op tag idx sub word).isNone
    && !(slot && (Safety.nireoHeard s n x op idx sub).slotsFull)

/-- A Nireo request carried out is answered: the answer kept for 2 s, and its frame sent to the session's host (R395, R397). -/
def Safety.nireoAnswer (u : State) (n : Nat) (x : Session) (op tag idx sub word : Nat) : State :=
  let t := u.keepAnswer n op tag idx sub word
  t.sendResponse x.port x.peer (responseFrame op tag idx sub 1 n t.net.answer.status t.net.answer.data)

/-- The parts of the state that a command may be said to leave alone: the fields of State. -/
inductive Safety.Part where
  | now | part | serial | supply | mode | clock | mods | groups | adc | tide | insts | engines | stages | phases | pgs | rcs | obs | spm | feeds | strs
  | chargers | dead | rails | railGroups | thermal | faults | pair | net | berths | ports | mem | log | img | cfg | kept | draws
  deriving DecidableEq, Repr

/-- A part of two states is the same. -/
def Safety.same (p : Safety.Part) (s t : State) : Prop :=
  match p with
  | .now => t.now = s.now | .part => t.part = s.part | .serial => t.serial = s.serial | .supply => t.supply = s.supply | .mode => t.mode = s.mode
  | .clock => t.clock = s.clock | .mods => t.mods = s.mods | .groups => t.groups = s.groups | .adc => t.adc = s.adc | .tide => t.tide = s.tide
  | .insts => t.insts = s.insts | .engines => t.engines = s.engines | .stages => t.stages = s.stages | .phases => t.phases = s.phases
  | .pgs => t.pgs = s.pgs | .rcs => t.rcs = s.rcs | .obs => t.obs = s.obs | .spm => t.spm = s.spm | .feeds => t.feeds = s.feeds
  | .strs => t.strs = s.strs | .chargers => t.chargers = s.chargers | .dead => t.dead = s.dead | .rails => t.rails = s.rails
  | .railGroups => t.railGroups = s.railGroups | .thermal => t.thermal = s.thermal | .faults => t.faults = s.faults | .pair => t.pair = s.pair
  | .net => t.net = s.net | .berths => t.berths = s.berths | .ports => t.ports = s.ports | .mem => t.mem = s.mem | .log => t.log = s.log
  | .img => t.img = s.img | .cfg => t.cfg = s.cfg | .kept => t.kept = s.kept | .draws => t.draws = s.draws

/-- Every part of the state but those listed, and the queue of waiting commands, is the same in both states. -/
def Safety.changesOnly (l : List Safety.Part) (s t : State) : Prop := t.pending = s.pending ∧ ∀ p, p ∉ l → Safety.same p s t

end Sys2Proof
end

