-- ==== Sys2Proof/WellFormed.lean ====
section
/-! DEFINITION. Which commands are well formed: every unit number names a unit of the largest configuration, and every list of samples has its length. -/
namespace Sys2Proof

/-- A header as Table 12-1 lays it out, of the row's own frame type or of a reserved one (Table 12-2). -/
def FrameHead.wellFormed (h : Machine.FrameHead) (t : Nat) : Bool :=
  decide (h.type < 256) && decide (h.length < 65536) && decide (h.seq < 2 ^ 32)
    && (h.type == t || !([0x01, 0x02, 0x10, 0x20, 0x30, 0x40, 0x41] : List Nat).contains h.type)

/-- The command names units that exist in the largest configuration and carries as many values as it should. -/
def Instr.wellFormed (i : Instr) : Bool :=
  match i with
  | .porRelease _ _ _ _ => true
  | .dictionaryOnline _ => true
  | .snsEngRelease => true
  | .prechargeEnd pair => decide (pair < 4)
  | .auxContactConfirm str => decide (str < 8)
  | .enterActive => true
  | .noSourceDeclared => true
  | .modeRequestRise _ => true
  | .modeRequestService _ => true
  | .modeRequestActive _ => true
  | .modeRequestDescent _ => true
  | .modeRequestMoored _ => true
  | .modeRequestLayup _ => true
  | .modeRequestLeaveService _ _ _ => true
  | .tripReaction => true
  | .descentProgramsStart => true
  | .descentComplete _ => true
  | .restartHoldoffEnd => true
  | .powerFailWarning _ _ => true
  | .rstNAsserted => true
  | .rstNReleased _ => true
  | .supplyDipRestart _ => true
  | .counterBlockPeriodicCommit => true
  | .wakeNWake => true
  | .srcdetWake _ => true
  | .twAddressMatchWake port _ => decide (port < 4)
  | .canWake port => decide (port < 2)
  | .mooredAdcScan _ codes => decide (codes.length = 12)
  | .ownNReleaseWake => true
  | .aoWakeTimerExpired => true
  | .twMatchStretchTimeout port => decide (port < 4)
  | .canRetentionTimeout => true
  | .groupEnableWrite _ g _ => decide (g < 4)
  | .stuckRunDetected md => decide (md < 48)
  | .stuckClearCount md => decide (md < 48)
  | .loopSampleAvailable md bits _ => decide (md < 48) && decide (16 ≤ bits.length ∧ bits.length ≤ 256)
  | .mclkReadbackFault g => decide (g < 4)
  | .fastComparatorDecision md _ => decide (md < 48)
  | .calCommand _ md _ => decide (md < 48)
  | .calComplete md => decide (md < 48)
  | .seqLengthWrite _ _ => true
  | .adcLapStart => true
  | .adcEntryComplete _ _ _ => true
  | .adcLapEnd _ => true
  | .tempSlot codes => decide (codes.length = 12)
  | .instanceRelease lp _ => decide (lp < 64)
  | .instanceRunEnd lp _ => decide (lp < 64)
  | .instanceCommit lp => decide (lp < 64)
  | .depWaitEnd lp => decide (lp < 64)
  | .carrierBoundary st => decide (st < 8)
  | .tideFrameBoundary => true
  | .idleBanksLoaded => true
  | .loadPoint ph => decide (ph < 24)
  | .stageStart _ st => decide (st < 8)
  | .softStartEnd st => decide (st < 8)
  | .stageStop _ st => decide (st < 8)
  | .delayLineCalibration bad => decide (bad.length = 48)
  | .phaseDrop _ ph => decide (ph < 24)
  | .phaseReturn _ ph => decide (ph < 24)
  | .breakwaterTruncation st b => decide (st < 8) && decide (b < 4)
  | .fenderTruncation ph => decide (ph < 24)
  | .estopAsserted => true
  | .tripReadbackFault => true
  | .driveReadbackFault ph => decide (ph < 24)
  | .holdWatchExpired st => decide (st < 8)
  | .holdLimitExpired st => decide (st < 8)
  | .pgTargetWrite _ n _ => decide (n < 16)
  | .pgUpdate n => decide (n < 16)
  | .rcUpdate n => decide (n < 8)
  | .rcPhaseWrap n => decide (n < 8)
  | .rcRefTimeout n => decide (n < 8)
  | .rcUnlockTimeout n => decide (n < 8)
  | .rcReset _ n _ => decide (n < 8)
  | .observerRun st => decide (st < 8)
  | .substitutionExpired ph => decide (ph < 24)
  | .spmUpdate => true
  | .spmRecompute => true
  | .droopTrimUpdate => true
  | .phaseShareTrimWrite _ ph _ => decide (ph < 24)
  | .inputLoss => true
  | .handoverEnd => true
  | .sourceQualified _ => true
  | .handbackCommand _ _ => true
  | .handbackStart => true
  | .handbackRampEnd => true
  | .feedGateOn f => decide (f < 4)
  | .feedReverseOff f => decide (f < 4)
  | .feedLost f => decide (f < 4)
  | .feedEnableOn _ f => decide (f < 4)
  | .feedEnableOff _ f => decide (f < 4)
  | .inrushChop f => decide (f < 4)
  | .inrushOffExpired f => decide (f < 4)
  | .inrushTimeout f => decide (f < 4)
  | .gateConfirmExpired f => decide (f < 4)
  | .gateConfirmTimeout f => decide (f < 4)
  | .gateStuckOn f => decide (f < 4)
  | .gateFeedbackLost f => decide (f < 4)
  | .feedShort f => decide (f < 4)
  | .feedRetry f => decide (f < 4)
  | .feedRetryReset f => decide (f < 4)
  | .meterTimeout f => decide (f < 4)
  | .estimatorStep str => decide (str < 8)
  | .unanchoredTimeout str => decide (str < 8)
  | .probeStart str => decide (str < 8)
  | .probeShiftEnd => true
  | .slackRequest _ str => decide (str < 8)
  | .slackAutoRequest str => decide (str < 8)
  | .slackAbort _ str => decide (str < 8)
  | .slackRampDownEnd str => decide (str < 8)
  | .slackRestPoint str => decide (str < 8)
  | .slackComplete str => decide (str < 8)
  | .slackConditionAbort str => decide (str < 8)
  | .slackRefusalTimeout str => decide (str < 8)
  | .stringReplaced _ str _ => decide (str < 8)
  | .estimatorCommit => true
  | .stringInputTimeout str _ => decide (str < 8)
  | .auxContactMismatch str => decide (str < 8)
  | .stringShedOpen str => decide (str < 8)
  | .chargeCommandStart _ str => decide (str < 8)
  | .chargeCommandStop _ str => decide (str < 8)
  | .pulseEnd str => decide (str < 8)
  | .restEnd str => decide (str < 8)
  | .chargeTimerExpired str => decide (str < 8)
  | .chargePauseTimeout str => decide (str < 8)
  | .eqRequest _ str => decide (str < 8)
  | .eqAbort _ str => decide (str < 8)
  | .finalRestSkip str => decide (str < 8)
  | .bsInWindow => true
  | .bsSettleExpired => true
  | .bsTimeout => true
  | .layupEntry underLoad auxOpen => decide (underLoad.length = 8) && decide (auxOpen.length = 8)
  | .layupWake _ _ => true
  | .seqEnd g _ => decide (g < 4)
  | .seqOn g _ => decide (g < 4)
  | .seqOff g _ => decide (g < 4)
  | .seqWaitgood g _ => decide (g < 4)
  | .seqWaitlow g _ => decide (g < 4)
  | .seqDelay g _ => decide (g < 4)
  | .seqWaitgroup g _ => decide (g < 4)
  | .seqMark g _ => decide (g < 4)
  | .stageRailStart r => decide (r < 32)
  | .railRunFault r _ => decide (r < 32)
  | .mooredRailFault r _ => decide (r < 32)
  | .railDescentFault r _ => decide (r < 32)
  | .railDescentOvervoltage r => decide (r < 32)
  | .groupRise _ g => decide (g < 4)
  | .groupAbortRise _ g => decide (g < 4)
  | .groupLower _ g => decide (g < 4)
  | .railMarginHigh _ r => decide (r < 32)
  | .railMarginLow _ r => decide (r < 32)
  | .railMarginOff _ r => decide (r < 32)
  | .thermalDerateUpdate => true
  | .pdmReading ps => decide (ps.length = 16)
  | .vidUpdate => true
  | .ageReset _ _ => true
  | .ronUpdate => true
  | .replan => true
  | .bankCapEstimate st _ _ => decide (st < 8)
  | .ageingCommit => true
  | .faultClearWindowEnd _ _ => true
  | .sevWrite _ region _ => decide (1 ≤ region ∧ region ≤ 10)
  | .sevQueryWrite _ region _ => decide (1 ≤ region ∧ region ≤ 10)
  | .irqPendingClear _ region _ => decide (1 ≤ region ∧ region ≤ 10)
  | .lockoutEntry => true
  | .lockstepMismatch => true
  | .d2dTransferFail => true
  | .heartbeatSend => true
  | .heartbeatReceived hb _ _ _ => decide (hb.1 < 2 ^ 32)
  | .heartbeatMiss => true
  | .twinAbsentTimeout => true
  | .electionFrameReceived frame => FrameHead.wellFormed frame.hd 0x02
  | .electionFrameSend => true
  | .electionTimeout => true
  | .trackingMessageReceived hd _ _ => FrameHead.wellFormed hd 0x10
  | .alignmentSend => true
  | .alignmentReceived hd _ _ _ => FrameHead.wellFormed hd 0x20
  | .mirrorWriteReceived hd _ _ idx sub _ => FrameHead.wellFormed hd 0x30 && decide (idx < 65536) && decide (sub < 256)
  | .snapshotFragmentReceived hd _ _ _ => FrameHead.wellFormed hd 0x40
  | .imageTransferReceived hd _ _ _ _ => FrameHead.wellFormed hd 0x41
  | .kopolFrameRetransmit _ => true
  | .laneDown lane => decide (lane < 2)
  | .laneRetrain lane _ _ => decide (lane < 2)
  | .healthUpdate => true
  | .ownNReleased => true
  | .ownReadbackFault => true
  | .engStopSelfRelease => true
  | .supStallSelfRelease => true
  | .selfReleaseOutputsLow => true
  | .handoverRequest _ => true
  | .handoverCancel _ => true
  | .handoverRelease => true
  | .handoverTimeout => true
  | .pairCommonWrite _ idx sub _ => decide (idx < 65536) && decide (sub < 256)
  | .objectWrite _ idx sub _ => decide (idx < 65536) && decide (sub < 256)
  | .sdoRequest port srv _ => decide (port < 2) && decide (1 ≤ srv ∧ srv ≤ 4)
  | .sdoAbortTransfer port srv => decide (port < 2) && decide (1 ≤ srv ∧ srv ≤ 4)
  | .sdoSegmentTimeout port srv => decide (port < 2) && decide (1 ≤ srv ∧ srv ≤ 4)
  | .nireoRead _ _ idx sub _ _ => decide (idx < 65536) && decide (sub < 256)
  | .nireoWrite _ _ idx sub _ _ => decide (idx < 65536) && decide (sub < 256)
  | .nireoDomainBegin _ _ idx sub _ => decide (idx < 65536) && decide (sub < 256)
  | .nireoDomainSegment _ _ idx sub _ _ => decide (idx < 65536) && decide (sub < 256)
  | .nireoDomainEnd _ _ idx sub _ => decide (idx < 65536) && decide (sub < 256)
  | .nireoDomainAbort _ _ idx sub => decide (idx < 65536) && decide (sub < 256)
  | .nireoOpenSession src _ => decide (src.1 < 5)
  | .nireoCloseSession _ _ => true
  | .nireoBatchWrite _ _ _ => true
  | .nireoFrameDropped port => decide (port < 5)
  | .sessionIdleTimeout _ => true
  | .domainWriteIdleTimeout _ idx sub => decide (idx < 65536) && decide (sub < 256)
  | .hsFrameCommand _ _ => true
  | .hsStatusCommand => true
  | .hsResponseCommand => true
  | .accessChallengeRead _ => true
  | .accessResponse _ _ _ => true
  | .accessDrop _ _ => true
  | .accessIdleTimeout _ => true
  | .storeSave _ _ => true
  | .restoreLoad _ _ => true
  | .legacyModeWrite _ _ => true
  | .nmtStart port => decide (port < 2)
  | .nmtStop port => decide (port < 2)
  | .nmtEnterPreOperational port => decide (port < 2)
  | .nmtResetNode port => decide (port < 2)
  | .nmtResetCommunication port => decide (port < 2)
  | .lssSwitchState port _ _ _ => decide (port < 2)
  | .lssConfigureNodeId port _ => decide (port < 2)
  | .lssConfigureBitTiming port _ => decide (port < 2)
  | .lssStore port => decide (port < 2)
  | .lssInquire port _ => decide (port < 2)
  | .lssFastscan port _ _ _ _ => decide (port < 2)
  | .syncProduce => true
  | .syncReceived port => decide (port < 2)
  | .timeProduce => true
  | .rpdoReceived port n _ => decide (port < 2) && decide (n < 32)
  | .tpdoEvent n => decide (n < 32)
  | .tpdoEventTimer n => decide (n < 32)
  | .canHeartbeatProduce port => decide (port < 2)
  | .canHeartbeatConsumerTimeout port _ => decide (port < 2)
  | .canBusOff port => decide (port < 2)
  | .canBusOffRecovery port => decide (port < 2)
  | .ethLinkDown port => decide (port < 2)
  | .ethArpRequest port _ => decide (port < 2)
  | .icmpEchoRequest port _ => decide (port < 2)
  | .ptpSyncSend port => decide (port < 2)
  | .ptpAnnounceSend port => decide (port < 2)
  | .ptpDelayReqReceived port _ => decide (port < 2)
  | .ptpAnnounceReceived port _ => decide (port < 2)
  | .ptpAnnounceTimeout port => decide (port < 2)
  | .timeSetSeconds _ _ => true
  | .ppsEdge => true
  | .phaseAdjust _ _ => true
  | .traceableWrite _ _ => true
  | .traceableTimeout => true
  | .holdoverEnd => true
  | .twScan port _ => decide (port < 4)
  | .berthPresenceLow b => decide (b < 64)
  | .berthPresenceHigh b => decide (b < 64)
  | .berthDisable _ b => decide (b < 64)
  | .alertResponseRead port _ => decide (port < 4)
  | .hostNotifyReceived port _ _ => decide (port < 4)
  | .mailboxBlockWrite port _ _ _ => decide (port < 4)
  | .mailboxBlockRead port => decide (port < 4)
  | .twTransactionBoundary port => decide (port < 4)
  | .twArbitrationLost port => decide (port < 4)
  | .twSclTimeout port => decide (port < 4)
  | .twBusRecovery port _ => decide (port < 4)
  | .pollRunDue b => decide (b < 64)
  | .scriptEnd port => decide (port < 4)
  | .scriptPage port _ => decide (port < 4)
  | .scriptRdb port _ _ _ => decide (port < 4)
  | .scriptRdw port _ _ _ => decide (port < 4)
  | .scriptRdk port _ _ _ => decide (port < 4)
  | .scriptWrb port _ => decide (port < 4)
  | .scriptWrw port _ => decide (port < 4)
  | .scriptSnd port _ => decide (port < 4)
  | .scriptCnv port => decide (port < 4)
  | .scriptTst port => decide (port < 4)
  | .scriptRep port => decide (port < 4)
  | .scriptWait port => decide (port < 4)
  | .scriptXtr port => decide (port < 4)
  | .partnerCommandSend port _ _ _ => decide (port < 4)
  | .hostCommand _ b _ => decide (b < 64)
  | .listenedTransaction port _ => decide (port < 4)
  | .trainCommand _ _ _ => true
  | .dramFillComplete => true
  | .dramRead _ _ _ _ => true
  | .dramWrite _ _ _ _ => true
  | .scrubBurst _ => true
  | .scrubLapOverdue => true
  | .bucketLeakTick _ => true
  | .eccModeChange _ _ => true
  | .flipArm _ _ => true
  | .dramAlert rank => decide (rank < 2)
  | .sramUncorrectable region _ _ => decide (region < 10)
  | .mramWrite _ _ _ _ => true
  | .mramReadUe e => decide (e.addr < 0x4000000)
  | .recordArrival r => decide (r.payload.length ≤ 32)
  | .recordCommit => true
  | .freezeStart _ => true
  | .freezeAbort _ => true
  | .freezeRelease _ => true
  | .freezeLimitExpired => true
  | .readFromWrite _ _ => true
  | .readBlock _ => true
  | .captureFrame _ => true
  | .captureTrigger b _ _ md _ => decide (b < 4) && decide (md < 48)
  | .triggerNow _ => true
  | .windowLastFrame w => decide (w < 10)
  | .windowCommit p => decide (p.window < 10)
  | .windowAbandon w => decide (w < 10)
  | .windowRelease _ w _ => decide (w < 10)
  | .updateTransferComplete => true
  | .updateChecksDone _ _ _ _ => true
  | .updateAbort _ _ => true
  | .hitlessStart _ => true
  | .hitlessAbort _ => true
  | .hitlessCommitPoint => true
  | .hitlessResume => true
  | .hitlessResumeTimeout => true
  | .hitlessRevertTimeout => true
  | .pairUpdateStart _ => true
  | .pairUpdateAbort _ => true
  | .pilotExit _ _ _ => true
  | .xtalFail => true
  | .xtalRetry _ => true
  | .porAsserted => true
  | .ethLinkUp port _ => decide (port < 2)
  | .ethFrameDropped port => decide (port < 2)
  | .nireoCanFdSegment port ident _ data => decide (port < 2) && decide (ident < 0x20000000) && decide (data.length ≤ 63)
  | .canHeartbeatReceived port _ => decide (port < 2)
  | .emcyInhibitExpired port => decide (port < 2)
  | .tpdoInhibitExpired n => decide (n < 32)
  | .sramScrubRead region _ _ => decide (region < 10)
  | .mailboxBlockTaken port => decide (port < 4)
  | .stageRailRiseTimeout r => decide (r < 32)
  | .supervisoryCoresResume => true

end Sys2Proof
end

