-- ==== Sys2Proof/Certificates/Slice0/Obligations.lean ====
section
/-! DEFINITION. The statements about the block that the provers prove. -/

open Sys2Proof Sys2Proof.Machine

/-- A step runs the command at the front of the queue. -/
def Obligations.StepRunsFront : Prop :=
  ∀ (c : Instr) (cs : List Instr) (s : State), step { s with pending := c :: cs } = exec c { s with pending := cs }

/-- No command changes the queue, the variant or the serial number. -/
def Obligations.CommandsKeepQueueAndIdentity : Prop :=
  ∀ (c : Instr) (s t : State), exec c s = .next t → t.pending = s.pending ∧ t.part = s.part ∧ t.serial = s.serial

/-- VAO below the POR threshold (POR_ASSERTED) clears the lockout latch and `LockoutCause`; after that only its end, POR_RELEASE, starts with them cleared. Every other command, RST_N, a supply-dip restart, a warning without POR, an update, PILOT and any dictionary write among them, leaves a set latch set and a cause that is not 0 not 0. (R333). -/
def Obligations.LockoutLatchOnlyClearedByPowerCycle : Prop :=
  (∀ s : State, ∃ t, exec .porAsserted s = .next t ∧ t.mode.lockoutLatch = false ∧ t.mode.lockoutCause = 0)
  ∧ (∀ (c : Instr) (s t : State), c ≠ .porAsserted → (∀ a b d e, c ≠ .porRelease a b d e) → exec c s = .next t →
      (s.mode.lockoutLatch = true → t.mode.lockoutLatch = true) ∧ (s.mode.lockoutCause ≠ 0 → t.mode.lockoutCause ≠ 0))

/-- The canonical form of the two sparse memories is the model's own (log entry 30): strictly rising addresses and no entry that reads as an unlisted one does. -/
def Obligations.StepKeepsMemoryForm : Prop :=
  ∀ s t : State, s.memoryWf = true → step s = .next t → t.memoryWf = true

/-- The memories of the reset state are in canonical form. -/
def Obligations.ResetMemoryForm : Prop :=
  State.reset.memoryWf = true ∧ State.reset.mem.cells = [] ∧ State.reset.mem.mram = []

/-- The pending buffer of 256 records, when full: the record arriving replaces the oldest of the lowest class pending, which counts as dropped in its class, or is itself dropped and counted. (R460). -/
def Obligations.PendingBufferReplacement : Prop :=
  ∀ (l : Log) (r x : Record) (a b : List Record), l.waiting = a ++ x :: b → l.waiting.length = 256 → l.drops.length = 6 →
    r.cls < 6 → (∀ y ∈ l.waiting, y.cls < 6) → (∀ y ∈ a, x.cls < y.cls) → (∀ y ∈ b, x.cls ≤ y.cls) →
    (x.cls ≤ r.cls → (l.arrive r).waiting = a ++ b ++ [r] ∧ nth (l.arrive r).drops x.cls 0 = nth l.drops x.cls 0 + 1
      ∧ ∀ c, c ≠ x.cls → nth (l.arrive r).drops c 0 = nth l.drops c 0)
    ∧ (r.cls < x.cls → (l.arrive r).waiting = l.waiting ∧ nth (l.arrive r).drops r.cls 0 = nth l.drops r.cls 0 + 1
      ∧ ∀ c, c ≠ r.cls → nth (l.arrive r).drops c 0 = nth l.drops c 0)

/-- Port TWp holds berths b(16p) to b(16p + 15) (R10). -/
def Obligations.PortsHoldBerths : Prop :=
  ∀ (s : State) (c : PCmd) (p : Nat), p < 4 → c.berth < 64 → s.ports.length = 4 → (s.berth c.berth).present = true →
    (16 * p ≤ c.berth ∧ c.berth ≤ 16 * p + 15 → c ∈ ((s.queueCmd c).port p).cmds)
    ∧ (¬(16 * p ≤ c.berth ∧ c.berth ≤ 16 * p + 15) → (s.queueCmd c).port p = s.port p)

/-- What the checks of the modulator inputs do (spec/03_measurement_path.md, spec/05_stages_pwm_and_fast_protection.md). -/
def Obligations.ModulatorInputConditions : Prop :=
  (∀ (md : Nat) (s : State),
      s.inputRuns md = true →
      ∃ t, exec (.stuckRunDetected md) s = .next t ∧
        (s.mayRaise (s.key 5 (md / 12) md 1) = true → t.isActive (s.key 5 (md / 12) md 1) = true))
  ∧ (∀ (md : Nat) (s : State),
      s.inputRuns md = true →
      (s.modIn md).stuck = true →
      md < s.mods.length →
      ∃ t, exec (.stuckClearCount md) s = .next t ∧
        (t.modIn md).stuck = false ∧
        (∀ a ∈ t.faults.active, a.key = s.key 5 (md / 12) md 1 → a.clearing.isSome = true) ∧
        (∀ n, n ≠ md → t.modIn n = s.modIn n))
  ∧ (∀ (g : Nat) (s : State),
      s.regionOn .sns = true →
      (s.group g).running = true →
      ∃ t, exec (.mclkReadbackFault g) s = .next t ∧
        (s.mayRaise (s.key 5 g 0xFF 4) = true → t.isActive (s.key 5 g 0xFF 4) = true))
  ∧ (∀ (md : Nat) (b : Bool) (s : State),
      s.inputRuns md = true →
      6 ≤ s.now →
      s.mclkEdge (s.inputClock md) (s.now - 6) = true →
      md < s.mods.length →
      ∃ t, exec (.fastComparatorDecision md b) s = .next t ∧
        (t.modIn md).fastBits = (b :: (s.modIn md).fastBits).take (2 * s.fastOsr md - 1) ∧
        (t.modIn md).fastSeen = min (2 * s.fastOsr md - 1) ((s.modIn md).fastSeen + 1) ∧
        (t.modIn md).thrHigh = s.threshold md 0x0B false ∧
        (t.modIn md).thrLow = s.threshold md 0x0C true ∧
        (((t.modIn md).high = true → s.objN (0x4000 + md) 0x0E + 1 ≤ (t.modIn md).highRun ∨ (s.modIn md).high = true)) ∧
        (∀ n, n ≠ md → t.modIn n = s.modIn n))
  ∧ (∀ (md : Nat) (s : State),
      (s.modIn md).cal = 1 →
      (s.modIn md).calBad = true →
      md < s.mods.length →
      ∃ t, exec (.calComplete md) s = .next t ∧
        (t.modIn md).cal = 3 ∧
        t.raw (0x4000 + md) 6 = s.raw (0x4000 + md) 6)
  ∧ (∀ (ch : Chan) (md : Nat) (v : Nat) (s : State),
      Safety.writable s ch (0x4000 + md) 8 (leBytes 1 v) = true →
      s.calStatus md v = 0 →
      md < s.mods.length →
      ∃ t, exec (.calCommand ch md v) s = .next t ∧
        Safety.confirms t ch ∧
        (t.modIn md).cal = 1 ∧
        (t.modIn md).calCount = 0)
  ∧ (∀ (ch : Chan) (g : Nat) (v : Nat) (s : State),
      Safety.writable s ch (0x4030 + g) 1 (leBytes 1 v) = true →
      s.regionOn .sns = false →
      ∃ t, exec (.groupEnableWrite ch g v) s = .next t ∧
        Safety.confirms t ch ∧
        t.cfg = storePut (objKey (0x4030 + g) 1) (leBytes 1 v) s.cfg ∧
        t.groups = s.groups)
  ∧ (∀ (md : Nat) (fb : List Bool) (violations : Nat) (s : State),
      s.inputRuns md = true →
      s.frameDue md fb = true →
      md < s.mods.length →
      ∃ t, exec (.loopSampleAvailable md fb violations) s = .next t ∧
        ((t.group (md / 12)).running = true → (t.modIn md).frames = min 4 ((s.modIn md).frames + 1)) ∧
        (t.modIn md).availAt = s.now)

/-- What the supervisory converter and the temperature slots do (spec/03_measurement_path.md, spec/10_rails_temperature_and_ageing.md). -/
def Obligations.SupervisoryConverter : Prop :=
  (∀ (ch : Chan) (n : Nat) (s : State),
      Safety.writable s ch 0x4100 1 (leBytes 1 n) = true →
      ∃ t, exec (.seqLengthWrite ch n) s = .next t ∧
        Safety.confirms t ch ∧
        t.adc.seqLength = n ∧
        t.adc.pendingLen = some n ∧
        t.adc.running = s.adc.running)
  ∧ (∀ (s : State),
      s.lapDue = true →
      ∃ t, exec .adcLapStart s = .next t ∧
        t.adc.lapActive = true ∧
        t.adc.pos = 0 ∧
        t.adc.lapStart = s.now ∧
        t.adc.running = s.lapEntries ∧
        t.adc.pendingLen = none)
  ∧ (∀ (volts : List Rat) (up : Rat) (down : Rat) (s : State),
      s.adc.lapActive = true →
      s.adc.pos < s.adc.running.length →
      s.unchecked = true →
      s.isShed 6 0xFF 0 = false →
      ∃ t, exec (.adcEntryComplete volts up down) s = .next t ∧
        t.adc.pos = s.adc.pos + 1 ∧
        (nth t.adc.entries s.adc.pos ({} : AdcEntry)).openWire = (nth s.adc.entries s.adc.pos ({} : AdcEntry)).openWire)
  ∧ (∀ (refVolts : Rat) (s : State),
      s.adc.lapActive = true →
      s.adc.running.length ≤ s.adc.pos →
      s.isShed 6 0xFF 0 = false →
      ∃ t, exec (.adcLapEnd refVolts) s = .next t ∧
        t.adc.lapActive = false ∧
        t.adc.lapCount = s.adc.lapCount + 1 ∧
        t.adc.lapTime = s.since s.adc.lapStart ∧
        (((588 : Rat) / 1000 ≤ (convert 1 refVolts : Rat) * (12 / 10) / 4096 ∧ (convert 1 refVolts : Rat) * (12 / 10) / 4096 ≤ 612 / 1000 ∨ (s.mayRaise (s.key 6 0xFF 0 1) = true → t.isActive (s.key 6 0xFF 0 1) = true))))
  ∧ (∀ (codes : List Nat) (s : State),
      s.regionOn .sadc = true →
      s.adc.slotDue ≤ s.now →
      s.part = .fyx9480 →
      s.thermal.sensors.length = 28 →
      ∃ t, exec (.tempSlot codes) s = .next t ∧
        (∀ n, n < 12 → (t.sensor n).valid = !s.isShed 6 0xFF (0x10 + n) ∧ (t.sensor n).t = Config.sensorTemp n (nth codes n 0)))
  ∧ (∀ (s : State),
      s.regionOn .sup = true →
      ∃ t, exec .thermalDerateUpdate s = .next t ∧
        t.spm.supply = s.spm.supply ∧
        t.spm.thermal = sumR (((List.range 8).filter fun n => s.part.has .stage n).map fun n => clampR (divR (nth s.thermal.stageTemp n 0 - s.objR 0x4200 6) (s.objR 0x4200 7 - s.objR 0x4200 6)) 0 1 * s.objR (0x3D00 + n) 0x0F))
  ∧ (∀ (ps : List Int) (s : State),
      s.regionOn .sadc = true →
      s.thermal.vidAt = none →
      s.isShed 6 0xFF 1 = false →
      ∃ t, exec (.pdmReading ps) s = .next t ∧
        t.thermal.pdm = ps ∧
        t.thermal.mMin = minInt (ps.filter fun v => !pdmOut (median (ps.map fun (x : Int) => (x : Rat))) v))
  ∧ (∀ (m : Int) (s : State),
      s.regionOn .sadc = true →
      minInt s.thermal.mins = some m →
      (m : Rat) < s.objR 0x2600 6 →
      s.thermal.vid < 15 →
      ∃ t, exec .vidUpdate s = .next t ∧
        t.thermal.vid = s.thermal.vid + 1 ∧
        t.thermal.vidSteps = s.thermal.vidSteps + 1 ∧
        t.thermal.vidAt = some s.now)
  ∧ (∀ (ch : Chan) (v : Nat) (s : State),
      Safety.writable s ch 0x2600 9 (leBytes 1 v) = true →
      ∃ t, exec (.ageReset ch v) s = .next t ∧
        Safety.confirms t ch ∧
        t.thermal.vid = s.objN 0x2600 2 ∧
        t.thermal.step = 0)
  ∧ (∀ (s : State),
      s.regionOn .eng = true →
      (List.range 24).filter (fun p => (s.stageOf p).isSome) = [] →
      ∃ t, exec .ronUpdate s = .next t ∧
        t = s)
  ∧ (∀ (s : State),
      s.pair.owns = true →
      s.inMode .active = true →
      s.objN 0x2600 0x0A ≠ 0 →
      ∀ p ∈ s.phases, p.inSet = false →
      ∃ t, exec .replan s = .next t ∧
        t = s)
  ∧ (∀ (st : Nat) (charge : Rat) (dv : Rat) (s : State),
      s.stageUsed st = true →
      s.stageType st = 2 →
      s.stageOn st = true →
      dv ≠ 0 →
      absR (s.loopY (s.objN (0x3000 + 256 * st) 0x13)) / 50 ≤ absR dv →
      st < s.thermal.bank.length →
      s.excursion st charge dv = true →
      ∃ t, exec (.bankCapEstimate st charge dv) s = .next t ∧
        nth t.thermal.bank st 0 = nth s.thermal.bank st 0 + s.objR 0x2600 0x0B * (charge / dv - nth s.thermal.bank st 0))
  ∧ (∀ (s : State),
      s.regionOn .sup = true →
      s.supply.phase = .running →
      s.mem.failed.contains .cores = false →
      ∃ t, exec .ageingCommit s = .next t ∧
        t.thermal.savedRp = s.thermal.rp ∧
        t.thermal.savedBank = s.thermal.bank ∧
        t.thermal.savedValid = true)
  ∧ (∀ (s : State),
      s.regionOn .sup = true →
      s.supply.phase = .running →
      s.mem.failed.contains .cores = true →
      exec .ageingCommit s = .next { s with mem := { s.mem with failed := s.mem.failed.filter fun w => w != .cores } })

/-- What the commands of the start and of joining do (spec/02_modes_startup_and_supply_loss.md, spec/03_measurement_path.md, spec/09_charging_blackstart_and_layup.md, spec/10_rails_temperature_and_ageing.md). -/
def Obligations.StartAndJoining : Prop :=
  (∀ (sideB : Bool) (legacy : Bool) (wakeLow : Bool) (train : Nat) (s : State),
      s.supply.phase = .por →
      exec (.porRelease sideB legacy wakeLow train) s = .next ((({ s with supply := { s.supply with sideB := sideB, legacyStrap := legacy, porTick := s.now } }).fresh true).restoreCounters.startFrom 1 wakeLow train))
  ∧ (∀ (l : List Arrival) (s : State),
      s.inMode .boot = true →
      s.mode.step = 3 →
      s.pair.electionDone = true →
      s.supply.phase = .running →
      ∃ t, exec (.dictionaryOnline l) s = .next t ∧
        t = (let a := s.confirmTrial.setRegion .net .on; let u := (({ a with mode := { a.mode with online := true } }).canUp.ethUp.discoverAll l).milestone 4; if u.mode.lockoutLatch then u.enterLockout else if u.supply.bootHold ≠ 0 then u else u.toRise 0x0012))
  ∧ (∀ (s : State),
      s.inMode .rise = true →
      s.mode.step = 5 →
      s.supply.phase = .running →
      ∃ t, exec .snsEngRelease s = .next t ∧
        t = (let u := s.startSns.startEng.commonPulse; if u.regionOn .eng then (let v := { u.milestone 6 with mode := { (u.milestone 6).mode with step6 := (u.milestone 6).now } }; if v.pair.owns then v.beginJoining else v.applyHeld) else u))
  ∧ (∀ (n : Nat) (s : State),
      s.pair.owns = true →
      s.joins = true →
      (s.precharged n).isEmpty = false →
      s.supply.phase = .running →
      exec (.prechargeEnd n) s = .next (((forUnits (s.precharged n) (fun t k => t.endPrecharge k) s).beginPrecharge (n + 1)).joinCheck))
  ∧ (∀ (k : Nat) (s : State),
      s.pair.owns = true →
      s.joins = true →
      (s.str k).contactor = true →
      (s.str k).prechargeDone = true →
      s.supply.phase = .running →
      exec (.auxContactConfirm k) s = .next ((s.connect k).joinCheck))
  ∧ (∀ (s : State),
      s.inMode .rise = true →
      6 ≤ s.mode.step →
      s.regionOn .eng = true →
      s.supply.phase = .running →
      s.pair.owns = true →
      s.canCarry = true →
      s.busDead = false →
      exec .enterActive s = .next (((s.enterActive 0x0020).milestone 8).joinCheck))
  ∧ (∀ (s : State),
      s.inMode .rise = true →
      s.pair.owns = true →
      6 ≤ s.mode.step →
      s.joiningEnded = true →
      s.canCarry = false →
      s.supply.phase = .running →
      s.mayBlackstart = false →
      exec .noSourceDeclared s = .next (s.spmDetail 1 true))
  ∧ (∀ (c : Nat) (s : State),
      s.mode.riseWaiting = some c →
      s.inModes [.boot, .moored] = true →
      s.heldOff = false →
      s.supply.phase = .running →
      exec .restartHoldoffEnd s = .next (s.enterRise c))

/-- What accepted mode requests, TRIP and the commands of the descent do (spec/02_modes_startup_and_supply_loss.md, spec/10_rails_temperature_and_ageing.md). -/
def Obligations.RequestsAndDescent : Prop :=
  (∀ (ch : Chan) (s : State),
      Safety.writable s ch 0x2101 1 (leBytes 1 4) = true →
      s.requestStatus ch 4 = 0 →
      ∃ t, exec (.modeRequestRise ch) s = .next t ∧
        Safety.confirms t ch ∧
        t = s.draw.2.guardedWrite ch 0x2101 1 (leBytes 1 4) 0 (s.draw.2.applyRequest 4 s.draw.1.floor.toNat))
  ∧ (∀ (ch : Chan) (s : State),
      Safety.writable s ch 0x2101 1 (leBytes 1 9) = true →
      s.requestStatus ch 9 = 0 →
      ∃ t, exec (.modeRequestService ch) s = .next t ∧
        Safety.confirms t ch ∧
        t = s.draw.2.guardedWrite ch 0x2101 1 (leBytes 1 9) 0 (s.draw.2.applyRequest 9 s.draw.1.floor.toNat))
  ∧ (∀ (ch : Chan) (s : State),
      Safety.writable s ch 0x2101 1 (leBytes 1 6) = true →
      s.requestStatus ch 6 = 0 →
      ∃ t, exec (.modeRequestActive ch) s = .next t ∧
        Safety.confirms t ch ∧
        t = s.draw.2.guardedWrite ch 0x2101 1 (leBytes 1 6) 0 (s.draw.2.applyRequest 6 s.draw.1.floor.toNat))
  ∧ (∀ (ch : Chan) (s : State),
      Safety.writable s ch 0x2101 1 (leBytes 1 10) = true →
      s.requestStatus ch 0x0A = 0 →
      ∃ t, exec (.modeRequestDescent ch) s = .next t ∧
        Safety.confirms t ch ∧
        t = s.draw.2.guardedWrite ch 0x2101 1 (leBytes 1 10) 0 (s.draw.2.applyRequest 10 s.draw.1.floor.toNat))
  ∧ (∀ (ch : Chan) (s : State),
      Safety.writable s ch 0x2101 1 (leBytes 1 3) = true →
      s.requestStatus ch 3 = 0 →
      ∃ t, exec (.modeRequestMoored ch) s = .next t ∧
        Safety.confirms t ch ∧
        t = s.draw.2.guardedWrite ch 0x2101 1 (leBytes 1 3) 0 (s.draw.2.applyRequest 3 s.draw.1.floor.toNat))
  ∧ (∀ (ch : Chan) (s : State),
      Safety.writable s ch 0x2101 1 (leBytes 1 2) = true →
      s.requestStatus ch 2 = 0 →
      ∃ t, exec (.modeRequestLayup ch) s = .next t ∧
        Safety.confirms t ch ∧
        t = s.draw.2.guardedWrite ch 0x2101 1 (leBytes 1 2) 0 (s.draw.2.applyRequest 2 s.draw.1.floor.toNat))
  ∧ (∀ (ch : Chan) (code : Nat) (train : Nat) (s : State),
      Safety.writable s ch 0x2101 1 (leBytes 1 code) = true →
      s.inMode .service = true →
      s.requestStatus ch code = 0 →
      ∃ t, exec (.modeRequestLeaveService ch code train) s = .next t ∧
        Safety.confirms t ch ∧
        t = s.guardedWrite ch 0x2101 1 (leBytes 1 code) 0 (({ s with mode := { s.mode with req := code, reqStatus := 1 } } : State).leaveService train))
  ∧ (∀ (s : State),
      s.mode.pendingTrip.isSome = true →
      s.mode.pendingLockout = none →
      s.supply.phase = .running →
      s.inModes [.rise, .track, .active, .holdup, .blackstart] = true →
      ∃ t, exec .tripReaction s = .next t ∧
        t = (({ s with mode := { s.mode with pendingTrip := none } }.outputsSafe .safe).releaseOwn 1).supersedeRequest.beginDescent .moored (tripCause (s.mode.pendingTrip.getD 0)) true)
  ∧ (∀ (s : State),
      s.mode.pendingTrip.isSome = true →
      s.mode.pendingLockout = none →
      s.supply.phase = .running →
      s.inModes [.rise, .track, .active, .holdup, .blackstart] = false →
      ∃ t, exec .tripReaction s = .next t ∧
        t.pair.owns = false ∧
        t.mode.pendingTrip = none ∧
        t.mode.tripInForce = true ∧
        t.mode.mode = s.mode.mode ∧
        t.mode.descentTo = (if s.inMode .descent && s.mode.descentTo == .boot then .moored else s.mode.descentTo))
  ∧ (∀ (s : State),
      s.inMode .descent = true →
      s.mode.descentPrograms = false →
      s.descentStopped = true →
      s.supply.phase = .running →
      ∃ t, exec .descentProgramsStart s = .next t ∧
        t = (let a := forUnits ((List.range 32).filter fun r => s.railUsed r && s.railKind r == 1) (fun t r => t.stopStageRail r) s; let b := { a with mode := { a.mode with descentPrograms := true }, thermal := { a.thermal with descentFrom := a.now } }; forUnits [0, 1, 2, 3] (fun t g => if t.mode.descentTo == .moored && t.keepsMoored g && !t.groupForced g then t.keepGroup g else if (t.railGroup g).phase == .lowered then t else t.startLower g) (b.setRegion .pwm .safe).driveTrip))
  ∧ (∀ (train : Nat) (s : State),
      s.inMode .descent = true →
      s.mode.descentPrograms = true →
      s.allLowered = true →
      s.dead.entering = false →
      s.supply.phase = .running →
      ∃ t, exec (.descentComplete train) s = .next t ∧
        t = (let a := { s with mode := { s.mode with holdoffFrom := some s.now }, thermal := { s.thermal with lastDescent := s.since s.thermal.descentFrom } }; let b := ((a.commitEst true).commitAgeing).releaseOwn 8; match b.mode.descentTo with | .boot => b.restart 0x0070 train | .layup => b.beginLayup | _ => { (b.enterMode .moored 0x0070).networksDown with mode := { ((b.enterMode .moored 0x0070).networksDown).mode with online := false, wakeTimerFrom := some ((b.enterMode .moored 0x0070).networksDown).now, wakeServed := 0, stretchFrom := [], canAwakeSince := none } }))

/-- What the commands of the supply, the pins RST_N and POR and the AO clock do (spec/01_shelf_and_controller.md, spec/02_modes_startup_and_supply_loss.md, spec/11_faults_and_severity.md, spec/18_package_pins_and_electrical.md). -/
def Obligations.SupplyAndClock : Prop :=
  (∀ (pfw vao : Bool) (s : State),
      s.warnSources pfw vao ≠ 0 →
      s.supply.phase = .running →
      ∃ t, exec (.powerFailWarning pfw vao) s = .next t ∧
        t.supply.phase = .afterWarning ∧
        t.mode.online = false ∧
        t.mode.regions = [.on, .hold, .hold, .hold, .hold, .hold, .hold, .hold, .hold, .hold])
  ∧ (∀ (s : State),
      s.supply.phase = .running →
      ∃ t, exec .rstNAsserted s = .next t ∧
        t.supply.phase = .afterRst ∧
        t.mode.online = false ∧
        t.mode.regions = [.on, .hold, .hold, .hold, .hold, .hold, .hold, .hold, .hold, .hold])
  ∧ (∀ (train : Nat) (s : State),
      s.supply.phase = .afterRst →
      s.supply.warn = false →
      exec (.rstNReleased train) s = .next (({ s with supply := { s.supply with rstLow := false } } : State).restart 2 train))
  ∧ (∀ (train : Nat) (s : State),
      s.supply.phase = .afterWarning →
      s.supply.rstLow = false →
      exec (.supplyDipRestart train) s = .next ((s.clearing s.vaoKey).restart 3 train))
  ∧ (∀ (s : State),
      s.supply.phase = .running →
      s.inMode .layup = false →
      exec .counterBlockPeriodicCommit s = .next (s.commitCounters false))
  ∧ (∀ (s : State),
      ∃ t, exec .porAsserted s = .next t ∧
        t.supply.phase = .por ∧
        t.mode = {} ∧
        t.clock = {} ∧
        t.faults.active = [] ∧
        t.log.waiting = [] ∧
        t.pair.owns = false ∧
        t.cfg = [] ∧
        t.mem.mram = s.mem.mram ∧
        t.log.held = s.log.held)
  ∧ (∀ (s : State),
      s.clock.rc = false →
      ∃ t, exec .xtalFail s = .next t ∧
        (s.mayRaise s.oscKey = true → t.isActive s.oscKey = true) ∧
        t.clock = { s.clock with rc := true, running := false, retryAt := s.now })
  ∧ (∀ (runs : Bool) (s : State),
      s.clock.rc = true →
      s.elapsed s.clock.retryAt 1 = true →
      ∃ t, exec (.xtalRetry runs) s = .next t ∧
        t.clock = (if runs then { s.clock with rc := false, running := true, retryAt := s.now } else { s.clock with running := false, retryAt := s.now }) ∧
        (runs = true → ∀ a ∈ t.faults.active, a.key = s.oscKey → a.clearing.isSome = true))

/-- What the wakes from MOORED and the commands of lay-up do (spec/02_modes_startup_and_supply_loss.md, spec/03_measurement_path.md, spec/09_charging_blackstart_and_layup.md, spec/13_dictionary_networks_and_time.md, spec/14_two_wire_partners.md). -/
def Obligations.WakesAndLayup : Prop :=
  (∀ (s : State),
      s.asleep = true →
      s.dead.entering = false →
      s.heldOff = false →
      exec .wakeNWake s = .next (s.enterRise 0x50))
  ∧ (∀ (d : SrcPin) (s : State),
      s.asleep = true →
      s.srcQualified d = true →
      bit s.srcStart d.n = true →
      s.dead.entering = false →
      s.heldOff = false →
      exec (.srcdetWake d) s = .next (s.enterRise 0x51))
  ∧ (∀ (d : SrcPin) (s : State),
      s.srcQualified d = false →
      exec (.srcdetWake d) s = .next s)
  ∧ (∀ (p : Nat) (addr : Nat) (s : State),
      s.asleep = true →
      s.matches p addr = true →
      (s.portN p 5 == 1) = false →
      s.dead.entering = false →
      s.wakeStarts p = false →
      ∃ t, exec (.twAddressMatchWake p addr) s = .next t ∧
        t.mode.wakeServed = 0x52 ∧
        t = ({ s with mode := { s.mode with stretchFrom := (s.mode.stretchFrom.filter fun x => x.1 != p) ++ [(p, s.now)] } } : State).serveWake 0x52)
  ∧ (∀ (p : Nat) (since : Nat) (s : State),
      s.mode.stretchFrom.find? (fun x => x.1 == p) = some (p, since) →
      400 * ticksPerUs ≤ s.since since →
      s.regionOn .net = false →
      p < s.ports.length →
      ∃ t, exec (.twMatchStretchTimeout p) s = .next t ∧
        t.mode.stretchFrom = (s.mode.stretchFrom.filter fun x => x.1 != p) ∧
        (t.port p).lateWakes = (s.port p).lateWakes + 1 ∧
        (t.port p).nackNext = true ∧
        (s.mayRaise (s.key 1 0xFF (8 + p) 0) = true → t.isActive (s.key 1 0xFF (8 + p) 0) = true))
  ∧ (∀ (p : Nat) (s : State),
      s.asleep = true →
      s.part.has .can p = true →
      s.wakeOn (4 + p) = true →
      ∃ t, exec (.canWake p) s = .next t ∧
        t = (let u := s.wake 0x0053 (s.wakeStarts (4 + p)); if u.inMode .moored && !u.dead.entering then { (u.serveRegions true).canBack with mode := { (u.serveRegions true).canBack.mode with canAwakeSince := some (u.serveRegions true).canBack.now } } else u))
  ∧ (∀ (since : Nat) (s : State),
      s.mode.canAwakeSince = some since →
      s.inMode .moored = true →
      s.elapsed since 1 = true →
      exec .canRetentionTimeout s = .next { s.canDown.serveRegions false with mode := { (s.canDown.serveRegions false).mode with canAwakeSince := none } })
  ∧ (∀ (volts : List Rat) (codes : List Nat) (s : State),
      s.asleep = true →
      ∃ t, exec (.mooredAdcScan volts codes) s = .next t ∧
        t = (let r := s.mooredEntries volts false ((List.range s.adc.running.length).filter fun e => entryMoored (nth s.adc.running e 0)); let u := r.1.slot codes; if r.2 && u.wakeOn 6 then u.wake 0x0054 (u.wakeStarts 6) else u))
  ∧ (∀ (s : State),
      s.asleep = true →
      s.wakeOn 7 = true →
      exec .ownNReleaseWake s = .next (({ s with pair := { s.pair with netHigh := true } } : State).wake 0x0055 true))
  ∧ (∀ (since : Nat) (s : State),
      s.asleep = true →
      s.wakeOn 8 = true →
      s.mode.wakeTimerFrom = some since →
      s.elapsed since s.wakeTime = true →
      exec .aoWakeTimerExpired s = .next (({ s with mode := { s.mode with wakeTimerFrom := some s.now } } : State).wake 0x0056 (s.wakeStarts 8)))
  ∧ (∀ (underLoad : List Bool) (auxOpen : List Bool) (s : State),
      s.dead.entering = true →
      s.inModes [.moored, .descent] = true →
      s.railGroups.all (fun g => g.phase == .lowered) = true →
      s.supply.phase = .running →
      s.dead.wakePending = none →
      s.layupNext = none →
      ∃ t, exec (.layupEntry underLoad auxOpen) s = .next t ∧
        t.mode.mode = .layup ∧
        t.mode.cause = (if s.inMode .moored then 0x0010 else 0x0070) ∧
        t.supply.layupFlag = true ∧
        t.dead.layupEntries = s.dead.layupEntries + 1 ∧
        t.dead.entering = false ∧
        t.mode.online = false)
  ∧ (∀ (underLoad : List Bool) (auxOpen : List Bool) (k : Nat) (f : Nat) (s : State),
      s.dead.entering = true →
      s.inModes [.moored, .descent] = true →
      s.railGroups.all (fun g => g.phase == .lowered) = true →
      s.supply.phase = .running →
      s.layupNext = some k →
      s.dead.entryFrom = some f →
      s.now < f + 100 * ticksPerMs * s.dead.entryTurn + s.dead.entryShift →
      ∃ t, exec (.layupEntry underLoad auxOpen) s = .next t ∧
        t.mode = s.mode ∧
        t.dead.entering = true ∧
        (∀ n, (s.str n).contactor = true → t.str n = s.str n))
  ∧ (∀ (src : Option SrcPin) (train : Nat) (s : State),
      s.supply.phase = .running →
      src.all s.srcQualified = true →
      s.inMode .layup = true →
      exec (.layupWake src train) s = .next (({ s with dead := { s.dead with wakePending := some (if src.isNone then 0x0050 else 0x0051) } } : State).layupStart (if src.isNone then 0x0050 else 0x0051) train))

/-- What the commands of the loop engines do (spec/04_loop_engines_and_tide_table.md, spec/05_stages_pwm_and_fast_protection.md). -/
def Obligations.LoopEngines : Prop :=
  (∀ (lp : Nat) (errs : List (Nat × Nat × Bool)) (r : LoopRec) (s : State),
      s.loopRec lp = some r →
      s.instRuns lp = true →
      (s.inst lp).run = .idle →
      s.releaseDue r = true →
      exec (.instanceRelease lp errs) s = .next ((((s.toReady r).noteQueue r.engine).dispatch r.engine).startErrors r errs))
  ∧ (∀ (lp : Nat) (r : LoopRec) (s : State),
      s.loopRec lp = some r →
      (s.inst lp).run = .waiting →
      s.waitEnd r = s.now →
      exec (.depWaitEnd lp) s = .next (((s.endWait r).noteQueue r.engine).dispatch r.engine))
  ∧ (∀ (lp : Nat) (errs : List (Nat × Nat × Bool)) (r : LoopRec) (s : State),
      s.loopRec lp = some r →
      (s.inst lp).run = .running →
      s.runOver r = true →
      s.now ≤ (s.inst lp).commitAt →
      exec (.instanceRunEnd lp errs) s = .next (s.endRun r errs))
  ∧ (∀ (lp : Nat) (r : LoopRec) (s : State),
      s.loopRec lp = some r →
      s.commitDue lp = true →
      exec (.instanceCommit lp) s = .next (s.commitInst r))
  ∧ (∀ (s : State),
      s.tide.swap = 1 →
      (nth s.tide.banks (1 - s.tide.active) {}).valid = true →
      sameEngines s.variant (nth (nth s.tide.banks (1 - s.tide.active) {}).variants (variantFor (nth s.tide.banks (1 - s.tide.active) {}).variants s.tide.ageing) {}) = true →
      ∃ t, exec .idleBanksLoaded s = .next t ∧
        t.tide.swap = 2 ∧
        t.tide.active = s.tide.active ∧
        t.img.hitState = (if s.img.hitState = 3 then 4 else s.img.hitState))
  ∧ (∀ (s : State),
      s.regionOn .eng = true →
      s.variant.mode = 0 →
      s.tide.pulsed = true →
      s.frameBoundary = true →
      s.tide.swap ≠ 2 →
      ∃ t, exec .tideFrameBoundary s = .next t ∧
        t.tide.ageing = s.tide.ageingPending.getD s.tide.ageing ∧
        t.tide.ageingPending = none ∧
        t.tide.variant = variantFor s.bank.variants (s.tide.ageingPending.getD s.tide.ageing) ∧
        t.tide.active = s.tide.active ∧
        (t.tide.variant = s.tide.variant → t.insts = s.insts))
  ∧ (∀ (s : State),
      s.regionOn .eng = true →
      s.variant.mode = 0 →
      s.tide.pulsed = true →
      s.frameBoundary = true →
      s.tide.swap = 2 →
      ∃ t, exec .tideFrameBoundary s = .next t ∧
        t.tide.active = 1 - s.tide.active ∧
        t.tide.swap = 3)
  ∧ (∀ (st : Nat) (s : State),
      s.stageUsed st = true →
      s.tide.pulsed = true →
      s.pwmPowered = true →
      s.boundaryDue st = true →
      exec (.carrierBoundary st) s = .next (let u := (((s.dueMirrors (s.pair.periodIndex + b2n (s.boundaryDue s.variant.refStage))).boundary st).dueNews st).finishHitless; let v := u.tellStage st (u.boundaryPlace st); if st == v.variant.refStage && v.pair.snapWanted && v.pair.owns then v.sendSnapshot else v))

/-- What the commands of the stages and phases do (spec/05_stages_pwm_and_fast_protection.md). -/
def Obligations.StagesAndPhases : Prop :=
  (∀ (ph : Nat) (n : Nat) (s : State),
      s.stageOf ph = some n →
      s.pwmPowered = true →
      s.loadDue n ph = true →
      exec (.loadPoint ph) s = .next (s.loadPhase n ph))
  ∧ (∀ (ch : Chan) (st : Nat) (s : State),
      Safety.writable s ch (0x3000 + 256 * st) 7 [1] = true →
      s.stageStartStatus st = 0 →
      ∃ t, exec (.stageStart ch st) s = .next t ∧
        Safety.confirms t ch ∧
        t.stages = (s.applyStageStart st).stages ∧
        t.phases = (s.applyStageStart st).phases)
  ∧ (∀ (st : Nat) (s : State),
      s.softStartDone st = true →
      st < s.stages.length →
      ∃ t, exec (.softStartEnd st) s = .next t ∧
        (t.stage st).startStep = 5 ∧
        (t.stage st).rampOn = false ∧
        (t.stage st).prebias = false ∧
        (t.stage st).state = (if (s.stagePhases st).any (fun p => (s.phase p).dropped) then .degraded else .running) ∧
        (∀ n, n ≠ st → t.stage n = s.stage n))
  ∧ (∀ (ch : Chan) (st : Nat) (s : State),
      Safety.writable s ch (0x3000 + 256 * st) 7 [0] = true →
      ∃ t, exec (.stageStop ch st) s = .next t ∧
        Safety.confirms t ch ∧
        t.stages = (s.applyStageStop st).stages ∧
        t.phases = (s.applyStageStop st).phases)
  ∧ (∀ (bad : List Bool) (s : State),
      s.pwmPowered = true →
      exec (.delayLineCalibration bad) s = .next (forUnits (List.range 24) (fun t p => t.calibrate bad p) s))
  ∧ (∀ (ch : Chan) (ph : Nat) (s : State),
      Safety.writable s ch (0x3800 + ph) 4 [0] = true →
      ∃ t, exec (.phaseDrop ch ph) s = .next t ∧
        Safety.confirms t ch ∧
        t.phases = (s.dropPhase ph 4).phases ∧
        t.stages = (s.dropPhase ph 4).stages)
  ∧ (∀ (ch : Chan) (ph : Nat) (s : State),
      Safety.writable s ch (0x3800 + ph) 4 [1] = true →
      s.phaseReturnStatus ph = 0 →
      ∃ t, exec (.phaseReturn ch ph) s = .next t ∧
        Safety.confirms t ch ∧
        t.phases = (s.returnPhase ph).phases ∧
        t.stages = (s.returnPhase ph).stages)
  ∧ (∀ (st : Nat) (b : Nat) (s : State),
      bits (nth (s.stage st).bindings b 0) 13 2 ≠ 0 →
      (if bit (nth (s.stage st).bindings b 0) 15 then (s.modIn (bits (nth (s.stage st).bindings b 0) 16 8)).low else (s.modIn (bits (nth (s.stage st).bindings b 0) 16 8)).high) = true →
      s.suspended (bits (nth (s.stage st).bindings b 0) 16 8) = false →
      s.regionOn .pwm = true →
      exec (.breakwaterTruncation st b) s = .next (forUnits (if bit (nth (s.stage st).bindings b 0) 12 then s.runningPhases st else (s.runningPhases st).filter fun p => p == bits (nth (s.stage st).bindings b 0) 0 5) (fun t p => t.breakwaterPhase st p (bits (nth (s.stage st).bindings b 0) 13 2)) s))
  ∧ (∀ (ph : Nat) (n : Nat) (s : State),
      s.stageOf ph = some n →
      s.fenderAction n ph ≠ 0 →
      ∃ t, exec (.fenderTruncation ph) s = .next t ∧
        (s.mayRaise (s.key 4 n ph 2) = true → t.isActive (s.key 4 n ph 2) = true))
  ∧ (∀ (s : State),
      ∃ t, exec .estopAsserted s = .next t ∧
        (s.mayRaise (s.key 4 0xFF 0 0) = true → t.isActive (s.key 4 0xFF 0 0) = true) ∧
        t.mode.estopLow = true)
  ∧ (∀ (s : State),
      ∃ t, exec .tripReadbackFault s = .next t ∧
        (s.mayRaise (s.key 4 0xFF 1 0) = true → t.isActive (s.key 4 0xFF 1 0) = true))
  ∧ (∀ (ph : Nat) (n : Nat) (s : State),
      s.stageOf ph = some n →
      ∃ t, exec (.driveReadbackFault ph) s = .next t ∧
        (s.mayRaise (s.key 4 n ph 4) = true → t.isActive (s.key 4 n ph 4) = true))
  ∧ (∀ (st : Nat) (s : State),
      s.holdDue st = true →
      st < s.stages.length →
      ∃ t, exec (.holdWatchExpired st) s = .next t ∧
        (t.stage st).hold = true ∧
        (t.stage st).holdSince = s.now)
  ∧ (∀ (st : Nat) (s : State),
      (s.stage st).hold = true →
      s.objN (0x3000 + 256 * st) 0x10 * ticksPerUs ≤ s.since (s.stage st).holdSince →
      ∃ t, exec (.holdLimitExpired st) s = .next t ∧
        (s.mayRaise (s.key 4 0xFF 2 0) = true → t.isActive (s.key 4 0xFF 2 0) = true))

/-- What the commands of set points, repetitive controllers and observers do (spec/06_setpoints_disturbance_and_plausibility.md). -/
def Obligations.SetPoints : Prop :=
  (∀ (ch : Chan) (n : Nat) (v : BitVec 32) (s : State),
      Safety.writable s ch (0x3B00 + n) 2 (leBytes 4 v.toNat) = true →
      s.targetStatus n v = 0 →
      ∃ t, exec (.pgTargetWrite ch n v) s = .next t ∧
        Safety.confirms t ch ∧
        t.pgs = (s.acceptTarget n v).pgs ∧
        t.cfg = (s.acceptTarget n v).cfg)
  ∧ (∀ (n : Nat) (s : State),
      s.rcRuns n = true →
      exec (.rcUpdate n) s = .next (s.rcStep n))
  ∧ (∀ (n : Nat) (s : State),
      s.rcRuns n = true →
      (s.rc n).wrapped = true →
      ∃ t, exec (.rcPhaseWrap n) s = .next t ∧
        t = (let u := s.rcRms n; let v := if u.tracks then u else u.rcPeriod n; v.tell (.rc n (v.rc n).phase (if (v.rc n).locked then (v.rc n).period else 0))))
  ∧ (∀ (n : Nat) (s : State),
      s.rcRuns n = true →
      s.rcUsesRef n = true →
      s.elapsed (s.rc n).refAt (s.objR (0x3C00 + n) 6) = true →
      (s.rc n).locked = false →
      n < s.rcs.length →
      ∃ t, exec (.rcRefTimeout n) s = .next t ∧
        (s.mayRaise (s.key 3 0xFF (0x10 + n) 3) = true → t.isActive (s.key 3 0xFF (0x10 + n) 3) = true) ∧
        (t.rc n).refStale = true)
  ∧ (∀ (n : Nat) (s : State),
      s.rcRuns n = true →
      (s.rc n).locked = true →
      s.elapsed (s.rc n).acceptedAt (3 * (s.rc n).period) = true →
      s.tracks = false →
      n < s.rcs.length →
      ∃ t, exec (.rcUnlockTimeout n) s = .next t ∧
        (s.mayRaise (s.key 3 0xFF (0x10 + n) 2) = true → t.isActive (s.key 3 0xFF (0x10 + n) 2) = true) ∧
        (t.rc n).locked = false)
  ∧ (∀ (ch : Chan) (n : Nat) (v : Nat) (s : State),
      Safety.writable s ch (0x3C00 + n) 0x16 (leBytes 1 v) = true →
      v = 1 →
      n < s.rcs.length →
      ∃ t, exec (.rcReset ch n v) s = .next t ∧
        Safety.confirms t ch ∧
        t.rcs = (s.applyRcReset n).rcs ∧
        (t.rc n).diverged = false)
  ∧ (∀ (st : Nat) (s : State),
      s.stageUsed st = true →
      s.part.has .stage st = true →
      s.tide.pulsed = true →
      s.regionOn .eng = true →
      ∃ t, exec (.observerRun st) s = .next t ∧
        t = (let u := s.obsMeasure st; if u.tracks then u.obsTrack st else (u.obsAct st).tellStage st ((u.obsAct st).boundaryPlace st + (u.obsAct st).carrierPeriod st)))
  ∧ (∀ (ph : Nat) (st : Nat) (s : State),
      s.stageOf ph = some st →
      (nth (s.observer st).ph (ph - s.stageFirst st) {}).subst = true →
      s.objN (0x3D00 + st) 2 = 1 →
      s.objR (0x3D00 + st) 0x0D ≤ (nth (s.observer st).ph (ph - s.stageFirst st) {}).substTime →
      s.tracks = false →
      exec (.substitutionExpired ph) s = .next (s.obsDrop st (ph - s.stageFirst st) 2))

/-- What the commands of the power manager do (spec/07_shelf_power_management_and_feeds.md). -/
def Obligations.PowerManager : Prop :=
  (∀ (s : State),
      s.spmRuns = true →
      ticksPerMs ≤ s.since s.spm.lastUpdate →
      exec .spmUpdate s = .next s.spmUpdate.tellUpdate)
  ∧ (∀ (s : State),
      s.spmRuns = true →
      exec .spmRecompute s = .next s.spmCompute)
  ∧ (∀ (s : State),
      s.regionOn .sup = true →
      s.coresHalted = false →
      s.inMode .track = false →
      s.pair.owns = true →
      ∃ t, exec .droopTrimUpdate s = .next t ∧
        t = (let u := forUnits (List.range 64) (fun t b => t.trimBerth b) (forUnits (List.range 64) (fun t b => t.shareBerth b) { s with spm := { s.spm with grantHeld := false } }); u.spmDetail 5 (u.spm.trimAtMax.any fun t => u.heldFor t 1)))
  ∧ (∀ (ch : Chan) (ph : Nat) (v : BitVec 32) (s : State),
      Safety.writable s ch 0x4504 (1 + ph) (leBytes 4 v.toNat) = true →
      s.mayWriteCommon = true →
      ∃ t, exec (.phaseShareTrimWrite ch ph v) s = .next t ∧
        Safety.confirms t ch ∧
        t.spm = (s.applyShareTrim ph (F32.toRat v)).spm)
  ∧ (∀ (s : State),
      s.inputLossDue = true →
      s.coresHalted = false →
      exec .inputLoss s = .next s.declareInputLoss)
  ∧ (∀ (s : State),
      s.inMode .holdup = true →
      s.spm.supply = .handover →
      s.dwellOver = true →
      s.elapsed s.spm.supplySince (s.objR 0x4501 6) = true →
      exec .handoverEnd s = .next ((s.enterSupply .battery).carryStep.spmCompute))
  ∧ (∀ (src : Nat) (s : State),
      src < 2 →
      s.objN (0x4400 + 16 * src) 2 = 1 →
      s.heldFor (s.feed src).goodSince (1 / 2) = true →
      s.feedFaulty src = false →
      src < s.feeds.length →
      ∃ t, exec (.sourceQualified src) s = .next t ∧
        (t.feed src).qualified = true ∧
        (t.feed src).lost = false ∧
        (∀ f, f ≠ src → t.feed f = s.feed f))
  ∧ (∀ (ch : Chan) (v : Nat) (s : State),
      Safety.writable s ch 0x4501 2 (leBytes 1 v) = true →
      s.handbackStatus v = 0 →
      ∃ t, exec (.handbackCommand ch v) s = .next t ∧
        Safety.confirms t ch ∧
        t.spm = { s.spm with hbRequested := v == 1 })
  ∧ (∀ (src : Nat) (rest : List Nat) (s : State),
      s.handbackSources = src :: rest →
      s.inMode .holdup = true →
      s.spm.supply = .battery →
      s.dwellOver = true →
      s.spm.hbRequested = true →
      exec .handbackStart s = .next (s.startHandback src))
  ∧ (∀ (s : State),
      s.inMode .holdup = true →
      s.spm.supply = .handback →
      s.spm.hbStep = .ramping →
      s.elapsed s.spm.hbRampFrom (s.objR 0x4501 7) = true →
      ∃ t, exec .handbackRampEnd s = .next t ∧
        t = (let u := { s.enterSupply .source with spm := { (s.enterSupply .source).spm with handbacks := (s.enterSupply .source).spm.handbacks + 1, grantHeld := true } }; let v := (u.spmDetail 4 false).spmDetail 6 false; (v.enterActive 0x0031).retargetBus (v.spmR 2)))

/-- What the commands of the feeds do (spec/07_shelf_power_management_and_feeds.md). -/
def Obligations.FeedCommands : Prop :=
  (∀ (f : Nat) (s : State),
      f < 2 →
      f < s.feeds.length →
      s.feedEnabled f = true →
      (s.feed f).gate = false →
      (s.feed f).qualified = true →
      (s.feed f).shed = false →
      s.feedAllowed f = true →
      s.pair.owns = true →
      s.heldFor (s.feed f).fwdSince (1 / 10000) = true →
      ∃ t, exec (.feedGateOn f) s = .next t ∧
        (t.feed f).gate = true ∧
        (t.feed f).gateAt = s.now ∧
        (t.feed f).reverseOff = false ∧
        (∀ g, g ≠ f → t.feed g = s.feed g))
  ∧ (∀ (f : Nat) (s : State),
      f < 2 →
      (s.feed f).gate = true →
      s.currLow f = true →
      ∃ t, exec (.feedReverseOff f) s = .next t ∧
        (s.mayRaise (s.feedKey f 1) = true → t.isActive (s.feedKey f 1) = true) ∧
        t = ((s.gateOff f).setFeed f { (s.gateOff f).feed f with reverseOff := true, reverses := ((s.gateOff f).feed f).reverses + 1, fwdSince := none }).raiseFeed f 1 0)
  ∧ (∀ (f : Nat) (s : State),
      f < 2 →
      s.feedEnabled f = true →
      s.voltLow f = true →
      exec (.feedLost f) s = .next (s.loseFeed f 2))
  ∧ (∀ (ch : Chan) (f : Nat) (s : State),
      Safety.writable s ch (0x4400 + 16 * f) 2 [1] = true →
      s.feedEnableStatus f 1 = 0 →
      ∃ t, exec (.feedEnableOn ch f) s = .next t ∧
        Safety.confirms t ch ∧
        t.feeds = (s.applyFeedOn f).feeds ∧
        t.cfg = (s.applyFeedOn f).cfg)
  ∧ (∀ (ch : Chan) (f : Nat) (s : State),
      Safety.writable s ch (0x4400 + 16 * f) 2 [0] = true →
      s.feedEnableStatus f 0 = 0 →
      f < s.feeds.length →
      ∃ t, exec (.feedEnableOff ch f) s = .next t ∧
        Safety.confirms t ch ∧
        (t.feed f).on = false ∧
        (t.feed f).gate = false ∧
        (t.feed f).retries = 0 ∧
        t.cfg = storePut (objKey (0x4400 + 16 * f) 2) (leBytes 1 0) s.cfg)
  ∧ (∀ (f : Nat) (s : State),
      2 ≤ f →
      s.pair.owns = true →
      f < s.feeds.length →
      (s.feed f).inrush = true →
      (s.feed f).gate = true →
      s.currHigh f = true →
      ∃ t, exec (.inrushChop f) s = .next t ∧
        (t.feed f).gate = false ∧
        (t.feed f).chopAt = some s.now ∧
        (∀ g, g ≠ f → t.feed g = s.feed g))
  ∧ (∀ (f : Nat) (at0 : Nat) (s : State),
      f < s.feeds.length →
      s.pair.owns = true →
      (s.feed f).chopAt = some at0 →
      (s.feed f).inrush = true →
      s.feedN f 0x14 * ticksPerUs ≤ s.since at0 →
      ∃ t, exec (.inrushOffExpired f) s = .next t ∧
        (t.feed f).gate = true ∧
        (t.feed f).chopAt = none ∧
        (∀ g, g ≠ f → t.feed g = s.feed g))
  ∧ (∀ (f : Nat) (s : State),
      2 ≤ f →
      s.pair.owns = true →
      (s.feed f).inrush = true →
      s.feedN f 0x15 * ticksPerMs ≤ s.since (s.feed f).inrushFrom →
      exec (.inrushTimeout f) s = .next (s.tripFeed f 6))
  ∧ (∀ (f : Nat) (s : State),
      f < 4 →
      f < s.feeds.length →
      ∃ t, exec (.gateConfirmExpired f) s = .next t ∧
        (t.feed f).gon = true ∧
        (t.feed f).gonSince = s.now ∧
        (∀ g, g ≠ f → t.feed g = s.feed g))
  ∧ (∀ (f : Nat) (s : State),
      (s.feed f).gate = true →
      (s.feed f).confirmed = false →
      10 * s.feedN f 0x0F * ticksPerUs ≤ s.since (s.feed f).gateAt →
      ∃ t, exec (.gateConfirmTimeout f) s = .next t ∧
        (s.mayRaise (s.feedKey f 0) = true → t.isActive (s.feedKey f 0) = true) ∧
        t = s.raiseFeed f 0 0)
  ∧ (∀ (f : Nat) (s : State),
      f < 4 →
      (s.feed f).gate = false →
      ∃ t, exec (.gateStuckOn f) s = .next t ∧
        (s.mayRaise (s.feedKey f 0) = true → t.isActive (s.feedKey f 0) = true) ∧
        t = (s.setFeed f { s.feed f with gon := true, gonSince := s.now }).raiseFeed f 0 1)
  ∧ (∀ (f : Nat) (s : State),
      f < s.feeds.length →
      ∃ t, exec (.gateFeedbackLost f) s = .next t ∧
        (t.feed f).gon = false ∧
        (t.feed f).pg = false ∧
        (∀ g, g ≠ f → t.feed g = s.feed g))
  ∧ (∀ (f : Nat) (s : State),
      2 ≤ f →
      (s.feed f).gate = true →
      (s.feed f).inrush = false →
      s.currHigh f = true →
      exec (.feedShort f) s = .next (s.tripFeed f 4))
  ∧ (∀ (f : Nat) (s : State),
      s.retryDue f = true →
      exec (.feedRetry f) s = .next ((s.setFeed f { s.feed f with retries := (s.feed f).retries + 1 }).switchOn f))
  ∧ (∀ (f : Nat) (s : State),
      f < s.feeds.length →
      (s.feed f).on = true →
      (s.feed f).inrush = false →
      s.elapsed (s.feed f).runSince 60 = true →
      ∃ t, exec (.feedRetryReset f) s = .next t ∧
        (t.feed f).retries = 0 ∧
        (∀ g, g ≠ f → t.feed g = s.feed g))
  ∧ (∀ (f : Nat) (s : State),
      f < 4 →
      s.elapsed (s.feed f).validAt (1 / 100) = true →
      ∃ t, exec (.meterTimeout f) s = .next t ∧
        (s.mayRaise (s.feedKey f 7) = true → t.isActive (s.feedKey f 7) = true) ∧
        t = (s.setFeed f { s.feed f with meterStopped := true }).raiseFeed f 7 0)

/-- What the commands of the strings do (spec/08_battery_string_estimation.md). -/
def Obligations.StringCommands : Prop :=
  (∀ (k : Nat) (s : State),
      s.strUsed k = true →
      259200 ≤ s.anchorAge k →
      ((s.estOf k).unanchored && s.isActive (s.strKey k 0x0A)) = false →
      ∃ t, exec (.unanchoredTimeout k) s = .next t ∧
        (s.mayRaise (s.strKey k 0x0A) = true → t.isActive (s.strKey k 0x0A) = true) ∧
        t = (if (s.estOf k).unanchored then s else s.setEst k { s.estOf k with unanchored := true, unanchoredAt := s.now }).raise (s.strKey k 0x0A) 0)
  ∧ (∀ (k : Nat) (s : State),
      s.strUsed k = true →
      s.probeWanted k = true →
      s.inMode .track = false →
      ∃ t, exec (.probeStart k) s = .next t ∧
        t = (if s.spm.supply == .source && s.inSharing k && s.sharers.any (· != k) && !s.probeOrWindow && s.probeFits k then ({ s.setStr k { s.str k with probeState := 2, probeMark := (s.str k).mark } with spm := { (s.setStr k { s.str k with probeState := 2, probeMark := (s.str k).mark }).spm with probe := some (k, ((s.setStr k { s.str k with probeState := 2, probeMark := (s.str k).mark }).str k).probeNeg, (s.setStr k { s.str k with probeState := 2, probeMark := (s.str k).mark }).now) } } : State).spmCompute else s.setStr k { s.str k with probeState := 1 }))
  ∧ (∀ (k : Nat) (neg : Bool) (since : Nat) (s : State),
      s.spm.probe = some (k, neg, since) →
      s.elapsed since 12 = true →
      ∃ t, exec .probeShiftEnd s = .next t ∧
        t = ({ s.setStr k { s.str k with probeState := 0, probeCount := (s.str k).probeCount + 1, probeNeg := !(s.str k).probeNeg } with spm := { s.spm with probe := none } } : State).spmCompute)
  ∧ (∀ (ch : Chan) (k : Nat) (s : State),
      Safety.writable s ch (0x5006 + 256 * k) 5 [1] = true →
      s.mayWriteCommon = true →
      s.probeOrWindow = false →
      ∃ t, exec (.slackRequest ch k) s = .next t ∧
        Safety.confirms t ch ∧
        t.strs = ((s.setObjN (0x5006 + 256 * k) 5 1 1).requestSlack k false).strs)
  ∧ (∀ (k : Nat) (s : State),
      s.strUsed k = true →
      (s.estOf k).unanchored = true →
      s.objN (0x5006 + 256 * k) 7 = 1 →
      (s.str k).slack.runs = false →
      s.inMode .track = false →
      (s.str k).lastAuto = none →
      exec (.slackAutoRequest k) s = .next ((s.setStr k { s.str k with lastAuto := some s.now }).requestSlack k false))
  ∧ (∀ (ch : Chan) (k : Nat) (s : State),
      Safety.writable s ch (0x5006 + 256 * k) 5 [2] = true →
      s.slackAbortStatus k = 0 →
      ∃ t, exec (.slackAbort ch k) s = .next t ∧
        Safety.confirms t ch ∧
        t.strs = ((s.setObjN (0x5006 + 256 * k) 5 1 2).abortSlack k).strs)
  ∧ (∀ (k : Nat) (s : State),
      (s.str k).slack = .rampDown →
      s.elapsed (s.str k).slackFrom 10 = true →
      exec (.slackRampDownEnd k) s = .next ((s.setStr k { s.str k with slack := .rest }).spmCompute))
  ∧ (∀ (k : Nat) (s : State),
      (s.str k).slack = .rest →
      s.elapsed (s.str k).slackFrom 1190 = true →
      exec (.slackRestPoint k) s = .next (s.slackPoint k))
  ∧ (∀ (k : Nat) (s : State),
      k < s.strs.length →
      (s.str k).slack = .rampUp →
      s.elapsed (s.str k).slackUpFrom 10 = true →
      ∃ t, exec (.slackComplete k) s = .next t ∧
        (t.str k).slack = .complete ∧
        (t.str k).slackDone = (s.str k).slackDone + 1 ∧
        (∀ n, n ≠ k → t.str n = s.str n))
  ∧ (∀ (k : Nat) (s : State),
      (s.str k).slack.out = true →
      s.heldFor (s.str k).marginBadSince 1 = true →
      exec (.slackConditionAbort k) s = .next (s.abortSlack k))
  ∧ (∀ (k : Nat) (s : State),
      s.heldFor (s.str k).refusedSince 86400 = true →
      ∃ t, exec (.slackRefusalTimeout k) s = .next t ∧
        (s.mayRaise (s.strKey k 0x0B) = true → t.isActive (s.strKey k 0x0B) = true))
  ∧ (∀ (ch : Chan) (k : Nat) (v : Nat) (s : State),
      Safety.writable s ch (0x5005 + 256 * k) 0x0C (leBytes 1 v) = true →
      s.replacedStatus k v = 0 →
      ∃ t, exec (.stringReplaced ch k v) s = .next t ∧
        Safety.confirms t ch ∧
        t.strs = (s.replaceString k).strs)
  ∧ (∀ (s : State),
      s.regionOn .sup = true →
      exec .estimatorCommit s = .next (s.commitEst false))
  ∧ (∀ (k : Nat) (which : Nat) (s : State),
      s.estRuns k = true →
      which = 0 →
      s.elapsed (s.estOf k).iAt (1 / 100) = true →
      ∃ t, exec (.stringInputTimeout k which) s = .next t ∧
        (s.mayRaise (s.strKey k 1) = true → t.isActive (s.strKey k 1) = true))
  ∧ (∀ (k : Nat) (s : State),
      s.strUsed k = true →
      30 * ticksPerMs ≤ s.since (s.str k).contactorAt →
      ∃ t, exec (.auxContactMismatch k) s = .next t ∧
        (s.mayRaise (s.strKey k 4) = true → t.isActive (s.strKey k 4) = true))
  ∧ (∀ (k : Nat) (s : State),
      k < s.strs.length →
      (s.str k).shed = true →
      (s.str k).contactor = true →
      10 * ticksPerMs ≤ s.since (s.str k).shedAt →
      ∃ t, exec (.stringShedOpen k) s = .next t ∧
        (t.str k).contactor = false ∧
        (t.str k).connected = false ∧
        (t.str k).openedAt = s.opMs ∧
        (∀ n, n ≠ k → t.str n = s.str n))

/-- What the commands of the estimators, of charging and of the black start do (spec/08_battery_string_estimation.md, spec/09_charging_blackstart_and_layup.md). -/
def Obligations.ChargeAndBlackstart : Prop :=
  (∀ (k : Nat) (s : State),
      s.estRuns k = true →
      s.coresHalted = false →
      ticksPerS ≤ s.since (s.estOf k).stepAt →
      exec (.estimatorStep k) s = .next (((s.estStep k).chargeStep k).tellString k))
  ∧ (∀ (ch : Chan) (k : Nat) (s : State),
      Safety.writable s ch (0x5810 + k) 3 [1] = true →
      s.mayWriteCommon = true →
      ∃ t, exec (.chargeCommandStart ch k) s = .next t ∧
        Safety.confirms t ch ∧
        t.chargers = (s.applyChargeStart k).chargers)
  ∧ (∀ (ch : Chan) (k : Nat) (s : State),
      Safety.writable s ch (0x5810 + k) 3 [2] = true →
      s.chargeStopStatus k = 0 →
      ∃ t, exec (.chargeCommandStop ch k) s = .next t ∧
        Safety.confirms t ch ∧
        t.chargers = (s.applyChargeStop k).chargers)
  ∧ (∀ (k : Nat) (s : State),
      (s.charger k).phase = .pulse →
      (s.charger k).inRest = false →
      (s.charger k).paused = false →
      s.inMode .track = false →
      s.elapsed (s.charger k).pulseFrom (s.chR k 8) = true →
      exec (.pulseEnd k) s = .next ((s.setCharger k { s.charger k with inRest := true, loaded := !s.slackMargin k (s.peakRef k false) (s.peakRef k true), restFrom := s.now, restHist := [], vPeTaken := false }).spmCompute))
  ∧ (∀ (k : Nat) (s : State),
      (s.charger k).phase = .pulse →
      (s.charger k).inRest = true →
      (s.charger k).paused = false →
      s.inMode .track = false →
      s.elapsed (s.charger k).restFrom (s.chR k 9) = true →
      exec (.restEnd k) s = .next (s.endRest k))
  ∧ (∀ (k : Nat) (s : State),
      (s.charger k).phase = .bulk →
      ((s.nomTime k : Nat) : Rat) ≤ (s.charger k).ts →
      (s.charger k).rate = 1 →
      s.inMode .track = false →
      exec (.chargeTimerExpired k) s = .next ((s.raiseCharger k 2).endCycle k 4))
  ∧ (∀ (k : Nat) (s : State),
      (s.charger k).phase.cycling = true →
      (s.charger k).paused = true →
      s.inMode .track = false →
      s.elapsed (s.charger k).pausedAt 3600 = true →
      exec (.chargePauseTimeout k) s = .next ((s.raiseCharger k 3).endCycle k 5))
  ∧ (∀ (ch : Chan) (k : Nat) (s : State),
      Safety.writable s ch (0x5810 + k) 4 [1] = true →
      s.mayWriteCommon = true →
      s.objN 0x5800 1 ≠ 0 →
      ∃ t, exec (.eqRequest ch k) s = .next t ∧
        Safety.confirms t ch ∧
        t.chargers = (s.applyEqRequest k).chargers)
  ∧ (∀ (ch : Chan) (k : Nat) (s : State),
      Safety.writable s ch (0x5810 + k) 4 [2] = true →
      s.eqAbortStatus k = 0 →
      ∃ t, exec (.eqAbort ch k) s = .next t ∧
        Safety.confirms t ch ∧
        t.chargers = (s.applyEqAbort k).chargers)
  ∧ (∀ (k : Nat) (s : State),
      (s.charger k).phase = .finalRest →
      (s.str k).slack.runs = false →
      s.inMode .track = false →
      s.elapsed (s.charger k).restFromFinal 3600 = true →
      exec (.finalRestSkip k) s = .next (s.completeCycle k true))
  ∧ (∀ (s : State),
      s.inMode .blackstart = true →
      s.dead.bsState = 1 →
      s.bsInside = true →
      ∃ t, exec .bsInWindow s = .next t ∧
        t.dead = { s.dead with bsState := 2, bsInSince := some s.now })
  ∧ (∀ (s : State),
      s.inMode .blackstart = true →
      s.dead.bsState = 2 →
      s.bsInside = true →
      s.heldFor s.dead.bsInSince (s.objR 0x5900 5) = true →
      exec .bsSettleExpired s = .next (({ s with dead := { s.dead with bsState := 3, bsTime := secOf (s.since s.dead.bsFrom), bsInSince := none } } : State).enterActive 0x0034))
  ∧ (∀ (s : State),
      s.inMode .blackstart = true →
      s.elapsed s.dead.bsFrom (s.objR 0x5900 6) = true →
      ∃ t, exec .bsTimeout s = .next t ∧
        (s.mayRaise (s.key 2 0xFF 4 2) = true → t.isActive (s.key 2 0xFF 4 2) = true) ∧
        t.dead.bsState = 4 ∧
        t.dead.bsFailures = s.dead.bsFailures + 1)

/-- What the instructions of the sequencer and the commands of the rails do (spec/10_rails_temperature_and_ageing.md). -/
def Obligations.RailPrograms : Prop :=
  (∀ (g : Nat) (pins : Nat) (s : State),
      (s.seePins pins).seqAt g 0 = true →
      (s.seePins pins).rising g = true →
      ((s.seePins pins).railGroup g).abortPending = false →
      exec (.seqEnd g pins) s = .next ((s.seePins pins).groupRisen g))
  ∧ (∀ (g : Nat) (pins : Nat) (s : State),
      (s.seePins pins).seqAt g 1 = true →
      (s.seePins pins).rising g = true →
      ((s.seePins pins).parents ((s.seePins pins).seqTarget g)).all (s.seePins pins).railGood = true →
      exec (.seqOn g pins) s = .next ((if (s.seePins pins).railKind ((s.seePins pins).seqTarget g) = 1 then (s.seePins pins) else (s.seePins pins).switchRailOn ((s.seePins pins).seqTarget g)).seqNext g ((s.seePins pins).aoTick + 1)))
  ∧ (∀ (g : Nat) (pins : Nat) (s : State),
      (s.seePins pins).seqAt g 2 = true →
      (s.seePins pins).rising g = false →
      ((s.seePins pins).rail ((s.seePins pins).seqTarget g)).on = true →
      ((s.seePins pins).railKind ((s.seePins pins).seqTarget g) == 1) = false →
      exec (.seqOff g pins) s = .next (((s.seePins pins).switchRailOff ((s.seePins pins).seqTarget g) 2).seqNext g ((s.seePins pins).aoTick + 1)))
  ∧ (∀ (g : Nat) (pins : Nat) (s : State),
      (s.seePins pins).seqAt g 3 = true →
      (s.seePins pins).rising g = true →
      (s.seePins pins).railGood ((s.seePins pins).seqTarget g) = true →
      exec (.seqWaitgood g pins) s = .next (((s.seePins pins).railRose ((s.seePins pins).seqTarget g)).seqNext g ((s.seePins pins).aoTick + 1)))
  ∧ (∀ (g : Nat) (pins : Nat) (s : State),
      (s.seePins pins).seqAt g 4 = true →
      (s.seePins pins).rising g = false →
      (s.seePins pins).railIsLow ((s.seePins pins).seqTarget g) = true →
      exec (.seqWaitlow g pins) s = .next (((s.seePins pins).setRail ((s.seePins pins).seqTarget g) { (s.seePins pins).rail ((s.seePins pins).seqTarget g) with phase := .off }).seqNext g ((s.seePins pins).aoTick + 1)))
  ∧ (∀ (g : Nat) (pins : Nat) (s : State),
      (s.seePins pins).seqAt g 5 = true →
      ((s.seePins pins).railGroup g).nextAt + max 1 ((s.seePins pins).seqTicks g) ≤ (s.seePins pins).aoTick + 1 →
      exec (.seqDelay g pins) s = .next ((s.seePins pins).seqNext g (((s.seePins pins).railGroup g).nextAt + max 1 ((s.seePins pins).seqTicks g))))
  ∧ (∀ (g : Nat) (pins : Nat) (s : State),
      (s.seePins pins).seqAt g 6 = true →
      (s.seePins pins).rising g = true →
      ((s.seePins pins).railGroup (bits ((s.seePins pins).seqWord g) 23 2)).phase = .risen →
      ((s.seePins pins).railGroup (bits ((s.seePins pins).seqWord g) 23 2)).seenAt ≤ (s.seePins pins).aoTick →
      exec (.seqWaitgroup g pins) s = .next ((s.seePins pins).seqNext g ((s.seePins pins).aoTick + 1)))
  ∧ (∀ (g : Nat) (pins : Nat) (s : State),
      (s.seePins pins).seqAt g 7 = true →
      exec (.seqMark g pins) s = .next (((s.seePins pins).setRailGroup g { (s.seePins pins).railGroup g with marker := bits ((s.seePins pins).seqWord g) 0 8 }).seqNext g ((s.seePins pins).aoTick + 1)))
  ∧ (∀ (r : Nat) (s : State),
      s.regionOn .eng = true →
      s.pair.owns = true →
      s.inMode .descent = false →
      s.stageRailsWaiting.head? = some r →
      (s.parents r).all (fun j => (s.rail j).phase == .good) = true →
      exec (.stageRailStart r) s = .next ((s.switchRailOn r).autoStart (s.railTarget r)))
  ∧ (∀ (r : Nat) (s : State),
      s.railUsed r = true →
      s.railKind r = 1 →
      (s.rail r).phase = .rising →
      s.stageRailLimit r ≤ s.since (s.rail r).onAt →
      exec (.stageRailRiseTimeout r) s = .next (s.riseFailure r 0x0A))
  ∧ (∀ (r : Nat) (detail : Nat) (s : State),
      s.railRuns r = true →
      s.railFaultHolds r detail = true →
      (s.activeOf (s.railKey r 2)).isNone = true →
      ∃ t, exec (.railRunFault r detail) s = .next t ∧
        t = (let a := s.tellPin r detail; let b := a.setRail r { a.rail r with runFaults := (a.rail r).runFaults + 1, lastFault := detail }; (b.raise (b.railKey r 2) detail).forceAllOff))
  ∧ (∀ (r : Nat) (detail : Nat) (s : State),
      s.inMode .moored = true →
      s.railUsed r = true →
      (s.railGroup (s.railGroupOf r)).kept = true →
      ((s.rail r).on || s.railKind r == 3) = true →
      s.mooredFaultHolds r detail = true →
      ∃ t, exec (.mooredRailFault r detail) s = .next t ∧
        t = (let a := s.tellPin r detail; let b := a.setRail r { a.rail r with runFaults := (a.rail r).runFaults + 1, lastFault := detail }; let c := b.forceAllOff; let d := { c with railGroups := c.railGroups.map fun (g : RailGroup) => { g with kept := false } }; let e := d.enterMode .moored 0x0054; let f : State := { e with mode := { e.mode with wakeServed := 0x0054 }, thermal := { e.thermal with mooredFault := some (r, detail) } }; if f.regionOn .sup then ({ f with thermal := { f.thermal with mooredFault := none } } : State).raise (f.railKey r 2) detail else f))
  ∧ (∀ (r : Nat) (detail : Nat) (s : State),
      s.inMode .descent = true →
      s.railUsed r = true →
      (s.rail r).on = true →
      s.railFaultHolds r detail = true →
      exec (.railDescentFault r detail) s = .next (if detail = 5 then (s.tellPin r detail).descentOver r else (s.tellPin r detail).descentFault r detail))
  ∧ (∀ (r : Nat) (s : State),
      s.inMode .descent = true →
      s.railUsed r = true →
      s.railOver r = true →
      s.overTaken r = false →
      ∃ t, exec (.railDescentOvervoltage r) s = .next t ∧
        t = ((s.setRail r { s.rail r with ovs := (s.rail r).ovs + 1, descFaults := (s.rail r).descFaults + b2n (s.rail r).on, lastFault := 5 }).raise ((s.setRail r { s.rail r with ovs := (s.rail r).ovs + 1, descFaults := (s.rail r).descFaults + b2n (s.rail r).on, lastFault := 5 }).railKey r 3) 5).forceAllOff)
  ∧ (∀ (ch : Chan) (r : Nat) (s : State),
      Safety.writable s ch 0x2710 (1 + r) [1] = true →
      s.marginStatus r 1 = 0 →
      ∃ t, exec (.railMarginHigh ch r) s = .next t ∧
        Safety.confirms t ch ∧
        t.rails = (s.applyMargin r 1).rails ∧
        t.cfg = (s.applyMargin r 1).cfg)
  ∧ (∀ (ch : Chan) (r : Nat) (s : State),
      Safety.writable s ch 0x2710 (1 + r) [2] = true →
      s.marginStatus r 2 = 0 →
      ∃ t, exec (.railMarginLow ch r) s = .next t ∧
        Safety.confirms t ch ∧
        t.rails = (s.applyMargin r 2).rails ∧
        t.cfg = (s.applyMargin r 2).cfg)
  ∧ (∀ (ch : Chan) (r : Nat) (s : State),
      Safety.writable s ch 0x2710 (1 + r) [0] = true →
      s.marginStatus r 0 = 0 →
      ∃ t, exec (.railMarginOff ch r) s = .next t ∧
        Safety.confirms t ch ∧
        t.rails = (s.applyMargin r 0).rails ∧
        t.cfg = (s.applyMargin r 0).cfg)

/-- What commands to the rail groups do in SERVICE (spec/10_rails_temperature_and_ageing.md). -/
def Obligations.RailGroups : Prop :=
  (∀ (ch : Chan) (g : Nat) (s : State),
      Safety.writable s ch (0x4304 + g) 2 (leBytes 1 1) = true →
      s.inMode .service = true →
      ((s.railGroup g).phase == .lowered || (s.railGroup g).phase == .failed) = true →
      ∃ t, exec (.groupRise ch g) s = .next t ∧
        Safety.confirms t ch ∧
        t.railGroups = ((s.startRise g).setRailGroup g { (s.startRise g).railGroup g with command := 1 }).railGroups)
  ∧ (∀ (ch : Chan) (g : Nat) (s : State),
      Safety.writable s ch (0x4304 + g) 2 (leBytes 1 2) = true →
      s.inMode .service = true →
      s.rising g = true →
      ∃ t, exec (.groupAbortRise ch g) s = .next t ∧
        Safety.confirms t ch ∧
        t.railGroups = ((s.setRailGroup g { s.railGroup g with abortPending := true }).setRailGroup g { (s.setRailGroup g { s.railGroup g with abortPending := true }).railGroup g with command := 2 }).railGroups)
  ∧ (∀ (ch : Chan) (g : Nat) (s : State),
      Safety.writable s ch (0x4304 + g) 2 (leBytes 1 3) = true →
      s.inMode .service = true →
      ((s.railGroup g).phase == .risen || (s.railGroup g).phase == .failed) = true →
      ∃ t, exec (.groupLower ch g) s = .next t ∧
        Safety.confirms t ch ∧
        t.railGroups = ((s.startLower g).setRailGroup g { (s.startLower g).railGroup g with command := 3 }).railGroups)

/-- What the commands of the fault sources, the severity table and the interrupt flags do (spec/01_shelf_and_controller.md, spec/11_faults_and_severity.md). -/
def Obligations.FaultCommands : Prop :=
  (∀ (id : Nat) (kind : Nat) (a : ActiveSrc) (w : Nat) (s : State),
      s.activeOf { id := id, kind := kind } = some a →
      a.clearing = some w →
      s.clearWindowOver { id := id, kind := kind } w = true →
      exec (.faultClearWindowEnd id kind) s = .next (s.clear { id := id, kind := kind }))
  ∧ (∀ (id : Nat) (kind : Nat) (a : ActiveSrc) (s : State),
      s.activeOf { id := id, kind := kind } = some a →
      a.clearing = none →
      exec (.faultClearWindowEnd id kind) s = .next s)
  ∧ (∀ (ch : Chan) (region : Nat) (record : BitVec 64) (s : State),
      Safety.writable s ch (0x2200 + region) 7 (leBytes 8 record.toNat) = true →
      s.sevStatus region record.toNat = 0 →
      ∃ t, exec (.sevWrite ch region record) s = .next t ∧
        Safety.confirms t ch ∧
        t.faults = (s.applySev region record.toNat).faults)
  ∧ (∀ (ch : Chan) (region : Nat) (record : BitVec 64) (s : State),
      Safety.writable s ch (0x2200 + region) 8 (leBytes 8 record.toNat) = true →
      s.sevKeyStatus region record.toNat false = 0 →
      ∃ t, exec (.sevQueryWrite ch region record) s = .next t ∧
        Safety.confirms t ch)
  ∧ (∀ (ch : Chan) (region : Nat) (mask : Nat) (s : State),
      Safety.writable s ch (0x2200 + region) 4 (leBytes 1 mask) = true →
      region - 1 < s.faults.regions.length →
      ∃ t, exec (.irqPendingClear ch region mask) s = .next t ∧
        Safety.confirms t ch ∧
        (nth t.faults.regions (region - 1) {}).irqPending = clearBits (nth s.faults.regions (region - 1) {}).irqPending mask ∧
        t.faults.active = s.faults.active)
  ∧ (∀ (s : State),
      s.mode.pendingLockout.isSome = true →
      s.inModes [.layup, .lockout] = false →
      s.supply.phase = .running →
      exec .lockoutEntry s = .next s.enterLockout)
  ∧ (∀ (s : State),
      s.regionOn .sup = true →
      ∃ t, exec .lockstepMismatch s = .next t ∧
        (s.mayRaise (s.key 2 0xFF 0 0) = true → t.isActive (s.key 2 0xFF 0 0) = true))
  ∧ (∀ (s : State),
      s.regionOn .sup = true →
      3 ≤ s.pair.d2dRun →
      ∃ t, exec .d2dTransferFail s = .next t ∧
        (s.mayRaise (s.key 2 0xFF 3 0) = true → t.isActive (s.key 2 0xFF 3 0) = true) ∧
        t.mem.busError = true ∧ t.mem.busTo = some (requesterOf s.draw.1) ∧
        t.pair.d2dRun = 0)
  ∧ (∀ (port : Nat) (e : Emcy) (q : List Emcy) (s : State),
      s.inGap = false →
      nth s.faults.inhibitFrom port none = none →
      nth s.faults.queues port [] = e :: q →
      s.emcyPort port = true →
      exec (.emcyInhibitExpired port) s = .next (({ s with faults := { s.faults with queues := put s.faults.queues port q } } : State).sendEmcy port e))

/-- What the frames and timeouts of the link to the twin do (spec/12_pair_and_switchover.md). -/
def Obligations.PairLink : Prop :=
  (∀ (s : State),
      s.pairUp = true →
      s.pair.supStalled = false →
      ∃ t, exec .heartbeatSend s = .next t ∧
        t.pair.supLive = (s.pair.supLive + 1) % 2 ^ 16 ∧
        t.pair.hbSeq = (s.pair.hbSeq + 1) % 2 ^ 16)
  ∧ (∀ (seq : Nat) (hb : Heartbeat) (err : Rat) (ok0 : Bool) (ok1 : Bool) (s : State),
      s.pairUp = true →
      nth s.pair.lanes 0 false = true →
      s.isShed 10 0xFF 0 = false →
      ok0 = true →
      s.frameFollows 1 seq = true →
      s.pair.heardLive ≠ some hb.supLive →
      hb.mode ≠ Mode.lockout.code →
      ∃ t, exec (.heartbeatReceived (seq, hb) err ok0 ok1) s = .next t ∧
        t = (({ s with pair := { s.pair with linkErrors := s.pair.linkErrors + b2n (nth s.pair.lanes 1 false && !s.isShed 10 0xFF 1 && !ok1), rxSeq := put s.pair.rxSeq 0 seq, rxSync := put s.pair.rxSync 0 true, heardLive := some hb.supLive, heardReason := hb.reason, lastReason := if hb.reason = 0 then s.pair.lastReason else hb.reason } } : State).takeHeartbeat hb err))
  ∧ (∀ (s : State),
      s.pairUp = true →
      s.pair.twinSeen = true →
      s.pair.twinExpect + 5 * ticksPerUs / 2 ≤ s.now →
      s.pair.missRun = 1 →
      s.img.pairState ≠ 1 →
      ∃ t, exec .heartbeatMiss s = .next t ∧
        (s.mayRaise s.hbKey = true → t.isActive s.hbKey = true) ∧
        t.pair.hbLost = true ∧
        t.pair.trackReady = false ∧
        t.pair.hbMisses = s.pair.hbMisses + 1)
  ∧ (∀ (s : State),
      s.pairUp = true →
      s.elapsed s.pair.twinAt 1 = true →
      ∃ t, exec .twinAbsentTimeout s = .next t ∧
        (s.mayRaise s.twinKey = true → t.isActive s.twinKey = true) ∧
        t.pair.unacked = List.replicate 4 [])
  ∧ (∀ (s : State),
      s.pairUp = true →
      s.pair.frozen.isSome = true →
      s.pair.twinScore = none →
      ∃ t, exec .electionFrameSend s = .next t ∧
        t.pair.txSeq = put s.pair.txSeq 0 (s.nextSeq 1) ∧
        Safety.changesOnly [.pair] s t)
  ∧ (∀ (hd : FrameHead) (crcOk : Bool) (score : Nat) (s : State),
      s.electing = true →
      s.electionLate = false →
      s.pairUp = true →
      (s.frameIn 1 0x02 hd crcOk).2 = true →
      ∃ t, exec (.electionFrameReceived { hd := hd, crcOk := crcOk, score := score }) s = .next t ∧
        t = (({ (s.frameIn 1 0x02 hd crcOk).1 with pair := { (s.frameIn 1 0x02 hd crcOk).1.pair with twinScore := some score } } : State).elect (if s.supply.sideB then decide (score < s.pair.frozen.getD 0) else decide (score ≤ s.pair.frozen.getD 0))))
  ∧ (∀ (s : State),
      s.electing = true →
      s.pair.twinScore = none →
      s.elapsed s.mode.since (65 / 1000) = true →
      s.supply.sideB = true →
      exec .electionTimeout s = .next ((s.elect true).raise s.twinKey 0))
  ∧ (∀ (s : State),
      s.regionOn .sup = true →
      ∃ t, exec .healthUpdate s = .next t ∧
        t.pair = { s.pair with health := s.healthScore } ∧
        Safety.changesOnly [.pair] s t)
  ∧ (∀ (hd : FrameHead) (crcOk : Bool) (m : TrackMsg) (s : State),
      s.pairUp = true →
      (s.frameIn 2 0x10 hd crcOk).2 = true →
      hd.last = true →
      (s.frameIn 2 0x10 hd crcOk).1.follows = true →
      s.pair.snapApplied = true →
      exec (.trackingMessageReceived hd crcOk m) s = .next ((s.frameIn 2 0x10 hd crcOk).1.takeTrack m))
  ∧ (∀ (hd : FrameHead) (crcOk : Bool) (m : TrackMsg) (s : State),
      s.pairUp = true →
      (s.frameIn 2 0x10 hd crcOk).2 = true →
      hd.last = true →
      (s.frameIn 2 0x10 hd crcOk).1.follows = true →
      s.pair.snapApplied = false →
      ∃ t, exec (.trackingMessageReceived hd crcOk m) s = .next t ∧
        t.pair.early = s.pair.early ++ [(none, .track m)] ∧
        Safety.changesOnly [.pair] s t)
  ∧ (∀ (k : Nat) (l : List AlignItem) (rest : List (Nat × List AlignItem)) (s : State),
      s.pair.ownStates = (k, l) :: rest →
      s.alignDue = true →
      ∃ t, exec .alignmentSend s = .next t ∧
        t.pair.alignIndex = k ∧
        t = { s.sendFrame 3 (.align k l) with pair := { (s.sendFrame 3 (.align k l)).pair with lastAlign := l, alignIndex := k, alignAt := some s.now } })
  ∧ (∀ (hd : FrameHead) (crcOk : Bool) (k : Nat) (items : List AlignItem) (s : State),
      s.pairUp = true →
      (s.frameIn 3 0x20 hd crcOk).2 = true →
      hd.last = true →
      (s.frameIn 3 0x20 hd crcOk).1.follows = true →
      exec (.alignmentReceived hd crcOk k items) s = .next ((s.frameIn 3 0x20 hd crcOk).1.takeAlign k items))
  ∧ (∀ (hd : FrameHead) (crcOk : Bool) (k : Nat) (idx : Nat) (sub : Nat) (data : List (BitVec 8)) (s : State),
      s.pairUp = true →
      (s.frameIn 4 0x30 hd crcOk).2 = true →
      hd.last = true →
      s.pair.owns = false →
      (s.follows && !s.pair.snapApplied) = false →
      s.refRuns = true →
      ∃ t, exec (.mirrorWriteReceived hd crcOk k idx sub data) s = .next t ∧
        t.pair.mirrorWaiting = s.pair.mirrorWaiting ++ [(if s.pair.locked then max k (s.pair.periodIndex + 1) else s.pair.periodIndex + 1, objKey idx sub, data)] ∧
        t.cfg = s.cfg)
  ∧ (∀ (hd : FrameHead) (crcOk : Bool) (k : Nat) (idx : Nat) (sub : Nat) (data : List (BitVec 8)) (s : State),
      s.pairUp = true →
      (s.frameIn 4 0x30 hd crcOk).2 = true →
      hd.last = true →
      s.pair.owns = false →
      (s.follows && !s.pair.snapApplied) = false →
      s.refRuns = false →
      exec (.mirrorWriteReceived hd crcOk k idx sub data) s = .next ((s.frameIn 4 0x30 hd crcOk).1.takeCommon (objKey idx sub) data))
  ∧ (∀ (hd : FrameHead) (crcOk : Bool) (k : Nat) (snap : Snapshot) (s : State),
      s.pairUp = true →
      (s.frameIn 5 0x40 hd crcOk).2 = true →
      (s.frameIn 5 0x40 hd crcOk).1.follows = true →
      hd.last = false →
      ∃ t, exec (.snapshotFragmentReceived hd crcOk k snap) s = .next t ∧
        t.pair.fragments = s.pair.fragments + 1)
  ∧ (∀ (hd : FrameHead) (crcOk : Bool) (k : Nat) (snap : Snapshot) (s : State),
      s.pairUp = true →
      (s.frameIn 5 0x40 hd crcOk).2 = false →
      ∃ t, exec (.snapshotFragmentReceived hd crcOk k snap) s = .next t ∧
        t.pair.linkErrors = s.pair.linkErrors + 1 ∧
        Safety.changesOnly [.pair] s t)
  ∧ (∀ (cls : Nat) (f : SentFrame) (fs : List SentFrame) (s : State),
      s.pairUp = true →
      2 ≤ cls →
      nth s.pair.unacked (cls - 2) [] = f :: fs →
      f.at_ + 50 * ticksPerUs ≤ s.now →
      ∃ t, exec (.kopolFrameRetransmit cls) s = .next t ∧
        t.pair.retransmits = s.pair.retransmits + fs.length + 1 ∧
        t.pair.unacked = put s.pair.unacked (cls - 2) ((f :: fs).map fun x => { x with at_ := s.now }) ∧
        Safety.changesOnly [.pair] s t)
  ∧ (∀ (lane : Nat) (s : State),
      s.pairUp = true →
      lane < 2 →
      ∃ t, exec (.laneDown lane) s = .next t ∧
        (s.mayRaise (s.laneKey lane) = true → t.isActive (s.laneKey lane) = true) ∧
        t.pair.lanes = put s.pair.lanes lane false)
  ∧ (∀ (lane : Nat) (ok : Bool) (roundTrip : Rat) (s : State),
      s.pairUp = true →
      lane < 2 →
      ok = true →
      nth s.pair.lanes lane true = false →
      ∃ t, exec (.laneRetrain lane ok roundTrip) s = .next t ∧
        t.pair.lanes = put s.pair.lanes lane true ∧
        t.pair.linkDelay = roundTrip / 2)

/-- What the release of OWN_N, the self-release and the handover do (spec/05_stages_pwm_and_fast_protection.md, spec/12_pair_and_switchover.md, spec/17_images_update_and_recovery.md). -/
def Obligations.Ownership : Prop :=
  (∀ (s : State),
      s.pair.owns = false →
      s.supply.phase = .running →
      ∃ t, exec .ownNReleased s = .next t ∧
        t = (let u := { s with pair := { s.pair with netHigh := true, netHighAt := s.now - ticksPerUs } }; if u.eligible then u.takeover else if u.inMode .rise then (if u.orderlyHeard then u.followDescent else if 6 ≤ u.mode.step then u.claim.beginJoining else u.claim) else if u.inMode .boot && u.pair.electionDone && !u.orderlyHeard then u.claim else u))
  ∧ (∀ (s : State),
      s.pair.owns = true →
      ∃ t, exec .ownReadbackFault s = .next t ∧
        (s.mayRaise s.ownKey = true → t.isActive s.ownKey = true))
  ∧ (∀ (s : State),
      s.regionOn .eng = true →
      ∃ t, exec .engStopSelfRelease s = .next t ∧
        t = (let u := s.setRegion .eng .hold; let v := forUnits ((List.range 8).filter fun n => u.stageOn n) (fun t n => t.engageHold n) u; if v.carries then v.selfRelease 5 else v))
  ∧ (∀ (s : State),
      s.carries = true →
      exec .supStallSelfRelease s = .next (({ s with pair := { s.pair with supStalled := true } } : State).selfRelease 6))
  ∧ (∀ (since : Nat) (s : State),
      s.pair.selfRelease = some since →
      20 * ticksPerUs ≤ s.since since →
      ∃ t, exec .selfReleaseOutputsLow s = .next t ∧
        t.pair.selfRelease = none ∧
        t.phases = s.outputsLow.phases ∧
        t.feeds = s.outputsLow.feeds ∧
        t.strs = s.outputsLow.strs)
  ∧ (∀ (s : State),
      s.pair.supStalled = true →
      ∃ t, exec .supervisoryCoresResume s = .next t ∧
        t.pair.supStalled = false ∧
        ((s.pair.tripOnResume = true → t.mode.pendingTrip = some s.pair.reason)))
  ∧ (∀ (ch : Chan) (s : State),
      Safety.writable s ch 0x2500 7 [1] = true →
      s.handoverStatus = 0 →
      ∃ t, exec (.handoverRequest ch) s = .next t ∧
        Safety.confirms t ch ∧
        t.pair.hoRequest = true ∧
        t.pair.hoState = 1 ∧
        t.pair.hoFrom = s.now)
  ∧ (∀ (ch : Chan) (s : State),
      Safety.writable s ch 0x2500 7 [0] = true →
      s.pair.hoRequest = true →
      s.pair.owns = true →
      ∃ t, exec (.handoverCancel ch) s = .next t ∧
        Safety.confirms t ch ∧
        t.pair.hoRequest = false ∧
        t.pair.hoState = 5)
  ∧ (∀ (s : State),
      s.pair.owns = true →
      s.inMode .active = true →
      s.pair.hoState = 2 →
      ∃ t, exec .handoverRelease s = .next t ∧
        t = (({ s.releaseOwn 7 with pair := { (s.releaseOwn 7).pair with selfRelease := some (s.releaseOwn 7).now, snapApplied := true, locked := true, lockGood := 100, lockBad := 0 } } : State).enterMode .track 0x0023).setReady)
  ∧ (∀ (s : State),
      s.pair.hoState = 1 →
      s.elapsed s.pair.hoFrom (100 / 1000) = true →
      s.img.pairState ≠ 4 →
      ∃ t, exec .handoverTimeout s = .next t ∧
        t.pair.hoRequest = false ∧
        t.pair.hoState = 4)

/-- What writes of the dictionary's objects, access drops, saves and restores do (spec/12_pair_and_switchover.md, spec/13_dictionary_networks_and_time.md). -/
def Obligations.DictionaryWrites : Prop :=
  (∀ (ch : Chan) (idx : Nat) (sub : Nat) (data : List (BitVec 8)) (s : State),
      s.served ch = true →
      s.entryStatus (s.placed [(s.target idx, sub, data)]) ch (s.target idx, sub, data) = 0 →
      ∃ t, exec (.objectWrite ch idx sub data) s = .next t ∧
        Safety.confirms t ch ∧
        t = ((s.applyAll ch [(s.target idx, sub, data)]).touch ch).answerWrite ch stOk)
  ∧ (∀ (ch : Chan) (idx : Nat) (sub : Nat) (data : List (BitVec 8)) (s : State),
      s.served ch = true →
      isCommon (s.target idx) sub = true →
      s.entryStatus (s.placed [(s.target idx, sub, data)]) ch (s.target idx, sub, data) = 0 →
      ∃ t, exec (.pairCommonWrite ch idx sub data) s = .next t ∧
        Safety.confirms t ch ∧
        t = ((s.applyAll ch [(s.target idx, sub, data)]).touch ch).answerWrite ch stOk)
  ∧ (∀ (ch : Chan) (v : Nat) (s : State),
      s.served ch = true →
      s.entryStatus (s.placed [(s.target 0x2020, 4, (leBytes 1 v))]) ch (s.target 0x2020, 4, (leBytes 1 v)) = 0 →
      ∃ t, exec (.accessDrop ch v) s = .next t ∧
        Safety.confirms t ch ∧
        t = ((s.applyAll ch [(s.target 0x2020, 4, (leBytes 1 v))]).touch ch).answerWrite ch stOk)
  ∧ (∀ (ch : Chan) (sig : Nat) (s : State),
      s.served ch = true →
      s.entryStatus (s.placed [(s.target 0x1010, 1, (leBytes 4 sig))]) ch (s.target 0x1010, 1, (leBytes 4 sig)) = 0 →
      ∃ t, exec (.storeSave ch sig) s = .next t ∧
        Safety.confirms t ch ∧
        t = ((s.applyAll ch [(s.target 0x1010, 1, (leBytes 4 sig))]).touch ch).answerWrite ch stOk)
  ∧ (∀ (ch : Chan) (sig : Nat) (s : State),
      s.served ch = true →
      s.entryStatus (s.placed [(s.target 0x1011, 1, (leBytes 4 sig))]) ch (s.target 0x1011, 1, (leBytes 4 sig)) = 0 →
      ∃ t, exec (.restoreLoad ch sig) s = .next t ∧
        Safety.confirms t ch ∧
        t = ((s.applyAll ch [(s.target 0x1011, 1, (leBytes 4 sig))]).touch ch).answerWrite ch stOk)
  ∧ (∀ (ch : Chan) (v : Nat) (s : State),
      s.served ch = true →
      s.entryStatus (s.placed [(s.target 0x2800, 1, (leBytes 1 v))]) ch (s.target 0x2800, 1, (leBytes 1 v)) = 0 →
      ∃ t, exec (.legacyModeWrite ch v) s = .next t ∧
        Safety.confirms t ch ∧
        t = ((s.applyAll ch [(s.target 0x2800, 1, (leBytes 1 v))]).touch ch).answerWrite ch stOk)
  ∧ (∀ (ch : Chan) (s : State),
      s.served ch = true →
      exec (.accessChallengeRead ch) s = .next ((s.touch ch).readObject ch 0x2020 2))
  ∧ (∀ (ch : Chan) (level : Nat) (sig : List (BitVec 8)) (s : State),
      s.served ch = true →
      s.responseStatus sig = 0 →
      exec (.accessResponse ch level sig) s = .next ((s.touch ch).respond ch level sig))
  ∧ (∀ (ch : Chan) (y : Session) (s : State),
      s.session ch = some y →
      s.elapsed y.lastReq 600 = true →
      exec (.accessIdleTimeout ch) s = .next (s.dropLevel ch))

/-- What the requests, frames and timeouts of SDO and of Nireo do (spec/13_dictionary_networks_and_time.md, spec/17_images_update_and_recovery.md). -/
def Obligations.SdoAndNireo : Prop :=
  (∀ (p : Nat) (v : Nat) (r : SdoReq) (s : State),
      s.sdoReady p = true →
      s.serverValid v = true →
      s.served (.sdo p v) = true →
      exec (.sdoRequest p v r) s = .next ((s.touch (.sdo p v)).sdoServe p v r))
  ∧ (∀ (p : Nat) (v : Nat) (s : State),
      s.sdoReady p = true →
      s.served (.sdo p v) = true →
      exec (.sdoAbortTransfer p v) s = .next ((s.touch (.sdo p v)).dropSdo p v))
  ∧ (∀ (p : Nat) (v : Nat) (y : Transfer) (s : State),
      s.sdoTransfer p v = some y →
      s.elapsed y.at_ 1 = true →
      ∃ t, exec (.sdoSegmentTimeout p v) s = .next t ∧
        t = s.sdoAbort p v stTimeout ∧
        t.net.answer.status = 0x05040000)
  ∧ (∀ (rq : NireoReq) (tag : Nat) (idx : Nat) (sub : Nat) (ca : Bool) (word : Nat) (y : Session) (s : State),
      Safety.nireoAnew (s.requestFrom rq) rq.session y 1 tag idx sub word true = true →
      ∃ t, exec (.nireoRead rq tag idx sub ca word) s = .next t ∧
        t = Safety.nireoAnswer (let u := Safety.nireoTurn (s.requestFrom rq) rq.session y 1 idx sub true; (u.readAll (.nireo rq.session) idx sub ca).reply (.nireo rq.session) (u.readAll (.nireo rq.session) idx sub ca).net.answer.status (((u.readAll (.nireo rq.session) idx sub ca).net.answer.data.drop word).take 1400)) rq.session y 1 tag idx sub word)
  ∧ (∀ (rq : NireoReq) (tag : Nat) (idx : Nat) (sub : Nat) (ca : Bool) (data : List (BitVec 8)) (y : Session) (s : State),
      Safety.nireoAnew (s.requestFrom rq) rq.session y 2 tag idx sub 0 true = true →
      ∃ t, exec (.nireoWrite rq tag idx sub ca data) s = .next t ∧
        t = Safety.nireoAnswer (let u := Safety.nireoTurn (s.requestFrom rq) rq.session y 2 idx sub true; if data.isEmpty then u.answerWrite (.nireo rq.session) ((((if ca then u.subsFrom idx sub else [sub]).map fun j => u.pollStatus (.nireo rq.session) idx j).find? fun c => c != 0).getD 0) else u.transferWrite (.nireo rq.session) (u.entriesOf idx sub ca data)) rq.session y 2 tag idx sub 0)
  ∧ (∀ (rq : NireoReq) (tag : Nat) (idx : Nat) (sub : Nat) (size : Nat) (y : Session) (s : State),
      Safety.nireoAnew (s.requestFrom rq) rq.session y 3 tag idx sub 0 true = true →
      ∃ t, exec (.nireoDomainBegin rq tag idx sub size) s = .next t ∧
        t = Safety.nireoAnswer (let u := Safety.nireoTurn (s.requestFrom rq) rq.session y 3 idx sub true; if 16777216 < size then u.answerWrite (.nireo rq.session) stRange else if u.openStatus (.nireo rq.session) idx sub size ≠ 0 then u.answerWrite (.nireo rq.session) (u.openStatus (.nireo rq.session) idx sub size) else ((u.setTransfer (.nireo rq.session) { idx := u.target idx, sub := sub, size := size, at_ := u.now }).noteFinished rq.session idx sub false).answerWrite (.nireo rq.session) stOk) rq.session y 3 tag idx sub 0)
  ∧ (∀ (rq : NireoReq) (tag : Nat) (idx : Nat) (sub : Nat) (word : Nat) (data : List (BitVec 8)) (y : Session) (s : State),
      Safety.nireoAnew (s.requestFrom rq) rq.session y 4 tag idx sub word ((s.requestFrom rq).domainWrite rq.session idx sub).isNone = true →
      ∃ t, exec (.nireoDomainSegment rq tag idx sub word data) s = .next t ∧
        t = Safety.nireoAnswer (let u := Safety.nireoTurn (s.requestFrom rq) rq.session y 4 idx sub ((s.requestFrom rq).domainWrite rq.session idx sub).isNone; match u.domainWrite rq.session idx sub with | none => u.answerWrite (.nireo rq.session) stState | some v => if data.isEmpty then u.reply (.nireo rq.session) stOk (leBytes 4 (inOrder v.parts (v.parts.length + 1) 0)) else if v.size < word + data.length then u.answerWrite (.nireo rq.session) stRange else ((u.setTransfer (.nireo rq.session) { v with parts := (word, data) :: v.parts }).noteImageBytes v data).answerWrite (.nireo rq.session) stOk) rq.session y 4 tag idx sub word)
  ∧ (∀ (rq : NireoReq) (tag : Nat) (idx : Nat) (sub : Nat) (crc : BitVec 32) (y : Session) (s : State),
      Safety.nireoAnew (s.requestFrom rq) rq.session y 5 tag idx sub 0 ((s.requestFrom rq).domainWrite rq.session idx sub).isNone = true →
      ∃ t, exec (.nireoDomainEnd rq tag idx sub crc) s = .next t ∧
        t = Safety.nireoAnswer (let u := Safety.nireoTurn (s.requestFrom rq) rq.session y 5 idx sub ((s.requestFrom rq).domainWrite rq.session idx sub).isNone; match u.domainWrite rq.session idx sub with | none => u.answerWrite (.nireo rq.session) stState | some v => (let l := (List.range v.size).map (byteOf v.parts); let w := u.finishTransfer (.nireo rq.session) v (l.map fun (b : Option Byte) => b.getD 0); if l.all (·.isSome) && crc32 (l.map fun (b : Option Byte) => b.getD 0) == crc then (if w.net.answer.status ≤ 1 then w.noteFinished rq.session idx sub true else w) else (u.dropTransfer (.nireo rq.session) v.idx sub).answerWrite (.nireo rq.session) stRange)) rq.session y 5 tag idx sub 0)
  ∧ (∀ (rq : NireoReq) (tag : Nat) (idx : Nat) (sub : Nat) (y : Session) (s : State),
      Safety.nireoAnew (s.requestFrom rq) rq.session y 6 tag idx sub 0 ((s.requestFrom rq).domainWrite rq.session idx sub).isNone = true →
      ∃ t, exec (.nireoDomainAbort rq tag idx sub) s = .next t ∧
        t = Safety.nireoAnswer (let u := Safety.nireoTurn (s.requestFrom rq) rq.session y 6 idx sub ((s.requestFrom rq).domainWrite rq.session idx sub).isNone; match u.domainWrite rq.session idx sub, u.session (.nireo rq.session) with | some v, _ => (u.dropTransfer (.nireo rq.session) v.idx sub).answerWrite (.nireo rq.session) stOk | none, some z => u.answerWrite (.nireo rq.session) (if z.finished.contains (u.target idx, sub) then stAlready else stState) | none, none => u) rq.session y 6 tag idx sub 0)
  ∧ (∀ (rq : NireoReq) (tag : Nat) (y : Session) (s : State),
      Safety.nireoAnew (s.requestFrom rq) rq.session y 9 tag 0 0 0 true = true →
      ∃ t, exec (.nireoCloseSession rq tag) s = .next t ∧
        t = Safety.nireoAnswer (let u := Safety.nireoTurn (s.requestFrom rq) rq.session y 9 0 0 true; (u.closeNireo rq.session).answerWrite (.nireo rq.session) stOk) rq.session y 9 tag 0 0 0)
  ∧ (∀ (rq : NireoReq) (tag : Nat) (entries : List (Nat × Nat × List (BitVec 8))) (y : Session) (s : State),
      Safety.nireoAnew (s.requestFrom rq) rq.session y 11 tag 0 0 0 true = true →
      ∃ t, exec (.nireoBatchWrite rq tag entries) s = .next t ∧
        t = Safety.nireoAnswer (let u := Safety.nireoTurn (s.requestFrom rq) rq.session y 11 0 0 true; if 128 < entries.length then u.reply (.nireo rq.session) stRange (leBytes 2 128) else match u.firstRefusal (.nireo rq.session) (entries.map fun e => (u.target e.1, e.2.1, e.2.2)) with | some r => (u.transferWrite (.nireo rq.session) entries).reply (.nireo rq.session) (u.transferWrite (.nireo rq.session) entries).net.answer.status (leBytes 2 r.1) | none => u.transferWrite (.nireo rq.session) entries) rq.session y 11 tag 0 0 0)
  ∧ (∀ (port : Nat) (tag : Nat) (peer : Nat × Nat) (s : State),
      s.dictUp = true →
      s.transportUp port = true →
      (s.ethReceived port).slotsFull = false →
      ((s.ethReceived port).portSessions port).length < 8 →
      s.net.nireo.length < 32 →
      ∃ t, exec (.nireoOpenSession (port, peer) tag) s = .next t ∧
        t.net.nireo = s.net.nireo ++ [{ num := (s.ethReceived port).newSession (s.ethReceived port).draw.1.floor.natAbs, port := port, lastReq := s.now, summary := s.objN 0x4720 2, peer := peer }] ∧
        t.net.answer.status = stOk)
  ∧ (∀ (port : Nat) (s : State),
      s.dictUp = true →
      s.transportUp port = true →
      ∃ t, exec (.nireoFrameDropped port) s = .next t ∧
        t.net.dropped = s.net.dropped + 1)
  ∧ (∀ (n : Nat) (y : Session) (s : State),
      s.session (.nireo n) = some y →
      s.elapsed y.lastReq 600 = true →
      exec (.sessionIdleTimeout n) s = .next (s.closeNireo n))
  ∧ (∀ (n : Nat) (idx : Nat) (sub : Nat) (y : Transfer) (s : State),
      s.domainWrite n idx sub = some y →
      s.elapsed y.at_ 10 = true →
      exec (.domainWriteIdleTimeout n idx sub) s = .next (s.dropTransfer (.nireo n) y.idx sub))
  ∧ (∀ (frame : List (BitVec 8)) (crcOk : Bool) (s : State),
      s.hsUp = true →
      exec (.hsFrameCommand frame crcOk) s = .next (if crcOk then s.nireoFrame 2 (0, 0) frame else { s with net := { s.net with hsCrc := s.net.hsCrc + 1 } }))
  ∧ (∀ (s : State),
      s.hsUp = true →
      ∃ t, exec .hsStatusCommand s = .next t ∧
        t.net.hsOut = leBytes 2 s.net.hsQueue.length ++ leBytes 2 (128 - s.inFlight) ∧
        t.net.hsQueue = s.net.hsQueue)
  ∧ (∀ (r : List Byte) (rs : List (List Byte)) (s : State),
      s.hsUp = true →
      s.net.hsQueue = r :: rs →
      ∃ t, exec .hsResponseCommand s = .next t ∧
        t.net.hsQueue = rs ∧
        t.net.hsOut = r ++ leBytes 4 (crc32 r).toNat)
  ∧ (∀ (p : Nat) (host : Nat) (w : BitVec 8) (data : List (BitVec 8)) (old : List (BitVec 8)) (s : State),
      p < 2 →
      host < 16 →
      s.nodeOf p < 256 →
      s.dictUp = true →
      s.transportUp (3 + p) = true →
      (s.can p).fd = [(host, old, w.toNat)] →
      1 ≤ w.toNat ∧ w.toNat < 64 →
      p < s.net.can.length →
      ∃ t, exec (.nireoCanFdSegment p (s.fdIdent p host 0) w data) s = .next t ∧
        (t.can p).fd = [(host, old ++ data, (w.toNat + 1) % 64)])
  ∧ (∀ (p : Nat) (ident : Nat) (seg : BitVec 8) (data : List (BitVec 8)) (s : State),
      ident ≠ s.fdIdent p ((ident - 0x1E400000) / 0x1000 % 16) 0 →
      exec (.nireoCanFdSegment p ident seg data) s = .next s)

/-- What the NMT and LSS services of a live CAN port do (spec/13_dictionary_networks_and_time.md). -/
def Obligations.CanOpenNmtLss : Prop :=
  (∀ (p : Nat) (s : State),
      s.canLive p = true →
      p < s.net.can.length →
      ∃ t, exec (.nmtStart p) s = .next t ∧
        (t.can p).nmt = .operational ∧
        (∀ q, q ≠ p → t.can q = s.can q))
  ∧ (∀ (p : Nat) (s : State),
      s.canLive p = true →
      exec (.nmtStop p) s = .next ((((s.setCan p { s.can p with nmt := .stopped }).dropSdos p).dropRpdos p).canHeard))
  ∧ (∀ (p : Nat) (s : State),
      s.canLive p = true →
      (s.can p).nmt ≠ .preOperational →
      exec (.nmtEnterPreOperational p) s = .next (((s.dropRpdos p).preOperational p).canHeard))
  ∧ (∀ (p : Nat) (s : State),
      s.canLive p = true →
      exec (.nmtResetNode p) s = .next (((s.resetCan p).preOperational p).canHeard))
  ∧ (∀ (p : Nat) (s : State),
      s.canLive p = true →
      exec (.nmtResetCommunication p) s = .next (((forUnits [1, 2, 3, 4] (fun t v => t.dropLevel (.sdo p v)) (s.resetCan p)).canStart p).canHeard))
  ∧ (∀ (p : Nat) (g : Bool) (cfg : Bool) (ident : List Nat) (s : State),
      s.canLive p = true →
      p < s.net.can.length →
      g = true →
      ∃ t, exec (.lssSwitchState p g cfg ident) s = .next t ∧
        (t.can p).lssConfig = cfg ∧
        (∀ q, q ≠ p → t.can q = s.can q))
  ∧ (∀ (p : Nat) (node : Nat) (s : State),
      s.lssReady p = true →
      p < s.net.can.length →
      1 ≤ node ∧ node ≤ 127 →
      ∃ t, exec (.lssConfigureNodeId p node) s = .next t ∧
        (t.can p).pendNode = some node ∧
        (t.can p).lastTx = (lssCob, padTo 8 [0x11, 0]) ∧
        (∀ q, q ≠ p → t.can q = s.can q))
  ∧ (∀ (p : Nat) (entry : Nat) (r : Nat) (s : State),
      s.lssReady p = true →
      p < s.net.can.length →
      lssRate entry = some r →
      ∃ t, exec (.lssConfigureBitTiming p entry) s = .next t ∧
        (t.can p).pendRate = some r ∧
        (t.can p).lastTx = (lssCob, padTo 8 [0x13, 0]) ∧
        (∀ q, q ≠ p → t.can q = s.can q))
  ∧ (∀ (p : Nat) (n : Nat) (s : State),
      s.lssReady p = true →
      p < s.net.can.length →
      (s.can p).pendNode = some n →
      ∃ t, exec (.lssStore p) s = .next t ∧
        (t.can p).storedNode = some n ∧
        (t.can p).lastTx = (lssCob, padTo 8 [0x17, 0]) ∧
        (∀ q, q ≠ p → t.can q = s.can q))
  ∧ (∀ (p : Nat) (what : Nat) (s : State),
      s.lssReady p = true →
      p < s.net.can.length →
      what < 4 →
      ∃ t, exec (.lssInquire p what) s = .next t ∧
        (t.can p).lastTx = (lssCob, padTo 8 ([BitVec.ofNat 8 (0x5A + what)] ++ leBytes 4 (nth s.identity what 0))) ∧
        (∀ q, q ≠ p → t.can q = s.can q))
  ∧ (∀ (p : Nat) (idNumber : Nat) (bitCheck : Nat) (lssSub : Nat) (lssNext : Nat) (s : State),
      s.canLive p = true →
      p < s.net.can.length →
      (s.can p).lssConfig = false →
      bitCheck = 0x80 →
      ∃ t, exec (.lssFastscan p idNumber bitCheck lssSub lssNext) s = .next t ∧
        (t.can p).fastscanSub = 0 ∧
        (t.can p).lastTx = (lssCob, padTo 8 [0x4F]) ∧
        (∀ q, q ≠ p → t.can q = s.can q))

/-- What PDOs, SYNC, TIME, heartbeats and bus-off do (spec/06_setpoints_disturbance_and_plausibility.md, spec/13_dictionary_networks_and_time.md). -/
def Obligations.CanOpenServices : Prop :=
  (∀ (p : Nat) (n : Nat) (data : List (BitVec 8)) (s : State),
      s.canLive p = true →
      (s.can p).nmt = .operational →
      n < 32 →
      bit (s.objN (0x1400 + n) 1) 31 = false →
      ∃ t, exec (.rpdoReceived p n data) s = .next t ∧
        t = (let u := s.canHeard; if u.objN (0x1400 + n) 2 ≤ 240 then { u with net := { u.net with rpdoQueue := u.net.rpdoQueue ++ [(n, p, data)] } } else u.applyRpdo n p data))
  ∧ (∀ (n : Nat) (s : State),
      s.tpdoLive n = true →
      254 ≤ s.tpdoType n →
      s.inhibitOver n = true →
      exec (.tpdoEvent n) s = .next (s.sendTpdo n))
  ∧ (∀ (n : Nat) (s : State),
      s.tpdoLive n = true →
      254 ≤ s.tpdoType n →
      s.objN (0x1800 + n) 5 ≠ 0 →
      (s.tpdo n).sentAt = none →
      exec (.tpdoEventTimer n) s = .next (s.sendTpdo n))
  ∧ (∀ (n : Nat) (s : State),
      s.tpdoLive n = true →
      254 ≤ s.tpdoType n →
      (s.tpdo n).changed = true →
      s.inhibitOver n = true →
      exec (.tpdoInhibitExpired n) s = .next (s.sendTpdo n))
  ∧ (∀ (n : Nat) (s : State),
      s.pgDue n = true →
      ∃ t, exec (.pgUpdate n) s = .next t ∧
        t = (let v := (s.stepPg n).tell (.pg n ((s.stepPg n).pg n)); if (v.pg n).completed = (s.pg n).completed then v else forUnits (v.tpdosOf (0x3B00 + n) 0x0C) (fun u i => u.tpdoChanged i) v))
  ∧ (∀ (s : State),
      s.syncOn = true →
      s.syncPorts.isEmpty = false →
      s.net.time.syncK ≠ some s.syncIndex →
      s.syncPhase < 2 * ticksPerUs →
      ∃ t, exec .syncProduce s = .next t ∧
        t = (let u := s.setTime { s.net.time with syncK := some s.syncIndex, syncCounter := s.nextSync }; (forUnits u.syncPorts (fun t p => if ((t.sendCan p (t.objN 0x1005 0 % 0x800) (if s.nextSync = 0 then [] else leBytes 1 s.nextSync)).can p).foreign then (t.sendCan p (t.objN 0x1005 0 % 0x800) (if s.nextSync = 0 then [] else leBytes 1 s.nextSync)).setCan p { (t.sendCan p (t.objN 0x1005 0 % 0x800) (if s.nextSync = 0 then [] else leBytes 1 s.nextSync)).can p with foreign := false } else (t.sendCan p (t.objN 0x1005 0 % 0x800) (if s.nextSync = 0 then [] else leBytes 1 s.nextSync)).portFaultEnd (2 + p) 3) u).atSync))
  ∧ (∀ (p : Nat) (s : State),
      p ∈ s.syncPorts →
      s.syncOn = false →
      exec (.syncReceived p) s = .next s.atSync)
  ∧ (∀ (p : Nat) (s : State),
      p ∈ s.syncPorts →
      s.syncOn = true →
      exec (.syncReceived p) s = .next ((s.setCan p { s.can p with foreign := true }).portFault (2 + p) 3 []).atSync)
  ∧ (∀ (s : State),
      s.pair.owns = true →
      bit (s.objN 0x1012 0) 30 = true →
      s.net.time.state ≠ 0 →
      s.syncPorts.isEmpty = false →
      s.net.time.timeSent ≠ s.taiNow / ticksPerS →
      500 * ticksPerMs ≤ s.taiNow % ticksPerS →
      s.taiNow % ticksPerS < 500 * ticksPerMs + 2 * ticksPerUs →
      ∃ t, exec .timeProduce s = .next t ∧
        t = (forUnits s.syncPorts (fun t p => t.sendCan p (t.objN 0x1012 0 % 0x800) (s.timeOfDay (s.taiNow / ticksPerS))) (s.setTime { s.net.time with timeSent := s.taiNow / ticksPerS })))
  ∧ (∀ (p : Nat) (s : State),
      s.canLive p = true →
      p < s.net.can.length →
      s.objN 0x1017 0 ≠ 0 →
      s.elapsed (s.can p).hbAt ((s.objN 0x1017 0 : Rat) / 1000) = true →
      ∃ t, exec (.canHeartbeatProduce p) s = .next t ∧
        (t.can p).lastTx = (0x700 + (s.can p).nodeId, leBytes 1 (s.can p).nmt.byte) ∧
        (t.can p).hbAt = s.now ∧
        (∀ q, q ≠ p → t.can q = s.can q))
  ∧ (∀ (p : Nat) (node : Nat) (s : State),
      s.canLive p = true →
      s.consumerTime node ≠ 0 →
      ∃ t, exec (.canHeartbeatReceived p node) s = .next t ∧
        t = ((s.unwatch 0 node).unwatch 1 node).setCan p { ((s.unwatch 0 node).unwatch 1 node).can p with consumers := (((s.unwatch 0 node).unwatch 1 node).can p).consumers ++ [(node, s.now, false)] })
  ∧ (∀ (p : Nat) (node : Nat) (s : State),
      s.canLive p = true →
      s.consumerTime node ≠ 0 →
      ((s.can p).consumers.any fun c => c.1 == node && !c.2.2 && s.elapsed c.2.1 ((s.consumerTime node : Rat) / 1000)) = true →
      exec (.canHeartbeatConsumerTimeout p node) s = .next ((s.setCan p { s.can p with consumers := (s.can p).consumers.map fun c => if c.1 = node then (c.1, c.2.1, true) else c }).portFault (2 + p) 4 (leBytes 1 node)))
  ∧ (∀ (p : Nat) (s : State),
      s.canDrives p = true →
      exec (.canBusOff p) s = .next ((((s.setCan p { s.can p with busOff := true, busOffs := (s.can p).busOffs + 1, txErr := 255, fd := [] }).dropSdos p).closePort (3 + p)).portFault (2 + p) 2 []))
  ∧ (∀ (p : Nat) (s : State),
      (s.can p).busOff = true →
      exec (.canBusOffRecovery p) s = .next ((s.setCan p { s.can p with busOff := false, txErr := 0 }).portFaultEnd (2 + p) 2))

/-- What Ethernet frames, PTP messages and the commands of the time base do (spec/13_dictionary_networks_and_time.md). -/
def Obligations.EthernetAndTime : Prop :=
  (∀ (p : Nat) (speed : Nat) (s : State),
      s.part.has .eth p = true →
      s.regionOn .net = true →
      s.supply.phase = .running →
      speed = 10 ∨ speed = 100 ∨ speed = 1000 →
      s.inMode .pilot = false →
      p < s.net.eth.length →
      ∃ t, exec (.ethLinkUp p speed) s = .next t ∧
        (t.eth p).linkUp = true ∧
        (t.eth p).speed = speed)
  ∧ (∀ (p : Nat) (s : State),
      s.part.has .eth p = true →
      (s.eth p).enabled = true →
      s.regionOn .net = true →
      s.supply.phase = .running →
      exec (.ethLinkDown p) s = .next (((s.setEth p { s.eth p with linkUp := false, speed := 0 }).closePort p).portFault p 1 []))
  ∧ (∀ (p : Nat) (s : State),
      s.ethLive p = true →
      p < s.net.eth.length →
      ∃ t, exec (.ethFrameDropped p) s = .next t ∧
        (t.eth p).dropped = (s.eth p).dropped + 1 ∧
        (∀ q, q ≠ p → t.eth q = s.eth q))
  ∧ (∀ (p : Nat) (addr : Nat) (s : State),
      s.ethLive p = true →
      p < s.net.eth.length →
      addr = (s.eth p).addr →
      ∃ t, exec (.ethArpRequest p addr) s = .next t ∧
        (t.eth p).lastReply = 1 ∧
        (t.eth p).received = (s.eth p).received + 1 ∧
        (∀ q, q ≠ p → t.eth q = s.eth q))
  ∧ (∀ (p : Nat) (addr : Nat) (s : State),
      s.ethLive p = true →
      p < s.net.eth.length →
      addr = (s.eth p).addr →
      ∃ t, exec (.icmpEchoRequest p addr) s = .next t ∧
        (t.eth p).lastReply = 2 ∧
        (t.eth p).received = (s.eth p).received + 1 ∧
        (∀ q, q ≠ p → t.eth q = s.eth q))
  ∧ (∀ (p : Nat) (s : State),
      s.ptpMaster p = true →
      p < s.net.eth.length →
      s.ptpDue (s.eth p).syncAt 0x0A = true →
      ∃ t, exec (.ptpSyncSend p) s = .next t ∧
        (t.eth p).syncAt = some s.now ∧
        (t.eth p).syncSeq = ((s.eth p).syncSeq + 1) % 65536 ∧
        (t.eth p).lastSync = some { kind := 0, seq := (s.eth p).syncSeq, clock := s.ptpClock p, port := 319 } ∧
        (t.eth p).lastPtp = { kind := 8, seq := (s.eth p).syncSeq, time := s.txStamp p, clock := s.ptpClock p } ∧
        (∀ q, q ≠ p → t.eth q = s.eth q))
  ∧ (∀ (p : Nat) (s : State),
      s.ptpMaster p = true →
      p < s.net.eth.length →
      s.ptpDue (s.eth p).annAt 0x0B = true →
      ∃ t, exec (.ptpAnnounceSend p) s = .next t ∧
        (t.eth p).annAt = some s.now ∧
        (t.eth p).annSeq = ((s.eth p).annSeq + 1) % 65536 ∧
        (t.eth p).lastPtp = { kind := 11, seq := (s.eth p).annSeq, time := s.txStamp p, clock := s.ptpClock p } ∧
        (∀ q, q ≠ p → t.eth q = s.eth q))
  ∧ (∀ (p : Nat) (req : DelayReq) (s : State),
      s.ptpMaster p = true →
      p < s.net.eth.length →
      ∃ t, exec (.ptpDelayReqReceived p req) s = .next t ∧
        (t.eth p).lastPtp = { kind := 9, seq := req.seq, time := s.rxStamp p req.rx, clock := s.ptpClock p, asked := some req.from_ } ∧
        (t.eth p).received = (s.eth p).received + 1 ∧
        (∀ q, q ≠ p → t.eth q = s.eth q))
  ∧ (∀ (p : Nat) (a : Announce) (s : State),
      s.ethLive p = true →
      s.outranked p a = false →
      exec (.ptpAnnounceReceived p a) s = .next (s.ethReceived p))
  ∧ (∀ (p : Nat) (a : Announce) (s : State),
      s.ethLive p = true →
      s.outranked p a = true →
      s.ptpState p = 1 ∨ s.ptpState p = 2 →
      exec (.ptpAnnounceReceived p a) s = .next (((s.ethReceived p).setEth p { (s.ethReceived p).eth p with passive := true, betterAt := s.now }).portFault p 5 []))
  ∧ (∀ (p : Nat) (s : State),
      (s.eth p).passive = true →
      s.elapsed (s.eth p).betterAt (3 * s.logInterval 0x0B) = true →
      exec (.ptpAnnounceTimeout p) s = .next ((s.setEth p { s.eth p with passive := false }).portFaultEnd p 5))
  ∧ (∀ (ch : Chan) (v : Nat) (s : State),
      s.served ch = true →
      s.entryStatus (s.placed [(s.target 0x2310, 1, (leBytes 8 v))]) ch (s.target 0x2310, 1, (leBytes 8 v)) = 0 →
      ∃ t, exec (.timeSetSeconds ch v) s = .next t ∧
        Safety.confirms t ch ∧
        t = ((s.applyAll ch [(s.target 0x2310, 1, (leBytes 8 v))]).touch ch).answerWrite ch stOk)
  ∧ (∀ (ch : Chan) (ns : Int) (s : State),
      s.served ch = true →
      s.entryStatus (s.placed [(s.target 0x2310, 2, (intBytes 4 ns))]) ch (s.target 0x2310, 2, (intBytes 4 ns)) = 0 →
      ∃ t, exec (.phaseAdjust ch ns) s = .next t ∧
        Safety.confirms t ch ∧
        t = ((s.applyAll ch [(s.target 0x2310, 2, (intBytes 4 ns))]).touch ch).answerWrite ch stOk)
  ∧ (∀ (ch : Chan) (v : Nat) (s : State),
      s.served ch = true →
      s.entryStatus (s.placed [(s.target 0x2310, 3, (leBytes 1 v))]) ch (s.target 0x2310, 3, (leBytes 1 v)) = 0 →
      ∃ t, exec (.traceableWrite ch v) s = .next t ∧
        Safety.confirms t ch ∧
        t = ((s.applyAll ch [(s.target 0x2310, 3, (leBytes 1 v))]).touch ch).answerWrite ch stOk)
  ∧ (∀ (s : State),
      s.pwmPowered = true →
      s.net.time.ppsSec ≠ some (s.taiNow / ticksPerS) →
      s.taiNow % ticksPerS ≤ 2 →
      ∃ t, exec .ppsEdge s = .next t ∧
        t = s.stepTime.setTime { s.stepTime.net.time with ppsSec := some (s.stepTime.taiNow / ticksPerS), ppsAt := s.stepTime.now, pps := s.stepTime.net.time.pps + 1 })
  ∧ (∀ (s : State),
      s.net.time.state = 1 →
      s.elapsed s.net.time.traceAt 3600 = true →
      exec .traceableTimeout s = .next s.leaveTraceable)
  ∧ (∀ (s : State),
      s.net.time.state = 2 →
      s.elapsed s.net.time.holdoverAt (s.objN 0x2310 6) = true →
      ∃ t, exec .holdoverEnd s = .next t ∧
        t.net.time.state = 3 ∧
        Safety.changesOnly [.net] s t)

/-- What the commands of the DRAM, of its scrubber and of its checker do (spec/15_memory_and_error_correction.md, spec/18_package_pins_and_electrical.md).
An access beyond the capacity fitted stops by name (log entry 32). -/
def Obligations.MemoryCommands : Prop :=
  (∀ (ch : Chan) (v : Nat) (result : Nat) (s : State),
      Safety.writable s ch 0x4600 0x14 (leBytes 1 v) = true →
      s.inMode .service = true →
      ∃ t, exec (.trainCommand ch v result) s = .next t ∧
        Safety.confirms t ch ∧
        t.mem = (s.train result).mem ∧
        t.faults = (s.train result).faults)
  ∧ (∀ (s : State),
      s.mem.filling = true →
      s.dramUp = true →
      ∃ t, exec .dramFillComplete s = .next t ∧
        t.mem.filling = false ∧
        t.mem.cells = (if s.flipWaits then s.fillFlip else s).mem.cells ∧
        t.mem.scrubbing = (s.objN 0x4600 5 == 0) ∧
        t.mem.lapFrom = s.now)
  ∧ (∀ (rq : MemReq) (addr : Nat) (len : Nat) (errs : List SymErr) (s : State),
      s.dramUp = true →
      addr < s.dramCapacity →
      s.rankShed (addr / 32) = false →
      rq.inTurn (addr / 32) = true →
      firstBad (s.filledNow.readBurst (addr / 32) errs) = none →
      ∃ t, exec (.dramRead rq addr len errs) s = .next t ∧
        t.mem.answer = ((wordsBytes (s.filledNow.readBurst (addr / 32) errs)).drop (addr % 32)).take len ∧
        t.mem.busError = false ∧
        s.mem.peak ≤ t.mem.peak ∧
        rq.others.length < t.mem.peak ∧
        t.mem.cells = s.filledNow.mem.cells)
  ∧ (∀ (rq : MemReq) (addr : Nat) (data : List (BitVec 8)) (errs : List SymErr) (s : State),
      s.dramUp = true →
      addr < s.dramCapacity →
      s.rankShed (addr / 32) = false →
      rq.inTurn (addr / 32) = true →
      exec (.dramWrite rq addr data errs) s = .next (s.dramWriteOp rq addr data errs))
  ∧ (∀ (errs : List SymErr) (s : State),
      s.mem.scrubbing = true →
      s.dramUp = true →
      s.rankShed s.scrubTarget = false →
      firstBad (s.readBurst s.scrubTarget errs) = none →
      correctedDevices (s.readBurst s.scrubTarget errs) = [] →
      exec (.scrubBurst errs) s = .next ((s.countBurst s.scrubTarget (s.readBurst s.scrubTarget errs)).scrubAdvance))
  ∧ (∀ (s : State),
      s.mem.scrubbing = true →
      s.dramUp = true →
      s.objN 0x4600 0x0A ≠ 0 →
      s.elapsed s.mem.lapFrom (s.objN 0x4600 0x0A) = true →
      ∃ t, exec .scrubLapOverdue s = .next t ∧
        (s.mayRaise (s.key 8 0xFF 2 0) = true → t.isActive (s.key 8 0xFF 2 0) = true))
  ∧ (∀ (sram : Bool) (s : State),
      sram = false →
      s.part.has .ddr 0 = true →
      s.regionOn .mem = true →
      s.mem.leakAt + s.mem.interval * ticksPerMs ≤ s.now →
      exec (.bucketLeakTick sram) s = .next (forUnits (List.range 20) (fun t i => t.leakDevice i) { s with mem := { s.mem with threshold := s.objN 0x4600 0x0B, interval := s.objN 0x4600 0x0C, leakAt := s.mem.leakAt + s.mem.interval * ticksPerMs } }))
  ∧ (∀ (s : State),
      s.mem.sramLeakAt + s.mem.sramInterval * ticksPerMs ≤ s.now →
      exec (.bucketLeakTick true) s = .next (forUnits (List.range 270) (fun t i => t.leakSram i) { s with mem := { s.mem with sramThreshold := s.objN 0x4600 0x12, sramInterval := s.objN 0x4600 0x13, sramLeakAt := s.mem.sramLeakAt + s.mem.sramInterval * ticksPerMs } }))
  ∧ (∀ (ch : Chan) (v : Nat) (s : State),
      Safety.writable s ch 0x4600 5 (leBytes 1 v) = true →
      s.inMode .service = true →
      s.objN 0x4600 5 ≠ v →
      ∃ t, exec (.eccModeChange ch v) s = .next t ∧
        Safety.confirms t ch ∧
        t.mem = (if s.mem.trainResult = 1 then ((s.setObjN 0x4600 5 1 v).refill).mem else s.mem) ∧
        t.cfg = storePut (objKey 0x4600 5) (leBytes 1 v) s.cfg ∧
        t.log.running = false ∧
        t.log.frames = 0)
  ∧ (∀ (ch : Chan) (v : Nat) (s : State),
      Safety.writable s ch 0x2720 4 (leBytes 1 v) = true →
      s.inMode .service = true →
      ∃ t, exec (.flipArm ch v) s = .next t ∧
        Safety.confirms t ch ∧
        t.mem = s.armFlip.mem ∧
        t.mem.flipArmed = true)
  ∧ (∀ (rank : Nat) (s : State),
      s.dramUp = true →
      rank < max 1 s.ranks →
      s.mem.alerted = true →
      ∃ t, exec (.dramAlert rank) s = .next t ∧
        (s.mayRaise (s.key 8 rank 0 2) = true → t.isActive (s.key 8 rank 0 2) = true) ∧
        t.mem.alerted = false ∧
        t.mem.busError = true ∧
        t.mem.uncorrected = s.mem.uncorrected + 1)
  ∧ (∀ (rq : MemReq) (addr : Nat) (len : Nat) (data : List (BitVec 8)) (errs : List SymErr) (s : State),
      s.dramUp = true →
      addr < s.dramCapacity →
      (s.rankShed (addr / 32) || !rq.inTurn (addr / 32)) = true →
      exec (.dramRead rq addr len errs) s = .next s ∧ exec (.dramWrite rq addr data errs) s = .next s)
  ∧ (∀ (rq : MemReq) (addr : Nat) (len : Nat) (errs : List SymErr) (s : State),
      s.dramUp = true →
      s.dramCapacity ≤ addr →
      exec (.dramRead rq addr len errs) s = .fault (.dramAddress addr))
  ∧ (∀ (rq : MemReq) (addr : Nat) (data : List (BitVec 8)) (errs : List SymErr) (s : State),
      s.dramUp = true →
      s.dramCapacity ≤ addr →
      exec (.dramWrite rq addr data errs) s = .fault (.dramAddress addr))

/-- What the commands of the SRAM checkers and of the MRAM do (spec/15_memory_and_error_correction.md). -/
def Obligations.SramAndMram : Prop :=
  (∀ (region : Nat) (unit : Nat) (single : Bool) (s : State),
      single = true →
      s.sramPresent region unit = true →
      exec (.sramScrubRead region unit single) s = .next (s.countSram region unit))
  ∧ (∀ (region : Nat) (unit : Nat) (item : Nat) (s : State),
      s.sramPresent region unit = true →
      region = 4 →
      item < s.mods.length →
      item < 48 →
      ∃ t, exec (.sramUncorrectable region unit item) s = .next t ∧
        (s.mayRaise (s.key (region + 1) 0xFE unit 2) = true → t.isActive (s.key (region + 1) 0xFE unit 2) = true))
  ∧ (∀ (w : MramWriter) (addr : Nat) (v : BitVec 64) (fails : Nat) (s : State),
      mramOwner w addr = true →
      addr % 8 = 0 →
      fails ≤ 2 →
      ∃ t, exec (.mramWrite w addr v fails) s = .next t ∧
        t.mem.mram = cellsPut addr (leBytes 8 v.toNat) s.mem.mram ∧
        t.mem.mramWrites = s.mem.mramWrites + 1 ∧
        t.mem.mramRetries = s.mem.mramRetries + fails ∧
        addr ∉ t.mem.badWords ∧
        t.mem.cells = s.mem.cells)
  ∧ (∀ (e : MramError) (s : State),
      e.addr < 0x4000000 →
      e.single = false →
      ∃ t, exec (.mramReadUe e) s = .next t ∧
        (s.mayRaise (s.key 9 0xFF 0 2) = true → t.isActive (s.key 9 0xFF 0 2) = true) ∧
        t.mem.mramUncorrected = s.mem.mramUncorrected + 1 ∧
        e.addr / 8 * 8 ∈ t.mem.badWords ∧
        (e.copy = none → t.img = (s.img.spoil e.addr).mark))
  ∧ (∀ (e : MramError) (s : State),
      e.addr < 0x4000000 →
      e.single = true →
      exec (.mramReadUe e) s = .next { s with mem := { s.mem with mramCorrected := s.mem.mramCorrected + 1 } })

/-- What the commands of the logbook do (spec/16_logbook_and_waveforms.md). -/
def Obligations.RecorderCommands : Prop :=
  (∀ (r : Record) (s : State),
      s.supply.phase = .running →
      s.recordOk r = true →
      ∃ t, exec (.recordArrival r) s = .next t ∧
        t = (let x : Record := { (s.mkRecord r.recType r.cls r.kind r.sourceId r.payload) with superseded := r.superseded }; (if r.recType = 1 then { s with log := s.arriveRaise x s.log } else s.enterRecord x).settleDrops))
  ∧ (∀ (r : Record) (s : State),
      s.recordOk r = false →
      exec (.recordArrival r) s = .next s)
  ∧ (∀ (s : State),
      s.recordDue = true →
      ∃ t, exec .recordCommit s = .next t ∧
        t = (let u := s.settleDrops.d2dGood.commitRecord; if u.log.freeze == .freezing then u.freezeNow else u))
  ∧ (∀ (ch : Chan) (s : State),
      Safety.writable s ch 0x4701 6 [1] = true →
      s.inMode .pilot = false →
      s.freezeHeld = false →
      ∃ t, exec (.freezeStart ch) s = .next t ∧
        Safety.confirms t ch ∧
        t.log = (s.startFreeze ch).log ∧
        t.log.owner = ch)
  ∧ (∀ (ch : Chan) (s : State),
      Safety.writable s ch 0x4701 6 [2] = true →
      s.freezeAbortStatus ch = 0 →
      ∃ t, exec (.freezeAbort ch) s = .next t ∧
        Safety.confirms t ch ∧
        t.log.freeze = .aborted ∧
        t.log.command = 2)
  ∧ (∀ (ch : Chan) (s : State),
      Safety.writable s ch 0x4701 6 [3] = true →
      s.log.owner = ch →
      s.log.freeze = .frozen →
      ∃ t, exec (.freezeRelease ch) s = .next t ∧
        Safety.confirms t ch ∧
        t.log.freeze = .released ∧
        t.log.command = 3)
  ∧ (∀ (s : State),
      s.log.freeze = .frozen →
      s.elapsed s.log.frozenAt (s.objN 0x4701 8) = true →
      ∃ t, exec .freezeLimitExpired s = .next t ∧
        t = s.endFreeze .expired ∧
        t.log.freeze = .expired)
  ∧ (∀ (ch : Chan) (n : Nat) (s : State),
      Safety.writable s ch 0x4702 1 (leBytes 8 n) = true →
      ∃ t, exec (.readFromWrite ch n) s = .next t ∧
        Safety.confirms t ch ∧
        t.log = s.log)
  ∧ (∀ (ch : Chan) (s : State),
      s.served ch = true →
      s.existsStatus 0x4702 3 = 0 →
      exec (.readBlock ch) s = .next (s.readBlock ch))

/-- What the commands of the waveform capture do (spec/16_logbook_and_waveforms.md). -/
def Obligations.CaptureCommands : Prop :=
  (∀ (errs : List SymErr) (s : State),
      s.ringRuns = true →
      s.frameTick s.now = s.now →
      s.log.lastFrame ≠ some s.now →
      exec (.captureFrame errs) s = .next (s.openRing.capture errs))
  ∧ (∀ (b : Nat) (key : Key) (cls : Nat) (md : Nat) (at_ : Nat) (e : TrigEvent) (s : State),
      s.part.has .ring 0 = true →
      s.regionOn .nvm = true →
      s.dueEvent b key cls md at_ = some e →
      exec (.captureTrigger b key cls md at_) s = .next (({ s with log := { s.log with events := s.log.events.erase e } } : State).trigger e))
  ∧ (∀ (ch : Chan) (s : State),
      Safety.writable s ch 0x4703 8 [1] = true →
      s.trigEnabled 4 0 0 = true →
      ∃ t, exec (.triggerNow ch) s = .next t ∧
        Safety.confirms t ch ∧
        t.log = (s.trigger { bit := 4, at_ := s.now }).log)
  ∧ (∀ (w : Nat) (s : State),
      (nth s.log.windows w {}).state = .collecting →
      (nth s.log.windows w {}).trigFrame + (nth s.log.windows w {}).post < s.log.frames →
      w < s.log.windows.length →
      ∃ t, exec (.windowLastFrame w) s = .next t ∧
        (nth t.log.windows w {}).state = .promoting ∧
        (∀ k, k ≠ w → nth t.log.windows k {} = nth s.log.windows k {}) ∧
        Safety.changesOnly [.log] s t)
  ∧ (∀ (p : Promotion) (s : State),
      (nth s.log.windows p.window {}).state = .promoting →
      s.recordDue = false →
      (s.part == .fyx9462 || s.dramUp) = true →
      s.windowLost (nth s.log.windows p.window {}) = false →
      ∃ t, exec (.windowCommit p) s = .next t ∧
        t = s.promoteWindow p.window (nth s.log.windows p.window {}) p.errs)
  ∧ (∀ (p : Promotion) (s : State),
      (nth s.log.windows p.window {}).state = .promoting →
      s.recordDue = true →
      exec (.windowCommit p) s = .next s)
  ∧ (∀ (p : Promotion) (s : State),
      s.part = .fyx9462 →
      (nth s.log.windows p.window {}).state = .promoting →
      s.recordDue = false →
      s.windowLost (nth s.log.windows p.window {}) = false →
      p.window < s.log.windows.length →
      ∃ t, exec (.windowCommit p) s = .next t ∧
        (nth t.log.windows p.window {}).state = .frozen ∧
        (nth t.log.windows p.window {}).data = s.windowData (nth s.log.windows p.window {}) p.errs)
  ∧ (∀ (w : Nat) (s : State),
      (nth s.log.windows w {}).busy = true →
      (nth s.log.windows w {}).trigFrame - (nth s.log.windows w {}).pre + s.ringFrames < s.log.frames →
      w < s.log.windows.length →
      ∃ t, exec (.windowAbandon w) s = .next t ∧
        (nth t.log.windows w {}).state = .empty ∧
        (∀ k, k ≠ w → nth t.log.windows k {} = nth s.log.windows k {}))
  ∧ (∀ (ch : Chan) (w : Nat) (v : Nat) (s : State),
      Safety.writable s ch (0x4710 + w) 4 (leBytes 1 v) = true →
      (nth s.log.windows w {}).state = .frozen →
      w < s.log.windows.length →
      ∃ t, exec (.windowRelease ch w v) s = .next t ∧
        Safety.confirms t ch ∧
        (nth t.log.windows w {}).state = .empty ∧
        (∀ k, k ≠ w → nth t.log.windows k {} = nth s.log.windows k {}))

/-- What scans, presence pins, alerts and the bus itself do at a port that hosts (spec/14_two_wire_partners.md). -/
def Obligations.TwoWireHost : Prop :=
  (∀ (p : Nat) (found : List Arrival) (s : State),
      s.scanDue p = true →
      s.serviceTurn p = true →
      exec (.twScan p found) s = .next ((s.setPort p { s.port p with nextScan := s.now + ticksPerS }).found p false found))
  ∧ (∀ (b : Nat) (s : State),
      s.part.has .berth b = true →
      s.berthN b 7 ≠ 0xFF →
      b < s.berths.length →
      b / 16 < s.ports.length →
      ∃ t, exec (.berthPresenceLow b) s = .next t ∧
        (t.berth b).pinLow = true ∧
        (t.port (b / 16)).nextScan = min (s.port (b / 16)).nextScan s.now ∧
        (∀ n, n ≠ b → t.berth n = s.berth n) ∧
        (∀ q, q ≠ b / 16 → t.port q = s.port q))
  ∧ (∀ (b : Nat) (s : State),
      s.part.has .berth b = true →
      s.berthN b 7 ≠ 0xFF →
      b < s.berths.length →
      (s.berth b).present = true →
      ∃ t, exec (.berthPresenceHigh b) s = .next t ∧
        (t.berth b).present = false ∧
        (t.berth b).pinLow = false ∧
        (t.berth b).stale = true ∧
        (t.berth b).vals = (s.berth b).vals ∧
        (t.berth b).departures = (s.berth b).departures + 1 ∧
        (s.mayRaise (s.berthKey b 1) = true → t.isActive (s.berthKey b 1) = true) ∧
        (∀ n, n ≠ b → t.berth n = s.berth n))
  ∧ (∀ (b : Nat) (s : State),
      s.part.has .berth b = true →
      s.berthN b 7 ≠ 0xFF →
      b < s.berths.length →
      (s.berth b).present = false →
      ∃ t, exec (.berthPresenceHigh b) s = .next t ∧
        t.berth b = { s.berth b with pinLow := false } ∧
        Safety.changesOnly [.berths] s t)
  ∧ (∀ (ch : Chan) (b : Nat) (s : State),
      Safety.writable s ch (0x4900 + b) 5 [0] = true →
      b < s.berths.length →
      (s.berth b).present = true →
      ∃ t, exec (.berthDisable ch b) s = .next t ∧
        Safety.confirms t ch ∧
        (t.berth b).present = false ∧
        (t.berth b).stale = true ∧
        (t.berth b).departures = (s.berth b).departures + 1 ∧
        (s.mayRaise (s.berthKey b 1) = true → t.isActive (s.berthKey b 1) = true) ∧
        t.cfg = storePut (objKey (0x4900 + b) 5) (leBytes 1 0) s.cfg)
  ∧ (∀ (p : Nat) (addr : Nat) (s : State),
      s.portUp p = true →
      s.shelfHost = true →
      s.alertDue p = true →
      s.serviceTurn p = true →
      p < s.ports.length →
      ∃ t, exec (.alertResponseRead p addr) s = .next t ∧
        (t.port p).alertLow = (addr != 0) ∧
        (∀ b, s.berthAt p addr = some b → b < s.berths.length → (t.berth b).alert = true) ∧
        (∀ b, s.berthAt p addr ≠ some b → t.berth b = s.berth b))
  ∧ (∀ (p : Nat) (c : PCmd) (s : State),
      s.portUp p = true →
      s.urgent p = some c →
      p < s.ports.length →
      ∃ t, exec (.twTransactionBoundary p) s = .next t ∧
        (t.port p).work = .cmd c.berth c.code c.rank ∧
        (t.port p).cmds = (s.port p).cmds ∧
        (t.port p).run = (if c.rank ≤ 2 ∧ s.readCut p = true then none else (s.port p).run))
  ∧ (∀ (p : Nat) (b : Nat) (s : State),
      s.portUp p = true →
      s.urgent p = none →
      (s.port p).run = none →
      (s.port p).discovering = false →
      s.serviceDue p = false →
      s.nextBerth p = some b →
      p < s.ports.length →
      b < s.berths.length →
      ∃ t, exec (.twTransactionBoundary p) s = .next t ∧
        (t.port p).work = .run ∧
        (t.port p).run = some { berth := b, vals := (s.berth b).vals, arrival := (s.berth b).arriving, due := (s.berth b).turnAt.getD s.now } ∧
        (t.berth b).due = ((s.berth b).due && (s.berth b).redo.isSome) ∧
        (t.berth b).redo = none ∧
        (∀ n, n ≠ b → t.berth n = s.berth n) ∧
        (∀ q, q ≠ p → t.port q = s.port q))
  ∧ (∀ (p : Nat) (s : State),
      s.portUp p = true →
      s.urgent p = none →
      (s.port p).run = none →
      (s.port p).discovering = false →
      s.serviceDue p = true →
      p < s.ports.length →
      ∃ t, exec (.twTransactionBoundary p) s = .next t ∧
        (t.port p).work = .service ∧
        (t.port p).run = none ∧
        Safety.changesOnly [.ports] s t)
  ∧ (∀ (p : Nat) (s : State),
      s.portHosts p = true →
      p < s.ports.length →
      (s.port p).losses < 3 →
      ∃ t, exec (.twArbitrationLost p) s = .next t ∧
        t.port p = { s.port p with arbLosses := (s.port p).arbLosses + 1, losses := (s.port p).losses + 1, work := s.inHand p } ∧
        (∀ q, q ≠ p → t.port q = s.port q))
  ∧ (∀ (p : Nat) (s : State),
      s.portHosts p = true →
      p < s.ports.length →
      3 ≤ (s.port p).losses →
      ∃ t, exec (.twArbitrationLost p) s = .next t ∧
        (t.port p).losses = 0 ∧
        (s.mayRaise (s.portKey p 2) = true → t.isActive (s.portKey p 2) = true))
  ∧ (∀ (p : Nat) (r : Run) (s : State),
      s.portHosts p = true →
      p < s.ports.length →
      (s.port p).run = some r →
      r.berth < s.berths.length →
      r.last = false →
      s.inHand p = .run →
      ∃ t, exec (.twSclTimeout p) s = .next t ∧
        (t.port p).run = none ∧
        (t.port p).runFails = (s.port p).runFails + 1 ∧
        (t.berth r.berth).fails = (s.berth r.berth).fails + 1 ∧
        (t.berth r.berth).vals = (s.berth r.berth).vals ∧
        (s.mayRaise (s.berthKey r.berth 2) = true → t.isActive (s.berthKey r.berth 2) = true))
  ∧ (∀ (p : Nat) (s : State),
      s.portUp p = true →
      s.shelfHost = true →
      p < s.ports.length →
      ∃ t, exec (.twBusRecovery p true) s = .next t ∧
        t.port p = { s.port p with stuck := false } ∧
        (∀ a ∈ t.faults.active, a.key = s.portKey p 1 → a.clearing.isSome = true))
  ∧ (∀ (p : Nat) (s : State),
      s.portUp p = true →
      s.shelfHost = true →
      p < s.ports.length →
      ∃ t, exec (.twBusRecovery p false) s = .next t ∧
        t.port p = { s.port p with stuck := true, stucks := (s.port p).stucks + 1 } ∧
        (s.mayRaise (s.portKey p 1) = true → t.isActive (s.portKey p 1) = true))
  ∧ (∀ (b : Nat) (s : State),
      (s.berth b).present = true →
      s.berthUsed b = true →
      s.berthN b 6 ≠ 0 →
      s.hosts b = true →
      (s.berth b).dueAt ≤ s.now →
      b < s.berths.length →
      (s.berth b).due = false →
      ∃ t, exec (.pollRunDue b) s = .next t ∧
        t.berth b = { s.berth b with due := true, dueSince := (s.berth b).dueAt, dueAt := (s.berth b).dueAt + s.berthN b 6 * ticksPerMs } ∧
        Safety.changesOnly [.berths] s t)
  ∧ (∀ (b : Nat) (s : State),
      (s.berth b).present = true →
      s.berthUsed b = true →
      s.berthN b 6 ≠ 0 →
      s.hosts b = true →
      (s.berth b).dueAt ≤ s.now →
      b < s.berths.length →
      b / 16 < s.ports.length →
      (s.berth b).due = true →
      ∃ t, exec (.pollRunDue b) s = .next t ∧
        t.berth b = { s.berth b with dueAt := (s.berth b).dueAt + s.berthN b 6 * ticksPerMs } ∧
        t.port (b / 16) = { s.port (b / 16) with latePolls := (s.port (b / 16)).latePolls + 1 } ∧
        Safety.changesOnly [.berths, .ports] s t)
  ∧ (∀ (p : Nat) (c : PCmd) (v : BitVec 16) (s : State),
      s.portUp p = true →
      s.picked p = some c →
      (s.berth c.berth).page = some 0 →
      s.mode.leaving = none →
      p < s.ports.length →
      c.berth < s.berths.length →
      ∃ t, exec (.partnerCommandSend p true true v) s = .next t ∧
        (t.berth c.berth).page = some 0 ∧
        (t.port p).cmds = (s.port p).cmds.filter (fun x => !(x.berth == c.berth && x.code == c.code)) ∧
        (c.host = true → (t.berth c.berth).hostStatus = 2) ∧
        (c.host = true → c.proto = 4 → (t.berth c.berth).hostResult = v.toNat) ∧
        (∀ n, n ≠ c.berth → t.berth n = s.berth n))
  ∧ (∀ (p : Nat) (c : PCmd) (pecOk : Bool) (v : BitVec 16) (s : State),
      s.portUp p = true →
      s.picked p = some c →
      (s.berth c.berth).page ≠ some 0 →
      s.mode.leaving = none →
      p < s.ports.length →
      c.berth < s.berths.length →
      ∃ t, exec (.partnerCommandSend p true pecOk v) s = .next t ∧
        (t.berth c.berth).page = some 0 ∧
        (t.port p).lastWrite = [0, 0] ∧
        (t.port p).cmds = (s.port p).cmds ∧
        (∀ n, n ≠ c.berth → t.berth n = s.berth n))
  ∧ (∀ (p : Nat) (c : PCmd) (v : BitVec 16) (train : Nat) (s : State),
      s.portUp p = true →
      s.picked p = some c →
      (s.berth c.berth).page = some 0 →
      s.mode.leaving = some train →
      (s.cmdDone p c v.toNat).marginsOut = true →
      ∃ t, exec (.partnerCommandSend p true true v) s = .next t ∧
        t = (let u := (s.cmdDone p c v.toNat).releaseOwn 4; ({ u with cfg := ((storeDel (objKey 0x2700 1) u.cfg).filter fun x => x.1 != objKey 0x2700 2 && x.1 != objKey 0x2700 3) } : State).restart 0x0011 train))
  ∧ (∀ (p : Nat) (c : PCmd) (pecOk : Bool) (v : BitVec 16) (s : State),
      s.portUp p = true →
      s.picked p = some c →
      s.mode.leaving = none →
      p < s.ports.length →
      c.fails < 3 →
      ∃ t, exec (.partnerCommandSend p false pecOk v) s = .next t ∧
        (t.port p).cmds = (s.port p).cmds.map (fun x => if x.berth = c.berth ∧ x.code = c.code then { x with fails := x.fails + 1 } else x) ∧
        (∀ q, q ≠ p → t.port q = s.port q))
  ∧ (∀ (p : Nat) (c : PCmd) (pecOk : Bool) (v : BitVec 16) (s : State),
      s.portUp p = true →
      s.picked p = some c →
      s.mode.leaving = none →
      p < s.ports.length →
      c.berth < s.berths.length →
      3 ≤ c.fails →
      ∃ t, exec (.partnerCommandSend p false pecOk v) s = .next t ∧
        (t.port p).cmds = (s.port p).cmds.filter (fun x => !(x.berth == c.berth && x.code == c.code)) ∧
        (t.berth c.berth).fails = (s.berth c.berth).fails + 1 ∧
        (s.mayRaise (s.berthKey c.berth 2) = true → t.isActive (s.berthKey c.berth 2) = true))
  ∧ (∀ (ch : Chan) (b : Nat) (w : BitVec 32) (s : State),
      Safety.writable s ch (0x4900 + b) 0x25 (leBytes 4 w.toNat) = true →
      s.hostCmdStatus b w.toNat = 0 →
      b < s.berths.length →
      b / 16 < s.ports.length →
      ∃ t, exec (.hostCommand ch b w) s = .next t ∧
        Safety.confirms t ch ∧
        (t.berth b).hostStatus = 1 ∧
        { berth := b, code := bits w.toNat 0 8, proto := bits w.toNat 8 3, data := bits w.toNat 16 16, rank := 2, host := true } ∈ (t.port (b / 16)).cmds)

/-- What a port does as a target and as a listener (spec/14_two_wire_partners.md). -/
def Obligations.TwoWireTarget : Prop :=
  (∀ (p : Nat) (addr : Nat) (data : Nat) (s : State),
      s.targetUp p = true →
      (s.port p).nackNext = false →
      s.portN p 7 = 1 →
      p < s.ports.length →
      (s.port p).notifyQueue.length < 8 →
      ∃ t, exec (.hostNotifyReceived p addr data) s = .next t ∧
        t.port p = { s.port p with lastNotify := addr * 65536 + data, notifies := (s.port p).notifies + 1,
                                   notifyQueue := (s.port p).notifyQueue ++ [addr * 65536 + data],
                                   run := ((s.alertBerth p addr).port p).run, heard := ((s.alertBerth p addr).port p).heard } ∧
        (∀ b, s.berthAt p addr = some b → b < s.berths.length → (t.berth b).alert = true) ∧
        (∀ b, s.berthAt p addr ≠ some b → t.berth b = s.berth b))
  ∧ (∀ (p : Nat) (addr : Nat) (data : Nat) (s : State),
      s.targetUp p = true →
      (s.port p).nackNext = false →
      s.portN p 7 = 1 →
      p < s.ports.length →
      8 ≤ (s.port p).notifyQueue.length →
      s.portN p 5 = 1 →
      ∃ t, exec (.hostNotifyReceived p addr data) s = .next t ∧
        t.port p = { s.port p with busyNacks := (s.port p).busyNacks + 1 })
  ∧ (∀ (p : Nat) (cmd : Nat) (data : List (BitVec 8)) (s : State),
      s.targetUp p = true →
      (s.port p).nackNext = false →
      s.portN p 6 ≠ 0xFF →
      p < s.ports.length →
      (s.port p).mailboxBusy = false →
      1 ≤ data.length ∧ data.length ≤ 32 →
      ∃ t, exec (.mailboxBlockWrite p cmd data true) s = .next t ∧
        t.port p = { s.port p with mailboxBusy := true, mailIn := leBytes 1 cmd ++ data } ∧
        (∀ q, q ≠ p → t.port q = s.port q))
  ∧ (∀ (p : Nat) (cmd : Nat) (data : List (BitVec 8)) (s : State),
      s.targetUp p = true →
      (s.port p).nackNext = false →
      s.portN p 6 ≠ 0xFF →
      (s.port p).mailboxBusy = false →
      ∃ t, exec (.mailboxBlockWrite p cmd data false) s = .next t ∧
        t.ports = s.ports)
  ∧ (∀ (p : Nat) (cmd : Nat) (data : List (BitVec 8)) (pecOk : Bool) (s : State),
      s.targetUp p = true →
      (s.port p).nackNext = false →
      s.portN p 6 ≠ 0xFF →
      p < s.ports.length →
      (s.port p).mailboxBusy = true →
      s.portN p 5 ≠ 1 →
      ∃ t, exec (.mailboxBlockWrite p cmd data pecOk) s = .next t ∧
        t.port p = { s.port p with stretching := true, held := some (.write cmd data pecOk) })
  ∧ (∀ (p : Nat) (s : State),
      s.targetUp p = true →
      (s.port p).nackNext = false →
      s.portN p 6 ≠ 0xFF →
      p < s.ports.length →
      (s.port p).mailboxBusy = false →
      ∃ t, exec (.mailboxBlockRead p) s = .next t ∧
        t.port p = { s.port p with mailboxSent := t.raw (0x4800 + p) 0x17 })
  ∧ (∀ (p : Nat) (s : State),
      s.regionOn .sup = true →
      s.targetUp p = true →
      p < s.ports.length →
      (s.port p).mailboxBusy = true →
      (s.port p).held = none →
      ∃ t, exec (.mailboxBlockTaken p) s = .next t ∧
        t.port p = { s.port p with mailbox := (s.port p).mailIn, mailIn := [], mailboxBusy := false, notifyQueue := [], stretching := false } ∧
        Safety.changesOnly [.mode, .faults, .ports, .mem] s t ∧
        (s.inMode .moored = false → Safety.changesOnly [.ports] s t))
  ∧ (∀ (p : Nat) (cmd : Nat) (data : List (BitVec 8)) (s : State),
      s.regionOn .sup = true →
      s.targetUp p = true →
      p < s.ports.length →
      (s.port p).mailboxBusy = true →
      (s.port p).held = some (.write cmd data true) →
      1 ≤ data.length ∧ data.length ≤ 32 →
      ∃ t, exec (.mailboxBlockTaken p) s = .next t ∧
        t.port p = { s.port p with mailbox := (s.port p).mailIn, mailIn := leBytes 1 cmd ++ data, mailboxBusy := true, notifyQueue := [], stretching := false, held := none } ∧
        Safety.changesOnly [.ports] s t)
  ∧ (∀ (p : Nat) (addr : Nat) (data : Nat) (s : State),
      (s.port p).nackNext = true →
      p < s.ports.length →
      ∃ t, exec (.hostNotifyReceived p addr data) s = .next t ∧
        t.port p = { s.port p with nackNext := false } ∧
        Safety.changesOnly [.ports] s t)
  ∧ (∀ (p : Nat) (hi : Nat) (lo : Nat) (addr : Nat) (b : Nat) (s : State),
      s.portUp p = true →
      s.shelfHost = false →
      s.holderOf p { port := p, arp := true, addr := addr, udidHigh := hi, udidLow := lo } = none →
      ((List.range 16).map (16 * p + ·)).find? (fun n => s.assignable n && s.berthN n 0x0A == addr) = some b →
      b < s.berths.length →
      ∃ t, exec (.listenedTransaction p (.assign hi lo addr)) s = .next t ∧
        t.berth b = { s.berth b with arriving := true, awaited := true, found := some (hi, lo), page := none } ∧
        Safety.changesOnly [.berths] s t)
  ∧ (∀ (p : Nat) (b : Nat) (data : List (BitVec 8)) (s : State),
      s.portUp p = true →
      s.shelfHost = false →
      b / 16 = p →
      s.berthUsed b = true →
      s.hosts b = false →
      b < s.berths.length →
      (s.berth b).present = false →
      (s.berth b).arriving = false →
      s.berthN b 2 = 1 →
      ∃ t, exec (.listenedTransaction p (.word b 0x78 false data)) s = .next t ∧
        t.berth b = { s.berth b with arriving := true } ∧
        Safety.changesOnly [.berths] s t)
  ∧ (∀ (p : Nat) (b : Nat) (cmd : Nat) (write : Bool) (data : List (BitVec 8)) (s : State),
      s.portUp p = true →
      s.shelfHost = false →
      b / 16 = p →
      s.berthUsed b = true →
      s.hosts b = false →
      (s.berth b).present = true →
      (s.berth b).arriving = false →
      exec (.listenedTransaction p (.word b cmd write data)) s = .next (s.hear p b cmd write data))

/-- What the words of a poll script do (spec/14_two_wire_partners.md). -/
def Obligations.ScriptCommands : Prop :=
  (∀ (p : Nat) (r : Run) (w : Nat) (s : State),
      s.runAt p 0 = some (r, w) →
      p < s.ports.length →
      r.berth < s.berths.length →
      ∃ t, exec (.scriptEnd p) s = .next t ∧
        (t.port p).run = none ∧
        (t.port p).commits = (s.port p).commits + 1 ∧
        (t.berth r.berth).vals = r.vals ∧
        (t.berth r.berth).runs = (s.berth r.berth).runs + 1 ∧
        (t.berth r.berth).committedAt = s.now ∧
        (t.berth r.berth).failRun = 0 ∧
        ((s.port p).todo = [] → (t.berth r.berth).stale = false))
  ∧ (∀ (p : Nat) (ack : Bool) (r : Run) (w : Nat) (s : State),
      s.runAt p 1 = some (r, w) →
      p < s.ports.length →
      (s.berth r.berth).page = some (bits w 0 8) →
      ∃ t, exec (.scriptPage p ack) s = .next t ∧
        t.port p = { s.port p with run := (if r.last = true then none else some { r with pc := r.pc + 1 }) } ∧
        Safety.changesOnly [.ports] s t)
  ∧ (∀ (p : Nat) (r : Run) (w : Nat) (s : State),
      s.runAt p 1 = some (r, w) →
      p < s.ports.length →
      r.berth < s.berths.length →
      (s.berth r.berth).page ≠ some (bits w 0 8) →
      ∃ t, exec (.scriptPage p true) s = .next t ∧
        (t.port p).run = (if r.last = true then none else some { r with pc := r.pc + 1 }) ∧
        (t.berth r.berth).page = some (bits w 0 8))
  ∧ (∀ (p : Nat) (v : BitVec 8) (r : Run) (w : Nat) (s : State),
      s.runAt p 2 = some (r, w) →
      p < s.ports.length →
      ∃ t, exec (.scriptRdb p true true v) s = .next t ∧
        (t.port p).run = (if r.last = true then none else some { r with pc := r.pc + 1, vals := { r.vals with w := put r.vals.w (bits w 24 3) v.toNat } }) ∧
        t.berths = s.berths)
  ∧ (∀ (p : Nat) (v : BitVec 16) (r : Run) (w : Nat) (s : State),
      s.runAt p 3 = some (r, w) →
      p < s.ports.length →
      ∃ t, exec (.scriptRdw p true true v) s = .next t ∧
        (t.port p).run = (if r.last = true then none else some { r with pc := r.pc + 1, vals := { r.vals with w := put r.vals.w (bits w 24 3) v.toNat } }) ∧
        t.berths = s.berths)
  ∧ (∀ (p : Nat) (v : BitVec 16) (r : Run) (w : Nat) (s : State),
      s.runAt p 3 = some (r, w) →
      p < s.ports.length →
      r.last = false →
      r.berth < s.berths.length →
      (s.berth r.berth).pec = true →
      ∃ t, exec (.scriptRdw p true false v) s = .next t ∧
        (t.port p).run = none ∧
        (t.berth r.berth).pecs = (s.berth r.berth).pecs + 1 ∧
        (t.berth r.berth).vals = (s.berth r.berth).vals ∧
        (s.mayRaise (s.berthKey r.berth 3) = true → t.isActive (s.berthKey r.berth 3) = true))
  ∧ (∀ (p : Nat) (data : List (BitVec 8)) (r : Run) (w : Nat) (s : State),
      s.runAt p 4 = some (r, w) →
      p < s.ports.length →
      data.length ≤ bits w 0 6 →
      ∃ t, exec (.scriptRdk p true true data) s = .next t ∧
        (t.port p).run = (if r.last = true then none else some { r with pc := r.pc + 1, vals := { r.vals with w := put r.vals.w (bits w 24 3) data.length, block := data } }) ∧
        t.berths = s.berths)
  ∧ (∀ (p : Nat) (pecOk : Bool) (data : List (BitVec 8)) (r : Run) (w : Nat) (s : State),
      s.runAt p 4 = some (r, w) →
      p < s.ports.length →
      r.last = false →
      bits w 0 6 < data.length →
      ∃ t, exec (.scriptRdk p true pecOk data) s = .next t ∧
        (t.port p).run = none ∧
        (t.port p).runFails = (s.port p).runFails + 1 ∧
        (t.berth r.berth).vals = (s.berth r.berth).vals)
  ∧ (∀ (p : Nat) (r : Run) (w : Nat) (s : State),
      s.runAt p 5 = some (r, w) →
      p < s.ports.length →
      ∃ t, exec (.scriptWrb p true) s = .next t ∧
        (t.port p).run = (if r.last = true then none else some { r with pc := r.pc + 1 }) ∧
        t.berths = s.berths)
  ∧ (∀ (p : Nat) (r : Run) (w : Nat) (s : State),
      s.runAt p 6 = some (r, w) →
      p < s.ports.length →
      ∃ t, exec (.scriptWrw p true) s = .next t ∧
        (t.port p).run = (if r.last = true then none else some { r with pc := r.pc + 1 }) ∧
        t.berths = s.berths)
  ∧ (∀ (p : Nat) (r : Run) (w : Nat) (s : State),
      s.runAt p 7 = some (r, w) →
      p < s.ports.length →
      ∃ t, exec (.scriptSnd p true) s = .next t ∧
        (t.port p).run = (if r.last = true then none else some { r with pc := r.pc + 1 }) ∧
        t.berths = s.berths)
  ∧ (∀ (p : Nat) (r : Run) (w : Nat) (s : State),
      s.runAt p 7 = some (r, w) →
      p < s.ports.length →
      r.last = false →
      r.berth < s.berths.length →
      ∃ t, exec (.scriptSnd p false) s = .next t ∧
        (t.port p).run = none ∧
        (t.berth r.berth).fails = (s.berth r.berth).fails + 1 ∧
        (t.berth r.berth).vals = (s.berth r.berth).vals ∧
        (s.mayRaise (s.berthKey r.berth 2) = true → t.isActive (s.berthKey r.berth 2) = true))
  ∧ (∀ (p : Nat) (f : F32) (r : Run) (w : Nat) (s : State),
      s.runAt p 8 = some (r, w) →
      p < s.ports.length →
      ({ s with draws := s.draws + 1 } : State).convert r.berth (bits w 8 4) (nth r.vals.w (bits w 24 3) 0) = some f →
      ∃ t, exec (.scriptCnv p) s = .next t ∧
        (t.port p).run = (if r.last = true then none else some { r with pc := r.pc + 1, vals := { r.vals with readings := put r.vals.readings (bits w 0 3) f }, offer := r.offer || bits w 0 3 == 7 }) ∧
        Safety.changesOnly [.ports, .draws] s t)
  ∧ (∀ (p : Nat) (r : Run) (w : Nat) (s : State),
      s.runAt p 8 = some (r, w) →
      p < s.ports.length →
      r.last = false →
      ({ s with draws := s.draws + 1 } : State).convert r.berth (bits w 8 4) (nth r.vals.w (bits w 24 3) 0) = none →
      ∃ t, exec (.scriptCnv p) s = .next t ∧
        (t.port p).run = none ∧
        (t.port p).runFails = (s.port p).runFails + 1 ∧
        (t.berth r.berth).vals = (s.berth r.berth).vals)
  ∧ (∀ (p : Nat) (r : Run) (w : Nat) (s : State),
      s.runAt p 9 = some (r, w) →
      p < s.ports.length →
      ∃ t, exec (.scriptTst p) s = .next t ∧
        t.port p = { s.port p with run := (if r.last = true then none else some { r with pc := r.pc + (if (nth r.vals.w (bits w 24 3) 0 &&& bits w 0 16 = 0) ↔ bit w 27 = false then 2 else 1) }) } ∧
        Safety.changesOnly [.ports] s t)
  ∧ (∀ (p : Nat) (r : Run) (w : Nat) (s : State),
      s.runAt p 0xA = some (r, w) →
      p < s.ports.length →
      ∃ t, exec (.scriptRep p) s = .next t ∧
        t.port p = { s.port p with run := (if r.last = true then none else some { r with pc := r.pc + 1, vals := { r.vals with flags := put r.vals.flags (bits w 16 8) ((nth r.vals.w (bits w 24 3) 0 &&& bits w 0 16 != 0) ^^ bit w 27) } }) } ∧
        Safety.changesOnly [.ports] s t)
  ∧ (∀ (p : Nat) (r : Run) (w : Nat) (s : State),
      s.runAt p 0xB = some (r, w) →
      p < s.ports.length →
      ∃ t, exec (.scriptWait p) s = .next t ∧
        t.port p = { s.port p with run := (if r.last = true then none else some { r with pc := r.pc + 1, ready := s.now + bits w 0 16 * ticksPerUs }) } ∧
        Safety.changesOnly [.ports] s t)
  ∧ (∀ (p : Nat) (r : Run) (w : Nat) (s : State),
      s.runAt p 0xC = some (r, w) →
      p < s.ports.length →
      ∃ t, exec (.scriptXtr p) s = .next t ∧
        t.port p = { s.port p with run := (if r.last = true then none else some { r with pc := r.pc + 1, vals := { r.vals with w := put r.vals.w (bits w 24 3) ((nth r.vals.block (bits w 0 5) 0).toNat + 256 * (nth r.vals.block (bits w 0 5 + 1) 0).toNat) } }) } ∧
        Safety.changesOnly [.ports] s t)

/-- What writing an image, the update of a pair and the way out of PILOT do (spec/17_images_update_and_recovery.md). -/
def Obligations.ImageUpdates : Prop :=
  (∀ (s : State),
      s.img.updState = 1 →
      s.img.updData.length = s.img.updSize →
      s.imageTransfer = false →
      exec .updateTransferComplete s = .next { s with img := { s.img with updState := 2 } })
  ∧ (∀ (bad : List Nat) (corrected : Nat) (content : Image) (train : Nat) (s : State),
      s.img.updState = 2 →
      bad.filter (fun a => decide (a < s.img.updData.length)) = [] →
      s.updReason content ≠ 0 →
      ∃ t, exec (.updateChecksDone bad corrected content train) s = .next t ∧
        t.img = { s.img with updState := 5, updReject := s.updReason content, updByTwin := false } ∧
        t.mem.mramCorrected = s.mem.mramCorrected + corrected ∧
        Safety.changesOnly [.img, .mem] s t)
  ∧ (∀ (bad : List Nat) (corrected : Nat) (content : Image) (train : Nat) (s : State),
      s.img.updState = 2 →
      bad.filter (fun a => decide (a < s.img.updData.length)) ≠ [] →
      ∃ t, exec (.updateChecksDone bad corrected content train) s = .next t ∧
        t.img.updState = 5 ∧
        t.img.updReject = (if headOk s.img.updData s.img.target then 2 else 1) ∧
        t.img.fwNext = s.img.fwNext ∧
        t.img.imgNext = s.img.imgNext)
  ∧ (∀ (bad : List Nat) (corrected : Nat) (content : Image) (train : Nat) (s : State),
      s.img.updState = 2 →
      bad.filter (fun a => decide (a < s.img.updData.length)) = [] →
      s.inMode .pilot = false →
      s.img.updByTwin = false →
      s.img.target = 1 →
      s.img.updSlot < s.img.fw.length →
      ∃ t, exec (.updateChecksDone bad corrected content train) s = .next t ∧
        (if s.updReason content = 0 then
          t.img.updState = 3 ∧
          t.img.fwNext = s.img.updSlot ∧
          (nth t.img.fw s.img.updSlot {}).valid = true ∧
          (nth t.img.fw s.img.updSlot {}).header = headerOf s.img.updData ∧
          t.img.trial = 1 ∧
          t.img.trialSlot = s.img.updSlot
        else t.img.updState = 5 ∧ t.img.updReject = s.updReason content ∧ t.img.fw = s.img.fw ∧ t.img.fwNext = s.img.fwNext) ∧
        t.img.cfg = s.img.cfg ∧
        t.img.imgNext = s.img.imgNext ∧
        Safety.changesOnly [.img, .mem, .log] s t)
  ∧ (∀ (bad : List Nat) (corrected : Nat) (content : Image) (train : Nat) (s : State),
      s.img.updState = 2 →
      bad.filter (fun a => decide (a < s.img.updData.length)) = [] →
      s.inMode .pilot = false →
      s.img.updByTwin = false →
      s.img.target = 2 →
      s.img.updSlot < s.img.cfg.length →
      ∃ t, exec (.updateChecksDone bad corrected content train) s = .next t ∧
        (if s.updReason content = 0 then
          t.img.updState = 3 ∧
          t.img.imgNext = s.img.updSlot ∧
          (nth t.img.cfg s.img.updSlot {}).valid = true ∧
          (nth t.img.cfg s.img.updSlot {}).digest = imageDigest s.img.updData ∧
          (nth t.img.cfg s.img.updSlot {}).content = readImage s.img.updData content
        else t.img.updState = 5 ∧ t.img.updReject = s.updReason content ∧ t.img.cfg = s.img.cfg ∧ t.img.imgNext = s.img.imgNext) ∧
        t.img.fw = s.img.fw ∧
        t.img.fwNext = s.img.fwNext ∧
        Safety.changesOnly [.img, .mem, .log] s t)
  ∧ (∀ (bad : List Nat) (corrected : Nat) (content : Image) (train : Nat) (s : State),
      s.img.updState = 2 →
      bad.filter (fun a => decide (a < s.img.updData.length)) = [] →
      s.inMode .pilot = true →
      s.img.updByTwin = false →
      exec (.updateChecksDone bad corrected content train) s = .next (
        let u : State := { s with mem := { s.mem with mramCorrected := s.mem.mramCorrected + corrected } }
        if s.updReason content = 0 then (if (u.commitUpdate content).bothKinds then (u.commitUpdate content).leavePilot train else u.commitUpdate content)
        else { u with img := { s.img with updState := 5, updReject := s.updReason content, updByTwin := false } }))
  ∧ (∀ (ch : Chan) (v : Nat) (s : State),
      Safety.writable s ch 0x2401 3 (leBytes 1 v) = true →
      s.img.updState = 1 ∨ s.img.updState = 2 →
      ∃ t, exec (.updateAbort ch v) s = .next t ∧
        Safety.confirms t ch ∧
        t.img = { s.img with updCommand := 2, updState := 4, updData := [], updByTwin := false })
  ∧ (∀ (ch : Chan) (v : Nat) (s : State),
      Safety.writable s ch 0x2401 3 (leBytes 1 v) = true →
      s.img.updState = 3 →
      ∃ t, exec (.updateAbort ch v) s = .next t ∧
        t = (s.touch ch).answerWrite ch stAlready ∧
        t.img = s.img)
  ∧ (∀ (hd : FrameHead) (crcOk : Bool) (kind : Nat) (offset : Nat) (data : List (BitVec 8)) (s : State),
      s.pairUp = true →
      (s.frameIn 5 0x41 hd crcOk).2 = true →
      hd.last = false →
      s.inMode .track = true →
      ∃ t, exec (.imageTransferReceived hd crcOk kind offset data) s = .next t ∧
        t.img = { s.img with twinKind := kind, twinData := (if s.img.twinKind = kind then s.img.twinData.take offset else []) ++ data } ∧
        Safety.changesOnly [.img, .pair] s t)
  ∧ (∀ (ch : Chan) (s : State),
      Safety.writable s ch 0x2402 5 [1] = true →
      s.pairUpdateStatus = 0 →
      s.img.pairState ≠ 8 →
      ∃ t, exec (.pairUpdateStart ch) s = .next t ∧
        Safety.confirms t ch ∧
        t.img = { s.img with pairCommand := 1, pairDigest := s.img.digest, pairState := 1, pairKind := (if s.img.fwRun != some s.img.fwNext && (s.img.slot 1 s.img.fwNext).valid then 1 else 2) })
  ∧ (∀ (ch : Chan) (s : State),
      Safety.writable s ch 0x2402 5 [1] = true →
      s.pairUpdateStatus = 0 →
      s.img.pairState = 8 →
      ∃ t, exec (.pairUpdateStart ch) s = .next t ∧
        Safety.confirms t ch ∧
        t.img = { s.img with pairCommand := 1, pairState := 4, pairKind := (if s.img.pairKind = 0 then (if s.img.fwRun != some s.img.fwNext && (s.img.slot 1 s.img.fwNext).valid then 1 else 2) else s.img.pairKind) } ∧
        t.pair.hoRequest = true ∧
        t.pair.hoState = 1)
  ∧ (∀ (ch : Chan) (s : State),
      Safety.writable s ch 0x2402 5 [2] = true →
      1 ≤ s.img.pairState ∧ s.img.pairState ≤ 4 →
      (s.img.pairState = 4 → s.pair.owns = true) →
      ∃ t, exec (.pairUpdateAbort ch) s = .next t ∧
        Safety.confirms t ch ∧
        t.img = { s.img with pairCommand := 2, pairDigest := [], pairState := 7, pairKind := (if s.img.pairKind = 0 then (if s.img.fwRun != some s.img.fwNext && (s.img.slot 1 s.img.fwNext).valid then 1 else 2) else s.img.pairKind) })
  ∧ (∀ (ch : Chan) (s : State),
      Safety.writable s ch 0x2402 5 [2] = true →
      s.img.pairState = 5 ∨ s.img.pairState = 6 ∨ (s.img.pairState = 4 ∧ s.pair.owns = false) →
      ∃ t, exec (.pairUpdateAbort ch) s = .next t ∧
        t = (s.touch ch).answerWrite ch stAlready ∧
        t.img = s.img)
  ∧ (∀ (ch : Chan) (v : Nat) (train : Nat) (s : State),
      Safety.writable s ch 0x2403 2 (leBytes 1 v) = true →
      s.inMode .pilot = true →
      s.img.pilotCause = 0x0062 →
      s.img.fw.any (·.valid) = true →
      s.img.cfg.any (·.valid) = true →
      ∃ t, exec (.pilotExit ch v train) s = .next t ∧
        Safety.confirms t ch ∧
        t = ((s.restart 0x0063 train).touch ch).answerWrite ch stOk)

/-- What a hitless activation does from its start to its resume or its reversion (spec/17_images_update_and_recovery.md). -/
def Obligations.HitlessActivation : Prop :=
  (∀ (ch : Chan) (s : State),
      Safety.writable s ch 0x2402 1 [1] = true →
      s.hitlessReason = 0 →
      s.img.fwRun ≠ some s.img.fwNext →
      ∃ t, exec (.hitlessStart ch) s = .next t ∧
        Safety.confirms t ch ∧
        t.img.hitState = 1 ∧
        t.img.hitRefusal = 0 ∧
        t.img.hitFrom = s.now ∧
        t.img.fwRun = s.img.fwRun ∧
        t.tide = s.tide)
  ∧ (∀ (ch : Chan) (s : State),
      Safety.writable s ch 0x2402 1 [1] = true →
      s.hitlessReason = 0 →
      s.img.fwRun = some s.img.fwNext →
      ∃ t, exec (.hitlessStart ch) s = .next t ∧
        Safety.confirms t ch ∧
        t.img.hitState = 3 ∧
        t.tide = { s.tide with banks := put s.tide.banks (1 - s.tide.active) { (s.img.slot 2 s.img.imgNext).content.bank with valid := true }, swap := 1 })
  ∧ (∀ (ch : Chan) (s : State),
      Safety.writable s ch 0x2402 1 [1] = true →
      s.hitlessReason ≠ 0 →
      ∃ t, exec (.hitlessStart ch) s = .next t ∧
        t.net.answer.status = stState ∧
        t.img = { s.img with hitState := 7, hitRefusal := s.hitlessReason } ∧
        t.tide = { s.tide with swap := if s.hitlessReason = 5 ∧ s.swapFits (s.img.slot 2 s.img.imgNext).content = false then 4 else s.tide.swap })
  ∧ (∀ (ch : Chan) (s : State),
      Safety.writable s ch 0x2402 1 [2] = true →
      s.inGap = false →
      s.hitlessCommitted = false →
      s.img.hitState = 1 ∨ s.img.hitState = 3 ∨ s.img.hitState = 4 →
      ∃ t, exec (.hitlessAbort ch) s = .next t ∧
        Safety.confirms t ch ∧
        t.img = { s.img with hitState := 6, hitCommand := 2 } ∧
        t.tide = { s.tide with swap := 0 })
  ∧ (∀ (ch : Chan) (s : State),
      s.inGap = true →
      ∃ t, exec (.hitlessAbort ch) s = .next t ∧
        t = s.answerWrite ch stAlready ∧
        t.img = s.img)
  ∧ (∀ (s : State),
      s.img.hitState = 1 →
      s.img.fwRun ≠ some s.img.fwNext →
      ∃ t, exec .hitlessCommitPoint s = .next t ∧
        t.img = { s.img with hitState := 2, hitFrom := s.now } ∧
        t.inGap = true ∧
        Safety.changesOnly [.img] s t)
  ∧ (∀ (s : State),
      s.img.hitState = 2 →
      s.img.hitReverted = false →
      ∃ t, exec .hitlessResume s = .next t ∧
        t.img.hitState = 3 ∧
        t.img.fwRun = some s.img.fwNext ∧
        t.img.hitGap = s.since s.img.hitFrom ∧
        t.inGap = false ∧
        (s.img.trial = 1 → s.img.trialSlot = s.img.fwNext → t.img.trial = 2) ∧
        t.tide.swap = 1 ∧
        t.tide.active = s.tide.active)
  ∧ (∀ (s : State),
      s.img.hitReverted = true →
      ∃ t, exec .hitlessResume s = .next t ∧
        t.img.hitReverted = false ∧
        t.img.hitGap = s.since s.img.hitFrom ∧
        t.img.fwRun = s.img.fwRun ∧
        t.tide = s.tide)
  ∧ (∀ (s : State),
      s.img.hitState = 2 →
      30 * ticksPerMs ≤ s.since s.img.hitFrom →
      ∃ t, exec .hitlessResumeTimeout s = .next t ∧
        t.img.hitState = 8 ∧
        t.img.fwNext = s.img.hitOldFw ∧
        t.img.hitReverted = true ∧
        (s.img.trial = 1 → s.img.trialStarts < 2 → t.img.trialStarts = s.img.trialStarts + 1))
  ∧ (∀ (s : State),
      s.img.hitReverted = true →
      60 * ticksPerMs ≤ s.since s.img.hitFrom →
      ∃ t, exec .hitlessRevertTimeout s = .next t ∧
        t.supply.phase = .afterRst ∧
        t.mode.online = false)

/-- What commands of the start, of supply, of wakes and of the measurement path leave unchanged: every part of the state but those listed, and the queue (spec/02_modes_startup_and_supply_loss.md, spec/03_measurement_path.md). A write of an object touches
besides its own part `net` (the answer, the session), `mode` (the awake time of a CAN port) and `pair` (the frame to the twin). -/
def Obligations.FramesStartAndMeasure : Prop :=
  (∀ (str : Nat) (s : State), ∃ t, exec (.auxContactConfirm str) s = .next t ∧ Safety.changesOnly [.mode, .insts, .engines, .stages, .phases, .strs, .faults] s t)
  ∧ (∀ (s : State), ∃ t, exec .descentProgramsStart s = .next t ∧ Safety.changesOnly [.mode, .stages, .rails, .railGroups, .thermal] s t)
  ∧ (∀ (s : State), ∃ t, exec .counterBlockPeriodicCommit s = .next t ∧ Safety.changesOnly [.supply, .mem] s t)
  ∧ (∀ (runs : Bool) (s : State), ∃ t, exec (.xtalRetry runs) s = .next t ∧ Safety.changesOnly [.clock, .faults] s t)
  ∧ (∀ (s : State), ∃ t, exec .canRetentionTimeout s = .next t ∧ Safety.changesOnly [.mode, .faults, .net, .mem, .log, .img] s t)
  ∧ (∀ (ch : Chan) (g : Nat) (v : Nat) (s : State), ∃ t, exec (.groupEnableWrite ch g v) s = .next t ∧ Safety.changesOnly [.mode, .mods, .groups, .faults, .pair, .net, .log, .cfg] s t)
  ∧ (∀ (md : Nat) (s : State), ∃ t, exec (.stuckClearCount md) s = .next t ∧ Safety.changesOnly [.mods, .faults] s t)
  ∧ (∀ (md : Nat) (b : Bool) (s : State), ∃ t, exec (.fastComparatorDecision md b) s = .next t ∧ Safety.changesOnly [.mods, .stages, .log] s t)
  ∧ (∀ (ch : Chan) (md : Nat) (v : Nat) (s : State), ∃ t, exec (.calCommand ch md v) s = .next t ∧ Safety.changesOnly [.mode, .mods, .pair, .net] s t)
  ∧ (∀ (md : Nat) (s : State), ∃ t, exec (.calComplete md) s = .next t ∧ Safety.changesOnly [.mode, .mods, .insts, .engines, .stages, .phases, .faults, .cfg] s t)
  ∧ (∀ (ch : Chan) (n : Nat) (s : State), ∃ t, exec (.seqLengthWrite ch n) s = .next t ∧ Safety.changesOnly [.mode, .adc, .pair, .net, .cfg] s t)
  ∧ (∀ (s : State), ∃ t, exec .adcLapStart s = .next t ∧ Safety.changesOnly [.adc] s t)

/-- What commands of the loop engines, stages and phases, profile generators and set points leave unchanged: every part of the state but those listed, and the queue (spec/04_loop_engines_and_tide_table.md, spec/05_stages_pwm_and_fast_protection.md, spec/06_setpoints_disturbance_and_plausibility.md). A write of an object touches
besides its own part `net` (the answer, the session), `mode` (the awake time of a CAN port) and `pair` (the frame to the twin). -/
def Obligations.FramesLoopsAndStages : Prop :=
  (∀ (s : State), ∃ t, exec .idleBanksLoaded s = .next t ∧ Safety.changesOnly [.tide, .img] s t)
  ∧ (∀ (ch : Chan) (st : Nat) (s : State), ∃ t, exec (.stageStart ch st) s = .next t ∧ Safety.changesOnly [.mode, .insts, .engines, .stages, .phases, .faults, .pair, .net] s t)
  ∧ (∀ (st : Nat) (s : State), ∃ t, exec (.softStartEnd st) s = .next t ∧ Safety.changesOnly [.stages, .rails, .faults] s t)
  ∧ (∀ (ch : Chan) (st : Nat) (s : State), ∃ t, exec (.stageStop ch st) s = .next t ∧ Safety.changesOnly [.mode, .stages, .pair, .net] s t)
  ∧ (∀ (ch : Chan) (ph : Nat) (s : State), ∃ t, exec (.phaseDrop ch ph) s = .next t ∧ Safety.changesOnly [.mode, .mods, .groups, .insts, .engines, .stages, .phases, .obs, .feeds, .strs, .faults, .pair, .net, .log] s t)
  ∧ (∀ (ch : Chan) (ph : Nat) (s : State), ∃ t, exec (.phaseReturn ch ph) s = .next t ∧ Safety.changesOnly [.mode, .mods, .groups, .insts, .engines, .stages, .phases, .obs, .feeds, .strs, .faults, .pair, .net, .log] s t)
  ∧ (∀ (st : Nat) (s : State), ∃ t, exec (.holdWatchExpired st) s = .next t ∧ Safety.changesOnly [.stages, .phases] s t)
  ∧ (∀ (ch : Chan) (n : Nat) (v : BitVec 32) (s : State), ∃ t, exec (.pgTargetWrite ch n v) s = .next t ∧ Safety.changesOnly [.mode, .pgs, .pair, .net, .log, .cfg] s t)
  ∧ (∀ (n : Nat) (s : State), ∃ t, exec (.rcUpdate n) s = .next t ∧ Safety.changesOnly [.rcs, .faults] s t)
  ∧ (∀ (ch : Chan) (n : Nat) (v : Nat) (s : State), ∃ t, exec (.rcReset ch n v) s = .next t ∧ Safety.changesOnly [.mode, .rcs, .faults, .pair, .net] s t)
  ∧ (∀ (ph : Nat) (s : State), ∃ t, exec (.substitutionExpired ph) s = .next t ∧ Safety.changesOnly [.mode, .mods, .groups, .insts, .engines, .stages, .phases, .obs, .feeds, .strs, .faults, .net, .log] s t)

/-- What commands of the power manager, of feeds, of temperature and of ageing leave unchanged: every part of the state but those listed, and the queue (spec/07_shelf_power_management_and_feeds.md, spec/10_rails_temperature_and_ageing.md). A write of an object touches
besides its own part `net` (the answer, the session), `mode` (the awake time of a CAN port) and `pair` (the frame to the twin). -/
def Obligations.FramesPowerAndFeeds : Prop :=
  (∀ (s : State), ∃ t, exec .spmRecompute s = .next t ∧ Safety.changesOnly [.stages, .spm, .strs, .cfg] s t)
  ∧ (∀ (ch : Chan) (ph : Nat) (v : BitVec 32) (s : State), ∃ t, exec (.phaseShareTrimWrite ch ph v) s = .next t ∧ Safety.changesOnly [.mode, .spm, .pair, .net] s t)
  ∧ (∀ (s : State), ∃ t, exec .handoverEnd s = .next t ∧ Safety.changesOnly [.stages, .spm, .strs, .cfg] s t)
  ∧ (∀ (src : Nat) (s : State), ∃ t, exec (.sourceQualified src) s = .next t ∧ Safety.changesOnly [.spm, .feeds, .faults] s t)
  ∧ (∀ (ch : Chan) (v : Nat) (s : State), ∃ t, exec (.handbackCommand ch v) s = .next t ∧ Safety.changesOnly [.mode, .spm, .pair, .net] s t)
  ∧ (∀ (f : Nat) (s : State), ∃ t, exec (.feedGateOn f) s = .next t ∧ Safety.changesOnly [.feeds, .faults] s t)
  ∧ (∀ (ch : Chan) (f : Nat) (s : State), ∃ t, exec (.feedEnableOn ch f) s = .next t ∧ Safety.changesOnly [.mode, .feeds, .faults, .pair, .net, .cfg] s t)
  ∧ (∀ (ch : Chan) (f : Nat) (s : State), ∃ t, exec (.feedEnableOff ch f) s = .next t ∧ Safety.changesOnly [.mode, .feeds, .pair, .net, .cfg] s t)
  ∧ (∀ (f : Nat) (s : State), ∃ t, exec (.inrushChop f) s = .next t ∧ Safety.changesOnly [.feeds] s t)
  ∧ (∀ (f : Nat) (s : State), ∃ t, exec (.inrushOffExpired f) s = .next t ∧ Safety.changesOnly [.feeds] s t)
  ∧ (∀ (f : Nat) (s : State), ∃ t, exec (.gateConfirmExpired f) s = .next t ∧ Safety.changesOnly [.feeds] s t)
  ∧ (∀ (f : Nat) (s : State), ∃ t, exec (.gateFeedbackLost f) s = .next t ∧ Safety.changesOnly [.feeds] s t)
  ∧ (∀ (f : Nat) (s : State), ∃ t, exec (.feedRetry f) s = .next t ∧ Safety.changesOnly [.feeds] s t)
  ∧ (∀ (f : Nat) (s : State), ∃ t, exec (.feedRetryReset f) s = .next t ∧ Safety.changesOnly [.feeds] s t)
  ∧ (∀ (s : State), ∃ t, exec .thermalDerateUpdate s = .next t ∧ Safety.changesOnly [.spm] s t)
  ∧ (∀ (ch : Chan) (v : Nat) (s : State), ∃ t, exec (.ageReset ch v) s = .next t ∧ Safety.changesOnly [.mode, .tide, .thermal, .faults, .pair, .net, .mem] s t)
  ∧ (∀ (s : State), ∃ t, exec .replan s = .next t ∧ Safety.changesOnly [.spm, .pair, .cfg] s t)
  ∧ (∀ (s : State), ∃ t, exec .ageingCommit s = .next t ∧ Safety.changesOnly [.thermal, .mem] s t)

/-- What commands of strings, of charging and of the black start leave unchanged: every part of the state but those listed, and the queue (spec/08_battery_string_estimation.md, spec/09_charging_blackstart_and_layup.md). A write of an object touches
besides its own part `net` (the answer, the session), `mode` (the awake time of a CAN port) and `pair` (the frame to the twin). -/
def Obligations.FramesStringsAndCharging : Prop :=
  (∀ (str : Nat) (s : State), ∃ t, exec (.probeStart str) s = .next t ∧ Safety.changesOnly [.stages, .spm, .strs, .cfg] s t)
  ∧ (∀ (s : State), ∃ t, exec .probeShiftEnd s = .next t ∧ Safety.changesOnly [.stages, .spm, .strs, .cfg] s t)
  ∧ (∀ (ch : Chan) (str : Nat) (s : State), ∃ t, exec (.slackRequest ch str) s = .next t ∧ Safety.changesOnly [.mode, .stages, .spm, .strs, .pair, .net, .cfg] s t)
  ∧ (∀ (str : Nat) (s : State), ∃ t, exec (.slackAutoRequest str) s = .next t ∧ Safety.changesOnly [.stages, .spm, .strs, .cfg] s t)
  ∧ (∀ (ch : Chan) (str : Nat) (s : State), ∃ t, exec (.slackAbort ch str) s = .next t ∧ Safety.changesOnly [.mode, .stages, .spm, .strs, .pair, .net, .cfg] s t)
  ∧ (∀ (str : Nat) (s : State), ∃ t, exec (.slackRampDownEnd str) s = .next t ∧ Safety.changesOnly [.stages, .spm, .strs, .cfg] s t)
  ∧ (∀ (str : Nat) (s : State), ∃ t, exec (.slackRestPoint str) s = .next t ∧ Safety.changesOnly [.stages, .spm, .strs, .faults, .cfg] s t)
  ∧ (∀ (str : Nat) (s : State), ∃ t, exec (.slackComplete str) s = .next t ∧ Safety.changesOnly [.strs, .faults] s t)
  ∧ (∀ (str : Nat) (s : State), ∃ t, exec (.slackConditionAbort str) s = .next t ∧ Safety.changesOnly [.stages, .spm, .strs, .cfg] s t)
  ∧ (∀ (ch : Chan) (str : Nat) (v : Nat) (s : State), ∃ t, exec (.stringReplaced ch str v) s = .next t ∧ Safety.changesOnly [.mode, .strs, .chargers, .pair, .net] s t)
  ∧ (∀ (s : State), ∃ t, exec .estimatorCommit s = .next t ∧ Safety.changesOnly [.strs, .mem] s t)
  ∧ (∀ (str : Nat) (s : State), ∃ t, exec (.stringShedOpen str) s = .next t ∧ Safety.changesOnly [.strs] s t)
  ∧ (∀ (ch : Chan) (str : Nat) (s : State), ∃ t, exec (.chargeCommandStart ch str) s = .next t ∧ Safety.changesOnly [.mode, .chargers, .pair, .net, .cfg] s t)
  ∧ (∀ (ch : Chan) (str : Nat) (s : State), ∃ t, exec (.chargeCommandStop ch str) s = .next t ∧ Safety.changesOnly [.mode, .stages, .spm, .strs, .chargers, .pair, .net, .cfg] s t)
  ∧ (∀ (str : Nat) (s : State), ∃ t, exec (.pulseEnd str) s = .next t ∧ Safety.changesOnly [.stages, .spm, .strs, .chargers, .cfg] s t)
  ∧ (∀ (str : Nat) (s : State), ∃ t, exec (.restEnd str) s = .next t ∧ Safety.changesOnly [.stages, .spm, .strs, .chargers, .faults, .cfg] s t)
  ∧ (∀ (ch : Chan) (str : Nat) (s : State), ∃ t, exec (.eqRequest ch str) s = .next t ∧ Safety.changesOnly [.mode, .chargers, .pair, .net, .cfg] s t)
  ∧ (∀ (ch : Chan) (str : Nat) (s : State), ∃ t, exec (.eqAbort ch str) s = .next t ∧ Safety.changesOnly [.mode, .stages, .spm, .strs, .chargers, .faults, .pair, .net, .cfg] s t)
  ∧ (∀ (str : Nat) (s : State), ∃ t, exec (.finalRestSkip str) s = .next t ∧ Safety.changesOnly [.strs, .chargers, .faults] s t)
  ∧ (∀ (s : State), ∃ t, exec .bsInWindow s = .next t ∧ Safety.changesOnly [.dead] s t)

/-- What instructions of the sequencer and commands of rails and groups leave unchanged: every part of the state but those listed, and the queue (spec/10_rails_temperature_and_ageing.md). A write of an object touches
besides its own part `net` (the answer, the session), `mode` (the awake time of a CAN port) and `pair` (the frame to the twin). -/
def Obligations.FramesRails : Prop :=
  (∀ (g : Nat) (pins : Nat) (s : State), ∃ t, exec (.seqEnd g pins) s = .next t ∧ Safety.changesOnly [.mode, .rails, .railGroups, .thermal] s t)
  ∧ (∀ (g : Nat) (pins : Nat) (s : State), ∃ t, exec (.seqOff g pins) s = .next t ∧ Safety.changesOnly [.insts, .engines, .stages, .phases, .rails, .railGroups, .faults, .berths, .ports] s t)
  ∧ (∀ (g : Nat) (pins : Nat) (s : State), ∃ t, exec (.seqDelay g pins) s = .next t ∧ Safety.changesOnly [.rails, .railGroups] s t)
  ∧ (∀ (g : Nat) (pins : Nat) (s : State), ∃ t, exec (.seqMark g pins) s = .next t ∧ Safety.changesOnly [.rails, .railGroups] s t)
  ∧ (∀ (r : Nat) (s : State), ∃ t, exec (.stageRailStart r) s = .next t ∧ Safety.changesOnly [.mode, .insts, .engines, .stages, .phases, .rails, .faults, .berths, .ports] s t)
  ∧ (∀ (ch : Chan) (g : Nat) (s : State), ∃ t, exec (.groupRise ch g) s = .next t ∧ Safety.changesOnly [.mode, .rails, .railGroups, .thermal, .pair, .net] s t)
  ∧ (∀ (ch : Chan) (g : Nat) (s : State), ∃ t, exec (.groupAbortRise ch g) s = .next t ∧ Safety.changesOnly [.mode, .railGroups, .pair, .net] s t)
  ∧ (∀ (ch : Chan) (g : Nat) (s : State), ∃ t, exec (.groupLower ch g) s = .next t ∧ Safety.changesOnly [.mode, .rails, .railGroups, .pair, .net] s t)
  ∧ (∀ (ch : Chan) (r : Nat) (s : State), ∃ t, exec (.railMarginHigh ch r) s = .next t ∧ Safety.changesOnly [.mode, .rails, .pair, .net, .berths, .ports] s t)
  ∧ (∀ (ch : Chan) (r : Nat) (s : State), ∃ t, exec (.railMarginLow ch r) s = .next t ∧ Safety.changesOnly [.mode, .rails, .pair, .net, .berths, .ports] s t)
  ∧ (∀ (ch : Chan) (r : Nat) (s : State), ∃ t, exec (.railMarginOff ch r) s = .next t ∧ Safety.changesOnly [.mode, .rails, .pair, .net, .berths, .ports] s t)

/-- What commands of faults and of the pair leave unchanged: every part of the state but those listed, and the queue (spec/11_faults_and_severity.md, spec/12_pair_and_switchover.md). A write of an object touches
besides its own part `net` (the answer, the session), `mode` (the awake time of a CAN port) and `pair` (the frame to the twin). -/
def Obligations.FramesFaultsAndPair : Prop :=
  (∀ (id : Nat) (kind : Nat) (s : State), ∃ t, exec (.faultClearWindowEnd id kind) s = .next t ∧ Safety.changesOnly [.faults, .net, .log] s t)
  ∧ (∀ (ch : Chan) (region : Nat) (record : BitVec 64) (s : State), ∃ t, exec (.sevWrite ch region record) s = .next t ∧ Safety.changesOnly [.mode, .faults, .pair, .net, .log] s t)
  ∧ (∀ (ch : Chan) (region : Nat) (record : BitVec 64) (s : State), ∃ t, exec (.sevQueryWrite ch region record) s = .next t ∧ Safety.changesOnly [.mode, .pair, .net] s t)
  ∧ (∀ (ch : Chan) (region : Nat) (mask : Nat) (s : State), ∃ t, exec (.irqPendingClear ch region mask) s = .next t ∧ Safety.changesOnly [.mode, .faults, .pair, .net] s t)
  ∧ (∀ (port : Nat) (s : State), ∃ t, exec (.emcyInhibitExpired port) s = .next t ∧ Safety.changesOnly [.faults, .net] s t)
  ∧ (∀ (s : State), ∃ t, exec .heartbeatSend s = .next t ∧ Safety.changesOnly [.pair] s t)
  ∧ (∀ (hd : FrameHead) (crcOk : Bool) (score : Nat) (s : State), ∃ t, exec (.electionFrameReceived { hd := hd, crcOk := crcOk, score := score }) s = .next t ∧ Safety.changesOnly [.mode, .pair, .draws] s t)
  ∧ (∀ (s : State), ∃ t, exec .electionFrameSend s = .next t ∧ Safety.changesOnly [.pair] s t)
  ∧ (∀ (s : State), ∃ t, exec .alignmentSend s = .next t ∧ Safety.changesOnly [.pair] s t)
  ∧ (∀ (hd : FrameHead) (crcOk : Bool) (k : Nat) (items : List AlignItem) (s : State), ∃ t, exec (.alignmentReceived hd crcOk k items) s = .next t ∧ Safety.changesOnly [.insts, .pair] s t)
  ∧ (∀ (hd : FrameHead) (crcOk : Bool) (k : Nat) (idx : Nat) (sub : Nat) (data : List (BitVec 8)) (s : State), ∃ t, exec (.mirrorWriteReceived hd crcOk k idx sub data) s = .next t ∧ Safety.changesOnly [.spm, .pair, .net, .cfg] s t)
  ∧ (∀ (cls : Nat) (s : State), ∃ t, exec (.kopolFrameRetransmit cls) s = .next t ∧ Safety.changesOnly [.pair] s t)
  ∧ (∀ (lane : Nat) (ok : Bool) (roundTrip : ℚ) (s : State), ∃ t, exec (.laneRetrain lane ok roundTrip) s = .next t ∧ Safety.changesOnly [.faults, .pair] s t)
  ∧ (∀ (s : State), ∃ t, exec .healthUpdate s = .next t ∧ Safety.changesOnly [.pair] s t)
  ∧ (∀ (s : State), ∃ t, exec .engStopSelfRelease s = .next t ∧ Safety.changesOnly [.mode, .stages, .phases, .pair, .ports, .log] s t)
  ∧ (∀ (s : State), ∃ t, exec .supStallSelfRelease s = .next t ∧ Safety.changesOnly [.pair, .ports, .log] s t)
  ∧ (∀ (s : State), ∃ t, exec .selfReleaseOutputsLow s = .next t ∧ Safety.changesOnly [.mode, .phases, .feeds, .strs, .pair] s t)
  ∧ (∀ (ch : Chan) (s : State), ∃ t, exec (.handoverRequest ch) s = .next t ∧ Safety.changesOnly [.mode, .pair, .net] s t)
  ∧ (∀ (ch : Chan) (s : State), ∃ t, exec (.handoverCancel ch) s = .next t ∧ Safety.changesOnly [.mode, .pair, .net] s t)
  ∧ (∀ (s : State), ∃ t, exec .handoverTimeout s = .next t ∧ Safety.changesOnly [.pair, .log, .img] s t)
  ∧ (∀ (s : State), ∃ t, exec .supervisoryCoresResume s = .next t ∧ Safety.changesOnly [.mode, .pair] s t)

/-- What requests, frames and timeouts of SDO, of Nireo and of its transports leave unchanged: every part of the state but those listed, and the queue (spec/13_dictionary_networks_and_time.md). A write of an object touches
besides its own part `net` (the answer, the session), `mode` (the awake time of a CAN port) and `pair` (the frame to the twin). -/
def Obligations.FramesDictionary : Prop :=
  (∀ (port : Nat) (srv : Nat) (s : State), ∃ t, exec (.sdoAbortTransfer port srv) s = .next t ∧ Safety.changesOnly [.mode, .net, .log, .img] s t)
  ∧ (∀ (port : Nat) (srv : Nat) (s : State), ∃ t, exec (.sdoSegmentTimeout port srv) s = .next t ∧ Safety.changesOnly [.net, .log, .img] s t)
  ∧ (∀ (rq : NireoReq) (tag : Nat) (idx : Nat) (sub : Nat) (ca : Bool) (word : Nat) (s : State), ∃ t, exec (.nireoRead rq tag idx sub ca word) s = .next t ∧ Safety.changesOnly [.mode, .net] s t)
  ∧ (∀ (rq : NireoReq) (tag : Nat) (idx : Nat) (sub : Nat) (size : Nat) (s : State), ∃ t, exec (.nireoDomainBegin rq tag idx sub size) s = .next t ∧ Safety.changesOnly [.mode, .net] s t)
  ∧ (∀ (rq : NireoReq) (tag : Nat) (idx : Nat) (sub : Nat) (word : Nat) (data : List (BitVec 8)) (s : State), ∃ t, exec (.nireoDomainSegment rq tag idx sub word data) s = .next t ∧ Safety.changesOnly [.mode, .net, .log, .img] s t)
  ∧ (∀ (rq : NireoReq) (tag : Nat) (idx : Nat) (sub : Nat) (s : State), ∃ t, exec (.nireoDomainAbort rq tag idx sub) s = .next t ∧ Safety.changesOnly [.mode, .net, .log, .img] s t)
  ∧ (∀ (port : Nat) (tag : Nat) (peer : Nat × Nat) (s : State), ∃ t, exec (.nireoOpenSession (port, peer) tag) s = .next t ∧ Safety.changesOnly [.net, .draws] s t)
  ∧ (∀ (rq : NireoReq) (tag : Nat) (s : State), ∃ t, exec (.nireoCloseSession rq tag) s = .next t ∧ Safety.changesOnly [.mode, .net, .log, .img] s t)
  ∧ (∀ (port : Nat) (s : State), ∃ t, exec (.nireoFrameDropped port) s = .next t ∧ Safety.changesOnly [.net] s t)
  ∧ (∀ (session : Nat) (s : State), ∃ t, exec (.sessionIdleTimeout session) s = .next t ∧ Safety.changesOnly [.net, .log, .img] s t)
  ∧ (∀ (session : Nat) (idx : Nat) (sub : Nat) (s : State), ∃ t, exec (.domainWriteIdleTimeout session idx sub) s = .next t ∧ Safety.changesOnly [.net, .log, .img] s t)
  ∧ (∀ (s : State), ∃ t, exec .hsStatusCommand s = .next t ∧ Safety.changesOnly [.net] s t)
  ∧ (∀ (s : State), ∃ t, exec .hsResponseCommand s = .next t ∧ Safety.changesOnly [.net] s t)
  ∧ (∀ (ch : Chan) (s : State), ∃ t, exec (.accessChallengeRead ch) s = .next t ∧ Safety.changesOnly [.mode, .net] s t)
  ∧ (∀ (ch : Chan) (level : Nat) (sig : List (BitVec 8)) (s : State), ∃ t, exec (.accessResponse ch level sig) s = .next t ∧ Safety.changesOnly [.mode, .net] s t)
  ∧ (∀ (ch : Chan) (s : State), ∃ t, exec (.accessIdleTimeout ch) s = .next t ∧ Safety.changesOnly [.net] s t)

/-- What NMT and LSS services, PDOs, TIME, heartbeats, bus-off and profile updates leave unchanged: every part of the state but those listed, and the queue (spec/13_dictionary_networks_and_time.md, spec/06_setpoints_disturbance_and_plausibility.md). A write of an object touches
besides its own part `net` (the answer, the session), `mode` (the awake time of a CAN port) and `pair` (the frame to the twin). -/
def Obligations.FramesCanOpen : Prop :=
  (∀ (n : Nat) (s : State), ∃ t, exec (.pgUpdate n) s = .next t ∧ Safety.changesOnly [.pgs, .pair, .net, .log] s t)
  ∧ (∀ (port : Nat) (s : State), ∃ t, exec (.nmtStart port) s = .next t ∧ Safety.changesOnly [.mode, .net] s t)
  ∧ (∀ (port : Nat) (s : State), ∃ t, exec (.nmtStop port) s = .next t ∧ Safety.changesOnly [.mode, .net, .log, .img] s t)
  ∧ (∀ (port : Nat) (s : State), ∃ t, exec (.nmtEnterPreOperational port) s = .next t ∧ Safety.changesOnly [.mode, .net] s t)
  ∧ (∀ (port : Nat) (s : State), ∃ t, exec (.nmtResetNode port) s = .next t ∧ Safety.changesOnly [.mode, .faults, .net, .log, .img, .cfg] s t)
  ∧ (∀ (port : Nat) (s : State), ∃ t, exec (.nmtResetCommunication port) s = .next t ∧ Safety.changesOnly [.mode, .faults, .net, .log, .img, .cfg] s t)
  ∧ (∀ (port : Nat) (global : Bool) (configuration : Bool) (ident : List Nat) (s : State), ∃ t, exec (.lssSwitchState port global configuration ident) s = .next t ∧ Safety.changesOnly [.mode, .net] s t)
  ∧ (∀ (port : Nat) (node : Nat) (s : State), ∃ t, exec (.lssConfigureNodeId port node) s = .next t ∧ Safety.changesOnly [.mode, .net] s t)
  ∧ (∀ (port : Nat) (entry : Nat) (s : State), ∃ t, exec (.lssConfigureBitTiming port entry) s = .next t ∧ Safety.changesOnly [.mode, .net] s t)
  ∧ (∀ (port : Nat) (s : State), ∃ t, exec (.lssStore port) s = .next t ∧ Safety.changesOnly [.mode, .net] s t)
  ∧ (∀ (port : Nat) (what : Nat) (s : State), ∃ t, exec (.lssInquire port what) s = .next t ∧ Safety.changesOnly [.mode, .net] s t)
  ∧ (∀ (port : Nat) (idNumber : Nat) (bitCheck : Nat) (lssSub : Nat) (lssNext : Nat) (s : State), ∃ t, exec (.lssFastscan port idNumber bitCheck lssSub lssNext) s = .next t ∧ Safety.changesOnly [.mode, .net] s t)
  ∧ (∀ (s : State), ∃ t, exec .timeProduce s = .next t ∧ Safety.changesOnly [.net] s t)
  ∧ (∀ (n : Nat) (s : State), ∃ t, exec (.tpdoEvent n) s = .next t ∧ Safety.changesOnly [.net] s t)
  ∧ (∀ (n : Nat) (s : State), ∃ t, exec (.tpdoEventTimer n) s = .next t ∧ Safety.changesOnly [.net] s t)
  ∧ (∀ (port : Nat) (s : State), ∃ t, exec (.canHeartbeatProduce port) s = .next t ∧ Safety.changesOnly [.net] s t)
  ∧ (∀ (port : Nat) (s : State), ∃ t, exec (.canBusOffRecovery port) s = .next t ∧ Safety.changesOnly [.faults, .net] s t)
  ∧ (∀ (port : Nat) (node : Nat) (s : State), ∃ t, exec (.canHeartbeatReceived port node) s = .next t ∧ Safety.changesOnly [.faults, .net] s t)
  ∧ (∀ (n : Nat) (s : State), ∃ t, exec (.tpdoInhibitExpired n) s = .next t ∧ Safety.changesOnly [.net] s t)

/-- What Ethernet frames, PTP messages and events of the time base leave unchanged: every part of the state but those listed, and the queue (spec/13_dictionary_networks_and_time.md). A write of an object touches
besides its own part `net` (the answer, the session), `mode` (the awake time of a CAN port) and `pair` (the frame to the twin). -/
def Obligations.FramesTimeAndEthernet : Prop :=
  (∀ (port : Nat) (addr : Nat) (s : State), ∃ t, exec (.ethArpRequest port addr) s = .next t ∧ Safety.changesOnly [.net] s t)
  ∧ (∀ (port : Nat) (addr : Nat) (s : State), ∃ t, exec (.icmpEchoRequest port addr) s = .next t ∧ Safety.changesOnly [.net] s t)
  ∧ (∀ (port : Nat) (s : State), ∃ t, exec (.ptpSyncSend port) s = .next t ∧ Safety.changesOnly [.net] s t)
  ∧ (∀ (port : Nat) (s : State), ∃ t, exec (.ptpAnnounceSend port) s = .next t ∧ Safety.changesOnly [.net] s t)
  ∧ (∀ (port : Nat) (req : DelayReq) (s : State), ∃ t, exec (.ptpDelayReqReceived port req) s = .next t ∧ Safety.changesOnly [.net] s t)
  ∧ (∀ (port : Nat) (s : State), ∃ t, exec (.ptpAnnounceTimeout port) s = .next t ∧ Safety.changesOnly [.faults, .net] s t)
  ∧ (∀ (s : State), ∃ t, exec .ppsEdge s = .next t ∧ Safety.changesOnly [.net] s t)
  ∧ (∀ (s : State), ∃ t, exec .traceableTimeout s = .next t ∧ Safety.changesOnly [.net] s t)
  ∧ (∀ (s : State), ∃ t, exec .holdoverEnd s = .next t ∧ Safety.changesOnly [.net] s t)
  ∧ (∀ (port : Nat) (speed : Nat) (s : State), ∃ t, exec (.ethLinkUp port speed) s = .next t ∧ Safety.changesOnly [.faults, .net, .draws] s t)
  ∧ (∀ (port : Nat) (s : State), ∃ t, exec (.ethFrameDropped port) s = .next t ∧ Safety.changesOnly [.net] s t)

/-- What commands of two-wire ports and of the memories leave unchanged: every part of the state but those listed, and the queue (spec/14_two_wire_partners.md, spec/15_memory_and_error_correction.md). A write of an object touches
besides its own part `net` (the answer, the session), `mode` (the awake time of a CAN port) and `pair` (the frame to the twin). -/
def Obligations.FramesTwoWireAndMemory : Prop :=
  (∀ (b : Nat) (s : State), ∃ t, exec (.berthPresenceLow b) s = .next t ∧ Safety.changesOnly [.berths, .ports] s t)
  ∧ (∀ (port : Nat) (addr : Nat) (s : State), ∃ t, exec (.alertResponseRead port addr) s = .next t ∧ Safety.changesOnly [.faults, .berths, .ports] s t)
  ∧ (∀ (port : Nat) (addr : Nat) (data : Nat) (s : State), ∃ t, exec (.hostNotifyReceived port addr data) s = .next t ∧ Safety.changesOnly [.mode, .berths, .ports] s t)
  ∧ (∀ (port : Nat) (cmd : Nat) (data : List (BitVec 8)) (pecOk : Bool) (s : State), ∃ t, exec (.mailboxBlockWrite port cmd data pecOk) s = .next t ∧ Safety.changesOnly [.mode, .ports] s t)
  ∧ (∀ (port : Nat) (s : State), ∃ t, exec (.mailboxBlockRead port) s = .next t ∧ Safety.changesOnly [.mode, .faults, .ports, .mem] s t)
  ∧ (∀ (port : Nat) (s : State), ∃ t, exec (.twTransactionBoundary port) s = .next t ∧ Safety.changesOnly [.mode, .mods, .groups, .insts, .engines, .stages, .phases, .spm, .feeds, .strs, .faults, .net, .berths, .ports, .log, .cfg] s t)
  ∧ (∀ (ch : Chan) (b : Nat) (w : BitVec 32) (s : State), ∃ t, exec (.hostCommand ch b w) s = .next t ∧ Safety.changesOnly [.mode, .pair, .net, .berths, .ports] s t)
  ∧ (∀ (port : Nat) (s : State), ∃ t, exec (.mailboxBlockTaken port) s = .next t ∧ Safety.changesOnly [.mode, .faults, .berths, .ports, .mem] s t)
  ∧ (∀ (s : State), ∃ t, exec .dramFillComplete s = .next t ∧ Safety.changesOnly [.mem] s t)
  ∧ (∀ (sram : Bool) (s : State), ∃ t, exec (.bucketLeakTick sram) s = .next t ∧ Safety.changesOnly [.faults, .mem] s t)
  ∧ (∀ (ch : Chan) (v : Nat) (s : State), ∃ t, exec (.eccModeChange ch v) s = .next t ∧ Safety.changesOnly [.mode, .pair, .net, .mem, .log, .cfg] s t)
  ∧ (∀ (ch : Chan) (v : Nat) (s : State), ∃ t, exec (.flipArm ch v) s = .next t ∧ Safety.changesOnly [.mode, .pair, .net, .mem] s t)

/-- What commands of the recorder and of images and updates leave unchanged: every part of the state but those listed, and the queue (spec/16_logbook_and_waveforms.md, spec/17_images_update_and_recovery.md). A write of an object touches
besides its own part `net` (the answer, the session), `mode` (the awake time of a CAN port) and `pair` (the frame to the twin). -/
def Obligations.FramesLogbookAndImages : Prop :=
  (∀ (ch : Chan) (s : State), ∃ t, exec (.freezeStart ch) s = .next t ∧ Safety.changesOnly [.mode, .pair, .net, .log] s t)
  ∧ (∀ (ch : Chan) (s : State), ∃ t, exec (.freezeAbort ch) s = .next t ∧ Safety.changesOnly [.mode, .pair, .net, .log] s t)
  ∧ (∀ (ch : Chan) (s : State), ∃ t, exec (.freezeRelease ch) s = .next t ∧ Safety.changesOnly [.mode, .pair, .net, .log] s t)
  ∧ (∀ (s : State), ∃ t, exec .freezeLimitExpired s = .next t ∧ Safety.changesOnly [.log] s t)
  ∧ (∀ (ch : Chan) (n : Nat) (s : State), ∃ t, exec (.readFromWrite ch n) s = .next t ∧ Safety.changesOnly [.mode, .pair, .net] s t)
  ∧ (∀ (ch : Chan) (s : State), ∃ t, exec (.readBlock ch) s = .next t ∧ Safety.changesOnly [.net] s t)
  ∧ (∀ (bit : Nat) (key : Key) (cls : Nat) (md : Nat) (at_ : Nat) (s : State), ∃ t, exec (.captureTrigger bit key cls md at_) s = .next t ∧ Safety.changesOnly [.log] s t)
  ∧ (∀ (ch : Chan) (s : State), ∃ t, exec (.triggerNow ch) s = .next t ∧ Safety.changesOnly [.mode, .pair, .net, .log] s t)
  ∧ (∀ (w : Nat) (s : State), ∃ t, exec (.windowLastFrame w) s = .next t ∧ Safety.changesOnly [.log] s t)
  ∧ (∀ (p : Promotion) (s : State), ∃ t, exec (.windowCommit p) s = .next t ∧ Safety.changesOnly [.mode, .mods, .groups, .insts, .engines, .stages, .phases, .feeds, .strs, .faults, .pair, .net, .mem, .log] s t)
  ∧ (∀ (w : Nat) (s : State), ∃ t, exec (.windowAbandon w) s = .next t ∧ Safety.changesOnly [.log] s t)
  ∧ (∀ (ch : Chan) (w : Nat) (v : Nat) (s : State), ∃ t, exec (.windowRelease ch w v) s = .next t ∧ Safety.changesOnly [.mode, .pair, .net, .log] s t)
  ∧ (∀ (s : State), ∃ t, exec .tideFrameBoundary s = .next t ∧ Safety.changesOnly [.tide, .insts, .engines, .faults, .img, .cfg] s t)
  ∧ (∀ (hd : FrameHead) (crcOk : Bool) (kind : Nat) (offset : Nat) (data : List (BitVec 8)) (s : State), ∃ t, exec (.imageTransferReceived hd crcOk kind offset data) s = .next t ∧ Safety.changesOnly [.pair, .log, .img] s t)
  ∧ (∀ (s : State), ∃ t, exec .updateTransferComplete s = .next t ∧ Safety.changesOnly [.img] s t)
  ∧ (∀ (ch : Chan) (v : Nat) (s : State), ∃ t, exec (.updateAbort ch v) s = .next t ∧ Safety.changesOnly [.mode, .pair, .net, .log, .img] s t)
  ∧ (∀ (ch : Chan) (s : State), ∃ t, exec (.hitlessStart ch) s = .next t ∧ Safety.changesOnly [.mode, .tide, .pair, .net, .log, .img] s t)
  ∧ (∀ (ch : Chan) (s : State), ∃ t, exec (.hitlessAbort ch) s = .next t ∧ Safety.changesOnly [.mode, .tide, .pair, .net, .log, .img] s t)
  ∧ (∀ (s : State), ∃ t, exec .hitlessCommitPoint s = .next t ∧ Safety.changesOnly [.img] s t)
  ∧ (∀ (s : State), ∃ t, exec .hitlessResume s = .next t ∧ Safety.changesOnly [.tide, .strs, .chargers, .log, .img] s t)
  ∧ (∀ (s : State), ∃ t, exec .hitlessResumeTimeout s = .next t ∧ Safety.changesOnly [.log, .img] s t)
  ∧ (∀ (ch : Chan) (s : State), ∃ t, exec (.pairUpdateStart ch) s = .next t ∧ Safety.changesOnly [.mode, .pair, .net, .log, .img] s t)
  ∧ (∀ (ch : Chan) (s : State), ∃ t, exec (.pairUpdateAbort ch) s = .next t ∧ Safety.changesOnly [.mode, .pair, .net, .log, .img] s t)

/-- Commands of the start, of mode requests, of the descent and of the supply complete in every state, with every operand, and change no other part of the state than those listed (spec/02_modes_startup_and_supply_loss.md, spec/01_shelf_and_controller.md, spec/18_package_pins_and_electrical.md). A command
that carries out a write of any object may reach every part that an object's action reaches. -/
def Obligations.CompletionStartAndSupply : Prop :=
  (∀ (sideB : Bool) (legacy : Bool) (wakeLow : Bool) (train : Nat) (s : State), ∃ t, exec (.porRelease sideB legacy wakeLow train) s = .next t ∧ Safety.changesOnly [.supply, .mode, .clock, .mods, .groups, .adc, .tide, .insts, .engines, .stages, .phases, .pgs, .rcs, .obs, .spm, .feeds, .strs, .chargers, .dead, .rails, .railGroups, .thermal, .faults, .pair, .net, .berths, .ports, .mem, .log, .img, .cfg, .kept] s t)
  ∧ (∀ (found : List Arrival) (s : State), ∃ t, exec (.dictionaryOnline found) s = .next t ∧ Safety.changesOnly [.supply, .mode, .mods, .groups, .adc, .tide, .insts, .engines, .stages, .phases, .pgs, .rcs, .obs, .spm, .feeds, .strs, .dead, .rails, .railGroups, .thermal, .faults, .pair, .net, .berths, .ports, .mem, .log, .img, .cfg, .draws] s t)
  ∧ (∀ (s : State), ∃ t, exec .snsEngRelease s = .next t ∧ Safety.changesOnly [.supply, .mode, .mods, .groups, .adc, .tide, .insts, .engines, .stages, .phases, .pgs, .rcs, .obs, .spm, .feeds, .strs, .chargers, .dead, .rails, .faults, .pair, .net, .mem, .log, .cfg] s t)
  ∧ (∀ (pair : Nat) (s : State), ∃ t, exec (.prechargeEnd pair) s = .next t ∧ Safety.changesOnly [.mode, .mods, .groups, .insts, .engines, .stages, .phases, .feeds, .strs, .faults, .net, .log] s t)
  ∧ (∀ (s : State), ∃ t, exec .enterActive s = .next t ∧ Safety.changesOnly [.supply, .mode, .mods, .groups, .adc, .tide, .insts, .engines, .stages, .phases, .pgs, .rcs, .obs, .spm, .feeds, .strs, .dead, .faults, .pair, .net, .mem, .log, .cfg, .draws] s t)
  ∧ (∀ (s : State), ∃ t, exec .noSourceDeclared s = .next t ∧ Safety.changesOnly [.supply, .mode, .mods, .groups, .adc, .tide, .insts, .engines, .stages, .phases, .pgs, .rcs, .obs, .spm, .feeds, .strs, .dead, .faults, .pair, .net, .mem, .log, .cfg] s t)
  ∧ (∀ (ch : Chan) (s : State), ∃ t, exec (.modeRequestRise ch) s = .next t ∧ Safety.changesOnly [.supply, .mode, .clock, .mods, .groups, .adc, .tide, .insts, .engines, .stages, .phases, .pgs, .rcs, .obs, .spm, .feeds, .strs, .chargers, .dead, .rails, .railGroups, .thermal, .faults, .pair, .net, .berths, .ports, .mem, .log, .img, .cfg, .kept, .draws] s t)
  ∧ (∀ (ch : Chan) (s : State), ∃ t, exec (.modeRequestService ch) s = .next t ∧ Safety.changesOnly [.supply, .mode, .clock, .mods, .groups, .adc, .tide, .insts, .engines, .stages, .phases, .pgs, .rcs, .obs, .spm, .feeds, .strs, .chargers, .dead, .rails, .railGroups, .thermal, .faults, .pair, .net, .berths, .ports, .mem, .log, .img, .cfg, .kept, .draws] s t)
  ∧ (∀ (ch : Chan) (s : State), ∃ t, exec (.modeRequestActive ch) s = .next t ∧ Safety.changesOnly [.supply, .mode, .clock, .mods, .groups, .adc, .tide, .insts, .engines, .stages, .phases, .pgs, .rcs, .obs, .spm, .feeds, .strs, .chargers, .dead, .rails, .railGroups, .thermal, .faults, .pair, .net, .berths, .ports, .mem, .log, .img, .cfg, .kept, .draws] s t)
  ∧ (∀ (ch : Chan) (s : State), ∃ t, exec (.modeRequestDescent ch) s = .next t ∧ Safety.changesOnly [.supply, .mode, .clock, .mods, .groups, .adc, .tide, .insts, .engines, .stages, .phases, .pgs, .rcs, .obs, .spm, .feeds, .strs, .chargers, .dead, .rails, .railGroups, .thermal, .faults, .pair, .net, .berths, .ports, .mem, .log, .img, .cfg, .kept, .draws] s t)
  ∧ (∀ (ch : Chan) (s : State), ∃ t, exec (.modeRequestMoored ch) s = .next t ∧ Safety.changesOnly [.supply, .mode, .clock, .mods, .groups, .adc, .tide, .insts, .engines, .stages, .phases, .pgs, .rcs, .obs, .spm, .feeds, .strs, .chargers, .dead, .rails, .railGroups, .thermal, .faults, .pair, .net, .berths, .ports, .mem, .log, .img, .cfg, .kept, .draws] s t)
  ∧ (∀ (ch : Chan) (s : State), ∃ t, exec (.modeRequestLayup ch) s = .next t ∧ Safety.changesOnly [.supply, .mode, .clock, .mods, .groups, .adc, .tide, .insts, .engines, .stages, .phases, .pgs, .rcs, .obs, .spm, .feeds, .strs, .chargers, .dead, .rails, .railGroups, .thermal, .faults, .pair, .net, .berths, .ports, .mem, .log, .img, .cfg, .kept, .draws] s t)
  ∧ (∀ (ch : Chan) (code : Nat) (train : Nat) (s : State), ∃ t, exec (.modeRequestLeaveService ch code train) s = .next t ∧ Safety.changesOnly [.supply, .mode, .clock, .mods, .groups, .adc, .tide, .insts, .engines, .stages, .phases, .pgs, .rcs, .obs, .spm, .feeds, .strs, .chargers, .dead, .rails, .railGroups, .thermal, .faults, .pair, .net, .berths, .ports, .mem, .log, .img, .cfg, .kept, .draws] s t)
  ∧ (∀ (s : State), ∃ t, exec .tripReaction s = .next t ∧ Safety.changesOnly [.supply, .mode, .mods, .groups, .adc, .tide, .insts, .engines, .stages, .phases, .pgs, .rcs, .obs, .spm, .feeds, .strs, .railGroups, .faults, .pair, .net, .ports, .mem, .log] s t)
  ∧ (∀ (train : Nat) (s : State), ∃ t, exec (.descentComplete train) s = .next t ∧ Safety.changesOnly [.supply, .mode, .clock, .mods, .groups, .adc, .tide, .insts, .engines, .stages, .phases, .pgs, .rcs, .obs, .spm, .feeds, .strs, .chargers, .dead, .rails, .railGroups, .thermal, .faults, .pair, .net, .berths, .ports, .mem, .log, .img, .cfg, .kept] s t)
  ∧ (∀ (s : State), ∃ t, exec .restartHoldoffEnd s = .next t ∧ Safety.changesOnly [.supply, .mode, .mods, .groups, .adc, .tide, .insts, .engines, .stages, .phases, .pgs, .rcs, .obs, .spm, .feeds, .strs, .dead, .rails, .railGroups, .thermal, .faults, .pair, .net, .mem, .log, .draws] s t)
  ∧ (∀ (pfw : Bool) (vao : Bool) (s : State), ∃ t, exec (.powerFailWarning pfw vao) s = .next t ∧ Safety.changesOnly [.supply, .mode, .mods, .groups, .insts, .engines, .stages, .phases, .feeds, .strs, .rails, .faults, .pair, .net, .ports, .mem, .log, .img, .draws] s t)
  ∧ (∀ (s : State), ∃ t, exec .rstNAsserted s = .next t ∧ Safety.changesOnly [.supply, .mode, .insts, .engines, .stages, .phases, .feeds, .strs, .rails, .faults, .pair, .ports, .mem, .log, .img, .draws] s t)
  ∧ (∀ (train : Nat) (s : State), ∃ t, exec (.rstNReleased train) s = .next t ∧ Safety.changesOnly [.supply, .mode, .clock, .mods, .groups, .adc, .tide, .insts, .engines, .stages, .phases, .pgs, .rcs, .obs, .spm, .feeds, .strs, .chargers, .dead, .rails, .railGroups, .thermal, .faults, .pair, .net, .berths, .ports, .mem, .log, .img, .cfg, .kept] s t)
  ∧ (∀ (train : Nat) (s : State), ∃ t, exec (.supplyDipRestart train) s = .next t ∧ Safety.changesOnly [.supply, .mode, .clock, .mods, .groups, .adc, .tide, .insts, .engines, .stages, .phases, .pgs, .rcs, .obs, .spm, .feeds, .strs, .chargers, .dead, .rails, .railGroups, .thermal, .faults, .pair, .net, .berths, .ports, .mem, .log, .img, .cfg, .kept] s t)
  ∧ (∀ (s : State), ∃ t, exec .xtalFail s = .next t ∧ Safety.changesOnly [.mode, .clock, .mods, .groups, .insts, .engines, .stages, .phases, .feeds, .strs, .faults, .net, .log] s t)
  ∧ (∀ (s : State), ∃ t, exec .porAsserted s = .next t ∧ Safety.changesOnly [.supply, .mode, .clock, .mods, .groups, .adc, .tide, .insts, .engines, .stages, .phases, .pgs, .rcs, .obs, .spm, .feeds, .strs, .chargers, .dead, .rails, .railGroups, .thermal, .faults, .pair, .net, .berths, .ports, .mem, .log, .img, .cfg] s t)

/-- Commands of wakes, of lay-up, of the measurement path and of temperatures complete in every state, with every operand, and change no other part of the state than those listed (spec/02_modes_startup_and_supply_loss.md, spec/03_measurement_path.md, spec/09_charging_blackstart_and_layup.md, spec/10_rails_temperature_and_ageing.md). A command
that carries out a write of any object may reach every part that an object's action reaches. -/
def Obligations.CompletionWakesAndMeasure : Prop :=
  (∀ (s : State), ∃ t, exec .wakeNWake s = .next t ∧ Safety.changesOnly [.supply, .mode, .mods, .groups, .adc, .tide, .insts, .engines, .stages, .phases, .pgs, .rcs, .obs, .spm, .feeds, .strs, .dead, .rails, .railGroups, .thermal, .faults, .pair, .net, .mem, .log, .draws] s t)
  ∧ (∀ (d : SrcPin) (s : State), ∃ t, exec (.srcdetWake d) s = .next t ∧ Safety.changesOnly [.supply, .mode, .mods, .groups, .adc, .tide, .insts, .engines, .stages, .phases, .pgs, .rcs, .obs, .spm, .feeds, .strs, .dead, .rails, .railGroups, .thermal, .faults, .pair, .net, .mem, .log, .draws] s t)
  ∧ (∀ (port : Nat) (addr : Nat) (s : State), ∃ t, exec (.twAddressMatchWake port addr) s = .next t ∧ Safety.changesOnly [.supply, .mode, .mods, .groups, .adc, .tide, .insts, .engines, .stages, .phases, .pgs, .rcs, .obs, .spm, .feeds, .strs, .dead, .rails, .railGroups, .thermal, .faults, .pair, .net, .mem, .log, .draws] s t)
  ∧ (∀ (port : Nat) (s : State), ∃ t, exec (.canWake port) s = .next t ∧ Safety.changesOnly [.supply, .mode, .mods, .groups, .adc, .tide, .insts, .engines, .stages, .phases, .pgs, .rcs, .obs, .spm, .feeds, .strs, .dead, .rails, .railGroups, .thermal, .faults, .pair, .net, .mem, .log, .draws] s t)
  ∧ (∀ (volts : List Rat) (codes : List Nat) (s : State), ∃ t, exec (.mooredAdcScan volts codes) s = .next t ∧ Safety.changesOnly [.supply, .mode, .mods, .groups, .adc, .tide, .insts, .engines, .stages, .phases, .pgs, .rcs, .obs, .spm, .feeds, .strs, .dead, .rails, .railGroups, .thermal, .faults, .pair, .net, .mem, .log, .draws] s t)
  ∧ (∀ (s : State), ∃ t, exec .ownNReleaseWake s = .next t ∧ Safety.changesOnly [.supply, .mode, .mods, .groups, .adc, .tide, .insts, .engines, .stages, .phases, .pgs, .rcs, .obs, .spm, .feeds, .strs, .dead, .rails, .railGroups, .thermal, .faults, .pair, .net, .mem, .log, .draws] s t)
  ∧ (∀ (s : State), ∃ t, exec .aoWakeTimerExpired s = .next t ∧ Safety.changesOnly [.supply, .mode, .mods, .groups, .adc, .tide, .insts, .engines, .stages, .phases, .pgs, .rcs, .obs, .spm, .feeds, .strs, .dead, .rails, .railGroups, .thermal, .faults, .pair, .net, .mem, .log, .draws] s t)
  ∧ (∀ (port : Nat) (s : State), ∃ t, exec (.twMatchStretchTimeout port) s = .next t ∧ Safety.changesOnly [.mode, .mods, .groups, .insts, .engines, .stages, .phases, .feeds, .strs, .faults, .net, .ports, .log] s t)
  ∧ (∀ (underLoad : List Bool) (auxOpen : List Bool) (s : State), ∃ t, exec (.layupEntry underLoad auxOpen) s = .next t ∧ Safety.changesOnly [.supply, .mode, .clock, .mods, .groups, .adc, .tide, .insts, .engines, .stages, .phases, .pgs, .rcs, .obs, .spm, .feeds, .strs, .chargers, .dead, .rails, .railGroups, .thermal, .faults, .pair, .net, .berths, .ports, .mem, .log, .img, .cfg, .kept, .draws] s t)
  ∧ (∀ (src : Option SrcPin) (train : Nat) (s : State), ∃ t, exec (.layupWake src train) s = .next t ∧ Safety.changesOnly [.supply, .mode, .clock, .mods, .groups, .adc, .tide, .insts, .engines, .stages, .phases, .pgs, .rcs, .obs, .spm, .feeds, .strs, .chargers, .dead, .rails, .railGroups, .thermal, .faults, .pair, .net, .berths, .ports, .mem, .log, .img, .cfg, .kept] s t)
  ∧ (∀ (md : Nat) (s : State), ∃ t, exec (.stuckRunDetected md) s = .next t ∧ Safety.changesOnly [.mode, .mods, .groups, .insts, .engines, .stages, .phases, .feeds, .strs, .faults, .net, .log] s t)
  ∧ (∀ (g : Nat) (s : State), ∃ t, exec (.mclkReadbackFault g) s = .next t ∧ Safety.changesOnly [.mode, .mods, .groups, .insts, .engines, .stages, .phases, .feeds, .strs, .faults, .net, .log] s t)
  ∧ (∀ (refVolts : Rat) (s : State), ∃ t, exec (.adcLapEnd refVolts) s = .next t ∧ Safety.changesOnly [.mode, .mods, .groups, .adc, .insts, .engines, .stages, .phases, .feeds, .strs, .faults, .net, .log] s t)
  ∧ (∀ (md : Nat) (bits : List Bool) (violations : Nat) (s : State), ∃ t, exec (.loopSampleAvailable md bits violations) s = .next t ∧ Safety.changesOnly [.mode, .mods, .groups, .insts, .engines, .stages, .phases, .spm, .feeds, .strs, .dead, .rails, .thermal, .faults, .net, .log, .cfg] s t)
  ∧ (∀ (volts : List Rat) (up : Rat) (down : Rat) (s : State), ∃ t, exec (.adcEntryComplete volts up down) s = .next t ∧ Safety.changesOnly [.mode, .mods, .groups, .adc, .insts, .engines, .stages, .phases, .feeds, .strs, .rails, .thermal, .faults, .pair, .net, .log] s t)
  ∧ (∀ (codes : List Nat) (s : State), ∃ t, exec (.tempSlot codes) s = .next t ∧ Safety.changesOnly [.mode, .mods, .groups, .adc, .insts, .engines, .stages, .phases, .feeds, .strs, .thermal, .faults, .net, .log] s t)
  ∧ (∀ (ps : List ℤ) (s : State), ∃ t, exec (.pdmReading ps) s = .next t ∧ Safety.changesOnly [.mode, .mods, .groups, .insts, .engines, .stages, .phases, .feeds, .strs, .thermal, .faults, .net, .log] s t)
  ∧ (∀ (s : State), ∃ t, exec .vidUpdate s = .next t ∧ Safety.changesOnly [.mode, .mods, .groups, .tide, .insts, .engines, .stages, .phases, .feeds, .strs, .thermal, .faults, .net, .mem, .log] s t)
  ∧ (∀ (s : State), ∃ t, exec .ronUpdate s = .next t ∧ Safety.changesOnly [.mode, .mods, .groups, .insts, .engines, .stages, .phases, .feeds, .strs, .thermal, .faults, .net, .log] s t)
  ∧ (∀ (st : Nat) (charge : Rat) (dv : Rat) (s : State), ∃ t, exec (.bankCapEstimate st charge dv) s = .next t ∧ Safety.changesOnly [.mode, .mods, .groups, .insts, .engines, .stages, .phases, .feeds, .strs, .thermal, .faults, .net, .log] s t)

/-- Commands of the loop engines, of stages and phases and of set points complete in every state, with every operand, and change no other part of the state than those listed (spec/04_loop_engines_and_tide_table.md, spec/05_stages_pwm_and_fast_protection.md, spec/06_setpoints_disturbance_and_plausibility.md). -/
def Obligations.CompletionLoopsAndStages : Prop :=
  (∀ (lp : Nat) (errs : List (Nat × Nat × Bool)) (s : State), ∃ t, exec (.instanceRelease lp errs) s = .next t ∧ Safety.changesOnly [.mode, .mods, .groups, .insts, .engines, .stages, .phases, .feeds, .strs, .faults, .net, .mem, .log] s t)
  ∧ (∀ (lp : Nat) (errs : List (Nat × Nat × Bool)) (s : State), ∃ t, exec (.instanceRunEnd lp errs) s = .next t ∧ Safety.changesOnly [.mode, .mods, .groups, .insts, .engines, .stages, .phases, .feeds, .strs, .faults, .net, .mem, .log] s t)
  ∧ (∀ (lp : Nat) (s : State), ∃ t, exec (.instanceCommit lp) s = .next t ∧ Safety.changesOnly [.mode, .mods, .groups, .tide, .insts, .engines, .stages, .phases, .feeds, .strs, .faults, .net, .log] s t)
  ∧ (∀ (lp : Nat) (s : State), ∃ t, exec (.depWaitEnd lp) s = .next t ∧ Safety.changesOnly [.mode, .mods, .groups, .insts, .engines, .stages, .phases, .feeds, .strs, .faults, .net, .log] s t)
  ∧ (∀ (ph : Nat) (s : State), ∃ t, exec (.loadPoint ph) s = .next t ∧ Safety.changesOnly [.mode, .mods, .groups, .insts, .engines, .stages, .phases, .obs, .feeds, .strs, .faults, .net, .log] s t)
  ∧ (∀ (bad : List Bool) (s : State), ∃ t, exec (.delayLineCalibration bad) s = .next t ∧ Safety.changesOnly [.mode, .mods, .groups, .insts, .engines, .stages, .phases, .feeds, .strs, .faults, .net, .log] s t)
  ∧ (∀ (st : Nat) (b : Nat) (s : State), ∃ t, exec (.breakwaterTruncation st b) s = .next t ∧ Safety.changesOnly [.mode, .mods, .groups, .insts, .engines, .stages, .phases, .obs, .feeds, .strs, .faults, .net, .log] s t)
  ∧ (∀ (ph : Nat) (s : State), ∃ t, exec (.fenderTruncation ph) s = .next t ∧ Safety.changesOnly [.mode, .mods, .groups, .insts, .engines, .stages, .phases, .feeds, .strs, .faults, .net, .log] s t)
  ∧ (∀ (s : State), ∃ t, exec .estopAsserted s = .next t ∧ Safety.changesOnly [.mode, .mods, .groups, .insts, .engines, .stages, .phases, .feeds, .strs, .faults, .net, .log] s t)
  ∧ (∀ (s : State), ∃ t, exec .tripReadbackFault s = .next t ∧ Safety.changesOnly [.mode, .mods, .groups, .insts, .engines, .stages, .phases, .feeds, .strs, .faults, .net, .log] s t)
  ∧ (∀ (ph : Nat) (s : State), ∃ t, exec (.driveReadbackFault ph) s = .next t ∧ Safety.changesOnly [.mode, .mods, .groups, .insts, .engines, .stages, .phases, .feeds, .strs, .faults, .net, .log] s t)
  ∧ (∀ (st : Nat) (s : State), ∃ t, exec (.holdLimitExpired st) s = .next t ∧ Safety.changesOnly [.mode, .mods, .groups, .insts, .engines, .stages, .phases, .feeds, .strs, .faults, .net, .log] s t)
  ∧ (∀ (n : Nat) (s : State), ∃ t, exec (.rcPhaseWrap n) s = .next t ∧ Safety.changesOnly [.mode, .mods, .groups, .insts, .engines, .stages, .phases, .rcs, .feeds, .strs, .faults, .pair, .net, .log] s t)
  ∧ (∀ (n : Nat) (s : State), ∃ t, exec (.rcRefTimeout n) s = .next t ∧ Safety.changesOnly [.mode, .mods, .groups, .insts, .engines, .stages, .phases, .rcs, .feeds, .strs, .faults, .net, .log] s t)
  ∧ (∀ (n : Nat) (s : State), ∃ t, exec (.rcUnlockTimeout n) s = .next t ∧ Safety.changesOnly [.mode, .mods, .groups, .insts, .engines, .stages, .phases, .rcs, .feeds, .strs, .faults, .net, .log] s t)
  ∧ (∀ (st : Nat) (s : State), ∃ t, exec (.observerRun st) s = .next t ∧ Safety.changesOnly [.mode, .mods, .groups, .insts, .engines, .stages, .phases, .obs, .feeds, .strs, .faults, .pair, .net, .log] s t)

/-- Commands of the power manager, of feeds, of charging, of strings and of rails complete in every state, with every operand, and change no other part of the state than those listed (spec/07_shelf_power_management_and_feeds.md, spec/08_battery_string_estimation.md, spec/09_charging_blackstart_and_layup.md, spec/10_rails_temperature_and_ageing.md). -/
def Obligations.CompletionPowerAndStrings : Prop :=
  (∀ (s : State), ∃ t, exec .spmUpdate s = .next t ∧ Safety.changesOnly [.supply, .mode, .mods, .groups, .adc, .tide, .insts, .engines, .stages, .phases, .pgs, .rcs, .obs, .spm, .feeds, .strs, .railGroups, .faults, .pair, .net, .mem, .log, .cfg] s t)
  ∧ (∀ (s : State), ∃ t, exec .droopTrimUpdate s = .next t ∧ Safety.changesOnly [.mode, .mods, .groups, .insts, .engines, .stages, .phases, .spm, .feeds, .strs, .faults, .net, .berths, .ports, .log] s t)
  ∧ (∀ (s : State), ∃ t, exec .inputLoss s = .next t ∧ Safety.changesOnly [.supply, .mode, .mods, .groups, .adc, .tide, .insts, .engines, .stages, .phases, .pgs, .rcs, .obs, .spm, .feeds, .strs, .faults, .pair, .net, .mem, .log, .cfg] s t)
  ∧ (∀ (s : State), ∃ t, exec .handbackStart s = .next t ∧ Safety.changesOnly [.mode, .mods, .groups, .insts, .engines, .stages, .phases, .pgs, .spm, .feeds, .strs, .faults, .net, .berths, .ports, .log, .cfg] s t)
  ∧ (∀ (s : State), ∃ t, exec .handbackRampEnd s = .next t ∧ Safety.changesOnly [.supply, .mode, .mods, .groups, .adc, .tide, .insts, .engines, .stages, .phases, .pgs, .rcs, .obs, .spm, .feeds, .strs, .faults, .pair, .net, .mem, .log, .cfg] s t)
  ∧ (∀ (f : Nat) (s : State), ∃ t, exec (.feedReverseOff f) s = .next t ∧ Safety.changesOnly [.mode, .mods, .groups, .insts, .engines, .stages, .phases, .feeds, .strs, .faults, .net, .log] s t)
  ∧ (∀ (f : Nat) (s : State), ∃ t, exec (.feedLost f) s = .next t ∧ Safety.changesOnly [.mode, .mods, .groups, .insts, .engines, .stages, .phases, .spm, .feeds, .strs, .faults, .net, .log, .cfg] s t)
  ∧ (∀ (f : Nat) (s : State), ∃ t, exec (.inrushTimeout f) s = .next t ∧ Safety.changesOnly [.mode, .mods, .groups, .insts, .engines, .stages, .phases, .feeds, .strs, .faults, .net, .log] s t)
  ∧ (∀ (f : Nat) (s : State), ∃ t, exec (.gateConfirmTimeout f) s = .next t ∧ Safety.changesOnly [.mode, .mods, .groups, .insts, .engines, .stages, .phases, .feeds, .strs, .faults, .net, .log] s t)
  ∧ (∀ (f : Nat) (s : State), ∃ t, exec (.gateStuckOn f) s = .next t ∧ Safety.changesOnly [.mode, .mods, .groups, .insts, .engines, .stages, .phases, .feeds, .strs, .faults, .net, .log] s t)
  ∧ (∀ (f : Nat) (s : State), ∃ t, exec (.feedShort f) s = .next t ∧ Safety.changesOnly [.mode, .mods, .groups, .insts, .engines, .stages, .phases, .feeds, .strs, .faults, .net, .log] s t)
  ∧ (∀ (f : Nat) (s : State), ∃ t, exec (.meterTimeout f) s = .next t ∧ Safety.changesOnly [.mode, .mods, .groups, .insts, .engines, .stages, .phases, .feeds, .strs, .faults, .net, .log] s t)
  ∧ (∀ (str : Nat) (s : State), ∃ t, exec (.estimatorStep str) s = .next t ∧ Safety.changesOnly [.mode, .mods, .groups, .insts, .engines, .stages, .phases, .spm, .feeds, .strs, .chargers, .faults, .pair, .net, .log, .cfg] s t)
  ∧ (∀ (str : Nat) (s : State), ∃ t, exec (.chargeTimerExpired str) s = .next t ∧ Safety.changesOnly [.mode, .mods, .groups, .insts, .engines, .stages, .phases, .spm, .feeds, .strs, .chargers, .faults, .net, .log, .cfg] s t)
  ∧ (∀ (str : Nat) (s : State), ∃ t, exec (.chargePauseTimeout str) s = .next t ∧ Safety.changesOnly [.mode, .mods, .groups, .insts, .engines, .stages, .phases, .spm, .feeds, .strs, .chargers, .faults, .net, .log, .cfg] s t)
  ∧ (∀ (s : State), ∃ t, exec .bsSettleExpired s = .next t ∧ Safety.changesOnly [.supply, .mode, .mods, .groups, .adc, .tide, .insts, .engines, .stages, .phases, .pgs, .rcs, .obs, .spm, .feeds, .strs, .dead, .faults, .pair, .net, .mem, .log] s t)
  ∧ (∀ (s : State), ∃ t, exec .bsTimeout s = .next t ∧ Safety.changesOnly [.mode, .mods, .groups, .insts, .engines, .stages, .phases, .feeds, .strs, .dead, .faults, .net, .log] s t)
  ∧ (∀ (str : Nat) (s : State), ∃ t, exec (.unanchoredTimeout str) s = .next t ∧ Safety.changesOnly [.mode, .mods, .groups, .insts, .engines, .stages, .phases, .feeds, .strs, .faults, .net, .log] s t)
  ∧ (∀ (str : Nat) (s : State), ∃ t, exec (.slackRefusalTimeout str) s = .next t ∧ Safety.changesOnly [.mode, .mods, .groups, .insts, .engines, .stages, .phases, .feeds, .strs, .faults, .net, .log] s t)
  ∧ (∀ (str : Nat) (which : Nat) (s : State), ∃ t, exec (.stringInputTimeout str which) s = .next t ∧ Safety.changesOnly [.mode, .mods, .groups, .insts, .engines, .stages, .phases, .feeds, .strs, .faults, .net, .log] s t)
  ∧ (∀ (str : Nat) (s : State), ∃ t, exec (.auxContactMismatch str) s = .next t ∧ Safety.changesOnly [.mode, .mods, .groups, .insts, .engines, .stages, .phases, .feeds, .strs, .faults, .net, .log] s t)
  ∧ (∀ (g : Nat) (pins : Nat) (s : State), ∃ t, exec (.seqOn g pins) s = .next t ∧ Safety.changesOnly [.mode, .mods, .groups, .insts, .engines, .stages, .phases, .feeds, .strs, .rails, .railGroups, .thermal, .faults, .net, .berths, .ports, .log] s t)
  ∧ (∀ (g : Nat) (pins : Nat) (s : State), ∃ t, exec (.seqWaitgood g pins) s = .next t ∧ Safety.changesOnly [.mode, .mods, .groups, .insts, .engines, .stages, .phases, .feeds, .strs, .rails, .railGroups, .thermal, .faults, .net, .log] s t)
  ∧ (∀ (g : Nat) (pins : Nat) (s : State), ∃ t, exec (.seqWaitlow g pins) s = .next t ∧ Safety.changesOnly [.mode, .mods, .groups, .insts, .engines, .stages, .phases, .feeds, .strs, .rails, .railGroups, .faults, .net, .berths, .ports, .log] s t)
  ∧ (∀ (g : Nat) (pins : Nat) (s : State), ∃ t, exec (.seqWaitgroup g pins) s = .next t ∧ Safety.changesOnly [.mode, .mods, .groups, .insts, .engines, .stages, .phases, .feeds, .strs, .rails, .railGroups, .thermal, .faults, .net, .log] s t)
  ∧ (∀ (r : Nat) (detail : Nat) (s : State), ∃ t, exec (.railRunFault r detail) s = .next t ∧ Safety.changesOnly [.mode, .mods, .groups, .insts, .engines, .stages, .phases, .feeds, .strs, .rails, .faults, .net, .berths, .ports, .log] s t)
  ∧ (∀ (r : Nat) (detail : Nat) (s : State), ∃ t, exec (.mooredRailFault r detail) s = .next t ∧ Safety.changesOnly [.supply, .mode, .mods, .groups, .adc, .tide, .insts, .engines, .stages, .phases, .pgs, .rcs, .obs, .spm, .feeds, .strs, .rails, .railGroups, .thermal, .faults, .pair, .net, .berths, .ports, .mem, .log] s t)
  ∧ (∀ (r : Nat) (detail : Nat) (s : State), ∃ t, exec (.railDescentFault r detail) s = .next t ∧ Safety.changesOnly [.mode, .mods, .groups, .insts, .engines, .stages, .phases, .feeds, .strs, .rails, .faults, .net, .berths, .ports, .log] s t)
  ∧ (∀ (r : Nat) (s : State), ∃ t, exec (.railDescentOvervoltage r) s = .next t ∧ Safety.changesOnly [.mode, .mods, .groups, .insts, .engines, .stages, .phases, .feeds, .strs, .rails, .faults, .net, .berths, .ports, .log] s t)
  ∧ (∀ (r : Nat) (s : State), ∃ t, exec (.stageRailRiseTimeout r) s = .next t ∧ Safety.changesOnly [.mode, .mods, .groups, .insts, .engines, .stages, .phases, .feeds, .strs, .rails, .railGroups, .thermal, .faults, .net, .log] s t)

/-- Commands of faults and of the pair complete in every state, with every operand, and change no other part of the state than those listed (spec/01_shelf_and_controller.md, spec/11_faults_and_severity.md, spec/12_pair_and_switchover.md). -/
def Obligations.CompletionFaultsAndPair : Prop :=
  (∀ (s : State), ∃ t, exec .lockoutEntry s = .next t ∧ Safety.changesOnly [.supply, .mode, .mods, .groups, .adc, .tide, .insts, .engines, .stages, .phases, .pgs, .rcs, .obs, .spm, .feeds, .strs, .faults, .pair, .net, .ports, .mem, .log, .draws] s t)
  ∧ (∀ (s : State), ∃ t, exec .lockstepMismatch s = .next t ∧ Safety.changesOnly [.mode, .mods, .groups, .insts, .engines, .stages, .phases, .feeds, .strs, .faults, .net, .log] s t)
  ∧ (∀ (s : State), ∃ t, exec .d2dTransferFail s = .next t ∧ Safety.changesOnly [.mode, .mods, .groups, .insts, .engines, .stages, .phases, .feeds, .strs, .faults, .pair, .net, .mem, .log, .draws] s t)
  ∧ (∀ (seq : Nat) (hb : Heartbeat) (err : Rat) (ok0 : Bool) (ok1 : Bool) (s : State), ∃ t, exec (.heartbeatReceived (seq, hb) err ok0 ok1) s = .next t ∧ Safety.changesOnly [.supply, .mode, .mods, .groups, .adc, .tide, .insts, .engines, .stages, .phases, .pgs, .rcs, .obs, .spm, .feeds, .strs, .rails, .railGroups, .faults, .pair, .net, .ports, .mem, .log, .img, .draws] s t)
  ∧ (∀ (s : State), ∃ t, exec .heartbeatMiss s = .next t ∧ Safety.changesOnly [.mode, .mods, .groups, .insts, .engines, .stages, .phases, .feeds, .strs, .faults, .pair, .net, .log, .img] s t)
  ∧ (∀ (s : State), ∃ t, exec .twinAbsentTimeout s = .next t ∧ Safety.changesOnly [.mode, .mods, .groups, .insts, .engines, .stages, .phases, .feeds, .strs, .faults, .pair, .net, .log] s t)
  ∧ (∀ (s : State), ∃ t, exec .electionTimeout s = .next t ∧ Safety.changesOnly [.mode, .mods, .groups, .insts, .engines, .stages, .phases, .feeds, .strs, .faults, .pair, .net, .log, .draws] s t)
  ∧ (∀ (hd : FrameHead) (crcOk : Bool) (m : TrackMsg) (s : State), ∃ t, exec (.trackingMessageReceived hd crcOk m) s = .next t ∧ Safety.changesOnly [.mode, .mods, .groups, .insts, .engines, .stages, .phases, .pgs, .rcs, .obs, .spm, .feeds, .strs, .chargers, .dead, .rails, .faults, .pair, .net, .log, .cfg] s t)
  ∧ (∀ (hd : FrameHead) (crcOk : Bool) (k : Nat) (snap : Snapshot) (s : State), ∃ t, exec (.snapshotFragmentReceived hd crcOk k snap) s = .next t ∧ Safety.changesOnly [.supply, .mode, .mods, .groups, .adc, .tide, .insts, .engines, .stages, .phases, .pgs, .rcs, .obs, .spm, .feeds, .strs, .chargers, .dead, .rails, .faults, .pair, .net, .mem, .log, .cfg] s t)
  ∧ (∀ (lane : Nat) (s : State), ∃ t, exec (.laneDown lane) s = .next t ∧ Safety.changesOnly [.mode, .mods, .groups, .insts, .engines, .stages, .phases, .feeds, .strs, .faults, .pair, .net, .log] s t)
  ∧ (∀ (s : State), ∃ t, exec .ownNReleased s = .next t ∧ Safety.changesOnly [.supply, .mode, .mods, .groups, .adc, .tide, .insts, .engines, .stages, .phases, .pgs, .rcs, .obs, .spm, .feeds, .strs, .dead, .railGroups, .faults, .pair, .net, .mem, .log, .img, .draws] s t)
  ∧ (∀ (s : State), ∃ t, exec .ownReadbackFault s = .next t ∧ Safety.changesOnly [.mode, .mods, .groups, .insts, .engines, .stages, .phases, .feeds, .strs, .faults, .net, .log] s t)
  ∧ (∀ (s : State), ∃ t, exec .handoverRelease s = .next t ∧ Safety.changesOnly [.supply, .mode, .mods, .groups, .adc, .tide, .insts, .engines, .stages, .phases, .pgs, .rcs, .obs, .spm, .feeds, .strs, .faults, .pair, .net, .ports, .mem, .log] s t)

/-- Commands of the dictionary, of CANopen, of Ethernet and of the time base complete in every state, with every operand, and change no other part of the state than those listed (spec/13_dictionary_networks_and_time.md). A command
that carries out a write of any object may reach every part that an object's action reaches. -/
def Obligations.CompletionDictionaryAndNetworks : Prop :=
  (∀ (ch : Chan) (idx : Nat) (sub : Nat) (data : List (BitVec 8)) (s : State), ∃ t, exec (.pairCommonWrite ch idx sub data) s = .next t ∧ Safety.changesOnly [.supply, .mode, .clock, .mods, .groups, .adc, .tide, .insts, .engines, .stages, .phases, .pgs, .rcs, .obs, .spm, .feeds, .strs, .chargers, .dead, .rails, .railGroups, .thermal, .faults, .pair, .net, .berths, .ports, .mem, .log, .img, .cfg, .kept, .draws] s t)
  ∧ (∀ (ch : Chan) (idx : Nat) (sub : Nat) (data : List (BitVec 8)) (s : State), ∃ t, exec (.objectWrite ch idx sub data) s = .next t ∧ Safety.changesOnly [.supply, .mode, .clock, .mods, .groups, .adc, .tide, .insts, .engines, .stages, .phases, .pgs, .rcs, .obs, .spm, .feeds, .strs, .chargers, .dead, .rails, .railGroups, .thermal, .faults, .pair, .net, .berths, .ports, .mem, .log, .img, .cfg, .kept, .draws] s t)
  ∧ (∀ (port : Nat) (srv : Nat) (r : SdoReq) (s : State), ∃ t, exec (.sdoRequest port srv r) s = .next t ∧ Safety.changesOnly [.supply, .mode, .clock, .mods, .groups, .adc, .tide, .insts, .engines, .stages, .phases, .pgs, .rcs, .obs, .spm, .feeds, .strs, .chargers, .dead, .rails, .railGroups, .thermal, .faults, .pair, .net, .berths, .ports, .mem, .log, .img, .cfg, .kept, .draws] s t)
  ∧ (∀ (rq : NireoReq) (tag : Nat) (idx : Nat) (sub : Nat) (ca : Bool) (data : List (BitVec 8)) (s : State), ∃ t, exec (.nireoWrite rq tag idx sub ca data) s = .next t ∧ Safety.changesOnly [.supply, .mode, .clock, .mods, .groups, .adc, .tide, .insts, .engines, .stages, .phases, .pgs, .rcs, .obs, .spm, .feeds, .strs, .chargers, .dead, .rails, .railGroups, .thermal, .faults, .pair, .net, .berths, .ports, .mem, .log, .img, .cfg, .kept, .draws] s t)
  ∧ (∀ (rq : NireoReq) (tag : Nat) (idx : Nat) (sub : Nat) (crc : BitVec 32) (s : State), ∃ t, exec (.nireoDomainEnd rq tag idx sub crc) s = .next t ∧ Safety.changesOnly [.supply, .mode, .clock, .mods, .groups, .adc, .tide, .insts, .engines, .stages, .phases, .pgs, .rcs, .obs, .spm, .feeds, .strs, .chargers, .dead, .rails, .railGroups, .thermal, .faults, .pair, .net, .berths, .ports, .mem, .log, .img, .cfg, .kept, .draws] s t)
  ∧ (∀ (rq : NireoReq) (tag : Nat) (entries : List (Nat × Nat × List (BitVec 8))) (s : State), ∃ t, exec (.nireoBatchWrite rq tag entries) s = .next t ∧ Safety.changesOnly [.supply, .mode, .clock, .mods, .groups, .adc, .tide, .insts, .engines, .stages, .phases, .pgs, .rcs, .obs, .spm, .feeds, .strs, .chargers, .dead, .rails, .railGroups, .thermal, .faults, .pair, .net, .berths, .ports, .mem, .log, .img, .cfg, .kept, .draws] s t)
  ∧ (∀ (frame : List (BitVec 8)) (crcOk : Bool) (s : State), ∃ t, exec (.hsFrameCommand frame crcOk) s = .next t ∧ Safety.changesOnly [.supply, .mode, .clock, .mods, .groups, .adc, .tide, .insts, .engines, .stages, .phases, .pgs, .rcs, .obs, .spm, .feeds, .strs, .chargers, .dead, .rails, .railGroups, .thermal, .faults, .pair, .net, .berths, .ports, .mem, .log, .img, .cfg, .kept, .draws] s t)
  ∧ (∀ (ch : Chan) (v : Nat) (s : State), ∃ t, exec (.accessDrop ch v) s = .next t ∧ Safety.changesOnly [.supply, .mode, .clock, .mods, .groups, .adc, .tide, .insts, .engines, .stages, .phases, .pgs, .rcs, .obs, .spm, .feeds, .strs, .chargers, .dead, .rails, .railGroups, .thermal, .faults, .pair, .net, .berths, .ports, .mem, .log, .img, .cfg, .kept, .draws] s t)
  ∧ (∀ (ch : Chan) (sig : Nat) (s : State), ∃ t, exec (.storeSave ch sig) s = .next t ∧ Safety.changesOnly [.supply, .mode, .clock, .mods, .groups, .adc, .tide, .insts, .engines, .stages, .phases, .pgs, .rcs, .obs, .spm, .feeds, .strs, .chargers, .dead, .rails, .railGroups, .thermal, .faults, .pair, .net, .berths, .ports, .mem, .log, .img, .cfg, .kept, .draws] s t)
  ∧ (∀ (ch : Chan) (sig : Nat) (s : State), ∃ t, exec (.restoreLoad ch sig) s = .next t ∧ Safety.changesOnly [.supply, .mode, .clock, .mods, .groups, .adc, .tide, .insts, .engines, .stages, .phases, .pgs, .rcs, .obs, .spm, .feeds, .strs, .chargers, .dead, .rails, .railGroups, .thermal, .faults, .pair, .net, .berths, .ports, .mem, .log, .img, .cfg, .kept, .draws] s t)
  ∧ (∀ (ch : Chan) (v : Nat) (s : State), ∃ t, exec (.legacyModeWrite ch v) s = .next t ∧ Safety.changesOnly [.supply, .mode, .clock, .mods, .groups, .adc, .tide, .insts, .engines, .stages, .phases, .pgs, .rcs, .obs, .spm, .feeds, .strs, .chargers, .dead, .rails, .railGroups, .thermal, .faults, .pair, .net, .berths, .ports, .mem, .log, .img, .cfg, .kept, .draws] s t)
  ∧ (∀ (port : Nat) (ident : Nat) (seg : BitVec 8) (data : List (BitVec 8)) (s : State), ∃ t, exec (.nireoCanFdSegment port ident seg data) s = .next t ∧ Safety.changesOnly [.supply, .mode, .clock, .mods, .groups, .adc, .tide, .insts, .engines, .stages, .phases, .pgs, .rcs, .obs, .spm, .feeds, .strs, .chargers, .dead, .rails, .railGroups, .thermal, .faults, .pair, .net, .berths, .ports, .mem, .log, .img, .cfg, .kept, .draws] s t)
  ∧ (∀ (s : State), ∃ t, exec .syncProduce s = .next t ∧ Safety.changesOnly [.supply, .mode, .clock, .mods, .groups, .adc, .tide, .insts, .engines, .stages, .phases, .pgs, .rcs, .obs, .spm, .feeds, .strs, .chargers, .dead, .rails, .railGroups, .thermal, .faults, .pair, .net, .berths, .ports, .mem, .log, .img, .cfg, .kept, .draws] s t)
  ∧ (∀ (port : Nat) (s : State), ∃ t, exec (.syncReceived port) s = .next t ∧ Safety.changesOnly [.supply, .mode, .clock, .mods, .groups, .adc, .tide, .insts, .engines, .stages, .phases, .pgs, .rcs, .obs, .spm, .feeds, .strs, .chargers, .dead, .rails, .railGroups, .thermal, .faults, .pair, .net, .berths, .ports, .mem, .log, .img, .cfg, .kept, .draws] s t)
  ∧ (∀ (port : Nat) (n : Nat) (data : List (BitVec 8)) (s : State), ∃ t, exec (.rpdoReceived port n data) s = .next t ∧ Safety.changesOnly [.supply, .mode, .clock, .mods, .groups, .adc, .tide, .insts, .engines, .stages, .phases, .pgs, .rcs, .obs, .spm, .feeds, .strs, .chargers, .dead, .rails, .railGroups, .thermal, .faults, .pair, .net, .berths, .ports, .mem, .log, .img, .cfg, .kept, .draws] s t)
  ∧ (∀ (port : Nat) (node : Nat) (s : State), ∃ t, exec (.canHeartbeatConsumerTimeout port node) s = .next t ∧ Safety.changesOnly [.mode, .mods, .groups, .insts, .engines, .stages, .phases, .feeds, .strs, .faults, .net, .log] s t)
  ∧ (∀ (port : Nat) (s : State), ∃ t, exec (.canBusOff port) s = .next t ∧ Safety.changesOnly [.mode, .mods, .groups, .insts, .engines, .stages, .phases, .feeds, .strs, .faults, .net, .log, .img] s t)
  ∧ (∀ (port : Nat) (s : State), ∃ t, exec (.ethLinkDown port) s = .next t ∧ Safety.changesOnly [.mode, .mods, .groups, .insts, .engines, .stages, .phases, .feeds, .strs, .faults, .net, .log, .img] s t)
  ∧ (∀ (port : Nat) (a : Announce) (s : State), ∃ t, exec (.ptpAnnounceReceived port a) s = .next t ∧ Safety.changesOnly [.mode, .mods, .groups, .insts, .engines, .stages, .phases, .feeds, .strs, .faults, .net, .log] s t)
  ∧ (∀ (ch : Chan) (v : Nat) (s : State), ∃ t, exec (.timeSetSeconds ch v) s = .next t ∧ Safety.changesOnly [.supply, .mode, .clock, .mods, .groups, .adc, .tide, .insts, .engines, .stages, .phases, .pgs, .rcs, .obs, .spm, .feeds, .strs, .chargers, .dead, .rails, .railGroups, .thermal, .faults, .pair, .net, .berths, .ports, .mem, .log, .img, .cfg, .kept, .draws] s t)
  ∧ (∀ (ch : Chan) (ns : ℤ) (s : State), ∃ t, exec (.phaseAdjust ch ns) s = .next t ∧ Safety.changesOnly [.supply, .mode, .clock, .mods, .groups, .adc, .tide, .insts, .engines, .stages, .phases, .pgs, .rcs, .obs, .spm, .feeds, .strs, .chargers, .dead, .rails, .railGroups, .thermal, .faults, .pair, .net, .berths, .ports, .mem, .log, .img, .cfg, .kept, .draws] s t)
  ∧ (∀ (ch : Chan) (v : Nat) (s : State), ∃ t, exec (.traceableWrite ch v) s = .next t ∧ Safety.changesOnly [.supply, .mode, .clock, .mods, .groups, .adc, .tide, .insts, .engines, .stages, .phases, .pgs, .rcs, .obs, .spm, .feeds, .strs, .chargers, .dead, .rails, .railGroups, .thermal, .faults, .pair, .net, .berths, .ports, .mem, .log, .img, .cfg, .kept, .draws] s t)

/-- Commands of two-wire ports and of the words of poll scripts complete in every state, with every operand, and change no other part of the state than those listed (spec/14_two_wire_partners.md). -/
def Obligations.CompletionTwoWire : Prop :=
  (∀ (port : Nat) (found : List Arrival) (s : State), ∃ t, exec (.twScan port found) s = .next t ∧ Safety.changesOnly [.mode, .mods, .groups, .insts, .engines, .stages, .phases, .spm, .feeds, .strs, .faults, .net, .berths, .ports, .log, .cfg] s t)
  ∧ (∀ (b : Nat) (s : State), ∃ t, exec (.berthPresenceHigh b) s = .next t ∧ Safety.changesOnly [.mode, .mods, .groups, .insts, .engines, .stages, .phases, .spm, .feeds, .strs, .faults, .net, .berths, .ports, .log, .cfg] s t)
  ∧ (∀ (ch : Chan) (b : Nat) (s : State), ∃ t, exec (.berthDisable ch b) s = .next t ∧ Safety.changesOnly [.mode, .mods, .groups, .insts, .engines, .stages, .phases, .spm, .feeds, .strs, .faults, .pair, .net, .berths, .ports, .log, .cfg] s t)
  ∧ (∀ (port : Nat) (s : State), ∃ t, exec (.twArbitrationLost port) s = .next t ∧ Safety.changesOnly [.mode, .mods, .groups, .insts, .engines, .stages, .phases, .spm, .feeds, .strs, .faults, .net, .berths, .ports, .log, .cfg] s t)
  ∧ (∀ (port : Nat) (s : State), ∃ t, exec (.twSclTimeout port) s = .next t ∧ Safety.changesOnly [.mode, .mods, .groups, .insts, .engines, .stages, .phases, .spm, .feeds, .strs, .faults, .net, .berths, .ports, .log, .cfg] s t)
  ∧ (∀ (port : Nat) (ok : Bool) (s : State), ∃ t, exec (.twBusRecovery port ok) s = .next t ∧ Safety.changesOnly [.mode, .mods, .groups, .insts, .engines, .stages, .phases, .feeds, .strs, .faults, .net, .ports, .log] s t)
  ∧ (∀ (b : Nat) (s : State), ∃ t, exec (.pollRunDue b) s = .next t ∧ Safety.changesOnly [.mode, .mods, .groups, .insts, .engines, .stages, .phases, .spm, .feeds, .strs, .faults, .net, .berths, .ports, .log, .cfg] s t)
  ∧ (∀ (port : Nat) (s : State), ∃ t, exec (.scriptEnd port) s = .next t ∧ Safety.changesOnly [.mode, .mods, .groups, .insts, .engines, .stages, .phases, .spm, .feeds, .strs, .rails, .faults, .net, .berths, .ports, .log, .cfg] s t)
  ∧ (∀ (port : Nat) (ack : Bool) (s : State), ∃ t, exec (.scriptPage port ack) s = .next t ∧ Safety.changesOnly [.mode, .mods, .groups, .insts, .engines, .stages, .phases, .spm, .feeds, .strs, .faults, .net, .berths, .ports, .log, .cfg] s t)
  ∧ (∀ (port : Nat) (ack : Bool) (pecOk : Bool) (v : BitVec 8) (s : State), ∃ t, exec (.scriptRdb port ack pecOk v) s = .next t ∧ Safety.changesOnly [.mode, .mods, .groups, .insts, .engines, .stages, .phases, .spm, .feeds, .strs, .faults, .net, .berths, .ports, .log, .cfg] s t)
  ∧ (∀ (port : Nat) (ack : Bool) (pecOk : Bool) (v : BitVec 16) (s : State), ∃ t, exec (.scriptRdw port ack pecOk v) s = .next t ∧ Safety.changesOnly [.mode, .mods, .groups, .insts, .engines, .stages, .phases, .spm, .feeds, .strs, .faults, .net, .berths, .ports, .log, .cfg] s t)
  ∧ (∀ (port : Nat) (ack : Bool) (pecOk : Bool) (data : List (BitVec 8)) (s : State), ∃ t, exec (.scriptRdk port ack pecOk data) s = .next t ∧ Safety.changesOnly [.mode, .mods, .groups, .insts, .engines, .stages, .phases, .spm, .feeds, .strs, .faults, .net, .berths, .ports, .log, .cfg] s t)
  ∧ (∀ (port : Nat) (ack : Bool) (s : State), ∃ t, exec (.scriptWrb port ack) s = .next t ∧ Safety.changesOnly [.mode, .mods, .groups, .insts, .engines, .stages, .phases, .spm, .feeds, .strs, .faults, .net, .berths, .ports, .log, .cfg] s t)
  ∧ (∀ (port : Nat) (ack : Bool) (s : State), ∃ t, exec (.scriptWrw port ack) s = .next t ∧ Safety.changesOnly [.mode, .mods, .groups, .insts, .engines, .stages, .phases, .spm, .feeds, .strs, .faults, .net, .berths, .ports, .log, .cfg] s t)
  ∧ (∀ (port : Nat) (ack : Bool) (s : State), ∃ t, exec (.scriptSnd port ack) s = .next t ∧ Safety.changesOnly [.mode, .mods, .groups, .insts, .engines, .stages, .phases, .spm, .feeds, .strs, .faults, .net, .berths, .ports, .log, .cfg] s t)
  ∧ (∀ (port : Nat) (s : State), ∃ t, exec (.scriptCnv port) s = .next t ∧ Safety.changesOnly [.mode, .mods, .groups, .insts, .engines, .stages, .phases, .spm, .feeds, .strs, .faults, .net, .berths, .ports, .log, .cfg, .draws] s t)
  ∧ (∀ (port : Nat) (s : State), ∃ t, exec (.scriptTst port) s = .next t ∧ Safety.changesOnly [.mode, .mods, .groups, .insts, .engines, .stages, .phases, .spm, .feeds, .strs, .faults, .net, .berths, .ports, .log, .cfg, .draws] s t)
  ∧ (∀ (port : Nat) (s : State), ∃ t, exec (.scriptRep port) s = .next t ∧ Safety.changesOnly [.mode, .mods, .groups, .insts, .engines, .stages, .phases, .spm, .feeds, .strs, .faults, .net, .berths, .ports, .log, .cfg, .draws] s t)
  ∧ (∀ (port : Nat) (s : State), ∃ t, exec (.scriptWait port) s = .next t ∧ Safety.changesOnly [.mode, .mods, .groups, .insts, .engines, .stages, .phases, .spm, .feeds, .strs, .faults, .net, .berths, .ports, .log, .cfg, .draws] s t)
  ∧ (∀ (port : Nat) (s : State), ∃ t, exec (.scriptXtr port) s = .next t ∧ Safety.changesOnly [.mode, .mods, .groups, .insts, .engines, .stages, .phases, .spm, .feeds, .strs, .faults, .net, .berths, .ports, .log, .cfg, .draws] s t)
  ∧ (∀ (port : Nat) (ack : Bool) (pecOk : Bool) (v : BitVec 16) (s : State), ∃ t, exec (.partnerCommandSend port ack pecOk v) s = .next t ∧ Safety.changesOnly [.supply, .mode, .clock, .mods, .groups, .adc, .tide, .insts, .engines, .stages, .phases, .pgs, .rcs, .obs, .spm, .feeds, .strs, .chargers, .dead, .rails, .railGroups, .thermal, .faults, .pair, .net, .berths, .ports, .mem, .log, .img, .cfg, .kept] s t ∧
      (s.mode.leaving = none → Safety.changesOnly [.mode, .mods, .groups, .insts, .engines, .stages, .phases, .feeds, .strs, .faults, .net, .berths, .ports, .log] s t))
  ∧ (∀ (port : Nat) (l : Listened) (s : State), ∃ t, exec (.listenedTransaction port l) s = .next t ∧ Safety.changesOnly [.mode, .mods, .groups, .insts, .engines, .stages, .phases, .spm, .feeds, .strs, .rails, .faults, .net, .berths, .ports, .log, .cfg] s t)

/-- Commands of the memories, of the recorder, of images and of the carrier boundary complete in every state, with every operand, and change no other part of the state than those listed (spec/15_memory_and_error_correction.md, spec/16_logbook_and_waveforms.md, spec/17_images_update_and_recovery.md, spec/05_stages_pwm_and_fast_protection.md). A DRAM address is below the capacity. A command
that carries out a write of any object may reach every part that an object's action reaches. -/
def Obligations.CompletionMemoryAndImages : Prop :=
  (∀ (ch : Chan) (v : Nat) (result : Nat) (s : State), ∃ t, exec (.trainCommand ch v result) s = .next t ∧ Safety.changesOnly [.mode, .mods, .groups, .insts, .engines, .stages, .phases, .feeds, .strs, .faults, .pair, .net, .mem, .log] s t)
  ∧ (∀ (rq : MemReq) (addr : Nat) (len : Nat) (errs : List SymErr) (s : State), addr < s.dramCapacity → ∃ t, exec (.dramRead rq addr len errs) s = .next t ∧ Safety.changesOnly [.mode, .mods, .groups, .insts, .engines, .stages, .phases, .feeds, .strs, .faults, .net, .mem, .log] s t)
  ∧ (∀ (rq : MemReq) (addr : Nat) (data : List (BitVec 8)) (errs : List SymErr) (s : State), addr < s.dramCapacity → ∃ t, exec (.dramWrite rq addr data errs) s = .next t ∧ Safety.changesOnly [.mode, .mods, .groups, .insts, .engines, .stages, .phases, .feeds, .strs, .faults, .net, .mem, .log] s t)
  ∧ (∀ (errs : List SymErr) (s : State), ∃ t, exec (.scrubBurst errs) s = .next t ∧ Safety.changesOnly [.mode, .mods, .groups, .insts, .engines, .stages, .phases, .feeds, .strs, .faults, .net, .mem, .log] s t)
  ∧ (∀ (s : State), ∃ t, exec .scrubLapOverdue s = .next t ∧ Safety.changesOnly [.mode, .mods, .groups, .insts, .engines, .stages, .phases, .feeds, .strs, .faults, .net, .log] s t)
  ∧ (∀ (rank : Nat) (s : State), ∃ t, exec (.dramAlert rank) s = .next t ∧ Safety.changesOnly [.mode, .mods, .groups, .insts, .engines, .stages, .phases, .feeds, .strs, .faults, .net, .mem, .log] s t)
  ∧ (∀ (w : MramWriter) (addr : Nat) (v : BitVec 64) (fails : Nat) (s : State), ∃ t, exec (.mramWrite w addr v fails) s = .next t ∧ Safety.changesOnly [.mode, .mods, .groups, .insts, .engines, .stages, .phases, .feeds, .strs, .faults, .pair, .net, .mem, .log, .img] s t)
  ∧ (∀ (e : MramError) (s : State), ∃ t, exec (.mramReadUe e) s = .next t ∧ Safety.changesOnly [.supply, .mode, .mods, .groups, .insts, .engines, .stages, .phases, .feeds, .strs, .thermal, .faults, .net, .mem, .log, .img] s t)
  ∧ (∀ (region : Nat) (unit : Nat) (single : Bool) (s : State), ∃ t, exec (.sramScrubRead region unit single) s = .next t ∧ Safety.changesOnly [.mode, .mods, .groups, .insts, .engines, .stages, .phases, .feeds, .strs, .faults, .net, .mem, .log] s t)
  ∧ (∀ (region : Nat) (unit : Nat) (item : Nat) (s : State), ∃ t, exec (.sramUncorrectable region unit item) s = .next t ∧ Safety.changesOnly [.supply, .mode, .mods, .groups, .insts, .engines, .stages, .phases, .rcs, .obs, .feeds, .strs, .rails, .railGroups, .thermal, .faults, .pair, .net, .berths, .ports, .mem, .log, .img] s t)
  ∧ (∀ (r : Record) (s : State), ∃ t, exec (.recordArrival r) s = .next t ∧ Safety.changesOnly [.mode, .mods, .groups, .insts, .engines, .stages, .phases, .feeds, .strs, .faults, .net, .log] s t)
  ∧ (∀ (s : State), ∃ t, exec .recordCommit s = .next t ∧ Safety.changesOnly [.mode, .mods, .groups, .insts, .engines, .stages, .phases, .feeds, .strs, .faults, .pair, .net, .mem, .log] s t)
  ∧ (∀ (errs : List SymErr) (s : State), ∃ t, exec (.captureFrame errs) s = .next t ∧ Safety.changesOnly [.mode, .mods, .groups, .insts, .engines, .stages, .phases, .feeds, .strs, .faults, .net, .mem, .log] s t)
  ∧ (∀ (st : Nat) (s : State), ∃ t, exec (.carrierBoundary st) s = .next t ∧ Safety.changesOnly [.mode, .mods, .tide, .insts, .engines, .stages, .phases, .rcs, .obs, .spm, .rails, .faults, .pair, .net, .img, .cfg] s t)
  ∧ (∀ (bad : List Nat) (corrected : Nat) (content : Image) (train : Nat) (s : State), ∃ t, exec (.updateChecksDone bad corrected content train) s = .next t ∧ Safety.changesOnly [.supply, .mode, .clock, .mods, .groups, .adc, .tide, .insts, .engines, .stages, .phases, .pgs, .rcs, .obs, .spm, .feeds, .strs, .chargers, .dead, .rails, .railGroups, .thermal, .faults, .pair, .net, .berths, .ports, .mem, .log, .img, .cfg, .kept, .draws] s t)
  ∧ (∀ (s : State), ∃ t, exec .hitlessRevertTimeout s = .next t ∧ Safety.changesOnly [.supply, .mode, .insts, .engines, .stages, .phases, .feeds, .strs, .rails, .faults, .pair, .ports, .mem, .log, .img, .draws] s t)
  ∧ (∀ (ch : Chan) (v : Nat) (train : Nat) (s : State), ∃ t, exec (.pilotExit ch v train) s = .next t ∧ Safety.changesOnly [.supply, .mode, .clock, .mods, .groups, .adc, .tide, .insts, .engines, .stages, .phases, .pgs, .rcs, .obs, .spm, .feeds, .strs, .chargers, .dead, .rails, .railGroups, .thermal, .faults, .pair, .net, .berths, .ports, .mem, .log, .img, .cfg, .kept] s t)

/-- The outputs of a phase (spec/05_stages_pwm_and_fast_protection.md; the waveform where both sides were ended is the model's, log entry 125). At no fine
step are both sides high; from the load point of the period on, no side is high in the fine step after one in which the other was; both are low with
the ring closed or the outputs disabled, and the side that `OutMode` does not drive is low; a side that is high follows a carrier command that
changed before, its dead time after that change and after the enable. -/
def Obligations.PhaseInterlock : Prop :=
  (∀ (p x : Nat) (s : State), ¬(s.phaseLevel p true x = true ∧ s.phaseLevel p false x = true))
  ∧ (∀ (p x : Nat) (side : Bool) (s : State), 32 * (s.phase p).loadAt ≤ x → s.phaseLevel p side x = true → s.phaseLevel p (!side) (x + 1) = false)
  ∧ (∀ (p x : Nat) (side : Bool) (s : State), s.ringOpen = false ∨ (s.phase p).outOn = false → s.phaseLevel p side x = false)
  ∧ (∀ (p x : Nat) (s : State), (s.objN (0x3800 + p) 3 = 1 → s.phaseLevel p false x = false) ∧ (s.objN (0x3800 + p) 3 = 2 → s.phaseLevel p true x = false))
  ∧ (∀ (p x : Nat) (side : Bool) (s : State), s.phaseLevel p side x = true → ∃ chg, (s.phase p).command x = some (side, chg) ∧ chg < x
      ∧ ((s.phase p).tickOnly = false → max chg (32 * (s.phase p).onAt) + (if side then (s.phase p).tLH else (s.phase p).tHL) ≤ x))
end

