-- ==== Sys2Proof/Laws/State.lean ====
section
/-! SUPPORT. One lemma for each field of the state and each named update of it, so that no proof unfolds a record update. -/
namespace Sys2Proof.Machine

@[simp] theorem setMod_pending (s : State) (n : Nat) (v : ModInput) : (s.setMod n v).pending = s.pending := rfl
@[simp] theorem setMod_now (s : State) (n : Nat) (v : ModInput) : (s.setMod n v).now = s.now := rfl
@[simp] theorem setMod_part (s : State) (n : Nat) (v : ModInput) : (s.setMod n v).part = s.part := rfl
@[simp] theorem setMod_serial (s : State) (n : Nat) (v : ModInput) : (s.setMod n v).serial = s.serial := rfl
@[simp] theorem setMod_supply (s : State) (n : Nat) (v : ModInput) : (s.setMod n v).supply = s.supply := rfl
@[simp] theorem setMod_mode (s : State) (n : Nat) (v : ModInput) : (s.setMod n v).mode = s.mode := rfl
@[simp] theorem setMod_clock (s : State) (n : Nat) (v : ModInput) : (s.setMod n v).clock = s.clock := rfl
@[simp] theorem setMod_mods (s : State) (n : Nat) (v : ModInput) : (s.setMod n v).mods = put s.mods n v := rfl
@[simp] theorem setMod_groups (s : State) (n : Nat) (v : ModInput) : (s.setMod n v).groups = s.groups := rfl
@[simp] theorem setMod_adc (s : State) (n : Nat) (v : ModInput) : (s.setMod n v).adc = s.adc := rfl
@[simp] theorem setMod_tide (s : State) (n : Nat) (v : ModInput) : (s.setMod n v).tide = s.tide := rfl
@[simp] theorem setMod_insts (s : State) (n : Nat) (v : ModInput) : (s.setMod n v).insts = s.insts := rfl
@[simp] theorem setMod_engines (s : State) (n : Nat) (v : ModInput) : (s.setMod n v).engines = s.engines := rfl
@[simp] theorem setMod_stages (s : State) (n : Nat) (v : ModInput) : (s.setMod n v).stages = s.stages := rfl
@[simp] theorem setMod_phases (s : State) (n : Nat) (v : ModInput) : (s.setMod n v).phases = s.phases := rfl
@[simp] theorem setMod_pgs (s : State) (n : Nat) (v : ModInput) : (s.setMod n v).pgs = s.pgs := rfl
@[simp] theorem setMod_rcs (s : State) (n : Nat) (v : ModInput) : (s.setMod n v).rcs = s.rcs := rfl
@[simp] theorem setMod_obs (s : State) (n : Nat) (v : ModInput) : (s.setMod n v).obs = s.obs := rfl
@[simp] theorem setMod_spm (s : State) (n : Nat) (v : ModInput) : (s.setMod n v).spm = s.spm := rfl
@[simp] theorem setMod_feeds (s : State) (n : Nat) (v : ModInput) : (s.setMod n v).feeds = s.feeds := rfl
@[simp] theorem setMod_strs (s : State) (n : Nat) (v : ModInput) : (s.setMod n v).strs = s.strs := rfl
@[simp] theorem setMod_chargers (s : State) (n : Nat) (v : ModInput) : (s.setMod n v).chargers = s.chargers := rfl
@[simp] theorem setMod_dead (s : State) (n : Nat) (v : ModInput) : (s.setMod n v).dead = s.dead := rfl
@[simp] theorem setMod_rails (s : State) (n : Nat) (v : ModInput) : (s.setMod n v).rails = s.rails := rfl
@[simp] theorem setMod_railGroups (s : State) (n : Nat) (v : ModInput) : (s.setMod n v).railGroups = s.railGroups := rfl
@[simp] theorem setMod_thermal (s : State) (n : Nat) (v : ModInput) : (s.setMod n v).thermal = s.thermal := rfl
@[simp] theorem setMod_faults (s : State) (n : Nat) (v : ModInput) : (s.setMod n v).faults = s.faults := rfl
@[simp] theorem setMod_pair (s : State) (n : Nat) (v : ModInput) : (s.setMod n v).pair = s.pair := rfl
@[simp] theorem setMod_net (s : State) (n : Nat) (v : ModInput) : (s.setMod n v).net = s.net := rfl
@[simp] theorem setMod_berths (s : State) (n : Nat) (v : ModInput) : (s.setMod n v).berths = s.berths := rfl
@[simp] theorem setMod_ports (s : State) (n : Nat) (v : ModInput) : (s.setMod n v).ports = s.ports := rfl
@[simp] theorem setMod_mem (s : State) (n : Nat) (v : ModInput) : (s.setMod n v).mem = s.mem := rfl
@[simp] theorem setMod_log (s : State) (n : Nat) (v : ModInput) : (s.setMod n v).log = s.log := rfl
@[simp] theorem setMod_img (s : State) (n : Nat) (v : ModInput) : (s.setMod n v).img = s.img := rfl
@[simp] theorem setMod_cfg (s : State) (n : Nat) (v : ModInput) : (s.setMod n v).cfg = s.cfg := rfl
@[simp] theorem setMod_kept (s : State) (n : Nat) (v : ModInput) : (s.setMod n v).kept = s.kept := rfl
@[simp] theorem setMod_draws (s : State) (n : Nat) (v : ModInput) : (s.setMod n v).draws = s.draws := rfl

@[simp] theorem setGroup_pending (s : State) (n : Nat) (v : InputGroup) : (s.setGroup n v).pending = s.pending := rfl
@[simp] theorem setGroup_now (s : State) (n : Nat) (v : InputGroup) : (s.setGroup n v).now = s.now := rfl
@[simp] theorem setGroup_part (s : State) (n : Nat) (v : InputGroup) : (s.setGroup n v).part = s.part := rfl
@[simp] theorem setGroup_serial (s : State) (n : Nat) (v : InputGroup) : (s.setGroup n v).serial = s.serial := rfl
@[simp] theorem setGroup_supply (s : State) (n : Nat) (v : InputGroup) : (s.setGroup n v).supply = s.supply := rfl
@[simp] theorem setGroup_mode (s : State) (n : Nat) (v : InputGroup) : (s.setGroup n v).mode = s.mode := rfl
@[simp] theorem setGroup_clock (s : State) (n : Nat) (v : InputGroup) : (s.setGroup n v).clock = s.clock := rfl
@[simp] theorem setGroup_mods (s : State) (n : Nat) (v : InputGroup) : (s.setGroup n v).mods = s.mods := rfl
@[simp] theorem setGroup_groups (s : State) (n : Nat) (v : InputGroup) : (s.setGroup n v).groups = put s.groups n v := rfl
@[simp] theorem setGroup_adc (s : State) (n : Nat) (v : InputGroup) : (s.setGroup n v).adc = s.adc := rfl
@[simp] theorem setGroup_tide (s : State) (n : Nat) (v : InputGroup) : (s.setGroup n v).tide = s.tide := rfl
@[simp] theorem setGroup_insts (s : State) (n : Nat) (v : InputGroup) : (s.setGroup n v).insts = s.insts := rfl
@[simp] theorem setGroup_engines (s : State) (n : Nat) (v : InputGroup) : (s.setGroup n v).engines = s.engines := rfl
@[simp] theorem setGroup_stages (s : State) (n : Nat) (v : InputGroup) : (s.setGroup n v).stages = s.stages := rfl
@[simp] theorem setGroup_phases (s : State) (n : Nat) (v : InputGroup) : (s.setGroup n v).phases = s.phases := rfl
@[simp] theorem setGroup_pgs (s : State) (n : Nat) (v : InputGroup) : (s.setGroup n v).pgs = s.pgs := rfl
@[simp] theorem setGroup_rcs (s : State) (n : Nat) (v : InputGroup) : (s.setGroup n v).rcs = s.rcs := rfl
@[simp] theorem setGroup_obs (s : State) (n : Nat) (v : InputGroup) : (s.setGroup n v).obs = s.obs := rfl
@[simp] theorem setGroup_spm (s : State) (n : Nat) (v : InputGroup) : (s.setGroup n v).spm = s.spm := rfl
@[simp] theorem setGroup_feeds (s : State) (n : Nat) (v : InputGroup) : (s.setGroup n v).feeds = s.feeds := rfl
@[simp] theorem setGroup_strs (s : State) (n : Nat) (v : InputGroup) : (s.setGroup n v).strs = s.strs := rfl
@[simp] theorem setGroup_chargers (s : State) (n : Nat) (v : InputGroup) : (s.setGroup n v).chargers = s.chargers := rfl
@[simp] theorem setGroup_dead (s : State) (n : Nat) (v : InputGroup) : (s.setGroup n v).dead = s.dead := rfl
@[simp] theorem setGroup_rails (s : State) (n : Nat) (v : InputGroup) : (s.setGroup n v).rails = s.rails := rfl
@[simp] theorem setGroup_railGroups (s : State) (n : Nat) (v : InputGroup) : (s.setGroup n v).railGroups = s.railGroups := rfl
@[simp] theorem setGroup_thermal (s : State) (n : Nat) (v : InputGroup) : (s.setGroup n v).thermal = s.thermal := rfl
@[simp] theorem setGroup_faults (s : State) (n : Nat) (v : InputGroup) : (s.setGroup n v).faults = s.faults := rfl
@[simp] theorem setGroup_pair (s : State) (n : Nat) (v : InputGroup) : (s.setGroup n v).pair = s.pair := rfl
@[simp] theorem setGroup_net (s : State) (n : Nat) (v : InputGroup) : (s.setGroup n v).net = s.net := rfl
@[simp] theorem setGroup_berths (s : State) (n : Nat) (v : InputGroup) : (s.setGroup n v).berths = s.berths := rfl
@[simp] theorem setGroup_ports (s : State) (n : Nat) (v : InputGroup) : (s.setGroup n v).ports = s.ports := rfl
@[simp] theorem setGroup_mem (s : State) (n : Nat) (v : InputGroup) : (s.setGroup n v).mem = s.mem := rfl
@[simp] theorem setGroup_log (s : State) (n : Nat) (v : InputGroup) : (s.setGroup n v).log = s.log := rfl
@[simp] theorem setGroup_img (s : State) (n : Nat) (v : InputGroup) : (s.setGroup n v).img = s.img := rfl
@[simp] theorem setGroup_cfg (s : State) (n : Nat) (v : InputGroup) : (s.setGroup n v).cfg = s.cfg := rfl
@[simp] theorem setGroup_kept (s : State) (n : Nat) (v : InputGroup) : (s.setGroup n v).kept = s.kept := rfl
@[simp] theorem setGroup_draws (s : State) (n : Nat) (v : InputGroup) : (s.setGroup n v).draws = s.draws := rfl

@[simp] theorem setInst_pending (s : State) (n : Nat) (v : Instance) : (s.setInst n v).pending = s.pending := rfl
@[simp] theorem setInst_now (s : State) (n : Nat) (v : Instance) : (s.setInst n v).now = s.now := rfl
@[simp] theorem setInst_part (s : State) (n : Nat) (v : Instance) : (s.setInst n v).part = s.part := rfl
@[simp] theorem setInst_serial (s : State) (n : Nat) (v : Instance) : (s.setInst n v).serial = s.serial := rfl
@[simp] theorem setInst_supply (s : State) (n : Nat) (v : Instance) : (s.setInst n v).supply = s.supply := rfl
@[simp] theorem setInst_mode (s : State) (n : Nat) (v : Instance) : (s.setInst n v).mode = s.mode := rfl
@[simp] theorem setInst_clock (s : State) (n : Nat) (v : Instance) : (s.setInst n v).clock = s.clock := rfl
@[simp] theorem setInst_mods (s : State) (n : Nat) (v : Instance) : (s.setInst n v).mods = s.mods := rfl
@[simp] theorem setInst_groups (s : State) (n : Nat) (v : Instance) : (s.setInst n v).groups = s.groups := rfl
@[simp] theorem setInst_adc (s : State) (n : Nat) (v : Instance) : (s.setInst n v).adc = s.adc := rfl
@[simp] theorem setInst_tide (s : State) (n : Nat) (v : Instance) : (s.setInst n v).tide = s.tide := rfl
@[simp] theorem setInst_insts (s : State) (n : Nat) (v : Instance) : (s.setInst n v).insts = put s.insts n v := rfl
@[simp] theorem setInst_engines (s : State) (n : Nat) (v : Instance) : (s.setInst n v).engines = s.engines := rfl
@[simp] theorem setInst_stages (s : State) (n : Nat) (v : Instance) : (s.setInst n v).stages = s.stages := rfl
@[simp] theorem setInst_phases (s : State) (n : Nat) (v : Instance) : (s.setInst n v).phases = s.phases := rfl
@[simp] theorem setInst_pgs (s : State) (n : Nat) (v : Instance) : (s.setInst n v).pgs = s.pgs := rfl
@[simp] theorem setInst_rcs (s : State) (n : Nat) (v : Instance) : (s.setInst n v).rcs = s.rcs := rfl
@[simp] theorem setInst_obs (s : State) (n : Nat) (v : Instance) : (s.setInst n v).obs = s.obs := rfl
@[simp] theorem setInst_spm (s : State) (n : Nat) (v : Instance) : (s.setInst n v).spm = s.spm := rfl
@[simp] theorem setInst_feeds (s : State) (n : Nat) (v : Instance) : (s.setInst n v).feeds = s.feeds := rfl
@[simp] theorem setInst_strs (s : State) (n : Nat) (v : Instance) : (s.setInst n v).strs = s.strs := rfl
@[simp] theorem setInst_chargers (s : State) (n : Nat) (v : Instance) : (s.setInst n v).chargers = s.chargers := rfl
@[simp] theorem setInst_dead (s : State) (n : Nat) (v : Instance) : (s.setInst n v).dead = s.dead := rfl
@[simp] theorem setInst_rails (s : State) (n : Nat) (v : Instance) : (s.setInst n v).rails = s.rails := rfl
@[simp] theorem setInst_railGroups (s : State) (n : Nat) (v : Instance) : (s.setInst n v).railGroups = s.railGroups := rfl
@[simp] theorem setInst_thermal (s : State) (n : Nat) (v : Instance) : (s.setInst n v).thermal = s.thermal := rfl
@[simp] theorem setInst_faults (s : State) (n : Nat) (v : Instance) : (s.setInst n v).faults = s.faults := rfl
@[simp] theorem setInst_pair (s : State) (n : Nat) (v : Instance) : (s.setInst n v).pair = s.pair := rfl
@[simp] theorem setInst_net (s : State) (n : Nat) (v : Instance) : (s.setInst n v).net = s.net := rfl
@[simp] theorem setInst_berths (s : State) (n : Nat) (v : Instance) : (s.setInst n v).berths = s.berths := rfl
@[simp] theorem setInst_ports (s : State) (n : Nat) (v : Instance) : (s.setInst n v).ports = s.ports := rfl
@[simp] theorem setInst_mem (s : State) (n : Nat) (v : Instance) : (s.setInst n v).mem = s.mem := rfl
@[simp] theorem setInst_log (s : State) (n : Nat) (v : Instance) : (s.setInst n v).log = s.log := rfl
@[simp] theorem setInst_img (s : State) (n : Nat) (v : Instance) : (s.setInst n v).img = s.img := rfl
@[simp] theorem setInst_cfg (s : State) (n : Nat) (v : Instance) : (s.setInst n v).cfg = s.cfg := rfl
@[simp] theorem setInst_kept (s : State) (n : Nat) (v : Instance) : (s.setInst n v).kept = s.kept := rfl
@[simp] theorem setInst_draws (s : State) (n : Nat) (v : Instance) : (s.setInst n v).draws = s.draws := rfl

@[simp] theorem setEngine_pending (s : State) (n : Nat) (v : Engine) : (s.setEngine n v).pending = s.pending := rfl
@[simp] theorem setEngine_now (s : State) (n : Nat) (v : Engine) : (s.setEngine n v).now = s.now := rfl
@[simp] theorem setEngine_part (s : State) (n : Nat) (v : Engine) : (s.setEngine n v).part = s.part := rfl
@[simp] theorem setEngine_serial (s : State) (n : Nat) (v : Engine) : (s.setEngine n v).serial = s.serial := rfl
@[simp] theorem setEngine_supply (s : State) (n : Nat) (v : Engine) : (s.setEngine n v).supply = s.supply := rfl
@[simp] theorem setEngine_mode (s : State) (n : Nat) (v : Engine) : (s.setEngine n v).mode = s.mode := rfl
@[simp] theorem setEngine_clock (s : State) (n : Nat) (v : Engine) : (s.setEngine n v).clock = s.clock := rfl
@[simp] theorem setEngine_mods (s : State) (n : Nat) (v : Engine) : (s.setEngine n v).mods = s.mods := rfl
@[simp] theorem setEngine_groups (s : State) (n : Nat) (v : Engine) : (s.setEngine n v).groups = s.groups := rfl
@[simp] theorem setEngine_adc (s : State) (n : Nat) (v : Engine) : (s.setEngine n v).adc = s.adc := rfl
@[simp] theorem setEngine_tide (s : State) (n : Nat) (v : Engine) : (s.setEngine n v).tide = s.tide := rfl
@[simp] theorem setEngine_insts (s : State) (n : Nat) (v : Engine) : (s.setEngine n v).insts = s.insts := rfl
@[simp] theorem setEngine_engines (s : State) (n : Nat) (v : Engine) : (s.setEngine n v).engines = put s.engines n v := rfl
@[simp] theorem setEngine_stages (s : State) (n : Nat) (v : Engine) : (s.setEngine n v).stages = s.stages := rfl
@[simp] theorem setEngine_phases (s : State) (n : Nat) (v : Engine) : (s.setEngine n v).phases = s.phases := rfl
@[simp] theorem setEngine_pgs (s : State) (n : Nat) (v : Engine) : (s.setEngine n v).pgs = s.pgs := rfl
@[simp] theorem setEngine_rcs (s : State) (n : Nat) (v : Engine) : (s.setEngine n v).rcs = s.rcs := rfl
@[simp] theorem setEngine_obs (s : State) (n : Nat) (v : Engine) : (s.setEngine n v).obs = s.obs := rfl
@[simp] theorem setEngine_spm (s : State) (n : Nat) (v : Engine) : (s.setEngine n v).spm = s.spm := rfl
@[simp] theorem setEngine_feeds (s : State) (n : Nat) (v : Engine) : (s.setEngine n v).feeds = s.feeds := rfl
@[simp] theorem setEngine_strs (s : State) (n : Nat) (v : Engine) : (s.setEngine n v).strs = s.strs := rfl
@[simp] theorem setEngine_chargers (s : State) (n : Nat) (v : Engine) : (s.setEngine n v).chargers = s.chargers := rfl
@[simp] theorem setEngine_dead (s : State) (n : Nat) (v : Engine) : (s.setEngine n v).dead = s.dead := rfl
@[simp] theorem setEngine_rails (s : State) (n : Nat) (v : Engine) : (s.setEngine n v).rails = s.rails := rfl
@[simp] theorem setEngine_railGroups (s : State) (n : Nat) (v : Engine) : (s.setEngine n v).railGroups = s.railGroups := rfl
@[simp] theorem setEngine_thermal (s : State) (n : Nat) (v : Engine) : (s.setEngine n v).thermal = s.thermal := rfl
@[simp] theorem setEngine_faults (s : State) (n : Nat) (v : Engine) : (s.setEngine n v).faults = s.faults := rfl
@[simp] theorem setEngine_pair (s : State) (n : Nat) (v : Engine) : (s.setEngine n v).pair = s.pair := rfl
@[simp] theorem setEngine_net (s : State) (n : Nat) (v : Engine) : (s.setEngine n v).net = s.net := rfl
@[simp] theorem setEngine_berths (s : State) (n : Nat) (v : Engine) : (s.setEngine n v).berths = s.berths := rfl
@[simp] theorem setEngine_ports (s : State) (n : Nat) (v : Engine) : (s.setEngine n v).ports = s.ports := rfl
@[simp] theorem setEngine_mem (s : State) (n : Nat) (v : Engine) : (s.setEngine n v).mem = s.mem := rfl
@[simp] theorem setEngine_log (s : State) (n : Nat) (v : Engine) : (s.setEngine n v).log = s.log := rfl
@[simp] theorem setEngine_img (s : State) (n : Nat) (v : Engine) : (s.setEngine n v).img = s.img := rfl
@[simp] theorem setEngine_cfg (s : State) (n : Nat) (v : Engine) : (s.setEngine n v).cfg = s.cfg := rfl
@[simp] theorem setEngine_kept (s : State) (n : Nat) (v : Engine) : (s.setEngine n v).kept = s.kept := rfl
@[simp] theorem setEngine_draws (s : State) (n : Nat) (v : Engine) : (s.setEngine n v).draws = s.draws := rfl

@[simp] theorem setStage_pending (s : State) (n : Nat) (v : Stage) : (s.setStage n v).pending = s.pending := rfl
@[simp] theorem setStage_now (s : State) (n : Nat) (v : Stage) : (s.setStage n v).now = s.now := rfl
@[simp] theorem setStage_part (s : State) (n : Nat) (v : Stage) : (s.setStage n v).part = s.part := rfl
@[simp] theorem setStage_serial (s : State) (n : Nat) (v : Stage) : (s.setStage n v).serial = s.serial := rfl
@[simp] theorem setStage_supply (s : State) (n : Nat) (v : Stage) : (s.setStage n v).supply = s.supply := rfl
@[simp] theorem setStage_mode (s : State) (n : Nat) (v : Stage) : (s.setStage n v).mode = s.mode := rfl
@[simp] theorem setStage_clock (s : State) (n : Nat) (v : Stage) : (s.setStage n v).clock = s.clock := rfl
@[simp] theorem setStage_mods (s : State) (n : Nat) (v : Stage) : (s.setStage n v).mods = s.mods := rfl
@[simp] theorem setStage_groups (s : State) (n : Nat) (v : Stage) : (s.setStage n v).groups = s.groups := rfl
@[simp] theorem setStage_adc (s : State) (n : Nat) (v : Stage) : (s.setStage n v).adc = s.adc := rfl
@[simp] theorem setStage_tide (s : State) (n : Nat) (v : Stage) : (s.setStage n v).tide = s.tide := rfl
@[simp] theorem setStage_insts (s : State) (n : Nat) (v : Stage) : (s.setStage n v).insts = s.insts := rfl
@[simp] theorem setStage_engines (s : State) (n : Nat) (v : Stage) : (s.setStage n v).engines = s.engines := rfl
@[simp] theorem setStage_stages (s : State) (n : Nat) (v : Stage) : (s.setStage n v).stages = put s.stages n v := rfl
@[simp] theorem setStage_phases (s : State) (n : Nat) (v : Stage) : (s.setStage n v).phases = s.phases := rfl
@[simp] theorem setStage_pgs (s : State) (n : Nat) (v : Stage) : (s.setStage n v).pgs = s.pgs := rfl
@[simp] theorem setStage_rcs (s : State) (n : Nat) (v : Stage) : (s.setStage n v).rcs = s.rcs := rfl
@[simp] theorem setStage_obs (s : State) (n : Nat) (v : Stage) : (s.setStage n v).obs = s.obs := rfl
@[simp] theorem setStage_spm (s : State) (n : Nat) (v : Stage) : (s.setStage n v).spm = s.spm := rfl
@[simp] theorem setStage_feeds (s : State) (n : Nat) (v : Stage) : (s.setStage n v).feeds = s.feeds := rfl
@[simp] theorem setStage_strs (s : State) (n : Nat) (v : Stage) : (s.setStage n v).strs = s.strs := rfl
@[simp] theorem setStage_chargers (s : State) (n : Nat) (v : Stage) : (s.setStage n v).chargers = s.chargers := rfl
@[simp] theorem setStage_dead (s : State) (n : Nat) (v : Stage) : (s.setStage n v).dead = s.dead := rfl
@[simp] theorem setStage_rails (s : State) (n : Nat) (v : Stage) : (s.setStage n v).rails = s.rails := rfl
@[simp] theorem setStage_railGroups (s : State) (n : Nat) (v : Stage) : (s.setStage n v).railGroups = s.railGroups := rfl
@[simp] theorem setStage_thermal (s : State) (n : Nat) (v : Stage) : (s.setStage n v).thermal = s.thermal := rfl
@[simp] theorem setStage_faults (s : State) (n : Nat) (v : Stage) : (s.setStage n v).faults = s.faults := rfl
@[simp] theorem setStage_pair (s : State) (n : Nat) (v : Stage) : (s.setStage n v).pair = s.pair := rfl
@[simp] theorem setStage_net (s : State) (n : Nat) (v : Stage) : (s.setStage n v).net = s.net := rfl
@[simp] theorem setStage_berths (s : State) (n : Nat) (v : Stage) : (s.setStage n v).berths = s.berths := rfl
@[simp] theorem setStage_ports (s : State) (n : Nat) (v : Stage) : (s.setStage n v).ports = s.ports := rfl
@[simp] theorem setStage_mem (s : State) (n : Nat) (v : Stage) : (s.setStage n v).mem = s.mem := rfl
@[simp] theorem setStage_log (s : State) (n : Nat) (v : Stage) : (s.setStage n v).log = s.log := rfl
@[simp] theorem setStage_img (s : State) (n : Nat) (v : Stage) : (s.setStage n v).img = s.img := rfl
@[simp] theorem setStage_cfg (s : State) (n : Nat) (v : Stage) : (s.setStage n v).cfg = s.cfg := rfl
@[simp] theorem setStage_kept (s : State) (n : Nat) (v : Stage) : (s.setStage n v).kept = s.kept := rfl
@[simp] theorem setStage_draws (s : State) (n : Nat) (v : Stage) : (s.setStage n v).draws = s.draws := rfl

@[simp] theorem setPhase_pending (s : State) (n : Nat) (v : Phase) : (s.setPhase n v).pending = s.pending := rfl
@[simp] theorem setPhase_now (s : State) (n : Nat) (v : Phase) : (s.setPhase n v).now = s.now := rfl
@[simp] theorem setPhase_part (s : State) (n : Nat) (v : Phase) : (s.setPhase n v).part = s.part := rfl
@[simp] theorem setPhase_serial (s : State) (n : Nat) (v : Phase) : (s.setPhase n v).serial = s.serial := rfl
@[simp] theorem setPhase_supply (s : State) (n : Nat) (v : Phase) : (s.setPhase n v).supply = s.supply := rfl
@[simp] theorem setPhase_mode (s : State) (n : Nat) (v : Phase) : (s.setPhase n v).mode = s.mode := rfl
@[simp] theorem setPhase_clock (s : State) (n : Nat) (v : Phase) : (s.setPhase n v).clock = s.clock := rfl
@[simp] theorem setPhase_mods (s : State) (n : Nat) (v : Phase) : (s.setPhase n v).mods = s.mods := rfl
@[simp] theorem setPhase_groups (s : State) (n : Nat) (v : Phase) : (s.setPhase n v).groups = s.groups := rfl
@[simp] theorem setPhase_adc (s : State) (n : Nat) (v : Phase) : (s.setPhase n v).adc = s.adc := rfl
@[simp] theorem setPhase_tide (s : State) (n : Nat) (v : Phase) : (s.setPhase n v).tide = s.tide := rfl
@[simp] theorem setPhase_insts (s : State) (n : Nat) (v : Phase) : (s.setPhase n v).insts = s.insts := rfl
@[simp] theorem setPhase_engines (s : State) (n : Nat) (v : Phase) : (s.setPhase n v).engines = s.engines := rfl
@[simp] theorem setPhase_stages (s : State) (n : Nat) (v : Phase) : (s.setPhase n v).stages = s.stages := rfl
@[simp] theorem setPhase_phases (s : State) (n : Nat) (v : Phase) : (s.setPhase n v).phases = put s.phases n v := rfl
@[simp] theorem setPhase_pgs (s : State) (n : Nat) (v : Phase) : (s.setPhase n v).pgs = s.pgs := rfl
@[simp] theorem setPhase_rcs (s : State) (n : Nat) (v : Phase) : (s.setPhase n v).rcs = s.rcs := rfl
@[simp] theorem setPhase_obs (s : State) (n : Nat) (v : Phase) : (s.setPhase n v).obs = s.obs := rfl
@[simp] theorem setPhase_spm (s : State) (n : Nat) (v : Phase) : (s.setPhase n v).spm = s.spm := rfl
@[simp] theorem setPhase_feeds (s : State) (n : Nat) (v : Phase) : (s.setPhase n v).feeds = s.feeds := rfl
@[simp] theorem setPhase_strs (s : State) (n : Nat) (v : Phase) : (s.setPhase n v).strs = s.strs := rfl
@[simp] theorem setPhase_chargers (s : State) (n : Nat) (v : Phase) : (s.setPhase n v).chargers = s.chargers := rfl
@[simp] theorem setPhase_dead (s : State) (n : Nat) (v : Phase) : (s.setPhase n v).dead = s.dead := rfl
@[simp] theorem setPhase_rails (s : State) (n : Nat) (v : Phase) : (s.setPhase n v).rails = s.rails := rfl
@[simp] theorem setPhase_railGroups (s : State) (n : Nat) (v : Phase) : (s.setPhase n v).railGroups = s.railGroups := rfl
@[simp] theorem setPhase_thermal (s : State) (n : Nat) (v : Phase) : (s.setPhase n v).thermal = s.thermal := rfl
@[simp] theorem setPhase_faults (s : State) (n : Nat) (v : Phase) : (s.setPhase n v).faults = s.faults := rfl
@[simp] theorem setPhase_pair (s : State) (n : Nat) (v : Phase) : (s.setPhase n v).pair = s.pair := rfl
@[simp] theorem setPhase_net (s : State) (n : Nat) (v : Phase) : (s.setPhase n v).net = s.net := rfl
@[simp] theorem setPhase_berths (s : State) (n : Nat) (v : Phase) : (s.setPhase n v).berths = s.berths := rfl
@[simp] theorem setPhase_ports (s : State) (n : Nat) (v : Phase) : (s.setPhase n v).ports = s.ports := rfl
@[simp] theorem setPhase_mem (s : State) (n : Nat) (v : Phase) : (s.setPhase n v).mem = s.mem := rfl
@[simp] theorem setPhase_log (s : State) (n : Nat) (v : Phase) : (s.setPhase n v).log = s.log := rfl
@[simp] theorem setPhase_img (s : State) (n : Nat) (v : Phase) : (s.setPhase n v).img = s.img := rfl
@[simp] theorem setPhase_cfg (s : State) (n : Nat) (v : Phase) : (s.setPhase n v).cfg = s.cfg := rfl
@[simp] theorem setPhase_kept (s : State) (n : Nat) (v : Phase) : (s.setPhase n v).kept = s.kept := rfl
@[simp] theorem setPhase_draws (s : State) (n : Nat) (v : Phase) : (s.setPhase n v).draws = s.draws := rfl

@[simp] theorem setPg_pending (s : State) (n : Nat) (v : Pg) : (s.setPg n v).pending = s.pending := rfl
@[simp] theorem setPg_now (s : State) (n : Nat) (v : Pg) : (s.setPg n v).now = s.now := rfl
@[simp] theorem setPg_part (s : State) (n : Nat) (v : Pg) : (s.setPg n v).part = s.part := rfl
@[simp] theorem setPg_serial (s : State) (n : Nat) (v : Pg) : (s.setPg n v).serial = s.serial := rfl
@[simp] theorem setPg_supply (s : State) (n : Nat) (v : Pg) : (s.setPg n v).supply = s.supply := rfl
@[simp] theorem setPg_mode (s : State) (n : Nat) (v : Pg) : (s.setPg n v).mode = s.mode := rfl
@[simp] theorem setPg_clock (s : State) (n : Nat) (v : Pg) : (s.setPg n v).clock = s.clock := rfl
@[simp] theorem setPg_mods (s : State) (n : Nat) (v : Pg) : (s.setPg n v).mods = s.mods := rfl
@[simp] theorem setPg_groups (s : State) (n : Nat) (v : Pg) : (s.setPg n v).groups = s.groups := rfl
@[simp] theorem setPg_adc (s : State) (n : Nat) (v : Pg) : (s.setPg n v).adc = s.adc := rfl
@[simp] theorem setPg_tide (s : State) (n : Nat) (v : Pg) : (s.setPg n v).tide = s.tide := rfl
@[simp] theorem setPg_insts (s : State) (n : Nat) (v : Pg) : (s.setPg n v).insts = s.insts := rfl
@[simp] theorem setPg_engines (s : State) (n : Nat) (v : Pg) : (s.setPg n v).engines = s.engines := rfl
@[simp] theorem setPg_stages (s : State) (n : Nat) (v : Pg) : (s.setPg n v).stages = s.stages := rfl
@[simp] theorem setPg_phases (s : State) (n : Nat) (v : Pg) : (s.setPg n v).phases = s.phases := rfl
@[simp] theorem setPg_pgs (s : State) (n : Nat) (v : Pg) : (s.setPg n v).pgs = put s.pgs n v := rfl
@[simp] theorem setPg_rcs (s : State) (n : Nat) (v : Pg) : (s.setPg n v).rcs = s.rcs := rfl
@[simp] theorem setPg_obs (s : State) (n : Nat) (v : Pg) : (s.setPg n v).obs = s.obs := rfl
@[simp] theorem setPg_spm (s : State) (n : Nat) (v : Pg) : (s.setPg n v).spm = s.spm := rfl
@[simp] theorem setPg_feeds (s : State) (n : Nat) (v : Pg) : (s.setPg n v).feeds = s.feeds := rfl
@[simp] theorem setPg_strs (s : State) (n : Nat) (v : Pg) : (s.setPg n v).strs = s.strs := rfl
@[simp] theorem setPg_chargers (s : State) (n : Nat) (v : Pg) : (s.setPg n v).chargers = s.chargers := rfl
@[simp] theorem setPg_dead (s : State) (n : Nat) (v : Pg) : (s.setPg n v).dead = s.dead := rfl
@[simp] theorem setPg_rails (s : State) (n : Nat) (v : Pg) : (s.setPg n v).rails = s.rails := rfl
@[simp] theorem setPg_railGroups (s : State) (n : Nat) (v : Pg) : (s.setPg n v).railGroups = s.railGroups := rfl
@[simp] theorem setPg_thermal (s : State) (n : Nat) (v : Pg) : (s.setPg n v).thermal = s.thermal := rfl
@[simp] theorem setPg_faults (s : State) (n : Nat) (v : Pg) : (s.setPg n v).faults = s.faults := rfl
@[simp] theorem setPg_pair (s : State) (n : Nat) (v : Pg) : (s.setPg n v).pair = s.pair := rfl
@[simp] theorem setPg_net (s : State) (n : Nat) (v : Pg) : (s.setPg n v).net = s.net := rfl
@[simp] theorem setPg_berths (s : State) (n : Nat) (v : Pg) : (s.setPg n v).berths = s.berths := rfl
@[simp] theorem setPg_ports (s : State) (n : Nat) (v : Pg) : (s.setPg n v).ports = s.ports := rfl
@[simp] theorem setPg_mem (s : State) (n : Nat) (v : Pg) : (s.setPg n v).mem = s.mem := rfl
@[simp] theorem setPg_log (s : State) (n : Nat) (v : Pg) : (s.setPg n v).log = s.log := rfl
@[simp] theorem setPg_img (s : State) (n : Nat) (v : Pg) : (s.setPg n v).img = s.img := rfl
@[simp] theorem setPg_cfg (s : State) (n : Nat) (v : Pg) : (s.setPg n v).cfg = s.cfg := rfl
@[simp] theorem setPg_kept (s : State) (n : Nat) (v : Pg) : (s.setPg n v).kept = s.kept := rfl
@[simp] theorem setPg_draws (s : State) (n : Nat) (v : Pg) : (s.setPg n v).draws = s.draws := rfl

@[simp] theorem setRc_pending (s : State) (n : Nat) (v : Rc) : (s.setRc n v).pending = s.pending := rfl
@[simp] theorem setRc_now (s : State) (n : Nat) (v : Rc) : (s.setRc n v).now = s.now := rfl
@[simp] theorem setRc_part (s : State) (n : Nat) (v : Rc) : (s.setRc n v).part = s.part := rfl
@[simp] theorem setRc_serial (s : State) (n : Nat) (v : Rc) : (s.setRc n v).serial = s.serial := rfl
@[simp] theorem setRc_supply (s : State) (n : Nat) (v : Rc) : (s.setRc n v).supply = s.supply := rfl
@[simp] theorem setRc_mode (s : State) (n : Nat) (v : Rc) : (s.setRc n v).mode = s.mode := rfl
@[simp] theorem setRc_clock (s : State) (n : Nat) (v : Rc) : (s.setRc n v).clock = s.clock := rfl
@[simp] theorem setRc_mods (s : State) (n : Nat) (v : Rc) : (s.setRc n v).mods = s.mods := rfl
@[simp] theorem setRc_groups (s : State) (n : Nat) (v : Rc) : (s.setRc n v).groups = s.groups := rfl
@[simp] theorem setRc_adc (s : State) (n : Nat) (v : Rc) : (s.setRc n v).adc = s.adc := rfl
@[simp] theorem setRc_tide (s : State) (n : Nat) (v : Rc) : (s.setRc n v).tide = s.tide := rfl
@[simp] theorem setRc_insts (s : State) (n : Nat) (v : Rc) : (s.setRc n v).insts = s.insts := rfl
@[simp] theorem setRc_engines (s : State) (n : Nat) (v : Rc) : (s.setRc n v).engines = s.engines := rfl
@[simp] theorem setRc_stages (s : State) (n : Nat) (v : Rc) : (s.setRc n v).stages = s.stages := rfl
@[simp] theorem setRc_phases (s : State) (n : Nat) (v : Rc) : (s.setRc n v).phases = s.phases := rfl
@[simp] theorem setRc_pgs (s : State) (n : Nat) (v : Rc) : (s.setRc n v).pgs = s.pgs := rfl
@[simp] theorem setRc_rcs (s : State) (n : Nat) (v : Rc) : (s.setRc n v).rcs = put s.rcs n v := rfl
@[simp] theorem setRc_obs (s : State) (n : Nat) (v : Rc) : (s.setRc n v).obs = s.obs := rfl
@[simp] theorem setRc_spm (s : State) (n : Nat) (v : Rc) : (s.setRc n v).spm = s.spm := rfl
@[simp] theorem setRc_feeds (s : State) (n : Nat) (v : Rc) : (s.setRc n v).feeds = s.feeds := rfl
@[simp] theorem setRc_strs (s : State) (n : Nat) (v : Rc) : (s.setRc n v).strs = s.strs := rfl
@[simp] theorem setRc_chargers (s : State) (n : Nat) (v : Rc) : (s.setRc n v).chargers = s.chargers := rfl
@[simp] theorem setRc_dead (s : State) (n : Nat) (v : Rc) : (s.setRc n v).dead = s.dead := rfl
@[simp] theorem setRc_rails (s : State) (n : Nat) (v : Rc) : (s.setRc n v).rails = s.rails := rfl
@[simp] theorem setRc_railGroups (s : State) (n : Nat) (v : Rc) : (s.setRc n v).railGroups = s.railGroups := rfl
@[simp] theorem setRc_thermal (s : State) (n : Nat) (v : Rc) : (s.setRc n v).thermal = s.thermal := rfl
@[simp] theorem setRc_faults (s : State) (n : Nat) (v : Rc) : (s.setRc n v).faults = s.faults := rfl
@[simp] theorem setRc_pair (s : State) (n : Nat) (v : Rc) : (s.setRc n v).pair = s.pair := rfl
@[simp] theorem setRc_net (s : State) (n : Nat) (v : Rc) : (s.setRc n v).net = s.net := rfl
@[simp] theorem setRc_berths (s : State) (n : Nat) (v : Rc) : (s.setRc n v).berths = s.berths := rfl
@[simp] theorem setRc_ports (s : State) (n : Nat) (v : Rc) : (s.setRc n v).ports = s.ports := rfl
@[simp] theorem setRc_mem (s : State) (n : Nat) (v : Rc) : (s.setRc n v).mem = s.mem := rfl
@[simp] theorem setRc_log (s : State) (n : Nat) (v : Rc) : (s.setRc n v).log = s.log := rfl
@[simp] theorem setRc_img (s : State) (n : Nat) (v : Rc) : (s.setRc n v).img = s.img := rfl
@[simp] theorem setRc_cfg (s : State) (n : Nat) (v : Rc) : (s.setRc n v).cfg = s.cfg := rfl
@[simp] theorem setRc_kept (s : State) (n : Nat) (v : Rc) : (s.setRc n v).kept = s.kept := rfl
@[simp] theorem setRc_draws (s : State) (n : Nat) (v : Rc) : (s.setRc n v).draws = s.draws := rfl

@[simp] theorem setObserver_pending (s : State) (n : Nat) (v : Observer) : (s.setObserver n v).pending = s.pending := rfl
@[simp] theorem setObserver_now (s : State) (n : Nat) (v : Observer) : (s.setObserver n v).now = s.now := rfl
@[simp] theorem setObserver_part (s : State) (n : Nat) (v : Observer) : (s.setObserver n v).part = s.part := rfl
@[simp] theorem setObserver_serial (s : State) (n : Nat) (v : Observer) : (s.setObserver n v).serial = s.serial := rfl
@[simp] theorem setObserver_supply (s : State) (n : Nat) (v : Observer) : (s.setObserver n v).supply = s.supply := rfl
@[simp] theorem setObserver_mode (s : State) (n : Nat) (v : Observer) : (s.setObserver n v).mode = s.mode := rfl
@[simp] theorem setObserver_clock (s : State) (n : Nat) (v : Observer) : (s.setObserver n v).clock = s.clock := rfl
@[simp] theorem setObserver_mods (s : State) (n : Nat) (v : Observer) : (s.setObserver n v).mods = s.mods := rfl
@[simp] theorem setObserver_groups (s : State) (n : Nat) (v : Observer) : (s.setObserver n v).groups = s.groups := rfl
@[simp] theorem setObserver_adc (s : State) (n : Nat) (v : Observer) : (s.setObserver n v).adc = s.adc := rfl
@[simp] theorem setObserver_tide (s : State) (n : Nat) (v : Observer) : (s.setObserver n v).tide = s.tide := rfl
@[simp] theorem setObserver_insts (s : State) (n : Nat) (v : Observer) : (s.setObserver n v).insts = s.insts := rfl
@[simp] theorem setObserver_engines (s : State) (n : Nat) (v : Observer) : (s.setObserver n v).engines = s.engines := rfl
@[simp] theorem setObserver_stages (s : State) (n : Nat) (v : Observer) : (s.setObserver n v).stages = s.stages := rfl
@[simp] theorem setObserver_phases (s : State) (n : Nat) (v : Observer) : (s.setObserver n v).phases = s.phases := rfl
@[simp] theorem setObserver_pgs (s : State) (n : Nat) (v : Observer) : (s.setObserver n v).pgs = s.pgs := rfl
@[simp] theorem setObserver_rcs (s : State) (n : Nat) (v : Observer) : (s.setObserver n v).rcs = s.rcs := rfl
@[simp] theorem setObserver_obs (s : State) (n : Nat) (v : Observer) : (s.setObserver n v).obs = put s.obs n v := rfl
@[simp] theorem setObserver_spm (s : State) (n : Nat) (v : Observer) : (s.setObserver n v).spm = s.spm := rfl
@[simp] theorem setObserver_feeds (s : State) (n : Nat) (v : Observer) : (s.setObserver n v).feeds = s.feeds := rfl
@[simp] theorem setObserver_strs (s : State) (n : Nat) (v : Observer) : (s.setObserver n v).strs = s.strs := rfl
@[simp] theorem setObserver_chargers (s : State) (n : Nat) (v : Observer) : (s.setObserver n v).chargers = s.chargers := rfl
@[simp] theorem setObserver_dead (s : State) (n : Nat) (v : Observer) : (s.setObserver n v).dead = s.dead := rfl
@[simp] theorem setObserver_rails (s : State) (n : Nat) (v : Observer) : (s.setObserver n v).rails = s.rails := rfl
@[simp] theorem setObserver_railGroups (s : State) (n : Nat) (v : Observer) : (s.setObserver n v).railGroups = s.railGroups := rfl
@[simp] theorem setObserver_thermal (s : State) (n : Nat) (v : Observer) : (s.setObserver n v).thermal = s.thermal := rfl
@[simp] theorem setObserver_faults (s : State) (n : Nat) (v : Observer) : (s.setObserver n v).faults = s.faults := rfl
@[simp] theorem setObserver_pair (s : State) (n : Nat) (v : Observer) : (s.setObserver n v).pair = s.pair := rfl
@[simp] theorem setObserver_net (s : State) (n : Nat) (v : Observer) : (s.setObserver n v).net = s.net := rfl
@[simp] theorem setObserver_berths (s : State) (n : Nat) (v : Observer) : (s.setObserver n v).berths = s.berths := rfl
@[simp] theorem setObserver_ports (s : State) (n : Nat) (v : Observer) : (s.setObserver n v).ports = s.ports := rfl
@[simp] theorem setObserver_mem (s : State) (n : Nat) (v : Observer) : (s.setObserver n v).mem = s.mem := rfl
@[simp] theorem setObserver_log (s : State) (n : Nat) (v : Observer) : (s.setObserver n v).log = s.log := rfl
@[simp] theorem setObserver_img (s : State) (n : Nat) (v : Observer) : (s.setObserver n v).img = s.img := rfl
@[simp] theorem setObserver_cfg (s : State) (n : Nat) (v : Observer) : (s.setObserver n v).cfg = s.cfg := rfl
@[simp] theorem setObserver_kept (s : State) (n : Nat) (v : Observer) : (s.setObserver n v).kept = s.kept := rfl
@[simp] theorem setObserver_draws (s : State) (n : Nat) (v : Observer) : (s.setObserver n v).draws = s.draws := rfl

@[simp] theorem setFeed_pending (s : State) (n : Nat) (v : Feed) : (s.setFeed n v).pending = s.pending := rfl
@[simp] theorem setFeed_now (s : State) (n : Nat) (v : Feed) : (s.setFeed n v).now = s.now := rfl
@[simp] theorem setFeed_part (s : State) (n : Nat) (v : Feed) : (s.setFeed n v).part = s.part := rfl
@[simp] theorem setFeed_serial (s : State) (n : Nat) (v : Feed) : (s.setFeed n v).serial = s.serial := rfl
@[simp] theorem setFeed_supply (s : State) (n : Nat) (v : Feed) : (s.setFeed n v).supply = s.supply := rfl
@[simp] theorem setFeed_mode (s : State) (n : Nat) (v : Feed) : (s.setFeed n v).mode = s.mode := rfl
@[simp] theorem setFeed_clock (s : State) (n : Nat) (v : Feed) : (s.setFeed n v).clock = s.clock := rfl
@[simp] theorem setFeed_mods (s : State) (n : Nat) (v : Feed) : (s.setFeed n v).mods = s.mods := rfl
@[simp] theorem setFeed_groups (s : State) (n : Nat) (v : Feed) : (s.setFeed n v).groups = s.groups := rfl
@[simp] theorem setFeed_adc (s : State) (n : Nat) (v : Feed) : (s.setFeed n v).adc = s.adc := rfl
@[simp] theorem setFeed_tide (s : State) (n : Nat) (v : Feed) : (s.setFeed n v).tide = s.tide := rfl
@[simp] theorem setFeed_insts (s : State) (n : Nat) (v : Feed) : (s.setFeed n v).insts = s.insts := rfl
@[simp] theorem setFeed_engines (s : State) (n : Nat) (v : Feed) : (s.setFeed n v).engines = s.engines := rfl
@[simp] theorem setFeed_stages (s : State) (n : Nat) (v : Feed) : (s.setFeed n v).stages = s.stages := rfl
@[simp] theorem setFeed_phases (s : State) (n : Nat) (v : Feed) : (s.setFeed n v).phases = s.phases := rfl
@[simp] theorem setFeed_pgs (s : State) (n : Nat) (v : Feed) : (s.setFeed n v).pgs = s.pgs := rfl
@[simp] theorem setFeed_rcs (s : State) (n : Nat) (v : Feed) : (s.setFeed n v).rcs = s.rcs := rfl
@[simp] theorem setFeed_obs (s : State) (n : Nat) (v : Feed) : (s.setFeed n v).obs = s.obs := rfl
@[simp] theorem setFeed_spm (s : State) (n : Nat) (v : Feed) : (s.setFeed n v).spm = s.spm := rfl
@[simp] theorem setFeed_feeds (s : State) (n : Nat) (v : Feed) : (s.setFeed n v).feeds = put s.feeds n v := rfl
@[simp] theorem setFeed_strs (s : State) (n : Nat) (v : Feed) : (s.setFeed n v).strs = s.strs := rfl
@[simp] theorem setFeed_chargers (s : State) (n : Nat) (v : Feed) : (s.setFeed n v).chargers = s.chargers := rfl
@[simp] theorem setFeed_dead (s : State) (n : Nat) (v : Feed) : (s.setFeed n v).dead = s.dead := rfl
@[simp] theorem setFeed_rails (s : State) (n : Nat) (v : Feed) : (s.setFeed n v).rails = s.rails := rfl
@[simp] theorem setFeed_railGroups (s : State) (n : Nat) (v : Feed) : (s.setFeed n v).railGroups = s.railGroups := rfl
@[simp] theorem setFeed_thermal (s : State) (n : Nat) (v : Feed) : (s.setFeed n v).thermal = s.thermal := rfl
@[simp] theorem setFeed_faults (s : State) (n : Nat) (v : Feed) : (s.setFeed n v).faults = s.faults := rfl
@[simp] theorem setFeed_pair (s : State) (n : Nat) (v : Feed) : (s.setFeed n v).pair = s.pair := rfl
@[simp] theorem setFeed_net (s : State) (n : Nat) (v : Feed) : (s.setFeed n v).net = s.net := rfl
@[simp] theorem setFeed_berths (s : State) (n : Nat) (v : Feed) : (s.setFeed n v).berths = s.berths := rfl
@[simp] theorem setFeed_ports (s : State) (n : Nat) (v : Feed) : (s.setFeed n v).ports = s.ports := rfl
@[simp] theorem setFeed_mem (s : State) (n : Nat) (v : Feed) : (s.setFeed n v).mem = s.mem := rfl
@[simp] theorem setFeed_log (s : State) (n : Nat) (v : Feed) : (s.setFeed n v).log = s.log := rfl
@[simp] theorem setFeed_img (s : State) (n : Nat) (v : Feed) : (s.setFeed n v).img = s.img := rfl
@[simp] theorem setFeed_cfg (s : State) (n : Nat) (v : Feed) : (s.setFeed n v).cfg = s.cfg := rfl
@[simp] theorem setFeed_kept (s : State) (n : Nat) (v : Feed) : (s.setFeed n v).kept = s.kept := rfl
@[simp] theorem setFeed_draws (s : State) (n : Nat) (v : Feed) : (s.setFeed n v).draws = s.draws := rfl

@[simp] theorem setStr_pending (s : State) (n : Nat) (v : Str) : (s.setStr n v).pending = s.pending := rfl
@[simp] theorem setStr_now (s : State) (n : Nat) (v : Str) : (s.setStr n v).now = s.now := rfl
@[simp] theorem setStr_part (s : State) (n : Nat) (v : Str) : (s.setStr n v).part = s.part := rfl
@[simp] theorem setStr_serial (s : State) (n : Nat) (v : Str) : (s.setStr n v).serial = s.serial := rfl
@[simp] theorem setStr_supply (s : State) (n : Nat) (v : Str) : (s.setStr n v).supply = s.supply := rfl
@[simp] theorem setStr_mode (s : State) (n : Nat) (v : Str) : (s.setStr n v).mode = s.mode := rfl
@[simp] theorem setStr_clock (s : State) (n : Nat) (v : Str) : (s.setStr n v).clock = s.clock := rfl
@[simp] theorem setStr_mods (s : State) (n : Nat) (v : Str) : (s.setStr n v).mods = s.mods := rfl
@[simp] theorem setStr_groups (s : State) (n : Nat) (v : Str) : (s.setStr n v).groups = s.groups := rfl
@[simp] theorem setStr_adc (s : State) (n : Nat) (v : Str) : (s.setStr n v).adc = s.adc := rfl
@[simp] theorem setStr_tide (s : State) (n : Nat) (v : Str) : (s.setStr n v).tide = s.tide := rfl
@[simp] theorem setStr_insts (s : State) (n : Nat) (v : Str) : (s.setStr n v).insts = s.insts := rfl
@[simp] theorem setStr_engines (s : State) (n : Nat) (v : Str) : (s.setStr n v).engines = s.engines := rfl
@[simp] theorem setStr_stages (s : State) (n : Nat) (v : Str) : (s.setStr n v).stages = s.stages := rfl
@[simp] theorem setStr_phases (s : State) (n : Nat) (v : Str) : (s.setStr n v).phases = s.phases := rfl
@[simp] theorem setStr_pgs (s : State) (n : Nat) (v : Str) : (s.setStr n v).pgs = s.pgs := rfl
@[simp] theorem setStr_rcs (s : State) (n : Nat) (v : Str) : (s.setStr n v).rcs = s.rcs := rfl
@[simp] theorem setStr_obs (s : State) (n : Nat) (v : Str) : (s.setStr n v).obs = s.obs := rfl
@[simp] theorem setStr_spm (s : State) (n : Nat) (v : Str) : (s.setStr n v).spm = s.spm := rfl
@[simp] theorem setStr_feeds (s : State) (n : Nat) (v : Str) : (s.setStr n v).feeds = s.feeds := rfl
@[simp] theorem setStr_strs (s : State) (n : Nat) (v : Str) : (s.setStr n v).strs = put s.strs n v := rfl
@[simp] theorem setStr_chargers (s : State) (n : Nat) (v : Str) : (s.setStr n v).chargers = s.chargers := rfl
@[simp] theorem setStr_dead (s : State) (n : Nat) (v : Str) : (s.setStr n v).dead = s.dead := rfl
@[simp] theorem setStr_rails (s : State) (n : Nat) (v : Str) : (s.setStr n v).rails = s.rails := rfl
@[simp] theorem setStr_railGroups (s : State) (n : Nat) (v : Str) : (s.setStr n v).railGroups = s.railGroups := rfl
@[simp] theorem setStr_thermal (s : State) (n : Nat) (v : Str) : (s.setStr n v).thermal = s.thermal := rfl
@[simp] theorem setStr_faults (s : State) (n : Nat) (v : Str) : (s.setStr n v).faults = s.faults := rfl
@[simp] theorem setStr_pair (s : State) (n : Nat) (v : Str) : (s.setStr n v).pair = s.pair := rfl
@[simp] theorem setStr_net (s : State) (n : Nat) (v : Str) : (s.setStr n v).net = s.net := rfl
@[simp] theorem setStr_berths (s : State) (n : Nat) (v : Str) : (s.setStr n v).berths = s.berths := rfl
@[simp] theorem setStr_ports (s : State) (n : Nat) (v : Str) : (s.setStr n v).ports = s.ports := rfl
@[simp] theorem setStr_mem (s : State) (n : Nat) (v : Str) : (s.setStr n v).mem = s.mem := rfl
@[simp] theorem setStr_log (s : State) (n : Nat) (v : Str) : (s.setStr n v).log = s.log := rfl
@[simp] theorem setStr_img (s : State) (n : Nat) (v : Str) : (s.setStr n v).img = s.img := rfl
@[simp] theorem setStr_cfg (s : State) (n : Nat) (v : Str) : (s.setStr n v).cfg = s.cfg := rfl
@[simp] theorem setStr_kept (s : State) (n : Nat) (v : Str) : (s.setStr n v).kept = s.kept := rfl
@[simp] theorem setStr_draws (s : State) (n : Nat) (v : Str) : (s.setStr n v).draws = s.draws := rfl

@[simp] theorem setCharger_pending (s : State) (n : Nat) (v : Charger) : (s.setCharger n v).pending = s.pending := rfl
@[simp] theorem setCharger_now (s : State) (n : Nat) (v : Charger) : (s.setCharger n v).now = s.now := rfl
@[simp] theorem setCharger_part (s : State) (n : Nat) (v : Charger) : (s.setCharger n v).part = s.part := rfl
@[simp] theorem setCharger_serial (s : State) (n : Nat) (v : Charger) : (s.setCharger n v).serial = s.serial := rfl
@[simp] theorem setCharger_supply (s : State) (n : Nat) (v : Charger) : (s.setCharger n v).supply = s.supply := rfl
@[simp] theorem setCharger_mode (s : State) (n : Nat) (v : Charger) : (s.setCharger n v).mode = s.mode := rfl
@[simp] theorem setCharger_clock (s : State) (n : Nat) (v : Charger) : (s.setCharger n v).clock = s.clock := rfl
@[simp] theorem setCharger_mods (s : State) (n : Nat) (v : Charger) : (s.setCharger n v).mods = s.mods := rfl
@[simp] theorem setCharger_groups (s : State) (n : Nat) (v : Charger) : (s.setCharger n v).groups = s.groups := rfl
@[simp] theorem setCharger_adc (s : State) (n : Nat) (v : Charger) : (s.setCharger n v).adc = s.adc := rfl
@[simp] theorem setCharger_tide (s : State) (n : Nat) (v : Charger) : (s.setCharger n v).tide = s.tide := rfl
@[simp] theorem setCharger_insts (s : State) (n : Nat) (v : Charger) : (s.setCharger n v).insts = s.insts := rfl
@[simp] theorem setCharger_engines (s : State) (n : Nat) (v : Charger) : (s.setCharger n v).engines = s.engines := rfl
@[simp] theorem setCharger_stages (s : State) (n : Nat) (v : Charger) : (s.setCharger n v).stages = s.stages := rfl
@[simp] theorem setCharger_phases (s : State) (n : Nat) (v : Charger) : (s.setCharger n v).phases = s.phases := rfl
@[simp] theorem setCharger_pgs (s : State) (n : Nat) (v : Charger) : (s.setCharger n v).pgs = s.pgs := rfl
@[simp] theorem setCharger_rcs (s : State) (n : Nat) (v : Charger) : (s.setCharger n v).rcs = s.rcs := rfl
@[simp] theorem setCharger_obs (s : State) (n : Nat) (v : Charger) : (s.setCharger n v).obs = s.obs := rfl
@[simp] theorem setCharger_spm (s : State) (n : Nat) (v : Charger) : (s.setCharger n v).spm = s.spm := rfl
@[simp] theorem setCharger_feeds (s : State) (n : Nat) (v : Charger) : (s.setCharger n v).feeds = s.feeds := rfl
@[simp] theorem setCharger_strs (s : State) (n : Nat) (v : Charger) : (s.setCharger n v).strs = s.strs := rfl
@[simp] theorem setCharger_chargers (s : State) (n : Nat) (v : Charger) : (s.setCharger n v).chargers = put s.chargers n v := rfl
@[simp] theorem setCharger_dead (s : State) (n : Nat) (v : Charger) : (s.setCharger n v).dead = s.dead := rfl
@[simp] theorem setCharger_rails (s : State) (n : Nat) (v : Charger) : (s.setCharger n v).rails = s.rails := rfl
@[simp] theorem setCharger_railGroups (s : State) (n : Nat) (v : Charger) : (s.setCharger n v).railGroups = s.railGroups := rfl
@[simp] theorem setCharger_thermal (s : State) (n : Nat) (v : Charger) : (s.setCharger n v).thermal = s.thermal := rfl
@[simp] theorem setCharger_faults (s : State) (n : Nat) (v : Charger) : (s.setCharger n v).faults = s.faults := rfl
@[simp] theorem setCharger_pair (s : State) (n : Nat) (v : Charger) : (s.setCharger n v).pair = s.pair := rfl
@[simp] theorem setCharger_net (s : State) (n : Nat) (v : Charger) : (s.setCharger n v).net = s.net := rfl
@[simp] theorem setCharger_berths (s : State) (n : Nat) (v : Charger) : (s.setCharger n v).berths = s.berths := rfl
@[simp] theorem setCharger_ports (s : State) (n : Nat) (v : Charger) : (s.setCharger n v).ports = s.ports := rfl
@[simp] theorem setCharger_mem (s : State) (n : Nat) (v : Charger) : (s.setCharger n v).mem = s.mem := rfl
@[simp] theorem setCharger_log (s : State) (n : Nat) (v : Charger) : (s.setCharger n v).log = s.log := rfl
@[simp] theorem setCharger_img (s : State) (n : Nat) (v : Charger) : (s.setCharger n v).img = s.img := rfl
@[simp] theorem setCharger_cfg (s : State) (n : Nat) (v : Charger) : (s.setCharger n v).cfg = s.cfg := rfl
@[simp] theorem setCharger_kept (s : State) (n : Nat) (v : Charger) : (s.setCharger n v).kept = s.kept := rfl
@[simp] theorem setCharger_draws (s : State) (n : Nat) (v : Charger) : (s.setCharger n v).draws = s.draws := rfl

@[simp] theorem setRail_pending (s : State) (n : Nat) (v : Rail) : (s.setRail n v).pending = s.pending := rfl
@[simp] theorem setRail_now (s : State) (n : Nat) (v : Rail) : (s.setRail n v).now = s.now := rfl
@[simp] theorem setRail_part (s : State) (n : Nat) (v : Rail) : (s.setRail n v).part = s.part := rfl
@[simp] theorem setRail_serial (s : State) (n : Nat) (v : Rail) : (s.setRail n v).serial = s.serial := rfl
@[simp] theorem setRail_supply (s : State) (n : Nat) (v : Rail) : (s.setRail n v).supply = s.supply := rfl
@[simp] theorem setRail_mode (s : State) (n : Nat) (v : Rail) : (s.setRail n v).mode = s.mode := rfl
@[simp] theorem setRail_clock (s : State) (n : Nat) (v : Rail) : (s.setRail n v).clock = s.clock := rfl
@[simp] theorem setRail_mods (s : State) (n : Nat) (v : Rail) : (s.setRail n v).mods = s.mods := rfl
@[simp] theorem setRail_groups (s : State) (n : Nat) (v : Rail) : (s.setRail n v).groups = s.groups := rfl
@[simp] theorem setRail_adc (s : State) (n : Nat) (v : Rail) : (s.setRail n v).adc = s.adc := rfl
@[simp] theorem setRail_tide (s : State) (n : Nat) (v : Rail) : (s.setRail n v).tide = s.tide := rfl
@[simp] theorem setRail_insts (s : State) (n : Nat) (v : Rail) : (s.setRail n v).insts = s.insts := rfl
@[simp] theorem setRail_engines (s : State) (n : Nat) (v : Rail) : (s.setRail n v).engines = s.engines := rfl
@[simp] theorem setRail_stages (s : State) (n : Nat) (v : Rail) : (s.setRail n v).stages = s.stages := rfl
@[simp] theorem setRail_phases (s : State) (n : Nat) (v : Rail) : (s.setRail n v).phases = s.phases := rfl
@[simp] theorem setRail_pgs (s : State) (n : Nat) (v : Rail) : (s.setRail n v).pgs = s.pgs := rfl
@[simp] theorem setRail_rcs (s : State) (n : Nat) (v : Rail) : (s.setRail n v).rcs = s.rcs := rfl
@[simp] theorem setRail_obs (s : State) (n : Nat) (v : Rail) : (s.setRail n v).obs = s.obs := rfl
@[simp] theorem setRail_spm (s : State) (n : Nat) (v : Rail) : (s.setRail n v).spm = s.spm := rfl
@[simp] theorem setRail_feeds (s : State) (n : Nat) (v : Rail) : (s.setRail n v).feeds = s.feeds := rfl
@[simp] theorem setRail_strs (s : State) (n : Nat) (v : Rail) : (s.setRail n v).strs = s.strs := rfl
@[simp] theorem setRail_chargers (s : State) (n : Nat) (v : Rail) : (s.setRail n v).chargers = s.chargers := rfl
@[simp] theorem setRail_dead (s : State) (n : Nat) (v : Rail) : (s.setRail n v).dead = s.dead := rfl
@[simp] theorem setRail_rails (s : State) (n : Nat) (v : Rail) : (s.setRail n v).rails = put s.rails n v := rfl
@[simp] theorem setRail_railGroups (s : State) (n : Nat) (v : Rail) : (s.setRail n v).railGroups = s.railGroups := rfl
@[simp] theorem setRail_thermal (s : State) (n : Nat) (v : Rail) : (s.setRail n v).thermal = s.thermal := rfl
@[simp] theorem setRail_faults (s : State) (n : Nat) (v : Rail) : (s.setRail n v).faults = s.faults := rfl
@[simp] theorem setRail_pair (s : State) (n : Nat) (v : Rail) : (s.setRail n v).pair = s.pair := rfl
@[simp] theorem setRail_net (s : State) (n : Nat) (v : Rail) : (s.setRail n v).net = s.net := rfl
@[simp] theorem setRail_berths (s : State) (n : Nat) (v : Rail) : (s.setRail n v).berths = s.berths := rfl
@[simp] theorem setRail_ports (s : State) (n : Nat) (v : Rail) : (s.setRail n v).ports = s.ports := rfl
@[simp] theorem setRail_mem (s : State) (n : Nat) (v : Rail) : (s.setRail n v).mem = s.mem := rfl
@[simp] theorem setRail_log (s : State) (n : Nat) (v : Rail) : (s.setRail n v).log = s.log := rfl
@[simp] theorem setRail_img (s : State) (n : Nat) (v : Rail) : (s.setRail n v).img = s.img := rfl
@[simp] theorem setRail_cfg (s : State) (n : Nat) (v : Rail) : (s.setRail n v).cfg = s.cfg := rfl
@[simp] theorem setRail_kept (s : State) (n : Nat) (v : Rail) : (s.setRail n v).kept = s.kept := rfl
@[simp] theorem setRail_draws (s : State) (n : Nat) (v : Rail) : (s.setRail n v).draws = s.draws := rfl

@[simp] theorem setRailGroup_pending (s : State) (n : Nat) (v : RailGroup) : (s.setRailGroup n v).pending = s.pending := rfl
@[simp] theorem setRailGroup_now (s : State) (n : Nat) (v : RailGroup) : (s.setRailGroup n v).now = s.now := rfl
@[simp] theorem setRailGroup_part (s : State) (n : Nat) (v : RailGroup) : (s.setRailGroup n v).part = s.part := rfl
@[simp] theorem setRailGroup_serial (s : State) (n : Nat) (v : RailGroup) : (s.setRailGroup n v).serial = s.serial := rfl
@[simp] theorem setRailGroup_supply (s : State) (n : Nat) (v : RailGroup) : (s.setRailGroup n v).supply = s.supply := rfl
@[simp] theorem setRailGroup_mode (s : State) (n : Nat) (v : RailGroup) : (s.setRailGroup n v).mode = s.mode := rfl
@[simp] theorem setRailGroup_clock (s : State) (n : Nat) (v : RailGroup) : (s.setRailGroup n v).clock = s.clock := rfl
@[simp] theorem setRailGroup_mods (s : State) (n : Nat) (v : RailGroup) : (s.setRailGroup n v).mods = s.mods := rfl
@[simp] theorem setRailGroup_groups (s : State) (n : Nat) (v : RailGroup) : (s.setRailGroup n v).groups = s.groups := rfl
@[simp] theorem setRailGroup_adc (s : State) (n : Nat) (v : RailGroup) : (s.setRailGroup n v).adc = s.adc := rfl
@[simp] theorem setRailGroup_tide (s : State) (n : Nat) (v : RailGroup) : (s.setRailGroup n v).tide = s.tide := rfl
@[simp] theorem setRailGroup_insts (s : State) (n : Nat) (v : RailGroup) : (s.setRailGroup n v).insts = s.insts := rfl
@[simp] theorem setRailGroup_engines (s : State) (n : Nat) (v : RailGroup) : (s.setRailGroup n v).engines = s.engines := rfl
@[simp] theorem setRailGroup_stages (s : State) (n : Nat) (v : RailGroup) : (s.setRailGroup n v).stages = s.stages := rfl
@[simp] theorem setRailGroup_phases (s : State) (n : Nat) (v : RailGroup) : (s.setRailGroup n v).phases = s.phases := rfl
@[simp] theorem setRailGroup_pgs (s : State) (n : Nat) (v : RailGroup) : (s.setRailGroup n v).pgs = s.pgs := rfl
@[simp] theorem setRailGroup_rcs (s : State) (n : Nat) (v : RailGroup) : (s.setRailGroup n v).rcs = s.rcs := rfl
@[simp] theorem setRailGroup_obs (s : State) (n : Nat) (v : RailGroup) : (s.setRailGroup n v).obs = s.obs := rfl
@[simp] theorem setRailGroup_spm (s : State) (n : Nat) (v : RailGroup) : (s.setRailGroup n v).spm = s.spm := rfl
@[simp] theorem setRailGroup_feeds (s : State) (n : Nat) (v : RailGroup) : (s.setRailGroup n v).feeds = s.feeds := rfl
@[simp] theorem setRailGroup_strs (s : State) (n : Nat) (v : RailGroup) : (s.setRailGroup n v).strs = s.strs := rfl
@[simp] theorem setRailGroup_chargers (s : State) (n : Nat) (v : RailGroup) : (s.setRailGroup n v).chargers = s.chargers := rfl
@[simp] theorem setRailGroup_dead (s : State) (n : Nat) (v : RailGroup) : (s.setRailGroup n v).dead = s.dead := rfl
@[simp] theorem setRailGroup_rails (s : State) (n : Nat) (v : RailGroup) : (s.setRailGroup n v).rails = s.rails := rfl
@[simp] theorem setRailGroup_railGroups (s : State) (n : Nat) (v : RailGroup) : (s.setRailGroup n v).railGroups = put s.railGroups n v := rfl
@[simp] theorem setRailGroup_thermal (s : State) (n : Nat) (v : RailGroup) : (s.setRailGroup n v).thermal = s.thermal := rfl
@[simp] theorem setRailGroup_faults (s : State) (n : Nat) (v : RailGroup) : (s.setRailGroup n v).faults = s.faults := rfl
@[simp] theorem setRailGroup_pair (s : State) (n : Nat) (v : RailGroup) : (s.setRailGroup n v).pair = s.pair := rfl
@[simp] theorem setRailGroup_net (s : State) (n : Nat) (v : RailGroup) : (s.setRailGroup n v).net = s.net := rfl
@[simp] theorem setRailGroup_berths (s : State) (n : Nat) (v : RailGroup) : (s.setRailGroup n v).berths = s.berths := rfl
@[simp] theorem setRailGroup_ports (s : State) (n : Nat) (v : RailGroup) : (s.setRailGroup n v).ports = s.ports := rfl
@[simp] theorem setRailGroup_mem (s : State) (n : Nat) (v : RailGroup) : (s.setRailGroup n v).mem = s.mem := rfl
@[simp] theorem setRailGroup_log (s : State) (n : Nat) (v : RailGroup) : (s.setRailGroup n v).log = s.log := rfl
@[simp] theorem setRailGroup_img (s : State) (n : Nat) (v : RailGroup) : (s.setRailGroup n v).img = s.img := rfl
@[simp] theorem setRailGroup_cfg (s : State) (n : Nat) (v : RailGroup) : (s.setRailGroup n v).cfg = s.cfg := rfl
@[simp] theorem setRailGroup_kept (s : State) (n : Nat) (v : RailGroup) : (s.setRailGroup n v).kept = s.kept := rfl
@[simp] theorem setRailGroup_draws (s : State) (n : Nat) (v : RailGroup) : (s.setRailGroup n v).draws = s.draws := rfl

@[simp] theorem setBerth_pending (s : State) (n : Nat) (v : Berth) : (s.setBerth n v).pending = s.pending := rfl
@[simp] theorem setBerth_now (s : State) (n : Nat) (v : Berth) : (s.setBerth n v).now = s.now := rfl
@[simp] theorem setBerth_part (s : State) (n : Nat) (v : Berth) : (s.setBerth n v).part = s.part := rfl
@[simp] theorem setBerth_serial (s : State) (n : Nat) (v : Berth) : (s.setBerth n v).serial = s.serial := rfl
@[simp] theorem setBerth_supply (s : State) (n : Nat) (v : Berth) : (s.setBerth n v).supply = s.supply := rfl
@[simp] theorem setBerth_mode (s : State) (n : Nat) (v : Berth) : (s.setBerth n v).mode = s.mode := rfl
@[simp] theorem setBerth_clock (s : State) (n : Nat) (v : Berth) : (s.setBerth n v).clock = s.clock := rfl
@[simp] theorem setBerth_mods (s : State) (n : Nat) (v : Berth) : (s.setBerth n v).mods = s.mods := rfl
@[simp] theorem setBerth_groups (s : State) (n : Nat) (v : Berth) : (s.setBerth n v).groups = s.groups := rfl
@[simp] theorem setBerth_adc (s : State) (n : Nat) (v : Berth) : (s.setBerth n v).adc = s.adc := rfl
@[simp] theorem setBerth_tide (s : State) (n : Nat) (v : Berth) : (s.setBerth n v).tide = s.tide := rfl
@[simp] theorem setBerth_insts (s : State) (n : Nat) (v : Berth) : (s.setBerth n v).insts = s.insts := rfl
@[simp] theorem setBerth_engines (s : State) (n : Nat) (v : Berth) : (s.setBerth n v).engines = s.engines := rfl
@[simp] theorem setBerth_stages (s : State) (n : Nat) (v : Berth) : (s.setBerth n v).stages = s.stages := rfl
@[simp] theorem setBerth_phases (s : State) (n : Nat) (v : Berth) : (s.setBerth n v).phases = s.phases := rfl
@[simp] theorem setBerth_pgs (s : State) (n : Nat) (v : Berth) : (s.setBerth n v).pgs = s.pgs := rfl
@[simp] theorem setBerth_rcs (s : State) (n : Nat) (v : Berth) : (s.setBerth n v).rcs = s.rcs := rfl
@[simp] theorem setBerth_obs (s : State) (n : Nat) (v : Berth) : (s.setBerth n v).obs = s.obs := rfl
@[simp] theorem setBerth_spm (s : State) (n : Nat) (v : Berth) : (s.setBerth n v).spm = s.spm := rfl
@[simp] theorem setBerth_feeds (s : State) (n : Nat) (v : Berth) : (s.setBerth n v).feeds = s.feeds := rfl
@[simp] theorem setBerth_strs (s : State) (n : Nat) (v : Berth) : (s.setBerth n v).strs = s.strs := rfl
@[simp] theorem setBerth_chargers (s : State) (n : Nat) (v : Berth) : (s.setBerth n v).chargers = s.chargers := rfl
@[simp] theorem setBerth_dead (s : State) (n : Nat) (v : Berth) : (s.setBerth n v).dead = s.dead := rfl
@[simp] theorem setBerth_rails (s : State) (n : Nat) (v : Berth) : (s.setBerth n v).rails = s.rails := rfl
@[simp] theorem setBerth_railGroups (s : State) (n : Nat) (v : Berth) : (s.setBerth n v).railGroups = s.railGroups := rfl
@[simp] theorem setBerth_thermal (s : State) (n : Nat) (v : Berth) : (s.setBerth n v).thermal = s.thermal := rfl
@[simp] theorem setBerth_faults (s : State) (n : Nat) (v : Berth) : (s.setBerth n v).faults = s.faults := rfl
@[simp] theorem setBerth_pair (s : State) (n : Nat) (v : Berth) : (s.setBerth n v).pair = s.pair := rfl
@[simp] theorem setBerth_net (s : State) (n : Nat) (v : Berth) : (s.setBerth n v).net = s.net := rfl
@[simp] theorem setBerth_berths (s : State) (n : Nat) (v : Berth) : (s.setBerth n v).berths = put s.berths n v := rfl
@[simp] theorem setBerth_ports (s : State) (n : Nat) (v : Berth) : (s.setBerth n v).ports = s.ports := rfl
@[simp] theorem setBerth_mem (s : State) (n : Nat) (v : Berth) : (s.setBerth n v).mem = s.mem := rfl
@[simp] theorem setBerth_log (s : State) (n : Nat) (v : Berth) : (s.setBerth n v).log = s.log := rfl
@[simp] theorem setBerth_img (s : State) (n : Nat) (v : Berth) : (s.setBerth n v).img = s.img := rfl
@[simp] theorem setBerth_cfg (s : State) (n : Nat) (v : Berth) : (s.setBerth n v).cfg = s.cfg := rfl
@[simp] theorem setBerth_kept (s : State) (n : Nat) (v : Berth) : (s.setBerth n v).kept = s.kept := rfl
@[simp] theorem setBerth_draws (s : State) (n : Nat) (v : Berth) : (s.setBerth n v).draws = s.draws := rfl

@[simp] theorem setPort_pending (s : State) (n : Nat) (v : Port) : (s.setPort n v).pending = s.pending := rfl
@[simp] theorem setPort_now (s : State) (n : Nat) (v : Port) : (s.setPort n v).now = s.now := rfl
@[simp] theorem setPort_part (s : State) (n : Nat) (v : Port) : (s.setPort n v).part = s.part := rfl
@[simp] theorem setPort_serial (s : State) (n : Nat) (v : Port) : (s.setPort n v).serial = s.serial := rfl
@[simp] theorem setPort_supply (s : State) (n : Nat) (v : Port) : (s.setPort n v).supply = s.supply := rfl
@[simp] theorem setPort_mode (s : State) (n : Nat) (v : Port) : (s.setPort n v).mode = s.mode := rfl
@[simp] theorem setPort_clock (s : State) (n : Nat) (v : Port) : (s.setPort n v).clock = s.clock := rfl
@[simp] theorem setPort_mods (s : State) (n : Nat) (v : Port) : (s.setPort n v).mods = s.mods := rfl
@[simp] theorem setPort_groups (s : State) (n : Nat) (v : Port) : (s.setPort n v).groups = s.groups := rfl
@[simp] theorem setPort_adc (s : State) (n : Nat) (v : Port) : (s.setPort n v).adc = s.adc := rfl
@[simp] theorem setPort_tide (s : State) (n : Nat) (v : Port) : (s.setPort n v).tide = s.tide := rfl
@[simp] theorem setPort_insts (s : State) (n : Nat) (v : Port) : (s.setPort n v).insts = s.insts := rfl
@[simp] theorem setPort_engines (s : State) (n : Nat) (v : Port) : (s.setPort n v).engines = s.engines := rfl
@[simp] theorem setPort_stages (s : State) (n : Nat) (v : Port) : (s.setPort n v).stages = s.stages := rfl
@[simp] theorem setPort_phases (s : State) (n : Nat) (v : Port) : (s.setPort n v).phases = s.phases := rfl
@[simp] theorem setPort_pgs (s : State) (n : Nat) (v : Port) : (s.setPort n v).pgs = s.pgs := rfl
@[simp] theorem setPort_rcs (s : State) (n : Nat) (v : Port) : (s.setPort n v).rcs = s.rcs := rfl
@[simp] theorem setPort_obs (s : State) (n : Nat) (v : Port) : (s.setPort n v).obs = s.obs := rfl
@[simp] theorem setPort_spm (s : State) (n : Nat) (v : Port) : (s.setPort n v).spm = s.spm := rfl
@[simp] theorem setPort_feeds (s : State) (n : Nat) (v : Port) : (s.setPort n v).feeds = s.feeds := rfl
@[simp] theorem setPort_strs (s : State) (n : Nat) (v : Port) : (s.setPort n v).strs = s.strs := rfl
@[simp] theorem setPort_chargers (s : State) (n : Nat) (v : Port) : (s.setPort n v).chargers = s.chargers := rfl
@[simp] theorem setPort_dead (s : State) (n : Nat) (v : Port) : (s.setPort n v).dead = s.dead := rfl
@[simp] theorem setPort_rails (s : State) (n : Nat) (v : Port) : (s.setPort n v).rails = s.rails := rfl
@[simp] theorem setPort_railGroups (s : State) (n : Nat) (v : Port) : (s.setPort n v).railGroups = s.railGroups := rfl
@[simp] theorem setPort_thermal (s : State) (n : Nat) (v : Port) : (s.setPort n v).thermal = s.thermal := rfl
@[simp] theorem setPort_faults (s : State) (n : Nat) (v : Port) : (s.setPort n v).faults = s.faults := rfl
@[simp] theorem setPort_pair (s : State) (n : Nat) (v : Port) : (s.setPort n v).pair = s.pair := rfl
@[simp] theorem setPort_net (s : State) (n : Nat) (v : Port) : (s.setPort n v).net = s.net := rfl
@[simp] theorem setPort_berths (s : State) (n : Nat) (v : Port) : (s.setPort n v).berths = s.berths := rfl
@[simp] theorem setPort_ports (s : State) (n : Nat) (v : Port) : (s.setPort n v).ports = put s.ports n v := rfl
@[simp] theorem setPort_mem (s : State) (n : Nat) (v : Port) : (s.setPort n v).mem = s.mem := rfl
@[simp] theorem setPort_log (s : State) (n : Nat) (v : Port) : (s.setPort n v).log = s.log := rfl
@[simp] theorem setPort_img (s : State) (n : Nat) (v : Port) : (s.setPort n v).img = s.img := rfl
@[simp] theorem setPort_cfg (s : State) (n : Nat) (v : Port) : (s.setPort n v).cfg = s.cfg := rfl
@[simp] theorem setPort_kept (s : State) (n : Nat) (v : Port) : (s.setPort n v).kept = s.kept := rfl
@[simp] theorem setPort_draws (s : State) (n : Nat) (v : Port) : (s.setPort n v).draws = s.draws := rfl

@[simp] theorem setCan_pending (s : State) (n : Nat) (v : CanPort) : (s.setCan n v).pending = s.pending := rfl
@[simp] theorem setCan_now (s : State) (n : Nat) (v : CanPort) : (s.setCan n v).now = s.now := rfl
@[simp] theorem setCan_part (s : State) (n : Nat) (v : CanPort) : (s.setCan n v).part = s.part := rfl
@[simp] theorem setCan_serial (s : State) (n : Nat) (v : CanPort) : (s.setCan n v).serial = s.serial := rfl
@[simp] theorem setCan_supply (s : State) (n : Nat) (v : CanPort) : (s.setCan n v).supply = s.supply := rfl
@[simp] theorem setCan_mode (s : State) (n : Nat) (v : CanPort) : (s.setCan n v).mode = s.mode := rfl
@[simp] theorem setCan_clock (s : State) (n : Nat) (v : CanPort) : (s.setCan n v).clock = s.clock := rfl
@[simp] theorem setCan_mods (s : State) (n : Nat) (v : CanPort) : (s.setCan n v).mods = s.mods := rfl
@[simp] theorem setCan_groups (s : State) (n : Nat) (v : CanPort) : (s.setCan n v).groups = s.groups := rfl
@[simp] theorem setCan_adc (s : State) (n : Nat) (v : CanPort) : (s.setCan n v).adc = s.adc := rfl
@[simp] theorem setCan_tide (s : State) (n : Nat) (v : CanPort) : (s.setCan n v).tide = s.tide := rfl
@[simp] theorem setCan_insts (s : State) (n : Nat) (v : CanPort) : (s.setCan n v).insts = s.insts := rfl
@[simp] theorem setCan_engines (s : State) (n : Nat) (v : CanPort) : (s.setCan n v).engines = s.engines := rfl
@[simp] theorem setCan_stages (s : State) (n : Nat) (v : CanPort) : (s.setCan n v).stages = s.stages := rfl
@[simp] theorem setCan_phases (s : State) (n : Nat) (v : CanPort) : (s.setCan n v).phases = s.phases := rfl
@[simp] theorem setCan_pgs (s : State) (n : Nat) (v : CanPort) : (s.setCan n v).pgs = s.pgs := rfl
@[simp] theorem setCan_rcs (s : State) (n : Nat) (v : CanPort) : (s.setCan n v).rcs = s.rcs := rfl
@[simp] theorem setCan_obs (s : State) (n : Nat) (v : CanPort) : (s.setCan n v).obs = s.obs := rfl
@[simp] theorem setCan_spm (s : State) (n : Nat) (v : CanPort) : (s.setCan n v).spm = s.spm := rfl
@[simp] theorem setCan_feeds (s : State) (n : Nat) (v : CanPort) : (s.setCan n v).feeds = s.feeds := rfl
@[simp] theorem setCan_strs (s : State) (n : Nat) (v : CanPort) : (s.setCan n v).strs = s.strs := rfl
@[simp] theorem setCan_chargers (s : State) (n : Nat) (v : CanPort) : (s.setCan n v).chargers = s.chargers := rfl
@[simp] theorem setCan_dead (s : State) (n : Nat) (v : CanPort) : (s.setCan n v).dead = s.dead := rfl
@[simp] theorem setCan_rails (s : State) (n : Nat) (v : CanPort) : (s.setCan n v).rails = s.rails := rfl
@[simp] theorem setCan_railGroups (s : State) (n : Nat) (v : CanPort) : (s.setCan n v).railGroups = s.railGroups := rfl
@[simp] theorem setCan_thermal (s : State) (n : Nat) (v : CanPort) : (s.setCan n v).thermal = s.thermal := rfl
@[simp] theorem setCan_faults (s : State) (n : Nat) (v : CanPort) : (s.setCan n v).faults = s.faults := rfl
@[simp] theorem setCan_pair (s : State) (n : Nat) (v : CanPort) : (s.setCan n v).pair = s.pair := rfl
@[simp] theorem setCan_berths (s : State) (n : Nat) (v : CanPort) : (s.setCan n v).berths = s.berths := rfl
@[simp] theorem setCan_ports (s : State) (n : Nat) (v : CanPort) : (s.setCan n v).ports = s.ports := rfl
@[simp] theorem setCan_mem (s : State) (n : Nat) (v : CanPort) : (s.setCan n v).mem = s.mem := rfl
@[simp] theorem setCan_log (s : State) (n : Nat) (v : CanPort) : (s.setCan n v).log = s.log := rfl
@[simp] theorem setCan_img (s : State) (n : Nat) (v : CanPort) : (s.setCan n v).img = s.img := rfl
@[simp] theorem setCan_cfg (s : State) (n : Nat) (v : CanPort) : (s.setCan n v).cfg = s.cfg := rfl
@[simp] theorem setCan_kept (s : State) (n : Nat) (v : CanPort) : (s.setCan n v).kept = s.kept := rfl
@[simp] theorem setCan_draws (s : State) (n : Nat) (v : CanPort) : (s.setCan n v).draws = s.draws := rfl

@[simp] theorem setEth_pending (s : State) (n : Nat) (v : EthPort) : (s.setEth n v).pending = s.pending := rfl
@[simp] theorem setEth_now (s : State) (n : Nat) (v : EthPort) : (s.setEth n v).now = s.now := rfl
@[simp] theorem setEth_part (s : State) (n : Nat) (v : EthPort) : (s.setEth n v).part = s.part := rfl
@[simp] theorem setEth_serial (s : State) (n : Nat) (v : EthPort) : (s.setEth n v).serial = s.serial := rfl
@[simp] theorem setEth_supply (s : State) (n : Nat) (v : EthPort) : (s.setEth n v).supply = s.supply := rfl
@[simp] theorem setEth_mode (s : State) (n : Nat) (v : EthPort) : (s.setEth n v).mode = s.mode := rfl
@[simp] theorem setEth_clock (s : State) (n : Nat) (v : EthPort) : (s.setEth n v).clock = s.clock := rfl
@[simp] theorem setEth_mods (s : State) (n : Nat) (v : EthPort) : (s.setEth n v).mods = s.mods := rfl
@[simp] theorem setEth_groups (s : State) (n : Nat) (v : EthPort) : (s.setEth n v).groups = s.groups := rfl
@[simp] theorem setEth_adc (s : State) (n : Nat) (v : EthPort) : (s.setEth n v).adc = s.adc := rfl
@[simp] theorem setEth_tide (s : State) (n : Nat) (v : EthPort) : (s.setEth n v).tide = s.tide := rfl
@[simp] theorem setEth_insts (s : State) (n : Nat) (v : EthPort) : (s.setEth n v).insts = s.insts := rfl
@[simp] theorem setEth_engines (s : State) (n : Nat) (v : EthPort) : (s.setEth n v).engines = s.engines := rfl
@[simp] theorem setEth_stages (s : State) (n : Nat) (v : EthPort) : (s.setEth n v).stages = s.stages := rfl
@[simp] theorem setEth_phases (s : State) (n : Nat) (v : EthPort) : (s.setEth n v).phases = s.phases := rfl
@[simp] theorem setEth_pgs (s : State) (n : Nat) (v : EthPort) : (s.setEth n v).pgs = s.pgs := rfl
@[simp] theorem setEth_rcs (s : State) (n : Nat) (v : EthPort) : (s.setEth n v).rcs = s.rcs := rfl
@[simp] theorem setEth_obs (s : State) (n : Nat) (v : EthPort) : (s.setEth n v).obs = s.obs := rfl
@[simp] theorem setEth_spm (s : State) (n : Nat) (v : EthPort) : (s.setEth n v).spm = s.spm := rfl
@[simp] theorem setEth_feeds (s : State) (n : Nat) (v : EthPort) : (s.setEth n v).feeds = s.feeds := rfl
@[simp] theorem setEth_strs (s : State) (n : Nat) (v : EthPort) : (s.setEth n v).strs = s.strs := rfl
@[simp] theorem setEth_chargers (s : State) (n : Nat) (v : EthPort) : (s.setEth n v).chargers = s.chargers := rfl
@[simp] theorem setEth_dead (s : State) (n : Nat) (v : EthPort) : (s.setEth n v).dead = s.dead := rfl
@[simp] theorem setEth_rails (s : State) (n : Nat) (v : EthPort) : (s.setEth n v).rails = s.rails := rfl
@[simp] theorem setEth_railGroups (s : State) (n : Nat) (v : EthPort) : (s.setEth n v).railGroups = s.railGroups := rfl
@[simp] theorem setEth_thermal (s : State) (n : Nat) (v : EthPort) : (s.setEth n v).thermal = s.thermal := rfl
@[simp] theorem setEth_faults (s : State) (n : Nat) (v : EthPort) : (s.setEth n v).faults = s.faults := rfl
@[simp] theorem setEth_pair (s : State) (n : Nat) (v : EthPort) : (s.setEth n v).pair = s.pair := rfl
@[simp] theorem setEth_berths (s : State) (n : Nat) (v : EthPort) : (s.setEth n v).berths = s.berths := rfl
@[simp] theorem setEth_ports (s : State) (n : Nat) (v : EthPort) : (s.setEth n v).ports = s.ports := rfl
@[simp] theorem setEth_mem (s : State) (n : Nat) (v : EthPort) : (s.setEth n v).mem = s.mem := rfl
@[simp] theorem setEth_log (s : State) (n : Nat) (v : EthPort) : (s.setEth n v).log = s.log := rfl
@[simp] theorem setEth_img (s : State) (n : Nat) (v : EthPort) : (s.setEth n v).img = s.img := rfl
@[simp] theorem setEth_cfg (s : State) (n : Nat) (v : EthPort) : (s.setEth n v).cfg = s.cfg := rfl
@[simp] theorem setEth_kept (s : State) (n : Nat) (v : EthPort) : (s.setEth n v).kept = s.kept := rfl
@[simp] theorem setEth_draws (s : State) (n : Nat) (v : EthPort) : (s.setEth n v).draws = s.draws := rfl

@[simp] theorem setSensor_pending (s : State) (n : Nat) (v : Sensor) : (s.setSensor n v).pending = s.pending := rfl
@[simp] theorem setSensor_now (s : State) (n : Nat) (v : Sensor) : (s.setSensor n v).now = s.now := rfl
@[simp] theorem setSensor_part (s : State) (n : Nat) (v : Sensor) : (s.setSensor n v).part = s.part := rfl
@[simp] theorem setSensor_serial (s : State) (n : Nat) (v : Sensor) : (s.setSensor n v).serial = s.serial := rfl
@[simp] theorem setSensor_supply (s : State) (n : Nat) (v : Sensor) : (s.setSensor n v).supply = s.supply := rfl
@[simp] theorem setSensor_mode (s : State) (n : Nat) (v : Sensor) : (s.setSensor n v).mode = s.mode := rfl
@[simp] theorem setSensor_clock (s : State) (n : Nat) (v : Sensor) : (s.setSensor n v).clock = s.clock := rfl
@[simp] theorem setSensor_mods (s : State) (n : Nat) (v : Sensor) : (s.setSensor n v).mods = s.mods := rfl
@[simp] theorem setSensor_groups (s : State) (n : Nat) (v : Sensor) : (s.setSensor n v).groups = s.groups := rfl
@[simp] theorem setSensor_adc (s : State) (n : Nat) (v : Sensor) : (s.setSensor n v).adc = s.adc := rfl
@[simp] theorem setSensor_tide (s : State) (n : Nat) (v : Sensor) : (s.setSensor n v).tide = s.tide := rfl
@[simp] theorem setSensor_insts (s : State) (n : Nat) (v : Sensor) : (s.setSensor n v).insts = s.insts := rfl
@[simp] theorem setSensor_engines (s : State) (n : Nat) (v : Sensor) : (s.setSensor n v).engines = s.engines := rfl
@[simp] theorem setSensor_stages (s : State) (n : Nat) (v : Sensor) : (s.setSensor n v).stages = s.stages := rfl
@[simp] theorem setSensor_phases (s : State) (n : Nat) (v : Sensor) : (s.setSensor n v).phases = s.phases := rfl
@[simp] theorem setSensor_pgs (s : State) (n : Nat) (v : Sensor) : (s.setSensor n v).pgs = s.pgs := rfl
@[simp] theorem setSensor_rcs (s : State) (n : Nat) (v : Sensor) : (s.setSensor n v).rcs = s.rcs := rfl
@[simp] theorem setSensor_obs (s : State) (n : Nat) (v : Sensor) : (s.setSensor n v).obs = s.obs := rfl
@[simp] theorem setSensor_spm (s : State) (n : Nat) (v : Sensor) : (s.setSensor n v).spm = s.spm := rfl
@[simp] theorem setSensor_feeds (s : State) (n : Nat) (v : Sensor) : (s.setSensor n v).feeds = s.feeds := rfl
@[simp] theorem setSensor_strs (s : State) (n : Nat) (v : Sensor) : (s.setSensor n v).strs = s.strs := rfl
@[simp] theorem setSensor_chargers (s : State) (n : Nat) (v : Sensor) : (s.setSensor n v).chargers = s.chargers := rfl
@[simp] theorem setSensor_dead (s : State) (n : Nat) (v : Sensor) : (s.setSensor n v).dead = s.dead := rfl
@[simp] theorem setSensor_rails (s : State) (n : Nat) (v : Sensor) : (s.setSensor n v).rails = s.rails := rfl
@[simp] theorem setSensor_railGroups (s : State) (n : Nat) (v : Sensor) : (s.setSensor n v).railGroups = s.railGroups := rfl
@[simp] theorem setSensor_faults (s : State) (n : Nat) (v : Sensor) : (s.setSensor n v).faults = s.faults := rfl
@[simp] theorem setSensor_pair (s : State) (n : Nat) (v : Sensor) : (s.setSensor n v).pair = s.pair := rfl
@[simp] theorem setSensor_net (s : State) (n : Nat) (v : Sensor) : (s.setSensor n v).net = s.net := rfl
@[simp] theorem setSensor_berths (s : State) (n : Nat) (v : Sensor) : (s.setSensor n v).berths = s.berths := rfl
@[simp] theorem setSensor_ports (s : State) (n : Nat) (v : Sensor) : (s.setSensor n v).ports = s.ports := rfl
@[simp] theorem setSensor_mem (s : State) (n : Nat) (v : Sensor) : (s.setSensor n v).mem = s.mem := rfl
@[simp] theorem setSensor_log (s : State) (n : Nat) (v : Sensor) : (s.setSensor n v).log = s.log := rfl
@[simp] theorem setSensor_img (s : State) (n : Nat) (v : Sensor) : (s.setSensor n v).img = s.img := rfl
@[simp] theorem setSensor_cfg (s : State) (n : Nat) (v : Sensor) : (s.setSensor n v).cfg = s.cfg := rfl
@[simp] theorem setSensor_kept (s : State) (n : Nat) (v : Sensor) : (s.setSensor n v).kept = s.kept := rfl
@[simp] theorem setSensor_draws (s : State) (n : Nat) (v : Sensor) : (s.setSensor n v).draws = s.draws := rfl

@[simp] theorem setObj_pending (s : State) (idx sub : Nat) (v : List Byte) : (s.setObj idx sub v).pending = s.pending := rfl
@[simp] theorem setObj_now (s : State) (idx sub : Nat) (v : List Byte) : (s.setObj idx sub v).now = s.now := rfl
@[simp] theorem setObj_part (s : State) (idx sub : Nat) (v : List Byte) : (s.setObj idx sub v).part = s.part := rfl
@[simp] theorem setObj_serial (s : State) (idx sub : Nat) (v : List Byte) : (s.setObj idx sub v).serial = s.serial := rfl
@[simp] theorem setObj_supply (s : State) (idx sub : Nat) (v : List Byte) : (s.setObj idx sub v).supply = s.supply := rfl
@[simp] theorem setObj_mode (s : State) (idx sub : Nat) (v : List Byte) : (s.setObj idx sub v).mode = s.mode := rfl
@[simp] theorem setObj_clock (s : State) (idx sub : Nat) (v : List Byte) : (s.setObj idx sub v).clock = s.clock := rfl
@[simp] theorem setObj_mods (s : State) (idx sub : Nat) (v : List Byte) : (s.setObj idx sub v).mods = s.mods := rfl
@[simp] theorem setObj_groups (s : State) (idx sub : Nat) (v : List Byte) : (s.setObj idx sub v).groups = s.groups := rfl
@[simp] theorem setObj_adc (s : State) (idx sub : Nat) (v : List Byte) : (s.setObj idx sub v).adc = s.adc := rfl
@[simp] theorem setObj_tide (s : State) (idx sub : Nat) (v : List Byte) : (s.setObj idx sub v).tide = s.tide := rfl
@[simp] theorem setObj_insts (s : State) (idx sub : Nat) (v : List Byte) : (s.setObj idx sub v).insts = s.insts := rfl
@[simp] theorem setObj_engines (s : State) (idx sub : Nat) (v : List Byte) : (s.setObj idx sub v).engines = s.engines := rfl
@[simp] theorem setObj_stages (s : State) (idx sub : Nat) (v : List Byte) : (s.setObj idx sub v).stages = s.stages := rfl
@[simp] theorem setObj_phases (s : State) (idx sub : Nat) (v : List Byte) : (s.setObj idx sub v).phases = s.phases := rfl
@[simp] theorem setObj_pgs (s : State) (idx sub : Nat) (v : List Byte) : (s.setObj idx sub v).pgs = s.pgs := rfl
@[simp] theorem setObj_rcs (s : State) (idx sub : Nat) (v : List Byte) : (s.setObj idx sub v).rcs = s.rcs := rfl
@[simp] theorem setObj_obs (s : State) (idx sub : Nat) (v : List Byte) : (s.setObj idx sub v).obs = s.obs := rfl
@[simp] theorem setObj_spm (s : State) (idx sub : Nat) (v : List Byte) : (s.setObj idx sub v).spm = s.spm := rfl
@[simp] theorem setObj_feeds (s : State) (idx sub : Nat) (v : List Byte) : (s.setObj idx sub v).feeds = s.feeds := rfl
@[simp] theorem setObj_strs (s : State) (idx sub : Nat) (v : List Byte) : (s.setObj idx sub v).strs = s.strs := rfl
@[simp] theorem setObj_chargers (s : State) (idx sub : Nat) (v : List Byte) : (s.setObj idx sub v).chargers = s.chargers := rfl
@[simp] theorem setObj_dead (s : State) (idx sub : Nat) (v : List Byte) : (s.setObj idx sub v).dead = s.dead := rfl
@[simp] theorem setObj_rails (s : State) (idx sub : Nat) (v : List Byte) : (s.setObj idx sub v).rails = s.rails := rfl
@[simp] theorem setObj_railGroups (s : State) (idx sub : Nat) (v : List Byte) : (s.setObj idx sub v).railGroups = s.railGroups := rfl
@[simp] theorem setObj_thermal (s : State) (idx sub : Nat) (v : List Byte) : (s.setObj idx sub v).thermal = s.thermal := rfl
@[simp] theorem setObj_faults (s : State) (idx sub : Nat) (v : List Byte) : (s.setObj idx sub v).faults = s.faults := rfl
@[simp] theorem setObj_pair (s : State) (idx sub : Nat) (v : List Byte) : (s.setObj idx sub v).pair = s.pair := rfl
@[simp] theorem setObj_net (s : State) (idx sub : Nat) (v : List Byte) : (s.setObj idx sub v).net = s.net := rfl
@[simp] theorem setObj_berths (s : State) (idx sub : Nat) (v : List Byte) : (s.setObj idx sub v).berths = s.berths := rfl
@[simp] theorem setObj_ports (s : State) (idx sub : Nat) (v : List Byte) : (s.setObj idx sub v).ports = s.ports := rfl
@[simp] theorem setObj_mem (s : State) (idx sub : Nat) (v : List Byte) : (s.setObj idx sub v).mem = s.mem := rfl
@[simp] theorem setObj_log (s : State) (idx sub : Nat) (v : List Byte) : (s.setObj idx sub v).log = s.log := rfl
@[simp] theorem setObj_img (s : State) (idx sub : Nat) (v : List Byte) : (s.setObj idx sub v).img = s.img := rfl
@[simp] theorem setObj_kept (s : State) (idx sub : Nat) (v : List Byte) : (s.setObj idx sub v).kept = s.kept := rfl
@[simp] theorem setObj_draws (s : State) (idx sub : Nat) (v : List Byte) : (s.setObj idx sub v).draws = s.draws := rfl

@[simp] theorem setObjN_pending (s : State) (idx sub n v : Nat) : (s.setObjN idx sub n v).pending = s.pending := rfl
@[simp] theorem setObjN_now (s : State) (idx sub n v : Nat) : (s.setObjN idx sub n v).now = s.now := rfl
@[simp] theorem setObjN_part (s : State) (idx sub n v : Nat) : (s.setObjN idx sub n v).part = s.part := rfl
@[simp] theorem setObjN_serial (s : State) (idx sub n v : Nat) : (s.setObjN idx sub n v).serial = s.serial := rfl
@[simp] theorem setObjN_supply (s : State) (idx sub n v : Nat) : (s.setObjN idx sub n v).supply = s.supply := rfl
@[simp] theorem setObjN_mode (s : State) (idx sub n v : Nat) : (s.setObjN idx sub n v).mode = s.mode := rfl
@[simp] theorem setObjN_clock (s : State) (idx sub n v : Nat) : (s.setObjN idx sub n v).clock = s.clock := rfl
@[simp] theorem setObjN_mods (s : State) (idx sub n v : Nat) : (s.setObjN idx sub n v).mods = s.mods := rfl
@[simp] theorem setObjN_groups (s : State) (idx sub n v : Nat) : (s.setObjN idx sub n v).groups = s.groups := rfl
@[simp] theorem setObjN_adc (s : State) (idx sub n v : Nat) : (s.setObjN idx sub n v).adc = s.adc := rfl
@[simp] theorem setObjN_tide (s : State) (idx sub n v : Nat) : (s.setObjN idx sub n v).tide = s.tide := rfl
@[simp] theorem setObjN_insts (s : State) (idx sub n v : Nat) : (s.setObjN idx sub n v).insts = s.insts := rfl
@[simp] theorem setObjN_engines (s : State) (idx sub n v : Nat) : (s.setObjN idx sub n v).engines = s.engines := rfl
@[simp] theorem setObjN_stages (s : State) (idx sub n v : Nat) : (s.setObjN idx sub n v).stages = s.stages := rfl
@[simp] theorem setObjN_phases (s : State) (idx sub n v : Nat) : (s.setObjN idx sub n v).phases = s.phases := rfl
@[simp] theorem setObjN_pgs (s : State) (idx sub n v : Nat) : (s.setObjN idx sub n v).pgs = s.pgs := rfl
@[simp] theorem setObjN_rcs (s : State) (idx sub n v : Nat) : (s.setObjN idx sub n v).rcs = s.rcs := rfl
@[simp] theorem setObjN_obs (s : State) (idx sub n v : Nat) : (s.setObjN idx sub n v).obs = s.obs := rfl
@[simp] theorem setObjN_spm (s : State) (idx sub n v : Nat) : (s.setObjN idx sub n v).spm = s.spm := rfl
@[simp] theorem setObjN_feeds (s : State) (idx sub n v : Nat) : (s.setObjN idx sub n v).feeds = s.feeds := rfl
@[simp] theorem setObjN_strs (s : State) (idx sub n v : Nat) : (s.setObjN idx sub n v).strs = s.strs := rfl
@[simp] theorem setObjN_chargers (s : State) (idx sub n v : Nat) : (s.setObjN idx sub n v).chargers = s.chargers := rfl
@[simp] theorem setObjN_dead (s : State) (idx sub n v : Nat) : (s.setObjN idx sub n v).dead = s.dead := rfl
@[simp] theorem setObjN_rails (s : State) (idx sub n v : Nat) : (s.setObjN idx sub n v).rails = s.rails := rfl
@[simp] theorem setObjN_railGroups (s : State) (idx sub n v : Nat) : (s.setObjN idx sub n v).railGroups = s.railGroups := rfl
@[simp] theorem setObjN_thermal (s : State) (idx sub n v : Nat) : (s.setObjN idx sub n v).thermal = s.thermal := rfl
@[simp] theorem setObjN_faults (s : State) (idx sub n v : Nat) : (s.setObjN idx sub n v).faults = s.faults := rfl
@[simp] theorem setObjN_pair (s : State) (idx sub n v : Nat) : (s.setObjN idx sub n v).pair = s.pair := rfl
@[simp] theorem setObjN_net (s : State) (idx sub n v : Nat) : (s.setObjN idx sub n v).net = s.net := rfl
@[simp] theorem setObjN_berths (s : State) (idx sub n v : Nat) : (s.setObjN idx sub n v).berths = s.berths := rfl
@[simp] theorem setObjN_ports (s : State) (idx sub n v : Nat) : (s.setObjN idx sub n v).ports = s.ports := rfl
@[simp] theorem setObjN_mem (s : State) (idx sub n v : Nat) : (s.setObjN idx sub n v).mem = s.mem := rfl
@[simp] theorem setObjN_log (s : State) (idx sub n v : Nat) : (s.setObjN idx sub n v).log = s.log := rfl
@[simp] theorem setObjN_img (s : State) (idx sub n v : Nat) : (s.setObjN idx sub n v).img = s.img := rfl
@[simp] theorem setObjN_kept (s : State) (idx sub n v : Nat) : (s.setObjN idx sub n v).kept = s.kept := rfl
@[simp] theorem setObjN_draws (s : State) (idx sub n v : Nat) : (s.setObjN idx sub n v).draws = s.draws := rfl

@[simp] theorem delObj_pending (s : State) (idx sub : Nat) : (s.delObj idx sub).pending = s.pending := rfl
@[simp] theorem delObj_now (s : State) (idx sub : Nat) : (s.delObj idx sub).now = s.now := rfl
@[simp] theorem delObj_part (s : State) (idx sub : Nat) : (s.delObj idx sub).part = s.part := rfl
@[simp] theorem delObj_serial (s : State) (idx sub : Nat) : (s.delObj idx sub).serial = s.serial := rfl
@[simp] theorem delObj_supply (s : State) (idx sub : Nat) : (s.delObj idx sub).supply = s.supply := rfl
@[simp] theorem delObj_mode (s : State) (idx sub : Nat) : (s.delObj idx sub).mode = s.mode := rfl
@[simp] theorem delObj_clock (s : State) (idx sub : Nat) : (s.delObj idx sub).clock = s.clock := rfl
@[simp] theorem delObj_mods (s : State) (idx sub : Nat) : (s.delObj idx sub).mods = s.mods := rfl
@[simp] theorem delObj_groups (s : State) (idx sub : Nat) : (s.delObj idx sub).groups = s.groups := rfl
@[simp] theorem delObj_adc (s : State) (idx sub : Nat) : (s.delObj idx sub).adc = s.adc := rfl
@[simp] theorem delObj_tide (s : State) (idx sub : Nat) : (s.delObj idx sub).tide = s.tide := rfl
@[simp] theorem delObj_insts (s : State) (idx sub : Nat) : (s.delObj idx sub).insts = s.insts := rfl
@[simp] theorem delObj_engines (s : State) (idx sub : Nat) : (s.delObj idx sub).engines = s.engines := rfl
@[simp] theorem delObj_stages (s : State) (idx sub : Nat) : (s.delObj idx sub).stages = s.stages := rfl
@[simp] theorem delObj_phases (s : State) (idx sub : Nat) : (s.delObj idx sub).phases = s.phases := rfl
@[simp] theorem delObj_pgs (s : State) (idx sub : Nat) : (s.delObj idx sub).pgs = s.pgs := rfl
@[simp] theorem delObj_rcs (s : State) (idx sub : Nat) : (s.delObj idx sub).rcs = s.rcs := rfl
@[simp] theorem delObj_obs (s : State) (idx sub : Nat) : (s.delObj idx sub).obs = s.obs := rfl
@[simp] theorem delObj_spm (s : State) (idx sub : Nat) : (s.delObj idx sub).spm = s.spm := rfl
@[simp] theorem delObj_feeds (s : State) (idx sub : Nat) : (s.delObj idx sub).feeds = s.feeds := rfl
@[simp] theorem delObj_strs (s : State) (idx sub : Nat) : (s.delObj idx sub).strs = s.strs := rfl
@[simp] theorem delObj_chargers (s : State) (idx sub : Nat) : (s.delObj idx sub).chargers = s.chargers := rfl
@[simp] theorem delObj_dead (s : State) (idx sub : Nat) : (s.delObj idx sub).dead = s.dead := rfl
@[simp] theorem delObj_rails (s : State) (idx sub : Nat) : (s.delObj idx sub).rails = s.rails := rfl
@[simp] theorem delObj_railGroups (s : State) (idx sub : Nat) : (s.delObj idx sub).railGroups = s.railGroups := rfl
@[simp] theorem delObj_thermal (s : State) (idx sub : Nat) : (s.delObj idx sub).thermal = s.thermal := rfl
@[simp] theorem delObj_faults (s : State) (idx sub : Nat) : (s.delObj idx sub).faults = s.faults := rfl
@[simp] theorem delObj_pair (s : State) (idx sub : Nat) : (s.delObj idx sub).pair = s.pair := rfl
@[simp] theorem delObj_net (s : State) (idx sub : Nat) : (s.delObj idx sub).net = s.net := rfl
@[simp] theorem delObj_berths (s : State) (idx sub : Nat) : (s.delObj idx sub).berths = s.berths := rfl
@[simp] theorem delObj_ports (s : State) (idx sub : Nat) : (s.delObj idx sub).ports = s.ports := rfl
@[simp] theorem delObj_mem (s : State) (idx sub : Nat) : (s.delObj idx sub).mem = s.mem := rfl
@[simp] theorem delObj_log (s : State) (idx sub : Nat) : (s.delObj idx sub).log = s.log := rfl
@[simp] theorem delObj_img (s : State) (idx sub : Nat) : (s.delObj idx sub).img = s.img := rfl
@[simp] theorem delObj_kept (s : State) (idx sub : Nat) : (s.delObj idx sub).kept = s.kept := rfl
@[simp] theorem delObj_draws (s : State) (idx sub : Nat) : (s.delObj idx sub).draws = s.draws := rfl

@[simp] theorem record_pending (s : State) (a b c d : Nat) (p : List Byte) : (s.record a b c d p).pending = s.pending := rfl
@[simp] theorem record_now (s : State) (a b c d : Nat) (p : List Byte) : (s.record a b c d p).now = s.now := rfl
@[simp] theorem record_part (s : State) (a b c d : Nat) (p : List Byte) : (s.record a b c d p).part = s.part := rfl
@[simp] theorem record_serial (s : State) (a b c d : Nat) (p : List Byte) : (s.record a b c d p).serial = s.serial := rfl
@[simp] theorem record_supply (s : State) (a b c d : Nat) (p : List Byte) : (s.record a b c d p).supply = s.supply := rfl
@[simp] theorem record_mode (s : State) (a b c d : Nat) (p : List Byte) : (s.record a b c d p).mode = s.mode := rfl
@[simp] theorem record_clock (s : State) (a b c d : Nat) (p : List Byte) : (s.record a b c d p).clock = s.clock := rfl
@[simp] theorem record_mods (s : State) (a b c d : Nat) (p : List Byte) : (s.record a b c d p).mods = s.mods := rfl
@[simp] theorem record_groups (s : State) (a b c d : Nat) (p : List Byte) : (s.record a b c d p).groups = s.groups := rfl
@[simp] theorem record_adc (s : State) (a b c d : Nat) (p : List Byte) : (s.record a b c d p).adc = s.adc := rfl
@[simp] theorem record_tide (s : State) (a b c d : Nat) (p : List Byte) : (s.record a b c d p).tide = s.tide := rfl
@[simp] theorem record_insts (s : State) (a b c d : Nat) (p : List Byte) : (s.record a b c d p).insts = s.insts := rfl
@[simp] theorem record_engines (s : State) (a b c d : Nat) (p : List Byte) : (s.record a b c d p).engines = s.engines := rfl
@[simp] theorem record_stages (s : State) (a b c d : Nat) (p : List Byte) : (s.record a b c d p).stages = s.stages := rfl
@[simp] theorem record_phases (s : State) (a b c d : Nat) (p : List Byte) : (s.record a b c d p).phases = s.phases := rfl
@[simp] theorem record_pgs (s : State) (a b c d : Nat) (p : List Byte) : (s.record a b c d p).pgs = s.pgs := rfl
@[simp] theorem record_rcs (s : State) (a b c d : Nat) (p : List Byte) : (s.record a b c d p).rcs = s.rcs := rfl
@[simp] theorem record_obs (s : State) (a b c d : Nat) (p : List Byte) : (s.record a b c d p).obs = s.obs := rfl
@[simp] theorem record_spm (s : State) (a b c d : Nat) (p : List Byte) : (s.record a b c d p).spm = s.spm := rfl
@[simp] theorem record_feeds (s : State) (a b c d : Nat) (p : List Byte) : (s.record a b c d p).feeds = s.feeds := rfl
@[simp] theorem record_strs (s : State) (a b c d : Nat) (p : List Byte) : (s.record a b c d p).strs = s.strs := rfl
@[simp] theorem record_chargers (s : State) (a b c d : Nat) (p : List Byte) : (s.record a b c d p).chargers = s.chargers := rfl
@[simp] theorem record_dead (s : State) (a b c d : Nat) (p : List Byte) : (s.record a b c d p).dead = s.dead := rfl
@[simp] theorem record_rails (s : State) (a b c d : Nat) (p : List Byte) : (s.record a b c d p).rails = s.rails := rfl
@[simp] theorem record_railGroups (s : State) (a b c d : Nat) (p : List Byte) : (s.record a b c d p).railGroups = s.railGroups := rfl
@[simp] theorem record_thermal (s : State) (a b c d : Nat) (p : List Byte) : (s.record a b c d p).thermal = s.thermal := rfl
@[simp] theorem record_faults (s : State) (a b c d : Nat) (p : List Byte) : (s.record a b c d p).faults = s.faults := rfl
@[simp] theorem record_pair (s : State) (a b c d : Nat) (p : List Byte) : (s.record a b c d p).pair = s.pair := rfl
@[simp] theorem record_net (s : State) (a b c d : Nat) (p : List Byte) : (s.record a b c d p).net = s.net := rfl
@[simp] theorem record_berths (s : State) (a b c d : Nat) (p : List Byte) : (s.record a b c d p).berths = s.berths := rfl
@[simp] theorem record_ports (s : State) (a b c d : Nat) (p : List Byte) : (s.record a b c d p).ports = s.ports := rfl
@[simp] theorem record_mem (s : State) (a b c d : Nat) (p : List Byte) : (s.record a b c d p).mem = s.mem := rfl
@[simp] theorem record_img (s : State) (a b c d : Nat) (p : List Byte) : (s.record a b c d p).img = s.img := rfl
@[simp] theorem record_cfg (s : State) (a b c d : Nat) (p : List Byte) : (s.record a b c d p).cfg = s.cfg := rfl
@[simp] theorem record_kept (s : State) (a b c d : Nat) (p : List Byte) : (s.record a b c d p).kept = s.kept := rfl
@[simp] theorem record_draws (s : State) (a b c d : Nat) (p : List Byte) : (s.record a b c d p).draws = s.draws := rfl

@[simp] theorem note_pending (s : State) (a : Nat) (p : List Byte) : (s.note a p).pending = s.pending := rfl
@[simp] theorem note_now (s : State) (a : Nat) (p : List Byte) : (s.note a p).now = s.now := rfl
@[simp] theorem note_part (s : State) (a : Nat) (p : List Byte) : (s.note a p).part = s.part := rfl
@[simp] theorem note_serial (s : State) (a : Nat) (p : List Byte) : (s.note a p).serial = s.serial := rfl
@[simp] theorem note_supply (s : State) (a : Nat) (p : List Byte) : (s.note a p).supply = s.supply := rfl
@[simp] theorem note_mode (s : State) (a : Nat) (p : List Byte) : (s.note a p).mode = s.mode := rfl
@[simp] theorem note_clock (s : State) (a : Nat) (p : List Byte) : (s.note a p).clock = s.clock := rfl
@[simp] theorem note_mods (s : State) (a : Nat) (p : List Byte) : (s.note a p).mods = s.mods := rfl
@[simp] theorem note_groups (s : State) (a : Nat) (p : List Byte) : (s.note a p).groups = s.groups := rfl
@[simp] theorem note_adc (s : State) (a : Nat) (p : List Byte) : (s.note a p).adc = s.adc := rfl
@[simp] theorem note_tide (s : State) (a : Nat) (p : List Byte) : (s.note a p).tide = s.tide := rfl
@[simp] theorem note_insts (s : State) (a : Nat) (p : List Byte) : (s.note a p).insts = s.insts := rfl
@[simp] theorem note_engines (s : State) (a : Nat) (p : List Byte) : (s.note a p).engines = s.engines := rfl
@[simp] theorem note_stages (s : State) (a : Nat) (p : List Byte) : (s.note a p).stages = s.stages := rfl
@[simp] theorem note_phases (s : State) (a : Nat) (p : List Byte) : (s.note a p).phases = s.phases := rfl
@[simp] theorem note_pgs (s : State) (a : Nat) (p : List Byte) : (s.note a p).pgs = s.pgs := rfl
@[simp] theorem note_rcs (s : State) (a : Nat) (p : List Byte) : (s.note a p).rcs = s.rcs := rfl
@[simp] theorem note_obs (s : State) (a : Nat) (p : List Byte) : (s.note a p).obs = s.obs := rfl
@[simp] theorem note_spm (s : State) (a : Nat) (p : List Byte) : (s.note a p).spm = s.spm := rfl
@[simp] theorem note_feeds (s : State) (a : Nat) (p : List Byte) : (s.note a p).feeds = s.feeds := rfl
@[simp] theorem note_strs (s : State) (a : Nat) (p : List Byte) : (s.note a p).strs = s.strs := rfl
@[simp] theorem note_chargers (s : State) (a : Nat) (p : List Byte) : (s.note a p).chargers = s.chargers := rfl
@[simp] theorem note_dead (s : State) (a : Nat) (p : List Byte) : (s.note a p).dead = s.dead := rfl
@[simp] theorem note_rails (s : State) (a : Nat) (p : List Byte) : (s.note a p).rails = s.rails := rfl
@[simp] theorem note_railGroups (s : State) (a : Nat) (p : List Byte) : (s.note a p).railGroups = s.railGroups := rfl
@[simp] theorem note_thermal (s : State) (a : Nat) (p : List Byte) : (s.note a p).thermal = s.thermal := rfl
@[simp] theorem note_faults (s : State) (a : Nat) (p : List Byte) : (s.note a p).faults = s.faults := rfl
@[simp] theorem note_pair (s : State) (a : Nat) (p : List Byte) : (s.note a p).pair = s.pair := rfl
@[simp] theorem note_net (s : State) (a : Nat) (p : List Byte) : (s.note a p).net = s.net := rfl
@[simp] theorem note_berths (s : State) (a : Nat) (p : List Byte) : (s.note a p).berths = s.berths := rfl
@[simp] theorem note_ports (s : State) (a : Nat) (p : List Byte) : (s.note a p).ports = s.ports := rfl
@[simp] theorem note_mem (s : State) (a : Nat) (p : List Byte) : (s.note a p).mem = s.mem := rfl
@[simp] theorem note_img (s : State) (a : Nat) (p : List Byte) : (s.note a p).img = s.img := rfl
@[simp] theorem note_cfg (s : State) (a : Nat) (p : List Byte) : (s.note a p).cfg = s.cfg := rfl
@[simp] theorem note_kept (s : State) (a : Nat) (p : List Byte) : (s.note a p).kept = s.kept := rfl
@[simp] theorem note_draws (s : State) (a : Nat) (p : List Byte) : (s.note a p).draws = s.draws := rfl

@[simp] theorem reply_pending (s : State) (c : Chan) (n : Nat) (d : List Byte) : (s.reply c n d).pending = s.pending := rfl
@[simp] theorem reply_now (s : State) (c : Chan) (n : Nat) (d : List Byte) : (s.reply c n d).now = s.now := rfl
@[simp] theorem reply_part (s : State) (c : Chan) (n : Nat) (d : List Byte) : (s.reply c n d).part = s.part := rfl
@[simp] theorem reply_serial (s : State) (c : Chan) (n : Nat) (d : List Byte) : (s.reply c n d).serial = s.serial := rfl
@[simp] theorem reply_supply (s : State) (c : Chan) (n : Nat) (d : List Byte) : (s.reply c n d).supply = s.supply := rfl
@[simp] theorem reply_mode (s : State) (c : Chan) (n : Nat) (d : List Byte) : (s.reply c n d).mode = s.mode := rfl
@[simp] theorem reply_clock (s : State) (c : Chan) (n : Nat) (d : List Byte) : (s.reply c n d).clock = s.clock := rfl
@[simp] theorem reply_mods (s : State) (c : Chan) (n : Nat) (d : List Byte) : (s.reply c n d).mods = s.mods := rfl
@[simp] theorem reply_groups (s : State) (c : Chan) (n : Nat) (d : List Byte) : (s.reply c n d).groups = s.groups := rfl
@[simp] theorem reply_adc (s : State) (c : Chan) (n : Nat) (d : List Byte) : (s.reply c n d).adc = s.adc := rfl
@[simp] theorem reply_tide (s : State) (c : Chan) (n : Nat) (d : List Byte) : (s.reply c n d).tide = s.tide := rfl
@[simp] theorem reply_insts (s : State) (c : Chan) (n : Nat) (d : List Byte) : (s.reply c n d).insts = s.insts := rfl
@[simp] theorem reply_engines (s : State) (c : Chan) (n : Nat) (d : List Byte) : (s.reply c n d).engines = s.engines := rfl
@[simp] theorem reply_stages (s : State) (c : Chan) (n : Nat) (d : List Byte) : (s.reply c n d).stages = s.stages := rfl
@[simp] theorem reply_phases (s : State) (c : Chan) (n : Nat) (d : List Byte) : (s.reply c n d).phases = s.phases := rfl
@[simp] theorem reply_pgs (s : State) (c : Chan) (n : Nat) (d : List Byte) : (s.reply c n d).pgs = s.pgs := rfl
@[simp] theorem reply_rcs (s : State) (c : Chan) (n : Nat) (d : List Byte) : (s.reply c n d).rcs = s.rcs := rfl
@[simp] theorem reply_obs (s : State) (c : Chan) (n : Nat) (d : List Byte) : (s.reply c n d).obs = s.obs := rfl
@[simp] theorem reply_spm (s : State) (c : Chan) (n : Nat) (d : List Byte) : (s.reply c n d).spm = s.spm := rfl
@[simp] theorem reply_feeds (s : State) (c : Chan) (n : Nat) (d : List Byte) : (s.reply c n d).feeds = s.feeds := rfl
@[simp] theorem reply_strs (s : State) (c : Chan) (n : Nat) (d : List Byte) : (s.reply c n d).strs = s.strs := rfl
@[simp] theorem reply_chargers (s : State) (c : Chan) (n : Nat) (d : List Byte) : (s.reply c n d).chargers = s.chargers := rfl
@[simp] theorem reply_dead (s : State) (c : Chan) (n : Nat) (d : List Byte) : (s.reply c n d).dead = s.dead := rfl
@[simp] theorem reply_rails (s : State) (c : Chan) (n : Nat) (d : List Byte) : (s.reply c n d).rails = s.rails := rfl
@[simp] theorem reply_railGroups (s : State) (c : Chan) (n : Nat) (d : List Byte) : (s.reply c n d).railGroups = s.railGroups := rfl
@[simp] theorem reply_thermal (s : State) (c : Chan) (n : Nat) (d : List Byte) : (s.reply c n d).thermal = s.thermal := rfl
@[simp] theorem reply_faults (s : State) (c : Chan) (n : Nat) (d : List Byte) : (s.reply c n d).faults = s.faults := rfl
@[simp] theorem reply_pair (s : State) (c : Chan) (n : Nat) (d : List Byte) : (s.reply c n d).pair = s.pair := rfl
@[simp] theorem reply_berths (s : State) (c : Chan) (n : Nat) (d : List Byte) : (s.reply c n d).berths = s.berths := rfl
@[simp] theorem reply_ports (s : State) (c : Chan) (n : Nat) (d : List Byte) : (s.reply c n d).ports = s.ports := rfl
@[simp] theorem reply_mem (s : State) (c : Chan) (n : Nat) (d : List Byte) : (s.reply c n d).mem = s.mem := rfl
@[simp] theorem reply_log (s : State) (c : Chan) (n : Nat) (d : List Byte) : (s.reply c n d).log = s.log := rfl
@[simp] theorem reply_img (s : State) (c : Chan) (n : Nat) (d : List Byte) : (s.reply c n d).img = s.img := rfl
@[simp] theorem reply_cfg (s : State) (c : Chan) (n : Nat) (d : List Byte) : (s.reply c n d).cfg = s.cfg := rfl
@[simp] theorem reply_kept (s : State) (c : Chan) (n : Nat) (d : List Byte) : (s.reply c n d).kept = s.kept := rfl
@[simp] theorem reply_draws (s : State) (c : Chan) (n : Nat) (d : List Byte) : (s.reply c n d).draws = s.draws := rfl

@[simp] theorem answerWrite_pending (s : State) (c : Chan) (n : Nat) : (s.answerWrite c n).pending = s.pending := rfl
@[simp] theorem answerWrite_now (s : State) (c : Chan) (n : Nat) : (s.answerWrite c n).now = s.now := rfl
@[simp] theorem answerWrite_part (s : State) (c : Chan) (n : Nat) : (s.answerWrite c n).part = s.part := rfl
@[simp] theorem answerWrite_serial (s : State) (c : Chan) (n : Nat) : (s.answerWrite c n).serial = s.serial := rfl
@[simp] theorem answerWrite_supply (s : State) (c : Chan) (n : Nat) : (s.answerWrite c n).supply = s.supply := rfl
@[simp] theorem answerWrite_mode (s : State) (c : Chan) (n : Nat) : (s.answerWrite c n).mode = s.mode := rfl
@[simp] theorem answerWrite_clock (s : State) (c : Chan) (n : Nat) : (s.answerWrite c n).clock = s.clock := rfl
@[simp] theorem answerWrite_mods (s : State) (c : Chan) (n : Nat) : (s.answerWrite c n).mods = s.mods := rfl
@[simp] theorem answerWrite_groups (s : State) (c : Chan) (n : Nat) : (s.answerWrite c n).groups = s.groups := rfl
@[simp] theorem answerWrite_adc (s : State) (c : Chan) (n : Nat) : (s.answerWrite c n).adc = s.adc := rfl
@[simp] theorem answerWrite_tide (s : State) (c : Chan) (n : Nat) : (s.answerWrite c n).tide = s.tide := rfl
@[simp] theorem answerWrite_insts (s : State) (c : Chan) (n : Nat) : (s.answerWrite c n).insts = s.insts := rfl
@[simp] theorem answerWrite_engines (s : State) (c : Chan) (n : Nat) : (s.answerWrite c n).engines = s.engines := rfl
@[simp] theorem answerWrite_stages (s : State) (c : Chan) (n : Nat) : (s.answerWrite c n).stages = s.stages := rfl
@[simp] theorem answerWrite_phases (s : State) (c : Chan) (n : Nat) : (s.answerWrite c n).phases = s.phases := rfl
@[simp] theorem answerWrite_pgs (s : State) (c : Chan) (n : Nat) : (s.answerWrite c n).pgs = s.pgs := rfl
@[simp] theorem answerWrite_rcs (s : State) (c : Chan) (n : Nat) : (s.answerWrite c n).rcs = s.rcs := rfl
@[simp] theorem answerWrite_obs (s : State) (c : Chan) (n : Nat) : (s.answerWrite c n).obs = s.obs := rfl
@[simp] theorem answerWrite_spm (s : State) (c : Chan) (n : Nat) : (s.answerWrite c n).spm = s.spm := rfl
@[simp] theorem answerWrite_feeds (s : State) (c : Chan) (n : Nat) : (s.answerWrite c n).feeds = s.feeds := rfl
@[simp] theorem answerWrite_strs (s : State) (c : Chan) (n : Nat) : (s.answerWrite c n).strs = s.strs := rfl
@[simp] theorem answerWrite_chargers (s : State) (c : Chan) (n : Nat) : (s.answerWrite c n).chargers = s.chargers := rfl
@[simp] theorem answerWrite_dead (s : State) (c : Chan) (n : Nat) : (s.answerWrite c n).dead = s.dead := rfl
@[simp] theorem answerWrite_rails (s : State) (c : Chan) (n : Nat) : (s.answerWrite c n).rails = s.rails := rfl
@[simp] theorem answerWrite_railGroups (s : State) (c : Chan) (n : Nat) : (s.answerWrite c n).railGroups = s.railGroups := rfl
@[simp] theorem answerWrite_thermal (s : State) (c : Chan) (n : Nat) : (s.answerWrite c n).thermal = s.thermal := rfl
@[simp] theorem answerWrite_faults (s : State) (c : Chan) (n : Nat) : (s.answerWrite c n).faults = s.faults := rfl
@[simp] theorem answerWrite_pair (s : State) (c : Chan) (n : Nat) : (s.answerWrite c n).pair = s.pair := rfl
@[simp] theorem answerWrite_berths (s : State) (c : Chan) (n : Nat) : (s.answerWrite c n).berths = s.berths := rfl
@[simp] theorem answerWrite_ports (s : State) (c : Chan) (n : Nat) : (s.answerWrite c n).ports = s.ports := rfl
@[simp] theorem answerWrite_mem (s : State) (c : Chan) (n : Nat) : (s.answerWrite c n).mem = s.mem := rfl
@[simp] theorem answerWrite_log (s : State) (c : Chan) (n : Nat) : (s.answerWrite c n).log = s.log := rfl
@[simp] theorem answerWrite_img (s : State) (c : Chan) (n : Nat) : (s.answerWrite c n).img = s.img := rfl
@[simp] theorem answerWrite_cfg (s : State) (c : Chan) (n : Nat) : (s.answerWrite c n).cfg = s.cfg := rfl
@[simp] theorem answerWrite_kept (s : State) (c : Chan) (n : Nat) : (s.answerWrite c n).kept = s.kept := rfl
@[simp] theorem answerWrite_draws (s : State) (c : Chan) (n : Nat) : (s.answerWrite c n).draws = s.draws := rfl

end Sys2Proof.Machine
end

