-- ==== Sys2Proof/Laws/Access.lean ====
section
/-! SUPPORT. What a write of the dictionary does: an accepted one confirms and puts its action in force; the parts that touching a session,
mirroring and answering leave alone. -/
namespace Sys2Proof.Machine

theorem touch_keeps {α : Type} (f : State → α) (hn : ∀ (t : State) v, f { t with net := v } = f t)
    (hm : ∀ (t : State) v, f { t with mode := { t.mode with canAwakeSince := v } } = f t) (s : State) (ch : Chan) : f (s.touch ch) = f s := by
  have h1 : ∀ (t : State) x, f (t.setSession ch x) = f t := by
    intro t x; unfold State.setSession; split
    · exact hn t _
    · exact hn t _
    · rfl
  unfold State.touch
  simp only []
  have h2 : f (match s.session ch with | some x => s.setSession ch { x with lastReq := s.now } | none => s) = f s := by
    split
    · exact h1 _ _
    · rfl
  have h3 : ∀ (u : State) (b : Bool), f u = f s →
      f (if b = true then u.canHeard else u) = f s := by
    intro u b hu; split
    · unfold State.canHeard; split
      · exact (hm u _).trans hu
      · exact hu
    · exact hu
  exact h3 _ _ h2

theorem sendFrame_keeps {α : Type} (f : State → α) (hp : ∀ (t : State) v u, f { t with pair := { t.pair with txSeq := v, unacked := u } } = f t) (s : State) (c : Nat) (b : KopolBody) :
    f (s.sendFrame c b) = f s := by
  unfold State.sendFrame
  split
  · exact hp s _ _
  · rfl

/-- A mirrored write is a frame of class 4, a share trim's for the next period. -/
@[simp] theorem mirrored_eq (s : State) (idx sub : Nat) (data : List Byte) :
    s.mirrored idx sub data = s.sendFrame 4 (.mirror (s.pair.periodIndex + b2n (idx == 0x4504)) (objKey idx sub) data) := by
  unfold State.mirrored; rfl

/-- A write that the dictionary lets pass and the object's chapter does not refuse puts its action in force and is confirmed (R384). -/
theorem guardedWrite_writable (s : State) (ch : Chan) (idx sub : Nat) (data : List Byte) (t : State) (h : Safety.writable s ch idx sub data = true) :
    s.guardedWrite ch idx sub data 0 t = ((if isCommon (s.target idx) sub then t.mirrored (s.target idx) sub data else t).touch ch).answerWrite ch stOk := by
  simp only [Safety.writable, Bool.and_eq_true, Bool.or_eq_true, Bool.not_eq_true', beq_iff_eq] at h
  obtain ⟨⟨h1, h2⟩, h3⟩ := h
  unfold State.guardedWrite
  simp only [h1, h2]
  cases hc : isCommon (s.target idx) sub <;> simp_all

theorem answerWrite_confirms (s : State) (ch : Chan) : Safety.confirms (s.answerWrite ch stOk) ch := by
  unfold Safety.confirms State.answerWrite State.reply
  refine ⟨rfl, ?_⟩
  cases ch <;> simp [stOk, stAlready]

/-- An accepted write is confirmed, and every part that touching, mirroring and answering leave alone is that of its action. -/
theorem guardedWrite_confirms (s : State) (ch : Chan) (idx sub : Nat) (data : List Byte) (t : State) (h : Safety.writable s ch idx sub data = true) :
    Safety.confirms (s.guardedWrite ch idx sub data 0 t) ch := by
  rw [guardedWrite_writable _ _ _ _ _ _ h]; exact answerWrite_confirms _ _

theorem guardedWrite_takes {α : Type} (f : State → α) (hn : ∀ (t : State) v, f { t with net := v } = f t)
    (hm : ∀ (t : State) v, f { t with mode := { t.mode with canAwakeSince := v } } = f t)
    (hp : ∀ (t : State) v u, f { t with pair := { t.pair with txSeq := v, unacked := u } } = f t)
    (s : State) (ch : Chan) (idx sub : Nat) (data : List Byte) (t : State) (h : Safety.writable s ch idx sub data = true) :
    f (s.guardedWrite ch idx sub data 0 t) = f t := by
  rw [guardedWrite_writable _ _ _ _ _ _ h]
  refine (hn _ _).trans ((touch_keeps f hn hm _ _).trans ?_)
  split
  · exact sendFrame_keeps f hp _ _ _
  · rfl

@[simp] theorem touch_pending (s : State) (ch : Chan) : (s.touch ch).pending = s.pending := touch_keeps (·.pending) (fun _ _ => rfl) (fun _ _ => rfl) s ch
@[simp] theorem touch_now (s : State) (ch : Chan) : (s.touch ch).now = s.now := touch_keeps (·.now) (fun _ _ => rfl) (fun _ _ => rfl) s ch
@[simp] theorem touch_part (s : State) (ch : Chan) : (s.touch ch).part = s.part := touch_keeps (·.part) (fun _ _ => rfl) (fun _ _ => rfl) s ch
@[simp] theorem touch_serial (s : State) (ch : Chan) : (s.touch ch).serial = s.serial := touch_keeps (·.serial) (fun _ _ => rfl) (fun _ _ => rfl) s ch
@[simp] theorem touch_supply (s : State) (ch : Chan) : (s.touch ch).supply = s.supply := touch_keeps (·.supply) (fun _ _ => rfl) (fun _ _ => rfl) s ch
@[simp] theorem touch_clock (s : State) (ch : Chan) : (s.touch ch).clock = s.clock := touch_keeps (·.clock) (fun _ _ => rfl) (fun _ _ => rfl) s ch
@[simp] theorem touch_mods (s : State) (ch : Chan) : (s.touch ch).mods = s.mods := touch_keeps (·.mods) (fun _ _ => rfl) (fun _ _ => rfl) s ch
@[simp] theorem touch_groups (s : State) (ch : Chan) : (s.touch ch).groups = s.groups := touch_keeps (·.groups) (fun _ _ => rfl) (fun _ _ => rfl) s ch
@[simp] theorem touch_adc (s : State) (ch : Chan) : (s.touch ch).adc = s.adc := touch_keeps (·.adc) (fun _ _ => rfl) (fun _ _ => rfl) s ch
@[simp] theorem touch_tide (s : State) (ch : Chan) : (s.touch ch).tide = s.tide := touch_keeps (·.tide) (fun _ _ => rfl) (fun _ _ => rfl) s ch
@[simp] theorem touch_insts (s : State) (ch : Chan) : (s.touch ch).insts = s.insts := touch_keeps (·.insts) (fun _ _ => rfl) (fun _ _ => rfl) s ch
@[simp] theorem touch_engines (s : State) (ch : Chan) : (s.touch ch).engines = s.engines := touch_keeps (·.engines) (fun _ _ => rfl) (fun _ _ => rfl) s ch
@[simp] theorem touch_stages (s : State) (ch : Chan) : (s.touch ch).stages = s.stages := touch_keeps (·.stages) (fun _ _ => rfl) (fun _ _ => rfl) s ch
@[simp] theorem touch_phases (s : State) (ch : Chan) : (s.touch ch).phases = s.phases := touch_keeps (·.phases) (fun _ _ => rfl) (fun _ _ => rfl) s ch
@[simp] theorem touch_pgs (s : State) (ch : Chan) : (s.touch ch).pgs = s.pgs := touch_keeps (·.pgs) (fun _ _ => rfl) (fun _ _ => rfl) s ch
@[simp] theorem touch_rcs (s : State) (ch : Chan) : (s.touch ch).rcs = s.rcs := touch_keeps (·.rcs) (fun _ _ => rfl) (fun _ _ => rfl) s ch
@[simp] theorem touch_obs (s : State) (ch : Chan) : (s.touch ch).obs = s.obs := touch_keeps (·.obs) (fun _ _ => rfl) (fun _ _ => rfl) s ch
@[simp] theorem touch_spm (s : State) (ch : Chan) : (s.touch ch).spm = s.spm := touch_keeps (·.spm) (fun _ _ => rfl) (fun _ _ => rfl) s ch
@[simp] theorem touch_feeds (s : State) (ch : Chan) : (s.touch ch).feeds = s.feeds := touch_keeps (·.feeds) (fun _ _ => rfl) (fun _ _ => rfl) s ch
@[simp] theorem touch_strs (s : State) (ch : Chan) : (s.touch ch).strs = s.strs := touch_keeps (·.strs) (fun _ _ => rfl) (fun _ _ => rfl) s ch
@[simp] theorem touch_chargers (s : State) (ch : Chan) : (s.touch ch).chargers = s.chargers := touch_keeps (·.chargers) (fun _ _ => rfl) (fun _ _ => rfl) s ch
@[simp] theorem touch_dead (s : State) (ch : Chan) : (s.touch ch).dead = s.dead := touch_keeps (·.dead) (fun _ _ => rfl) (fun _ _ => rfl) s ch
@[simp] theorem touch_rails (s : State) (ch : Chan) : (s.touch ch).rails = s.rails := touch_keeps (·.rails) (fun _ _ => rfl) (fun _ _ => rfl) s ch
@[simp] theorem touch_railGroups (s : State) (ch : Chan) : (s.touch ch).railGroups = s.railGroups := touch_keeps (·.railGroups) (fun _ _ => rfl) (fun _ _ => rfl) s ch
@[simp] theorem touch_thermal (s : State) (ch : Chan) : (s.touch ch).thermal = s.thermal := touch_keeps (·.thermal) (fun _ _ => rfl) (fun _ _ => rfl) s ch
@[simp] theorem touch_faults (s : State) (ch : Chan) : (s.touch ch).faults = s.faults := touch_keeps (·.faults) (fun _ _ => rfl) (fun _ _ => rfl) s ch
@[simp] theorem touch_berths (s : State) (ch : Chan) : (s.touch ch).berths = s.berths := touch_keeps (·.berths) (fun _ _ => rfl) (fun _ _ => rfl) s ch
@[simp] theorem touch_ports (s : State) (ch : Chan) : (s.touch ch).ports = s.ports := touch_keeps (·.ports) (fun _ _ => rfl) (fun _ _ => rfl) s ch
@[simp] theorem touch_mem (s : State) (ch : Chan) : (s.touch ch).mem = s.mem := touch_keeps (·.mem) (fun _ _ => rfl) (fun _ _ => rfl) s ch
@[simp] theorem touch_log (s : State) (ch : Chan) : (s.touch ch).log = s.log := touch_keeps (·.log) (fun _ _ => rfl) (fun _ _ => rfl) s ch
@[simp] theorem touch_img (s : State) (ch : Chan) : (s.touch ch).img = s.img := touch_keeps (·.img) (fun _ _ => rfl) (fun _ _ => rfl) s ch
@[simp] theorem touch_cfg (s : State) (ch : Chan) : (s.touch ch).cfg = s.cfg := touch_keeps (·.cfg) (fun _ _ => rfl) (fun _ _ => rfl) s ch
@[simp] theorem touch_kept (s : State) (ch : Chan) : (s.touch ch).kept = s.kept := touch_keeps (·.kept) (fun _ _ => rfl) (fun _ _ => rfl) s ch
@[simp] theorem touch_draws (s : State) (ch : Chan) : (s.touch ch).draws = s.draws := touch_keeps (·.draws) (fun _ _ => rfl) (fun _ _ => rfl) s ch
@[simp] theorem touch_mode_mode (s : State) (ch : Chan) : (s.touch ch).mode.mode = s.mode.mode := touch_keeps (·.mode.mode) (fun _ _ => rfl) (fun _ _ => rfl) s ch
@[simp] theorem touch_mode_prev (s : State) (ch : Chan) : (s.touch ch).mode.prev = s.mode.prev := touch_keeps (·.mode.prev) (fun _ _ => rfl) (fun _ _ => rfl) s ch
@[simp] theorem touch_mode_cause (s : State) (ch : Chan) : (s.touch ch).mode.cause = s.mode.cause := touch_keeps (·.mode.cause) (fun _ _ => rfl) (fun _ _ => rfl) s ch
@[simp] theorem touch_mode_since (s : State) (ch : Chan) : (s.touch ch).mode.since = s.mode.since := touch_keeps (·.mode.since) (fun _ _ => rfl) (fun _ _ => rfl) s ch
@[simp] theorem touch_mode_step (s : State) (ch : Chan) : (s.touch ch).mode.step = s.mode.step := touch_keeps (·.mode.step) (fun _ _ => rfl) (fun _ _ => rfl) s ch
@[simp] theorem touch_mode_milestones (s : State) (ch : Chan) : (s.touch ch).mode.milestones = s.mode.milestones := touch_keeps (·.mode.milestones) (fun _ _ => rfl) (fun _ _ => rfl) s ch
@[simp] theorem touch_mode_req (s : State) (ch : Chan) : (s.touch ch).mode.req = s.mode.req := touch_keeps (·.mode.req) (fun _ _ => rfl) (fun _ _ => rfl) s ch
@[simp] theorem touch_mode_reqStatus (s : State) (ch : Chan) : (s.touch ch).mode.reqStatus = s.mode.reqStatus := touch_keeps (·.mode.reqStatus) (fun _ _ => rfl) (fun _ _ => rfl) s ch
@[simp] theorem touch_mode_descentTo (s : State) (ch : Chan) : (s.touch ch).mode.descentTo = s.mode.descentTo := touch_keeps (·.mode.descentTo) (fun _ _ => rfl) (fun _ _ => rfl) s ch
@[simp] theorem touch_mode_descentByTrip (s : State) (ch : Chan) : (s.touch ch).mode.descentByTrip = s.mode.descentByTrip := touch_keeps (·.mode.descentByTrip) (fun _ _ => rfl) (fun _ _ => rfl) s ch
@[simp] theorem touch_mode_descentPrograms (s : State) (ch : Chan) : (s.touch ch).mode.descentPrograms = s.mode.descentPrograms := touch_keeps (·.mode.descentPrograms) (fun _ _ => rfl) (fun _ _ => rfl) s ch
@[simp] theorem touch_mode_online (s : State) (ch : Chan) : (s.touch ch).mode.online = s.mode.online := touch_keeps (·.mode.online) (fun _ _ => rfl) (fun _ _ => rfl) s ch
@[simp] theorem touch_mode_discovered (s : State) (ch : Chan) : (s.touch ch).mode.discovered = s.mode.discovered := touch_keeps (·.mode.discovered) (fun _ _ => rfl) (fun _ _ => rfl) s ch
@[simp] theorem touch_mode_step6 (s : State) (ch : Chan) : (s.touch ch).mode.step6 = s.mode.step6 := touch_keeps (·.mode.step6) (fun _ _ => rfl) (fun _ _ => rfl) s ch
@[simp] theorem touch_mode_holdoffFrom (s : State) (ch : Chan) : (s.touch ch).mode.holdoffFrom = s.mode.holdoffFrom := touch_keeps (·.mode.holdoffFrom) (fun _ _ => rfl) (fun _ _ => rfl) s ch
@[simp] theorem touch_mode_riseWaiting (s : State) (ch : Chan) : (s.touch ch).mode.riseWaiting = s.mode.riseWaiting := touch_keeps (·.mode.riseWaiting) (fun _ _ => rfl) (fun _ _ => rfl) s ch
@[simp] theorem touch_mode_lockoutLatch (s : State) (ch : Chan) : (s.touch ch).mode.lockoutLatch = s.mode.lockoutLatch := touch_keeps (·.mode.lockoutLatch) (fun _ _ => rfl) (fun _ _ => rfl) s ch
@[simp] theorem touch_mode_lockoutCause (s : State) (ch : Chan) : (s.touch ch).mode.lockoutCause = s.mode.lockoutCause := touch_keeps (·.mode.lockoutCause) (fun _ _ => rfl) (fun _ _ => rfl) s ch
@[simp] theorem touch_mode_pendingTrip (s : State) (ch : Chan) : (s.touch ch).mode.pendingTrip = s.mode.pendingTrip := touch_keeps (·.mode.pendingTrip) (fun _ _ => rfl) (fun _ _ => rfl) s ch
@[simp] theorem touch_mode_pendingLockout (s : State) (ch : Chan) : (s.touch ch).mode.pendingLockout = s.mode.pendingLockout := touch_keeps (·.mode.pendingLockout) (fun _ _ => rfl) (fun _ _ => rfl) s ch
@[simp] theorem touch_mode_tripInForce (s : State) (ch : Chan) : (s.touch ch).mode.tripInForce = s.mode.tripInForce := touch_keeps (·.mode.tripInForce) (fun _ _ => rfl) (fun _ _ => rfl) s ch
@[simp] theorem touch_mode_tripDriven (s : State) (ch : Chan) : (s.touch ch).mode.tripDriven = s.mode.tripDriven := touch_keeps (·.mode.tripDriven) (fun _ _ => rfl) (fun _ _ => rfl) s ch
@[simp] theorem touch_mode_estopLow (s : State) (ch : Chan) : (s.touch ch).mode.estopLow = s.mode.estopLow := touch_keeps (·.mode.estopLow) (fun _ _ => rfl) (fun _ _ => rfl) s ch
@[simp] theorem touch_mode_wakeServed (s : State) (ch : Chan) : (s.touch ch).mode.wakeServed = s.mode.wakeServed := touch_keeps (·.mode.wakeServed) (fun _ _ => rfl) (fun _ _ => rfl) s ch
@[simp] theorem touch_mode_stretchFrom (s : State) (ch : Chan) : (s.touch ch).mode.stretchFrom = s.mode.stretchFrom := touch_keeps (·.mode.stretchFrom) (fun _ _ => rfl) (fun _ _ => rfl) s ch
@[simp] theorem touch_mode_wakeTimerFrom (s : State) (ch : Chan) : (s.touch ch).mode.wakeTimerFrom = s.mode.wakeTimerFrom := touch_keeps (·.mode.wakeTimerFrom) (fun _ _ => rfl) (fun _ _ => rfl) s ch
@[simp] theorem touch_mode_regions (s : State) (ch : Chan) : (s.touch ch).mode.regions = s.mode.regions := touch_keeps (·.mode.regions) (fun _ _ => rfl) (fun _ _ => rfl) s ch
@[simp] theorem sendFrame_pending (s : State) (c : Nat) (b : KopolBody) : (s.sendFrame c b).pending = s.pending := sendFrame_keeps (·.pending) (fun _ _ _ => rfl) s c b
@[simp] theorem sendFrame_now (s : State) (c : Nat) (b : KopolBody) : (s.sendFrame c b).now = s.now := sendFrame_keeps (·.now) (fun _ _ _ => rfl) s c b
@[simp] theorem sendFrame_part (s : State) (c : Nat) (b : KopolBody) : (s.sendFrame c b).part = s.part := sendFrame_keeps (·.part) (fun _ _ _ => rfl) s c b
@[simp] theorem sendFrame_serial (s : State) (c : Nat) (b : KopolBody) : (s.sendFrame c b).serial = s.serial := sendFrame_keeps (·.serial) (fun _ _ _ => rfl) s c b
@[simp] theorem sendFrame_supply (s : State) (c : Nat) (b : KopolBody) : (s.sendFrame c b).supply = s.supply := sendFrame_keeps (·.supply) (fun _ _ _ => rfl) s c b
@[simp] theorem sendFrame_clock (s : State) (c : Nat) (b : KopolBody) : (s.sendFrame c b).clock = s.clock := sendFrame_keeps (·.clock) (fun _ _ _ => rfl) s c b
@[simp] theorem sendFrame_mods (s : State) (c : Nat) (b : KopolBody) : (s.sendFrame c b).mods = s.mods := sendFrame_keeps (·.mods) (fun _ _ _ => rfl) s c b
@[simp] theorem sendFrame_groups (s : State) (c : Nat) (b : KopolBody) : (s.sendFrame c b).groups = s.groups := sendFrame_keeps (·.groups) (fun _ _ _ => rfl) s c b
@[simp] theorem sendFrame_adc (s : State) (c : Nat) (b : KopolBody) : (s.sendFrame c b).adc = s.adc := sendFrame_keeps (·.adc) (fun _ _ _ => rfl) s c b
@[simp] theorem sendFrame_tide (s : State) (c : Nat) (b : KopolBody) : (s.sendFrame c b).tide = s.tide := sendFrame_keeps (·.tide) (fun _ _ _ => rfl) s c b
@[simp] theorem sendFrame_insts (s : State) (c : Nat) (b : KopolBody) : (s.sendFrame c b).insts = s.insts := sendFrame_keeps (·.insts) (fun _ _ _ => rfl) s c b
@[simp] theorem sendFrame_engines (s : State) (c : Nat) (b : KopolBody) : (s.sendFrame c b).engines = s.engines := sendFrame_keeps (·.engines) (fun _ _ _ => rfl) s c b
@[simp] theorem sendFrame_stages (s : State) (c : Nat) (b : KopolBody) : (s.sendFrame c b).stages = s.stages := sendFrame_keeps (·.stages) (fun _ _ _ => rfl) s c b
@[simp] theorem sendFrame_phases (s : State) (c : Nat) (b : KopolBody) : (s.sendFrame c b).phases = s.phases := sendFrame_keeps (·.phases) (fun _ _ _ => rfl) s c b
@[simp] theorem sendFrame_pgs (s : State) (c : Nat) (b : KopolBody) : (s.sendFrame c b).pgs = s.pgs := sendFrame_keeps (·.pgs) (fun _ _ _ => rfl) s c b
@[simp] theorem sendFrame_rcs (s : State) (c : Nat) (b : KopolBody) : (s.sendFrame c b).rcs = s.rcs := sendFrame_keeps (·.rcs) (fun _ _ _ => rfl) s c b
@[simp] theorem sendFrame_obs (s : State) (c : Nat) (b : KopolBody) : (s.sendFrame c b).obs = s.obs := sendFrame_keeps (·.obs) (fun _ _ _ => rfl) s c b
@[simp] theorem sendFrame_spm (s : State) (c : Nat) (b : KopolBody) : (s.sendFrame c b).spm = s.spm := sendFrame_keeps (·.spm) (fun _ _ _ => rfl) s c b
@[simp] theorem sendFrame_feeds (s : State) (c : Nat) (b : KopolBody) : (s.sendFrame c b).feeds = s.feeds := sendFrame_keeps (·.feeds) (fun _ _ _ => rfl) s c b
@[simp] theorem sendFrame_strs (s : State) (c : Nat) (b : KopolBody) : (s.sendFrame c b).strs = s.strs := sendFrame_keeps (·.strs) (fun _ _ _ => rfl) s c b
@[simp] theorem sendFrame_chargers (s : State) (c : Nat) (b : KopolBody) : (s.sendFrame c b).chargers = s.chargers := sendFrame_keeps (·.chargers) (fun _ _ _ => rfl) s c b
@[simp] theorem sendFrame_dead (s : State) (c : Nat) (b : KopolBody) : (s.sendFrame c b).dead = s.dead := sendFrame_keeps (·.dead) (fun _ _ _ => rfl) s c b
@[simp] theorem sendFrame_rails (s : State) (c : Nat) (b : KopolBody) : (s.sendFrame c b).rails = s.rails := sendFrame_keeps (·.rails) (fun _ _ _ => rfl) s c b
@[simp] theorem sendFrame_railGroups (s : State) (c : Nat) (b : KopolBody) : (s.sendFrame c b).railGroups = s.railGroups := sendFrame_keeps (·.railGroups) (fun _ _ _ => rfl) s c b
@[simp] theorem sendFrame_thermal (s : State) (c : Nat) (b : KopolBody) : (s.sendFrame c b).thermal = s.thermal := sendFrame_keeps (·.thermal) (fun _ _ _ => rfl) s c b
@[simp] theorem sendFrame_faults (s : State) (c : Nat) (b : KopolBody) : (s.sendFrame c b).faults = s.faults := sendFrame_keeps (·.faults) (fun _ _ _ => rfl) s c b
@[simp] theorem sendFrame_berths (s : State) (c : Nat) (b : KopolBody) : (s.sendFrame c b).berths = s.berths := sendFrame_keeps (·.berths) (fun _ _ _ => rfl) s c b
@[simp] theorem sendFrame_ports (s : State) (c : Nat) (b : KopolBody) : (s.sendFrame c b).ports = s.ports := sendFrame_keeps (·.ports) (fun _ _ _ => rfl) s c b
@[simp] theorem sendFrame_mem (s : State) (c : Nat) (b : KopolBody) : (s.sendFrame c b).mem = s.mem := sendFrame_keeps (·.mem) (fun _ _ _ => rfl) s c b
@[simp] theorem sendFrame_log (s : State) (c : Nat) (b : KopolBody) : (s.sendFrame c b).log = s.log := sendFrame_keeps (·.log) (fun _ _ _ => rfl) s c b
@[simp] theorem sendFrame_img (s : State) (c : Nat) (b : KopolBody) : (s.sendFrame c b).img = s.img := sendFrame_keeps (·.img) (fun _ _ _ => rfl) s c b
@[simp] theorem sendFrame_cfg (s : State) (c : Nat) (b : KopolBody) : (s.sendFrame c b).cfg = s.cfg := sendFrame_keeps (·.cfg) (fun _ _ _ => rfl) s c b
@[simp] theorem sendFrame_kept (s : State) (c : Nat) (b : KopolBody) : (s.sendFrame c b).kept = s.kept := sendFrame_keeps (·.kept) (fun _ _ _ => rfl) s c b
@[simp] theorem sendFrame_draws (s : State) (c : Nat) (b : KopolBody) : (s.sendFrame c b).draws = s.draws := sendFrame_keeps (·.draws) (fun _ _ _ => rfl) s c b
@[simp] theorem sendFrame_mode (s : State) (c : Nat) (b : KopolBody) : (s.sendFrame c b).mode = s.mode := sendFrame_keeps (·.mode) (fun _ _ _ => rfl) s c b
@[simp] theorem sendFrame_net (s : State) (c : Nat) (b : KopolBody) : (s.sendFrame c b).net = s.net := sendFrame_keeps (·.net) (fun _ _ _ => rfl) s c b

end Sys2Proof.Machine
end

