-- ==== Sys2Proof/Laws/Lists.lean ====
section
/-! SUPPORT. Lemmas about the lists of units and the stores of values. -/
namespace Sys2Proof.Machine

@[simp] theorem put_length {α : Type} (l : List α) (i : Nat) (v : α) : (put l i v).length = l.length := by simp [put]

@[simp] theorem nth_put_same {α : Type} (l : List α) (i : Nat) (v d : α) (h : i < l.length) : nth (put l i v) i d = v := by
  simp [nth, put, h]

@[simp] theorem nth_put_other {α : Type} (l : List α) (i j : Nat) (v d : α) (h : i ≠ j) : nth (put l i v) j d = nth l j d := by
  simp [nth, put, List.getElem?_set_ne h]

theorem put_beyond {α : Type} (l : List α) (i : Nat) (v : α) (h : l.length ≤ i) : put l i v = l := by
  simp [put, List.set_eq_of_length_le h]

/-- A value written to a store is read back. -/
theorem storeGet_put_same (k : Nat) (v : List Byte) (l : List (Nat × List Byte)) : storeGet k (storePut k v l) = some v := by
  induction l with
  | nil => simp [storePut, storeGet]
  | cons p ps ih =>
    unfold storePut
    split
    · simp [storeGet]
    · split
      · simp [storeGet]
      · rename_i h; simp [storeGet, h, ih]

/-- A value written to a store leaves every other key alone. -/
theorem storeGet_put_other (k j : Nat) (v : List Byte) (l : List (Nat × List Byte)) (h : k ≠ j) :
    storeGet j (storePut k v l) = storeGet j l := by
  induction l with
  | nil => simp [storePut, storeGet, h]
  | cons p ps ih =>
    unfold storePut
    split
    · simp [storeGet, h]
    · split
      · rename_i hp; simp [storeGet, h, hp]
      · simp only [storeGet, ih]

end Sys2Proof.Machine
end

