-- ==== Sys2Proof/Laws/Memory.lean ====
section
/-! SUPPORT. Lemmas about the sparse memories: the canonical form, and a read after a write. -/
namespace Sys2Proof.Machine

theorem cellsWf_mono {a b : Nat} (h : a ≤ b) : ∀ {l : List Host.Cell}, cellsWf b l = true → cellsWf a l = true
  | [], _ => rfl
  | c :: cs, hl => by
    simp only [cellsWf, Bool.and_eq_true, decide_eq_true_eq] at hl ⊢
    exact ⟨⟨by omega, hl.1.2⟩, hl.2⟩

/-- Writing a byte keeps the canonical form. -/
theorem cellPut_wf (k : Nat) (v : Byte) : ∀ (a : Nat) (l : List Host.Cell), a ≤ k → cellsWf a l = true → cellsWf a (cellPut k v l) = true
  | a, [], h, _ => by
    unfold cellPut
    split
    · rfl
    · simp_all [cellsWf]
  | a, c :: cs, h, hl => by
    simp only [cellsWf, Bool.and_eq_true, decide_eq_true_eq] at hl
    obtain ⟨⟨h1, h2⟩, h3⟩ := hl
    unfold cellPut
    split
    · split
      · simp only [cellsWf, Bool.and_eq_true, decide_eq_true_eq]; exact ⟨⟨h1, h2⟩, h3⟩
      · rename_i hk hv
        simp only [cellsWf, Bool.and_eq_true, decide_eq_true_eq]
        exact ⟨⟨h, by simpa using hv⟩, ⟨by omega, h2⟩, h3⟩
    · split
      · split
        · exact cellsWf_mono (by omega) h3
        · rename_i hk hc hv
          simp only [cellsWf, Bool.and_eq_true, decide_eq_true_eq]
          exact ⟨⟨h, by simpa using hv⟩, by rw [← hc]; exact h3⟩
      · simp only [cellsWf, Bool.and_eq_true, decide_eq_true_eq]
        exact ⟨⟨h1, h2⟩, cellPut_wf k v (c.1 + 1) cs (by omega) h3⟩

theorem cellsPut_wf (vs : List Byte) : ∀ (k : Nat) (l : List Host.Cell), Memory.wf l = true → Memory.wf (cellsPut k vs l) = true := by
  induction vs with
  | nil => intro k l h; exact h
  | cons v vs ih => intro k l h; exact ih (k + 1) _ (cellPut_wf k v 0 l (Nat.zero_le k) h)

theorem cellGet_below {a k : Nat} (h : k < a) : ∀ {l : List Host.Cell}, cellsWf a l = true → cellGet k l = 0
  | [], _ => rfl
  | c :: cs, hl => by
    simp only [cellsWf, Bool.and_eq_true, decide_eq_true_eq] at hl
    simp only [cellGet]
    rw [if_neg (by omega), if_pos (by omega)]

/-- A read after a write gives the value written. -/
theorem cellGet_put_same (k : Nat) (v : Byte) : ∀ (a : Nat) (l : List Host.Cell), cellsWf a l = true → cellGet k (cellPut k v l) = v
  | a, [], _ => by
    unfold cellPut
    split
    · simp_all [cellGet]
    · simp [cellGet]
  | a, c :: cs, hl => by
    simp only [cellsWf, Bool.and_eq_true, decide_eq_true_eq] at hl
    unfold cellPut
    split
    · split
      · simp only [cellGet]; rw [if_neg (by omega), if_pos (by omega)]; simp_all
      · simp [cellGet]
    · split
      · split
        · rename_i _ hc hv; rw [hv]; exact cellGet_below (by omega) hl.2
        · simp [cellGet]
      · rename_i h1 h2
        simp only [cellGet]
        rw [if_neg h2, if_neg h1]
        exact cellGet_put_same k v (c.1 + 1) cs hl.2

/-- Every memory operation of the DRAM writes through a codeword. -/
theorem writeWord_wf (s : State) (b k : Nat) (d : List Byte) (h : s.memoryWf = true) : (s.writeWord b k d).memoryWf = true := by
  simp only [State.memoryWf, Bool.and_eq_true] at h ⊢
  refine ⟨?_, h.2⟩
  exact cellsPut_wf _ _ _ h.1

/-! What the shared operations of the memories can do. -/

/-- The fill alone changes nothing where no armed mask waits for it (R446). -/
theorem filledNow_idle (s : State) (h : s.flipWaits = false) : s.filledNow = s := by simp [State.filledNow, h]

/-- The fill leaves everything but the memories as it was. -/
theorem filledNow_outside (s : State) : s.filledNow = { s with mem := s.filledNow.mem } := by
  unfold State.filledNow
  split
  · rfl
  · rfl

/-- A copy is committed unless a write of its writer has failed three times; then the failure is spent (R450). -/
theorem commitCopy_ok (s : State) (w : MramWriter) (f : State → State) (h : s.mem.failed.contains w = false) : s.commitCopy w f = f s := by
  unfold State.commitCopy; rw [h]; rfl

theorem commitCopy_failed (s : State) (w : MramWriter) (f : State → State) (h : s.mem.failed.contains w = true) :
    s.commitCopy w f = { s with mem := { s.mem with failed := s.mem.failed.filter fun x => x != w } } := by
  unfold State.commitCopy; rw [h]; rfl

/-- A recorder that has dropped nothing raises nothing (R459). -/
theorem settleDrops_idle (s : State) (h : s.log.dropSeen = false) : s.settleDrops = s := by simp [State.settleDrops, h]

/-- A transaction that is served is one of at most 64 outstanding (R441). -/
theorem inTurn_outstanding (q : MemReq) (b : Nat) (h : q.inTurn b = true) : q.others.length < 64 := by
  simp only [MemReq.inTurn, Bool.and_eq_true, decide_eq_true_eq] at h
  exact h.1

/-- The peak never falls, and covers the transaction and those beside it (R441). -/
theorem peaked_peak (s : State) (q : MemReq) : (s.peaked q).mem.peak = max (q.others.length + 1) s.mem.peak := rfl

/-- The memories of the reset state are in canonical form. -/
theorem reset_memoryWf : State.reset.memoryWf = true := by decide

end Sys2Proof.Machine
end

