-- ==== Sys2Proof/Laws/PerInstr.lean ====
section
/-! SUPPORT. One lemma per constructor of Instr: a well-formed command names a unit of the largest configuration. -/
namespace Sys2Proof.Laws

/-- The number of the unit that a command names first; 0 where it names none. -/
def Unit.number (i : Instr) : Nat :=
  match i with
  | .porRelease _ _ _ _ => 0
  | .dictionaryOnline _ => 0
  | .snsEngRelease => 0
  | .prechargeEnd pair => pair
  | .auxContactConfirm str => str
  | .enterActive => 0
  | .noSourceDeclared => 0
  | .modeRequestRise _ => 0
  | .modeRequestService _ => 0
  | .modeRequestActive _ => 0
  | .modeRequestDescent _ => 0
  | .modeRequestMoored _ => 0
  | .modeRequestLayup _ => 0
  | .modeRequestLeaveService _ _ _ => 0
  | .tripReaction => 0
  | .descentProgramsStart => 0
  | .descentComplete _ => 0
  | .restartHoldoffEnd => 0
  | .powerFailWarning _ _ => 0
  | .rstNAsserted => 0
  | .rstNReleased _ => 0
  | .supplyDipRestart _ => 0
  | .counterBlockPeriodicCommit => 0
  | .wakeNWake => 0
  | .srcdetWake _ => 0
  | .twAddressMatchWake port _ => port
  | .canWake port => port
  | .mooredAdcScan _ _ => 0
  | .ownNReleaseWake => 0
  | .aoWakeTimerExpired => 0
  | .twMatchStretchTimeout port => port
  | .canRetentionTimeout => 0
  | .groupEnableWrite _ g _ => g
  | .stuckRunDetected md => md
  | .stuckClearCount md => md
  | .loopSampleAvailable md _ _ => md
  | .mclkReadbackFault g => g
  | .fastComparatorDecision md _ => md
  | .calCommand _ md _ => md
  | .calComplete md => md
  | .seqLengthWrite _ _ => 0
  | .adcLapStart => 0
  | .adcEntryComplete _ _ _ => 0
  | .adcLapEnd _ => 0
  | .tempSlot _ => 0
  | .instanceRelease lp _ => lp
  | .instanceRunEnd lp _ => lp
  | .instanceCommit lp => lp
  | .depWaitEnd lp => lp
  | .carrierBoundary st => st
  | .tideFrameBoundary => 0
  | .idleBanksLoaded => 0
  | .loadPoint ph => ph
  | .stageStart _ st => st
  | .softStartEnd st => st
  | .stageStop _ st => st
  | .delayLineCalibration _ => 0
  | .phaseDrop _ ph => ph
  | .phaseReturn _ ph => ph
  | .breakwaterTruncation st _ => st
  | .fenderTruncation ph => ph
  | .estopAsserted => 0
  | .tripReadbackFault => 0
  | .driveReadbackFault ph => ph
  | .holdWatchExpired st => st
  | .holdLimitExpired st => st
  | .pgTargetWrite _ n _ => n
  | .pgUpdate n => n
  | .rcUpdate n => n
  | .rcPhaseWrap n => n
  | .rcRefTimeout n => n
  | .rcUnlockTimeout n => n
  | .rcReset _ n _ => n
  | .observerRun st => st
  | .substitutionExpired ph => ph
  | .spmUpdate => 0
  | .spmRecompute => 0
  | .droopTrimUpdate => 0
  | .phaseShareTrimWrite _ ph _ => ph
  | .inputLoss => 0
  | .handoverEnd => 0
  | .sourceQualified _ => 0
  | .handbackCommand _ _ => 0
  | .handbackStart => 0
  | .handbackRampEnd => 0
  | .feedGateOn f => f
  | .feedReverseOff f => f
  | .feedLost f => f
  | .feedEnableOn _ f => f
  | .feedEnableOff _ f => f
  | .inrushChop f => f
  | .inrushOffExpired f => f
  | .inrushTimeout f => f
  | .gateConfirmExpired f => f
  | .gateConfirmTimeout f => f
  | .gateStuckOn f => f
  | .gateFeedbackLost f => f
  | .feedShort f => f
  | .feedRetry f => f
  | .feedRetryReset f => f
  | .meterTimeout f => f
  | .estimatorStep str => str
  | .unanchoredTimeout str => str
  | .probeStart str => str
  | .probeShiftEnd => 0
  | .slackRequest _ str => str
  | .slackAutoRequest str => str
  | .slackAbort _ str => str
  | .slackRampDownEnd str => str
  | .slackRestPoint str => str
  | .slackComplete str => str
  | .slackConditionAbort str => str
  | .slackRefusalTimeout str => str
  | .stringReplaced _ str _ => str
  | .estimatorCommit => 0
  | .stringInputTimeout str _ => str
  | .auxContactMismatch str => str
  | .stringShedOpen str => str
  | .chargeCommandStart _ str => str
  | .chargeCommandStop _ str => str
  | .pulseEnd str => str
  | .restEnd str => str
  | .chargeTimerExpired str => str
  | .chargePauseTimeout str => str
  | .eqRequest _ str => str
  | .eqAbort _ str => str
  | .finalRestSkip str => str
  | .bsInWindow => 0
  | .bsSettleExpired => 0
  | .bsTimeout => 0
  | .layupEntry _ _ => 0
  | .layupWake _ _ => 0
  | .seqEnd g _ => g
  | .seqOn g _ => g
  | .seqOff g _ => g
  | .seqWaitgood g _ => g
  | .seqWaitlow g _ => g
  | .seqDelay g _ => g
  | .seqWaitgroup g _ => g
  | .seqMark g _ => g
  | .stageRailStart r => r
  | .railRunFault r _ => r
  | .mooredRailFault r _ => r
  | .railDescentFault r _ => r
  | .railDescentOvervoltage r => r
  | .groupRise _ g => g
  | .groupAbortRise _ g => g
  | .groupLower _ g => g
  | .railMarginHigh _ r => r
  | .railMarginLow _ r => r
  | .railMarginOff _ r => r
  | .thermalDerateUpdate => 0
  | .pdmReading _ => 0
  | .vidUpdate => 0
  | .ageReset _ _ => 0
  | .ronUpdate => 0
  | .replan => 0
  | .bankCapEstimate st _ _ => st
  | .ageingCommit => 0
  | .faultClearWindowEnd _ _ => 0
  | .sevWrite _ region _ => region
  | .sevQueryWrite _ region _ => region
  | .irqPendingClear _ region _ => region
  | .lockoutEntry => 0
  | .lockstepMismatch => 0
  | .d2dTransferFail => 0
  | .heartbeatSend => 0
  | .heartbeatReceived _ _ _ _ => 0
  | .heartbeatMiss => 0
  | .twinAbsentTimeout => 0
  | .electionFrameReceived _ => 0
  | .electionFrameSend => 0
  | .electionTimeout => 0
  | .trackingMessageReceived _ _ _ => 0
  | .alignmentSend => 0
  | .alignmentReceived _ _ _ _ => 0
  | .mirrorWriteReceived _ _ _ _ _ _ => 0
  | .snapshotFragmentReceived _ _ _ _ => 0
  | .imageTransferReceived _ _ _ _ _ => 0
  | .kopolFrameRetransmit _ => 0
  | .laneDown lane => lane
  | .laneRetrain lane _ _ => lane
  | .healthUpdate => 0
  | .ownNReleased => 0
  | .ownReadbackFault => 0
  | .engStopSelfRelease => 0
  | .supStallSelfRelease => 0
  | .selfReleaseOutputsLow => 0
  | .handoverRequest _ => 0
  | .handoverCancel _ => 0
  | .handoverRelease => 0
  | .handoverTimeout => 0
  | .pairCommonWrite _ _ _ _ => 0
  | .objectWrite _ _ _ _ => 0
  | .sdoRequest port _ _ => port
  | .sdoAbortTransfer port _ => port
  | .sdoSegmentTimeout port _ => port
  | .nireoRead _ _ _ _ _ _ => 0
  | .nireoWrite _ _ _ _ _ _ => 0
  | .nireoDomainBegin _ _ _ _ _ => 0
  | .nireoDomainSegment _ _ _ _ _ _ => 0
  | .nireoDomainEnd _ _ _ _ _ => 0
  | .nireoDomainAbort _ _ _ _ => 0
  | .nireoOpenSession src _ => src.1
  | .nireoCloseSession _ _ => 0
  | .nireoBatchWrite _ _ _ => 0
  | .nireoFrameDropped port => port
  | .sessionIdleTimeout _ => 0
  | .domainWriteIdleTimeout _ _ _ => 0
  | .hsFrameCommand _ _ => 0
  | .hsStatusCommand => 0
  | .hsResponseCommand => 0
  | .accessChallengeRead _ => 0
  | .accessResponse _ _ _ => 0
  | .accessDrop _ _ => 0
  | .accessIdleTimeout _ => 0
  | .storeSave _ _ => 0
  | .restoreLoad _ _ => 0
  | .legacyModeWrite _ _ => 0
  | .nmtStart port => port
  | .nmtStop port => port
  | .nmtEnterPreOperational port => port
  | .nmtResetNode port => port
  | .nmtResetCommunication port => port
  | .lssSwitchState port _ _ _ => port
  | .lssConfigureNodeId port _ => port
  | .lssConfigureBitTiming port _ => port
  | .lssStore port => port
  | .lssInquire port _ => port
  | .lssFastscan port _ _ _ _ => port
  | .syncProduce => 0
  | .syncReceived port => port
  | .timeProduce => 0
  | .rpdoReceived port _ _ => port
  | .tpdoEvent n => n
  | .tpdoEventTimer n => n
  | .canHeartbeatProduce port => port
  | .canHeartbeatConsumerTimeout port _ => port
  | .canBusOff port => port
  | .canBusOffRecovery port => port
  | .ethLinkDown port => port
  | .ethArpRequest port _ => port
  | .icmpEchoRequest port _ => port
  | .ptpSyncSend port => port
  | .ptpAnnounceSend port => port
  | .ptpDelayReqReceived port _ => port
  | .ptpAnnounceReceived port _ => port
  | .ptpAnnounceTimeout port => port
  | .timeSetSeconds _ _ => 0
  | .ppsEdge => 0
  | .phaseAdjust _ _ => 0
  | .traceableWrite _ _ => 0
  | .traceableTimeout => 0
  | .holdoverEnd => 0
  | .twScan port _ => port
  | .berthPresenceLow b => b
  | .berthPresenceHigh b => b
  | .berthDisable _ b => b
  | .alertResponseRead port _ => port
  | .hostNotifyReceived port _ _ => port
  | .mailboxBlockWrite port _ _ _ => port
  | .mailboxBlockRead port => port
  | .twTransactionBoundary port => port
  | .twArbitrationLost port => port
  | .twSclTimeout port => port
  | .twBusRecovery port _ => port
  | .pollRunDue b => b
  | .scriptEnd port => port
  | .scriptPage port _ => port
  | .scriptRdb port _ _ _ => port
  | .scriptRdw port _ _ _ => port
  | .scriptRdk port _ _ _ => port
  | .scriptWrb port _ => port
  | .scriptWrw port _ => port
  | .scriptSnd port _ => port
  | .scriptCnv port => port
  | .scriptTst port => port
  | .scriptRep port => port
  | .scriptWait port => port
  | .scriptXtr port => port
  | .partnerCommandSend port _ _ _ => port
  | .hostCommand _ b _ => b
  | .listenedTransaction port _ => port
  | .trainCommand _ _ _ => 0
  | .dramFillComplete => 0
  | .dramRead _ _ _ _ => 0
  | .dramWrite _ _ _ _ => 0
  | .scrubBurst _ => 0
  | .scrubLapOverdue => 0
  | .bucketLeakTick _ => 0
  | .eccModeChange _ _ => 0
  | .flipArm _ _ => 0
  | .dramAlert rank => rank
  | .sramUncorrectable region _ _ => region
  | .mramWrite _ _ _ _ => 0
  | .mramReadUe _ => 0
  | .recordArrival _ => 0
  | .recordCommit => 0
  | .freezeStart _ => 0
  | .freezeAbort _ => 0
  | .freezeRelease _ => 0
  | .freezeLimitExpired => 0
  | .readFromWrite _ _ => 0
  | .readBlock _ => 0
  | .captureFrame _ => 0
  | .captureTrigger _ _ _ md _ => md
  | .triggerNow _ => 0
  | .windowLastFrame w => w
  | .windowCommit p => p.window
  | .windowAbandon w => w
  | .windowRelease _ w _ => w
  | .updateTransferComplete => 0
  | .updateChecksDone _ _ _ _ => 0
  | .updateAbort _ _ => 0
  | .hitlessStart _ => 0
  | .hitlessAbort _ => 0
  | .hitlessCommitPoint => 0
  | .hitlessResume => 0
  | .hitlessResumeTimeout => 0
  | .hitlessRevertTimeout => 0
  | .pairUpdateStart _ => 0
  | .pairUpdateAbort _ => 0
  | .pilotExit _ _ _ => 0
  | .xtalFail => 0
  | .xtalRetry _ => 0
  | .porAsserted => 0
  | .ethLinkUp port _ => port
  | .ethFrameDropped port => port
  | .nireoCanFdSegment port _ _ _ => port
  | .canHeartbeatReceived port _ => port
  | .emcyInhibitExpired port => port
  | .tpdoInhibitExpired n => n
  | .sramScrubRead region _ _ => region
  | .mailboxBlockTaken port => port
  | .stageRailRiseTimeout r => r
  | .supervisoryCoresResume => 0

/-- The family: what a well-formed command names exists on the largest configuration (Table 00-1). -/
def Unit.Statement (i : Instr) : Prop := i.wellFormed = true → Unit.number i < 64

theorem Unit.porRelease : ∀ x0 x1 x2 x3, Unit.Statement (.porRelease x0 x1 x2 x3) := by
  intro x0 x1 x2 x3 _; change 0 < 64; decide
theorem Unit.dictionaryOnline : ∀ x0, Unit.Statement (.dictionaryOnline x0) := by
  intro x0 _; change 0 < 64; decide
theorem Unit.snsEngRelease : Unit.Statement .snsEngRelease := by
  intro _; change 0 < 64; decide
theorem Unit.prechargeEnd : ∀ pair, Unit.Statement (.prechargeEnd pair) := by
  intro pair h; change (decide (pair < 4)) = true at h; change pair < 64
  simp only [decide_eq_true_eq] at h; omega
theorem Unit.auxContactConfirm : ∀ str, Unit.Statement (.auxContactConfirm str) := by
  intro str h; change (decide (str < 8)) = true at h; change str < 64
  simp only [decide_eq_true_eq] at h; omega
theorem Unit.enterActive : Unit.Statement .enterActive := by
  intro _; change 0 < 64; decide
theorem Unit.noSourceDeclared : Unit.Statement .noSourceDeclared := by
  intro _; change 0 < 64; decide
theorem Unit.modeRequestRise : ∀ x0, Unit.Statement (.modeRequestRise x0) := by
  intro x0 _; change 0 < 64; decide
theorem Unit.modeRequestService : ∀ x0, Unit.Statement (.modeRequestService x0) := by
  intro x0 _; change 0 < 64; decide
theorem Unit.modeRequestActive : ∀ x0, Unit.Statement (.modeRequestActive x0) := by
  intro x0 _; change 0 < 64; decide
theorem Unit.modeRequestDescent : ∀ x0, Unit.Statement (.modeRequestDescent x0) := by
  intro x0 _; change 0 < 64; decide
theorem Unit.modeRequestMoored : ∀ x0, Unit.Statement (.modeRequestMoored x0) := by
  intro x0 _; change 0 < 64; decide
theorem Unit.modeRequestLayup : ∀ x0, Unit.Statement (.modeRequestLayup x0) := by
  intro x0 _; change 0 < 64; decide
theorem Unit.modeRequestLeaveService : ∀ x0 x1 x2, Unit.Statement (.modeRequestLeaveService x0 x1 x2) := by
  intro x0 x1 x2 _; change 0 < 64; decide
theorem Unit.tripReaction : Unit.Statement .tripReaction := by
  intro _; change 0 < 64; decide
theorem Unit.descentProgramsStart : Unit.Statement .descentProgramsStart := by
  intro _; change 0 < 64; decide
theorem Unit.descentComplete : ∀ x0, Unit.Statement (.descentComplete x0) := by
  intro x0 _; change 0 < 64; decide
theorem Unit.restartHoldoffEnd : Unit.Statement .restartHoldoffEnd := by
  intro _; change 0 < 64; decide
theorem Unit.powerFailWarning : ∀ x0 x1, Unit.Statement (.powerFailWarning x0 x1) := by
  intro x0 x1 _; change 0 < 64; decide
theorem Unit.rstNAsserted : Unit.Statement .rstNAsserted := by
  intro _; change 0 < 64; decide
theorem Unit.rstNReleased : ∀ x0, Unit.Statement (.rstNReleased x0) := by
  intro x0 _; change 0 < 64; decide
theorem Unit.supplyDipRestart : ∀ x0, Unit.Statement (.supplyDipRestart x0) := by
  intro x0 _; change 0 < 64; decide
theorem Unit.counterBlockPeriodicCommit : Unit.Statement .counterBlockPeriodicCommit := by
  intro _; change 0 < 64; decide
theorem Unit.wakeNWake : Unit.Statement .wakeNWake := by
  intro _; change 0 < 64; decide
theorem Unit.srcdetWake : ∀ x0, Unit.Statement (.srcdetWake x0) := by
  intro x0 _; change 0 < 64; decide
theorem Unit.twAddressMatchWake : ∀ port x1, Unit.Statement (.twAddressMatchWake port x1) := by
  intro port x1 h; change (decide (port < 4)) = true at h; change port < 64
  simp only [decide_eq_true_eq] at h; omega
theorem Unit.canWake : ∀ port, Unit.Statement (.canWake port) := by
  intro port h; change (decide (port < 2)) = true at h; change port < 64
  simp only [decide_eq_true_eq] at h; omega
theorem Unit.mooredAdcScan : ∀ x0 x1, Unit.Statement (.mooredAdcScan x0 x1) := by
  intro x0 x1 _; change 0 < 64; decide
theorem Unit.ownNReleaseWake : Unit.Statement .ownNReleaseWake := by
  intro _; change 0 < 64; decide
theorem Unit.aoWakeTimerExpired : Unit.Statement .aoWakeTimerExpired := by
  intro _; change 0 < 64; decide
theorem Unit.twMatchStretchTimeout : ∀ port, Unit.Statement (.twMatchStretchTimeout port) := by
  intro port h; change (decide (port < 4)) = true at h; change port < 64
  simp only [decide_eq_true_eq] at h; omega
theorem Unit.canRetentionTimeout : Unit.Statement .canRetentionTimeout := by
  intro _; change 0 < 64; decide
theorem Unit.groupEnableWrite : ∀ x0 g x2, Unit.Statement (.groupEnableWrite x0 g x2) := by
  intro x0 g x2 h; change (decide (g < 4)) = true at h; change g < 64
  simp only [decide_eq_true_eq] at h; omega
theorem Unit.stuckRunDetected : ∀ md, Unit.Statement (.stuckRunDetected md) := by
  intro md h; change (decide (md < 48)) = true at h; change md < 64
  simp only [decide_eq_true_eq] at h; omega
theorem Unit.stuckClearCount : ∀ md, Unit.Statement (.stuckClearCount md) := by
  intro md h; change (decide (md < 48)) = true at h; change md < 64
  simp only [decide_eq_true_eq] at h; omega
theorem Unit.loopSampleAvailable : ∀ md bits x2, Unit.Statement (.loopSampleAvailable md bits x2) := by
  intro md bits x2 h; change (decide (md < 48) && decide (16 ≤ bits.length ∧ bits.length ≤ 256)) = true at h; change md < 64
  simp only [Bool.and_eq_true, decide_eq_true_eq] at h; omega
theorem Unit.mclkReadbackFault : ∀ g, Unit.Statement (.mclkReadbackFault g) := by
  intro g h; change (decide (g < 4)) = true at h; change g < 64
  simp only [decide_eq_true_eq] at h; omega
theorem Unit.fastComparatorDecision : ∀ md x1, Unit.Statement (.fastComparatorDecision md x1) := by
  intro md x1 h; change (decide (md < 48)) = true at h; change md < 64
  simp only [decide_eq_true_eq] at h; omega
theorem Unit.calCommand : ∀ x0 md x2, Unit.Statement (.calCommand x0 md x2) := by
  intro x0 md x2 h; change (decide (md < 48)) = true at h; change md < 64
  simp only [decide_eq_true_eq] at h; omega
theorem Unit.calComplete : ∀ md, Unit.Statement (.calComplete md) := by
  intro md h; change (decide (md < 48)) = true at h; change md < 64
  simp only [decide_eq_true_eq] at h; omega
theorem Unit.seqLengthWrite : ∀ x0 x1, Unit.Statement (.seqLengthWrite x0 x1) := by
  intro x0 x1 _; change 0 < 64; decide
theorem Unit.adcLapStart : Unit.Statement .adcLapStart := by
  intro _; change 0 < 64; decide
theorem Unit.adcEntryComplete : ∀ x0 x1 x2, Unit.Statement (.adcEntryComplete x0 x1 x2) := by
  intro x0 x1 x2 _; change 0 < 64; decide
theorem Unit.adcLapEnd : ∀ x0, Unit.Statement (.adcLapEnd x0) := by
  intro x0 _; change 0 < 64; decide
theorem Unit.tempSlot : ∀ x0, Unit.Statement (.tempSlot x0) := by
  intro x0 _; change 0 < 64; decide
theorem Unit.instanceRelease : ∀ lp x1, Unit.Statement (.instanceRelease lp x1) := by
  intro lp x1 h; change (decide (lp < 64)) = true at h; change lp < 64
  simp only [decide_eq_true_eq] at h; omega
theorem Unit.instanceRunEnd : ∀ lp x1, Unit.Statement (.instanceRunEnd lp x1) := by
  intro lp x1 h; change (decide (lp < 64)) = true at h; change lp < 64
  simp only [decide_eq_true_eq] at h; omega
theorem Unit.instanceCommit : ∀ lp, Unit.Statement (.instanceCommit lp) := by
  intro lp h; change (decide (lp < 64)) = true at h; change lp < 64
  simp only [decide_eq_true_eq] at h; omega
theorem Unit.depWaitEnd : ∀ lp, Unit.Statement (.depWaitEnd lp) := by
  intro lp h; change (decide (lp < 64)) = true at h; change lp < 64
  simp only [decide_eq_true_eq] at h; omega
theorem Unit.carrierBoundary : ∀ st, Unit.Statement (.carrierBoundary st) := by
  intro st h; change (decide (st < 8)) = true at h; change st < 64
  simp only [decide_eq_true_eq] at h; omega
theorem Unit.tideFrameBoundary : Unit.Statement .tideFrameBoundary := by
  intro _; change 0 < 64; decide
theorem Unit.idleBanksLoaded : Unit.Statement .idleBanksLoaded := by
  intro _; change 0 < 64; decide
theorem Unit.loadPoint : ∀ ph, Unit.Statement (.loadPoint ph) := by
  intro ph h; change (decide (ph < 24)) = true at h; change ph < 64
  simp only [decide_eq_true_eq] at h; omega
theorem Unit.stageStart : ∀ x0 st, Unit.Statement (.stageStart x0 st) := by
  intro x0 st h; change (decide (st < 8)) = true at h; change st < 64
  simp only [decide_eq_true_eq] at h; omega
theorem Unit.softStartEnd : ∀ st, Unit.Statement (.softStartEnd st) := by
  intro st h; change (decide (st < 8)) = true at h; change st < 64
  simp only [decide_eq_true_eq] at h; omega
theorem Unit.stageStop : ∀ x0 st, Unit.Statement (.stageStop x0 st) := by
  intro x0 st h; change (decide (st < 8)) = true at h; change st < 64
  simp only [decide_eq_true_eq] at h; omega
theorem Unit.delayLineCalibration : ∀ x0, Unit.Statement (.delayLineCalibration x0) := by
  intro x0 _; change 0 < 64; decide
theorem Unit.phaseDrop : ∀ x0 ph, Unit.Statement (.phaseDrop x0 ph) := by
  intro x0 ph h; change (decide (ph < 24)) = true at h; change ph < 64
  simp only [decide_eq_true_eq] at h; omega
theorem Unit.phaseReturn : ∀ x0 ph, Unit.Statement (.phaseReturn x0 ph) := by
  intro x0 ph h; change (decide (ph < 24)) = true at h; change ph < 64
  simp only [decide_eq_true_eq] at h; omega
theorem Unit.breakwaterTruncation : ∀ st b, Unit.Statement (.breakwaterTruncation st b) := by
  intro st b h; change (decide (st < 8) && decide (b < 4)) = true at h; change st < 64
  simp only [Bool.and_eq_true, decide_eq_true_eq] at h; omega
theorem Unit.fenderTruncation : ∀ ph, Unit.Statement (.fenderTruncation ph) := by
  intro ph h; change (decide (ph < 24)) = true at h; change ph < 64
  simp only [decide_eq_true_eq] at h; omega
theorem Unit.estopAsserted : Unit.Statement .estopAsserted := by
  intro _; change 0 < 64; decide
theorem Unit.tripReadbackFault : Unit.Statement .tripReadbackFault := by
  intro _; change 0 < 64; decide
theorem Unit.driveReadbackFault : ∀ ph, Unit.Statement (.driveReadbackFault ph) := by
  intro ph h; change (decide (ph < 24)) = true at h; change ph < 64
  simp only [decide_eq_true_eq] at h; omega
theorem Unit.holdWatchExpired : ∀ st, Unit.Statement (.holdWatchExpired st) := by
  intro st h; change (decide (st < 8)) = true at h; change st < 64
  simp only [decide_eq_true_eq] at h; omega
theorem Unit.holdLimitExpired : ∀ st, Unit.Statement (.holdLimitExpired st) := by
  intro st h; change (decide (st < 8)) = true at h; change st < 64
  simp only [decide_eq_true_eq] at h; omega
theorem Unit.pgTargetWrite : ∀ x0 n x2, Unit.Statement (.pgTargetWrite x0 n x2) := by
  intro x0 n x2 h; change (decide (n < 16)) = true at h; change n < 64
  simp only [decide_eq_true_eq] at h; omega
theorem Unit.pgUpdate : ∀ n, Unit.Statement (.pgUpdate n) := by
  intro n h; change (decide (n < 16)) = true at h; change n < 64
  simp only [decide_eq_true_eq] at h; omega
theorem Unit.rcUpdate : ∀ n, Unit.Statement (.rcUpdate n) := by
  intro n h; change (decide (n < 8)) = true at h; change n < 64
  simp only [decide_eq_true_eq] at h; omega
theorem Unit.rcPhaseWrap : ∀ n, Unit.Statement (.rcPhaseWrap n) := by
  intro n h; change (decide (n < 8)) = true at h; change n < 64
  simp only [decide_eq_true_eq] at h; omega
theorem Unit.rcRefTimeout : ∀ n, Unit.Statement (.rcRefTimeout n) := by
  intro n h; change (decide (n < 8)) = true at h; change n < 64
  simp only [decide_eq_true_eq] at h; omega
theorem Unit.rcUnlockTimeout : ∀ n, Unit.Statement (.rcUnlockTimeout n) := by
  intro n h; change (decide (n < 8)) = true at h; change n < 64
  simp only [decide_eq_true_eq] at h; omega
theorem Unit.rcReset : ∀ x0 n x2, Unit.Statement (.rcReset x0 n x2) := by
  intro x0 n x2 h; change (decide (n < 8)) = true at h; change n < 64
  simp only [decide_eq_true_eq] at h; omega
theorem Unit.observerRun : ∀ st, Unit.Statement (.observerRun st) := by
  intro st h; change (decide (st < 8)) = true at h; change st < 64
  simp only [decide_eq_true_eq] at h; omega
theorem Unit.substitutionExpired : ∀ ph, Unit.Statement (.substitutionExpired ph) := by
  intro ph h; change (decide (ph < 24)) = true at h; change ph < 64
  simp only [decide_eq_true_eq] at h; omega
theorem Unit.spmUpdate : Unit.Statement .spmUpdate := by
  intro _; change 0 < 64; decide
theorem Unit.spmRecompute : Unit.Statement .spmRecompute := by
  intro _; change 0 < 64; decide
theorem Unit.droopTrimUpdate : Unit.Statement .droopTrimUpdate := by
  intro _; change 0 < 64; decide
theorem Unit.phaseShareTrimWrite : ∀ x0 ph x2, Unit.Statement (.phaseShareTrimWrite x0 ph x2) := by
  intro x0 ph x2 h; change (decide (ph < 24)) = true at h; change ph < 64
  simp only [decide_eq_true_eq] at h; omega
theorem Unit.inputLoss : Unit.Statement .inputLoss := by
  intro _; change 0 < 64; decide
theorem Unit.handoverEnd : Unit.Statement .handoverEnd := by
  intro _; change 0 < 64; decide
theorem Unit.sourceQualified : ∀ x0, Unit.Statement (.sourceQualified x0) := by
  intro x0 _; change 0 < 64; decide
theorem Unit.handbackCommand : ∀ x0 x1, Unit.Statement (.handbackCommand x0 x1) := by
  intro x0 x1 _; change 0 < 64; decide
theorem Unit.handbackStart : Unit.Statement .handbackStart := by
  intro _; change 0 < 64; decide
theorem Unit.handbackRampEnd : Unit.Statement .handbackRampEnd := by
  intro _; change 0 < 64; decide
theorem Unit.feedGateOn : ∀ f, Unit.Statement (.feedGateOn f) := by
  intro f h; change (decide (f < 4)) = true at h; change f < 64
  simp only [decide_eq_true_eq] at h; omega
theorem Unit.feedReverseOff : ∀ f, Unit.Statement (.feedReverseOff f) := by
  intro f h; change (decide (f < 4)) = true at h; change f < 64
  simp only [decide_eq_true_eq] at h; omega
theorem Unit.feedLost : ∀ f, Unit.Statement (.feedLost f) := by
  intro f h; change (decide (f < 4)) = true at h; change f < 64
  simp only [decide_eq_true_eq] at h; omega
theorem Unit.feedEnableOn : ∀ x0 f, Unit.Statement (.feedEnableOn x0 f) := by
  intro x0 f h; change (decide (f < 4)) = true at h; change f < 64
  simp only [decide_eq_true_eq] at h; omega
theorem Unit.feedEnableOff : ∀ x0 f, Unit.Statement (.feedEnableOff x0 f) := by
  intro x0 f h; change (decide (f < 4)) = true at h; change f < 64
  simp only [decide_eq_true_eq] at h; omega
theorem Unit.inrushChop : ∀ f, Unit.Statement (.inrushChop f) := by
  intro f h; change (decide (f < 4)) = true at h; change f < 64
  simp only [decide_eq_true_eq] at h; omega
theorem Unit.inrushOffExpired : ∀ f, Unit.Statement (.inrushOffExpired f) := by
  intro f h; change (decide (f < 4)) = true at h; change f < 64
  simp only [decide_eq_true_eq] at h; omega
theorem Unit.inrushTimeout : ∀ f, Unit.Statement (.inrushTimeout f) := by
  intro f h; change (decide (f < 4)) = true at h; change f < 64
  simp only [decide_eq_true_eq] at h; omega
theorem Unit.gateConfirmExpired : ∀ f, Unit.Statement (.gateConfirmExpired f) := by
  intro f h; change (decide (f < 4)) = true at h; change f < 64
  simp only [decide_eq_true_eq] at h; omega
theorem Unit.gateConfirmTimeout : ∀ f, Unit.Statement (.gateConfirmTimeout f) := by
  intro f h; change (decide (f < 4)) = true at h; change f < 64
  simp only [decide_eq_true_eq] at h; omega
theorem Unit.gateStuckOn : ∀ f, Unit.Statement (.gateStuckOn f) := by
  intro f h; change (decide (f < 4)) = true at h; change f < 64
  simp only [decide_eq_true_eq] at h; omega
theorem Unit.gateFeedbackLost : ∀ f, Unit.Statement (.gateFeedbackLost f) := by
  intro f h; change (decide (f < 4)) = true at h; change f < 64
  simp only [decide_eq_true_eq] at h; omega
theorem Unit.feedShort : ∀ f, Unit.Statement (.feedShort f) := by
  intro f h; change (decide (f < 4)) = true at h; change f < 64
  simp only [decide_eq_true_eq] at h; omega
theorem Unit.feedRetry : ∀ f, Unit.Statement (.feedRetry f) := by
  intro f h; change (decide (f < 4)) = true at h; change f < 64
  simp only [decide_eq_true_eq] at h; omega
theorem Unit.feedRetryReset : ∀ f, Unit.Statement (.feedRetryReset f) := by
  intro f h; change (decide (f < 4)) = true at h; change f < 64
  simp only [decide_eq_true_eq] at h; omega
theorem Unit.meterTimeout : ∀ f, Unit.Statement (.meterTimeout f) := by
  intro f h; change (decide (f < 4)) = true at h; change f < 64
  simp only [decide_eq_true_eq] at h; omega
theorem Unit.estimatorStep : ∀ str, Unit.Statement (.estimatorStep str) := by
  intro str h; change (decide (str < 8)) = true at h; change str < 64
  simp only [decide_eq_true_eq] at h; omega
theorem Unit.unanchoredTimeout : ∀ str, Unit.Statement (.unanchoredTimeout str) := by
  intro str h; change (decide (str < 8)) = true at h; change str < 64
  simp only [decide_eq_true_eq] at h; omega
theorem Unit.probeStart : ∀ str, Unit.Statement (.probeStart str) := by
  intro str h; change (decide (str < 8)) = true at h; change str < 64
  simp only [decide_eq_true_eq] at h; omega
theorem Unit.probeShiftEnd : Unit.Statement .probeShiftEnd := by
  intro _; change 0 < 64; decide
theorem Unit.slackRequest : ∀ x0 str, Unit.Statement (.slackRequest x0 str) := by
  intro x0 str h; change (decide (str < 8)) = true at h; change str < 64
  simp only [decide_eq_true_eq] at h; omega
theorem Unit.slackAutoRequest : ∀ str, Unit.Statement (.slackAutoRequest str) := by
  intro str h; change (decide (str < 8)) = true at h; change str < 64
  simp only [decide_eq_true_eq] at h; omega
theorem Unit.slackAbort : ∀ x0 str, Unit.Statement (.slackAbort x0 str) := by
  intro x0 str h; change (decide (str < 8)) = true at h; change str < 64
  simp only [decide_eq_true_eq] at h; omega
theorem Unit.slackRampDownEnd : ∀ str, Unit.Statement (.slackRampDownEnd str) := by
  intro str h; change (decide (str < 8)) = true at h; change str < 64
  simp only [decide_eq_true_eq] at h; omega
theorem Unit.slackRestPoint : ∀ str, Unit.Statement (.slackRestPoint str) := by
  intro str h; change (decide (str < 8)) = true at h; change str < 64
  simp only [decide_eq_true_eq] at h; omega
theorem Unit.slackComplete : ∀ str, Unit.Statement (.slackComplete str) := by
  intro str h; change (decide (str < 8)) = true at h; change str < 64
  simp only [decide_eq_true_eq] at h; omega
theorem Unit.slackConditionAbort : ∀ str, Unit.Statement (.slackConditionAbort str) := by
  intro str h; change (decide (str < 8)) = true at h; change str < 64
  simp only [decide_eq_true_eq] at h; omega
theorem Unit.slackRefusalTimeout : ∀ str, Unit.Statement (.slackRefusalTimeout str) := by
  intro str h; change (decide (str < 8)) = true at h; change str < 64
  simp only [decide_eq_true_eq] at h; omega
theorem Unit.stringReplaced : ∀ x0 str x2, Unit.Statement (.stringReplaced x0 str x2) := by
  intro x0 str x2 h; change (decide (str < 8)) = true at h; change str < 64
  simp only [decide_eq_true_eq] at h; omega
theorem Unit.estimatorCommit : Unit.Statement .estimatorCommit := by
  intro _; change 0 < 64; decide
theorem Unit.stringInputTimeout : ∀ str x1, Unit.Statement (.stringInputTimeout str x1) := by
  intro str x1 h; change (decide (str < 8)) = true at h; change str < 64
  simp only [decide_eq_true_eq] at h; omega
theorem Unit.auxContactMismatch : ∀ str, Unit.Statement (.auxContactMismatch str) := by
  intro str h; change (decide (str < 8)) = true at h; change str < 64
  simp only [decide_eq_true_eq] at h; omega
theorem Unit.stringShedOpen : ∀ str, Unit.Statement (.stringShedOpen str) := by
  intro str h; change (decide (str < 8)) = true at h; change str < 64
  simp only [decide_eq_true_eq] at h; omega
theorem Unit.chargeCommandStart : ∀ x0 str, Unit.Statement (.chargeCommandStart x0 str) := by
  intro x0 str h; change (decide (str < 8)) = true at h; change str < 64
  simp only [decide_eq_true_eq] at h; omega
theorem Unit.chargeCommandStop : ∀ x0 str, Unit.Statement (.chargeCommandStop x0 str) := by
  intro x0 str h; change (decide (str < 8)) = true at h; change str < 64
  simp only [decide_eq_true_eq] at h; omega
theorem Unit.pulseEnd : ∀ str, Unit.Statement (.pulseEnd str) := by
  intro str h; change (decide (str < 8)) = true at h; change str < 64
  simp only [decide_eq_true_eq] at h; omega
theorem Unit.restEnd : ∀ str, Unit.Statement (.restEnd str) := by
  intro str h; change (decide (str < 8)) = true at h; change str < 64
  simp only [decide_eq_true_eq] at h; omega
theorem Unit.chargeTimerExpired : ∀ str, Unit.Statement (.chargeTimerExpired str) := by
  intro str h; change (decide (str < 8)) = true at h; change str < 64
  simp only [decide_eq_true_eq] at h; omega
theorem Unit.chargePauseTimeout : ∀ str, Unit.Statement (.chargePauseTimeout str) := by
  intro str h; change (decide (str < 8)) = true at h; change str < 64
  simp only [decide_eq_true_eq] at h; omega
theorem Unit.eqRequest : ∀ x0 str, Unit.Statement (.eqRequest x0 str) := by
  intro x0 str h; change (decide (str < 8)) = true at h; change str < 64
  simp only [decide_eq_true_eq] at h; omega
theorem Unit.eqAbort : ∀ x0 str, Unit.Statement (.eqAbort x0 str) := by
  intro x0 str h; change (decide (str < 8)) = true at h; change str < 64
  simp only [decide_eq_true_eq] at h; omega
theorem Unit.finalRestSkip : ∀ str, Unit.Statement (.finalRestSkip str) := by
  intro str h; change (decide (str < 8)) = true at h; change str < 64
  simp only [decide_eq_true_eq] at h; omega
theorem Unit.bsInWindow : Unit.Statement .bsInWindow := by
  intro _; change 0 < 64; decide
theorem Unit.bsSettleExpired : Unit.Statement .bsSettleExpired := by
  intro _; change 0 < 64; decide
theorem Unit.bsTimeout : Unit.Statement .bsTimeout := by
  intro _; change 0 < 64; decide
theorem Unit.layupEntry : ∀ x0 x1, Unit.Statement (.layupEntry x0 x1) := by
  intro x0 x1 _; change 0 < 64; decide
theorem Unit.layupWake : ∀ x0 x1, Unit.Statement (.layupWake x0 x1) := by
  intro x0 x1 _; change 0 < 64; decide
theorem Unit.seqEnd : ∀ g x1, Unit.Statement (.seqEnd g x1) := by
  intro g x1 h; change (decide (g < 4)) = true at h; change g < 64
  simp only [decide_eq_true_eq] at h; omega
theorem Unit.seqOn : ∀ g x1, Unit.Statement (.seqOn g x1) := by
  intro g x1 h; change (decide (g < 4)) = true at h; change g < 64
  simp only [decide_eq_true_eq] at h; omega
theorem Unit.seqOff : ∀ g x1, Unit.Statement (.seqOff g x1) := by
  intro g x1 h; change (decide (g < 4)) = true at h; change g < 64
  simp only [decide_eq_true_eq] at h; omega
theorem Unit.seqWaitgood : ∀ g x1, Unit.Statement (.seqWaitgood g x1) := by
  intro g x1 h; change (decide (g < 4)) = true at h; change g < 64
  simp only [decide_eq_true_eq] at h; omega
theorem Unit.seqWaitlow : ∀ g x1, Unit.Statement (.seqWaitlow g x1) := by
  intro g x1 h; change (decide (g < 4)) = true at h; change g < 64
  simp only [decide_eq_true_eq] at h; omega
theorem Unit.seqDelay : ∀ g x1, Unit.Statement (.seqDelay g x1) := by
  intro g x1 h; change (decide (g < 4)) = true at h; change g < 64
  simp only [decide_eq_true_eq] at h; omega
theorem Unit.seqWaitgroup : ∀ g x1, Unit.Statement (.seqWaitgroup g x1) := by
  intro g x1 h; change (decide (g < 4)) = true at h; change g < 64
  simp only [decide_eq_true_eq] at h; omega
theorem Unit.seqMark : ∀ g x1, Unit.Statement (.seqMark g x1) := by
  intro g x1 h; change (decide (g < 4)) = true at h; change g < 64
  simp only [decide_eq_true_eq] at h; omega
theorem Unit.stageRailStart : ∀ r, Unit.Statement (.stageRailStart r) := by
  intro r h; change (decide (r < 32)) = true at h; change r < 64
  simp only [decide_eq_true_eq] at h; omega
theorem Unit.railRunFault : ∀ r x1, Unit.Statement (.railRunFault r x1) := by
  intro r x1 h; change (decide (r < 32)) = true at h; change r < 64
  simp only [decide_eq_true_eq] at h; omega
theorem Unit.mooredRailFault : ∀ r x1, Unit.Statement (.mooredRailFault r x1) := by
  intro r x1 h; change (decide (r < 32)) = true at h; change r < 64
  simp only [decide_eq_true_eq] at h; omega
theorem Unit.railDescentFault : ∀ r x1, Unit.Statement (.railDescentFault r x1) := by
  intro r x1 h; change (decide (r < 32)) = true at h; change r < 64
  simp only [decide_eq_true_eq] at h; omega
theorem Unit.railDescentOvervoltage : ∀ r, Unit.Statement (.railDescentOvervoltage r) := by
  intro r h; change (decide (r < 32)) = true at h; change r < 64
  simp only [decide_eq_true_eq] at h; omega
theorem Unit.groupRise : ∀ x0 g, Unit.Statement (.groupRise x0 g) := by
  intro x0 g h; change (decide (g < 4)) = true at h; change g < 64
  simp only [decide_eq_true_eq] at h; omega
theorem Unit.groupAbortRise : ∀ x0 g, Unit.Statement (.groupAbortRise x0 g) := by
  intro x0 g h; change (decide (g < 4)) = true at h; change g < 64
  simp only [decide_eq_true_eq] at h; omega
theorem Unit.groupLower : ∀ x0 g, Unit.Statement (.groupLower x0 g) := by
  intro x0 g h; change (decide (g < 4)) = true at h; change g < 64
  simp only [decide_eq_true_eq] at h; omega
theorem Unit.railMarginHigh : ∀ x0 r, Unit.Statement (.railMarginHigh x0 r) := by
  intro x0 r h; change (decide (r < 32)) = true at h; change r < 64
  simp only [decide_eq_true_eq] at h; omega
theorem Unit.railMarginLow : ∀ x0 r, Unit.Statement (.railMarginLow x0 r) := by
  intro x0 r h; change (decide (r < 32)) = true at h; change r < 64
  simp only [decide_eq_true_eq] at h; omega
theorem Unit.railMarginOff : ∀ x0 r, Unit.Statement (.railMarginOff x0 r) := by
  intro x0 r h; change (decide (r < 32)) = true at h; change r < 64
  simp only [decide_eq_true_eq] at h; omega
theorem Unit.thermalDerateUpdate : Unit.Statement .thermalDerateUpdate := by
  intro _; change 0 < 64; decide
theorem Unit.pdmReading : ∀ x0, Unit.Statement (.pdmReading x0) := by
  intro x0 _; change 0 < 64; decide
theorem Unit.vidUpdate : Unit.Statement .vidUpdate := by
  intro _; change 0 < 64; decide
theorem Unit.ageReset : ∀ x0 x1, Unit.Statement (.ageReset x0 x1) := by
  intro x0 x1 _; change 0 < 64; decide
theorem Unit.ronUpdate : Unit.Statement .ronUpdate := by
  intro _; change 0 < 64; decide
theorem Unit.replan : Unit.Statement .replan := by
  intro _; change 0 < 64; decide
theorem Unit.bankCapEstimate : ∀ st x1 x2, Unit.Statement (.bankCapEstimate st x1 x2) := by
  intro st x1 x2 h; change (decide (st < 8)) = true at h; change st < 64
  simp only [decide_eq_true_eq] at h; omega
theorem Unit.ageingCommit : Unit.Statement .ageingCommit := by
  intro _; change 0 < 64; decide
theorem Unit.faultClearWindowEnd : ∀ x0 x1, Unit.Statement (.faultClearWindowEnd x0 x1) := by
  intro x0 x1 _; change 0 < 64; decide
theorem Unit.sevWrite : ∀ x0 region x2, Unit.Statement (.sevWrite x0 region x2) := by
  intro x0 region x2 h; change (decide (1 ≤ region ∧ region ≤ 10)) = true at h; change region < 64
  simp only [decide_eq_true_eq] at h; omega
theorem Unit.sevQueryWrite : ∀ x0 region x2, Unit.Statement (.sevQueryWrite x0 region x2) := by
  intro x0 region x2 h; change (decide (1 ≤ region ∧ region ≤ 10)) = true at h; change region < 64
  simp only [decide_eq_true_eq] at h; omega
theorem Unit.irqPendingClear : ∀ x0 region x2, Unit.Statement (.irqPendingClear x0 region x2) := by
  intro x0 region x2 h; change (decide (1 ≤ region ∧ region ≤ 10)) = true at h; change region < 64
  simp only [decide_eq_true_eq] at h; omega
theorem Unit.lockoutEntry : Unit.Statement .lockoutEntry := by
  intro _; change 0 < 64; decide
theorem Unit.lockstepMismatch : Unit.Statement .lockstepMismatch := by
  intro _; change 0 < 64; decide
theorem Unit.d2dTransferFail : Unit.Statement .d2dTransferFail := by
  intro _; change 0 < 64; decide
theorem Unit.heartbeatSend : Unit.Statement .heartbeatSend := by
  intro _; change 0 < 64; decide
theorem Unit.heartbeatReceived : ∀ x0 x1 x2 x3, Unit.Statement (.heartbeatReceived x0 x1 x2 x3) := by
  intro x0 x1 x2 x3 _; change 0 < 64; decide
theorem Unit.heartbeatMiss : Unit.Statement .heartbeatMiss := by
  intro _; change 0 < 64; decide
theorem Unit.twinAbsentTimeout : Unit.Statement .twinAbsentTimeout := by
  intro _; change 0 < 64; decide
theorem Unit.electionFrameReceived : ∀ x0, Unit.Statement (.electionFrameReceived x0) := by
  intro x0 _; change 0 < 64; decide
theorem Unit.electionFrameSend : Unit.Statement .electionFrameSend := by
  intro _; change 0 < 64; decide
theorem Unit.electionTimeout : Unit.Statement .electionTimeout := by
  intro _; change 0 < 64; decide
theorem Unit.trackingMessageReceived : ∀ x0 x1 x2, Unit.Statement (.trackingMessageReceived x0 x1 x2) := by
  intro x0 x1 x2 _; change 0 < 64; decide
theorem Unit.alignmentSend : Unit.Statement .alignmentSend := by
  intro _; change 0 < 64; decide
theorem Unit.alignmentReceived : ∀ x0 x1 x2 x3, Unit.Statement (.alignmentReceived x0 x1 x2 x3) := by
  intro x0 x1 x2 x3 _; change 0 < 64; decide
theorem Unit.mirrorWriteReceived : ∀ x0 x1 x2 x3 x4 x5, Unit.Statement (.mirrorWriteReceived x0 x1 x2 x3 x4 x5) := by
  intro x0 x1 x2 x3 x4 x5 _; change 0 < 64; decide
theorem Unit.snapshotFragmentReceived : ∀ x0 x1 x2 x3, Unit.Statement (.snapshotFragmentReceived x0 x1 x2 x3) := by
  intro x0 x1 x2 x3 _; change 0 < 64; decide
theorem Unit.imageTransferReceived : ∀ x0 x1 x2 x3 x4, Unit.Statement (.imageTransferReceived x0 x1 x2 x3 x4) := by
  intro x0 x1 x2 x3 x4 _; change 0 < 64; decide
theorem Unit.kopolFrameRetransmit : ∀ x0, Unit.Statement (.kopolFrameRetransmit x0) := by
  intro x0 _; change 0 < 64; decide
theorem Unit.laneDown : ∀ lane, Unit.Statement (.laneDown lane) := by
  intro lane h; change (decide (lane < 2)) = true at h; change lane < 64
  simp only [decide_eq_true_eq] at h; omega
theorem Unit.laneRetrain : ∀ lane x1 x2, Unit.Statement (.laneRetrain lane x1 x2) := by
  intro lane x1 x2 h; change (decide (lane < 2)) = true at h; change lane < 64
  simp only [decide_eq_true_eq] at h; omega
theorem Unit.healthUpdate : Unit.Statement .healthUpdate := by
  intro _; change 0 < 64; decide
theorem Unit.ownNReleased : Unit.Statement .ownNReleased := by
  intro _; change 0 < 64; decide
theorem Unit.ownReadbackFault : Unit.Statement .ownReadbackFault := by
  intro _; change 0 < 64; decide
theorem Unit.engStopSelfRelease : Unit.Statement .engStopSelfRelease := by
  intro _; change 0 < 64; decide
theorem Unit.supStallSelfRelease : Unit.Statement .supStallSelfRelease := by
  intro _; change 0 < 64; decide
theorem Unit.selfReleaseOutputsLow : Unit.Statement .selfReleaseOutputsLow := by
  intro _; change 0 < 64; decide
theorem Unit.handoverRequest : ∀ x0, Unit.Statement (.handoverRequest x0) := by
  intro x0 _; change 0 < 64; decide
theorem Unit.handoverCancel : ∀ x0, Unit.Statement (.handoverCancel x0) := by
  intro x0 _; change 0 < 64; decide
theorem Unit.handoverRelease : Unit.Statement .handoverRelease := by
  intro _; change 0 < 64; decide
theorem Unit.handoverTimeout : Unit.Statement .handoverTimeout := by
  intro _; change 0 < 64; decide
theorem Unit.pairCommonWrite : ∀ x0 x1 x2 x3, Unit.Statement (.pairCommonWrite x0 x1 x2 x3) := by
  intro x0 x1 x2 x3 _; change 0 < 64; decide
theorem Unit.objectWrite : ∀ x0 x1 x2 x3, Unit.Statement (.objectWrite x0 x1 x2 x3) := by
  intro x0 x1 x2 x3 _; change 0 < 64; decide
theorem Unit.sdoRequest : ∀ port srv x2, Unit.Statement (.sdoRequest port srv x2) := by
  intro port srv x2 h; change (decide (port < 2) && decide (1 ≤ srv ∧ srv ≤ 4)) = true at h; change port < 64
  simp only [Bool.and_eq_true, decide_eq_true_eq] at h; omega
theorem Unit.sdoAbortTransfer : ∀ port srv, Unit.Statement (.sdoAbortTransfer port srv) := by
  intro port srv h; change (decide (port < 2) && decide (1 ≤ srv ∧ srv ≤ 4)) = true at h; change port < 64
  simp only [Bool.and_eq_true, decide_eq_true_eq] at h; omega
theorem Unit.sdoSegmentTimeout : ∀ port srv, Unit.Statement (.sdoSegmentTimeout port srv) := by
  intro port srv h; change (decide (port < 2) && decide (1 ≤ srv ∧ srv ≤ 4)) = true at h; change port < 64
  simp only [Bool.and_eq_true, decide_eq_true_eq] at h; omega
theorem Unit.nireoRead : ∀ x0 x1 x2 x3 x4 x5, Unit.Statement (.nireoRead x0 x1 x2 x3 x4 x5) := by
  intro x0 x1 x2 x3 x4 x5 _; change 0 < 64; decide
theorem Unit.nireoWrite : ∀ x0 x1 x2 x3 x4 x5, Unit.Statement (.nireoWrite x0 x1 x2 x3 x4 x5) := by
  intro x0 x1 x2 x3 x4 x5 _; change 0 < 64; decide
theorem Unit.nireoDomainBegin : ∀ x0 x1 x2 x3 x4, Unit.Statement (.nireoDomainBegin x0 x1 x2 x3 x4) := by
  intro x0 x1 x2 x3 x4 _; change 0 < 64; decide
theorem Unit.nireoDomainSegment : ∀ x0 x1 x2 x3 x4 x5, Unit.Statement (.nireoDomainSegment x0 x1 x2 x3 x4 x5) := by
  intro x0 x1 x2 x3 x4 x5 _; change 0 < 64; decide
theorem Unit.nireoDomainEnd : ∀ x0 x1 x2 x3 x4, Unit.Statement (.nireoDomainEnd x0 x1 x2 x3 x4) := by
  intro x0 x1 x2 x3 x4 _; change 0 < 64; decide
theorem Unit.nireoDomainAbort : ∀ x0 x1 x2 x3, Unit.Statement (.nireoDomainAbort x0 x1 x2 x3) := by
  intro x0 x1 x2 x3 _; change 0 < 64; decide
theorem Unit.nireoOpenSession : ∀ src x1, Unit.Statement (.nireoOpenSession src x1) := by
  intro src x1 h; change (decide (src.1 < 5)) = true at h; change src.1 < 64
  simp only [decide_eq_true_eq] at h; omega
theorem Unit.nireoCloseSession : ∀ x0 x1, Unit.Statement (.nireoCloseSession x0 x1) := by
  intro x0 x1 _; change 0 < 64; decide
theorem Unit.nireoBatchWrite : ∀ x0 x1 x2, Unit.Statement (.nireoBatchWrite x0 x1 x2) := by
  intro x0 x1 x2 _; change 0 < 64; decide
theorem Unit.nireoFrameDropped : ∀ port, Unit.Statement (.nireoFrameDropped port) := by
  intro port h; change (decide (port < 5)) = true at h; change port < 64
  simp only [decide_eq_true_eq] at h; omega
theorem Unit.sessionIdleTimeout : ∀ x0, Unit.Statement (.sessionIdleTimeout x0) := by
  intro x0 _; change 0 < 64; decide
theorem Unit.domainWriteIdleTimeout : ∀ x0 x1 x2, Unit.Statement (.domainWriteIdleTimeout x0 x1 x2) := by
  intro x0 x1 x2 _; change 0 < 64; decide
theorem Unit.hsFrameCommand : ∀ x0 x1, Unit.Statement (.hsFrameCommand x0 x1) := by
  intro x0 x1 _; change 0 < 64; decide
theorem Unit.hsStatusCommand : Unit.Statement .hsStatusCommand := by
  intro _; change 0 < 64; decide
theorem Unit.hsResponseCommand : Unit.Statement .hsResponseCommand := by
  intro _; change 0 < 64; decide
theorem Unit.accessChallengeRead : ∀ x0, Unit.Statement (.accessChallengeRead x0) := by
  intro x0 _; change 0 < 64; decide
theorem Unit.accessResponse : ∀ x0 x1 x2, Unit.Statement (.accessResponse x0 x1 x2) := by
  intro x0 x1 x2 _; change 0 < 64; decide
theorem Unit.accessDrop : ∀ x0 x1, Unit.Statement (.accessDrop x0 x1) := by
  intro x0 x1 _; change 0 < 64; decide
theorem Unit.accessIdleTimeout : ∀ x0, Unit.Statement (.accessIdleTimeout x0) := by
  intro x0 _; change 0 < 64; decide
theorem Unit.storeSave : ∀ x0 x1, Unit.Statement (.storeSave x0 x1) := by
  intro x0 x1 _; change 0 < 64; decide
theorem Unit.restoreLoad : ∀ x0 x1, Unit.Statement (.restoreLoad x0 x1) := by
  intro x0 x1 _; change 0 < 64; decide
theorem Unit.legacyModeWrite : ∀ x0 x1, Unit.Statement (.legacyModeWrite x0 x1) := by
  intro x0 x1 _; change 0 < 64; decide
theorem Unit.nmtStart : ∀ port, Unit.Statement (.nmtStart port) := by
  intro port h; change (decide (port < 2)) = true at h; change port < 64
  simp only [decide_eq_true_eq] at h; omega
theorem Unit.nmtStop : ∀ port, Unit.Statement (.nmtStop port) := by
  intro port h; change (decide (port < 2)) = true at h; change port < 64
  simp only [decide_eq_true_eq] at h; omega
theorem Unit.nmtEnterPreOperational : ∀ port, Unit.Statement (.nmtEnterPreOperational port) := by
  intro port h; change (decide (port < 2)) = true at h; change port < 64
  simp only [decide_eq_true_eq] at h; omega
theorem Unit.nmtResetNode : ∀ port, Unit.Statement (.nmtResetNode port) := by
  intro port h; change (decide (port < 2)) = true at h; change port < 64
  simp only [decide_eq_true_eq] at h; omega
theorem Unit.nmtResetCommunication : ∀ port, Unit.Statement (.nmtResetCommunication port) := by
  intro port h; change (decide (port < 2)) = true at h; change port < 64
  simp only [decide_eq_true_eq] at h; omega
theorem Unit.lssSwitchState : ∀ port x1 x2 x3, Unit.Statement (.lssSwitchState port x1 x2 x3) := by
  intro port x1 x2 x3 h; change (decide (port < 2)) = true at h; change port < 64
  simp only [decide_eq_true_eq] at h; omega
theorem Unit.lssConfigureNodeId : ∀ port x1, Unit.Statement (.lssConfigureNodeId port x1) := by
  intro port x1 h; change (decide (port < 2)) = true at h; change port < 64
  simp only [decide_eq_true_eq] at h; omega
theorem Unit.lssConfigureBitTiming : ∀ port x1, Unit.Statement (.lssConfigureBitTiming port x1) := by
  intro port x1 h; change (decide (port < 2)) = true at h; change port < 64
  simp only [decide_eq_true_eq] at h; omega
theorem Unit.lssStore : ∀ port, Unit.Statement (.lssStore port) := by
  intro port h; change (decide (port < 2)) = true at h; change port < 64
  simp only [decide_eq_true_eq] at h; omega
theorem Unit.lssInquire : ∀ port x1, Unit.Statement (.lssInquire port x1) := by
  intro port x1 h; change (decide (port < 2)) = true at h; change port < 64
  simp only [decide_eq_true_eq] at h; omega
theorem Unit.lssFastscan : ∀ port x1 x2 x3 x4, Unit.Statement (.lssFastscan port x1 x2 x3 x4) := by
  intro port x1 x2 x3 x4 h; change (decide (port < 2)) = true at h; change port < 64
  simp only [decide_eq_true_eq] at h; omega
theorem Unit.syncProduce : Unit.Statement .syncProduce := by
  intro _; change 0 < 64; decide
theorem Unit.syncReceived : ∀ port, Unit.Statement (.syncReceived port) := by
  intro port h; change (decide (port < 2)) = true at h; change port < 64
  simp only [decide_eq_true_eq] at h; omega
theorem Unit.timeProduce : Unit.Statement .timeProduce := by
  intro _; change 0 < 64; decide
theorem Unit.rpdoReceived : ∀ port n x2, Unit.Statement (.rpdoReceived port n x2) := by
  intro port n x2 h; change (decide (port < 2) && decide (n < 32)) = true at h; change port < 64
  simp only [Bool.and_eq_true, decide_eq_true_eq] at h; omega
theorem Unit.tpdoEvent : ∀ n, Unit.Statement (.tpdoEvent n) := by
  intro n h; change (decide (n < 32)) = true at h; change n < 64
  simp only [decide_eq_true_eq] at h; omega
theorem Unit.tpdoEventTimer : ∀ n, Unit.Statement (.tpdoEventTimer n) := by
  intro n h; change (decide (n < 32)) = true at h; change n < 64
  simp only [decide_eq_true_eq] at h; omega
theorem Unit.canHeartbeatProduce : ∀ port, Unit.Statement (.canHeartbeatProduce port) := by
  intro port h; change (decide (port < 2)) = true at h; change port < 64
  simp only [decide_eq_true_eq] at h; omega
theorem Unit.canHeartbeatConsumerTimeout : ∀ port x1, Unit.Statement (.canHeartbeatConsumerTimeout port x1) := by
  intro port x1 h; change (decide (port < 2)) = true at h; change port < 64
  simp only [decide_eq_true_eq] at h; omega
theorem Unit.canBusOff : ∀ port, Unit.Statement (.canBusOff port) := by
  intro port h; change (decide (port < 2)) = true at h; change port < 64
  simp only [decide_eq_true_eq] at h; omega
theorem Unit.canBusOffRecovery : ∀ port, Unit.Statement (.canBusOffRecovery port) := by
  intro port h; change (decide (port < 2)) = true at h; change port < 64
  simp only [decide_eq_true_eq] at h; omega
theorem Unit.ethLinkDown : ∀ port, Unit.Statement (.ethLinkDown port) := by
  intro port h; change (decide (port < 2)) = true at h; change port < 64
  simp only [decide_eq_true_eq] at h; omega
theorem Unit.ethArpRequest : ∀ port x1, Unit.Statement (.ethArpRequest port x1) := by
  intro port x1 h; change (decide (port < 2)) = true at h; change port < 64
  simp only [decide_eq_true_eq] at h; omega
theorem Unit.icmpEchoRequest : ∀ port x1, Unit.Statement (.icmpEchoRequest port x1) := by
  intro port x1 h; change (decide (port < 2)) = true at h; change port < 64
  simp only [decide_eq_true_eq] at h; omega
theorem Unit.ptpSyncSend : ∀ port, Unit.Statement (.ptpSyncSend port) := by
  intro port h; change (decide (port < 2)) = true at h; change port < 64
  simp only [decide_eq_true_eq] at h; omega
theorem Unit.ptpAnnounceSend : ∀ port, Unit.Statement (.ptpAnnounceSend port) := by
  intro port h; change (decide (port < 2)) = true at h; change port < 64
  simp only [decide_eq_true_eq] at h; omega
theorem Unit.ptpDelayReqReceived : ∀ port x1, Unit.Statement (.ptpDelayReqReceived port x1) := by
  intro port x1 h; change (decide (port < 2)) = true at h; change port < 64
  simp only [decide_eq_true_eq] at h; omega
theorem Unit.ptpAnnounceReceived : ∀ port x1, Unit.Statement (.ptpAnnounceReceived port x1) := by
  intro port x1 h; change (decide (port < 2)) = true at h; change port < 64
  simp only [decide_eq_true_eq] at h; omega
theorem Unit.ptpAnnounceTimeout : ∀ port, Unit.Statement (.ptpAnnounceTimeout port) := by
  intro port h; change (decide (port < 2)) = true at h; change port < 64
  simp only [decide_eq_true_eq] at h; omega
theorem Unit.timeSetSeconds : ∀ x0 x1, Unit.Statement (.timeSetSeconds x0 x1) := by
  intro x0 x1 _; change 0 < 64; decide
theorem Unit.ppsEdge : Unit.Statement .ppsEdge := by
  intro _; change 0 < 64; decide
theorem Unit.phaseAdjust : ∀ x0 x1, Unit.Statement (.phaseAdjust x0 x1) := by
  intro x0 x1 _; change 0 < 64; decide
theorem Unit.traceableWrite : ∀ x0 x1, Unit.Statement (.traceableWrite x0 x1) := by
  intro x0 x1 _; change 0 < 64; decide
theorem Unit.traceableTimeout : Unit.Statement .traceableTimeout := by
  intro _; change 0 < 64; decide
theorem Unit.holdoverEnd : Unit.Statement .holdoverEnd := by
  intro _; change 0 < 64; decide
theorem Unit.twScan : ∀ port x1, Unit.Statement (.twScan port x1) := by
  intro port x1 h; change (decide (port < 4)) = true at h; change port < 64
  simp only [decide_eq_true_eq] at h; omega
theorem Unit.berthPresenceLow : ∀ b, Unit.Statement (.berthPresenceLow b) := by
  intro b h; change (decide (b < 64)) = true at h; change b < 64
  simp only [decide_eq_true_eq] at h; omega
theorem Unit.berthPresenceHigh : ∀ b, Unit.Statement (.berthPresenceHigh b) := by
  intro b h; change (decide (b < 64)) = true at h; change b < 64
  simp only [decide_eq_true_eq] at h; omega
theorem Unit.berthDisable : ∀ x0 b, Unit.Statement (.berthDisable x0 b) := by
  intro x0 b h; change (decide (b < 64)) = true at h; change b < 64
  simp only [decide_eq_true_eq] at h; omega
theorem Unit.alertResponseRead : ∀ port x1, Unit.Statement (.alertResponseRead port x1) := by
  intro port x1 h; change (decide (port < 4)) = true at h; change port < 64
  simp only [decide_eq_true_eq] at h; omega
theorem Unit.hostNotifyReceived : ∀ port x1 x2, Unit.Statement (.hostNotifyReceived port x1 x2) := by
  intro port x1 x2 h; change (decide (port < 4)) = true at h; change port < 64
  simp only [decide_eq_true_eq] at h; omega
theorem Unit.mailboxBlockWrite : ∀ port x1 x2 x3, Unit.Statement (.mailboxBlockWrite port x1 x2 x3) := by
  intro port x1 x2 x3 h; change (decide (port < 4)) = true at h; change port < 64
  simp only [decide_eq_true_eq] at h; omega
theorem Unit.mailboxBlockRead : ∀ port, Unit.Statement (.mailboxBlockRead port) := by
  intro port h; change (decide (port < 4)) = true at h; change port < 64
  simp only [decide_eq_true_eq] at h; omega
theorem Unit.twTransactionBoundary : ∀ port, Unit.Statement (.twTransactionBoundary port) := by
  intro port h; change (decide (port < 4)) = true at h; change port < 64
  simp only [decide_eq_true_eq] at h; omega
theorem Unit.twArbitrationLost : ∀ port, Unit.Statement (.twArbitrationLost port) := by
  intro port h; change (decide (port < 4)) = true at h; change port < 64
  simp only [decide_eq_true_eq] at h; omega
theorem Unit.twSclTimeout : ∀ port, Unit.Statement (.twSclTimeout port) := by
  intro port h; change (decide (port < 4)) = true at h; change port < 64
  simp only [decide_eq_true_eq] at h; omega
theorem Unit.twBusRecovery : ∀ port x1, Unit.Statement (.twBusRecovery port x1) := by
  intro port x1 h; change (decide (port < 4)) = true at h; change port < 64
  simp only [decide_eq_true_eq] at h; omega
theorem Unit.pollRunDue : ∀ b, Unit.Statement (.pollRunDue b) := by
  intro b h; change (decide (b < 64)) = true at h; change b < 64
  simp only [decide_eq_true_eq] at h; omega
theorem Unit.scriptEnd : ∀ port, Unit.Statement (.scriptEnd port) := by
  intro port h; change (decide (port < 4)) = true at h; change port < 64
  simp only [decide_eq_true_eq] at h; omega
theorem Unit.scriptPage : ∀ port x1, Unit.Statement (.scriptPage port x1) := by
  intro port x1 h; change (decide (port < 4)) = true at h; change port < 64
  simp only [decide_eq_true_eq] at h; omega
theorem Unit.scriptRdb : ∀ port x1 x2 x3, Unit.Statement (.scriptRdb port x1 x2 x3) := by
  intro port x1 x2 x3 h; change (decide (port < 4)) = true at h; change port < 64
  simp only [decide_eq_true_eq] at h; omega
theorem Unit.scriptRdw : ∀ port x1 x2 x3, Unit.Statement (.scriptRdw port x1 x2 x3) := by
  intro port x1 x2 x3 h; change (decide (port < 4)) = true at h; change port < 64
  simp only [decide_eq_true_eq] at h; omega
theorem Unit.scriptRdk : ∀ port x1 x2 x3, Unit.Statement (.scriptRdk port x1 x2 x3) := by
  intro port x1 x2 x3 h; change (decide (port < 4)) = true at h; change port < 64
  simp only [decide_eq_true_eq] at h; omega
theorem Unit.scriptWrb : ∀ port x1, Unit.Statement (.scriptWrb port x1) := by
  intro port x1 h; change (decide (port < 4)) = true at h; change port < 64
  simp only [decide_eq_true_eq] at h; omega
theorem Unit.scriptWrw : ∀ port x1, Unit.Statement (.scriptWrw port x1) := by
  intro port x1 h; change (decide (port < 4)) = true at h; change port < 64
  simp only [decide_eq_true_eq] at h; omega
theorem Unit.scriptSnd : ∀ port x1, Unit.Statement (.scriptSnd port x1) := by
  intro port x1 h; change (decide (port < 4)) = true at h; change port < 64
  simp only [decide_eq_true_eq] at h; omega
theorem Unit.scriptCnv : ∀ port, Unit.Statement (.scriptCnv port) := by
  intro port h; change (decide (port < 4)) = true at h; change port < 64
  simp only [decide_eq_true_eq] at h; omega
theorem Unit.scriptTst : ∀ port, Unit.Statement (.scriptTst port) := by
  intro port h; change (decide (port < 4)) = true at h; change port < 64
  simp only [decide_eq_true_eq] at h; omega
theorem Unit.scriptRep : ∀ port, Unit.Statement (.scriptRep port) := by
  intro port h; change (decide (port < 4)) = true at h; change port < 64
  simp only [decide_eq_true_eq] at h; omega
theorem Unit.scriptWait : ∀ port, Unit.Statement (.scriptWait port) := by
  intro port h; change (decide (port < 4)) = true at h; change port < 64
  simp only [decide_eq_true_eq] at h; omega
theorem Unit.scriptXtr : ∀ port, Unit.Statement (.scriptXtr port) := by
  intro port h; change (decide (port < 4)) = true at h; change port < 64
  simp only [decide_eq_true_eq] at h; omega
theorem Unit.partnerCommandSend : ∀ port x1 x2 x3, Unit.Statement (.partnerCommandSend port x1 x2 x3) := by
  intro port x1 x2 x3 h; change (decide (port < 4)) = true at h; change port < 64
  simp only [decide_eq_true_eq] at h; omega
theorem Unit.hostCommand : ∀ x0 b x2, Unit.Statement (.hostCommand x0 b x2) := by
  intro x0 b x2 h; change (decide (b < 64)) = true at h; change b < 64
  simp only [decide_eq_true_eq] at h; omega
theorem Unit.listenedTransaction : ∀ port x1, Unit.Statement (.listenedTransaction port x1) := by
  intro port x1 h; change (decide (port < 4)) = true at h; change port < 64
  simp only [decide_eq_true_eq] at h; omega
theorem Unit.trainCommand : ∀ x0 x1 x2, Unit.Statement (.trainCommand x0 x1 x2) := by
  intro x0 x1 x2 _; change 0 < 64; decide
theorem Unit.dramFillComplete : Unit.Statement .dramFillComplete := by
  intro _; change 0 < 64; decide
theorem Unit.dramRead : ∀ x0 x1 x2 x3, Unit.Statement (.dramRead x0 x1 x2 x3) := by
  intro x0 x1 x2 x3 _; change 0 < 64; decide
theorem Unit.dramWrite : ∀ x0 x1 x2 x3, Unit.Statement (.dramWrite x0 x1 x2 x3) := by
  intro x0 x1 x2 x3 _; change 0 < 64; decide
theorem Unit.scrubBurst : ∀ x0, Unit.Statement (.scrubBurst x0) := by
  intro x0 _; change 0 < 64; decide
theorem Unit.scrubLapOverdue : Unit.Statement .scrubLapOverdue := by
  intro _; change 0 < 64; decide
theorem Unit.bucketLeakTick : ∀ x0, Unit.Statement (.bucketLeakTick x0) := by
  intro x0 _; change 0 < 64; decide
theorem Unit.eccModeChange : ∀ x0 x1, Unit.Statement (.eccModeChange x0 x1) := by
  intro x0 x1 _; change 0 < 64; decide
theorem Unit.flipArm : ∀ x0 x1, Unit.Statement (.flipArm x0 x1) := by
  intro x0 x1 _; change 0 < 64; decide
theorem Unit.dramAlert : ∀ rank, Unit.Statement (.dramAlert rank) := by
  intro rank h; change (decide (rank < 2)) = true at h; change rank < 64
  simp only [decide_eq_true_eq] at h; omega
theorem Unit.sramUncorrectable : ∀ region x1 x2, Unit.Statement (.sramUncorrectable region x1 x2) := by
  intro region x1 x2 h; change (decide (region < 10)) = true at h; change region < 64
  simp only [decide_eq_true_eq] at h; omega
theorem Unit.mramWrite : ∀ x0 x1 x2 x3, Unit.Statement (.mramWrite x0 x1 x2 x3) := by
  intro x0 x1 x2 x3 _; change 0 < 64; decide
theorem Unit.mramReadUe : ∀ x0, Unit.Statement (.mramReadUe x0) := by
  intro x0 _; change 0 < 64; decide
theorem Unit.recordArrival : ∀ x0, Unit.Statement (.recordArrival x0) := by
  intro x0 _; change 0 < 64; decide
theorem Unit.recordCommit : Unit.Statement .recordCommit := by
  intro _; change 0 < 64; decide
theorem Unit.freezeStart : ∀ x0, Unit.Statement (.freezeStart x0) := by
  intro x0 _; change 0 < 64; decide
theorem Unit.freezeAbort : ∀ x0, Unit.Statement (.freezeAbort x0) := by
  intro x0 _; change 0 < 64; decide
theorem Unit.freezeRelease : ∀ x0, Unit.Statement (.freezeRelease x0) := by
  intro x0 _; change 0 < 64; decide
theorem Unit.freezeLimitExpired : Unit.Statement .freezeLimitExpired := by
  intro _; change 0 < 64; decide
theorem Unit.readFromWrite : ∀ x0 x1, Unit.Statement (.readFromWrite x0 x1) := by
  intro x0 x1 _; change 0 < 64; decide
theorem Unit.readBlock : ∀ x0, Unit.Statement (.readBlock x0) := by
  intro x0 _; change 0 < 64; decide
theorem Unit.captureFrame : ∀ x0, Unit.Statement (.captureFrame x0) := by
  intro x0 _; change 0 < 64; decide
theorem Unit.captureTrigger : ∀ x0 x1 x2 md x4, Unit.Statement (.captureTrigger x0 x1 x2 md x4) := by
  intro x0 x1 x2 md x4 h; change (decide (x0 < 4) && decide (md < 48)) = true at h; change md < 64
  simp only [Bool.and_eq_true, decide_eq_true_eq] at h; omega
theorem Unit.triggerNow : ∀ x0, Unit.Statement (.triggerNow x0) := by
  intro x0 _; change 0 < 64; decide
theorem Unit.windowLastFrame : ∀ w, Unit.Statement (.windowLastFrame w) := by
  intro w h; change (decide (w < 10)) = true at h; change w < 64
  simp only [decide_eq_true_eq] at h; omega
theorem Unit.windowCommit : ∀ p, Unit.Statement (.windowCommit p) := by
  intro p h; change (decide (p.window < 10)) = true at h; change p.window < 64
  simp only [decide_eq_true_eq] at h; omega
theorem Unit.windowAbandon : ∀ w, Unit.Statement (.windowAbandon w) := by
  intro w h; change (decide (w < 10)) = true at h; change w < 64
  simp only [decide_eq_true_eq] at h; omega
theorem Unit.windowRelease : ∀ x0 w x2, Unit.Statement (.windowRelease x0 w x2) := by
  intro x0 w x2 h; change (decide (w < 10)) = true at h; change w < 64
  simp only [decide_eq_true_eq] at h; omega
theorem Unit.updateTransferComplete : Unit.Statement .updateTransferComplete := by
  intro _; change 0 < 64; decide
theorem Unit.updateChecksDone : ∀ x0 x1 x2 x3, Unit.Statement (.updateChecksDone x0 x1 x2 x3) := by
  intro x0 x1 x2 x3 _; change 0 < 64; decide
theorem Unit.updateAbort : ∀ x0 x1, Unit.Statement (.updateAbort x0 x1) := by
  intro x0 x1 _; change 0 < 64; decide
theorem Unit.hitlessStart : ∀ x0, Unit.Statement (.hitlessStart x0) := by
  intro x0 _; change 0 < 64; decide
theorem Unit.hitlessAbort : ∀ x0, Unit.Statement (.hitlessAbort x0) := by
  intro x0 _; change 0 < 64; decide
theorem Unit.hitlessCommitPoint : Unit.Statement .hitlessCommitPoint := by
  intro _; change 0 < 64; decide
theorem Unit.hitlessResume : Unit.Statement .hitlessResume := by
  intro _; change 0 < 64; decide
theorem Unit.hitlessResumeTimeout : Unit.Statement .hitlessResumeTimeout := by
  intro _; change 0 < 64; decide
theorem Unit.hitlessRevertTimeout : Unit.Statement .hitlessRevertTimeout := by
  intro _; change 0 < 64; decide
theorem Unit.pairUpdateStart : ∀ x0, Unit.Statement (.pairUpdateStart x0) := by
  intro x0 _; change 0 < 64; decide
theorem Unit.pairUpdateAbort : ∀ x0, Unit.Statement (.pairUpdateAbort x0) := by
  intro x0 _; change 0 < 64; decide
theorem Unit.pilotExit : ∀ x0 x1 x2, Unit.Statement (.pilotExit x0 x1 x2) := by
  intro x0 x1 x2 _; change 0 < 64; decide
theorem Unit.xtalFail : Unit.Statement .xtalFail := by
  intro _; change 0 < 64; decide
theorem Unit.xtalRetry : ∀ x0, Unit.Statement (.xtalRetry x0) := by
  intro x0 _; change 0 < 64; decide
theorem Unit.porAsserted : Unit.Statement .porAsserted := by
  intro _; change 0 < 64; decide
theorem Unit.ethLinkUp : ∀ port x1, Unit.Statement (.ethLinkUp port x1) := by
  intro port x1 h; change (decide (port < 2)) = true at h; change port < 64
  simp only [decide_eq_true_eq] at h; omega
theorem Unit.ethFrameDropped : ∀ port, Unit.Statement (.ethFrameDropped port) := by
  intro port h; change (decide (port < 2)) = true at h; change port < 64
  simp only [decide_eq_true_eq] at h; omega
theorem Unit.nireoCanFdSegment : ∀ port x1 x2 x3, Unit.Statement (.nireoCanFdSegment port x1 x2 x3) := by
  intro port x1 x2 x3 h; change (decide (port < 2) && decide (x1 < 0x20000000) && decide (x3.length ≤ 63)) = true at h; change port < 64
  simp only [Bool.and_eq_true, decide_eq_true_eq] at h; omega
theorem Unit.canHeartbeatReceived : ∀ port x1, Unit.Statement (.canHeartbeatReceived port x1) := by
  intro port x1 h; change (decide (port < 2)) = true at h; change port < 64
  simp only [decide_eq_true_eq] at h; omega
theorem Unit.emcyInhibitExpired : ∀ port, Unit.Statement (.emcyInhibitExpired port) := by
  intro port h; change (decide (port < 2)) = true at h; change port < 64
  simp only [decide_eq_true_eq] at h; omega
theorem Unit.tpdoInhibitExpired : ∀ n, Unit.Statement (.tpdoInhibitExpired n) := by
  intro n h; change (decide (n < 32)) = true at h; change n < 64
  simp only [decide_eq_true_eq] at h; omega
theorem Unit.sramScrubRead : ∀ region x1 x2, Unit.Statement (.sramScrubRead region x1 x2) := by
  intro region x1 x2 h; change (decide (region < 10)) = true at h; change region < 64
  simp only [decide_eq_true_eq] at h; omega
theorem Unit.mailboxBlockTaken : ∀ port, Unit.Statement (.mailboxBlockTaken port) := by
  intro port h; change (decide (port < 4)) = true at h; change port < 64
  simp only [decide_eq_true_eq] at h; omega
theorem Unit.stageRailRiseTimeout : ∀ r, Unit.Statement (.stageRailRiseTimeout r) := by
  intro r h; change (decide (r < 32)) = true at h; change r < 64
  simp only [decide_eq_true_eq] at h; omega
theorem Unit.supervisoryCoresResume : Unit.Statement .supervisoryCoresResume := by
  intro _; change 0 < 64; decide

end Sys2Proof.Laws
end

