-- ==== Sys2Proof/Laws/Raise.lean ====
section
/-! SUPPORT. What raising and clearing a fault source does: the source is active after a raise, and what a raise leaves alone. -/
namespace Sys2Proof.Machine

/-- What every operation of a list leaves alone, the list leaves alone. -/
theorem forUnits_keeps {α : Type} (f : State → α) (g : State → Nat → State) (l : List Nat) (h : ∀ t n, f (g t n) = f t) (s : State) :
    f (forUnits l g s) = f s := by
  unfold forUnits
  induction l generalizing s with
  | nil => rfl
  | cons x xs ih => exact (ih (g s x)).trans (h s x)

/-- The keys of the active sources. -/
def Faults.keys (v : Faults) : List Key := v.active.map (·.key)

/-- A view of the state that reads none of the units a SHED acts on: the phases, the instances and their engines, the stages, the strings, the feeds and the inputs. -/
structure UnitsKeep {α : Type} (f : State → α) : Prop where
  units : ∀ (t : State) ps is es ss st fs gs ms, f { t with phases := ps, insts := is, engines := es, stages := ss, strs := st, feeds := fs, groups := gs, mods := ms } = f t

/-- A view of the state that the operations of a SHED leave alone: they act on units, and on the fault list with its keys kept. -/
structure ShedKeeps {α : Type} (f : State → α) : Prop extends UnitsKeep f where
  faults : ∀ (t : State) (v : Faults), v.keys = t.faults.keys → f { t with faults := v } = f t

/-- A view that a raise leaves alone: besides the SHED's, it acts on the whole fault list, the network, the logbook and the pending reactions. -/
structure RaiseKeeps {α : Type} (f : State → α) : Prop extends UnitsKeep f where
  faults : ∀ (t : State) (v : Faults), f { t with faults := v } = f t
  can : ∀ t n v, f (t.setCan n v) = f t
  history : ∀ (t : State) h, f { t with net := { t.net with history := h } } = f t
  log : ∀ (t : State) v, f { t with log := v } = f t
  mode : ∀ (t : State) p q r, f { t with mode := { t.mode with pendingTrip := p, pendingLockout := q, lockoutCause := r } } = f t

theorem RaiseKeeps.shed {α : Type} {f : State → α} (h : RaiseKeeps f) : ShedKeeps f := { h with faults := fun t v _ => h.faults t v }

section
variable {α : Type} {f : State → α} (h : ShedKeeps f) (t : State) (n : Nat)
include h

theorem ShedKeeps.phase (v) : f (t.setPhase n v) = f t := h.units t _ t.insts t.engines t.stages t.strs t.feeds t.groups t.mods
theorem ShedKeeps.inst (v) : f (t.setInst n v) = f t := h.units t t.phases _ t.engines t.stages t.strs t.feeds t.groups t.mods
theorem ShedKeeps.engines (v) : f { t with engines := v } = f t := h.units t t.phases t.insts v t.stages t.strs t.feeds t.groups t.mods
theorem ShedKeeps.stage (v) : f (t.setStage n v) = f t := h.units t t.phases t.insts t.engines _ t.strs t.feeds t.groups t.mods
theorem ShedKeeps.str (v) : f (t.setStr n v) = f t := h.units t t.phases t.insts t.engines t.stages _ t.feeds t.groups t.mods
theorem ShedKeeps.feed (v) : f (t.setFeed n v) = f t := h.units t t.phases t.insts t.engines t.stages t.strs _ t.groups t.mods
theorem ShedKeeps.group (v) : f (t.setGroup n v) = f t := h.units t t.phases t.insts t.engines t.stages t.strs t.feeds _ t.mods
theorem ShedKeeps.mod (v) : f (t.setMod n v) = f t := h.units t t.phases t.insts t.engines t.stages t.strs t.feeds t.groups _

end

theorem keys_map (v : Faults) (g : ActiveSrc → ActiveSrc) (hg : ∀ a, (g a).key = a.key) : ({ v with active := v.active.map g } : Faults).keys = v.keys := by
  simp only [Faults.keys, List.map_map]
  exact List.map_congr_left fun a _ => hg a

theorem clearing_keeps {α : Type} {f : State → α} (h : ShedKeeps f) (s : State) (k : Key) : f (s.clearing k) = f s :=
  h.faults s _ (keys_map _ _ fun a => by split <;> rfl)

theorem stopInst_keeps {α : Type} {f : State → α} (h : ShedKeeps f) (s : State) (l : Nat) : f (s.stopInst l) = f s :=
  (h.engines _ _).trans (h.inst _ _ _)

/-- Stopping a stage acts through its phases, its instances, their engines, the hold source and the stage alone. -/
theorem stopStage_keeps {α : Type} {f : State → α} (h : ShedKeeps f) (s : State) (u : UState) (n : Nat) : f (s.stopStage u n) = f s := by
  unfold State.stopStage
  refine (h.stage _ _ _).trans ?_
  have h1 : ∀ l, f (forUnits l (fun s l => s.stopInst l) (forUnits (s.stagePhases n) (fun s p => s.setPhase p (s.phase p).low) s)) = f s := fun l =>
    (forUnits_keeps f _ l (fun t n => stopInst_keeps h t n) _).trans (forUnits_keeps f _ _ (fun t n => h.phase t n _) _)
  split
  · exact (clearing_keeps h _ _).trans (h1 _)
  · exact h1 _

theorem shedStage_keeps {α : Type} {f : State → α} (h : ShedKeeps f) (s : State) (n : Nat) : f (s.shedStage n) = f s := by
  unfold State.shedStage
  split
  · exact stopStage_keeps h _ _ _
  · rfl

theorem shedInst_keeps {α : Type} {f : State → α} (h : ShedKeeps f) (s : State) (r : LoopRec) : f (s.shedInst r) = f s := by
  unfold State.shedInst
  split
  · exact (stopInst_keeps h _ _).trans (h.inst _ _ _)
  · exact shedStage_keeps h _ _

theorem shedFeed_keeps {α : Type} {f : State → α} (h : ShedKeeps f) (s : State) (n : Nat) : f (s.shedFeed n) = f s := by
  unfold State.shedFeed State.gateOff
  exact (h.feed _ _ _).trans (h.feed _ _ _)

theorem shedGroup_keeps {α : Type} {f : State → α} (h : ShedKeeps f) (s : State) (n : Nat) : f (s.shedGroup n) = f s := by
  unfold State.shedGroup
  refine (forUnits_keeps f _ _ (fun t n => h.mod t n _) _).trans ((h.faults (s.setGroup n _) _ ?_).trans (h.group _ _ _))
  exact keys_map _ _ fun a => by split <;> rfl

theorem shedString_keeps {α : Type} {f : State → α} (h : ShedKeeps f) (s : State) (n : Nat) : f (s.shedString n) = f s := by
  unfold State.shedString
  simp only []
  split
  · exact (stopStage_keeps h _ _ _).trans (h.str _ _ _)
  · exact h.str _ _ _

theorem listShed_keeps {α : Type} {f : State → α} (h : ShedKeeps f) (s : State) (k : Key) : f (s.listShed k) = f s := h.faults s _ rfl

/-- What a SHED leaves alone (R28, R139, R321). -/
theorem shedReaction_keeps {α : Type} {f : State → α} (h : ShedKeeps f) (s : State) (k : Key) : f (s.shedReaction k) = f s := by
  have hl : ∀ (l : List LoopRec) (t : State), f (l.foldl (fun t r => t.shedInst r) t) = f t := by
    intro l
    induction l with
    | nil => intro t; rfl
    | cons x xs ih => intro t; exact (ih _).trans (shedInst_keeps h t x)
  unfold State.shedReaction
  split
  · exact shedStage_keeps h _ _
  split
  · exact shedFeed_keeps h _ _
  split
  · exact shedStage_keeps h _ _
  split
  · exact (stopInst_keeps h _ _).trans (h.inst _ _ _)
  split
  · exact (listShed_keeps h _ _).trans (hl _ _)
  split
  · exact shedString_keeps h _ _
  split
  · exact shedGroup_keeps h _ _
  split
  · exact (listShed_keeps h _ _).trans (forUnits_keeps f _ _ (fun t n => shedStage_keeps h t n) _)
  · exact listShed_keeps h _ _

/-- What offering an EMCY to a port leaves alone: all but the faults' queues and the network. -/
theorem offerEmcy_keeps {α : Type} (f : State → α) (hc : ∀ t n v, f (t.setCan n v) = f t)
    (hx : ∀ (t : State) (v : Faults), v.active = t.faults.active → v.regions = t.faults.regions → f { t with faults := v } = f t) (s : State) (e : Emcy) (p : Nat) :
    f (s.offerEmcy e p) = f s := by
  have h : f (s.settleDrop p e.key) = f s := hx s _ rfl rfl
  unfold State.offerEmcy
  split
  · exact h
  split
  · refine Eq.trans ?_ h
    generalize s.settleDrop p e.key = u
    unfold State.placeEmcy
    simp only []
    split
    · exact (hx (u.sendCan p (u.emcyCob p) e.bytes) (u.sendEmcy p e).faults rfl rfl).trans (hc _ _ _)
    · split
      · exact hx u _ rfl rfl
      · split <;> exact hx u _ rfl rfl
  · exact h

/-- What an EMCY leaves alone. -/
theorem emcy_keeps {α : Type} (f : State → α) (hc : ∀ t n v, f (t.setCan n v) = f t) (hn : ∀ (t : State) h, f { t with net := { t.net with history := h } } = f t)
    (hx : ∀ (t : State) (v : Faults), v.active = t.faults.active → v.regions = t.faults.regions → f { t with faults := v } = f t) (s : State) (k : Key) (c e : Nat) :
    f (s.emcy k c e) = f s := by
  unfold State.emcy
  exact (forUnits_keeps f _ _ (fun t n => offerEmcy_keeps f hc hx t _ n) _).trans (hn s _)

theorem emcy_active (s : State) (k : Key) (c e : Nat) : (s.emcy k c e).faults.active = s.faults.active :=
  emcy_keeps (·.faults.active) (fun _ _ _ => rfl) (fun _ _ => rfl) (fun _ _ h _ => h) s k c e

/-- A SHED keeps the keys of the active sources. -/
theorem shedReaction_keys (s : State) (k : Key) : (s.shedReaction k).faults.keys = s.faults.keys :=
  shedReaction_keeps (f := fun t => t.faults.keys) ⟨⟨fun _ _ _ _ _ _ _ _ _ => rfl⟩, fun _ _ h => h⟩ s k

theorem react_keys (s : State) (k : Key) (c : Nat) : (s.react k c).faults.keys = s.faults.keys := by
  unfold State.react
  split
  · exact shedReaction_keys s k
  · split
    · rfl
    · split
      · rfl
      · split <;> rfl

/-- A source is active where its key is listed. -/
theorem isActive_iff_keys (s : State) (k : Key) : s.isActive k = true ↔ k ∈ s.faults.keys := by
  simp [State.isActive, State.activeOf, Faults.keys, List.find?_isSome]

theorem isActive_of_keys {s t : State} (h : t.faults.keys = s.faults.keys) (k : Key) : t.isActive k = s.isActive k := by
  rw [Bool.eq_iff_iff, isActive_iff_keys, isActive_iff_keys, h]

/-- The keys after a source is raised anew. -/
theorem raiseNew_keys (s : State) (k : Key) (d : Nat) (l : List Byte) (al : Bool) : (s.raiseNew k d l al).faults.keys = s.faults.keys ++ [k] := by
  have h0 : ∀ (t : State) c e, (t.emcy k c e).faults.keys = t.faults.keys := fun t c e => by simp only [Faults.keys, emcy_active]
  unfold State.raiseNew
  simp only []
  split
  · split
    · rw [h0]; simp [Faults.keys, State.countRaise, State.trigEvent]
    · simp [Faults.keys, State.countRaise, State.trigEvent]
  · rw [react_keys]
    split
    · rw [h0]; simp [Faults.keys, State.countRaise, State.trigEvent]
    · simp [Faults.keys, State.countRaise, State.trigEvent]

/-- The keys after a detection (R319): a source that is active stays active, a new one is listed where it can be raised. -/
theorem raiseWith_keys (s : State) (k : Key) (d : Nat) (l : List Byte) (al : Bool) :
    (s.raiseWith k d l al).faults.keys = if s.isActive k = false ∧ s.mayRaise k = true then s.faults.keys ++ [k] else s.faults.keys := by
  unfold State.raiseWith
  split
  · rename_i a h
    have ha : s.isActive k = true := by simp [State.isActive, h]
    rw [if_neg (by simp [ha])]
    exact keys_map _ _ fun a => by split <;> rfl
  · rename_i h
    have ha : s.isActive k = false := by simp [State.isActive, h]
    by_cases hm : s.mayRaise k = true
    · rw [if_pos hm, if_pos ⟨ha, hm⟩]; exact raiseNew_keys s k d l al
    · rw [if_neg hm, if_neg (fun x => hm x.2)]

/-- Whether a source can be raised depends on the variant and on the regions alone. -/
theorem mayRaise_congr {s t : State} (hp : t.part = s.part) (hr : t.mode.regions = s.mode.regions) (k : Key) : t.mayRaise k = s.mayRaise k := by
  unfold State.mayRaise State.unitPresent State.poweredDown State.regionCode
  rw [hp, hr]

/-- A source that has been detected is active (R319), where its unit is present and its region is not powered down (R5, R29). -/
theorem raiseWith_isActive (s : State) (k : Key) (d : Nat) (l : List Byte) (al : Bool) (hm : s.mayRaise k = true) : (s.raiseWith k d l al).isActive k = true := by
  rw [isActive_iff_keys, raiseWith_keys]
  by_cases ha : s.isActive k = false
  · rw [if_pos ⟨ha, hm⟩]; simp
  · rw [if_neg (fun x => ha x.1)]
    exact (isActive_iff_keys s k).mp (by simpa using ha)

theorem raise_isActive (s : State) (k : Key) (d : Nat) (hm : s.mayRaise k = true) : (s.raise k d).isActive k = true := raiseWith_isActive s k d [] false hm

/-- A raise ends no other source. -/
theorem raiseWith_isActive_of (s : State) (k j : Key) (d : Nat) (l : List Byte) (al : Bool) (h : s.isActive j = true) : (s.raiseWith k d l al).isActive j = true := by
  rw [isActive_iff_keys] at h ⊢
  rw [raiseWith_keys]
  split
  · exact List.mem_append_left _ h
  · exact h

theorem raise_isActive_of (s : State) (k j : Key) (d : Nat) (h : s.isActive j = true) : (s.raise k d).isActive j = true := raiseWith_isActive_of s k j d [] false h

/-- A raise leaves alone what its record, its counters, its EMCY and its reaction do not write. -/
theorem raiseWith_keeps {α : Type} {f : State → α} (h : RaiseKeeps f) (s : State) (k : Key) (d : Nat) (l : List Byte) (al : Bool) : f (s.raiseWith k d l al) = f s := by
  have hreact : ∀ (t : State) c, f (t.react k c) = f t := by
    intro t c
    unfold State.react
    split
    · exact shedReaction_keeps h.shed t k
    · split
      · exact h.mode t _ _ _
      · split
        · rfl
        · split
          · exact h.mode t _ _ _
          · rfl
  have hemcy : ∀ (t : State) c e, f (t.emcy k c e) = f t := fun t c e => emcy_keeps f h.can h.history (fun t v _ _ => h.faults t v) t k c e
  unfold State.raiseWith
  split
  · exact h.faults s _
  · split
    · unfold State.raiseNew
      simp only []
      have h0 : ∀ A B, f { s with faults := A, log := B } = f s := fun A B => (h.log { s with faults := A } B).trans (h.faults s A)
      have h1 : ∀ (t : State) c e, f ((t.trigEvent e).countRaise k c) = f t := fun t c e => (h.faults (t.trigEvent e) _).trans (h.log t _)
      split
      · split
        · exact (hemcy _ _ _).trans ((h1 _ _ _).trans (h0 _ _))
        · exact (h1 _ _ _).trans (h0 _ _)
      · rw [hreact]
        split
        · exact (hemcy _ _ _).trans ((h1 _ _ _).trans (h0 _ _))
        · exact (h1 _ _ _).trans (h0 _ _)
    · rfl

/-- The state with all that a raise may change set aside: the units of a SHED, the faults, the logbook, the CAN ports, the history and the pending reactions. -/
def State.unraised (s : State) : State :=
  { s with
    phases := [], insts := [], engines := [], stages := [], strs := [], feeds := [], groups := [], mods := []
    faults := State.reset.faults
    log := State.reset.log
    net := { s.net with can := [], history := [] }
    mode := { s.mode with pendingTrip := none, pendingLockout := none, lockoutCause := 0 } }

theorem unraised_keeps : RaiseKeeps State.unraised where
  units _ _ _ _ _ _ _ _ _ := rfl
  faults _ _ := rfl
  can _ _ _ := rfl
  history _ _ := rfl
  log _ _ := rfl
  mode _ _ _ _ := rfl

/-- A view of what a raise leaves alone is left alone. -/
theorem unraised_view {α : Type} (g : State → α) : RaiseKeeps fun s => g s.unraised where
  units t _ _ _ _ _ _ _ _ := congrArg g (unraised_keeps.units t _ _ _ _ _ _ _ _)
  faults t _ := congrArg g (unraised_keeps.faults t _)
  can t _ _ := congrArg g (unraised_keeps.can t _ _)
  history t _ := congrArg g (unraised_keeps.history t _)
  log t _ := congrArg g (unraised_keeps.log t _)
  mode t _ _ _ := congrArg g (unraised_keeps.mode t _ _ _)

/-- What a raise leaves alone: everything but what `State.unraised` sets aside. -/
theorem raise_rest (s : State) (k : Key) (d : Nat) : (s.raise k d).unraised = s.unraised :=
  raiseWith_keeps unraised_keeps s k d [] false

@[simp] theorem raise_pending (s : State) (k : Key) (d : Nat) : (s.raise k d).pending = s.pending :=
  congrArg (·.pending) (raise_rest s k d)

@[simp] theorem raise_now (s : State) (k : Key) (d : Nat) : (s.raise k d).now = s.now :=
  congrArg (·.now) (raise_rest s k d)

@[simp] theorem raise_part (s : State) (k : Key) (d : Nat) : (s.raise k d).part = s.part :=
  congrArg (·.part) (raise_rest s k d)

@[simp] theorem raise_serial (s : State) (k : Key) (d : Nat) : (s.raise k d).serial = s.serial :=
  congrArg (·.serial) (raise_rest s k d)

@[simp] theorem raise_supply (s : State) (k : Key) (d : Nat) : (s.raise k d).supply = s.supply :=
  congrArg (·.supply) (raise_rest s k d)

@[simp] theorem raise_clock (s : State) (k : Key) (d : Nat) : (s.raise k d).clock = s.clock :=
  congrArg (·.clock) (raise_rest s k d)

@[simp] theorem raise_adc (s : State) (k : Key) (d : Nat) : (s.raise k d).adc = s.adc :=
  congrArg (·.adc) (raise_rest s k d)

@[simp] theorem raise_tide (s : State) (k : Key) (d : Nat) : (s.raise k d).tide = s.tide :=
  congrArg (·.tide) (raise_rest s k d)

@[simp] theorem raise_pgs (s : State) (k : Key) (d : Nat) : (s.raise k d).pgs = s.pgs :=
  congrArg (·.pgs) (raise_rest s k d)

@[simp] theorem raise_rcs (s : State) (k : Key) (d : Nat) : (s.raise k d).rcs = s.rcs :=
  congrArg (·.rcs) (raise_rest s k d)

@[simp] theorem raise_obs (s : State) (k : Key) (d : Nat) : (s.raise k d).obs = s.obs :=
  congrArg (·.obs) (raise_rest s k d)

@[simp] theorem raise_spm (s : State) (k : Key) (d : Nat) : (s.raise k d).spm = s.spm :=
  congrArg (·.spm) (raise_rest s k d)

@[simp] theorem raise_chargers (s : State) (k : Key) (d : Nat) : (s.raise k d).chargers = s.chargers :=
  congrArg (·.chargers) (raise_rest s k d)

@[simp] theorem raise_dead (s : State) (k : Key) (d : Nat) : (s.raise k d).dead = s.dead :=
  congrArg (·.dead) (raise_rest s k d)

@[simp] theorem raise_rails (s : State) (k : Key) (d : Nat) : (s.raise k d).rails = s.rails :=
  congrArg (·.rails) (raise_rest s k d)

@[simp] theorem raise_railGroups (s : State) (k : Key) (d : Nat) : (s.raise k d).railGroups = s.railGroups :=
  congrArg (·.railGroups) (raise_rest s k d)

@[simp] theorem raise_thermal (s : State) (k : Key) (d : Nat) : (s.raise k d).thermal = s.thermal :=
  congrArg (·.thermal) (raise_rest s k d)

@[simp] theorem raise_pair (s : State) (k : Key) (d : Nat) : (s.raise k d).pair = s.pair :=
  congrArg (·.pair) (raise_rest s k d)

@[simp] theorem raise_berths (s : State) (k : Key) (d : Nat) : (s.raise k d).berths = s.berths :=
  congrArg (·.berths) (raise_rest s k d)

@[simp] theorem raise_ports (s : State) (k : Key) (d : Nat) : (s.raise k d).ports = s.ports :=
  congrArg (·.ports) (raise_rest s k d)

@[simp] theorem raise_mem (s : State) (k : Key) (d : Nat) : (s.raise k d).mem = s.mem :=
  congrArg (·.mem) (raise_rest s k d)

@[simp] theorem raise_img (s : State) (k : Key) (d : Nat) : (s.raise k d).img = s.img :=
  congrArg (·.img) (raise_rest s k d)

@[simp] theorem raise_cfg (s : State) (k : Key) (d : Nat) : (s.raise k d).cfg = s.cfg :=
  congrArg (·.cfg) (raise_rest s k d)

@[simp] theorem raise_kept (s : State) (k : Key) (d : Nat) : (s.raise k d).kept = s.kept :=
  congrArg (·.kept) (raise_rest s k d)

@[simp] theorem raise_draws (s : State) (k : Key) (d : Nat) : (s.raise k d).draws = s.draws :=
  congrArg (·.draws) (raise_rest s k d)

@[simp] theorem raise_mode_mode (s : State) (k : Key) (d : Nat) : (s.raise k d).mode.mode = s.mode.mode :=
  congrArg (·.mode.mode) (raise_rest s k d)

@[simp] theorem raise_mode_regions (s : State) (k : Key) (d : Nat) : (s.raise k d).mode.regions = s.mode.regions :=
  congrArg (·.mode.regions) (raise_rest s k d)

@[simp] theorem raise_mode_step (s : State) (k : Key) (d : Nat) : (s.raise k d).mode.step = s.mode.step :=
  congrArg (·.mode.step) (raise_rest s k d)

@[simp] theorem raise_mode_online (s : State) (k : Key) (d : Nat) : (s.raise k d).mode.online = s.mode.online :=
  congrArg (·.mode.online) (raise_rest s k d)

@[simp] theorem raise_mode_req (s : State) (k : Key) (d : Nat) : (s.raise k d).mode.req = s.mode.req :=
  congrArg (·.mode.req) (raise_rest s k d)

@[simp] theorem raise_mode_reqStatus (s : State) (k : Key) (d : Nat) : (s.raise k d).mode.reqStatus = s.mode.reqStatus :=
  congrArg (·.mode.reqStatus) (raise_rest s k d)

@[simp] theorem raise_mode_lockoutLatch (s : State) (k : Key) (d : Nat) : (s.raise k d).mode.lockoutLatch = s.mode.lockoutLatch :=
  congrArg (·.mode.lockoutLatch) (raise_rest s k d)

@[simp] theorem raise_mode_cause (s : State) (k : Key) (d : Nat) : (s.raise k d).mode.cause = s.mode.cause :=
  congrArg (·.mode.cause) (raise_rest s k d)

@[simp] theorem raise_mode_estopLow (s : State) (k : Key) (d : Nat) : (s.raise k d).mode.estopLow = s.mode.estopLow :=
  congrArg (·.mode.estopLow) (raise_rest s k d)

@[simp] theorem raise_net_answer (s : State) (k : Key) (d : Nat) : (s.raise k d).net.answer = s.net.answer :=
  congrArg (·.net.answer) (raise_rest s k d)

@[simp] theorem raise_net_time (s : State) (k : Key) (d : Nat) : (s.raise k d).net.time = s.net.time :=
  congrArg (·.net.time) (raise_rest s k d)

@[simp] theorem clearing_pending (s : State) (k : Key) : (s.clearing k).pending = s.pending := rfl

@[simp] theorem clearing_now (s : State) (k : Key) : (s.clearing k).now = s.now := rfl

@[simp] theorem clearing_part (s : State) (k : Key) : (s.clearing k).part = s.part := rfl

@[simp] theorem clearing_serial (s : State) (k : Key) : (s.clearing k).serial = s.serial := rfl

@[simp] theorem clearing_supply (s : State) (k : Key) : (s.clearing k).supply = s.supply := rfl

@[simp] theorem clearing_mode (s : State) (k : Key) : (s.clearing k).mode = s.mode := rfl

@[simp] theorem clearing_clock (s : State) (k : Key) : (s.clearing k).clock = s.clock := rfl

@[simp] theorem clearing_mods (s : State) (k : Key) : (s.clearing k).mods = s.mods := rfl

@[simp] theorem clearing_groups (s : State) (k : Key) : (s.clearing k).groups = s.groups := rfl

@[simp] theorem clearing_adc (s : State) (k : Key) : (s.clearing k).adc = s.adc := rfl

@[simp] theorem clearing_tide (s : State) (k : Key) : (s.clearing k).tide = s.tide := rfl

@[simp] theorem clearing_insts (s : State) (k : Key) : (s.clearing k).insts = s.insts := rfl

@[simp] theorem clearing_engines (s : State) (k : Key) : (s.clearing k).engines = s.engines := rfl

@[simp] theorem clearing_stages (s : State) (k : Key) : (s.clearing k).stages = s.stages := rfl

@[simp] theorem clearing_phases (s : State) (k : Key) : (s.clearing k).phases = s.phases := rfl

@[simp] theorem clearing_pgs (s : State) (k : Key) : (s.clearing k).pgs = s.pgs := rfl

@[simp] theorem clearing_rcs (s : State) (k : Key) : (s.clearing k).rcs = s.rcs := rfl

@[simp] theorem clearing_obs (s : State) (k : Key) : (s.clearing k).obs = s.obs := rfl

@[simp] theorem clearing_spm (s : State) (k : Key) : (s.clearing k).spm = s.spm := rfl

@[simp] theorem clearing_feeds (s : State) (k : Key) : (s.clearing k).feeds = s.feeds := rfl

@[simp] theorem clearing_strs (s : State) (k : Key) : (s.clearing k).strs = s.strs := rfl

@[simp] theorem clearing_chargers (s : State) (k : Key) : (s.clearing k).chargers = s.chargers := rfl

@[simp] theorem clearing_dead (s : State) (k : Key) : (s.clearing k).dead = s.dead := rfl

@[simp] theorem clearing_rails (s : State) (k : Key) : (s.clearing k).rails = s.rails := rfl

@[simp] theorem clearing_railGroups (s : State) (k : Key) : (s.clearing k).railGroups = s.railGroups := rfl

@[simp] theorem clearing_thermal (s : State) (k : Key) : (s.clearing k).thermal = s.thermal := rfl

@[simp] theorem clearing_pair (s : State) (k : Key) : (s.clearing k).pair = s.pair := rfl

@[simp] theorem clearing_net (s : State) (k : Key) : (s.clearing k).net = s.net := rfl

@[simp] theorem clearing_berths (s : State) (k : Key) : (s.clearing k).berths = s.berths := rfl

@[simp] theorem clearing_ports (s : State) (k : Key) : (s.clearing k).ports = s.ports := rfl

@[simp] theorem clearing_mem (s : State) (k : Key) : (s.clearing k).mem = s.mem := rfl

@[simp] theorem clearing_log (s : State) (k : Key) : (s.clearing k).log = s.log := rfl

@[simp] theorem clearing_img (s : State) (k : Key) : (s.clearing k).img = s.img := rfl

@[simp] theorem clearing_cfg (s : State) (k : Key) : (s.clearing k).cfg = s.cfg := rfl

@[simp] theorem clearing_kept (s : State) (k : Key) : (s.clearing k).kept = s.kept := rfl

@[simp] theorem clearing_draws (s : State) (k : Key) : (s.clearing k).draws = s.draws := rfl

/-- A source whose clear condition holds is in its clear window (R319). -/
theorem clearing_window (s : State) (k : Key) : ∀ a ∈ (s.clearing k).faults.active, a.key = k → a.clearing.isSome = true := by
  intro a ha hk
  simp only [State.clearing, List.mem_map] at ha
  obtain ⟨b, hb, rfl⟩ := ha
  split at hk
  · split
    · rfl
    · contradiction
  · rename_i h
    split
    · contradiction
    · cases hc : b.clearing with
      | none => exact absurd ⟨hk, hc⟩ h
      | some v => rfl

end Sys2Proof.Machine
end

