-- ==== Sys2Proof/Laws/TwoWire.lean ====
section
/-! SUPPORT. What the shared operations of two-wire ports, poll scripts, image updates and hitless activation do: one lemma for each operation. -/
namespace Sys2Proof.Machine

@[simp] theorem setPort_berths_length (s : State) (p : Nat) (v : Port) : (s.setPort p v).berths.length = s.berths.length := by simp
@[simp] theorem setBerth_ports_length (s : State) (p : Nat) (v : Berth) : (s.setBerth p v).ports.length = s.ports.length := by simp
@[simp] theorem setPort_ports_length (s : State) (p : Nat) (v : Port) : (s.setPort p v).ports.length = s.ports.length := by simp
@[simp] theorem setBerth_berths_length (s : State) (p : Nat) (v : Berth) : (s.setBerth p v).berths.length = s.berths.length := by simp
@[simp] theorem port_setPort_same (s : State) (p : Nat) (v : Port) (h : p < s.ports.length) : (s.setPort p v).port p = v := nth_put_same _ _ _ _ h
@[simp] theorem port_setPort_other (s : State) (p q : Nat) (v : Port) (h : p ≠ q) : (s.setPort p v).port q = s.port q := nth_put_other _ _ _ _ _ h
@[simp] theorem berth_setBerth_same (s : State) (p : Nat) (v : Berth) (h : p < s.berths.length) : (s.setBerth p v).berth p = v := nth_put_same _ _ _ _ h
@[simp] theorem berth_setBerth_other (s : State) (p q : Nat) (v : Berth) (h : p ≠ q) : (s.setBerth p v).berth q = s.berth q := nth_put_other _ _ _ _ _ h
@[simp] theorem port_setBerth (s : State) (p q : Nat) (v : Berth) : (s.setBerth p v).port q = s.port q := rfl
@[simp] theorem berth_setPort (s : State) (p q : Nat) (v : Port) : (s.setPort p v).berth q = s.berth q := rfl
@[simp] theorem raise_port (s : State) (k : Key) (d q : Nat) : (s.raise k d).port q = s.port q := by simp [State.port]
@[simp] theorem raise_berth (s : State) (k : Key) (d q : Nat) : (s.raise k d).berth q = s.berth q := by simp [State.berth]
@[simp] theorem clearing_port (s : State) (k : Key) (q : Nat) : (s.clearing k).port q = s.port q := rfl
@[simp] theorem clearing_berth (s : State) (k : Key) (q : Nat) : (s.clearing k).berth q = s.berth q := rfl
@[simp] theorem objN_setPort (s : State) (p : Nat) (v : Port) (i j : Nat) : (s.setPort p v).objN i j = s.objN i j := rfl
@[simp] theorem objN_setBerth (s : State) (p : Nat) (v : Berth) (i j : Nat) : (s.setBerth p v).objN i j = s.objN i j := rfl
@[simp] theorem portN_setPort (s : State) (p : Nat) (v : Port) (i j : Nat) : (s.setPort p v).portN i j = s.portN i j := rfl
@[simp] theorem portN_setBerth (s : State) (p : Nat) (v : Berth) (i j : Nat) : (s.setBerth p v).portN i j = s.portN i j := rfl
@[simp] theorem berthN_setPort (s : State) (p : Nat) (v : Port) (i j : Nat) : (s.setPort p v).berthN i j = s.berthN i j := rfl
@[simp] theorem berthN_setBerth (s : State) (p : Nat) (v : Berth) (i j : Nat) : (s.setBerth p v).berthN i j = s.berthN i j := rfl
@[simp] theorem key_setPort (s : State) (p : Nat) (v : Port) (a b c d : Nat) : (s.setPort p v).key a b c d = s.key a b c d := rfl
@[simp] theorem key_setBerth (s : State) (p : Nat) (v : Berth) (a b c d : Nat) : (s.setBerth p v).key a b c d = s.key a b c d := rfl
@[simp] theorem berthKey_setPort (s : State) (p : Nat) (v : Port) (a b : Nat) : (s.setPort p v).berthKey a b = s.berthKey a b := rfl
@[simp] theorem berthKey_setBerth (s : State) (p : Nat) (v : Berth) (a b : Nat) : (s.setBerth p v).berthKey a b = s.berthKey a b := rfl
@[simp] theorem portKey_setPort (s : State) (p : Nat) (v : Port) (a b : Nat) : (s.setPort p v).portKey a b = s.portKey a b := rfl
@[simp] theorem note_port (s : State) (k : Nat) (l : List Byte) (p : Nat) : (s.note k l).port p = s.port p := rfl
@[simp] theorem note_berth (s : State) (k : Nat) (l : List Byte) (p : Nat) : (s.note k l).berth p = s.berth p := rfl
@[simp] theorem busyFor_pending (s : State) (p : Nat) (t : Rat) : (s.busyFor p t).pending = s.pending := by unfold State.busyFor; dsimp only; split <;> rfl
@[simp] theorem busyFor_now (s : State) (p : Nat) (t : Rat) : (s.busyFor p t).now = s.now := by unfold State.busyFor; dsimp only; split <;> rfl
@[simp] theorem busyFor_part (s : State) (p : Nat) (t : Rat) : (s.busyFor p t).part = s.part := by unfold State.busyFor; dsimp only; split <;> rfl
@[simp] theorem busyFor_serial (s : State) (p : Nat) (t : Rat) : (s.busyFor p t).serial = s.serial := by unfold State.busyFor; dsimp only; split <;> rfl
@[simp] theorem busyFor_supply (s : State) (p : Nat) (t : Rat) : (s.busyFor p t).supply = s.supply := by unfold State.busyFor; dsimp only; split <;> rfl
@[simp] theorem busyFor_mode (s : State) (p : Nat) (t : Rat) : (s.busyFor p t).mode = s.mode := by unfold State.busyFor; dsimp only; split <;> rfl
@[simp] theorem busyFor_clock (s : State) (p : Nat) (t : Rat) : (s.busyFor p t).clock = s.clock := by unfold State.busyFor; dsimp only; split <;> rfl
@[simp] theorem busyFor_mods (s : State) (p : Nat) (t : Rat) : (s.busyFor p t).mods = s.mods := by unfold State.busyFor; dsimp only; split <;> rfl
@[simp] theorem busyFor_groups (s : State) (p : Nat) (t : Rat) : (s.busyFor p t).groups = s.groups := by unfold State.busyFor; dsimp only; split <;> rfl
@[simp] theorem busyFor_adc (s : State) (p : Nat) (t : Rat) : (s.busyFor p t).adc = s.adc := by unfold State.busyFor; dsimp only; split <;> rfl
@[simp] theorem busyFor_tide (s : State) (p : Nat) (t : Rat) : (s.busyFor p t).tide = s.tide := by unfold State.busyFor; dsimp only; split <;> rfl
@[simp] theorem busyFor_insts (s : State) (p : Nat) (t : Rat) : (s.busyFor p t).insts = s.insts := by unfold State.busyFor; dsimp only; split <;> rfl
@[simp] theorem busyFor_engines (s : State) (p : Nat) (t : Rat) : (s.busyFor p t).engines = s.engines := by unfold State.busyFor; dsimp only; split <;> rfl
@[simp] theorem busyFor_stages (s : State) (p : Nat) (t : Rat) : (s.busyFor p t).stages = s.stages := by unfold State.busyFor; dsimp only; split <;> rfl
@[simp] theorem busyFor_phases (s : State) (p : Nat) (t : Rat) : (s.busyFor p t).phases = s.phases := by unfold State.busyFor; dsimp only; split <;> rfl
@[simp] theorem busyFor_pgs (s : State) (p : Nat) (t : Rat) : (s.busyFor p t).pgs = s.pgs := by unfold State.busyFor; dsimp only; split <;> rfl
@[simp] theorem busyFor_rcs (s : State) (p : Nat) (t : Rat) : (s.busyFor p t).rcs = s.rcs := by unfold State.busyFor; dsimp only; split <;> rfl
@[simp] theorem busyFor_obs (s : State) (p : Nat) (t : Rat) : (s.busyFor p t).obs = s.obs := by unfold State.busyFor; dsimp only; split <;> rfl
@[simp] theorem busyFor_spm (s : State) (p : Nat) (t : Rat) : (s.busyFor p t).spm = s.spm := by unfold State.busyFor; dsimp only; split <;> rfl
@[simp] theorem busyFor_feeds (s : State) (p : Nat) (t : Rat) : (s.busyFor p t).feeds = s.feeds := by unfold State.busyFor; dsimp only; split <;> rfl
@[simp] theorem busyFor_strs (s : State) (p : Nat) (t : Rat) : (s.busyFor p t).strs = s.strs := by unfold State.busyFor; dsimp only; split <;> rfl
@[simp] theorem busyFor_chargers (s : State) (p : Nat) (t : Rat) : (s.busyFor p t).chargers = s.chargers := by unfold State.busyFor; dsimp only; split <;> rfl
@[simp] theorem busyFor_dead (s : State) (p : Nat) (t : Rat) : (s.busyFor p t).dead = s.dead := by unfold State.busyFor; dsimp only; split <;> rfl
@[simp] theorem busyFor_rails (s : State) (p : Nat) (t : Rat) : (s.busyFor p t).rails = s.rails := by unfold State.busyFor; dsimp only; split <;> rfl
@[simp] theorem busyFor_railGroups (s : State) (p : Nat) (t : Rat) : (s.busyFor p t).railGroups = s.railGroups := by unfold State.busyFor; dsimp only; split <;> rfl
@[simp] theorem busyFor_thermal (s : State) (p : Nat) (t : Rat) : (s.busyFor p t).thermal = s.thermal := by unfold State.busyFor; dsimp only; split <;> rfl
@[simp] theorem busyFor_faults (s : State) (p : Nat) (t : Rat) : (s.busyFor p t).faults = s.faults := by unfold State.busyFor; dsimp only; split <;> rfl
@[simp] theorem busyFor_pair (s : State) (p : Nat) (t : Rat) : (s.busyFor p t).pair = s.pair := by unfold State.busyFor; dsimp only; split <;> rfl
@[simp] theorem busyFor_net (s : State) (p : Nat) (t : Rat) : (s.busyFor p t).net = s.net := by unfold State.busyFor; dsimp only; split <;> rfl
@[simp] theorem busyFor_berths (s : State) (p : Nat) (t : Rat) : (s.busyFor p t).berths = s.berths := by unfold State.busyFor; dsimp only; split <;> rfl
@[simp] theorem busyFor_mem (s : State) (p : Nat) (t : Rat) : (s.busyFor p t).mem = s.mem := by unfold State.busyFor; dsimp only; split <;> rfl
@[simp] theorem busyFor_log (s : State) (p : Nat) (t : Rat) : (s.busyFor p t).log = s.log := by unfold State.busyFor; dsimp only; split <;> rfl
@[simp] theorem busyFor_img (s : State) (p : Nat) (t : Rat) : (s.busyFor p t).img = s.img := by unfold State.busyFor; dsimp only; split <;> rfl
@[simp] theorem busyFor_cfg (s : State) (p : Nat) (t : Rat) : (s.busyFor p t).cfg = s.cfg := by unfold State.busyFor; dsimp only; split <;> rfl
@[simp] theorem busyFor_kept (s : State) (p : Nat) (t : Rat) : (s.busyFor p t).kept = s.kept := by unfold State.busyFor; dsimp only; split <;> rfl
@[simp] theorem busyFor_draws (s : State) (p : Nat) (t : Rat) : (s.busyFor p t).draws = s.draws := by unfold State.busyFor; dsimp only; split <;> rfl
@[simp] theorem busyFor_ports_length (s : State) (p : Nat) (t : Rat) : (s.busyFor p t).ports.length = s.ports.length := by
  unfold State.busyFor; dsimp only; split <;> simp
@[simp] theorem busyFor_port_other (s : State) (p q : Nat) (t : Rat) (h : p ≠ q) : (s.busyFor p t).port q = s.port q := by
  unfold State.busyFor; dsimp only; split <;> simp [h]
theorem busyFor_port {α : Type} (f : Port → α) (hb : ∀ v a b c, f { v with load := a, busy := b, busyFrom := c } = f v) (hc : ∀ v b, f { v with busy := b } = f v)
  (s : State) (p q : Nat) (t : Rat) : f ((s.busyFor p t).port q) = f (s.port q) := by
  unfold State.busyFor; dsimp only
  split
  · by_cases h : p = q
    · subst h; by_cases hl : p < s.ports.length
      · simp only [port_setPort_same _ _ _ hl, hc]
      · simp [State.port, State.setPort, put_beyond _ _ _ (Nat.le_of_not_lt hl)]
    · rw [port_setPort_other _ _ _ _ h]
  · by_cases h : p = q
    · subst h; by_cases hl : p < s.ports.length
      · simp only [port_setPort_same _ _ _ hl, hb]
      · simp [State.port, State.setPort, put_beyond _ _ _ (Nat.le_of_not_lt hl)]
    · rw [port_setPort_other _ _ _ _ h]
@[simp] theorem busyFor_run (s : State) (p q : Nat) (t : Rat) : ((s.busyFor p t).port q).run = (s.port q).run := busyFor_port (·.run) (fun _ _ _ _ => rfl) (fun _ _ => rfl) s p q t
@[simp] theorem busyFor_cmds (s : State) (p q : Nat) (t : Rat) : ((s.busyFor p t).port q).cmds = (s.port q).cmds := busyFor_port (·.cmds) (fun _ _ _ _ => rfl) (fun _ _ => rfl) s p q t
@[simp] theorem busyFor_runFails (s : State) (p q : Nat) (t : Rat) : ((s.busyFor p t).port q).runFails = (s.port q).runFails := busyFor_port (·.runFails) (fun _ _ _ _ => rfl) (fun _ _ => rfl) s p q t
@[simp] theorem busyFor_berth (s : State) (p q : Nat) (t : Rat) : ((s.busyFor p t).berth q) = (s.berth q) := by simp [State.berth]
@[simp] theorem busyFor_berthN (s : State) (p : Nat) (t : Rat) (i j : Nat) : (s.busyFor p t).berthN i j = s.berthN i j := by unfold State.busyFor; dsimp only; split <;> rfl
@[simp] theorem busyFor_berthKey (s : State) (p : Nat) (t : Rat) (i j : Nat) : (s.busyFor p t).berthKey i j = s.berthKey i j := by unfold State.busyFor; dsimp only; split <;> rfl
@[simp] theorem transacted_pending (s : State) (p n : Nat) (b : Bool) : (s.transacted p n b).pending = s.pending := by simp [State.transacted, State.completed]
@[simp] theorem transacted_now (s : State) (p n : Nat) (b : Bool) : (s.transacted p n b).now = s.now := by simp [State.transacted, State.completed]
@[simp] theorem transacted_part (s : State) (p n : Nat) (b : Bool) : (s.transacted p n b).part = s.part := by simp [State.transacted, State.completed]
@[simp] theorem transacted_serial (s : State) (p n : Nat) (b : Bool) : (s.transacted p n b).serial = s.serial := by simp [State.transacted, State.completed]
@[simp] theorem transacted_supply (s : State) (p n : Nat) (b : Bool) : (s.transacted p n b).supply = s.supply := by simp [State.transacted, State.completed]
@[simp] theorem transacted_mode (s : State) (p n : Nat) (b : Bool) : (s.transacted p n b).mode = s.mode := by simp [State.transacted, State.completed]
@[simp] theorem transacted_clock (s : State) (p n : Nat) (b : Bool) : (s.transacted p n b).clock = s.clock := by simp [State.transacted, State.completed]
@[simp] theorem transacted_mods (s : State) (p n : Nat) (b : Bool) : (s.transacted p n b).mods = s.mods := by simp [State.transacted, State.completed]
@[simp] theorem transacted_groups (s : State) (p n : Nat) (b : Bool) : (s.transacted p n b).groups = s.groups := by simp [State.transacted, State.completed]
@[simp] theorem transacted_adc (s : State) (p n : Nat) (b : Bool) : (s.transacted p n b).adc = s.adc := by simp [State.transacted, State.completed]
@[simp] theorem transacted_tide (s : State) (p n : Nat) (b : Bool) : (s.transacted p n b).tide = s.tide := by simp [State.transacted, State.completed]
@[simp] theorem transacted_insts (s : State) (p n : Nat) (b : Bool) : (s.transacted p n b).insts = s.insts := by simp [State.transacted, State.completed]
@[simp] theorem transacted_engines (s : State) (p n : Nat) (b : Bool) : (s.transacted p n b).engines = s.engines := by simp [State.transacted, State.completed]
@[simp] theorem transacted_stages (s : State) (p n : Nat) (b : Bool) : (s.transacted p n b).stages = s.stages := by simp [State.transacted, State.completed]
@[simp] theorem transacted_phases (s : State) (p n : Nat) (b : Bool) : (s.transacted p n b).phases = s.phases := by simp [State.transacted, State.completed]
@[simp] theorem transacted_pgs (s : State) (p n : Nat) (b : Bool) : (s.transacted p n b).pgs = s.pgs := by simp [State.transacted, State.completed]
@[simp] theorem transacted_rcs (s : State) (p n : Nat) (b : Bool) : (s.transacted p n b).rcs = s.rcs := by simp [State.transacted, State.completed]
@[simp] theorem transacted_obs (s : State) (p n : Nat) (b : Bool) : (s.transacted p n b).obs = s.obs := by simp [State.transacted, State.completed]
@[simp] theorem transacted_spm (s : State) (p n : Nat) (b : Bool) : (s.transacted p n b).spm = s.spm := by simp [State.transacted, State.completed]
@[simp] theorem transacted_feeds (s : State) (p n : Nat) (b : Bool) : (s.transacted p n b).feeds = s.feeds := by simp [State.transacted, State.completed]
@[simp] theorem transacted_strs (s : State) (p n : Nat) (b : Bool) : (s.transacted p n b).strs = s.strs := by simp [State.transacted, State.completed]
@[simp] theorem transacted_chargers (s : State) (p n : Nat) (b : Bool) : (s.transacted p n b).chargers = s.chargers := by simp [State.transacted, State.completed]
@[simp] theorem transacted_dead (s : State) (p n : Nat) (b : Bool) : (s.transacted p n b).dead = s.dead := by simp [State.transacted, State.completed]
@[simp] theorem transacted_rails (s : State) (p n : Nat) (b : Bool) : (s.transacted p n b).rails = s.rails := by simp [State.transacted, State.completed]
@[simp] theorem transacted_railGroups (s : State) (p n : Nat) (b : Bool) : (s.transacted p n b).railGroups = s.railGroups := by simp [State.transacted, State.completed]
@[simp] theorem transacted_thermal (s : State) (p n : Nat) (b : Bool) : (s.transacted p n b).thermal = s.thermal := by simp [State.transacted, State.completed]
@[simp] theorem transacted_pair (s : State) (p n : Nat) (b : Bool) : (s.transacted p n b).pair = s.pair := by simp [State.transacted, State.completed]
@[simp] theorem transacted_net (s : State) (p n : Nat) (b : Bool) : (s.transacted p n b).net = s.net := by simp [State.transacted, State.completed]
@[simp] theorem transacted_berths (s : State) (p n : Nat) (b : Bool) : (s.transacted p n b).berths = s.berths := by simp [State.transacted, State.completed]
@[simp] theorem transacted_mem (s : State) (p n : Nat) (b : Bool) : (s.transacted p n b).mem = s.mem := by simp [State.transacted, State.completed]
@[simp] theorem transacted_log (s : State) (p n : Nat) (b : Bool) : (s.transacted p n b).log = s.log := by simp [State.transacted, State.completed]
@[simp] theorem transacted_img (s : State) (p n : Nat) (b : Bool) : (s.transacted p n b).img = s.img := by simp [State.transacted, State.completed]
@[simp] theorem transacted_cfg (s : State) (p n : Nat) (b : Bool) : (s.transacted p n b).cfg = s.cfg := by simp [State.transacted, State.completed]
@[simp] theorem transacted_kept (s : State) (p n : Nat) (b : Bool) : (s.transacted p n b).kept = s.kept := by simp [State.transacted, State.completed]
@[simp] theorem transacted_draws (s : State) (p n : Nat) (b : Bool) : (s.transacted p n b).draws = s.draws := by simp [State.transacted, State.completed]

@[simp] theorem transacted_ports_length (s : State) (p n : Nat) (b : Bool) : (s.transacted p n b).ports.length = s.ports.length := by simp [State.transacted, State.completed]
@[simp] theorem transacted_berth (s : State) (p n : Nat) (b : Bool) (q : Nat) : (s.transacted p n b).berth q = s.berth q := by simp [State.berth]
@[simp] theorem transacted_port_other (s : State) (p n : Nat) (b : Bool) (q : Nat) (h : p ≠ q) : (s.transacted p n b).port q = s.port q := by simp [State.transacted, State.completed, h]
theorem completed_port {α : Type} (f : Port → α) (hb : ∀ v a b c, f { v with load := a, busy := b, busyFrom := c } = f v) (hc : ∀ v b, f { v with busy := b } = f v)
    (hw : ∀ v, f { v with losses := 0, work := .none } = f v) (s : State) (p : Nat) (t : Rat) (q : Nat) : f ((s.completed p t).port q) = f (s.port q) := by
  unfold State.completed
  rw [clearing_port]
  by_cases h : p = q
  · subst h
    by_cases hl : p < s.ports.length
    · rw [port_setPort_same _ _ _ (by simpa using hl)]
      exact (hw _).trans (busyFor_port f hb hc s p p _)
    · have hb' : (s.busyFor p t).ports.length ≤ p := by simpa using hl
      have : ∀ v, (s.busyFor p t).setPort p v = s.busyFor p t := by
        intro v; unfold State.setPort; rw [put_beyond _ _ _ hb']
      rw [this]
      exact busyFor_port f hb hc s p p _
  · rw [port_setPort_other _ _ _ _ h, busyFor_port_other _ _ _ _ h]
theorem transacted_port {α : Type} (f : Port → α) (hb : ∀ v a b c, f { v with load := a, busy := b, busyFrom := c } = f v) (hc : ∀ v b, f { v with busy := b } = f v)
    (hw : ∀ v, f { v with losses := 0, work := .none } = f v) (s : State) (p n : Nat) (b : Bool) (q : Nat) : f ((s.transacted p n b).port q) = f (s.port q) :=
  completed_port f hb hc hw s p _ q
@[simp] theorem transacted_cmds (s : State) (p n : Nat) (b : Bool) (q : Nat) : ((s.transacted p n b).port q).cmds = (s.port q).cmds :=
  transacted_port (·.cmds) (fun _ _ _ _ => rfl) (fun _ _ => rfl) (fun _ => rfl) s p n b q
@[simp] theorem transacted_run (s : State) (p n : Nat) (b : Bool) (q : Nat) : ((s.transacted p n b).port q).run = (s.port q).run :=
  transacted_port (·.run) (fun _ _ _ _ => rfl) (fun _ _ => rfl) (fun _ => rfl) s p n b q
@[simp] theorem clearing_isActive (s : State) (k j : Key) : (s.clearing k).isActive j = s.isActive j := by
  simp only [State.isActive, State.activeOf, State.clearing]
  rw [Bool.eq_iff_iff, List.find?_isSome, List.find?_isSome]
  constructor
  · rintro ⟨x, hx, hk⟩
    obtain ⟨a, ha, rfl⟩ := List.mem_map.1 hx
    refine ⟨a, ha, ?_⟩
    split at hk <;> exact hk
  · rintro ⟨a, ha, hk⟩
    refine ⟨_, List.mem_map.2 ⟨a, ha, rfl⟩, ?_⟩
    split <;> exact hk

theorem clearing_open (s : State) (k : Key) : ∀ a ∈ (s.clearing k).faults.active, a.key = k → a.clearing.isSome = true := by
  intro a ha hk
  obtain ⟨b, hb, rfl⟩ := List.mem_map.1 ha
  split
  · rfl
  · rename_i h
    split at hk
    · contradiction
    · cases hc : b.clearing with
      | none => exact absurd ⟨hk, hc⟩ h
      | some _ => rfl

@[simp] theorem raise_ports_length (s : State) (k : Key) (d : Nat) : (s.raise k d).ports.length = s.ports.length := by simp
@[simp] theorem raise_berths_length (s : State) (k : Key) (d : Nat) : (s.raise k d).berths.length = s.berths.length := by simp
@[simp] theorem setPort_isActive (s : State) (p : Nat) (v : Port) (k : Key) : (s.setPort p v).isActive k = s.isActive k := rfl
@[simp] theorem setBerth_isActive (s : State) (p : Nat) (v : Berth) (k : Key) : (s.setBerth p v).isActive k = s.isActive k := rfl

/-- A view that a computation of the shelf power manager leaves alone: it acts on the manager, the stages and the window objects (R204). -/
structure PowerKeeps {α : Type} (f : State → α) : Prop where
  spm : ∀ (t : State) v, f { t with spm := v } = f t
  obj : ∀ t i j v, f (State.setObj t i j v) = f t
  stage : ∀ t n v, f (State.setStage t n v) = f t
  str : ∀ t n v, f (State.setStr t n v) = f t

theorem writeWindows_keeps {α : Type} {f : State → α} (h : PowerKeeps f) (s : State) (b : Bool × Bool) : f (s.writeWindows b) = f s := by
  have hw : ∀ t n lo hi, f (State.setWindow t n lo hi) = f t := by
    intro t n lo hi
    unfold State.setWindow
    dsimp only
    split
    · exact (h.obj _ _ _ _).trans ((h.obj _ _ _ _).trans (h.spm _ _))
    · exact h.spm _ _
  unfold State.writeWindows
  refine (forUnits_keeps f _ _ (fun t n => (h.stage _ _ _).trans (hw _ _ _ _)) _).trans ((forUnits_keeps f _ _ (fun t n => ?_) _).trans (h.spm _ _))
  split
  · exact hw _ _ _ _
  · rfl

/-- What one computation of the manager leaves alone (R204). -/
theorem spmOnce_keeps {α : Type} {f : State → α} (h : PowerKeeps f) (s : State) : f s.spmOnce = f s := by
  unfold State.spmOnce
  split
  · rfl
  split
  · exact (writeWindows_keeps h _ _).trans (h.spm _ _)
  split
  · exact (writeWindows_keeps h _ _).trans (h.spm _ _)
  · exact (writeWindows_keeps h _ _).trans (h.spm _ _)

theorem endProbe_keeps {α : Type} {f : State → α} (h : PowerKeeps f) (s : State) : f s.endProbe = f s := by
  unfold State.endProbe
  split
  · exact (h.str _ _ _).trans (h.spm _ _)
  · rfl
theorem spmCompute_keeps {α : Type} {f : State → α} (h : PowerKeeps f) (s : State) : f s.spmCompute = f s := by
  unfold State.spmCompute
  dsimp only
  split
  · exact (spmOnce_keeps h _).trans ((endProbe_keeps h _).trans (spmOnce_keeps h s))
  · exact spmOnce_keeps h s

/-- What the watch over a hand-back from a partner leaves alone, where it abandons it or not (R225). -/
theorem handbackWatch_keeps {α : Type} {f : State → α} (h : RaiseKeeps f) (hp : PowerKeeps f) (s : State) (b : Nat) : f (s.handbackWatch b) = f s := by
  unfold State.handbackWatch State.abandonHandback
  split
  · split
    · rfl
    refine (spmCompute_keeps hp _).trans ?_
    have hd : ∀ t, f (State.spmDetail t 6 true) = f t := by
      intro t
      unfold State.spmDetail
      simp only [Nat.reduceEqDiff, ↓reduceIte]
      split
      · rfl
      · exact (raiseWith_keeps h _ _ _ _ _).trans (hp.spm _ _)
    refine (hd _).trans ((hp.spm _ _).trans ((hp.spm _ _).trans ?_))
    split
    · exact (h.shed.feed _ _ _).trans (h.shed.feed _ _ _)
    · exact hp.spm _ _
  · rfl

/-- The watch over a hand-back ends no source. -/
theorem handbackWatch_isActive_of (s : State) (b : Nat) (k : Key) (ha : s.isActive k = true) : (s.handbackWatch b).isActive k = true := by
  unfold State.handbackWatch State.abandonHandback
  split
  · split
    · exact ha
    refine (isActive_of_keys (spmCompute_keeps (f := fun t => t.faults.keys) ⟨fun _ _ => rfl, fun _ _ _ _ => rfl, fun _ _ _ => rfl, fun _ _ _ => rfl⟩ _) k).trans ?_
    have hd : ∀ t : State, t.isActive k = true → (State.spmDetail t 6 true).isActive k = true := by
      intro t ht
      unfold State.spmDetail
      simp only [Nat.reduceEqDiff, ↓reduceIte]
      split
      · exact ht
      · exact raise_isActive_of _ _ _ _ ht
    refine hd _ ?_
    dsimp only
    split <;> exact ha
  · exact ha

@[simp] theorem handbackWatch_ports (s : State) (b : Nat) : (s.handbackWatch b).ports = s.ports := handbackWatch_keeps (f := (·.ports)) (unraised_view (·.ports)) ⟨fun _ _ => rfl, fun _ _ _ _ => rfl, fun _ _ _ => rfl, fun _ _ _ => rfl⟩ s b
@[simp] theorem handbackWatch_berths (s : State) (b : Nat) : (s.handbackWatch b).berths = s.berths := handbackWatch_keeps (f := (·.berths)) (unraised_view (·.berths)) ⟨fun _ _ => rfl, fun _ _ _ _ => rfl, fun _ _ _ => rfl, fun _ _ _ => rfl⟩ s b
@[simp] theorem handbackWatch_part (s : State) (b : Nat) : (s.handbackWatch b).part = s.part := handbackWatch_keeps (f := (·.part)) (unraised_view (·.part)) ⟨fun _ _ => rfl, fun _ _ _ _ => rfl, fun _ _ _ => rfl, fun _ _ _ => rfl⟩ s b
@[simp] theorem handbackWatch_regions (s : State) (b : Nat) : (s.handbackWatch b).mode.regions = s.mode.regions := handbackWatch_keeps (f := (·.mode.regions)) (unraised_view (·.mode.regions)) ⟨fun _ _ => rfl, fun _ _ _ _ => rfl, fun _ _ _ => rfl, fun _ _ _ => rfl⟩ s b

/-- A departure clears the berth's presence, counts it and raises the absent source. -/
theorem depart_isActive (s : State) (b c : Nat) (hm : s.mayRaise (s.berthKey b 1) = true) : (s.depart b c).isActive (s.berthKey b 1) = true := by
  unfold State.depart
  extract_lets v p s1 q s2 sp s3 s4
  have hk : s4.berthKey b 1 = s.berthKey b 1 := handbackWatch_keeps (f := fun t => t.berthKey b 1) (unraised_view (fun t => t.berthKey b 1)) ⟨fun _ _ => rfl, fun _ _ _ _ => rfl, fun _ _ _ => rfl, fun _ _ _ => rfl⟩ s3 b
  rw [hk]
  refine raise_isActive (s4.note _ _) _ _ ?_
  have hpart : s4.part = s.part := handbackWatch_part s3 b
  have hreg : s4.mode.regions = s.mode.regions := handbackWatch_regions s3 b
  exact (mayRaise_congr (t := s4.note _ _) hpart hreg _).trans hm
theorem depart_isActive_of (s : State) (b c : Nat) (k : Key) (h : s.isActive k = true) : (s.depart b c).isActive k = true := by
  unfold State.depart
  extract_lets v p s1 q s2 sp s3 s4
  have h4 : s4.isActive k = true := handbackWatch_isActive_of s3 b k h
  exact raise_isActive_of (s4.note _ _) _ _ _ h4
@[simp] theorem depart_berths (s : State) (b c : Nat) : (s.depart b c).berths = put s.berths b { s.berth b with present := false, arriving := false, awaited := false, stale := true, due := false, redo := none, departures := (s.berth b).departures + 1, failRun := 0, hostStatus := if (s.berth b).hostStatus = 1 then 3 else (s.berth b).hostStatus } := by
  unfold State.depart
  extract_lets v p s1 q s2 sp s3 s4
  simp only [raise_berths, note_berths]
  rw [show s4.berths = s3.berths from handbackWatch_berths s3 b]
  rfl
@[simp] theorem depart_berths_length (s : State) (b c : Nat) : (s.depart b c).berths.length = s.berths.length := by simp
@[simp] theorem depart_berth_same (s : State) (b c : Nat) (h : b < s.berths.length) : (s.depart b c).berth b = { s.berth b with present := false, arriving := false, awaited := false, stale := true, due := false, redo := none, departures := (s.berth b).departures + 1, failRun := 0, hostStatus := if (s.berth b).hostStatus = 1 then 3 else (s.berth b).hostStatus } := by
  simp [State.berth, h]
@[simp] theorem depart_berth_other (s : State) (b c n : Nat) (h : b ≠ n) : (s.depart b c).berth n = s.berth n := by
  simp [State.berth, h]
/-- A departure drops the berth's queued commands and its run, on its port alone (R419). -/
theorem depart_ports (s : State) (b c : Nat) : (s.depart b c).ports = put s.ports (b / 16) { s.port (b / 16) with
    cmds := (s.port (b / 16)).cmds.filter fun c => c.berth != b
    run := (s.port (b / 16)).run.filter fun r => r.berth != b
    work := if ((s.port (b / 16)).run.any fun r => r.berth == b) ∧ (s.port (b / 16)).work = .run then .none else (s.port (b / 16)).work } := by
  unfold State.depart
  extract_lets v p s1 q s2 sp s3 s4
  simp only [raise_ports, note_ports]
  rw [show s4.ports = s3.ports from handbackWatch_ports s3 b]
  rfl
theorem depart_port {α : Type} (f : Port → α) (hf : ∀ v a b w, f { v with cmds := a, run := b, work := w } = f v) (s : State) (b c q : Nat) : f ((s.depart b c).port q) = f (s.port q) := by
  unfold State.port
  rw [depart_ports]
  by_cases h : b / 16 = q
  · subst h
    by_cases hl : b / 16 < s.ports.length
    · rw [nth_put_same _ _ _ _ hl]; exact hf _ _ _ _
    · rw [put_beyond _ _ _ (Nat.le_of_not_lt hl)]
  · rw [nth_put_other _ _ _ _ _ h]
theorem depart_run (s : State) (b c q : Nat) (h : (s.port q).run = none) : ((s.depart b c).port q).run = none := by
  unfold State.port
  rw [depart_ports]
  by_cases hq : b / 16 = q
  · subst hq
    by_cases hl : b / 16 < s.ports.length
    · rw [nth_put_same _ _ _ _ hl]; simp [h]
    · rw [put_beyond _ _ _ (Nat.le_of_not_lt hl)]; exact h
  · rw [nth_put_other _ _ _ _ _ hq]; exact h

/-- What the clear of the spare range's source leaves alone. -/
theorem clearSpare_keeps {α : Type} (f : State → α) (h : ∀ t k, f (State.clearing t k) = f t) (s : State) : f s.clearSpare = f s := by
  unfold State.clearSpare
  split
  · split
    · exact h _ _
    · rfl
  · rfl

@[simp] theorem depart_ports_length (s : State) (b c : Nat) : (s.depart b c).ports.length = s.ports.length := by
  rw [depart_ports]; exact put_length _ _ _

/-- What discovery and scans keep of a port and of a berth: a port with no run has none, its losses stay at 0 and its failed runs as counted; what a berth's
runs have committed and its counts of failures stay; no source ends. -/
structure Goes (s t : State) : Prop where
  runFails : ∀ q, (t.port q).runFails = (s.port q).runFails
  idle : ∀ q, (s.port q).run = none → (t.port q).run = none
  losses : ∀ q, (s.port q).losses = 0 → (t.port q).losses = 0
  vals : ∀ b, (t.berth b).vals = (s.berth b).vals
  fails : ∀ b, (t.berth b).fails = (s.berth b).fails
  pecs : ∀ b, (t.berth b).pecs = (s.berth b).pecs
  active : ∀ k, s.isActive k = true → t.isActive k = true
  length : t.ports.length = s.ports.length

theorem Goes.refl (s : State) : Goes s s := ⟨fun _ => rfl, fun _ h => h, fun _ h => h, fun _ => rfl, fun _ => rfl, fun _ => rfl, fun _ h => h, rfl⟩
theorem Goes.trans {s t u : State} (a : Goes s t) (b : Goes t u) : Goes s u :=
  ⟨fun q => (b.runFails q).trans (a.runFails q), fun q h => b.idle q (a.idle q h), fun q h => b.losses q (a.losses q h), fun x => (b.vals x).trans (a.vals x),
   fun x => (b.fails x).trans (a.fails x), fun x => (b.pecs x).trans (a.pecs x), fun k h => b.active k (a.active k h), b.length.trans a.length⟩

/-- States that agree on ports and berths, the second with every source of the first. -/
theorem Goes.of_eq {s t : State} (hp : t.ports = s.ports) (hb : t.berths = s.berths) (ha : ∀ k, s.isActive k = true → t.isActive k = true) : Goes s t := by
  have h1 : ∀ q, t.port q = s.port q := fun q => by unfold State.port; rw [hp]
  have h2 : ∀ q, t.berth q = s.berth q := fun q => by unfold State.berth; rw [hb]
  exact ⟨fun q => by rw [h1], fun q h => by rw [h1]; exact h, fun q h => by rw [h1]; exact h, fun q => by rw [h2], fun q => by rw [h2], fun q => by rw [h2], ha, by rw [hp]⟩

theorem Goes.port (s : State) (p : Nat) (v : Port) (h1 : v.runFails = (s.port p).runFails) (h2 : (s.port p).run = none → v.run = none)
    (h3 : (s.port p).losses = 0 → v.losses = 0) : Goes s (s.setPort p v) := by
  have key : ∀ q, (s.setPort p v).port q = s.port q ∨ (q = p ∧ (s.setPort p v).port q = v) := by
    intro q
    by_cases hq : p = q
    · subst hq
      by_cases hl : p < s.ports.length
      · exact Or.inr ⟨rfl, port_setPort_same _ _ _ hl⟩
      · refine Or.inl ?_; unfold State.setPort; rw [put_beyond _ _ _ (Nat.le_of_not_lt hl)]
    · exact Or.inl (port_setPort_other _ _ _ _ hq)
  refine ⟨fun q => ?_, fun q h => ?_, fun q h => ?_, fun _ => rfl, fun _ => rfl, fun _ => rfl, fun _ h => h, put_length _ _ _⟩
  · rcases key q with e | ⟨rfl, e⟩ <;> rw [e]; exact h1
  · rcases key q with e | ⟨rfl, e⟩ <;> rw [e]
    · exact h
    · exact h2 h
  · rcases key q with e | ⟨rfl, e⟩ <;> rw [e]
    · exact h
    · exact h3 h

theorem Goes.berth (s : State) (b : Nat) (v : Berth) (h1 : v.vals = (s.berth b).vals) (h2 : v.fails = (s.berth b).fails) (h3 : v.pecs = (s.berth b).pecs) :
    Goes s (s.setBerth b v) := by
  have key : ∀ q, (s.setBerth b v).berth q = s.berth q ∨ (q = b ∧ (s.setBerth b v).berth q = v) := by
    intro q
    by_cases hq : b = q
    · subst hq
      by_cases hl : b < s.berths.length
      · exact Or.inr ⟨rfl, berth_setBerth_same _ _ _ hl⟩
      · refine Or.inl ?_; unfold State.setBerth; rw [put_beyond _ _ _ (Nat.le_of_not_lt hl)]
    · exact Or.inl (berth_setBerth_other _ _ _ _ hq)
  refine ⟨fun _ => rfl, fun _ h => h, fun _ h => h, fun q => ?_, fun q => ?_, fun q => ?_, fun _ h => h, rfl⟩
  · rcases key q with e | ⟨rfl, e⟩ <;> rw [e]; exact h1
  · rcases key q with e | ⟨rfl, e⟩ <;> rw [e]; exact h2
  · rcases key q with e | ⟨rfl, e⟩ <;> rw [e]; exact h3

theorem Goes.clearing (s : State) (k : Key) : Goes s (s.clearing k) := .of_eq rfl rfl (fun j h => by simpa using h)
theorem Goes.note (s : State) (k : Nat) (l : List Byte) : Goes s (s.note k l) := .of_eq rfl rfl (fun _ h => h)
theorem Goes.raise (s : State) (k : Key) (d : Nat) : Goes s (s.raise k d) := .of_eq (by simp) (by simp) (fun j h => raise_isActive_of s k j d h)
theorem Goes.busyFor (s : State) (p : Nat) (x : Rat) : Goes s (s.busyFor p x) := by
  unfold State.busyFor
  dsimp only
  split
  · exact .port _ _ _ (by rfl) (by exact id) (by exact id)
  · exact .port _ _ _ (by rfl) (by exact id) (by exact id)
theorem Goes.completed (s : State) (p : Nat) (x : Rat) : Goes s (s.completed p x) := by
  unfold State.completed
  dsimp only
  exact (Goes.busyFor s p x).trans (Goes.trans (Goes.port _ _ _ (by rfl) (by exact id) (by intro _; rfl)) (.clearing _ _))
theorem Goes.depart (s : State) (b c : Nat) : Goes s (s.depart b c) := by
  have hb : ∀ {α : Type} (f : Berth → α) (_ : ∀ v x y, f { v with present := false, arriving := false, awaited := false, stale := true, due := false, redo := none, departures := x, failRun := 0, hostStatus := y } = f v) (q : Nat),
      f ((s.depart b c).berth q) = f (s.berth q) := by
    intro α f hf q
    by_cases hq : b = q
    · subst hq
      by_cases hl : b < s.berths.length
      · rw [depart_berth_same _ _ _ hl]; exact hf _ _ _
      · unfold State.berth; rw [depart_berths, put_beyond _ _ _ (Nat.le_of_not_lt hl)]
    · rw [depart_berth_other _ _ _ _ hq]
  exact ⟨fun q => depart_port (·.runFails) (fun _ _ _ _ => rfl) s b c q, fun q h => depart_run s b c q h,
    fun q h => (depart_port (·.losses) (fun _ _ _ _ => rfl) s b c q).trans h, hb (·.vals) (fun _ _ _ => rfl), hb (·.fails) (fun _ _ _ => rfl), hb (·.pecs) (fun _ _ _ => rfl),
    fun k h => depart_isActive_of s b c k h, depart_ports_length s b c⟩
theorem Goes.ite {c : Prop} [Decidable c] {s t u : State} (a : Goes s t) (b : Goes s u) : Goes s (if c then t else u) := by split <;> assumption
theorem Goes.foldl {α : Type} (g : State → α → State) (h : ∀ t x, Goes t (g t x)) (l : List α) (s : State) : Goes s (l.foldl g s) := by
  induction l generalizing s with
  | nil => exact .refl s
  | cons x l ih => exact (h s x).trans (ih _)

/-- Steps 1 and 2 of an arrival (R418). -/
theorem Goes.beginArrival (s : State) (b : Nat) (a : Arrival) : Goes s (s.beginArrival b a) := by
  unfold State.beginArrival
  extract_lets p x w u
  have hw : Goes s w := .berth _ _ _ (by rfl) (by rfl) (by rfl)
  have hu : Goes s u := hw.trans (.completed _ _ _)
  have hv : Goes s (u.setBerth b { u.berth b with voutMode := a.voutMode }) := hu.trans (.berth _ _ _ (by rfl) (by rfl) (by rfl))
  split
  · exact hu
  · rename_i v _ _
    change Goes s v at hv
    split
    · split
      · exact hv.trans (.berth _ _ _ (by rfl) (by rfl) (by rfl))
      · exact hv
    · exact hv
theorem Goes.stray (s : State) (p a : Nat) : Goes s (s.stray p a) := by
  unfold State.stray
  exact Goes.trans (Goes.port _ _ _ (by rfl) (by exact id) (by exact id)) (.note _ _ _)
theorem Goes.spareOut (s : State) (p : Nat) : Goes s (s.spareOut p) := by
  unfold State.spareOut
  exact Goes.trans (Goes.port _ _ _ (by rfl) (by exact id) (by exact id)) (.raise _ _ _)
theorem Goes.foundArp (s : State) (a : Arrival) : Goes s (s.foundArp a) := by
  unfold State.foundArp
  extract_lets p u
  have hu : Goes s u := by
    unfold u; split
    · exact .depart _ _ _
    · exact .refl s
  split
  · exact (hu.trans (.completed _ _ _)).trans (.beginArrival _ _ _)
  · exact (hu.trans (.completed _ _ _)).trans (.stray _ _ _)
  · exact (hu.trans (.completed _ _ _)).trans (.spareOut _ _)
theorem Goes.foundFixed (s : State) (d : Bool) (a : Arrival) : Goes s (s.foundFixed d a) := by
  unfold State.foundFixed
  split
  · exact .beginArrival _ _ _
  · exact .refl s

/-- Taking devices off the list of those found. -/
theorem Goes.todo (s : State) (p : Nat) (l : List (Bool × Arrival)) : Goes s (s.setPort p { s.port p with todo := l }) :=
  .port s p _ rfl id id

/-- Whatever discovery or a scan does when it goes on. -/
theorem goOn_goes (p n : Nat) (s : State) : Goes s (s.goOn p n) := by
  induction n generalizing s with
  | zero => exact .refl s
  | succ n ih =>
    unfold State.goOn
    split
    · exact .refl s
    · dsimp only
      split
      · rename_i x _
        have hs := Goes.todo s p ((s.port p).todo.erase x)
        exact (hs.trans (.ite (.foundArp _ _) (.refl _))).trans (ih _)
      · exact (Goes.todo s p []).trans (.foldl (fun (t : State) (x : Bool × Arrival) => t.foundFixed x.1 x.2) (fun _ _ => .foundFixed _ _ _) _ _)
theorem clearSpare_goes (s : State) : Goes s s.clearSpare := by
  unfold State.clearSpare
  split
  · exact .ite (.clearing _ _) (.refl _)
  · exact .refl s
theorem discoveryDone_goes (s : State) (p : Nat) : Goes s (s.discoveryDone p) := by
  unfold State.discoveryDone
  extract_lets u v w
  have hu : Goes s u := goOn_goes _ _ _
  have hw : Goes s w := by
    unfold w; split
    · exact hu.trans (Goes.trans (t := State.setPort u p _) (Goes.port _ _ _ (by rfl) (by exact id) (by exact id)) (clearSpare_goes _))
    · exact hu
  split
  · exact hw.trans (.of_eq rfl rfl (fun _ h => h))
  · exact hw
@[simp] theorem discoveryDone_ports_length (s : State) (p : Nat) : (s.discoveryDone p).ports.length = s.ports.length := (discoveryDone_goes s p).length

/-- A failed run commits nothing: it is gone from its port, counted there and at its berth, and its source is active. -/
theorem failRun_spec (s : State) (p kind : Nat) (r : Run) (hr : (s.port p).run = some r) (hn : r.last = false) (hp : p < s.ports.length) :
    ((s.failRun p kind).port p).run = none ∧ ((s.failRun p kind).port p).runFails = (s.port p).runFails + 1
    ∧ ((s.failRun p kind).port p).losses = 0 ∧ ((s.failRun p kind).berth r.berth).vals = (s.berth r.berth).vals
    ∧ (r.berth < s.berths.length → ((s.failRun p kind).berth r.berth).fails = (s.berth r.berth).fails + 1
        ∧ ((s.failRun p kind).berth r.berth).pecs = (s.berth r.berth).pecs + b2n (kind == 3))
    ∧ (s.mayRaise (s.berthKey r.berth kind) = true → (s.failRun p kind).isActive (s.berthKey r.berth kind) = true) := by
  unfold State.failRun
  simp only [hr, hn, Bool.false_eq_true, if_false]
  generalize hw : State.handbackWatch _ _ = w
  have hwp : w.ports = put s.ports p { s.port p with run := none, work := .none, losses := 0, runFails := (s.port p).runFails + 1 } := by
    rw [← hw, handbackWatch_ports]; rfl
  have hwb : w.berths = put s.berths r.berth { s.berth r.berth with fails := (s.berth r.berth).fails + 1, failRun := (s.berth r.berth).failRun + 1, pecs := (s.berth r.berth).pecs + b2n (kind == 3), arriving := false, found := none } := by
    rw [← hw, handbackWatch_berths]; rfl
  have hwk : w.berthKey r.berth kind = s.berthKey r.berth kind := by
    rw [← hw]
    exact handbackWatch_keeps (f := fun t => t.berthKey r.berth kind) (unraised_view fun t => t.berthKey r.berth kind) ⟨fun _ _ => rfl, fun _ _ _ _ => rfl, fun _ _ _ => rfl, fun _ _ _ => rfl⟩ _ _
  have hwm : w.part = s.part ∧ w.mode.regions = s.mode.regions := by rw [← hw, handbackWatch_part, handbackWatch_regions]; exact ⟨rfl, rfl⟩
  clear hw
  rw [hwk]
  generalize hu : State.raise _ _ _ = u
  have hup : u.port p = { s.port p with run := none, work := .none, losses := 0, runFails := (s.port p).runFails + 1 } := by
    rw [← hu, raise_port]
    exact (congrArg (fun l => nth l p {}) hwp).trans (nth_put_same s.ports p _ {} hp)
  have hub : r.berth < s.berths.length → u.berth r.berth = { s.berth r.berth with fails := (s.berth r.berth).fails + 1, failRun := (s.berth r.berth).failRun + 1, pecs := (s.berth r.berth).pecs + b2n (kind == 3), arriving := false, found := none } := by
    intro hb
    rw [← hu, raise_berth]
    exact (congrArg (fun l => nth l r.berth {}) hwb).trans (nth_put_same s.berths r.berth _ {} hb)
  have hun : ¬ r.berth < s.berths.length → u.berth r.berth = s.berth r.berth := by
    intro hb
    rw [← hu, raise_berth]
    exact (congrArg (fun l => nth l r.berth {}) hwb).trans (congrArg (fun l => nth l r.berth {}) (put_beyond s.berths r.berth _ (Nat.le_of_not_lt hb)))
  have hua : s.mayRaise (s.berthKey r.berth kind) = true → u.isActive (s.berthKey r.berth kind) = true := by
    intro hm
    rw [← hu]
    refine raise_isActive _ _ _ ?_
    rw [mayRaise_congr (s := s) hwm.1 hwm.2]
    exact hm
  have key : ∀ t : State, Goes u t → (t.port p).run = none ∧ (t.port p).runFails = (s.port p).runFails + 1
    ∧ (t.port p).losses = 0 ∧ (t.berth r.berth).vals = (s.berth r.berth).vals
    ∧ (r.berth < s.berths.length → (t.berth r.berth).fails = (s.berth r.berth).fails + 1
        ∧ (t.berth r.berth).pecs = (s.berth r.berth).pecs + b2n (kind == 3))
    ∧ (s.mayRaise (s.berthKey r.berth kind) = true → t.isActive (s.berthKey r.berth kind) = true) := by
    intro t ht
    refine ⟨ht.idle p (by rw [hup]), by rw [ht.runFails, hup], ht.losses p (by rw [hup]), ?_, fun hb => ⟨by rw [ht.fails, hub hb], by rw [ht.pecs, hub hb]⟩, fun hm => ht.active _ (hua hm)⟩
    rw [ht.vals]
    by_cases hb : r.berth < s.berths.length
    · rw [hub hb]
    · rw [hun hb]
  split
  · exact key _ ((Goes.depart _ _ _).trans (discoveryDone_goes _ _))
  · exact key _ (discoveryDone_goes _ _)
theorem targetTakes_keeps {α : Type} (f : State → α) (hm : ∀ (t : State) v, f { t with mode := v } = f t) (s : State) (p : Nat) : f (s.targetTakes p) = f s := hm s _
@[simp] theorem targetTakes_now (s : State) (p : Nat) : (s.targetTakes p).now = s.now := targetTakes_keeps (·.now) (fun _ _ => rfl) s p
@[simp] theorem targetTakes_part (s : State) (p : Nat) : (s.targetTakes p).part = s.part := targetTakes_keeps (·.part) (fun _ _ => rfl) s p
@[simp] theorem targetTakes_supply (s : State) (p : Nat) : (s.targetTakes p).supply = s.supply := targetTakes_keeps (·.supply) (fun _ _ => rfl) s p
@[simp] theorem targetTakes_ports (s : State) (p : Nat) : (s.targetTakes p).ports = s.ports := targetTakes_keeps (·.ports) (fun _ _ => rfl) s p
@[simp] theorem targetTakes_berths (s : State) (p : Nat) : (s.targetTakes p).berths = s.berths := targetTakes_keeps (·.berths) (fun _ _ => rfl) s p
@[simp] theorem targetTakes_net (s : State) (p : Nat) : (s.targetTakes p).net = s.net := targetTakes_keeps (·.net) (fun _ _ => rfl) s p
@[simp] theorem targetTakes_cfg (s : State) (p : Nat) : (s.targetTakes p).cfg = s.cfg := targetTakes_keeps (·.cfg) (fun _ _ => rfl) s p
@[simp] theorem targetTakes_img (s : State) (p : Nat) : (s.targetTakes p).img = s.img := targetTakes_keeps (·.img) (fun _ _ => rfl) s p
@[simp] theorem targetTakes_faults (s : State) (p : Nat) : (s.targetTakes p).faults = s.faults := targetTakes_keeps (·.faults) (fun _ _ => rfl) s p
@[simp] theorem targetTakes_log (s : State) (p : Nat) : (s.targetTakes p).log = s.log := targetTakes_keeps (·.log) (fun _ _ => rfl) s p
@[simp] theorem targetTakes_pending (s : State) (p : Nat) : (s.targetTakes p).pending = s.pending := targetTakes_keeps (·.pending) (fun _ _ => rfl) s p
@[simp] theorem targetTakes_spm (s : State) (p : Nat) : (s.targetTakes p).spm = s.spm := targetTakes_keeps (·.spm) (fun _ _ => rfl) s p
@[simp] theorem targetTakes_rails (s : State) (p : Nat) : (s.targetTakes p).rails = s.rails := targetTakes_keeps (·.rails) (fun _ _ => rfl) s p
@[simp] theorem targetTakes_port (s : State) (p q : Nat) : (s.targetTakes p).port q = s.port q := targetTakes_keeps (·.port q) (fun _ _ => rfl) s p
@[simp] theorem targetTakes_berth (s : State) (p q : Nat) : (s.targetTakes p).berth q = s.berth q := targetTakes_keeps (·.berth q) (fun _ _ => rfl) s p
@[simp] theorem targetTakes_portN (s : State) (p q i : Nat) : (s.targetTakes p).portN q i = s.portN q i := targetTakes_keeps (·.portN q i) (fun _ _ => rfl) s p
@[simp] theorem targetTakes_berthN (s : State) (p q i : Nat) : (s.targetTakes p).berthN q i = s.berthN q i := targetTakes_keeps (·.berthN q i) (fun _ _ => rfl) s p
@[simp] theorem targetTakes_berthAt (s : State) (p q i : Nat) : (s.targetTakes p).berthAt q i = s.berthAt q i := targetTakes_keeps (·.berthAt q i) (fun _ _ => rfl) s p
@[simp] theorem berthAt_setPort (s : State) (p : Nat) (v : Port) (q i : Nat) : (s.setPort p v).berthAt q i = s.berthAt q i := rfl

theorem alertBerth_some (s : State) (p a b : Nat) (h : s.berthAt p a = some b) (hb : b < s.berths.length) : ((s.alertBerth p a).berth b).alert = true := by
  unfold State.alertBerth; simp only [h]; rw [berth_setBerth_same _ _ _ (by simpa using hb)]
theorem alertBerth_other (s : State) (p a b : Nat) (h : s.berthAt p a ≠ some b) : (s.alertBerth p a).berth b = s.berth b := by
  unfold State.alertBerth
  split
  · rename_i c hc
    exact berth_setBerth_other _ _ _ _ (fun e => h (by rw [hc, e]))
  · rfl
/-- An alert changes nothing of a port but the marks of the runs that are open there. -/
theorem alertBerth_port {α : Type} (f : Port → α) (hf : ∀ v a b, f { v with run := a, heard := b } = f v) (s : State) (p a q : Nat) : f ((s.alertBerth p a).port q) = f (s.port q) := by
  unfold State.alertBerth
  split
  · by_cases h : p = q
    · subst h; by_cases hl : p < s.ports.length
      · simp only [port_setBerth, port_setPort_same _ _ _ hl, hf]
      · simp [State.port, State.setPort, State.setBerth, put_beyond _ _ _ (Nat.le_of_not_lt hl)]
    · simp [h]
  · rfl
theorem runAt_run {s : State} {p o : Nat} {r : Run} {w : Nat} (h : s.runAt p o = some (r, w)) : (s.port p).run = some r := by
  unfold State.runAt at h
  split at h
  · simp at h
  · rename_i x hx
    split at h
    · simp at h
    · dsimp only at h
      split at h
      · simp at h; rw [hx, h.1]
      · simp at h
theorem runAt_op {s : State} {p o : Nat} {r : Run} {w : Nat} (h : s.runAt p o = some (r, w)) : bits w 28 4 = o := by
  unfold State.runAt at h
  split at h
  · simp at h
  · split at h
    · simp at h
    · dsimp only at h
      split at h
      · rename_i hc; simp only [Bool.and_eq_true, beq_iff_eq, Option.some.injEq, Prod.mk.injEq] at h hc; rw [← h.2]; tauto
      · simp at h
theorem bits_imm (w lo n : Nat) (h : lo + n ≤ 16) : bits (bits w 0 16) lo n = bits w lo n := by
  unfold bits
  simp only [pow_zero, Nat.div_one]
  have e : 2 ^ 16 = 2 ^ lo * (2 ^ n * 2 ^ (16 - (lo + n))) := by rw [← pow_add, ← pow_add]; congr 1; omega
  rw [e, Nat.mod_mul_right_div_self, Nat.mod_mul_right_mod]
theorem guardedWrite_refused (s : State) (ch : Chan) (idx sub : Nat) (data : List Byte) (c : Nat) (t : State) (h : Safety.writable s ch idx sub data = true) (hc : c ≠ 0) :
    s.guardedWrite ch idx sub data c t = (s.touch ch).answerWrite ch c := by
  simp only [Safety.writable, Bool.and_eq_true, Bool.or_eq_true, Bool.not_eq_true', beq_iff_eq] at h
  obtain ⟨⟨h1, h2⟩, h3⟩ := h
  unfold State.guardedWrite
  simp only [h1, h2]
  cases hi : isCommon (s.target idx) sub <;> simp_all
@[simp] theorem cancelHandover_img (s : State) : s.cancelHandover.img = s.img := by unfold State.cancelHandover; split <;> rfl
/-- A departure leaves the configuration alone where no hand-back is under way, which it could abandon (R225). -/
theorem depart_cfg (s : State) (b c : Nat) (h : s.spm.supply ≠ .handback) : (s.depart b c).cfg = s.cfg := by
  unfold State.depart State.handbackWatch
  simp only [raise_cfg, note_cfg]
  rw [if_neg]
  · rfl
  · intro hc
    simp only [Bool.and_eq_true, beq_iff_eq] at hc
    exact h hc.1.1
theorem hostCmd_present {s : State} {b w : Nat} (h : s.hostCmdStatus b w = 0) : (s.berth b).present = true := by
  unfold State.hostCmdStatus at h
  dsimp only at h
  split at h
  · exact absurd h (by decide)
  · split at h
    · exact absurd h (by decide)
    · split at h
      · exact absurd h (by decide)
      · rename_i hc; simp at hc; exact hc.1.2
@[simp] theorem failTrial_img_hitFrom (s : State) : s.failTrial.img.hitFrom = s.img.hitFrom := by
  unfold State.failTrial; split
  · split <;> rfl
  · rfl
@[simp] theorem failTrial_now (s : State) : s.failTrial.now = s.now := by
  unfold State.failTrial; split
  · split <;> rfl
  · rfl
@[simp] theorem failTrial_img_hitOldFw (s : State) : s.failTrial.img.hitOldFw = s.img.hitOldFw := by
  unfold State.failTrial; split
  · split <;> rfl
  · rfl
theorem gapEnd_keeps {α : Type} (f : State → α) (hi : ∀ (t : State) v, f { t with img := v } = f t) (he : ∀ t k v, f (State.setEst t k v) = f t) (hc : ∀ t k v, f (State.setCharger t k v) = f t) (s : State) : f s.gapEnd = f s := by
  unfold State.gapEnd
  dsimp only
  rw [hi, forUnits_keeps f]
  intro t n
  rw [hc, he]
theorem gapEnd_tide (s : State) : s.gapEnd.tide = s.tide := gapEnd_keeps (·.tide) (fun _ _ => rfl) (fun _ _ _ => rfl) (fun _ _ _ => rfl) s
theorem forUnits_img (l : List Nat) (F : State → Nat → State) (h : ∀ t n, (F t n).img = t.img) (s : State) : (forUnits l F s).img = s.img := by exact forUnits_keeps (·.img) F l h s
theorem forUnits_now (l : List Nat) (F : State → Nat → State) (h : ∀ t n, (F t n).now = t.now) (s : State) : (forUnits l F s).now = s.now := by exact forUnits_keeps (·.now) F l h s
@[simp] theorem setEst_img (s : State) (k : Nat) (e : Estimator) : (s.setEst k e).img = s.img := rfl
@[simp] theorem setEst_now (s : State) (k : Nat) (e : Estimator) : (s.setEst k e).now = s.now := rfl
theorem setCharger_img' (s : State) (k : Nat) (e : Charger) : (s.setCharger k e).img = s.img := rfl
theorem setCharger_now' (s : State) (k : Nat) (e : Charger) : (s.setCharger k e).now = s.now := rfl
theorem gapEnd_img (s : State) : s.gapEnd.img = { s.img with hitGap := s.since s.img.hitFrom } := by
  unfold State.gapEnd
  dsimp only
  unfold State.since
  rw [forUnits_img, forUnits_now]
  · intro t n; rw [setCharger_now', setEst_now]
  · intro t n; rw [setCharger_img', setEst_img]
@[simp] theorem failTrial_since (s : State) (n : Nat) : s.failTrial.since n = s.since n := by
  unfold State.failTrial; split
  · split <;> rfl
  · rfl
theorem confirmTrial_tide (s : State) : s.confirmTrial.tide = s.tide := by
  unfold State.confirmTrial; split
  · rfl
  · split <;> rfl
theorem confirmTrial_img {α : Type} (f : Img → α) (h : ∀ m a b, f { m with trial := a, keyParts := b } = f m) (s : State) : f s.confirmTrial.img = f s.img := by
  unfold State.confirmTrial; split
  · rfl
  · split
    · exact h s.img 2 _
    · rfl
theorem confirmTrial_trial (s : State) (k : Nat) (h1 : s.img.fwRun = some k) (h2 : s.img.trial = 1) (h3 : k = s.img.trialSlot) : s.confirmTrial.img.trial = 2 := by
  unfold State.confirmTrial; simp [h1, h2, h3, Img.confirm]
theorem finishHitless_keeps {α : Type} (f : State → α) (h : ∀ (t : State) a b c, f { t with img := a, cfg := b, faults := c } = f t) (s : State) : f s.finishHitless = f s := by
  unfold State.finishHitless; split
  · exact h _ _ _ _
  · rfl
theorem foldl_keeps {α β : Type} (f : State → β) (g : State → α → State) (h : ∀ t r, f (g t r) = f t) (l : List α) (t : State) : f (l.foldl g t) = f t := by
  induction l generalizing t with
  | nil => rfl
  | cons a l ih => exact (ih _).trans (h t a)
theorem swapInst_tide (s : State) (old : List LoopRec) (r : LoopRec) : (s.swapInst old r).tide = s.tide := by
  unfold State.swapInst
  dsimp only
  repeat' split
  all_goals rfl
theorem clearSlots_tide (s : State) : s.clearSlots.tide = s.tide := by
  unfold State.clearSlots
  exact foldl_keeps (·.tide) (fun t (a : ActiveSrc) => t.clearing a.key) (fun t a => rfl) _ s
theorem swapBanks_tide (s : State) : s.swapBanks.tide = { s.tide with active := 1 - s.tide.active, swap := 3, swapCount := s.tide.swapCount + 1, variant := variantFor (nth s.tide.banks (1 - s.tide.active) {}).variants s.tide.ageing } := by
  unfold State.swapBanks
  dsimp only
  rw [clearSlots_tide, foldl_keeps (·.tide) _ (fun t o => by split <;> rfl), foldl_keeps (·.tide) _ (fun t r => swapInst_tide t _ r)]
@[simp] theorem failRun_ports_length (s : State) (p k : Nat) : (s.failRun p k).ports.length = s.ports.length := by
  unfold State.failRun; split
  · rfl
  · dsimp only
    split
    · exact put_length _ _ _
    · split
      · rw [discoveryDone_ports_length, depart_ports_length, raise_ports_length, handbackWatch_ports]; exact put_length _ _ _
      · rw [discoveryDone_ports_length, raise_ports_length, handbackWatch_ports]; exact put_length _ _ _
@[simp] theorem failTransaction_ports_length (s : State) (p : Nat) : (s.failTransaction p).ports.length = s.ports.length := by
  unfold State.failTransaction; split
  · split
    · unfold State.cmdFailed; dsimp only; split
      · exact put_length _ _ _
      · rw [raise_ports_length]; exact put_length _ _ _
    · exact put_length _ _ _
  · exact failRun_ports_length _ _ _
  · exact put_length _ _ _

theorem railSeen_keeps {α : Type} (f : State → α) (hr : ∀ t n v, f (State.setRail t n v) = f t) (hc : ∀ (t : State) k, f (t.clearing k) = f t) (s : State) (r : Nat) :
    f (s.railSeen r) = f s := by
  have h2 : ∀ (t : State) n, f (t.railRose n) = f t := by
    intro t n; unfold State.railRose; dsimp only; rw [hc, hc, hc, hr]
  unfold State.railSeen
  generalize hu : State.setRail s r _ = u
  have hfu : f u = f s := by rw [← hu]; exact hr _ _ _
  unfold State.railTurns
  extract_lets w
  generalize (w && _ && _) = c
  cases c
  · exact hfu
  · exact (h2 u r).trans hfu
theorem railPoll_keeps {α : Type} (f : State → α) (hr : ∀ t n v, f (State.setRail t n v) = f t) (hx : ∀ (t : State) v, f { t with faults := v } = f t) (s : State) (b : Nat) (v : Rat) (bad : Bool) :
    f (s.railPoll b v bad) = f s := by
  have hc : ∀ (t : State) k, f (t.clearing k) = f t := fun t k => hx t _
  unfold State.railPoll
  apply forUnits_keeps
  intro t r
  unfold State.railPolled
  extract_lets x u
  have hu : f u = f t := hr _ _ _
  split
  · exact (railSeen_keeps f hr hc _ _).trans ((hr _ _ _).trans hu)
  · exact hu
theorem consume_keeps_twowire {α : Type} {f : State → α} (hr : ∀ t n v, f (State.setRail t n v) = f t) (h : RaiseKeeps f) (hp : PowerKeeps f) (s : State) (b : Nat) : f (s.consume b) = f s := by
  unfold State.consume
  extract_lets v fault good sp s1 s2 s3 k
  have h1 : f s1 = f s := hp.spm s _
  have h2 : f s2 = f s1 := handbackWatch_keeps h hp _ _
  have h3 : f s3 = f s2 := railPoll_keeps f hr h.faults _ _ _ _
  split
  · exact (raiseWith_keeps h _ _ _ _ _).trans (h3.trans (h2.trans h1))
  · exact (h.faults _ _).trans (h3.trans (h2.trans h1))
@[simp] theorem consume_berths (s : State) (b : Nat) : (s.consume b).berths = s.berths := consume_keeps_twowire (f := (·.berths)) (fun _ _ _ => rfl) (unraised_view (·.berths)) ⟨fun _ _ => rfl, fun _ _ _ _ => rfl, fun _ _ _ => rfl, fun _ _ _ => rfl⟩ s b
@[simp] theorem consume_ports (s : State) (b : Nat) : (s.consume b).ports = s.ports := consume_keeps_twowire (f := (·.ports)) (fun _ _ _ => rfl) (unraised_view (·.ports)) ⟨fun _ _ => rfl, fun _ _ _ _ => rfl, fun _ _ _ => rfl, fun _ _ _ => rfl⟩ s b
theorem commitRun_ports (s : State) (r : Run) : (s.commitRun r).ports = s.ports := by
  unfold State.commitRun
  cases hr : r.arrival
  · simp only [Bool.false_eq_true, if_false]
    rw [consume_ports, clearing_ports, clearing_ports, setBerth_ports]
  · simp only [if_true]
    rw [consume_ports, clearing_ports, note_ports, setBerth_ports, clearing_ports, clearing_ports, setBerth_ports]
theorem commitRun_berth (s : State) (r : Run) (h : r.berth < s.berths.length) : ((s.commitRun r).berth r.berth).vals = r.vals ∧ ((s.commitRun r).berth r.berth).runs = (s.berth r.berth).runs + 1
    ∧ ((s.commitRun r).berth r.berth).committedAt = s.now ∧ ((s.commitRun r).berth r.berth).failRun = 0 ∧ ((s.commitRun r).berth r.berth).stale = false := by
  have hc : ∀ t : State, (t.consume r.berth).berth r.berth = t.berth r.berth := by intro t; unfold State.berth; rw [consume_berths]
  unfold State.commitRun
  cases hr : r.arrival
  · simp only [Bool.false_eq_true, if_false]
    rw [hc, clearing_berth, clearing_berth, berth_setBerth_same _ _ _ h]
    exact ⟨rfl, rfl, rfl, rfl, rfl⟩
  · simp only [if_true]
    rw [hc, clearing_berth, note_berth, berth_setBerth_same _ _ _ (by rw [clearing_berths, clearing_berths, setBerth_berths, put_length]; exact h)]
    exact ⟨rfl, rfl, rfl, rfl, rfl⟩

end Sys2Proof.Machine
end

