-- ==== Sys2Proof/Tests/Slice0.lean ====
section
/-! SUPPORT. Small tests: well-formedness, single steps, and a witness for every statement with hypotheses. -/
namespace Sys2Proof.Tests

set_option Elab.async false

open Machine

/-- A running package in a mode, its regions as Table 02-4 gives them. -/
def wMode (m : Mode) : State :=
  { supply := { phase := .running }, mode := { mode := m, online := true, regions := regionsOf m } }

/-- An input and its group run. -/
def wIn : State := { wMode .active with groups := List.replicate 4 { running := true }, cfg := [(objKey 0x4000 1, [1])] }

/-- A network with SDO server 1 of C0, which is operational, at service level. -/
def wNet : Net := { sdo := List.replicate 8 { level := 2 }, can := [{ nmt := .operational }, {}], eth := [{ enabled := true, linkUp := true }, {}] }

/-- A package whose dictionary is served to SDO server 1 of C0 at service level; this side holds `OWN_N`. -/
def wSdo (m : Mode) : State := { wMode m with net := wNet, pair := { owns := true } }

/-- String 0 is used. -/
def wStr (v : Str) : State := { wSdo .active with strs := List.replicate 8 v, cfg := [(objKey 0x5001 1, [1])] }

/-- Group 0 stands at an instruction of its rise, or its descent, program. -/
def wSeq (p : GroupPhase) (op : Nat) : State :=
  { wSdo .rise with railGroups := List.replicate 4 { phase := p, running := true }, rails := List.replicate 32 {},
                    cfg := [(objKey 0x4340 1, [0, 0, 0, BitVec.ofNat 8 (16 * op)]), (objKey 0x4344 1, [0, 0, 0, BitVec.ofNat 8 (16 * op)]), (objKey 0x4310 2, [0]), (objKey 0x4310 5, [0xFF]), (objKey 0x4310 6, [0xFF])]
                           ++ (List.range 32).map fun r => (objKey (0x4310 + r) 2, [4]) }

/-- Rail 0 is used with a kind, in a group 0 of a phase. -/
def wRail (m : Mode) (kind : Nat) (g : GroupPhase) (v : Rail) : State :=
  { wSdo m with railGroups := List.replicate 4 { phase := g }, rails := List.replicate 32 v, cfg := [(objKey 0x4310 2, [BitVec.ofNat 8 kind]), (objKey 0x4310 3, [0])] }

/-- The link to the twin runs in a mode. -/
def wPair (m : Mode) (p : Pair) : State := { wMode m with pair := p }

/-- Nireo session 1 is open on port E0. -/
def wNireo : State := { wSdo .active with net := { wNet with nireo := [{ num := 1 }] } }

/-- CAN ports in a state. -/
def wCan (c : CanPort) : State := { wSdo .active with net := { can := [c, c] } }

/-- Ethernet ports in a state. -/
def wEth (e : EthPort) : State := { wSdo .active with net := { eth := [e, e] } }

/-- A trained DRAM channel of 8 GiB without byte parity. -/
def wDram : State := { wSdo .active with mem := { trainResult := 1, byteParity := false }, cfg := [(objKey 0x4600 2, [1]), (objKey 0x4600 3, [0])] }

/-- The hypotheses of LockoutLatchOnlyClearedByPowerCycle are met. -/
theorem test_w_lockoutLatch : Instr.lockoutEntry ≠ .porAsserted ∧ (∀ a b d e, Instr.lockoutEntry ≠ .porRelease a b d e)
    ∧ exec .lockoutEntry { wMode .lockout with mode := { (wMode .lockout).mode with lockoutLatch := true, lockoutCause := 1 } }
      = .next { wMode .lockout with mode := { (wMode .lockout).mode with lockoutLatch := true, lockoutCause := 1 } } :=
  ⟨(fun h => nomatch h), (fun _ _ _ _ h => nomatch h), rfl⟩

theorem test_w_memoryForm : ∃ s t : State, s.memoryWf = true ∧ step s = .next t := ⟨State.reset, State.reset.idle, by decide, rfl⟩

/-- Both clauses of PendingBufferReplacement: the class of the arriving record at, and just below, the lowest class pending. -/
theorem test_w_pendingBuffer : ∃ (l : Log) (x : Record) (b : List Record), l.waiting = [] ++ x :: b ∧ l.waiting.length = 256 ∧ l.drops.length = 6
    ∧ (∀ y ∈ l.waiting, y.cls < 6) ∧ (∀ y ∈ b, x.cls ≤ y.cls) ∧ x.cls ≤ ({ cls := 1 } : Record).cls ∧ ({ cls := 0 } : Record).cls < x.cls :=
  ⟨{ waiting := { cls := 1 } :: List.replicate 255 { cls := 1 } }, { cls := 1 }, List.replicate 255 { cls := 1 }, rfl, by rw [List.length_cons, List.length_replicate], rfl,
    by intro y h; simp only [List.mem_cons, List.mem_replicate] at h; rcases h with h | h <;> simp_all,
    by intro y h; simp only [List.mem_replicate] at h; simp_all, by decide, by decide⟩

theorem test_w_portsHoldBerths : ∃ (s : State) (c : PCmd) (p : Nat), p < 4 ∧ c.berth < 64 ∧ s.ports.length = 4 ∧ (s.berth c.berth).present = true
    ∧ 16 * p ≤ c.berth ∧ c.berth ≤ 16 * p + 15 :=
  ⟨{ State.reset with berths := List.replicate 64 { present := true } }, { berth := 63 }, 3, by decide⟩
theorem test_w_portsHoldBerths_other : ∃ (s : State) (c : PCmd) (p : Nat), p < 4 ∧ c.berth < 64 ∧ s.ports.length = 4 ∧ (s.berth c.berth).present = true
    ∧ ¬(16 * p ≤ c.berth ∧ c.berth ≤ 16 * p + 15) :=
  ⟨{ State.reset with berths := List.replicate 64 { present := true } }, { berth := 48 }, 2, by decide⟩

theorem test_w_stuckRunDetected : ∃ (md : Nat) (s : State), (s.inputRuns md = true) :=
  ⟨0, wIn, by decide +kernel⟩

theorem test_w_stuckClearCount : ∃ (md : Nat) (s : State), (s.inputRuns md = true) ∧ ((s.modIn md).stuck = true) ∧ (md < s.mods.length) :=
  ⟨0, { wIn with mods := List.replicate 48 { stuck := true } }, by decide +kernel⟩

theorem test_w_mclkReadbackFault : ∃ (g : Nat) (s : State), (s.regionOn .sns = true) ∧ ((s.group g).running = true) :=
  ⟨0, wIn, by decide +kernel⟩

theorem test_w_fastComparatorDecision : ∃ (md : Nat) (b : Bool) (s : State), (s.inputRuns md = true) ∧ (6 ≤ s.now) ∧ (s.mclkEdge (s.inputClock md) (s.now - 6) = true) ∧ (md < s.mods.length) :=
  ⟨0, true, { wIn with now := 6, tide := { pulsed := true } }, by decide +kernel⟩

theorem test_w_calComplete : ∃ (md : Nat) (s : State), ((s.modIn md).cal = 1) ∧ ((s.modIn md).calBad = true) ∧ (md < s.mods.length) :=
  ⟨0, { wIn with mods := List.replicate 48 { cal := 1, calBad := true } }, by decide +kernel⟩

theorem test_w_calCommand : ∃ (ch : Chan) (md : Nat) (v : Nat) (s : State), (Safety.writable s ch (0x4000 + md) 8 (leBytes 1 v) = true) ∧ (s.calStatus md v = 0) ∧ (md < s.mods.length) :=
  ⟨.sdo 0 1, 0, 1, { wSdo .active with groups := List.replicate 4 { running := true }, cfg := [(objKey 0x4000 1, [1])] }, by decide +kernel⟩

theorem test_w_groupEnableWrite : ∃ (ch : Chan) (g : Nat) (v : Nat) (s : State), (Safety.writable s ch (0x4030 + g) 1 (leBytes 1 v) = true) ∧ (s.regionOn .sns = false) :=
  ⟨.sdo 0 1, 0, 1, wSdo .rise, by decide +kernel⟩

theorem test_w_loopSampleAvailable : ∃ (md : Nat) (fb : List Bool) (violations : Nat) (s : State), (s.inputRuns md = true) ∧ (s.frameDue md fb = true) ∧ (md < s.mods.length) :=
  ⟨0, List.replicate 64 true, 0, { wIn with now := 1284, tide := { pulsed := true }, cfg := [(objKey 0x4000 1, [1]), (objKey 0x4030 3, [0xFF])] }, by decide +kernel⟩

theorem test_w_seqLengthWrite : ∃ (ch : Chan) (n : Nat) (s : State), (Safety.writable s ch 0x4100 1 (leBytes 1 n) = true) :=
  ⟨.sdo 0 1, 4, wSdo .active, by decide +kernel⟩

theorem test_w_adcLapStart : ∃ (s : State), (s.lapDue = true) :=
  ⟨{ wMode .active with adc := { running := [0], due := 0 } }, by decide +kernel⟩

theorem test_w_adcEntryComplete : ∃ (volts : List Rat) (up : Rat) (down : Rat) (s : State), (s.adc.lapActive = true) ∧ (s.adc.pos < s.adc.running.length) ∧ (s.unchecked = true) ∧ (s.isShed 6 0xFF 0 = false) :=
  ⟨[0], 0, 0, { wMode .active with adc := { running := [0], lapActive := true }, faults := { active := [{ key := State.reset.key 6 0xFF 0 1 }] } }, by decide +kernel⟩

theorem test_w_adcLapEnd : ∃ (refVolts : Rat) (s : State), (s.adc.lapActive = true) ∧ (s.adc.running.length ≤ s.adc.pos) ∧ (s.isShed 6 0xFF 0 = false) :=
  ⟨6 / 10, { wMode .active with adc := { running := [0], lapActive := true, pos := 1 } }, by decide +kernel⟩

theorem test_w_tempSlot : ∃ (codes : List Nat) (s : State), (s.regionOn .sadc = true) ∧ (s.adc.slotDue ≤ s.now) ∧ (s.part = .fyx9480) ∧ (s.thermal.sensors.length = 28) :=
  ⟨List.replicate 12 0, { wMode .active with thermal := { sensors := List.replicate 28 {} } }, by decide +kernel⟩

theorem test_w_thermalDerateUpdate : ∃ (s : State), (s.regionOn .sup = true) :=
  ⟨wMode .active, by decide +kernel⟩

theorem test_w_pdmReading : ∃ (ps : List Int) (s : State), (s.regionOn .sadc = true) ∧ (s.thermal.vidAt = none) ∧ (s.isShed 6 0xFF 1 = false) :=
  ⟨[], wMode .active, by decide +kernel⟩

theorem test_w_vidUpdate : ∃ (m : Int) (s : State), (s.regionOn .sadc = true) ∧ (minInt s.thermal.mins = some m) ∧ ((m : Rat) < s.objR 0x2600 6) ∧ (s.thermal.vid < 15) :=
  ⟨-5, { wMode .active with thermal := { mins := [-5] }, cfg := [(objKey 0x2600 6, [0, 0, 0x80, 0x3F])] }, by decide +kernel⟩

theorem test_w_ageReset : ∃ (ch : Chan) (v : Nat) (s : State), (Safety.writable s ch 0x2600 9 (leBytes 1 v) = true) :=
  ⟨.sdo 0 1, 1, wSdo .service, by decide +kernel⟩

theorem test_w_ronUpdate : ∃ (s : State), (s.regionOn .eng = true) ∧ ((List.range 24).filter (fun p => (s.stageOf p).isSome) = []) :=
  ⟨wMode .active, by decide +kernel⟩

theorem test_w_replan : ∃ (s : State), (s.pair.owns = true) ∧ (s.inMode .active = true) ∧ (s.objN 0x2600 0x0A ≠ 0) ∧ (∀ p ∈ s.phases, p.inSet = false) :=
  ⟨{ wMode .active with pair := { owns := true }, phases := [{}], cfg := [(objKey 0x2600 0x0A, [1])] }, by decide +kernel⟩

theorem test_w_bankCapEstimate : ∃ (st : Nat) (charge : Rat) (dv : Rat) (s : State), (s.stageUsed st = true) ∧ (s.stageType st = 2) ∧ (s.stageOn st = true) ∧ (dv ≠ 0) ∧ (absR (s.loopY (s.objN (0x3000 + 256 * st) 0x13)) / 50 ≤ absR dv) ∧ (st < s.thermal.bank.length) ∧ (s.excursion st charge dv = true) :=
  ⟨0, 1, 1, { wMode .active with stages := List.replicate 8 { state := .running }, thermal := { bankHist := [[(0, -1, -1)]] }, cfg := [(objKey 0x3000 1, [2]), (objKey 0x3000 2, [0]), (objKey 0x3000 3, [1])] }, by decide +kernel⟩

theorem test_w_ageingCommit : ∃ (s : State), (s.regionOn .sup = true) ∧ (s.supply.phase = .running) ∧ (s.mem.failed.contains .cores = false) :=
  ⟨wMode .active, by decide +kernel⟩

theorem test_w_ageingCommit_failed : ∃ (s : State), (s.regionOn .sup = true) ∧ (s.supply.phase = .running) ∧ (s.mem.failed.contains .cores = true) :=
  ⟨{ wMode .active with mem := { failed := [.cores] } }, by decide +kernel⟩

theorem test_w_porRelease : ∃ (sideB : Bool) (legacy : Bool) (wakeLow : Bool) (train : Nat) (s : State), (s.supply.phase = .por) :=
  ⟨false, false, false, 1, { State.reset with supply := { phase := .por } }, by decide +kernel⟩

theorem test_w_dictionaryOnline : ∃ (l : List Arrival) (s : State), (s.inMode .boot = true) ∧ (s.mode.step = 3) ∧ (s.pair.electionDone = true) ∧ (s.supply.phase = .running) :=
  ⟨[], { wMode .boot with mode := { (wMode .boot).mode with step := 3 }, pair := { electionDone := true } }, by decide +kernel⟩

theorem test_w_snsEngRelease : ∃ (s : State), (s.inMode .rise = true) ∧ (s.mode.step = 5) ∧ (s.supply.phase = .running) :=
  ⟨{ wMode .rise with mode := { (wMode .rise).mode with step := 5 } }, by decide +kernel⟩

theorem test_w_prechargeEnd : ∃ (n : Nat) (s : State), (s.pair.owns = true) ∧ (s.joins = true) ∧ ((s.precharged n).isEmpty = false) ∧ (s.supply.phase = .running) :=
  ⟨0, { wMode .rise with now := 150 * ticksPerMs, pair := { owns := true }, strs := List.replicate 8 { precharging := true } }, by decide +kernel⟩

theorem test_w_auxContactConfirm : ∃ (k : Nat) (s : State), (s.pair.owns = true) ∧ (s.joins = true) ∧ ((s.str k).contactor = true) ∧ ((s.str k).prechargeDone = true) ∧ (s.supply.phase = .running) :=
  ⟨0, { wMode .rise with pair := { owns := true }, strs := List.replicate 8 { contactor := true, prechargeDone := true } }, by decide +kernel⟩

theorem test_w_enterActive : ∃ (s : State), (s.inMode .rise = true) ∧ (6 ≤ s.mode.step) ∧ (s.regionOn .eng = true) ∧ (s.supply.phase = .running) ∧ (s.pair.owns = true) ∧ (s.canCarry = true) ∧ (s.busDead = false) :=
  ⟨{ wMode .rise with mode := { (wMode .track).mode with mode := .rise, step := 6 }, pair := { owns := true }, feeds := [{ qualified := true }], cfg := [(objKey 0x4400 2, [1])] }, by decide +kernel⟩

theorem test_w_noSourceDeclared : ∃ (s : State), (s.inMode .rise = true) ∧ (s.pair.owns = true) ∧ (6 ≤ s.mode.step) ∧ (s.joiningEnded = true) ∧ (s.canCarry = false) ∧ (s.supply.phase = .running) ∧ (s.mayBlackstart = false) :=
  ⟨{ wMode .rise with now := ticksPerS, mode := { (wMode .rise).mode with step := 6, discovered := true }, pair := { owns := true } }, by decide +kernel⟩

theorem test_w_restartHoldoffEnd : ∃ (c : Nat) (s : State), (s.mode.riseWaiting = some c) ∧ (s.inModes [.boot, .moored] = true) ∧ (s.heldOff = false) ∧ (s.supply.phase = .running) :=
  ⟨0x0010, { wMode .boot with mode := { (wMode .boot).mode with riseWaiting := some 0x0010 } }, by decide +kernel⟩

theorem test_w_modeRequestRise : ∃ (ch : Chan) (s : State), (Safety.writable s ch 0x2101 1 (leBytes 1 4) = true) ∧ (s.requestStatus ch 4 = 0) :=
  ⟨.sdo 0 1, wSdo .boot, by decide +kernel⟩

theorem test_w_modeRequestService : ∃ (ch : Chan) (s : State), (Safety.writable s ch 0x2101 1 (leBytes 1 9) = true) ∧ (s.requestStatus ch 9 = 0) :=
  ⟨.sdo 0 1, wSdo .track, by decide +kernel⟩

theorem test_w_modeRequestActive : ∃ (ch : Chan) (s : State), (Safety.writable s ch 0x2101 1 (leBytes 1 6) = true) ∧ (s.requestStatus ch 6 = 0) :=
  ⟨.sdo 0 1, { wSdo .moored with mode := { (wSdo .moored).mode with online := true } }, by decide +kernel⟩

theorem test_w_modeRequestDescent : ∃ (ch : Chan) (s : State), (Safety.writable s ch 0x2101 1 (leBytes 1 10) = true) ∧ (s.requestStatus ch 0x0A = 0) :=
  ⟨.sdo 0 1, wSdo .active, by decide +kernel⟩

theorem test_w_modeRequestMoored : ∃ (ch : Chan) (s : State), (Safety.writable s ch 0x2101 1 (leBytes 1 3) = true) ∧ (s.requestStatus ch 3 = 0) :=
  ⟨.sdo 0 1, wSdo .active, by decide +kernel⟩

theorem test_w_modeRequestLayup : ∃ (ch : Chan) (s : State), (Safety.writable s ch 0x2101 1 (leBytes 1 2) = true) ∧ (s.requestStatus ch 2 = 0) :=
  ⟨.sdo 0 1, wSdo .active, by decide +kernel⟩

theorem test_w_modeRequestLeaveService : ∃ (ch : Chan) (code : Nat) (train : Nat) (s : State), (Safety.writable s ch 0x2101 1 (leBytes 1 code) = true) ∧ (s.inMode .service = true) ∧ (s.requestStatus ch code = 0) :=
  ⟨.sdo 0 1, 1, 1, wSdo .service, by decide +kernel⟩

theorem test_w_tripReaction : ∃ (s : State), (s.mode.pendingTrip.isSome = true) ∧ (s.mode.pendingLockout = none) ∧ (s.supply.phase = .running) ∧ (s.inModes [.rise, .track, .active, .holdup, .blackstart] = true) :=
  ⟨{ wMode .active with mode := { (wMode .active).mode with pendingTrip := some 3 } }, by decide +kernel⟩

theorem test_w_tripReaction_outside : ∃ (s : State), (s.mode.pendingTrip.isSome = true) ∧ (s.mode.pendingLockout = none) ∧ (s.supply.phase = .running) ∧ (s.inModes [.rise, .track, .active, .holdup, .blackstart] = false) :=
  ⟨{ wMode .boot with mode := { (wMode .boot).mode with pendingTrip := some 1 } }, by decide +kernel⟩

theorem test_w_descentProgramsStart : ∃ (s : State), (s.inMode .descent = true) ∧ (s.mode.descentPrograms = false) ∧ (s.descentStopped = true) ∧ (s.supply.phase = .running) :=
  ⟨wMode .descent, by decide +kernel⟩

theorem test_w_descentComplete : ∃ (train : Nat) (s : State), (s.inMode .descent = true) ∧ (s.mode.descentPrograms = true) ∧ (s.allLowered = true) ∧ (s.dead.entering = false) ∧ (s.supply.phase = .running) :=
  ⟨1, { wMode .descent with mode := { (wMode .descent).mode with descentPrograms := true }, railGroups := [] }, by decide +kernel⟩

theorem test_w_powerFailWarning : ∃ (pfw vao : Bool) (s : State), (s.warnSources pfw vao ≠ 0) ∧ (s.supply.phase = .running) :=
  ⟨true, false, { wMode .active with cfg := [(objKey 0x2103 1, [1])] }, by decide +kernel⟩

theorem test_w_rstNAsserted : ∃ (s : State), (s.supply.phase = .running) :=
  ⟨wMode .active, by decide +kernel⟩

theorem test_w_rstNReleased : ∃ (train : Nat) (s : State), (s.supply.phase = .afterRst) ∧ (s.supply.warn = false) :=
  ⟨1, { State.reset with supply := { phase := .afterRst } }, by decide +kernel⟩

theorem test_w_supplyDipRestart : ∃ (train : Nat) (s : State), (s.supply.phase = .afterWarning) ∧ (s.supply.rstLow = false) :=
  ⟨1, { State.reset with supply := { phase := .afterWarning } }, by decide +kernel⟩

theorem test_w_counterBlockPeriodicCommit : ∃ (s : State), (s.supply.phase = .running) ∧ (s.inMode .layup = false) :=
  ⟨wMode .active, by decide +kernel⟩

theorem test_w_xtalFail : ∃ (s : State), (s.clock.rc = false) :=
  ⟨State.reset, by decide +kernel⟩

theorem test_w_xtalRetry : ∃ (runs : Bool) (s : State), (s.clock.rc = true) ∧ (s.elapsed s.clock.retryAt 1 = true) :=
  ⟨true, { State.reset with now := ticksPerS, clock := { rc := true } }, by decide +kernel⟩

theorem test_w_wakeNWake : ∃ (s : State), (s.asleep = true) ∧ (s.dead.entering = false) ∧ (s.heldOff = false) :=
  ⟨wMode .moored, by decide +kernel⟩

theorem test_w_srcdetWake : ∃ (d : SrcPin) (s : State), (s.asleep = true) ∧ (s.srcQualified d = true) ∧ (bit s.srcStart d.n = true) ∧ (s.dead.entering = false) ∧ (s.heldOff = false) :=
  ⟨{ n := 0, first := 100, least := 100, ms := 1000000 }, { wMode .moored with dead := { srcEnable := some 1, srcStart := some 1 } }, by decide +kernel⟩

theorem test_w_srcdetWake_unqualified : ∃ (d : SrcPin) (s : State), (s.srcQualified d = false) :=
  ⟨{ n := 2 }, wMode .moored, by decide +kernel⟩

theorem test_w_twAddressMatchWake : ∃ (p : Nat) (addr : Nat) (s : State), (s.asleep = true) ∧ (s.matches p addr = true) ∧ ((s.portN p 5 == 1) = false) ∧ (s.dead.entering = false) ∧ (s.wakeStarts p = false) :=
  ⟨0, 8, { wMode .moored with cfg := [(objKey 0x4800 2, [1]), (objKey 0x4800 8, [2]), (objKey 0x4800 7, [1])] }, by decide +kernel⟩

theorem test_w_twMatchStretchTimeout : ∃ (p : Nat) (since : Nat) (s : State), (s.mode.stretchFrom.find? (fun x => x.1 == p) = some (p, since)) ∧ (400 * ticksPerUs ≤ s.since since) ∧ (s.regionOn .net = false) ∧ (p < s.ports.length) :=
  ⟨0, 0, { wMode .moored with now := 400 * ticksPerUs, mode := { (wMode .moored).mode with stretchFrom := [(0, 0)] }, ports := List.replicate 4 {} }, by decide +kernel⟩

theorem test_w_canWake : ∃ (p : Nat) (s : State), (s.asleep = true) ∧ (s.part.has .can p = true) ∧ (s.wakeOn (4 + p) = true) :=
  ⟨0, { wMode .moored with img := { imgRun := some 0, cfg := [{ content := { wakeEnable := 0x10 } }] } }, by decide +kernel⟩

theorem test_w_canRetentionTimeout : ∃ (since : Nat) (s : State), (s.mode.canAwakeSince = some since) ∧ (s.inMode .moored = true) ∧ (s.elapsed since 1 = true) :=
  ⟨0, { wMode .moored with now := ticksPerS, mode := { (wMode .moored).mode with canAwakeSince := some 0 } }, by decide +kernel⟩

theorem test_w_mooredAdcScan : ∃ (volts : List Rat) (codes : List Nat) (s : State), (s.asleep = true) :=
  ⟨[], [], wMode .moored, by decide +kernel⟩

theorem test_w_ownNReleaseWake : ∃ (s : State), (s.asleep = true) ∧ (s.wakeOn 7 = true) :=
  ⟨{ wMode .moored with img := { imgRun := some 0, cfg := [{ content := { wakeEnable := 0x80 } }] } }, by decide +kernel⟩

theorem test_w_aoWakeTimerExpired : ∃ (since : Nat) (s : State), (s.asleep = true) ∧ (s.wakeOn 8 = true) ∧ (s.mode.wakeTimerFrom = some since) ∧ (s.elapsed since s.wakeTime = true) :=
  ⟨0, { wMode .moored with now := ticksPerS, mode := { (wMode .moored).mode with wakeTimerFrom := some 0 }, img := { imgRun := some 0, cfg := [{ content := { wakeEnable := 0x100, wakeTimer := 1 } }] } }, by decide +kernel⟩

theorem test_w_layupEntry : ∃ (underLoad : List Bool) (auxOpen : List Bool) (s : State), (s.dead.entering = true) ∧ (s.inModes [.moored, .descent] = true) ∧ (s.railGroups.all (fun g => g.phase == .lowered) = true) ∧ (s.supply.phase = .running) ∧ (s.dead.wakePending = none) ∧ (s.layupNext = none) :=
  ⟨[], [], { wMode .moored with dead := { entering := true }, railGroups := [{ phase := .lowered }] }, by decide +kernel⟩

theorem test_w_layupEntry_waits : ∃ (underLoad : List Bool) (auxOpen : List Bool) (k : Nat) (f : Nat) (s : State), (s.dead.entering = true) ∧ (s.inModes [.moored, .descent] = true) ∧ (s.railGroups.all (fun g => g.phase == .lowered) = true) ∧ (s.supply.phase = .running) ∧ (s.layupNext = some k) ∧ (s.dead.entryFrom = some f) ∧ (s.now < f + 100 * ticksPerMs * s.dead.entryTurn + s.dead.entryShift) :=
  ⟨[], [], 0, 0, { wMode .moored with strs := List.replicate 8 { contactor := true }, dead := { entering := true, entryFrom := some 0, entryTurn := 1 }, railGroups := [{ phase := .lowered }] }, by decide +kernel⟩

theorem test_w_layupWake : ∃ (src : Option SrcPin) (train : Nat) (s : State), (s.supply.phase = .running) ∧ (src.all s.srcQualified = true) ∧ (s.inMode .layup = true) :=
  ⟨none, 1, { State.reset with mode := { mode := .layup }, supply := { phase := .running } }, by decide +kernel⟩

theorem test_w_instanceRelease : ∃ (lp : Nat) (errs : List (Nat × Nat × Bool)) (r : LoopRec) (s : State), (s.loopRec lp = some r) ∧ (s.instRuns lp = true) ∧ ((s.inst lp).run = .idle) ∧ (s.releaseDue r = true) :=
  ⟨0, [(0, 0, true)], {}, { wMode .active with insts := List.replicate 64 { active := true }, tide := { banks := [{ variants := [{ recs := [{}] }] }] } }, by decide +kernel⟩

theorem test_w_depWaitEnd : ∃ (lp : Nat) (r : LoopRec) (s : State), (s.loopRec lp = some r) ∧ ((s.inst lp).run = .waiting) ∧ (s.waitEnd r = s.now) :=
  ⟨0, {}, { wMode .active with now := 1000, insts := List.replicate 64 { active := true, run := .waiting }, tide := { banks := [{ variants := [{ recs := [{}] }] }] } }, by decide +kernel⟩

theorem test_w_instanceRunEnd : ∃ (lp : Nat) (errs : List (Nat × Nat × Bool)) (r : LoopRec) (s : State), (s.loopRec lp = some r) ∧ ((s.inst lp).run = .running) ∧ (s.runOver r = true) ∧ (s.now ≤ (s.inst lp).commitAt) :=
  ⟨0, [(0, 0, true)], {}, { wMode .active with now := 21, insts := List.replicate 64 { active := true, run := .running, commitAt := 21 }, tide := { banks := [{ variants := [{ recs := [{}] }] }] } }, by decide +kernel⟩

theorem test_w_instanceCommit : ∃ (lp : Nat) (r : LoopRec) (s : State), (s.loopRec lp = some r) ∧ (s.commitDue lp = true) :=
  ⟨0, {}, { wMode .active with now := 1000, insts := List.replicate 64 { active := true, run := .ended, commitAt := 1000 }, tide := { banks := [{ variants := [{ recs := [{}] }] }] } }, by decide +kernel⟩

theorem test_w_idleBanksLoaded : ∃ (s : State), (s.tide.swap = 1) ∧ ((nth s.tide.banks (1 - s.tide.active) {}).valid = true) ∧ (sameEngines s.variant (nth (nth s.tide.banks (1 - s.tide.active) {}).variants (variantFor (nth s.tide.banks (1 - s.tide.active) {}).variants s.tide.ageing) {}) = true) :=
  ⟨{ wMode .active with tide := { swap := 1, banks := [{}, { valid := true }] } }, by decide +kernel⟩

theorem test_w_loadPoint : ∃ (ph : Nat) (n : Nat) (s : State), (s.stageOf ph = some n) ∧ (s.pwmPowered = true) ∧ (s.loadDue n ph = true) :=
  ⟨0, 0, { wMode .active with tide := { pulsed := true }, cfg := [(objKey 0x3000 1, [0]), (objKey 0x3000 2, [0]), (objKey 0x3000 3, [1])] }, by decide +kernel⟩

theorem test_w_stageStart : ∃ (ch : Chan) (st : Nat) (s : State), (Safety.writable s ch (0x3000 + 256 * st) 7 [1] = true) ∧ (s.stageStartStatus st = 0) :=
  ⟨.sdo 0 1, 0, { wSdo .active with strs := List.replicate 8 { connected := true }, phases := List.replicate 24 { enable := true }, cfg := [(objKey 0x3000 1, [2]), (objKey 0x3000 2, [0]), (objKey 0x3000 3, [1]), (objKey 0x3800 1, [1])] }, by decide +kernel⟩

theorem test_w_softStartEnd : ∃ (st : Nat) (s : State), (s.softStartDone st = true) ∧ (st < s.stages.length) :=
  ⟨0, { wMode .active with stages := List.replicate 8 { startStep := 4, rampOn := true } }, by decide +kernel⟩

theorem test_w_stageStop : ∃ (ch : Chan) (st : Nat) (s : State), (Safety.writable s ch (0x3000 + 256 * st) 7 [0] = true) :=
  ⟨.sdo 0 1, 0, wSdo .active, by decide +kernel⟩

theorem test_w_delayLineCalibration : ∃ (bad : List Bool) (s : State), (s.pwmPowered = true) :=
  ⟨[], wMode .active, by decide +kernel⟩

theorem test_w_phaseDrop : ∃ (ch : Chan) (ph : Nat) (s : State), (Safety.writable s ch (0x3800 + ph) 4 [0] = true) :=
  ⟨.sdo 0 1, 0, wSdo .active, by decide +kernel⟩

theorem test_w_phaseReturn : ∃ (ch : Chan) (ph : Nat) (s : State), (Safety.writable s ch (0x3800 + ph) 4 [1] = true) ∧ (s.phaseReturnStatus ph = 0) :=
  ⟨.sdo 0 1, 0, { wSdo .active with stages := List.replicate 8 { state := .running }, cfg := [(objKey 0x3000 1, [0]), (objKey 0x3000 2, [0]), (objKey 0x3000 3, [1])] }, by decide +kernel⟩

theorem test_w_breakwaterTruncation : ∃ (st : Nat) (b : Nat) (s : State), (bits (nth (s.stage st).bindings b 0) 13 2 ≠ 0) ∧ ((if bit (nth (s.stage st).bindings b 0) 15 then (s.modIn (bits (nth (s.stage st).bindings b 0) 16 8)).low else (s.modIn (bits (nth (s.stage st).bindings b 0) 16 8)).high) = true) ∧ (s.suspended (bits (nth (s.stage st).bindings b 0) 16 8) = false) ∧ (s.regionOn .pwm = true) :=
  ⟨0, 0, { wMode .active with stages := List.replicate 8 { bindings := [0x3000] }, mods := List.replicate 48 { high := true }, groups := List.replicate 4 { running := true }, cfg := [(objKey 0x4000 1, [1])] }, by decide +kernel⟩

theorem test_w_fenderTruncation : ∃ (ph : Nat) (n : Nat) (s : State), (s.stageOf ph = some n) ∧ (s.fenderAction n ph ≠ 0) :=
  ⟨0, 0, { wIn with phases := List.replicate 24 { outOn := true }, mods := List.replicate 48 { fastSeen := 64 }, cfg := [(objKey 0x3000 1, [0]), (objKey 0x3000 2, [0]), (objKey 0x3000 3, [1]), (objKey 0x3000 0x12, [0xFF]), (objKey 0x3800 10, [0, 0, 0x80, 0xBF]), (objKey 0x4000 1, [1])] }, by decide +kernel⟩

theorem test_w_driveReadbackFault : ∃ (ph : Nat) (n : Nat) (s : State), (s.stageOf ph = some n) :=
  ⟨0, 0, { wMode .active with cfg := [(objKey 0x3000 1, [0]), (objKey 0x3000 2, [0]), (objKey 0x3000 3, [1])] }, by decide +kernel⟩

theorem test_w_holdWatchExpired : ∃ (st : Nat) (s : State), (s.holdDue st = true) ∧ (st < s.stages.length) :=
  ⟨0, { wMode .service with mode := { (wMode .service).mode with regions := regionsOf .boot }, stages := List.replicate 8 { state := .running, startStep := 4 } }, by decide +kernel⟩

theorem test_w_holdLimitExpired : ∃ (st : Nat) (s : State), ((s.stage st).hold = true) ∧ (s.objN (0x3000 + 256 * st) 0x10 * ticksPerUs ≤ s.since (s.stage st).holdSince) :=
  ⟨0, { wMode .active with stages := List.replicate 8 { hold := true }, cfg := [(objKey 0x3000 0x10, [0, 0])] }, by decide +kernel⟩

theorem test_w_pgTargetWrite : ∃ (ch : Chan) (n : Nat) (v : BitVec 32) (s : State), (Safety.writable s ch (0x3B00 + n) 2 (leBytes 4 v.toNat) = true) ∧ (s.targetStatus n v = 0) :=
  ⟨.sdo 0 1, 0, 0, wSdo .active, by decide +kernel⟩

theorem test_w_rcUpdate : ∃ (n : Nat) (s : State), (s.rcRuns n = true) :=
  ⟨0, { wMode .active with tide := { pulsed := true }, cfg := [(objKey 0x3C00 2, [1, 0]), (objKey 0x3000 1, [0]), (objKey 0x3000 2, [0]), (objKey 0x3000 3, [1])] }, by decide +kernel⟩

theorem test_w_rcPhaseWrap : ∃ (n : Nat) (s : State), (s.rcRuns n = true) ∧ ((s.rc n).wrapped = true) :=
  ⟨0, { wMode .active with tide := { pulsed := true }, rcs := List.replicate 8 { wrapped := true }, cfg := [(objKey 0x3C00 2, [1, 0]), (objKey 0x3000 1, [0]), (objKey 0x3000 2, [0]), (objKey 0x3000 3, [1])] }, by decide +kernel⟩

theorem test_w_rcRefTimeout : ∃ (n : Nat) (s : State), (s.rcRuns n = true) ∧ (s.rcUsesRef n = true) ∧ (s.elapsed (s.rc n).refAt (s.objR (0x3C00 + n) 6) = true) ∧ ((s.rc n).locked = false) ∧ (n < s.rcs.length) :=
  ⟨0, { wMode .active with now := 3 * ticksPerS, tide := { pulsed := true }, rcs := List.replicate 8 {}, cfg := [(objKey 0x3C00 2, [1, 0]), (objKey 0x3000 1, [0]), (objKey 0x3000 2, [0]), (objKey 0x3000 3, [1])] }, by decide +kernel⟩

theorem test_w_rcUnlockTimeout : ∃ (n : Nat) (s : State), (s.rcRuns n = true) ∧ ((s.rc n).locked = true) ∧ (s.elapsed (s.rc n).acceptedAt (3 * (s.rc n).period) = true) ∧ (s.tracks = false) ∧ (n < s.rcs.length) :=
  ⟨0, { wMode .active with tide := { pulsed := true }, rcs := List.replicate 8 { locked := true }, cfg := [(objKey 0x3C00 2, [1, 0]), (objKey 0x3000 1, [0]), (objKey 0x3000 2, [0]), (objKey 0x3000 3, [1])] }, by decide +kernel⟩

theorem test_w_rcReset : ∃ (ch : Chan) (n : Nat) (v : Nat) (s : State), (Safety.writable s ch (0x3C00 + n) 0x16 (leBytes 1 v) = true) ∧ (v = 1) ∧ (n < s.rcs.length) :=
  ⟨.sdo 0 1, 0, 1, { wSdo .active with rcs := List.replicate 8 {} }, by decide +kernel⟩

theorem test_w_observerRun : ∃ (st : Nat) (s : State), (s.stageUsed st = true) ∧ (s.part.has .stage st = true) ∧ (s.tide.pulsed = true) ∧ (s.regionOn .eng = true) :=
  ⟨0, { wMode .active with tide := { pulsed := true }, cfg := [(objKey 0x3000 1, [0]), (objKey 0x3000 2, [0]), (objKey 0x3000 3, [1])] }, by decide +kernel⟩

theorem test_w_substitutionExpired : ∃ (ph : Nat) (st : Nat) (s : State), (s.stageOf ph = some st) ∧ ((nth (s.observer st).ph (ph - s.stageFirst st) {}).subst = true) ∧ (s.objN (0x3D00 + st) 2 = 1) ∧ (s.objR (0x3D00 + st) 0x0D ≤ (nth (s.observer st).ph (ph - s.stageFirst st) {}).substTime) ∧ (s.tracks = false) :=
  ⟨0, 0, { wMode .active with obs := List.replicate 8 { ph := List.replicate 12 { subst := true } }, cfg := [(objKey 0x3D00 2, [1]), (objKey 0x3D00 0x0D, [0, 0, 0, 0]), (objKey 0x3000 1, [0]), (objKey 0x3000 2, [0]), (objKey 0x3000 3, [1])] }, by decide +kernel⟩

theorem test_w_spmUpdate : ∃ (s : State), (s.spmRuns = true) ∧ (ticksPerMs ≤ s.since s.spm.lastUpdate) :=
  ⟨{ wMode .active with now := ticksPerMs }, by decide +kernel⟩

theorem test_w_spmRecompute : ∃ (s : State), (s.spmRuns = true) :=
  ⟨wMode .active, by decide +kernel⟩

theorem test_w_droopTrimUpdate : ∃ (s : State), (s.regionOn .sup = true) ∧ (s.coresHalted = false) ∧ (s.inMode .track = false) ∧ (s.pair.owns = true) :=
  ⟨wSdo .active, by decide +kernel⟩

theorem test_w_phaseShareTrimWrite : ∃ (ch : Chan) (ph : Nat) (v : BitVec 32) (s : State), (Safety.writable s ch 0x4504 (1 + ph) (leBytes 4 v.toNat) = true) ∧ (s.mayWriteCommon = true) :=
  ⟨.sdo 0 1, 0, 0, wSdo .active, by decide +kernel⟩

theorem test_w_inputLoss : ∃ (s : State), (s.inputLossDue = true) ∧ (s.coresHalted = false) :=
  ⟨{ wMode .active with spm := { supply := .source }, feeds := List.replicate 4 { lost := true }, cfg := [(objKey 0x4400 2, [1])] }, by decide +kernel⟩

theorem test_w_handoverEnd : ∃ (s : State), (s.inMode .holdup = true) ∧ (s.spm.supply = .handover) ∧ (s.dwellOver = true) ∧ (s.elapsed s.spm.supplySince (s.objR 0x4501 6) = true) :=
  ⟨{ wMode .holdup with now := 2 * ticksPerS, spm := { supply := .handover }, cfg := [(objKey 0x4501 6, [0, 0, 0, 0])] }, by decide +kernel⟩

theorem test_w_sourceQualified : ∃ (src : Nat) (s : State), (src < 2) ∧ (s.objN (0x4400 + 16 * src) 2 = 1) ∧ (s.heldFor (s.feed src).goodSince (1 / 2) = true) ∧ (s.feedFaulty src = false) ∧ (src < s.feeds.length) :=
  ⟨0, { wMode .active with now := ticksPerS, feeds := List.replicate 4 { goodSince := some 0 }, cfg := [(objKey 0x4400 2, [1])] }, by decide +kernel⟩

theorem test_w_handbackCommand : ∃ (ch : Chan) (v : Nat) (s : State), (Safety.writable s ch 0x4501 2 (leBytes 1 v) = true) ∧ (s.handbackStatus v = 0) :=
  ⟨.sdo 0 1, 0, wSdo .holdup, by decide +kernel⟩

theorem test_w_handbackStart : ∃ (src : Nat) (rest : List Nat) (s : State), (s.handbackSources = src :: rest) ∧ (s.inMode .holdup = true) ∧ (s.spm.supply = .battery) ∧ (s.dwellOver = true) ∧ (s.spm.hbRequested = true) :=
  ⟨0, [], { wMode .holdup with now := 2 * ticksPerS, spm := { supply := .battery, hbRequested := true }, feeds := List.replicate 4 { qualified := true }, cfg := [(objKey 0x4400 2, [1])] }, by decide +kernel⟩

theorem test_w_handbackRampEnd : ∃ (s : State), (s.inMode .holdup = true) ∧ (s.spm.supply = .handback) ∧ (s.spm.hbStep = .ramping) ∧ (s.elapsed s.spm.hbRampFrom (s.objR 0x4501 7) = true) :=
  ⟨{ wMode .holdup with now := ticksPerS, spm := { supply := .handback, hbStep := .ramping }, cfg := [(objKey 0x4501 7, [0, 0, 0, 0])] }, by decide +kernel⟩

theorem test_w_feedGateOn : ∃ (f : Nat) (s : State), (f < 2) ∧ (f < s.feeds.length) ∧ (s.feedEnabled f = true) ∧ ((s.feed f).gate = false) ∧ ((s.feed f).qualified = true) ∧ ((s.feed f).shed = false) ∧ (s.feedAllowed f = true) ∧ (s.pair.owns = true) ∧ (s.heldFor (s.feed f).fwdSince (1 / 10000) = true) :=
  ⟨0, { wMode .active with now := ticksPerS, spm := { supply := .source }, pair := { owns := true }, feeds := List.replicate 4 { qualified := true, fwdSince := some 0 }, cfg := [(objKey 0x4400 2, [1])] }, by decide +kernel⟩

theorem test_w_feedReverseOff : ∃ (f : Nat) (s : State), (f < 2) ∧ ((s.feed f).gate = true) ∧ (s.currLow f = true) :=
  ⟨0, { wMode .active with feeds := List.replicate 4 { gate := true }, mods := List.replicate 48 { low := true } }, by decide +kernel⟩

theorem test_w_feedLost : ∃ (f : Nat) (s : State), (f < 2) ∧ (s.feedEnabled f = true) ∧ (s.voltLow f = true) :=
  ⟨0, { wMode .active with mods := List.replicate 48 { low := true }, cfg := [(objKey 0x4400 2, [1])] }, by decide +kernel⟩

theorem test_w_feedEnableOn : ∃ (ch : Chan) (f : Nat) (s : State), (Safety.writable s ch (0x4400 + 16 * f) 2 [1] = true) ∧ (s.feedEnableStatus f 1 = 0) :=
  ⟨.sdo 0 1, 0, { wSdo .active with cfg := [(objKey 0x4400 3, [0xFF]), (objKey 0x4400 4, [0xFF])] }, by decide +kernel⟩

theorem test_w_feedEnableOff : ∃ (ch : Chan) (f : Nat) (s : State), (Safety.writable s ch (0x4400 + 16 * f) 2 [0] = true) ∧ (s.feedEnableStatus f 0 = 0) ∧ (f < s.feeds.length) :=
  ⟨.sdo 0 1, 0, { wSdo .active with feeds := List.replicate 4 {} }, by decide +kernel⟩

theorem test_w_inrushChop : ∃ (f : Nat) (s : State), (2 ≤ f) ∧ (s.pair.owns = true) ∧ (f < s.feeds.length) ∧ ((s.feed f).inrush = true) ∧ ((s.feed f).gate = true) ∧ (s.currHigh f = true) :=
  ⟨2, { wSdo .active with feeds := List.replicate 4 { gate := true, inrush := true }, mods := List.replicate 48 { high := true } }, by decide +kernel⟩

theorem test_w_inrushOffExpired : ∃ (f : Nat) (at0 : Nat) (s : State), (f < s.feeds.length) ∧ (s.pair.owns = true) ∧ ((s.feed f).chopAt = some at0) ∧ ((s.feed f).inrush = true) ∧ (s.feedN f 0x14 * ticksPerUs ≤ s.since at0) :=
  ⟨2, 0, { wSdo .active with now := ticksPerS, feeds := List.replicate 4 { inrush := true, chopAt := some 0 } }, by decide +kernel⟩

theorem test_w_inrushTimeout : ∃ (f : Nat) (s : State), (2 ≤ f) ∧ (s.pair.owns = true) ∧ ((s.feed f).inrush = true) ∧ (s.feedN f 0x15 * ticksPerMs ≤ s.since (s.feed f).inrushFrom) :=
  ⟨2, { wSdo .active with now := 60 * ticksPerS, feeds := List.replicate 4 { inrush := true } }, by decide +kernel⟩

theorem test_w_gateConfirmExpired : ∃ (f : Nat) (s : State), (f < 4) ∧ (f < s.feeds.length) :=
  ⟨0, { wMode .active with feeds := List.replicate 4 {} }, by decide +kernel⟩

theorem test_w_gateConfirmTimeout : ∃ (f : Nat) (s : State), ((s.feed f).gate = true) ∧ ((s.feed f).confirmed = false) ∧ (10 * s.feedN f 0x0F * ticksPerUs ≤ s.since (s.feed f).gateAt) :=
  ⟨0, { wMode .active with now := 60 * ticksPerS, feeds := List.replicate 4 { gate := true } }, by decide +kernel⟩

theorem test_w_gateStuckOn : ∃ (f : Nat) (s : State), (f < 4) ∧ ((s.feed f).gate = false) :=
  ⟨0, wMode .active, by decide +kernel⟩

theorem test_w_gateFeedbackLost : ∃ (f : Nat) (s : State), (f < s.feeds.length) :=
  ⟨0, { wMode .active with feeds := List.replicate 4 {} }, by decide +kernel⟩

theorem test_w_feedShort : ∃ (f : Nat) (s : State), (2 ≤ f) ∧ ((s.feed f).gate = true) ∧ ((s.feed f).inrush = false) ∧ (s.currHigh f = true) :=
  ⟨2, { wMode .active with feeds := List.replicate 4 { gate := true }, mods := List.replicate 48 { high := true } }, by decide +kernel⟩

theorem test_w_feedRetry : ∃ (f : Nat) (s : State), (s.retryDue f = true) :=
  ⟨2, { wMode .active with now := 60 * ticksPerS, pair := { owns := true }, feeds := List.replicate 4 { trippedAt := some 0 }, cfg := [(objKey 0x4420 2, [1]), (objKey 0x4420 0x17, [1])] }, by decide +kernel⟩

theorem test_w_feedRetryReset : ∃ (f : Nat) (s : State), (f < s.feeds.length) ∧ ((s.feed f).on = true) ∧ ((s.feed f).inrush = false) ∧ (s.elapsed (s.feed f).runSince 60 = true) :=
  ⟨2, { wMode .active with now := 60 * ticksPerS, feeds := List.replicate 4 { on := true } }, by decide +kernel⟩

theorem test_w_meterTimeout : ∃ (f : Nat) (s : State), (f < 4) ∧ (s.elapsed (s.feed f).validAt (1 / 100) = true) :=
  ⟨0, { wMode .active with now := ticksPerS }, by decide +kernel⟩

theorem test_w_unanchoredTimeout : ∃ (k : Nat) (s : State), (s.strUsed k = true) ∧ (259200 ≤ s.anchorAge k) ∧ (((s.estOf k).unanchored && s.isActive (s.strKey k 0x0A)) = false) :=
  ⟨0, wStr { est := { anchorAge := 259200 } }, by decide +kernel⟩

theorem test_w_probeStart : ∃ (k : Nat) (s : State), (s.strUsed k = true) ∧ (s.probeWanted k = true) ∧ (s.inMode .track = false) :=
  ⟨0, { wStr { stepAt := [0] } with now := ticksPerS, cfg := [(objKey 0x5001 1, [1]), (objKey 0x5006 1, [1])] }, by decide +kernel⟩

theorem test_w_probeShiftEnd : ∃ (k : Nat) (neg : Bool) (since : Nat) (s : State), (s.spm.probe = some (k, neg, since)) ∧ (s.elapsed since 12 = true) :=
  ⟨0, false, 0, { wMode .active with now := 12 * ticksPerS, spm := { probe := some (0, false, 0) } }, by decide +kernel⟩

theorem test_w_slackRequest : ∃ (ch : Chan) (k : Nat) (s : State), (Safety.writable s ch (0x5006 + 256 * k) 5 [1] = true) ∧ (s.mayWriteCommon = true) ∧ (s.probeOrWindow = false) :=
  ⟨.sdo 0 1, 0, wSdo .active, by decide +kernel⟩

theorem test_w_slackAutoRequest : ∃ (k : Nat) (s : State), (s.strUsed k = true) ∧ ((s.estOf k).unanchored = true) ∧ (s.objN (0x5006 + 256 * k) 7 = 1) ∧ ((s.str k).slack.runs = false) ∧ (s.inMode .track = false) ∧ ((s.str k).lastAuto = none) :=
  ⟨0, { wStr { est := { unanchored := true } } with cfg := [(objKey 0x5001 1, [1]), (objKey 0x5006 7, [1])] }, by decide +kernel⟩

theorem test_w_slackAbort : ∃ (ch : Chan) (k : Nat) (s : State), (Safety.writable s ch (0x5006 + 256 * k) 5 [2] = true) ∧ (s.slackAbortStatus k = 0) :=
  ⟨.sdo 0 1, 0, wStr {}, by decide +kernel⟩

theorem test_w_slackRampDownEnd : ∃ (k : Nat) (s : State), ((s.str k).slack = .rampDown) ∧ (s.elapsed (s.str k).slackFrom 10 = true) :=
  ⟨0, { wMode .active with now := 10 * ticksPerS, strs := List.replicate 8 { slack := .rampDown } }, by decide +kernel⟩

theorem test_w_slackRestPoint : ∃ (k : Nat) (s : State), ((s.str k).slack = .rest) ∧ (s.elapsed (s.str k).slackFrom 1190 = true) :=
  ⟨0, { wMode .active with now := 1190 * ticksPerS, strs := List.replicate 8 { slack := .rest } }, by decide +kernel⟩

theorem test_w_slackComplete : ∃ (k : Nat) (s : State), (k < s.strs.length) ∧ ((s.str k).slack = .rampUp) ∧ (s.elapsed (s.str k).slackUpFrom 10 = true) :=
  ⟨0, { wMode .active with now := 10 * ticksPerS, strs := List.replicate 8 { slack := .rampUp } }, by decide +kernel⟩

theorem test_w_slackConditionAbort : ∃ (k : Nat) (s : State), ((s.str k).slack.out = true) ∧ (s.heldFor (s.str k).marginBadSince 1 = true) :=
  ⟨0, { wMode .active with now := ticksPerS, strs := List.replicate 8 { slack := .rest, marginBadSince := some 0 } }, by decide +kernel⟩

theorem test_w_slackRefusalTimeout : ∃ (k : Nat) (s : State), (s.heldFor (s.str k).refusedSince 86400 = true) :=
  ⟨0, { wMode .active with now := 86400 * ticksPerS, strs := List.replicate 8 { refusedSince := some 0 } }, by decide +kernel⟩

theorem test_w_stringReplaced : ∃ (ch : Chan) (k : Nat) (v : Nat) (s : State), (Safety.writable s ch (0x5005 + 256 * k) 0x0C (leBytes 1 v) = true) ∧ (s.replacedStatus k v = 0) :=
  ⟨.sdo 0 1, 0, 1, wStr {}, by decide +kernel⟩

theorem test_w_estimatorCommit : ∃ (s : State), (s.regionOn .sup = true) :=
  ⟨wMode .active, by decide +kernel⟩

theorem test_w_stringInputTimeout : ∃ (k : Nat) (which : Nat) (s : State), (s.estRuns k = true) ∧ (which = 0) ∧ (s.elapsed (s.estOf k).iAt (1 / 100) = true) :=
  ⟨0, 0, { wStr {} with now := ticksPerS }, by decide +kernel⟩

theorem test_w_auxContactMismatch : ∃ (k : Nat) (s : State), (s.strUsed k = true) ∧ (30 * ticksPerMs ≤ s.since (s.str k).contactorAt) :=
  ⟨0, { wStr {} with now := ticksPerS }, by decide +kernel⟩

theorem test_w_stringShedOpen : ∃ (k : Nat) (s : State), (k < s.strs.length) ∧ ((s.str k).shed = true) ∧ ((s.str k).contactor = true) ∧ (10 * ticksPerMs ≤ s.since (s.str k).shedAt) :=
  ⟨0, { wMode .active with now := ticksPerS, strs := List.replicate 8 { shed := true, contactor := true } }, by decide +kernel⟩

theorem test_w_estimatorStep : ∃ (k : Nat) (s : State), (s.estRuns k = true) ∧ (s.coresHalted = false) ∧ (ticksPerS ≤ s.since (s.estOf k).stepAt) :=
  ⟨0, { wStr {} with now := ticksPerS }, by decide +kernel⟩

theorem test_w_chargeCommandStart : ∃ (ch : Chan) (k : Nat) (s : State), (Safety.writable s ch (0x5810 + k) 3 [1] = true) ∧ (s.mayWriteCommon = true) :=
  ⟨.sdo 0 1, 0, wStr {}, by decide +kernel⟩

theorem test_w_chargeCommandStop : ∃ (ch : Chan) (k : Nat) (s : State), (Safety.writable s ch (0x5810 + k) 3 [2] = true) ∧ (s.chargeStopStatus k = 0) :=
  ⟨.sdo 0 1, 0, wStr {}, by decide +kernel⟩

theorem test_w_pulseEnd : ∃ (k : Nat) (s : State), ((s.charger k).phase = .pulse) ∧ ((s.charger k).inRest = false) ∧ ((s.charger k).paused = false) ∧ (s.inMode .track = false) ∧ (s.elapsed (s.charger k).pulseFrom (s.chR k 8) = true) :=
  ⟨0, { wStr {} with now := 100000 * ticksPerS, chargers := List.replicate 8 { phase := .pulse } }, by decide +kernel⟩

theorem test_w_restEnd : ∃ (k : Nat) (s : State), ((s.charger k).phase = .pulse) ∧ ((s.charger k).inRest = true) ∧ ((s.charger k).paused = false) ∧ (s.inMode .track = false) ∧ (s.elapsed (s.charger k).restFrom (s.chR k 9) = true) :=
  ⟨0, { wStr {} with now := 100000 * ticksPerS, chargers := List.replicate 8 { phase := .pulse, inRest := true } }, by decide +kernel⟩

theorem test_w_chargeTimerExpired : ∃ (k : Nat) (s : State), ((s.charger k).phase = .bulk) ∧ (((s.nomTime k : Nat) : Rat) ≤ (s.charger k).ts) ∧ ((s.charger k).rate = 1) ∧ (s.inMode .track = false) :=
  ⟨0, { wStr {} with chargers := List.replicate 8 { phase := .bulk, ts := 100000000, rate := 1 } }, by decide +kernel⟩

theorem test_w_chargePauseTimeout : ∃ (k : Nat) (s : State), ((s.charger k).phase.cycling = true) ∧ ((s.charger k).paused = true) ∧ (s.inMode .track = false) ∧ (s.elapsed (s.charger k).pausedAt 3600 = true) :=
  ⟨0, { wStr {} with now := 3600 * ticksPerS, chargers := List.replicate 8 { phase := .bulk, paused := true } }, by decide +kernel⟩

theorem test_w_eqRequest : ∃ (ch : Chan) (k : Nat) (s : State), (Safety.writable s ch (0x5810 + k) 4 [1] = true) ∧ (s.mayWriteCommon = true) ∧ (s.objN 0x5800 1 ≠ 0) :=
  ⟨.sdo 0 1, 0, { wStr {} with cfg := [(objKey 0x5001 1, [1]), (objKey 0x5800 1, [1])] }, by decide +kernel⟩

theorem test_w_eqAbort : ∃ (ch : Chan) (k : Nat) (s : State), (Safety.writable s ch (0x5810 + k) 4 [2] = true) ∧ (s.eqAbortStatus k = 0) :=
  ⟨.sdo 0 1, 0, wStr {}, by decide +kernel⟩

theorem test_w_finalRestSkip : ∃ (k : Nat) (s : State), ((s.charger k).phase = .finalRest) ∧ ((s.str k).slack.runs = false) ∧ (s.inMode .track = false) ∧ (s.elapsed (s.charger k).restFromFinal 3600 = true) :=
  ⟨0, { wStr {} with now := 3600 * ticksPerS, chargers := List.replicate 8 { phase := .finalRest } }, by decide +kernel⟩

theorem test_w_bsInWindow : ∃ (s : State), (s.inMode .blackstart = true) ∧ (s.dead.bsState = 1) ∧ (s.bsInside = true) :=
  ⟨{ wMode .blackstart with dead := { bsState := 1 }, cfg := [(objKey 0x5900 4, [0, 0, 0x80, 0x50])] }, by decide +kernel⟩

theorem test_w_bsSettleExpired : ∃ (s : State), (s.inMode .blackstart = true) ∧ (s.dead.bsState = 2) ∧ (s.bsInside = true) ∧ (s.heldFor s.dead.bsInSince (s.objR 0x5900 5) = true) :=
  ⟨{ wMode .blackstart with now := 1000 * ticksPerS, dead := { bsState := 2, bsInSince := some 0 }, cfg := [(objKey 0x5900 4, [0, 0, 0x80, 0x50])] }, by decide +kernel⟩

theorem test_w_bsTimeout : ∃ (s : State), (s.inMode .blackstart = true) ∧ (s.elapsed s.dead.bsFrom (s.objR 0x5900 6) = true) :=
  ⟨{ wMode .blackstart with now := 1000 * ticksPerS }, by decide +kernel⟩

theorem test_w_seqEnd : ∃ (g : Nat) (pins : Nat) (s : State), ((s.seePins pins).seqAt g 0 = true) ∧ ((s.seePins pins).rising g = true) ∧ (((s.seePins pins).railGroup g).abortPending = false) :=
  ⟨0, 0, wSeq .rising 0, by decide +kernel⟩

theorem test_w_seqOn : ∃ (g : Nat) (pins : Nat) (s : State), ((s.seePins pins).seqAt g 1 = true) ∧ ((s.seePins pins).rising g = true) ∧ (((s.seePins pins).parents ((s.seePins pins).seqTarget g)).all (s.seePins pins).railGood = true) :=
  ⟨0, 0, wSeq .rising 1, by decide +kernel⟩

theorem test_w_seqOff : ∃ (g : Nat) (pins : Nat) (s : State), ((s.seePins pins).seqAt g 2 = true) ∧ ((s.seePins pins).rising g = false) ∧ (((s.seePins pins).rail ((s.seePins pins).seqTarget g)).on = true) ∧ (((s.seePins pins).railKind ((s.seePins pins).seqTarget g) == 1) = false) :=
  ⟨0, 0, { wSeq .lowering 2 with rails := List.replicate 32 { on := true } }, by decide +kernel⟩

theorem test_w_seqWaitgood : ∃ (g : Nat) (pins : Nat) (s : State), ((s.seePins pins).seqAt g 3 = true) ∧ ((s.seePins pins).rising g = true) ∧ ((s.seePins pins).railGood ((s.seePins pins).seqTarget g) = true) :=
  ⟨0, 0, { wSeq .rising 3 with now := 0 }, by decide +kernel⟩

theorem test_w_seqWaitlow : ∃ (g : Nat) (pins : Nat) (s : State), ((s.seePins pins).seqAt g 4 = true) ∧ ((s.seePins pins).rising g = false) ∧ ((s.seePins pins).railIsLow ((s.seePins pins).seqTarget g) = true) :=
  ⟨0, 0, { wSeq .lowering 4 with now := ticksPerS }, by decide +kernel⟩

theorem test_w_seqDelay : ∃ (g : Nat) (pins : Nat) (s : State), ((s.seePins pins).seqAt g 5 = true) ∧ (((s.seePins pins).railGroup g).nextAt + max 1 ((s.seePins pins).seqTicks g) ≤ (s.seePins pins).aoTick + 1) :=
  ⟨0, 0, wSeq .rising 5, by decide +kernel⟩

theorem test_w_seqWaitgroup : ∃ (g : Nat) (pins : Nat) (s : State), ((s.seePins pins).seqAt g 6 = true) ∧ ((s.seePins pins).rising g = true) ∧ (((s.seePins pins).railGroup (bits ((s.seePins pins).seqWord g) 23 2)).phase = .risen) ∧ (((s.seePins pins).railGroup (bits ((s.seePins pins).seqWord g) 23 2)).seenAt ≤ (s.seePins pins).aoTick) :=
  ⟨0, 0, { wSeq .rising 6 with railGroups := [{ phase := .rising, running := true }, { phase := .risen }], cfg := (objKey 0x4340 1, [0, 0, 0x80, 0x60]) :: (wSeq .rising 6).cfg }, by decide +kernel⟩

theorem test_w_seqMark : ∃ (g : Nat) (pins : Nat) (s : State), ((s.seePins pins).seqAt g 7 = true) :=
  ⟨0, 0, wSeq .rising 7, by decide +kernel⟩

theorem test_w_stageRailStart : ∃ (r : Nat) (s : State), (s.regionOn .eng = true) ∧ (s.pair.owns = true) ∧ (s.inMode .descent = false) ∧ (s.stageRailsWaiting.head? = some r) ∧ ((s.parents r).all (fun j => (s.rail j).phase == .good) = true) :=
  ⟨0, wRail .active 1 .risen {}, by decide +kernel⟩

theorem test_w_stageRailRiseTimeout : ∃ (r : Nat) (s : State), (s.railUsed r = true) ∧ (s.railKind r = 1) ∧ ((s.rail r).phase = .rising) ∧ (s.stageRailLimit r ≤ s.since (s.rail r).onAt) :=
  ⟨0, { wRail .active 1 .risen { phase := .rising } with now := 100 * ticksPerS }, by decide +kernel⟩

theorem test_w_railRunFault : ∃ (r : Nat) (detail : Nat) (s : State), (s.railRuns r = true) ∧ (s.railFaultHolds r detail = true) ∧ ((s.activeOf (s.railKey r 2)).isNone = true) :=
  ⟨0, 6, { wRail .active 0 .risen { phase := .good, pgPin := true } with cfg := [(objKey 0x4310 2, [0]), (objKey 0x4310 3, [0]), (objKey 0x4310 5, [0])] }, by decide +kernel⟩

theorem test_w_mooredRailFault : ∃ (r : Nat) (detail : Nat) (s : State), (s.inMode .moored = true) ∧ (s.railUsed r = true) ∧ ((s.railGroup (s.railGroupOf r)).kept = true) ∧ (((s.rail r).on || s.railKind r == 3) = true) ∧ (s.mooredFaultHolds r detail = true) :=
  ⟨0, 6, { wRail .moored 0 .risen { on := true, pgPin := true } with railGroups := List.replicate 4 { kept := true }, cfg := [(objKey 0x4310 2, [0]), (objKey 0x4310 3, [0]), (objKey 0x4310 5, [0])] }, by decide +kernel⟩

theorem test_w_railDescentFault : ∃ (r : Nat) (detail : Nat) (s : State), (s.inMode .descent = true) ∧ (s.railUsed r = true) ∧ ((s.rail r).on = true) ∧ (s.railFaultHolds r detail = true) :=
  ⟨0, 6, { wRail .descent 0 .risen { on := true, pgPin := true } with cfg := [(objKey 0x4310 2, [0]), (objKey 0x4310 3, [0]), (objKey 0x4310 5, [0])] }, by decide +kernel⟩

theorem test_w_railDescentOvervoltage : ∃ (r : Nat) (s : State), (s.inMode .descent = true) ∧ (s.railUsed r = true) ∧ (s.railOver r = true) ∧ (s.overTaken r = false) :=
  ⟨0, wRail .descent 2 .risen { pollRun := 2, vout := 1000000 }, by decide +kernel⟩

theorem test_w_railMarginHigh : ∃ (ch : Chan) (r : Nat) (s : State), (Safety.writable s ch 0x2710 (1 + r) [1] = true) ∧ (s.marginStatus r 1 = 0) :=
  ⟨.sdo 0 1, 0, wRail .service 2 .risen { phase := .good }, by decide +kernel⟩

theorem test_w_railMarginLow : ∃ (ch : Chan) (r : Nat) (s : State), (Safety.writable s ch 0x2710 (1 + r) [2] = true) ∧ (s.marginStatus r 2 = 0) :=
  ⟨.sdo 0 1, 0, wRail .service 2 .risen { phase := .good }, by decide +kernel⟩

theorem test_w_railMarginOff : ∃ (ch : Chan) (r : Nat) (s : State), (Safety.writable s ch 0x2710 (1 + r) [0] = true) ∧ (s.marginStatus r 0 = 0) :=
  ⟨.sdo 0 1, 0, wRail .service 2 .risen { phase := .good }, by decide +kernel⟩

theorem test_w_groupRise : ∃ (ch : Chan) (g : Nat) (s : State), (Safety.writable s ch (0x4304 + g) 2 (leBytes 1 1) = true) ∧ (s.inMode .service = true) ∧ (((s.railGroup g).phase == .lowered || (s.railGroup g).phase == .failed) = true) :=
  ⟨.sdo 0 1, 0, { wSdo .service with railGroups := List.replicate 4 { phase := .lowered } }, by decide +kernel⟩

theorem test_w_groupAbortRise : ∃ (ch : Chan) (g : Nat) (s : State), (Safety.writable s ch (0x4304 + g) 2 (leBytes 1 2) = true) ∧ (s.inMode .service = true) ∧ (s.rising g = true) :=
  ⟨.sdo 0 1, 0, { wSdo .service with railGroups := List.replicate 4 { phase := .rising } }, by decide +kernel⟩

theorem test_w_groupLower : ∃ (ch : Chan) (g : Nat) (s : State), (Safety.writable s ch (0x4304 + g) 2 (leBytes 1 3) = true) ∧ (s.inMode .service = true) ∧ (((s.railGroup g).phase == .risen || (s.railGroup g).phase == .failed) = true) :=
  ⟨.sdo 0 1, 0, { wSdo .service with railGroups := List.replicate 4 { phase := .risen } }, by decide +kernel⟩

theorem test_w_faultClearWindowEnd : ∃ (id : Nat) (kind : Nat) (a : ActiveSrc) (w : Nat) (s : State), (s.activeOf { id := id, kind := kind } = some a) ∧ (a.clearing = some w) ∧ (s.clearWindowOver { id := id, kind := kind } w = true) :=
  ⟨0, 0, { key := { id := 0, kind := 0 }, clearing := some 0 }, 0, { wMode .active with now := ticksPerMs, faults := { active := [{ key := { id := 0, kind := 0 }, clearing := some 0 }] } }, by decide +kernel⟩

theorem test_w_faultClearWindowEnd_again : ∃ (id : Nat) (kind : Nat) (a : ActiveSrc) (s : State), (s.activeOf { id := id, kind := kind } = some a) ∧ (a.clearing = none) :=
  ⟨0, 0, { key := { id := 0, kind := 0 } }, { wMode .active with faults := { active := [{ key := { id := 0, kind := 0 } }] } }, by decide +kernel⟩

theorem test_w_sevWrite : ∃ (ch : Chan) (region : Nat) (record : BitVec 64) (s : State), (Safety.writable s ch (0x2200 + region) 7 (leBytes 8 record.toNat) = true) ∧ (s.sevStatus region record.toNat = 0) :=
  ⟨.sdo 0 1, 2, BitVec.ofNat 64 (16973568 + 4 * 2 ^ 48), wSdo .active, by decide +kernel⟩

theorem test_w_sevQueryWrite : ∃ (ch : Chan) (region : Nat) (record : BitVec 64) (s : State), (Safety.writable s ch (0x2200 + region) 8 (leBytes 8 record.toNat) = true) ∧ (s.sevKeyStatus region record.toNat false = 0) :=
  ⟨.sdo 0 1, 2, 16973568, wSdo .active, by decide +kernel⟩

theorem test_w_irqPendingClear : ∃ (ch : Chan) (region : Nat) (mask : Nat) (s : State), (Safety.writable s ch (0x2200 + region) 4 (leBytes 1 mask) = true) ∧ (region - 1 < s.faults.regions.length) :=
  ⟨.sdo 0 1, 1, 3, { wSdo .active with faults := { regions := [{ irqPending := 3 }] } }, by decide +kernel⟩

theorem test_w_lockoutEntry : ∃ (s : State), (s.mode.pendingLockout.isSome = true) ∧ (s.inModes [.layup, .lockout] = false) ∧ (s.supply.phase = .running) :=
  ⟨{ wMode .active with mode := { (wMode .active).mode with pendingLockout := some 1 } }, by decide +kernel⟩

theorem test_w_lockstepMismatch : ∃ (s : State), (s.regionOn .sup = true) :=
  ⟨wMode .active, by decide +kernel⟩

theorem test_w_d2dTransferFail : ∃ (s : State), (s.regionOn .sup = true) ∧ (3 ≤ s.pair.d2dRun) :=
  ⟨{ wMode .active with pair := { d2dRun := 3 } }, by decide +kernel⟩

theorem test_w_emcyInhibitExpired : ∃ (port : Nat) (e : Emcy) (q : List Emcy) (s : State), (s.inGap = false) ∧ (nth s.faults.inhibitFrom port none = none) ∧ (nth s.faults.queues port [] = e :: q) ∧ (s.emcyPort port = true) :=
  ⟨0, {}, [], { wMode .active with faults := { queues := [[{}]] }, net := { can := [{ nmt := .operational }] } }, by decide +kernel⟩

theorem test_w_heartbeatSend : ∃ (s : State), (s.pairUp = true) ∧ (s.pair.supStalled = false) :=
  ⟨wMode .active, by decide +kernel⟩

theorem test_w_heartbeatReceived : ∃ (seq : Nat) (hb : Heartbeat) (err : Rat) (ok0 : Bool) (ok1 : Bool) (s : State), (s.pairUp = true) ∧ (nth s.pair.lanes 0 false = true) ∧ (s.isShed 10 0xFF 0 = false) ∧ (ok0 = true) ∧ (s.frameFollows 1 seq = true) ∧ (s.pair.heardLive ≠ some hb.supLive) ∧ (hb.mode ≠ Mode.lockout.code) :=
  ⟨1, {}, 0, true, true, wPair .active { lanes := [true, true] }, by decide +kernel⟩

theorem test_w_heartbeatMiss : ∃ (s : State), (s.pairUp = true) ∧ (s.pair.twinSeen = true) ∧ (s.pair.twinExpect + 5 * ticksPerUs / 2 ≤ s.now) ∧ (s.pair.missRun = 1) ∧ (s.img.pairState ≠ 1) :=
  ⟨{ wPair .active { twinSeen := true, missRun := 1 } with now := ticksPerS }, by decide +kernel⟩

theorem test_w_twinAbsentTimeout : ∃ (s : State), (s.pairUp = true) ∧ (s.elapsed s.pair.twinAt 1 = true) :=
  ⟨{ wMode .active with now := ticksPerS }, by decide +kernel⟩

theorem test_w_electionFrameSend : ∃ (s : State), (s.pairUp = true) ∧ (s.pair.frozen.isSome = true) ∧ (s.pair.twinScore = none) :=
  ⟨wPair .active { frozen := some 0 }, by decide +kernel⟩

theorem test_w_electionFrameReceived : ∃ (hd : FrameHead) (crcOk : Bool) (score : Nat) (s : State), (s.electing = true) ∧ (s.electionLate = false) ∧ (s.pairUp = true) ∧ ((s.frameIn 1 0x02 hd crcOk).2 = true) :=
  ⟨{ type := 2 }, true, 0, { wPair .boot { frozen := some 0 } with mode := { (wMode .boot).mode with step := 2, regions := regionsOf .active } }, by decide +kernel⟩

theorem test_w_electionTimeout : ∃ (s : State), (s.electing = true) ∧ (s.pair.twinScore = none) ∧ (s.elapsed s.mode.since (65 / 1000) = true) ∧ (s.supply.sideB = true) :=
  ⟨{ wPair .boot { frozen := some 0 } with now := ticksPerS, supply := { phase := .running, sideB := true }, mode := { (wMode .boot).mode with step := 2, regions := regionsOf .active } }, by decide +kernel⟩

theorem test_w_healthUpdate : ∃ (s : State), (s.regionOn .sup = true) :=
  ⟨wMode .active, by decide +kernel⟩

theorem test_w_trackingMessageReceived : ∃ (hd : FrameHead) (crcOk : Bool) (m : TrackMsg) (s : State), (s.pairUp = true) ∧ ((s.frameIn 2 0x10 hd crcOk).2 = true) ∧ (hd.last = true) ∧ ((s.frameIn 2 0x10 hd crcOk).1.follows = true) ∧ (s.pair.snapApplied = true) :=
  ⟨{ type := 0x10 }, true, .pg 0 {}, wPair .track { snapApplied := true }, by decide +kernel⟩

theorem test_w_trackingMessageReceived_early : ∃ (hd : FrameHead) (crcOk : Bool) (m : TrackMsg) (s : State), (s.pairUp = true) ∧ ((s.frameIn 2 0x10 hd crcOk).2 = true) ∧ (hd.last = true) ∧ ((s.frameIn 2 0x10 hd crcOk).1.follows = true) ∧ (s.pair.snapApplied = false) :=
  ⟨{ type := 0x10 }, true, .pg 0 {}, wPair .track {}, by decide +kernel⟩

theorem test_w_alignmentSend : ∃ (k : Nat) (l : List AlignItem) (rest : List (Nat × List AlignItem)) (s : State), (s.pair.ownStates = (k, l) :: rest) ∧ (s.alignDue = true) :=
  ⟨7, [], [], wPair .active { owns := true, ownStates := [(7, [])] }, by decide +kernel⟩

theorem test_w_alignmentReceived : ∃ (hd : FrameHead) (crcOk : Bool) (k : Nat) (items : List AlignItem) (s : State), (s.pairUp = true) ∧ ((s.frameIn 3 0x20 hd crcOk).2 = true) ∧ (hd.last = true) ∧ ((s.frameIn 3 0x20 hd crcOk).1.follows = true) :=
  ⟨{ type := 0x20 }, true, 0, [], wMode .track, by decide +kernel⟩

theorem test_w_mirrorWriteReceived : ∃ (hd : FrameHead) (crcOk : Bool) (k : Nat) (idx : Nat) (sub : Nat) (data : List (BitVec 8)) (s : State), (s.pairUp = true) ∧ ((s.frameIn 4 0x30 hd crcOk).2 = true) ∧ (hd.last = true) ∧ (s.pair.owns = false) ∧ ((s.follows && !s.pair.snapApplied) = false) ∧ (s.refRuns = true) :=
  ⟨{ type := 0x30 }, true, 0, 0x4000, 1, [], { wPair .track { snapApplied := true } with tide := { pulsed := true }, cfg := [(objKey 0x3000 1, [0]), (objKey 0x3000 2, [0]), (objKey 0x3000 3, [1])] }, by decide +kernel⟩

theorem test_w_mirrorWriteReceived_atOnce : ∃ (hd : FrameHead) (crcOk : Bool) (k : Nat) (idx : Nat) (sub : Nat) (data : List (BitVec 8)) (s : State), (s.pairUp = true) ∧ ((s.frameIn 4 0x30 hd crcOk).2 = true) ∧ (hd.last = true) ∧ (s.pair.owns = false) ∧ ((s.follows && !s.pair.snapApplied) = false) ∧ (s.refRuns = false) :=
  ⟨{ type := 0x30 }, true, 0, 0x4000, 1, [], wPair .track { snapApplied := true }, by decide +kernel⟩

theorem test_w_snapshotFragmentReceived : ∃ (hd : FrameHead) (crcOk : Bool) (k : Nat) (snap : Snapshot) (s : State), (s.pairUp = true) ∧ ((s.frameIn 5 0x40 hd crcOk).2 = true) ∧ ((s.frameIn 5 0x40 hd crcOk).1.follows = true) ∧ (hd.last = false) :=
  ⟨{ type := 0x40, last := false }, true, 7, {}, wMode .track, by decide +kernel⟩

theorem test_w_snapshotFragmentReceived_dropped : ∃ (hd : FrameHead) (crcOk : Bool) (k : Nat) (snap : Snapshot) (s : State), (s.pairUp = true) ∧ ((s.frameIn 5 0x40 hd crcOk).2 = false) :=
  ⟨{ type := 0x40 }, false, 7, {}, wMode .track, by decide +kernel⟩

theorem test_w_kopolFrameRetransmit : ∃ (cls : Nat) (f : SentFrame) (fs : List SentFrame) (s : State), (s.pairUp = true) ∧ (2 ≤ cls) ∧ (nth s.pair.unacked (cls - 2) [] = f :: fs) ∧ (f.at_ + 50 * ticksPerUs ≤ s.now) :=
  ⟨2, {}, [], { wPair .active { unacked := [[{}]] } with now := ticksPerS }, by decide +kernel⟩

theorem test_w_laneDown : ∃ (lane : Nat) (s : State), (s.pairUp = true) ∧ (lane < 2) :=
  ⟨0, wMode .active, by decide +kernel⟩

theorem test_w_laneRetrain : ∃ (lane : Nat) (ok : Bool) (roundTrip : Rat) (s : State), (s.pairUp = true) ∧ (lane < 2) ∧ (ok = true) ∧ (nth s.pair.lanes lane true = false) :=
  ⟨0, true, 0, wPair .active { lanes := [false, false] }, by decide +kernel⟩

theorem test_w_ownNReleased : ∃ (s : State), (s.pair.owns = false) ∧ (s.supply.phase = .running) :=
  ⟨wMode .track, by decide +kernel⟩

theorem test_w_ownReadbackFault : ∃ (s : State), (s.pair.owns = true) :=
  ⟨wPair .active { owns := true }, by decide +kernel⟩

theorem test_w_engStopSelfRelease : ∃ (s : State), (s.regionOn .eng = true) :=
  ⟨wMode .active, by decide +kernel⟩

theorem test_w_supStallSelfRelease : ∃ (s : State), (s.carries = true) :=
  ⟨wPair .active { owns := true }, by decide +kernel⟩

theorem test_w_selfReleaseOutputsLow : ∃ (since : Nat) (s : State), (s.pair.selfRelease = some since) ∧ (20 * ticksPerUs ≤ s.since since) :=
  ⟨0, { wPair .active { selfRelease := some 0 } with now := ticksPerS }, by decide +kernel⟩

theorem test_w_supervisoryCoresResume : ∃ (s : State), (s.pair.supStalled = true) :=
  ⟨wPair .active { supStalled := true }, by decide +kernel⟩

theorem test_w_handoverRequest : ∃ (ch : Chan) (s : State), (Safety.writable s ch 0x2500 7 [1] = true) ∧ (s.handoverStatus = 0) :=
  ⟨.sdo 0 1, { wSdo .active with spm := { supply := .source }, pair := { owns := true, twinSeen := true, twin := { mode := Mode.track.code, trackReady := true, eligible := true, locked := true } } }, by decide +kernel⟩

theorem test_w_handoverCancel : ∃ (ch : Chan) (s : State), (Safety.writable s ch 0x2500 7 [0] = true) ∧ (s.pair.hoRequest = true) ∧ (s.pair.owns = true) :=
  ⟨.sdo 0 1, { wSdo .active with pair := { owns := true, hoRequest := true } }, by decide +kernel⟩

theorem test_w_handoverRelease : ∃ (s : State), (s.pair.owns = true) ∧ (s.inMode .active = true) ∧ (s.pair.hoState = 2) :=
  ⟨wPair .active { owns := true, hoState := 2 }, by decide +kernel⟩

theorem test_w_handoverTimeout : ∃ (s : State), (s.pair.hoState = 1) ∧ (s.elapsed s.pair.hoFrom (100 / 1000) = true) ∧ (s.img.pairState ≠ 4) :=
  ⟨{ wPair .active { hoState := 1 } with now := ticksPerS }, by decide +kernel⟩

theorem test_w_objectWrite : ∃ (ch : Chan) (idx : Nat) (sub : Nat) (data : List (BitVec 8)) (s : State), (s.served ch = true) ∧ (s.entryStatus (s.placed [(s.target idx, sub, data)]) ch (s.target idx, sub, data) = 0) :=
  ⟨.sdo 0 1, 0x4031, 1, [1], wSdo .rise, by decide +kernel⟩

theorem test_w_pairCommonWrite : ∃ (ch : Chan) (idx : Nat) (sub : Nat) (data : List (BitVec 8)) (s : State), (s.served ch = true) ∧ (isCommon (s.target idx) sub = true) ∧ (s.entryStatus (s.placed [(s.target idx, sub, data)]) ch (s.target idx, sub, data) = 0) :=
  ⟨.sdo 0 1, 0x4504, 1, [0, 0, 0, 0], wSdo .active, by decide +kernel⟩

theorem test_w_accessDrop : ∃ (ch : Chan) (v : Nat) (s : State), (s.served ch = true) ∧ (s.entryStatus (s.placed [(s.target 0x2020, 4, (leBytes 1 v))]) ch (s.target 0x2020, 4, (leBytes 1 v)) = 0) :=
  ⟨.sdo 0 1, 1, wSdo .active, by decide +kernel⟩

theorem test_w_storeSave : ∃ (ch : Chan) (sig : Nat) (s : State), (s.served ch = true) ∧ (s.entryStatus (s.placed [(s.target 0x1010, 1, (leBytes 4 sig))]) ch (s.target 0x1010, 1, (leBytes 4 sig)) = 0) :=
  ⟨.sdo 0 1, 0x65766173, wSdo .service, by decide +kernel⟩

theorem test_w_restoreLoad : ∃ (ch : Chan) (sig : Nat) (s : State), (s.served ch = true) ∧ (s.entryStatus (s.placed [(s.target 0x1011, 1, (leBytes 4 sig))]) ch (s.target 0x1011, 1, (leBytes 4 sig)) = 0) :=
  ⟨.sdo 0 1, 0x64616F6C, wSdo .service, by decide +kernel⟩

theorem test_w_legacyModeWrite : ∃ (ch : Chan) (v : Nat) (s : State), (s.served ch = true) ∧ (s.entryStatus (s.placed [(s.target 0x2800, 1, (leBytes 1 v))]) ch (s.target 0x2800, 1, (leBytes 1 v)) = 0) :=
  ⟨.sdo 0 1, 1, wSdo .service, by decide +kernel⟩

theorem test_w_accessChallengeRead : ∃ (ch : Chan) (s : State), (s.served ch = true) :=
  ⟨.sdo 0 1, wSdo .active, by decide +kernel⟩

theorem test_w_accessResponse : ∃ (ch : Chan) (level : Nat) (sig : List (BitVec 8)) (s : State), (s.served ch = true) ∧ (s.responseStatus sig = 0) :=
  ⟨.sdo 0 1, 1, List.replicate 64 0, wSdo .active, by decide +kernel⟩

theorem test_w_accessIdleTimeout : ∃ (ch : Chan) (y : Session) (s : State), (s.session ch = some y) ∧ (s.elapsed y.lastReq 600 = true) :=
  ⟨.sdo 0 1, { level := 2 }, { wSdo .active with now := 600 * ticksPerS }, by decide +kernel⟩

theorem test_w_sdoRequest : ∃ (p : Nat) (v : Nat) (r : SdoReq) (s : State), (s.sdoReady p = true) ∧ (s.serverValid v = true) ∧ (s.served (.sdo p v) = true) :=
  ⟨0, 1, .downloadSegment false true [], { wSdo .active with net := { sdo := List.replicate 8 {}, can := [{ nmt := .operational }] } }, by decide +kernel⟩

theorem test_w_sdoAbortTransfer : ∃ (p : Nat) (v : Nat) (s : State), (s.sdoReady p = true) ∧ (s.served (.sdo p v) = true) :=
  ⟨0, 1, { wSdo .active with net := { sdo := List.replicate 8 {}, can := [{ nmt := .operational }] } }, by decide +kernel⟩

theorem test_w_sdoSegmentTimeout : ∃ (p : Nat) (v : Nat) (y : Transfer) (s : State), (s.sdoTransfer p v = some y) ∧ (s.elapsed y.at_ 1 = true) :=
  ⟨0, 1, {}, { wSdo .active with now := ticksPerS, net := { sdo := [{ transfers := [{}] }] } }, by decide +kernel⟩

theorem test_w_nireoRead : ∃ (rq : NireoReq) (tag : Nat) (idx : Nat) (sub : Nat) (ca : Bool) (word : Nat) (y : Session) (s : State), (Safety.nireoAnew (s.requestFrom rq) rq.session y 1 tag idx sub word true = true) :=
  ⟨{ session := 1 }, 0, 0x2100, 1, false, 0, { num := 1 }, wNireo, by decide +kernel⟩

theorem test_w_nireoWrite : ∃ (rq : NireoReq) (tag : Nat) (idx : Nat) (sub : Nat) (ca : Bool) (data : List (BitVec 8)) (y : Session) (s : State), (Safety.nireoAnew (s.requestFrom rq) rq.session y 2 tag idx sub 0 true = true) :=
  ⟨{ session := 1 }, 0, 0x2100, 1, false, [1], { num := 1 }, wNireo, by decide +kernel⟩

theorem test_w_nireoDomainBegin : ∃ (rq : NireoReq) (tag : Nat) (idx : Nat) (sub : Nat) (size : Nat) (y : Session) (s : State), (Safety.nireoAnew (s.requestFrom rq) rq.session y 3 tag idx sub 0 true = true) :=
  ⟨{ session := 1 }, 0, 0x2100, 1, 5, { num := 1 }, wNireo, by decide +kernel⟩

theorem test_w_nireoDomainSegment : ∃ (rq : NireoReq) (tag : Nat) (idx : Nat) (sub : Nat) (word : Nat) (data : List (BitVec 8)) (y : Session) (s : State), (Safety.nireoAnew (s.requestFrom rq) rq.session y 4 tag idx sub word ((s.requestFrom rq).domainWrite rq.session idx sub).isNone = true) :=
  ⟨{ session := 1 }, 0, 0x2100, 1, 0, [1], { num := 1 }, wNireo, by decide +kernel⟩

theorem test_w_nireoDomainEnd : ∃ (rq : NireoReq) (tag : Nat) (idx : Nat) (sub : Nat) (crc : BitVec 32) (y : Session) (s : State), (Safety.nireoAnew (s.requestFrom rq) rq.session y 5 tag idx sub 0 ((s.requestFrom rq).domainWrite rq.session idx sub).isNone = true) :=
  ⟨{ session := 1 }, 0, 0x2100, 1, 0, { num := 1 }, wNireo, by decide +kernel⟩

theorem test_w_nireoDomainAbort : ∃ (rq : NireoReq) (tag : Nat) (idx : Nat) (sub : Nat) (y : Session) (s : State), (Safety.nireoAnew (s.requestFrom rq) rq.session y 6 tag idx sub 0 ((s.requestFrom rq).domainWrite rq.session idx sub).isNone = true) :=
  ⟨{ session := 1 }, 0, 0x2100, 1, { num := 1 }, wNireo, by decide +kernel⟩

theorem test_w_nireoCloseSession : ∃ (rq : NireoReq) (tag : Nat) (y : Session) (s : State), (Safety.nireoAnew (s.requestFrom rq) rq.session y 9 tag 0 0 0 true = true) :=
  ⟨{ session := 1 }, 0, { num := 1 }, wNireo, by decide +kernel⟩

theorem test_w_nireoBatchWrite : ∃ (n : Nat) (tag : Nat) (entries : List (Nat × Nat × List (BitVec 8))) (y : Session) (s : State), (Safety.nireoAnew s n y 11 tag 0 0 0 true = true) :=
  ⟨1, 0, [], { num := 1 }, wNireo, by decide +kernel⟩

theorem test_w_nireoOpenSession : ∃ (port : Nat) (tag : Nat) (peer : Nat × Nat) (s : State), (s.dictUp = true) ∧ (s.transportUp port = true) ∧ ((s.ethReceived port).slotsFull = false) ∧ (((s.ethReceived port).portSessions port).length < 8) ∧ (s.net.nireo.length < 32) :=
  ⟨0, 0, (0, 0), wSdo .active, by decide +kernel⟩

theorem test_w_nireoFrameDropped : ∃ (port : Nat) (s : State), (s.dictUp = true) ∧ (s.transportUp port = true) :=
  ⟨0, wSdo .active, by decide +kernel⟩

theorem test_w_sessionIdleTimeout : ∃ (n : Nat) (y : Session) (s : State), (s.session (.nireo n) = some y) ∧ (s.elapsed y.lastReq 600 = true) :=
  ⟨1, { num := 1 }, { wNireo with now := 600 * ticksPerS }, by decide +kernel⟩

theorem test_w_domainWriteIdleTimeout : ∃ (n : Nat) (idx : Nat) (sub : Nat) (y : Transfer) (s : State), (s.domainWrite n idx sub = some y) ∧ (s.elapsed y.at_ 10 = true) :=
  ⟨1, 0, 0, {}, { wNireo with now := 10 * ticksPerS, net := { nireo := [{ num := 1, transfers := [{}] }] } }, by decide +kernel⟩

theorem test_w_hsFrameCommand : ∃ (frame : List (BitVec 8)) (crcOk : Bool) (s : State), (s.hsUp = true) :=
  ⟨[], false, { wNireo with cfg := [(objKey 0x4A20 2, [1])] }, by decide +kernel⟩

theorem test_w_hsStatusCommand : ∃ (s : State), (s.hsUp = true) :=
  ⟨{ wNireo with cfg := [(objKey 0x4A20 2, [1])] }, by decide +kernel⟩

theorem test_w_hsResponseCommand : ∃ (r : List Byte) (rs : List (List Byte)) (s : State), (s.hsUp = true) ∧ (s.net.hsQueue = r :: rs) :=
  ⟨[], [], { wNireo with cfg := [(objKey 0x4A20 2, [1])], net := { hsQueue := [[]] } }, by decide +kernel⟩

theorem test_w_nireoCanFdSegment : ∃ (p : Nat) (host : Nat) (w : BitVec 8) (data : List (BitVec 8)) (old : List (BitVec 8)) (s : State), (p < 2) ∧ (host < 16) ∧ (s.nodeOf p < 256) ∧ (s.dictUp = true) ∧ (s.transportUp (3 + p) = true) ∧ ((s.can p).fd = [(host, old, w.toNat)]) ∧ (1 ≤ w.toNat ∧ w.toNat < 64) ∧ (p < s.net.can.length) :=
  ⟨0, 2, 1, [1], [0], { wSdo .active with cfg := [(objKey 0x4A10 4, [1])], net := { can := [{ fd := [(2, [0], 1)] }] } }, by decide +kernel⟩

theorem test_w_nireoCanFdSegment_otherFrame : ∃ (p : Nat) (ident : Nat) (seg : BitVec 8) (data : List (BitVec 8)) (s : State), (ident ≠ s.fdIdent p ((ident - 0x1E400000) / 0x1000 % 16) 0) :=
  ⟨0, 0, 0, [], wMode .active, by decide +kernel⟩

theorem test_w_nmtStart : ∃ (p : Nat) (s : State), (s.canLive p = true) ∧ (p < s.net.can.length) :=
  ⟨0, wCan { nmt := .preOperational }, by decide +kernel⟩

theorem test_w_nmtStop : ∃ (p : Nat) (s : State), (s.canLive p = true) :=
  ⟨0, wCan { nmt := .operational }, by decide +kernel⟩

theorem test_w_nmtEnterPreOperational : ∃ (p : Nat) (s : State), (s.canLive p = true) ∧ ((s.can p).nmt ≠ .preOperational) :=
  ⟨0, wCan { nmt := .operational }, by decide +kernel⟩

theorem test_w_nmtResetNode : ∃ (p : Nat) (s : State), (s.canLive p = true) :=
  ⟨0, wCan { nmt := .operational }, by decide +kernel⟩

theorem test_w_nmtResetCommunication : ∃ (p : Nat) (s : State), (s.canLive p = true) :=
  ⟨0, wCan { nmt := .operational }, by decide +kernel⟩

theorem test_w_lssSwitchState : ∃ (p : Nat) (g : Bool) (cfg : Bool) (ident : List Nat) (s : State), (s.canLive p = true) ∧ (p < s.net.can.length) ∧ (g = true) :=
  ⟨0, true, true, [], wCan { nmt := .operational }, by decide +kernel⟩

theorem test_w_lssConfigureNodeId : ∃ (p : Nat) (node : Nat) (s : State), (s.lssReady p = true) ∧ (p < s.net.can.length) ∧ (1 ≤ node ∧ node ≤ 127) :=
  ⟨0, 127, wCan { nmt := .operational, lssConfig := true, pendNode := some 5 }, by decide +kernel⟩

theorem test_w_lssConfigureBitTiming : ∃ (p : Nat) (entry : Nat) (r : Nat) (s : State), (s.lssReady p = true) ∧ (p < s.net.can.length) ∧ (lssRate entry = some r) :=
  ⟨0, 4, 125000, wCan { nmt := .operational, lssConfig := true, pendNode := some 5 }, by decide +kernel⟩

theorem test_w_lssStore : ∃ (p : Nat) (n : Nat) (s : State), (s.lssReady p = true) ∧ (p < s.net.can.length) ∧ ((s.can p).pendNode = some n) :=
  ⟨0, 5, wCan { nmt := .operational, lssConfig := true, pendNode := some 5 }, by decide +kernel⟩

theorem test_w_lssInquire : ∃ (p : Nat) (what : Nat) (s : State), (s.lssReady p = true) ∧ (p < s.net.can.length) ∧ (what < 4) :=
  ⟨0, 3, wCan { nmt := .operational, lssConfig := true, pendNode := some 5 }, by decide +kernel⟩

theorem test_w_lssFastscan : ∃ (p : Nat) (idNumber : Nat) (bitCheck : Nat) (lssSub : Nat) (lssNext : Nat) (s : State), (s.canLive p = true) ∧ (p < s.net.can.length) ∧ ((s.can p).lssConfig = false) ∧ (bitCheck = 0x80) :=
  ⟨0, 0, 0x80, 0, 0, wCan { nmt := .operational }, by decide +kernel⟩

theorem test_w_rpdoReceived : ∃ (p : Nat) (n : Nat) (data : List (BitVec 8)) (s : State), (s.canLive p = true) ∧ ((s.can p).nmt = .operational) ∧ (n < 32) ∧ (bit (s.objN (0x1400 + n) 1) 31 = false) :=
  ⟨0, 0, [], { wCan { nmt := .operational } with cfg := [(objKey 0x1400 1, [0, 2, 0, 0])] }, by decide +kernel⟩

theorem test_w_tpdoEvent : ∃ (n : Nat) (s : State), (s.tpdoLive n = true) ∧ (254 ≤ s.tpdoType n) ∧ (s.inhibitOver n = true) :=
  ⟨0, { wCan { nmt := .operational } with cfg := [(objKey 0x1800 1, [0, 2, 0, 0]), (objKey 0x1800 2, [254])] }, by decide +kernel⟩

theorem test_w_tpdoEventTimer : ∃ (n : Nat) (s : State), (s.tpdoLive n = true) ∧ (254 ≤ s.tpdoType n) ∧ (s.objN (0x1800 + n) 5 ≠ 0) ∧ ((s.tpdo n).sentAt = none) :=
  ⟨0, { wCan { nmt := .operational } with cfg := [(objKey 0x1800 1, [0, 2, 0, 0]), (objKey 0x1800 2, [254]), (objKey 0x1800 5, [1, 0])] }, by decide +kernel⟩

theorem test_w_tpdoInhibitExpired : ∃ (n : Nat) (s : State), (s.tpdoLive n = true) ∧ (254 ≤ s.tpdoType n) ∧ ((s.tpdo n).changed = true) ∧ (s.inhibitOver n = true) :=
  ⟨0, { wCan { nmt := .operational } with cfg := [(objKey 0x1800 1, [0, 2, 0, 0]), (objKey 0x1800 2, [254])], net := { can := [{ nmt := .operational }], tpdo := [{ changed := true }] } }, by decide +kernel⟩

theorem test_w_pgUpdate : ∃ (n : Nat) (s : State), (s.pgDue n = true) :=
  ⟨0, { wMode .active with tide := { pulsed := true }, pgs := List.replicate 16 {}, cfg := [(objKey 0x3000 1, [0]), (objKey 0x3000 2, [0]), (objKey 0x3000 3, [1])] }, by decide +kernel⟩

theorem test_w_syncProduce : ∃ (s : State), (s.syncOn = true) ∧ (s.syncPorts.isEmpty = false) ∧ (s.net.time.syncK ≠ some s.syncIndex) ∧ (s.syncPhase < 2 * ticksPerUs) :=
  ⟨{ wCan { nmt := .operational } with cfg := [(objKey 0x1006 0, [0, 1, 0, 0]), (objKey 0x1005 0, [0x80, 0, 0, 0x40])] }, by decide +kernel⟩

theorem test_w_syncReceived : ∃ (p : Nat) (s : State), (p ∈ s.syncPorts) ∧ (s.syncOn = false) :=
  ⟨0, wCan { nmt := .operational }, by decide +kernel⟩

theorem test_w_syncReceived_producer : ∃ (p : Nat) (s : State), (p ∈ s.syncPorts) ∧ (s.syncOn = true) :=
  ⟨0, { wSdo .active with cfg := [(objKey 0x1006 0, [1]), (objKey 0x1005 0, leBytes 4 0x40000080)] }, by decide +kernel⟩

theorem test_w_timeProduce : ∃ (s : State), (s.pair.owns = true) ∧ (bit (s.objN 0x1012 0) 30 = true) ∧ (s.net.time.state ≠ 0) ∧ (s.syncPorts.isEmpty = false) ∧ (s.net.time.timeSent ≠ s.taiNow / ticksPerS) ∧ (500 * ticksPerMs ≤ s.taiNow % ticksPerS) ∧ (s.taiNow % ticksPerS < 500 * ticksPerMs + 2 * ticksPerUs) :=
  ⟨{ wCan { nmt := .operational } with net := { can := [{ nmt := .operational }], time := { state := 1, tai := 3 * ticksPerS / 2 } }, cfg := [(objKey 0x1012 0, [0, 1, 0, 0x40])] }, by decide +kernel⟩

theorem test_w_canHeartbeatProduce : ∃ (p : Nat) (s : State), (s.canLive p = true) ∧ (p < s.net.can.length) ∧ (s.objN 0x1017 0 ≠ 0) ∧ (s.elapsed (s.can p).hbAt ((s.objN 0x1017 0 : Rat) / 1000) = true) :=
  ⟨0, { wCan { nmt := .operational } with now := 100 * ticksPerS, cfg := [(objKey 0x1017 0, [1, 0])] }, by decide +kernel⟩

theorem test_w_canHeartbeatReceived : ∃ (p : Nat) (node : Nat) (s : State), (s.canLive p = true) ∧ (s.consumerTime node ≠ 0) :=
  ⟨0, 5, { wCan { nmt := .operational } with cfg := [(objKey 0x1016 1, [1, 0, 5, 0])] }, by decide +kernel⟩

theorem test_w_canHeartbeatConsumerTimeout : ∃ (p : Nat) (node : Nat) (s : State), (s.canLive p = true) ∧ (s.consumerTime node ≠ 0) ∧ (((s.can p).consumers.any fun c => c.1 == node && !c.2.2 && s.elapsed c.2.1 ((s.consumerTime node : Rat) / 1000)) = true) :=
  ⟨0, 5, { wCan { nmt := .operational, consumers := [(5, 0, false)] } with now := ticksPerS, cfg := [(objKey 0x1016 1, [1, 0, 5, 0])] }, by decide +kernel⟩

theorem test_w_canBusOff : ∃ (p : Nat) (s : State), (s.canDrives p = true) :=
  ⟨0, wCan { nmt := .operational }, by decide +kernel⟩

theorem test_w_canBusOffRecovery : ∃ (p : Nat) (s : State), ((s.can p).busOff = true) :=
  ⟨0, wCan { busOff := true }, by decide +kernel⟩

theorem test_w_ethLinkUp : ∃ (p : Nat) (speed : Nat) (s : State), (s.part.has .eth p = true) ∧ (s.regionOn .net = true) ∧ (s.supply.phase = .running) ∧ (speed = 10 ∨ speed = 100 ∨ speed = 1000) ∧ (s.inMode .pilot = false) ∧ (p < s.net.eth.length) :=
  ⟨0, 1000, wEth {}, by decide +kernel⟩

theorem test_w_ethLinkDown : ∃ (p : Nat) (s : State), (s.part.has .eth p = true) ∧ ((s.eth p).enabled = true) ∧ (s.regionOn .net = true) ∧ (s.supply.phase = .running) :=
  ⟨0, wEth { enabled := true, linkUp := true }, by decide +kernel⟩

theorem test_w_ethFrameDropped : ∃ (p : Nat) (s : State), (s.ethLive p = true) ∧ (p < s.net.eth.length) :=
  ⟨0, wEth { enabled := true, linkUp := true }, by decide +kernel⟩

theorem test_w_ethArpRequest : ∃ (p : Nat) (addr : Nat) (s : State), (s.ethLive p = true) ∧ (p < s.net.eth.length) ∧ (addr = (s.eth p).addr) :=
  ⟨0, 0, wEth { enabled := true, linkUp := true }, by decide +kernel⟩

theorem test_w_icmpEchoRequest : ∃ (p : Nat) (addr : Nat) (s : State), (s.ethLive p = true) ∧ (p < s.net.eth.length) ∧ (addr = (s.eth p).addr) :=
  ⟨0, 0, wEth { enabled := true, linkUp := true }, by decide +kernel⟩

theorem test_w_ptpSyncSend : ∃ (p : Nat) (s : State), (s.ptpMaster p = true) ∧ (p < s.net.eth.length) ∧ (s.ptpDue (s.eth p).syncAt 0x0A = true) :=
  ⟨0, { wEth { enabled := true, linkUp := true, ptpOn := true } with now := 1000 * ticksPerS }, by decide +kernel⟩

theorem test_w_ptpAnnounceSend : ∃ (p : Nat) (s : State), (s.ptpMaster p = true) ∧ (p < s.net.eth.length) ∧ (s.ptpDue (s.eth p).annAt 0x0B = true) :=
  ⟨0, { wEth { enabled := true, linkUp := true, ptpOn := true } with now := 1000 * ticksPerS }, by decide +kernel⟩

theorem test_w_ptpDelayReqReceived : ∃ (p : Nat) (req : DelayReq) (s : State), (s.ptpMaster p = true) ∧ (p < s.net.eth.length) :=
  ⟨0, { seq := 1 }, { wEth { enabled := true, linkUp := true, ptpOn := true } with now := 1000 * ticksPerS }, by decide +kernel⟩

theorem test_w_ptpAnnounceReceived : ∃ (p : Nat) (a : Announce) (s : State), (s.ethLive p = true) ∧ (s.outranked p a = false) :=
  ⟨0, { domain := 1 }, wEth { enabled := true, linkUp := true }, by decide +kernel⟩

theorem test_w_ptpAnnounceReceived_better : ∃ (p : Nat) (a : Announce) (s : State), (s.ethLive p = true) ∧ (s.outranked p a = true) ∧ (s.ptpState p = 1 ∨ s.ptpState p = 2) :=
  ⟨0, {}, { wEth { enabled := true, linkUp := true, ptpOn := true } with cfg := [(objKey 0x4A08 2, [255])] }, by decide +kernel⟩

theorem test_w_ptpAnnounceTimeout : ∃ (p : Nat) (s : State), ((s.eth p).passive = true) ∧ (s.elapsed (s.eth p).betterAt (3 * s.logInterval 0x0B) = true) :=
  ⟨0, { wEth { passive := true } with now := 1000 * ticksPerS }, by decide +kernel⟩

theorem test_w_timeSetSeconds : ∃ (ch : Chan) (v : Nat) (s : State), (s.served ch = true) ∧ (s.entryStatus (s.placed [(s.target 0x2310, 1, (leBytes 8 v))]) ch (s.target 0x2310, 1, (leBytes 8 v)) = 0) :=
  ⟨.sdo 0 1, 1700000000, wSdo .active, by decide +kernel⟩

theorem test_w_phaseAdjust : ∃ (ch : Chan) (ns : Int) (s : State), (s.served ch = true) ∧ (s.entryStatus (s.placed [(s.target 0x2310, 2, (intBytes 4 ns))]) ch (s.target 0x2310, 2, (intBytes 4 ns)) = 0) :=
  ⟨.sdo 0 1, 5, wSdo .active, by decide +kernel⟩

theorem test_w_traceableWrite : ∃ (ch : Chan) (v : Nat) (s : State), (s.served ch = true) ∧ (s.entryStatus (s.placed [(s.target 0x2310, 3, (leBytes 1 v))]) ch (s.target 0x2310, 3, (leBytes 1 v)) = 0) :=
  ⟨.sdo 0 1, 1, wSdo .active, by decide +kernel⟩

theorem test_w_ppsEdge : ∃ (s : State), (s.pwmPowered = true) ∧ (s.net.time.ppsSec ≠ some (s.taiNow / ticksPerS)) ∧ (s.taiNow % ticksPerS ≤ 2) :=
  ⟨wMode .active, by decide +kernel⟩

theorem test_w_traceableTimeout : ∃ (s : State), (s.net.time.state = 1) ∧ (s.elapsed s.net.time.traceAt 3600 = true) :=
  ⟨{ wSdo .active with now := 3600 * ticksPerS, net := { time := { state := 1 } } }, by decide +kernel⟩

theorem test_w_holdoverEnd : ∃ (s : State), (s.net.time.state = 2) ∧ (s.elapsed s.net.time.holdoverAt (s.objN 0x2310 6) = true) :=
  ⟨{ wSdo .active with now := 10000000 * ticksPerS, net := { time := { state := 2 } } }, by decide +kernel⟩

theorem test_w_trainCommand : ∃ (ch : Chan) (v : Nat) (result : Nat) (s : State), (Safety.writable s ch 0x4600 0x14 (leBytes 1 v) = true) ∧ (s.inMode .service = true) :=
  ⟨.sdo 0 1, 1, 1, wSdo .service, by decide +kernel⟩

theorem test_w_dramFillComplete : ∃ (s : State), (s.mem.filling = true) ∧ (s.dramUp = true) :=
  ⟨{ wDram with mem := { trainResult := 1, filling := true } }, by decide +kernel⟩

theorem test_w_dramRead : ∃ (rq : MemReq) (addr : Nat) (len : Nat) (errs : List SymErr) (s : State), (s.dramUp = true) ∧ (addr < s.dramCapacity) ∧ (s.rankShed (addr / 32) = false) ∧ (rq.inTurn (addr / 32) = true) ∧ (firstBad (s.filledNow.readBurst (addr / 32) errs) = none) :=
  ⟨{ who := .cores }, 0, 8, [], wDram, by decide +kernel⟩

theorem test_w_dramWrite : ∃ (rq : MemReq) (addr : Nat) (data : List (BitVec 8)) (errs : List SymErr) (s : State), (s.dramUp = true) ∧ (addr < s.dramCapacity) ∧ (s.rankShed (addr / 32) = false) ∧ (rq.inTurn (addr / 32) = true) :=
  ⟨{ who := .cores }, 0, [1], [], wDram, by decide +kernel⟩

theorem test_w_dramRead_beyond : ∃ (rq : MemReq) (addr : Nat) (len : Nat) (errs : List SymErr) (s : State), (s.dramUp = true) ∧ (s.dramCapacity ≤ addr) :=
  ⟨{ who := .cores }, 2 ^ 33, 8, [], wDram, by decide +kernel⟩

theorem test_w_dramRead_rankShed : ∃ (rq : MemReq) (addr : Nat) (len : Nat) (data : List (BitVec 8)) (errs : List SymErr) (s : State), (s.dramUp = true) ∧ (addr < s.dramCapacity) ∧ ((s.rankShed (addr / 32) || !rq.inTurn (addr / 32)) = true) :=
  ⟨{ who := .cores }, 0, 8, [1], [], { wDram with faults := { sheds := [State.reset.key 8 0 0xFF 0] } }, by decide +kernel⟩

theorem test_w_dramWrite_beyond : ∃ (rq : MemReq) (addr : Nat) (data : List (BitVec 8)) (errs : List SymErr) (s : State), (s.dramUp = true) ∧ (s.dramCapacity ≤ addr) :=
  ⟨{ who := .cores }, 2 ^ 33, [1], [], wDram, by decide +kernel⟩

theorem test_w_scrubBurst : ∃ (errs : List SymErr) (s : State), (s.mem.scrubbing = true) ∧ (s.dramUp = true) ∧ (s.rankShed s.scrubTarget = false) ∧ (firstBad (s.readBurst s.scrubTarget errs) = none) ∧ (correctedDevices (s.readBurst s.scrubTarget errs) = []) :=
  ⟨[], { wDram with mem := { trainResult := 1, byteParity := false, scrubbing := true } }, by decide +kernel⟩

theorem test_w_scrubLapOverdue : ∃ (s : State), (s.mem.scrubbing = true) ∧ (s.dramUp = true) ∧ (s.objN 0x4600 0x0A ≠ 0) ∧ (s.elapsed s.mem.lapFrom (s.objN 0x4600 0x0A) = true) :=
  ⟨{ wDram with now := 100 * ticksPerS, mem := { trainResult := 1, scrubbing := true }, cfg := [(objKey 0x4600 0x0A, [1, 0, 0, 0])] }, by decide +kernel⟩

theorem test_w_bucketLeakTick : ∃ (sram : Bool) (s : State), (sram = false) ∧ (s.part.has .ddr 0 = true) ∧ (s.regionOn .mem = true) ∧ (s.mem.leakAt + s.mem.interval * ticksPerMs ≤ s.now) :=
  ⟨false, { wDram with now := 100000 * ticksPerS }, by decide +kernel⟩

theorem test_w_bucketLeakTick_sram : ∃ (s : State), (s.mem.sramLeakAt + s.mem.sramInterval * ticksPerMs ≤ s.now) :=
  ⟨{ wMode .active with now := 100000 * ticksPerS }, by decide +kernel⟩

theorem test_w_eccModeChange : ∃ (ch : Chan) (v : Nat) (s : State), (Safety.writable s ch 0x4600 5 (leBytes 1 v) = true) ∧ (s.inMode .service = true) ∧ (s.objN 0x4600 5 ≠ v) :=
  ⟨.sdo 0 1, 1, wSdo .service, by decide +kernel⟩

theorem test_w_flipArm : ∃ (ch : Chan) (v : Nat) (s : State), (Safety.writable s ch 0x2720 4 (leBytes 1 v) = true) ∧ (s.inMode .service = true) :=
  ⟨.sdo 0 1, 1, wSdo .service, by decide +kernel⟩

theorem test_w_dramAlert : ∃ (rank : Nat) (s : State), (s.dramUp = true) ∧ (rank < max 1 s.ranks) ∧ (s.mem.alerted = true) :=
  ⟨0, { wDram with mem := { trainResult := 1, alerted := true } }, by decide +kernel⟩

theorem test_w_sramScrubRead : ∃ (region : Nat) (unit : Nat) (single : Bool) (s : State), (single = true) ∧ (s.sramPresent region unit = true) :=
  ⟨0, 0, true, wMode .active, by decide +kernel⟩

theorem test_w_sramUncorrectable : ∃ (region : Nat) (unit : Nat) (item : Nat) (s : State), (s.sramPresent region unit = true) ∧ (region = 4) ∧ (item < s.mods.length) ∧ (item < 48) :=
  ⟨4, 0, 0, { wMode .active with mods := List.replicate 48 {} }, by decide +kernel⟩

theorem test_w_mramWrite : ∃ (w : MramWriter) (addr : Nat) (v : BitVec 64) (fails : Nat) (s : State), (mramOwner w addr = true) ∧ (addr % 8 = 0) ∧ (fails ≤ 2) :=
  ⟨.update, 0, 5, 2, wMode .active, by decide +kernel⟩

theorem test_w_mramReadUe : ∃ (e : MramError) (s : State), (e.addr < 0x4000000) ∧ (e.single = false) :=
  ⟨{ addr := 0x3FFFFFF }, wMode .active, by decide +kernel⟩

theorem test_w_mramReadUe_single : ∃ (e : MramError) (s : State), (e.addr < 0x4000000) ∧ (e.single = true) :=
  ⟨{ addr := 0x3FFFFFF, single := true }, wMode .active, by decide +kernel⟩

theorem test_w_recordArrival : ∃ (r : Record) (s : State), (s.supply.phase = .running) ∧ (s.recordOk r = true) :=
  ⟨{ recType := 3 }, wMode .active, by decide +kernel⟩

theorem test_w_recordArrival_otherType : ∃ (r : Record) (s : State), (s.recordOk r = false) :=
  ⟨{ recType := 4 }, wMode .active, by decide +kernel⟩

theorem test_w_recordCommit : ∃ (s : State), (s.recordDue = true) :=
  ⟨{ wMode .active with log := { waiting := [{ recType := 3 }] } }, by decide +kernel⟩

theorem test_w_freezeStart : ∃ (ch : Chan) (s : State), (Safety.writable s ch 0x4701 6 [1] = true) ∧ (s.inMode .pilot = false) ∧ (s.freezeHeld = false) :=
  ⟨.sdo 0 1, wSdo .active, by decide +kernel⟩

theorem test_w_freezeAbort : ∃ (ch : Chan) (s : State), (Safety.writable s ch 0x4701 6 [2] = true) ∧ (s.freezeAbortStatus ch = 0) :=
  ⟨.sdo 0 1, { wSdo .active with log := { owner := .sdo 0 1, freeze := .freezing } }, by decide +kernel⟩

theorem test_w_freezeRelease : ∃ (ch : Chan) (s : State), (Safety.writable s ch 0x4701 6 [3] = true) ∧ (s.log.owner = ch) ∧ (s.log.freeze = .frozen) :=
  ⟨.sdo 0 1, { wSdo .active with log := { owner := .sdo 0 1, freeze := .frozen } }, by decide +kernel⟩

theorem test_w_freezeLimitExpired : ∃ (s : State), (s.log.freeze = .frozen) ∧ (s.elapsed s.log.frozenAt (s.objN 0x4701 8) = true) :=
  ⟨{ wSdo .active with now := 1000000 * ticksPerS, log := { freeze := .frozen } }, by decide +kernel⟩

theorem test_w_readFromWrite : ∃ (ch : Chan) (n : Nat) (s : State), (Safety.writable s ch 0x4702 1 (leBytes 8 n) = true) :=
  ⟨.sdo 0 1, 5, wSdo .active, by decide +kernel⟩

theorem test_w_readBlock : ∃ (ch : Chan) (s : State), (s.served ch = true) ∧ (s.existsStatus 0x4702 3 = 0) :=
  ⟨.sdo 0 1, wSdo .active, by decide +kernel⟩

theorem test_w_captureFrame : ∃ (errs : List SymErr) (s : State), (s.ringRuns = true) ∧ (s.frameTick s.now = s.now) ∧ (s.log.lastFrame ≠ some s.now) :=
  ⟨[], { wSdo .active with part := .fyx9462, cfg := [(objKey 0x4700 2, [1]), (objKey 0x4700 3, [1, 0, 0, 0, 0, 0, 0, 0]), (objKey 0x4000 1, [1])] }, by decide +kernel⟩

theorem test_w_captureTrigger : ∃ (b : Nat) (key : Key) (cls : Nat) (md : Nat) (at_ : Nat) (e : TrigEvent) (s : State), (s.part.has .ring 0 = true) ∧ (s.regionOn .nvm = true) ∧ (s.dueEvent b key cls md at_ = some e) :=
  ⟨2, {}, 0, 0, 5, { bit := 2, at_ := 5 }, { wSdo .active with log := { events := [{ bit := 2, at_ := 5 }] } }, by decide +kernel⟩

theorem test_w_triggerNow : ∃ (ch : Chan) (s : State), (Safety.writable s ch 0x4703 8 [1] = true) ∧ (s.trigEnabled 4 0 0 = true) :=
  ⟨.sdo 0 1, { wSdo .active with cfg := [(objKey 0x4703 1, [16])] }, by decide +kernel⟩

theorem test_w_windowLastFrame : ∃ (w : Nat) (s : State), ((nth s.log.windows w {}).state = .collecting) ∧ ((nth s.log.windows w {}).trigFrame + (nth s.log.windows w {}).post < s.log.frames) ∧ (w < s.log.windows.length) :=
  ⟨0, { wMode .active with log := { frames := 1, windows := [{ state := .collecting }] } }, by decide +kernel⟩

theorem test_w_windowCommit : ∃ (p : Promotion) (s : State), ((nth s.log.windows p.window {}).state = .promoting) ∧ (s.recordDue = false) ∧ ((s.part == .fyx9462 || s.dramUp) = true) ∧ (s.windowLost (nth s.log.windows p.window {}) = false) :=
  ⟨{}, { wDram with log := { windows := [{ state := .promoting }] } }, by decide +kernel⟩

theorem test_w_windowCommit_recordFirst : ∃ (p : Promotion) (s : State), ((nth s.log.windows p.window {}).state = .promoting) ∧ (s.recordDue = true) :=
  ⟨{}, { wMode .active with log := { waiting := [{ recType := 3 }], windows := [{ state := .promoting }] } }, by decide +kernel⟩

theorem test_w_windowCommit_summary : ∃ (p : Promotion) (s : State), (s.part = .fyx9462) ∧ ((nth s.log.windows p.window {}).state = .promoting) ∧ (s.recordDue = false) ∧ (s.windowLost (nth s.log.windows p.window {}) = false) ∧ (p.window < s.log.windows.length) :=
  ⟨{}, { wMode .active with part := .fyx9462, log := { windows := [{ state := .promoting }] } }, by decide +kernel⟩

theorem test_w_windowAbandon : ∃ (w : Nat) (s : State), ((nth s.log.windows w {}).busy = true) ∧ ((nth s.log.windows w {}).trigFrame - (nth s.log.windows w {}).pre + s.ringFrames < s.log.frames) ∧ (w < s.log.windows.length) :=
  ⟨0, { wMode .active with log := { frames := 2 ^ 40, windows := [{ state := .collecting }] } }, by decide +kernel⟩

theorem test_w_windowRelease : ∃ (ch : Chan) (w : Nat) (v : Nat) (s : State), (Safety.writable s ch (0x4710 + w) 4 (leBytes 1 v) = true) ∧ ((nth s.log.windows w {}).state = .frozen) ∧ (w < s.log.windows.length) :=
  ⟨.sdo 0 1, 0, 1, { wSdo .active with log := { windows := [{ state := .frozen }] } }, by decide +kernel⟩


/-- SHA-256 of "abc", the example of FIPS 180-4: its first bytes. -/
theorem test_sha256 : (sha256 [0x61, 0x62, 0x63]).take 4 = [0xBA, 0x78, 0x16, 0xBF] := by decide +kernel
/-- A message of two blocks, the second example there. -/
theorem test_sha256_two : (sha256 [0x61, 0x62, 0x63, 0x64, 0x62, 0x63, 0x64, 0x65, 0x63, 0x64, 0x65, 0x66, 0x64, 0x65, 0x66, 0x67, 0x65, 0x66, 0x67, 0x68, 0x66, 0x67,
    0x68, 0x69, 0x67, 0x68, 0x69, 0x6A, 0x68, 0x69, 0x6A, 0x6B, 0x69, 0x6A, 0x6B, 0x6C, 0x6A, 0x6B, 0x6C, 0x6D, 0x6B, 0x6C, 0x6D, 0x6E, 0x6C, 0x6D, 0x6E, 0x6F,
    0x6D, 0x6E, 0x6F, 0x70, 0x6E, 0x6F, 0x70, 0x71]).take 4 = [0x24, 0x8D, 0x6A, 0x61] := by decide +kernel

/-- The bytes of an image of a kind: a section of type 5 that holds an empty variant (R118), one of type 2 of 64 absent loops (R478), others empty. -/
def wData (kind n ty : Nat) : List Byte :=
  let table := leBytes 4 0x01000040 ++ leBytes 4 1
  let loops := List.replicate (if kind = 1 then 0 else 6144) 0
  let at_ := 64 + 16 * n
  let entry := fun i =>
    if ty + i = 5 then leBytes 4 at_ ++ leBytes 4 8 ++ leBytes 4 (crc32 table).toNat
    else if ty + i = 2 then leBytes 4 (at_ + 8) ++ leBytes 4 6144 ++ leBytes 4 (crc32 loops).toNat else List.replicate 12 0
  leBytes 4 0x49585946 ++ leBytes 2 1 ++ leBytes 1 kind ++ List.replicate 9 0 ++ leBytes 2 7 ++ leBytes 2 n ++ leBytes 4 (136 + 16 * n + loops.length) ++ List.replicate 40 0
    ++ ((List.range n).map fun i => leBytes 2 (ty + i) ++ leBytes 2 0 ++ entry i).flatten ++ table ++ loops ++ List.replicate 64 0

/-- An image that passes the image check: one empty variant, ascending temperature bands. -/
def wImage : Image :=
  { bank := { variants := [{ latency := 64, frameLen := 1 }], tables := [[0x01000040, 1]] }
    values := [0x41200000, 0x41A00000, 0x41F00000, 0x42200000, 0x42480000, 0x42700000, 0x428C0000].zipIdx.map fun x => (objKey 0x4204 (1 + x.2), leBytes 4 x.1) }

/-- Port 3 is up and berth 63 used, this side being shelf host in ACTIVE; every port and every berth alike. -/
def wTw (m : Mode) (v : Berth) (p : Port) : State :=
  { wSdo m with berths := List.replicate 64 v, ports := List.replicate 4 p
                cfg := [(objKey 0x4803 2, [1]), (objKey 0x4803 5, [1]), (objKey 0x4803 6, [0x40]), (objKey 0x4803 7, [1]), (objKey 0x493F 2, [1]), (objKey 0x493F 4, [0]),
                        (objKey 0x493F 5, [1]), (objKey 0x493F 6, [10, 0]), (objKey 0x493F 7, [3])] }

/-- The run of berth 63 stands at a word of script 0. -/
def wRun (w : Nat) (v : Berth) : State :=
  { wTw .active v { run := some { berth := 63 }, work := .run } with img := { cfg := [{ valid := true, content := { values := [(objKey 0x4820 1, leBytes 4 w)] } }, {}], imgRun := some 0 } }

theorem test_w_twScan : ∃ (p : Nat) (found : List Arrival) (s : State), (s.scanDue p = true) ∧ (s.serviceTurn p = true) :=
  ⟨3, [], wTw .active {} {}, by decide +kernel⟩

theorem test_w_berthPresenceLow : ∃ (b : Nat) (s : State), (s.part.has .berth b = true) ∧ (s.berthN b 7 ≠ 0xFF) ∧ (b < s.berths.length) ∧ (b / 16 < s.ports.length) :=
  ⟨63, wTw .active {} {}, by decide +kernel⟩

theorem test_w_berthPresenceHigh_1 : ∃ (b : Nat) (s : State), (s.part.has .berth b = true) ∧ (s.berthN b 7 ≠ 0xFF) ∧ (b < s.berths.length) ∧ ((s.berth b).present = true) :=
  ⟨63, wTw .active { present := true } {}, by decide +kernel⟩

theorem test_w_berthPresenceHigh_2 : ∃ (b : Nat) (s : State), (s.part.has .berth b = true) ∧ (s.berthN b 7 ≠ 0xFF) ∧ (b < s.berths.length) ∧ ((s.berth b).present = false) :=
  ⟨63, wTw .active {} {}, by decide +kernel⟩

theorem test_w_berthDisable : ∃ (ch : Chan) (b : Nat) (s : State), (Safety.writable s ch (0x4900 + b) 5 [0] = true) ∧ (b < s.berths.length) ∧ ((s.berth b).present = true) :=
  ⟨.sdo 0 1, 63, wTw .service { present := true } {}, by decide +kernel⟩

theorem test_w_alertResponseRead : ∃ (p : Nat) (addr : Nat) (s : State), (s.portUp p = true) ∧ (s.shelfHost = true) ∧ (s.alertDue p = true) ∧ (s.serviceTurn p = true) ∧ (p < s.ports.length) :=
  ⟨3, 0, wTw .active {} {}, by decide +kernel⟩

theorem test_w_twTransactionBoundary_1 : ∃ (p : Nat) (c : PCmd) (s : State), (s.portUp p = true) ∧ (s.urgent p = some c) ∧ (p < s.ports.length) :=
  ⟨3, { berth := 63 }, wTw .active {} { cmds := [{ berth := 63 }] }, by decide +kernel⟩

theorem test_w_twTransactionBoundary_2 : ∃ (p : Nat) (b : Nat) (s : State), (s.portUp p = true) ∧ (s.urgent p = none) ∧ ((s.port p).run = none) ∧ ((s.port p).discovering = false) ∧ (s.serviceDue p = false) ∧ (s.nextBerth p = some b) ∧ (p < s.ports.length) ∧ (b < s.berths.length) :=
  ⟨3, 63, { wTw .active {} { nextScan := 1 } with berths := List.replicate 63 {} ++ [{ present := true, due := true }] }, by decide +kernel⟩

theorem test_w_twTransactionBoundary_3 : ∃ (p : Nat) (s : State), (s.portUp p = true) ∧ (s.urgent p = none) ∧ ((s.port p).run = none) ∧ ((s.port p).discovering = false) ∧ (s.serviceDue p = true) ∧ (p < s.ports.length) :=
  ⟨3, wTw .active {} {}, by decide +kernel⟩

theorem test_w_twArbitrationLost_1 : ∃ (p : Nat) (s : State), (s.portHosts p = true) ∧ (p < s.ports.length) ∧ ((s.port p).losses < 3) :=
  ⟨3, wTw .active {} { losses := 2 }, by decide +kernel⟩

theorem test_w_twArbitrationLost_2 : ∃ (p : Nat) (s : State), (s.portHosts p = true) ∧ (p < s.ports.length) ∧ (3 ≤ (s.port p).losses) :=
  ⟨3, wTw .active {} { losses := 3 }, by decide +kernel⟩

theorem test_w_twSclTimeout : ∃ (p : Nat) (r : Run) (s : State), (s.portHosts p = true) ∧ (p < s.ports.length) ∧ ((s.port p).run = some r) ∧ (r.berth < s.berths.length) ∧ (r.last = false) ∧ (s.inHand p = .run) :=
  ⟨3, { berth := 63 }, wTw .active {} { run := some { berth := 63 }, work := .run }, by decide +kernel⟩

theorem test_w_twBusRecovery_1 : ∃ (p : Nat) (s : State), (s.portUp p = true) ∧ (s.shelfHost = true) ∧ (p < s.ports.length) :=
  ⟨3, wTw .active {} {}, by decide +kernel⟩

theorem test_w_twBusRecovery_2 : ∃ (p : Nat) (s : State), (s.portUp p = true) ∧ (s.shelfHost = true) ∧ (p < s.ports.length) :=
  ⟨3, wTw .active {} {}, by decide +kernel⟩

theorem test_w_pollRunDue_1 : ∃ (b : Nat) (s : State), ((s.berth b).present = true) ∧ (s.berthUsed b = true) ∧ (s.berthN b 6 ≠ 0) ∧ (s.hosts b = true) ∧ ((s.berth b).dueAt ≤ s.now) ∧ (b < s.berths.length) ∧ ((s.berth b).due = false) :=
  ⟨63, wTw .active { present := true } {}, by decide +kernel⟩

theorem test_w_pollRunDue_2 : ∃ (b : Nat) (s : State), ((s.berth b).present = true) ∧ (s.berthUsed b = true) ∧ (s.berthN b 6 ≠ 0) ∧ (s.hosts b = true) ∧ ((s.berth b).dueAt ≤ s.now) ∧ (b < s.berths.length) ∧ (b / 16 < s.ports.length) ∧ ((s.berth b).due = true) :=
  ⟨63, wTw .active { present := true, due := true } {}, by decide +kernel⟩

theorem test_w_partnerCommandSend_1 : ∃ (p : Nat) (c : PCmd) (v : BitVec 16) (s : State), (s.portUp p = true) ∧ (s.picked p = some c) ∧ ((s.berth c.berth).page = some 0) ∧ (s.mode.leaving = none) ∧ (p < s.ports.length) ∧ (c.berth < s.berths.length) :=
  ⟨3, { berth := 63 }, 0, wTw .active { page := some 0 } { cmds := [{ berth := 63 }] }, by decide +kernel⟩

theorem test_w_partnerCommandSend_2 : ∃ (p : Nat) (c : PCmd) (pecOk : Bool) (v : BitVec 16) (s : State), (s.portUp p = true) ∧ (s.picked p = some c) ∧ (s.mode.leaving = none) ∧ (p < s.ports.length) ∧ (c.fails < 3) :=
  ⟨3, { berth := 63, fails := 2 }, true, 0, wTw .active {} { cmds := [{ berth := 63, fails := 2 }] }, by decide +kernel⟩

theorem test_w_partnerCommandSend_3 : ∃ (p : Nat) (c : PCmd) (pecOk : Bool) (v : BitVec 16) (s : State), (s.portUp p = true) ∧ (s.picked p = some c) ∧ (s.mode.leaving = none) ∧ (p < s.ports.length) ∧ (c.berth < s.berths.length) ∧ (3 ≤ c.fails) :=
  ⟨3, { berth := 63, fails := 3 }, true, 0, wTw .active {} { cmds := [{ berth := 63, fails := 3 }] }, by decide +kernel⟩

theorem test_w_partnerCommandSend_leaves : ∃ (p : Nat) (c : PCmd) (v : BitVec 16) (train : Nat) (s : State), (s.portUp p = true) ∧ (s.picked p = some c) ∧ ((s.berth c.berth).page = some 0) ∧ (s.mode.leaving = some train) ∧ ((s.cmdDone p c v.toNat).marginsOut = true) :=
  ⟨3, { berth := 63 }, 0, 1, { wTw .active { page := some 0 } { cmds := [{ berth := 63 }] } with mode := { (wMode .active).mode with leaving := some 1 } }, by decide +kernel⟩

theorem test_w_partnerCommandSend_page : ∃ (p : Nat) (c : PCmd) (pecOk : Bool) (v : BitVec 16) (s : State), (s.portUp p = true) ∧ (s.picked p = some c) ∧ ((s.berth c.berth).page ≠ some 0) ∧ (s.mode.leaving = none) ∧ (p < s.ports.length) ∧ (c.berth < s.berths.length) :=
  ⟨3, { berth := 63 }, true, 0, wTw .active {} { cmds := [{ berth := 63 }] }, by decide +kernel⟩

theorem test_w_hostCommand : ∃ (ch : Chan) (b : Nat) (w : BitVec 32) (s : State), (Safety.writable s ch (0x4900 + b) 0x25 (leBytes 4 w.toNat) = true) ∧ (s.hostCmdStatus b w.toNat = 0) ∧ (b < s.berths.length) ∧ (b / 16 < s.ports.length) :=
  ⟨.sdo 0 1, 63, 0x0003, wTw .active { present := true } {}, by decide +kernel⟩

theorem test_w_hostNotifyReceived_1 : ∃ (p : Nat) (addr : Nat) (data : Nat) (s : State), (s.targetUp p = true) ∧ ((s.port p).nackNext = false) ∧ (s.portN p 7 = 1) ∧ (p < s.ports.length) ∧ ((s.port p).notifyQueue.length < 8) :=
  ⟨3, 0, 0, wTw .active {} { notifyQueue := List.replicate 7 0 }, by decide +kernel⟩

theorem test_w_hostNotifyReceived_2 : ∃ (p : Nat) (addr : Nat) (data : Nat) (s : State), (s.targetUp p = true) ∧ ((s.port p).nackNext = false) ∧ (s.portN p 7 = 1) ∧ (p < s.ports.length) ∧ (8 ≤ (s.port p).notifyQueue.length) ∧ (s.portN p 5 = 1) :=
  ⟨3, 0, 0, wTw .active {} { notifyQueue := List.replicate 8 0 }, by decide +kernel⟩

theorem test_w_hostNotifyReceived_3 : ∃ (p : Nat) (addr : Nat) (data : Nat) (s : State), ((s.port p).nackNext = true) ∧ (p < s.ports.length) :=
  ⟨3, 0, 0, wTw .active {} { nackNext := true }, by decide +kernel⟩

theorem test_w_mailboxBlockWrite_1 : ∃ (p : Nat) (cmd : Nat) (data : List (BitVec 8)) (s : State), (s.targetUp p = true) ∧ ((s.port p).nackNext = false) ∧ (s.portN p 6 ≠ 0xFF) ∧ (p < s.ports.length) ∧ ((s.port p).mailboxBusy = false) ∧ (1 ≤ data.length ∧ data.length ≤ 32) :=
  ⟨3, 0, List.replicate 32 0, wTw .active {} {}, by decide +kernel⟩

theorem test_w_mailboxBlockWrite_2 : ∃ (p : Nat) (cmd : Nat) (data : List (BitVec 8)) (s : State), (s.targetUp p = true) ∧ ((s.port p).nackNext = false) ∧ (s.portN p 6 ≠ 0xFF) ∧ ((s.port p).mailboxBusy = false) :=
  ⟨3, 0, [], wTw .active {} {}, by decide +kernel⟩

theorem test_w_mailboxBlockWrite_3 : ∃ (p : Nat) (cmd : Nat) (data : List (BitVec 8)) (pecOk : Bool) (s : State), (s.targetUp p = true) ∧ ((s.port p).nackNext = false) ∧ (s.portN p 6 ≠ 0xFF) ∧ (p < s.ports.length) ∧ ((s.port p).mailboxBusy = true) ∧ (s.portN p 5 ≠ 1) :=
  ⟨3, 0, [], true, { wTw .active {} { mailboxBusy := true } with cfg := [(objKey 0x4803 2, [1]), (objKey 0x4803 5, [0]), (objKey 0x4803 6, [0x40])] }, by decide +kernel⟩

theorem test_w_mailboxBlockRead : ∃ (p : Nat) (s : State), (s.targetUp p = true) ∧ ((s.port p).nackNext = false) ∧ (s.portN p 6 ≠ 0xFF) ∧ (p < s.ports.length) ∧ ((s.port p).mailboxBusy = false) :=
  ⟨3, wTw .active {} {}, by decide +kernel⟩

theorem test_w_mailboxBlockTaken : ∃ (p : Nat) (s : State), (s.regionOn .sup = true) ∧ (s.targetUp p = true) ∧ (p < s.ports.length) ∧ ((s.port p).mailboxBusy = true) ∧ ((s.port p).held = none) :=
  ⟨3, wTw .active {} { mailboxBusy := true }, by decide +kernel⟩

theorem test_w_mailboxBlockTaken_held : ∃ (p : Nat) (cmd : Nat) (data : List (BitVec 8)) (s : State), (s.regionOn .sup = true) ∧ (s.targetUp p = true) ∧ (p < s.ports.length) ∧ ((s.port p).mailboxBusy = true) ∧ ((s.port p).held = some (.write cmd data true)) ∧ (1 ≤ data.length ∧ data.length ≤ 32) :=
  ⟨3, 0, [0], wTw .active {} { mailboxBusy := true, held := some (.write 0 [0] true) }, by decide +kernel⟩

theorem test_w_listenedTransaction_1 : ∃ (p : Nat) (hi : Nat) (lo : Nat) (addr : Nat) (b : Nat) (s : State), (s.portUp p = true) ∧ (s.shelfHost = false) ∧ (s.holderOf p { port := p, arp := true, addr := addr, udidHigh := hi, udidLow := lo } = none) ∧ (((List.range 16).map (16 * p + ·)).find? (fun n => s.assignable n && s.berthN n 0x0A == addr) = some b) ∧ (b < s.berths.length) :=
  ⟨3, 5, 6, 0x20, 63, { wTw .track {} {} with pair := {}, cfg := [(objKey 0x4803 2, [1]), (objKey 0x493F 2, [2]), (objKey 0x493F 5, [1]), (objKey 0x493F 0x0A, [0x20])] }, by decide +kernel⟩

theorem test_w_listenedTransaction_2 : ∃ (p : Nat) (b : Nat) (data : List (BitVec 8)) (s : State), (s.portUp p = true) ∧ (s.shelfHost = false) ∧ (b / 16 = p) ∧ (s.berthUsed b = true) ∧ (s.hosts b = false) ∧ (b < s.berths.length) ∧ ((s.berth b).present = false) ∧ ((s.berth b).arriving = false) ∧ (s.berthN b 2 = 1) :=
  ⟨3, 63, [], { wTw .track {} {} with pair := {} }, by decide +kernel⟩

theorem test_w_listenedTransaction_3 : ∃ (p : Nat) (b : Nat) (cmd : Nat) (write : Bool) (data : List (BitVec 8)) (s : State), (s.portUp p = true) ∧ (s.shelfHost = false) ∧ (b / 16 = p) ∧ (s.berthUsed b = true) ∧ (s.hosts b = false) ∧ ((s.berth b).present = true) ∧ ((s.berth b).arriving = false) :=
  ⟨3, 63, 0x78, false, [], { wTw .track { present := true } {} with pair := {} }, by decide +kernel⟩

theorem test_w_scriptEnd : ∃ (p : Nat) (r : Run) (w : Nat) (s : State), (s.runAt p 0 = some (r, w)) ∧ (p < s.ports.length) ∧ (r.berth < s.berths.length) :=
  ⟨3, { berth := 63 }, 0, wRun 0 {}, by decide +kernel⟩

theorem test_w_scriptPage_1 : ∃ (p : Nat) (ack : Bool) (r : Run) (w : Nat) (s : State), (s.runAt p 1 = some (r, w)) ∧ (p < s.ports.length) ∧ ((s.berth r.berth).page = some (bits w 0 8)) :=
  ⟨3, true, { berth := 63 }, 0x10000005, wRun 0x10000005 { page := some 5 }, by decide +kernel⟩

theorem test_w_scriptPage_2 : ∃ (p : Nat) (r : Run) (w : Nat) (s : State), (s.runAt p 1 = some (r, w)) ∧ (p < s.ports.length) ∧ (r.berth < s.berths.length) ∧ ((s.berth r.berth).page ≠ some (bits w 0 8)) :=
  ⟨3, { berth := 63 }, 0x10000005, wRun 0x10000005 {}, by decide +kernel⟩

theorem test_w_scriptRdb : ∃ (p : Nat) (v : BitVec 8) (r : Run) (w : Nat) (s : State), (s.runAt p 2 = some (r, w)) ∧ (p < s.ports.length) :=
  ⟨3, 7, { berth := 63 }, 0x20000000, wRun 0x20000000 {}, by decide +kernel⟩

theorem test_w_scriptRdw_1 : ∃ (p : Nat) (v : BitVec 16) (r : Run) (w : Nat) (s : State), (s.runAt p 3 = some (r, w)) ∧ (p < s.ports.length) :=
  ⟨3, 7, { berth := 63 }, 0x30000000, wRun 0x30000000 {}, by decide +kernel⟩

theorem test_w_scriptRdw_2 : ∃ (p : Nat) (v : BitVec 16) (r : Run) (w : Nat) (s : State), (s.runAt p 3 = some (r, w)) ∧ (p < s.ports.length) ∧ (r.last = false) ∧ (r.berth < s.berths.length) ∧ ((s.berth r.berth).pec = true) :=
  ⟨3, 7, { berth := 63 }, 0x30000000, wRun 0x30000000 { pec := true }, by decide +kernel⟩

theorem test_w_scriptRdk_1 : ∃ (p : Nat) (data : List (BitVec 8)) (r : Run) (w : Nat) (s : State), (s.runAt p 4 = some (r, w)) ∧ (p < s.ports.length) ∧ (data.length ≤ bits w 0 6) :=
  ⟨3, [0, 1], { berth := 63 }, 0x40000002, wRun 0x40000002 {}, by decide +kernel⟩

theorem test_w_scriptRdk_2 : ∃ (p : Nat) (pecOk : Bool) (data : List (BitVec 8)) (r : Run) (w : Nat) (s : State), (s.runAt p 4 = some (r, w)) ∧ (p < s.ports.length) ∧ (r.last = false) ∧ (bits w 0 6 < data.length) :=
  ⟨3, true, [0, 1, 2], { berth := 63 }, 0x40000002, wRun 0x40000002 {}, by decide +kernel⟩

theorem test_w_scriptWrb : ∃ (p : Nat) (r : Run) (w : Nat) (s : State), (s.runAt p 5 = some (r, w)) ∧ (p < s.ports.length) :=
  ⟨3, { berth := 63 }, 0x50000000, wRun 0x50000000 {}, by decide +kernel⟩

theorem test_w_scriptWrw : ∃ (p : Nat) (r : Run) (w : Nat) (s : State), (s.runAt p 6 = some (r, w)) ∧ (p < s.ports.length) :=
  ⟨3, { berth := 63 }, 0x60000000, wRun 0x60000000 {}, by decide +kernel⟩

theorem test_w_scriptSnd_1 : ∃ (p : Nat) (r : Run) (w : Nat) (s : State), (s.runAt p 7 = some (r, w)) ∧ (p < s.ports.length) :=
  ⟨3, { berth := 63 }, 0x70000000, wRun 0x70000000 {}, by decide +kernel⟩

theorem test_w_scriptSnd_2 : ∃ (p : Nat) (r : Run) (w : Nat) (s : State), (s.runAt p 7 = some (r, w)) ∧ (p < s.ports.length) ∧ (r.last = false) ∧ (r.berth < s.berths.length) :=
  ⟨3, { berth := 63 }, 0x70000000, wRun 0x70000000 {}, by decide +kernel⟩

theorem test_w_scriptCnv_1 : ∃ (p : Nat) (f : F32) (r : Run) (w : Nat) (s : State), (s.runAt p 8 = some (r, w)) ∧ (p < s.ports.length) ∧ (({ s with draws := s.draws + 1 } : State).convert r.berth (bits w 8 4) (nth r.vals.w (bits w 24 3) 0) = some f) :=
  ⟨3, _, { berth := 63 }, 0x80000000, wRun 0x80000000 {}, by decide +kernel, by decide +kernel, rfl⟩

theorem test_w_scriptCnv_2 : ∃ (p : Nat) (r : Run) (w : Nat) (s : State), (s.runAt p 8 = some (r, w)) ∧ (p < s.ports.length) ∧ (r.last = false) ∧ (({ s with draws := s.draws + 1 } : State).convert r.berth (bits w 8 4) (nth r.vals.w (bits w 24 3) 0) = none) :=
  ⟨3, { berth := 63 }, 0x80000500, wRun 0x80000500 {}, by decide +kernel⟩

theorem test_w_scriptTst : ∃ (p : Nat) (r : Run) (w : Nat) (s : State), (s.runAt p 9 = some (r, w)) ∧ (p < s.ports.length) :=
  ⟨3, { berth := 63 }, 0x90000000, wRun 0x90000000 {}, by decide +kernel⟩

theorem test_w_scriptRep : ∃ (p : Nat) (r : Run) (w : Nat) (s : State), (s.runAt p 0xA = some (r, w)) ∧ (p < s.ports.length) :=
  ⟨3, { berth := 63 }, 0xa0000000, wRun 0xa0000000 {}, by decide +kernel⟩

theorem test_w_scriptWait : ∃ (p : Nat) (r : Run) (w : Nat) (s : State), (s.runAt p 0xB = some (r, w)) ∧ (p < s.ports.length) :=
  ⟨3, { berth := 63 }, 0xb0000000, wRun 0xb0000000 {}, by decide +kernel⟩

theorem test_w_scriptXtr : ∃ (p : Nat) (r : Run) (w : Nat) (s : State), (s.runAt p 0xC = some (r, w)) ∧ (p < s.ports.length) :=
  ⟨3, { berth := 63 }, 0xc0000000, wRun 0xc0000000 {}, by decide +kernel⟩

theorem test_w_updateTransferComplete : ∃ (s : State), (s.img.updState = 1) ∧ (s.img.updData.length = s.img.updSize) ∧ (s.imageTransfer = false) :=
  ⟨{ wSdo .active with img := { updState := 1, updSize := 2, updData := [0, 1] } }, by decide +kernel⟩

theorem test_w_updateChecksDone_1 : ∃ (bad : List Nat) (corrected : Nat) (content : Image) (train : Nat) (s : State), (s.img.updState = 2) ∧ (bad.filter (fun a => decide (a < s.img.updData.length)) = []) ∧ (s.updReason content ≠ 0) :=
  ⟨[], 0, {}, 0, { wSdo .active with img := { updState := 2, updData := [0] } }, by decide +kernel⟩

/-- A configuration image received whole waits for its checks. -/
def wUpd : State := { wSdo .active with img := { updState := 2, target := 2, updSlot := 1, updData := wData 2 15 1 } }
/-- The state on which its image is judged. -/
def wUnder : State := wUpd.underImage wImage

/-! `wImage` passes the image check, part by part: the whole at once is a long evaluation. -/
theorem test_wImage_values : wImage.values.all wUnder.valueOk = true := by decide +kernel
theorem test_wImage_valuesB : wImage.valuesB.all wUnder.valueOk = true := by decide +kernel
theorem test_wImage_inputs : (List.range 48).all wUnder.inputOk = true := by decide +kernel
theorem test_wImage_schedule : wUnder.scheduleOk wImage.bank = true := by decide +kernel
theorem test_wImage_stages : (List.range 8).all (wUnder.stageImageOk ((wImage.bank.variants.head?).getD {})) = true := by decide +kernel
theorem test_wImage_bindings : wUnder.pgBindingsOk wImage.bank = true := by decide +kernel
theorem test_wImage_feeds : wUnder.feedImageOk 0 = true ∧ wUnder.feedImageOk 1 = true := by decide +kernel
theorem test_wImage_strings : (List.range 8).all wUnder.stringImageOk = true := by decide +kernel
theorem test_wImage_bidir : wUnder.bidirNamed = true := by decide +kernel
theorem test_wImage_rails : wUnder.railsImageOk = true := by decide +kernel
theorem test_wImage_bands : wUnder.bandsOk = true ∧ wUnder.stepsOk wImage.bank = true := by decide +kernel
theorem test_wImage_severity : wImage.severity.all wUnder.sevImageOk = true := by decide +kernel
theorem test_wImage_railRefs : (List.range 32).all wUnder.railRefOk = true := by decide +kernel
theorem test_wImage_scripts : (List.range 16).all (fun k => scriptOk (wUnder.script k)) = true := by decide +kernel
theorem test_wImage_port0 : wUnder.portImageOk 0 = true := by decide +kernel
theorem test_wImage_port1 : wUnder.portImageOk 1 = true := by decide +kernel
theorem test_wImage_port2 : wUnder.portImageOk 2 = true := by decide +kernel
theorem test_wImage_port3 : wUnder.portImageOk 3 = true := by decide +kernel
theorem test_wImage_pins : wUnder.presencePinsOk = true := by decide +kernel
theorem test_wImage_wakes : wUnder.wakesOk wImage = true := by decide +kernel
theorem test_wImage_dram : (!wUpd.part.has .ddr 0 || wImage.dram.ok (wUnder.objN 0x4600 3 == 1)) = true := by decide +kernel

theorem test_wImage_ports : (List.range 4).all wUnder.portImageOk = true := by
  rw [List.all_eq_true]
  intro p hp
  obtain rfl | rfl | rfl | rfl : p = 0 ∨ p = 1 ∨ p = 2 ∨ p = 3 := by have := List.mem_range.mp hp; omega
  · exact test_wImage_port0
  · exact test_wImage_port1
  · exact test_wImage_port2
  · exact test_wImage_port3

theorem test_wImage_ok : wUpd.imageOk wImage = true := by
  have hu : wUpd.underImage wImage = wUnder := rfl
  unfold State.imageOk
  simp only [Bool.and_eq_true, hu]
  exact ⟨⟨⟨⟨⟨⟨⟨⟨⟨⟨⟨⟨⟨⟨⟨⟨⟨⟨⟨test_wImage_values, test_wImage_valuesB⟩, test_wImage_inputs⟩, test_wImage_schedule⟩, test_wImage_stages⟩, test_wImage_bindings⟩,
    test_wImage_feeds.1⟩, test_wImage_feeds.2⟩, test_wImage_strings⟩, test_wImage_bidir⟩, test_wImage_rails⟩, test_wImage_bands.1⟩, test_wImage_bands.2⟩,
    test_wImage_severity⟩, test_wImage_railRefs⟩, test_wImage_scripts⟩, test_wImage_ports⟩, test_wImage_pins⟩, test_wImage_wakes⟩, test_wImage_dram⟩

/-- Its parts that the other checks read (R477): header, variant, version, interface, loop section, and what its sections give. -/
theorem test_wUpd_checks : headOk wUpd.img.updData 2 = true ∧ bit (headerOf wUpd.img.updData).variants wUpd.part.idx = true
    ∧ ¬ (headerOf wUpd.img.updData).security < wUpd.img.imgMin ∧ ifaceFits (wUpd.img.slot 1 wUpd.img.fwNext).header (headerOf wUpd.img.updData) = true := by
  decide +kernel
theorem test_wUpd_sections : loopSectionOk wUpd.img.updData = true ∧ readImage wUpd.img.updData wImage = wImage := by decide +kernel

/-- A firmware image received whole waits for its checks. -/
def wFw : State := { wSdo .active with img := { updState := 2, target := 1, updSlot := 1, updData := wData 1 1 0x100 } }

/-- It is refused by no check but that of its signature, which only the key holder can make pass. -/
theorem test_wFw_reason : wFw.updReason {} = if wFw.img.signatureOk 1 wFw.img.updData then 0 else 4 := by
  have h1 : headOk wFw.img.updData wFw.img.target = true := by decide +kernel
  have h2 : layoutOk wFw.img.updData wFw.img.target = true := by decide +kernel
  have h3 : bit (headerOf wFw.img.updData).variants wFw.part.idx = true := by decide +kernel
  have h4 : ¬ (headerOf wFw.img.updData).security < (if wFw.img.target = 1 then wFw.img.fwMin else wFw.img.imgMin) := by decide +kernel
  have ht : wFw.img.target = 1 := rfl
  unfold State.updReason
  simp only [h1, h2, h3, h4]
  cases h : wFw.img.signatureOk 1 wFw.img.updData <;> simp [ht, h]

theorem test_w_updateChecksDone_2 : ∃ (bad : List Nat) (corrected : Nat) (content : Image) (train : Nat) (s : State), (s.img.updState = 2) ∧ (bad.filter (fun a => decide (a < s.img.updData.length)) = []) ∧ (s.inMode .pilot = false) ∧ (s.img.updByTwin = false) ∧ (s.img.target = 1) ∧ (s.img.updSlot < s.img.fw.length) :=
  ⟨[], 0, {}, 1, wFw, by decide +kernel⟩

theorem test_w_updateChecksDone_3 : ∃ (bad : List Nat) (corrected : Nat) (content : Image) (train : Nat) (s : State), (s.img.updState = 2) ∧ (bad.filter (fun a => decide (a < s.img.updData.length)) = []) ∧ (s.inMode .pilot = false) ∧ (s.img.updByTwin = false) ∧ (s.img.target = 2) ∧ (s.img.updSlot < s.img.cfg.length) :=
  ⟨[], 0, wImage, 1, wUpd, by decide +kernel⟩

theorem test_w_updateChecksDone_4 : ∃ (bad : List Nat) (corrected : Nat) (content : Image) (train : Nat) (s : State), (s.img.updState = 2) ∧ (bad.filter (fun a => decide (a < s.img.updData.length)) = []) ∧ (s.inMode .pilot = true) ∧ (s.img.updByTwin = false) :=
  ⟨[], 0, {}, 1, { wSdo .pilot with img := { updState := 2, target := 2, updSlot := 1, updData := wData 2 15 1, fw := [{ valid := true }, {}] } }, by decide +kernel⟩

theorem test_w_updateChecksDone_unreadable : ∃ (bad : List Nat) (corrected : Nat) (content : Image) (train : Nat) (s : State), (s.img.updState = 2) ∧ (bad.filter (fun a => decide (a < s.img.updData.length)) ≠ []) :=
  ⟨[0], 0, {}, 0, { wSdo .active with img := { updState := 2, updData := [0] } }, by decide +kernel⟩

theorem test_w_updateAbort_1 : ∃ (ch : Chan) (v : Nat) (s : State), (Safety.writable s ch 0x2401 3 (leBytes 1 v) = true) ∧ (s.img.updState = 1 ∨ s.img.updState = 2) :=
  ⟨.sdo 0 1, 2, { wSdo .active with img := { updState := 2 } }, by decide +kernel⟩

theorem test_w_updateAbort_2 : ∃ (ch : Chan) (v : Nat) (s : State), (Safety.writable s ch 0x2401 3 (leBytes 1 v) = true) ∧ (s.img.updState = 3) :=
  ⟨.sdo 0 1, 2, { wSdo .active with img := { updState := 3 } }, by decide +kernel⟩

theorem test_w_imageTransferReceived : ∃ (hd : FrameHead) (crcOk : Bool) (kind : Nat) (offset : Nat) (data : List (BitVec 8)) (s : State), (s.pairUp = true) ∧ ((s.frameIn 5 0x41 hd crcOk).2 = true) ∧ (hd.last = false) ∧ (s.inMode .track = true) :=
  ⟨{ type := 0x41, last := false }, true, 1, 0, [0], wSdo .track, by decide +kernel⟩

theorem test_w_pairUpdateStart_1 : ∃ (ch : Chan) (s : State), (Safety.writable s ch 0x2402 5 [1] = true) ∧ (s.pairUpdateStatus = 0) ∧ (s.img.pairState ≠ 8) :=
  ⟨.sdo 0 1, { wSdo .active with spm := { supply := .source }, pair := { owns := true, twinSeen := true, twin := { mode := Mode.track.code, trackReady := true, eligible := true, locked := true } }, img := { fw := [{}, { valid := true }], fwRun := some 0, fwNext := 1 } }, by decide +kernel⟩

theorem test_w_pairUpdateStart_2 : ∃ (ch : Chan) (s : State), (Safety.writable s ch 0x2402 5 [1] = true) ∧ (s.pairUpdateStatus = 0) ∧ (s.img.pairState = 8) :=
  ⟨.sdo 0 1, { wSdo .active with spm := { supply := .source }, pair := { owns := true, twinSeen := true, twin := { mode := Mode.track.code, trackReady := true, eligible := true, locked := true } }, img := { pairState := 8 } }, by decide +kernel⟩

theorem test_w_pairUpdateAbort_1 : ∃ (ch : Chan) (s : State), (Safety.writable s ch 0x2402 5 [2] = true) ∧ (1 ≤ s.img.pairState ∧ s.img.pairState ≤ 4) ∧ ((s.img.pairState = 4 → s.pair.owns = true)) :=
  ⟨.sdo 0 1, { wSdo .active with img := { pairState := 4 } }, by decide +kernel⟩

theorem test_w_pairUpdateAbort_2 : ∃ (ch : Chan) (s : State), (Safety.writable s ch 0x2402 5 [2] = true) ∧ (s.img.pairState = 5 ∨ s.img.pairState = 6 ∨ (s.img.pairState = 4 ∧ s.pair.owns = false)) :=
  ⟨.sdo 0 1, { wSdo .active with img := { pairState := 4 }, pair := {} }, by decide +kernel⟩

theorem test_w_pilotExit : ∃ (ch : Chan) (v : Nat) (train : Nat) (s : State), (Safety.writable s ch 0x2403 2 (leBytes 1 v) = true) ∧ (s.inMode .pilot = true) ∧ (s.img.pilotCause = 0x0062) ∧ (s.img.fw.any (·.valid) = true) ∧ (s.img.cfg.any (·.valid) = true) :=
  ⟨.nireo 1, 1, 1, { wSdo .pilot with net := { nireo := [{ num := 1, port := 3, level := 2 }] }, img := { pilotCause := 0x0062, fw := [{ valid := true }, {}], cfg := [{}, { valid := true }] } }, by decide +kernel⟩

theorem test_w_hitlessStart_1 : ∃ (ch : Chan) (s : State), (Safety.writable s ch 0x2402 1 [1] = true) ∧ (s.hitlessReason = 0) ∧ (s.img.fwRun ≠ some s.img.fwNext) :=
  ⟨.sdo 0 1, { wSdo .active with spm := { supply := .source }, img := { fwRun := some 0, fwNext := 1 } }, by decide +kernel⟩

theorem test_w_hitlessStart_2 : ∃ (ch : Chan) (s : State), (Safety.writable s ch 0x2402 1 [1] = true) ∧ (s.hitlessReason = 0) ∧ (s.img.fwRun = some s.img.fwNext) :=
  ⟨.sdo 0 1, { wSdo .active with spm := { supply := .source }, img := { fwRun := some 0, imgRun := some 0, imgNext := 1 } }, by decide +kernel⟩

theorem test_w_hitlessStart_3 : ∃ (ch : Chan) (s : State), (Safety.writable s ch 0x2402 1 [1] = true) ∧ (s.hitlessReason ≠ 0) :=
  ⟨.sdo 0 1, wSdo .service, by decide +kernel⟩

theorem test_w_hitlessAbort_1 : ∃ (ch : Chan) (s : State), (Safety.writable s ch 0x2402 1 [2] = true) ∧ (s.inGap = false) ∧ (s.hitlessCommitted = false) ∧ (s.img.hitState = 1 ∨ s.img.hitState = 3 ∨ s.img.hitState = 4) :=
  ⟨.sdo 0 1, { wSdo .active with img := { hitState := 4, fwRun := some 0 } }, by decide +kernel⟩

theorem test_w_hitlessAbort_2 : ∃ (ch : Chan) (s : State), (s.inGap = true) :=
  ⟨.sdo 0 1, { wSdo .active with img := { hitState := 2 } }, by decide +kernel⟩

theorem test_w_hitlessCommitPoint : ∃ (s : State), (s.img.hitState = 1) ∧ (s.img.fwRun ≠ some s.img.fwNext) :=
  ⟨{ wSdo .active with img := { hitState := 1, fwRun := some 0, fwNext := 1 } }, by decide +kernel⟩

theorem test_w_hitlessResume_1 : ∃ (s : State), (s.img.hitState = 2) ∧ (s.img.hitReverted = false) :=
  ⟨{ wSdo .active with img := { hitState := 2 } }, by decide +kernel⟩

theorem test_w_hitlessResume_2 : ∃ (s : State), (s.img.hitReverted = true) :=
  ⟨{ wSdo .active with img := { hitReverted := true } }, by decide +kernel⟩

theorem test_w_hitlessResumeTimeout : ∃ (s : State), (s.img.hitState = 2) ∧ (30 * ticksPerMs ≤ s.since s.img.hitFrom) :=
  ⟨{ wSdo .active with now := 30 * ticksPerMs, img := { hitState := 2 } }, by decide +kernel⟩

theorem test_w_hitlessRevertTimeout : ∃ (s : State), (s.img.hitReverted = true) ∧ (60 * ticksPerMs ≤ s.since s.img.hitFrom) :=
  ⟨{ wSdo .active with now := 60 * ticksPerMs, img := { hitReverted := true } }, by decide +kernel⟩

theorem test_w_tideFrameBoundary_1 : ∃ (s : State), (s.regionOn .eng = true) ∧ (s.variant.mode = 0) ∧ (s.tide.pulsed = true) ∧ (s.frameBoundary = true) ∧ (s.tide.swap ≠ 2) :=
  ⟨{ wSdo .active with tide := { pulsed := true } }, by decide +kernel⟩

theorem test_w_tideFrameBoundary_2 : ∃ (s : State), (s.regionOn .eng = true) ∧ (s.variant.mode = 0) ∧ (s.tide.pulsed = true) ∧ (s.frameBoundary = true) ∧ (s.tide.swap = 2) :=
  ⟨{ wSdo .active with tide := { pulsed := true, swap := 2 } }, by decide +kernel⟩

theorem test_w_carrierBoundary : ∃ (st : Nat) (s : State), (s.stageUsed st = true) ∧ (s.tide.pulsed = true) ∧ (s.pwmPowered = true) ∧ (s.boundaryDue st = true) :=
  ⟨7, { wSdo .active with tide := { pulsed := true }, cfg := [(objKey 0x3700 1, [2]), (objKey 0x3700 2, [0]), (objKey 0x3700 3, [1])] }, by decide +kernel⟩

theorem test_w_completeDramRead : ∃ (rq : MemReq) (addr : Nat) (len : Nat) (errs : List SymErr) (s : State), (addr < s.dramCapacity) :=
  ⟨{ who := .cores }, 0, 8, [], wDram, by decide +kernel⟩

theorem test_w_completeDramWrite : ∃ (rq : MemReq) (addr : Nat) (data : List (BitVec 8)) (errs : List SymErr) (s : State), (addr < s.dramCapacity) :=
  ⟨{ who := .cores }, 0, [1], [], wDram, by decide +kernel⟩

/-- Phase 0 drives a pulse of one tick after one tick, its dead times two fine steps, its `OutMode` as given. -/
def wPulse (outMode : BitVec 8) : State :=
  { wMode .active with pair := { owns := true }, phases := [{ outOn := true, tOn := 32, hOn := 32, hOff := 64, period := 4, tLH := 2, tHL := 2 }], cfg := [(objKey 0x3800 3, [outMode])] }

/-- The hypotheses of PhaseInterlock are met: the second clause, and the last one's premise and condition. -/
theorem test_w_phaseLevel : ∃ (p x : Nat) (side : Bool) (s : State), 32 * (s.phase p).loadAt ≤ x ∧ s.phaseLevel p side x = true ∧ (s.phase p).tickOnly = false :=
  ⟨0, 34, true, wPulse 0, by decide +kernel⟩

theorem test_w_phaseLevel_closed : ∃ (p : Nat) (s : State), s.ringOpen = false ∨ (s.phase p).outOn = false :=
  ⟨1, wPulse 0, by decide +kernel⟩

theorem test_w_phaseLevel_outMode : ∃ (p : Nat) (s s' : State), s.objN (0x3800 + p) 3 = 1 ∧ s'.objN (0x3800 + p) 3 = 2 :=
  ⟨0, wPulse 1, wPulse 2, by decide +kernel⟩

/-- R148, R150: the dead time of two fine steps delays the rise of `PHn_H` to fine step 34; the command stays on to step 63. -/
theorem test_phase_dead_time : (List.map ((wPulse 0).phaseLevel 0 true) [33, 34, 63, 64]) = [false, true, true, false] := by decide +kernel

/-- Table 18-3: AA1 is reserved on the FYX9462 (no DDR4) and is a pin of the FYX9480. -/
theorem test_reserved_ball : ({ wMode .active with part := .fyx9462 }).ballHold ⟨.AA, 1⟩ = some { drives := false, input := false, pull := false }
    ∧ (wMode .active).ballHold ⟨.AA, 1⟩ = none := by decide +kernel

/-- R508: the reference is on in a duty cycle. -/
theorem test_adc_reference : (wMode .moored).adcRef = true ∧ ({ wMode .moored with mode := { mode := .moored, regions := [] } }).adcRef = false := by decide +kernel

end Sys2Proof.Tests
end

/-! Chapter 00: the berths of a port (R10). The port that takes a berth's command is `c.berth / 16`, and every other port keeps its queue. -/
namespace Sys2Proof.Machine

/-- The berths b(16p) to b(16p + 15) are those whose number divided by 16 is p (R10). -/
theorem berthPort_eq_iff (b p : Nat) : b / 16 = p ↔ 16 * p ≤ b ∧ b ≤ 16 * p + 15 := by omega

/-- A command to a present berth goes to the end of the queue of the berth's port, in place of one of its berth and code (R426). -/
theorem queueCmd_port_same (s : State) (c : PCmd) (hb : (s.berth c.berth).present = true) (hp : c.berth / 16 < s.ports.length) :
    (s.queueCmd c).port (c.berth / 16) = { s.port (c.berth / 16) with
      cmds := ((s.port (c.berth / 16)).cmds.filter fun x => !(x.berth == c.berth && x.code == c.code)) ++ [c] } := by
  unfold State.queueCmd
  rw [if_pos hb]
  dsimp only
  -- The berth's status is written only where a host command is replaced; the port is written in both cases.
  split
  · exact port_setPort_same _ _ _ (by rwa [setBerth_ports_length])
  · exact port_setPort_same _ _ _ hp

/-- Queueing a command leaves every port but the berth's own alone, the berth present or absent. -/
theorem queueCmd_port_other (s : State) (c : PCmd) (p : Nat) (h : c.berth / 16 ≠ p) : (s.queueCmd c).port p = s.port p := by
  unfold State.queueCmd
  split
  case isFalse => rfl
  case isTrue =>
    dsimp only
    rw [port_setPort_other _ _ _ _ h]
    split
    · exact port_setBerth _ _ _ _
    · rfl

/-- Settles O7: a command is queued at the port `c.berth / 16`, which is p exactly for b(16p) to b(16p + 15). -/
theorem portsHoldBerths : Obligations.PortsHoldBerths := by
  unfold Obligations.PortsHoldBerths
  intro s c p hp _ hlen hb
  rw [← berthPort_eq_iff]
  constructor
  · rintro rfl
    rw [queueCmd_port_same s c hb (hlen ▸ hp)]
    exact List.mem_append_right _ (List.mem_singleton_self c)
  · exact queueCmd_port_other s c p

end Sys2Proof.Machine

/-! What lasts: the facts of a state that no command but the two of a power cycle undoes (R333). Of the lockout these are the latch and a cause that is not 0.
The queue, the variant, the serial number and the canonical form of the memories last in the same way, and one walk through the operations shows all of them.

An operation that writes no lasting part is a record update whose lasting fields are those of the state that it updates (`Keeps.fields`, `Keeps.mode`,
`Keeps.mem`), or it is put together from such operations, and its proof follows its definition. What writes the lockout only adds to it or takes it over: the
reaction to a raise (`Keeps.react`), the entry to LOCKOUT (`Keeps.enterLockout`, `AnswerKeeps.lockoutEntry`) and a start without a POR (`Keeps.fresh`).
What writes a memory keeps its form: the fill, a codeword and an MRAM word (`Keeps.refill`, `Keeps.writeWord`, `AnswerKeeps.mramWrite`). -/
namespace Sys2Proof.Machine

-- The proofs below are many and small, and those that wait for a definition's equations would each hold a thread: they are elaborated one after another.
set_option Elab.async false

/-- What lasts of `s` holds of `t`. -/
structure Keeps (s t : State) : Prop where
  pending : t.pending = s.pending
  part : t.part = s.part
  serial : t.serial = s.serial
  memory : s.memoryWf = true → t.memoryWf = true
  latch : s.mode.lockoutLatch = true → t.mode.lockoutLatch = true
  cause : s.mode.lockoutCause ≠ 0 → t.mode.lockoutCause ≠ 0

/-- What lasts of `s` holds of the next state that a command answers, where it answers one. -/
def AnswerKeeps (s : State) : Host.Outcome State Fault Refusal → Prop
  | .next t => Keeps s t
  | _ => True

theorem Keeps.refl (s : State) : Keeps s s := ⟨rfl, rfl, rfl, id, id, id⟩

section
variable {s₀ s t u : State} {c : Prop} [Decidable c]

theorem Keeps.cond (ht : Keeps s₀ t) (hu : Keeps s₀ u) : Keeps s₀ (if c then t else u) := by
  split
  · exact ht
  · exact hu

/-- An operation done under a condition: what it is done to keeps what lasts, and so does the operation. -/
theorem Keeps.update (hu : Keeps s₀ u) (ht : Keeps s₀ u → Keeps s₀ t) : Keeps s₀ (if c then t else u) := .cond (ht hu) hu

/-- An operation left out under a condition. -/
theorem Keeps.unless (ht : Keeps s₀ t) (hu : Keeps s₀ t → Keeps s₀ u) : Keeps s₀ (if c then t else u) := .cond ht (hu ht)

theorem Keeps.foldl {β : Type} {l : List β} {f : State → β → State} (h : Keeps s₀ s) (hf : ∀ {t x}, Keeps s₀ t → Keeps s₀ (f t x)) :
    Keeps s₀ (l.foldl f s) := by
  induction l generalizing s with
  | nil => exact h
  | cons x xs ih => exact ih (hf h)

theorem Keeps.forUnits {l : List Nat} {f : State → Nat → State} (h : Keeps s₀ s) (hf : ∀ {t n}, Keeps s₀ t → Keeps s₀ (f t n)) :
    Keeps s₀ (forUnits l f s) := .foldl h hf

theorem AnswerKeeps.next (h : Keeps s₀ s) : AnswerKeeps s₀ (.next s) := h

theorem AnswerKeeps.fault {r : Fault} : AnswerKeeps s₀ (.fault r) := trivial

theorem AnswerKeeps.cond {o₁ o₂ : Host.Outcome State Fault Refusal} (h₁ : AnswerKeeps s₀ o₁) (h₂ : AnswerKeeps s₀ o₂) :
    AnswerKeeps s₀ (if c then o₁ else o₂) := by
  split
  · exact h₁
  · exact h₂

end

/-! Record updates. -/

section
variable {s₀ s : State} {now : Nat} {supply : Supply} {m : ModeState} {clock : Clock} {mods : List ModInput} {groups : List InputGroup} {adc : Adc} {tide : Tide}
  {insts : List Instance} {engines : List Engine} {stages : List Stage} {phases : List Phase} {pgs : List Pg} {rcs : List Rc} {obs : List Observer}
  {spm : Spm} {feeds : List Feed} {strs : List Str} {chargers : List Charger} {dead : Dead} {rails : List Rail} {railGroups : List RailGroup}
  {thermal : Thermal} {faults : Faults} {pair : Pair} {net : Net} {berths : List Berth} {ports : List Port} {w : Mem} {log : Log} {img : Img}
  {cfg kept : List (Nat × List Byte)} {draws : Nat}

/-- An update that puts a mode record and memories in place whose lasting facts are at least those of the state updated. -/
theorem Keeps.parts (h : Keeps s₀ s) (hl : s.mode.lockoutLatch = true → m.lockoutLatch = true) (hc : s.mode.lockoutCause ≠ 0 → m.lockoutCause ≠ 0)
    (hw : s.memoryWf = true → (Memory.wf w.cells && Memory.wf w.mram) = true) :
    Keeps s₀ (State.mk s.pending now s.part s.serial supply m clock mods groups adc tide insts engines stages phases pgs rcs obs spm feeds
      strs chargers dead rails railGroups thermal faults pair net berths ports w log img cfg kept draws) :=
  ⟨h.pending, h.part, h.serial, fun x => hw (h.memory x), fun x => hl (h.latch x), fun x => hc (h.cause x)⟩

theorem Keeps.fields (h : Keeps s₀ s) :
    Keeps s₀ (State.mk s.pending now s.part s.serial supply s.mode clock mods groups adc tide insts engines stages phases pgs rcs obs spm feeds
      strs chargers dead rails railGroups thermal faults pair net berths ports s.mem log img cfg kept draws) :=
  .parts h id id id

/-- The mode record is written, its latch and cause are not. -/
theorem Keeps.mode (h : Keeps s₀ s) (hl : m.lockoutLatch = s.mode.lockoutLatch := by dsimp only)
    (hc : m.lockoutCause = s.mode.lockoutCause := by dsimp only) :
    Keeps s₀ (State.mk s.pending now s.part s.serial supply m clock mods groups adc tide insts engines stages phases pgs rcs obs spm feeds
      strs chargers dead rails railGroups thermal faults pair net berths ports s.mem log img cfg kept draws) :=
  .parts h hl.trans (fun x => hc ▸ x) id

/-- The memories' records are written, their contents are not. -/
theorem Keeps.mem (h : Keeps s₀ s) (hc : w.cells = s.mem.cells := by dsimp only) (hm : w.mram = s.mem.mram := by dsimp only) :
    Keeps s₀ (State.mk s.pending now s.part s.serial supply s.mode clock mods groups adc tide insts engines stages phases pgs rcs obs spm feeds
      strs chargers dead rails railGroups thermal faults pair net berths ports w log img cfg kept draws) :=
  .parts h id id fun x => by rw [hc, hm]; exact x

end

/-! What each operation keeps, in the order of the model. -/

namespace Keeps

variable {s₀ s : State}
variable {addr b c cause cls cmd code detail e f g i idx item j k kind md n op p port r rank reason region seq st status sub tag unit v word : Nat}
  {ch : Chan} {data : List Byte} {dt : Rat} {errs : List SymErr} {hb : Heartbeat} {l : List Entry} {last : Bool} {peer : Nat × Nat}

/-! Units, free values, records and answers. -/

theorem setMod {v : ModInput} (h : Keeps s₀ s) : Keeps s₀ (s.setMod n v) := .fields h
theorem setGroup {v : InputGroup} (h : Keeps s₀ s) : Keeps s₀ (s.setGroup n v) := .fields h
theorem setInst {v : Instance} (h : Keeps s₀ s) : Keeps s₀ (s.setInst n v) := .fields h
theorem setEngine {v : Engine} (h : Keeps s₀ s) : Keeps s₀ (s.setEngine n v) := .fields h
theorem setStage {v : Stage} (h : Keeps s₀ s) : Keeps s₀ (s.setStage n v) := .fields h
theorem setPhase {v : Phase} (h : Keeps s₀ s) : Keeps s₀ (s.setPhase n v) := .fields h
theorem setPg {v : Pg} (h : Keeps s₀ s) : Keeps s₀ (s.setPg n v) := .fields h
theorem setRc {v : Rc} (h : Keeps s₀ s) : Keeps s₀ (s.setRc n v) := .fields h
theorem setObserver {v : Observer} (h : Keeps s₀ s) : Keeps s₀ (s.setObserver n v) := .fields h
theorem setFeed {v : Feed} (h : Keeps s₀ s) : Keeps s₀ (s.setFeed n v) := .fields h
theorem setStr {v : Str} (h : Keeps s₀ s) : Keeps s₀ (s.setStr n v) := .fields h
theorem setCharger {v : Charger} (h : Keeps s₀ s) : Keeps s₀ (s.setCharger n v) := .fields h
theorem setRail {v : Rail} (h : Keeps s₀ s) : Keeps s₀ (s.setRail n v) := .fields h
theorem setRailGroup {v : RailGroup} (h : Keeps s₀ s) : Keeps s₀ (s.setRailGroup n v) := .fields h
theorem setBerth {v : Berth} (h : Keeps s₀ s) : Keeps s₀ (s.setBerth n v) := .fields h
theorem setPort {v : Port} (h : Keeps s₀ s) : Keeps s₀ (s.setPort n v) := .fields h
theorem setCan {v : CanPort} (h : Keeps s₀ s) : Keeps s₀ (s.setCan n v) := .fields h
theorem setEth {v : EthPort} (h : Keeps s₀ s) : Keeps s₀ (s.setEth n v) := .fields h
theorem setSensor {v : Sensor} (h : Keeps s₀ s) : Keeps s₀ (s.setSensor n v) := .fields h
theorem setObj {v : List Byte} (h : Keeps s₀ s) : Keeps s₀ (s.setObj idx sub v) := .fields h
theorem setObjN (h : Keeps s₀ s) : Keeps s₀ (s.setObjN idx sub n v) := .setObj h
theorem commitCopy {w : MramWriter} {f : State → State} (h : Keeps s₀ s) (hf : ∀ {t}, Keeps s₀ t → Keeps s₀ (f t)) : Keeps s₀ (s.commitCopy w f) :=
  .cond (.mem h) (hf h)
theorem enterRecord {r : Record} (h : Keeps s₀ s) : Keeps s₀ (s.enterRecord r) := .fields h
theorem record {recType source : Nat} {payload : List Byte} (h : Keeps s₀ s) : Keeps s₀ (s.record recType cls kind source payload) := .enterRecord h
theorem note {recType : Nat} {payload : List Byte} (h : Keeps s₀ s) : Keeps s₀ (s.note recType payload) := .record h
theorem noteWindow {w outcome number : Nat} {ref : Option RecRef} (h : Keeps s₀ s) : Keeps s₀ (s.noteWindow w outcome number ref) := .enterRecord h
theorem dropImageTransfers (h : Keeps s₀ s) : Keeps s₀ s.dropImageTransfers := .fields h
theorem draw (h : Keeps s₀ s) : Keeps s₀ s.draw.2 := .fields h
theorem drawBool (h : Keeps s₀ s) : Keeps s₀ s.drawBool.2 := .draw h
theorem reply (h : Keeps s₀ s) : Keeps s₀ (s.reply ch status data) := .fields h
theorem answerWrite (h : Keeps s₀ s) : Keeps s₀ (s.answerWrite ch status) := .reply h

/-! The time base (R400, R401). -/

theorem setTime {t : TimeBase} (h : Keeps s₀ s) : Keeps s₀ (s.setTime t) := .fields h
theorem settleTime (h : Keeps s₀ s) : Keeps s₀ s.settleTime := .setTime h
theorem applyTimeSet (h : Keeps s₀ s) : Keeps s₀ (s.applyTimeSet v) := .setTime h
theorem applyPhase {ns : Int} (h : Keeps s₀ s) : Keeps s₀ (s.applyPhase ns) := .setTime (.settleTime h)
theorem leaveTraceable (h : Keeps s₀ s) : Keeps s₀ s.leaveTraceable := .cond (.setTime h) (.setTime h)
theorem applyTraceable (h : Keeps s₀ s) : Keeps s₀ (s.applyTraceable v) := .cond (.setTime h) (.leaveTraceable h)

/-! Actions on outputs and units that reactions, mode changes and commands share. -/

theorem unlatch {k : Key} (h : Keeps s₀ s) : Keeps s₀ (s.unlatch k) := .fields h
theorem clearing {k : Key} (h : Keeps s₀ s) : Keeps s₀ (s.clearing k) := .fields h
theorem freeEngine {l : Nat} (h : Keeps s₀ s) : Keeps s₀ (s.freeEngine l) := .fields h
theorem stopInst {l : Nat} (h : Keeps s₀ s) : Keeps s₀ (s.stopInst l) := .freeEngine (.setInst h)
theorem stopStage {u : UState} (h : Keeps s₀ s) : Keeps s₀ (s.stopStage u n) :=
  .setStage (.update (.forUnits (.forUnits h .setPhase) .stopInst) .clearing)
theorem stopStages {u : UState} (h : Keeps s₀ s) : Keeps s₀ (s.stopStages u) := .forUnits h .stopStage
theorem shedStage (h : Keeps s₀ s) : Keeps s₀ (s.shedStage n) := .cond (.stopStage h) h
theorem shedInst {r : LoopRec} (h : Keeps s₀ s) : Keeps s₀ (s.shedInst r) := .cond (.stopInst (.setInst h)) (.shedStage h)
theorem gateOff (h : Keeps s₀ s) : Keeps s₀ (s.gateOff f) := .setFeed h
theorem shedFeed (h : Keeps s₀ s) : Keeps s₀ (s.shedFeed f) := .setFeed (.gateOff h)
theorem openString (h : Keeps s₀ s) : Keeps s₀ (s.openString n) := .setStr h
theorem shedString (h : Keeps s₀ s) : Keeps s₀ (s.shedString n) := .cond (.stopStage (.setStr h)) (.setStr h)
theorem shedGroup (h : Keeps s₀ s) : Keeps s₀ (s.shedGroup g) := .forUnits (.fields (.setGroup h)) .setMod
theorem railOff (h : Keeps s₀ s) : Keeps s₀ (s.railOff r) := .setRail h
theorem outputsSafe {u : UState} (h : Keeps s₀ s) : Keeps s₀ (s.outputsSafe u) :=
  .forUnits (.forUnits (.stopStages h) fun h1 => .setFeed (.gateOff h1)) .openString
theorem railsOff (h : Keeps s₀ s) : Keeps s₀ s.railsOff := .forUnits h .railOff
theorem driveTrip (h : Keeps s₀ s) : Keeps s₀ s.driveTrip := .mode h
theorem sendHeartbeat (h : Keeps s₀ s) : Keeps s₀ s.sendHeartbeat := .fields h
theorem tellReason (h : Keeps s₀ s) : Keeps s₀ (s.tellReason reason) := .cond (.sendHeartbeat (.fields h)) (.fields h)
theorem leavePorts (h : Keeps s₀ s) : Keeps s₀ s.leavePorts := .fields h
theorem sendFrame {b : KopolBody} (h : Keeps s₀ s) : Keeps s₀ (s.sendFrame c b) := .cond (.fields h) h
theorem mirrored (h : Keeps s₀ s) : Keeps s₀ (s.mirrored idx sub data) := .sendFrame h
theorem tell {m : TrackMsg} (h : Keeps s₀ s) : Keeps s₀ (s.tell m) := .cond (.sendFrame h) h
theorem tellStage (h : Keeps s₀ s) : Keeps s₀ (s.tellStage st k) := .cond h (.foldl (.setObserver (.fields h)) .tell)
theorem tellString (h : Keeps s₀ s) : Keeps s₀ (s.tellString k) := .cond h (.unless (.cond h (.tell (.fields h))) fun h1 => .tell (.fields h1))
theorem tellUpdate (h : Keeps s₀ s) : Keeps s₀ s.tellUpdate := .unless (.tell (.tell h)) fun h1 => .tell (.fields h1)
theorem d2dGood (h : Keeps s₀ s) : Keeps s₀ s.d2dGood := .fields h

/-! Fault sources (R318 to R337). -/

theorem sendCan {cob : Nat} (h : Keeps s₀ s) : Keeps s₀ (s.sendCan p cob data) := .setCan h
theorem sendEmcy {e : Emcy} (h : Keeps s₀ s) : Keeps s₀ (s.sendEmcy p e) := .fields (.sendCan h)
theorem settleDrop {k : Key} (h : Keeps s₀ s) : Keeps s₀ (s.settleDrop p k) := .fields h
theorem placeEmcy {e : Emcy} (h : Keeps s₀ s) : Keeps s₀ (s.placeEmcy e p) := .cond (.sendEmcy h) (.cond (.fields h) (.cond (.fields h) (.fields h)))
theorem offerEmcy {e : Emcy} (h : Keeps s₀ s) : Keeps s₀ (s.offerEmcy e p) :=
  .cond (.settleDrop h) (.cond (.placeEmcy (.settleDrop h)) (.settleDrop h))
theorem emcy {k : Key} (h : Keeps s₀ s) : Keeps s₀ (s.emcy k cls code) := .forUnits (.fields h) .offerEmcy
theorem emcyOf (h : Keeps s₀ s) : Keeps s₀ (s.emcyOf region cls) := .emcy h
theorem listShed {k : Key} (h : Keeps s₀ s) : Keeps s₀ (s.listShed k) := .fields h

theorem shedReaction {k : Key} (h : Keeps s₀ s) : Keeps s₀ (s.shedReaction k) := by
  unfold State.shedReaction
  refine .cond (.shedStage h) ?_
  refine .cond (.shedFeed h) ?_
  refine .cond (.shedStage h) ?_
  refine .cond (.stopInst (.setInst h)) ?_
  refine .cond (.listShed (.foldl h .shedInst)) ?_
  exact .cond (.shedString h) (.cond (.shedGroup h) (.cond (.listShed (.forUnits h .shedStage)) (.listShed h)))

/-- A LOCKOUT that is wanted puts its source and its class, together not 0, in `LockoutCause` (R332); every other reaction leaves latch and cause
alone. -/
theorem react {k : Key} (h : Keeps s₀ s) : Keeps s₀ (s.react k cls) := by
  unfold State.react
  refine .cond (.shedReaction h) (.cond (.mode h) (.cond h ?_))
  split
  case isTrue hcls =>
    have hcause : k.id + 2 ^ 32 * k.kind + 2 ^ 48 * cls ≠ 0 := by omega
    exact .parts h id (fun _ => hcause) id
  case isFalse => exact h

theorem countRaise {k : Key} (h : Keeps s₀ s) : Keeps s₀ (s.countRaise k cls) := .fields h
theorem trigEvent {e : TrigEvent} (h : Keeps s₀ s) : Keeps s₀ (s.trigEvent e) := .fields h
theorem raiseNew {k : Key} {always : Bool} (h : Keeps s₀ s) : Keeps s₀ (s.raiseNew k detail data always) :=
  .unless (.update (.countRaise (.trigEvent (.fields h))) .emcy) .react
theorem redetect {k : Key} (h : Keeps s₀ s) : Keeps s₀ (s.redetect k) := .fields h

theorem raiseWith {k : Key} {always : Bool} (h : Keeps s₀ s) : Keeps s₀ (s.raiseWith k detail data always) := by
  unfold State.raiseWith
  split
  · exact .redetect h
  · exact .cond (.raiseNew h) h

theorem raise {k : Key} (h : Keeps s₀ s) : Keeps s₀ (s.raise k detail) := .raiseWith h
theorem dropSheds {k : Key} (h : Keeps s₀ s) : Keeps s₀ (s.dropSheds k) := .cond h (.fields h)

theorem clear {k : Key} (h : Keeps s₀ s) : Keeps s₀ (s.clear k) := by
  unfold State.clear
  split
  · exact .unlatch h
  · exact .update (.update (.record (.fields h)) .emcy) .dropSheds

theorem releaseOwn (h : Keeps s₀ s) : Keeps s₀ (s.releaseOwn reason) := .cond (.trigEvent (.record (.fields (.leavePorts (.tellReason h))))) h
theorem settleDrops (h : Keeps s₀ s) : Keeps s₀ s.settleDrops := .cond (.fields (.raise h)) h
theorem follow {k : Key} {c : Bool} (h : Keeps s₀ s) : Keeps s₀ (s.follow k c detail) := .cond (.raise h) (.clearing h)
theorem countSram (h : Keeps s₀ s) : Keeps s₀ (s.countSram region unit) := .cond (.raise (.mem h)) (.mem h)

/-! Sessions of the dictionary. -/

theorem setSession {x : Session} (h : Keeps s₀ s) : Keeps s₀ (s.setSession ch x) := by
  unfold State.setSession
  split
  · exact .fields h
  · exact .fields h
  · exact h

theorem canHeard (h : Keeps s₀ s) : Keeps s₀ s.canHeard := .cond (.mode h) h

theorem touch (h : Keeps s₀ s) : Keeps s₀ (s.touch ch) := by
  unfold State.touch
  extract_lets s1
  have h1 : Keeps s₀ s1 := by
    unfold s1
    split
    · exact .setSession h
    · exact h
  exact .cond (.canHeard h1) h1

theorem guardedWrite {t : State} (h : Keeps s₀ s) (ht : Keeps s₀ t) : Keeps s₀ (s.guardedWrite ch idx sub data status t) := by
  unfold State.guardedWrite
  refine .cond h ?_
  dsimp only
  refine .cond (.answerWrite (.touch h)) ?_
  exact .cond (.answerWrite (.touch h)) (.cond (.answerWrite (.touch h)) (.answerWrite (.touch (.cond (.mirrored ht) ht))))

/-! Stages, phases and fast protection (chapter 05). -/

theorem startStage (h : Keeps s₀ s) : Keeps s₀ (s.startStage n) :=
  .setStage (.update (.forUnits (.foldl (.forUnits h fun h1 => .setInst (.stopInst h1)) .setPhase) .clearing) .mode)
theorem applyStageStart (h : Keeps s₀ s) : Keeps s₀ (s.applyStageStart n) := .cond h (.cond (.setStage h) (.startStage h))
theorem autoStart (h : Keeps s₀ s) : Keeps s₀ (s.autoStart n) := .cond h (.cond (.applyStageStart h) (.fields h))
theorem applyStageStop (h : Keeps s₀ s) : Keeps s₀ (s.applyStageStop n) := .cond (.setStage h) (.setStage h)
theorem prebias (h : Keeps s₀ s) : Keeps s₀ (s.prebias n) := .setStage h
theorem prebiasLoad (h : Keeps s₀ s) : Keeps s₀ (s.prebiasLoad n) := .forUnits (.cond (.foldl h .setInst) h) .setPhase
theorem beginRamp (h : Keeps s₀ s) : Keeps s₀ (s.beginRamp n) := .cond (.setStage (.forUnits h .setInst)) (.setStage (.forUnits h .setInst))
theorem raiseCapacity (h : Keeps s₀ s) : Keeps s₀ (s.raiseCapacity st p) := .raiseWith (.setObserver h)

theorem obsCapacity (h : Keeps s₀ s) : Keeps s₀ (s.obsCapacity st) := by
  unfold State.obsCapacity
  extract_lets _ _ _ s1 s2 s3 _ _ s4
  have h1 : Keeps s₀ s1 := .cond (.setObserver h) h
  have h2 : Keeps s₀ s2 := .cond (.raiseCapacity h1) h1
  have h3 : Keeps s₀ s3 := by
    unfold s3
    split
    · exact .cond (.raiseCapacity h2) h2
    · exact h2
  have h4 : Keeps s₀ s4 := .setObserver h3
  exact .cond h4 (.clearing h4)

theorem capacityAt (h : Keeps s₀ s) : Keeps s₀ (s.capacityAt p) := by
  unfold State.capacityAt
  split
  · exact h
  · exact .cond h (.obsCapacity h)

theorem endSubst (h : Keeps s₀ s) : Keeps s₀ (s.endSubst p) := by
  unfold State.endSubst
  split
  · exact h
  · exact .setObserver h

theorem leavePhase (h : Keeps s₀ s) : Keeps s₀ (s.leavePhase p cause) := by
  unfold State.leavePhase
  refine .cond h ?_
  extract_lets s1 _ _ s2
  have h1 : Keeps s₀ s1 := .endSubst h
  have h2 : Keeps s₀ s2 := .setPhase h1
  split
  · exact h2
  · exact .cond h2 (.cond (.setPhase (.shedStage h2)) (.setStage h2))

theorem dropPhase (h : Keeps s₀ s) : Keeps s₀ (s.dropPhase p cause) := .capacityAt (.leavePhase h)
theorem breakwaterPhase {act : Nat} (h : Keeps s₀ s) : Keeps s₀ (s.breakwaterPhase n p act) :=
  .update (.setStage (.setPhase h)) fun h1 => .cond (.dropPhase (.raise h1)) (.raise h1)
theorem endPeriod (h : Keeps s₀ s) : Keeps s₀ (s.endPeriod n p) := .unless (.cond h (.clearing h)) .clearing
theorem stageBits (h : Keeps s₀ s) : Keeps s₀ (s.stageBits n p) := .cond (.setStage h) (.setStage h)
theorem loadPhase (h : Keeps s₀ s) : Keeps s₀ (s.loadPhase n p) :=
  .stageBits (.update (.setPhase (.endPeriod h)) fun h1 => .foldl h1 .breakwaterPhase)
theorem relatch (h : Keeps s₀ s) : Keeps s₀ (s.relatch n) := .cond (.setStage (.foldl h .setPhase)) h
theorem latchStage (h : Keeps s₀ s) : Keeps s₀ (s.latchStage n) := .setStage h

theorem startBoundary (h : Keeps s₀ s) : Keeps s₀ (s.startBoundary n) := by
  unfold State.startBoundary
  dsimp only
  split
  · exact .setStage (.prebias h)
  · exact .setStage (.prebiasLoad h)
  · exact .beginRamp h
  · exact h

theorem fenderRead (h : Keeps s₀ s) : Keeps s₀ (s.fenderRead md n) := by
  unfold State.fenderRead
  dsimp only
  split
  · exact h
  · exact .cond (.setStage h) h

theorem calibrate {bad : List Bool} (h : Keeps s₀ s) : Keeps s₀ (s.calibrate bad p) := by
  unfold State.calibrate
  split
  · exact h
  · exact .cond (.setPhase (.raise h)) (.setPhase (.clearing h))

theorem rejoinPhase (h : Keeps s₀ s) : Keeps s₀ (s.rejoinPhase p) := by
  unfold State.rejoinPhase
  extract_lets _ s1
  have h1 : Keeps s₀ s1 := .setPhase h
  split
  · exact h
  · exact .cond (.cond (.setPhase h) (.setStage h1)) (.setPhase h)

theorem returnPhase (h : Keeps s₀ s) : Keeps s₀ (s.returnPhase p) := .capacityAt (.rejoinPhase h)
theorem estopHigh (h : Keeps s₀ s) : Keeps s₀ s.estopHigh := .driveTrip (.clearing (.mode h))
theorem seeEstop (h : Keeps s₀ s) : Keeps s₀ s.seeEstop := .cond (.cond (.estopHigh (.drawBool h)) (.drawBool h)) h
theorem engageHold (h : Keeps s₀ s) : Keeps s₀ (s.engageHold st) := .cond h (.setStage (.forUnits h .setPhase))

theorem commitDuty {d : F32} (h : Keeps s₀ s) : Keeps s₀ (s.commitDuty p d) := by
  unfold State.commitDuty
  extract_lets _ s1
  have h1 : Keeps s₀ s1 := .cond (.setPhase h) (.setPhase h)
  split
  · exact h1
  · exact .cond (.cond (.setStage h1) (.clearing (.setStage h1))) h1

/-! The measurement path (chapter 03). -/

theorem startGroup (h : Keeps s₀ s) : Keeps s₀ (s.startGroup g) :=
  .setGroup (.clearing (.forUnits h fun h1 => .clearing (.clearing (.clearing (.setMod h1)))))
theorem stopGroup (h : Keeps s₀ s) : Keeps s₀ (s.stopGroup g) := .setGroup (.forUnits h .setMod)

theorem applyGroupEnable (h : Keeps s₀ s) : Keeps s₀ (s.applyGroupEnable g v) := by
  unfold State.applyGroupEnable
  extract_lets s1
  have h1 : Keeps s₀ s1 := .setObjN h
  exact .cond (.cond (.cond (.startGroup h1) (.stopGroup h1)) (.cond (.startGroup h1) h1)) h1

theorem latchScale (h : Keeps s₀ s) : Keeps s₀ (s.latchScale md) := .setMod h

theorem frame {fb : List Bool} {violations : Nat} (h : Keeps s₀ s) : Keeps s₀ (s.frame md fb violations) := by
  unfold State.frame
  extract_lets s1 _ _ _ _ _ _ _ _ _ _ _ _ _ _ _ _ s2 _ s3
  have h1 : Keeps s₀ s1 := .cond (.latchScale h) h
  have h2 : Keeps s₀ s2 := .setMod h1
  have h3 : Keeps s₀ s3 := .cond (.raise h2) (.cond h2 (.clearing h2))
  exact .cond (.raise h3) (.cond h3 (.clearing h3))

theorem fastDecision {b : Bool} (h : Keeps s₀ s) : Keeps s₀ (s.fastDecision md b) := .setMod (.cond (.trigEvent h) h)
theorem applyCal (h : Keeps s₀ s) : Keeps s₀ (s.applyCal md) := .setMod h
theorem calRefused (h : Keeps s₀ s) : Keeps s₀ (s.calRefused md) := .cond h (.setMod h)
theorem releaseHeld (h : Keeps s₀ s) : Keeps s₀ s.releaseHeld := .forUnits h fun h1 => .cond (.cond (.startStage (.setStage h1)) (.setStage h1)) h1
theorem applySeqLength (h : Keeps s₀ s) : Keeps s₀ (s.applySeqLength n) := .fields h
theorem stopAdc (h : Keeps s₀ s) : Keeps s₀ s.stopAdc := .fields h
theorem ainVerdict {ain : Nat} {bad : Bool} (h : Keeps s₀ s) : Keeps s₀ (s.ainVerdict ain kind bad) := .cond (.raise h) h
theorem ainLapEnd {ain : Nat} (h : Keeps s₀ s) : Keeps s₀ (s.ainLapEnd ain) := .update (.cond (.clearing h) h) .clearing
theorem adcEntry {volts : List Rat} {up down : Rat} (h : Keeps s₀ s) : Keeps s₀ (s.adcEntry volts up down) :=
  .cond (.fields h) (.cond (.fields h) (.update (.cond (.ainVerdict (.fields h)) (.fields h)) .ainVerdict))
theorem slotWaits (h : Keeps s₀ s) : Keeps s₀ s.slotWaits := .fields h
theorem slotBegins (h : Keeps s₀ s) : Keeps s₀ s.slotBegins := .fields h
theorem applySeqPeriod (h : Keeps s₀ s) : Keeps s₀ s.applySeqPeriod := .fields h

/-! Loop engines and the tide table (chapter 04). -/

theorem startRun {r : LoopRec} (h : Keeps s₀ s) : Keeps s₀ (s.startRun r) := .cond (.raise (.setInst h)) (.clearing (.setEngine (.setInst h)))

theorem dispatchOne (h : Keeps s₀ s) : Keeps s₀ (s.dispatchOne e) := by
  unfold State.dispatchOne
  refine .cond h ?_
  split
  · exact h
  · exact .startRun h

theorem dispatch (h : Keeps s₀ s) : Keeps s₀ (s.dispatch e) := .forUnits h .dispatchOne
theorem toReady {r : LoopRec} (h : Keeps s₀ s) : Keeps s₀ (s.toReady r) := .setInst h
theorem noteQueue (h : Keeps s₀ s) : Keeps s₀ (s.noteQueue e) := .cond (.setEngine h) h
theorem endWait {r : LoopRec} (h : Keeps s₀ s) : Keeps s₀ (s.endWait r) := .setEngine (.setInst h)
theorem wordError {r : LoopRec} {e : WordErr} (h : Keeps s₀ s) : Keeps s₀ (s.wordError r e) :=
  .cond (.countSram h) (.cond (.raise (.raise h)) (.raise h))
theorem abortRun {lp : Nat} (h : Keeps s₀ s) : Keeps s₀ (s.abortRun lp) := .cond (.freeEngine (.setInst h)) h
theorem closeRun {r : LoopRec} (h : Keeps s₀ s) : Keeps s₀ (s.closeRun r) := .cond (.raise (.setInst h)) (.clearing (.setInst h))
theorem endRun {r : LoopRec} {errs : List WordErr} (h : Keeps s₀ s) : Keeps s₀ (s.endRun r errs) :=
  .dispatch (.foldl (.cond (.abortRun (.setEngine h)) (.closeRun (.setEngine h))) .wordError)
theorem startErrors {r : LoopRec} {errs : List WordErr} (h : Keeps s₀ s) : Keeps s₀ (s.startErrors r errs) :=
  .cond (.dispatch (.foldl (.cond (.abortRun h) h) .wordError)) h
theorem deliver {r : LoopRec} {v : F32} (h : Keeps s₀ s) : Keeps s₀ (s.deliver r v) := .cond (.commitDuty h) (.cond (.forUnits h .commitDuty) h)

theorem commitInst {r : LoopRec} (h : Keeps s₀ s) : Keeps s₀ (s.commitInst r) := by
  unfold State.commitInst
  extract_lets _ _ s1 _ s2 _ s3 s4 _ s5
  have h1 : Keeps s₀ s1 := .setInst h
  have h2 : Keeps s₀ s2 := .freeEngine (.setInst h)
  have h3 : Keeps s₀ s3 := .fields h2
  have h4 : Keeps s₀ s4 := .raise (.deliver h3)
  have h5 : Keeps s₀ s5 := .cond (.raise h4) h4
  exact .cond (.clearing (.clearing (.deliver h1))) (.dispatch h5)

theorem latchInst {r : LoopRec} (h : Keeps s₀ s) : Keeps s₀ (s.latchInst r) := .setInst h
theorem takeRecord {r : LoopRec} (h : Keeps s₀ s) : Keeps s₀ (s.takeRecord r) := .setInst h
theorem clearSlots (h : Keeps s₀ s) : Keeps s₀ s.clearSlots := .foldl h .clearing

theorem swapInst {old : List LoopRec} {r : LoopRec} (h : Keeps s₀ s) : Keeps s₀ (s.swapInst old r) := by
  unfold State.swapInst
  dsimp only
  split
  · exact .unless (.cond h (.setInst h)) fun h1 => .cond (.setInst h1) (.stopInst h1)
  · exact .setInst h

theorem swapBanks (h : Keeps s₀ s) : Keeps s₀ s.swapBanks := .clearSlots (.foldl (.foldl (.fields h) .swapInst) fun h1 => .cond (.stopInst h1) h1)
theorem retimeRuns {was : Bool} (h : Keeps s₀ s) : Keeps s₀ (s.retimeRuns was) := .cond h (.forUnits h fun h1 => .cond (.setInst h1) h1)
theorem switchTable (h : Keeps s₀ s) : Keeps s₀ s.switchTable :=
  .retimeRuns (.update (.fields (.cond (.swapBanks h) h)) fun h1 => .foldl h1 .takeRecord)
theorem nextPeriod (h : Keeps s₀ s) : Keeps s₀ s.nextPeriod := .fields h
theorem latchAnchored (h : Keeps s₀ s) : Keeps s₀ (s.latchAnchored st) := .forUnits h .latchScale
theorem latchRcs (h : Keeps s₀ s) : Keeps s₀ (s.latchRcs st) := .forUnits h .setRc

theorem boundary (h : Keeps s₀ s) : Keeps s₀ (s.boundary st) := by
  unfold State.boundary
  extract_lets _ s1 s2 s3 s4 s5 s6 s7
  have h1 : Keeps s₀ s1 := .cond (.switchTable h) h
  have h2 : Keeps s₀ s2 := .latchStage h1
  have h3 : Keeps s₀ s3 := .cond (.stopStage h2) h2
  have h4 : Keeps s₀ s4 := .cond h3 (.startBoundary h3)
  have h5 : Keeps s₀ s5 := .cond h4 (.relatch h4)
  have h6 : Keeps s₀ s6 := .foldl h5 .latchInst
  have h7 : Keeps s₀ s7 := .latchRcs (.latchAnchored h6)
  exact .cond (.nextPeriod h7) h7

theorem restPg (h : Keeps s₀ s) : Keeps s₀ (s.restPg n) := .setPg h
theorem reloadEngines (h : Keeps s₀ s) : Keeps s₀ s.reloadEngines :=
  .clearSlots (.forUnits (.fields (.forUnits (.forUnits (.fields h) .setInst) .restPg)) .setEngine)

/-! Profile generators (chapter 06). -/

theorem targetRecord {sup : Bool} (h : Keeps s₀ s) : Keeps s₀ (s.targetRecord n seq sup) := .enterRecord h
theorem supersede (h : Keeps s₀ s) : Keeps s₀ (s.supersede n seq) := .targetRecord (.setPg h)

theorem acceptTarget {v : F32} (h : Keeps s₀ s) : Keeps s₀ (s.acceptTarget n v) := by
  unfold State.acceptTarget
  extract_lets s1 _ s2
  have h1 : Keeps s₀ s1 := by
    unfold s1
    split
    · exact .supersede h
    · exact h
  have h2 : Keeps s₀ s2 := .setPg h1
  exact .setObj h2

theorem completePg (h : Keeps s₀ s) : Keeps s₀ (s.completePg n) := .targetRecord (.setPg h)

theorem takeTarget (h : Keeps s₀ s) : Keeps s₀ (s.takeTarget n) := by
  unfold State.takeTarget
  split
  · exact h
  · exact .cond (.update (.setPg (.cond (.supersede h) h)) .completePg) h

theorem stepPg (h : Keeps s₀ s) : Keeps s₀ (s.stepPg n) := .setPg (.takeTarget (.cond (.completePg (.setPg h)) (.setPg h)))

/-! Repetitive controllers and observers (chapter 06). -/

theorem startFade {len : Rat} (h : Keeps s₀ s) : Keeps s₀ (s.startFade n len) := .cond h (.setRc h)
theorem rcUnlock (h : Keeps s₀ s) : Keeps s₀ (s.rcUnlock n) := .raise (.setRc (.startFade h))
theorem rcApply {T : Rat} (h : Keeps s₀ s) : Keeps s₀ (s.rcApply n T) := .setRc h
theorem rcFresh {T : Rat} (h : Keeps s₀ s) : Keeps s₀ (s.rcFresh n T) := .setRc h

theorem rcFadeEnd (h : Keeps s₀ s) : Keeps s₀ (s.rcFadeEnd n) := by
  unfold State.rcFadeEnd
  dsimp only
  split
  · exact .cond (.setRc h) h
  · exact h

theorem rcError (h : Keeps s₀ s) : Keeps s₀ (s.rcError n) := .setRc h
theorem rcEstimate (h : Keeps s₀ s) : Keeps s₀ (s.rcEstimate n) := .setRc h
theorem rcOutput (h : Keeps s₀ s) : Keeps s₀ (s.rcOutput n) := .setRc h

theorem rcFirst (h : Keeps s₀ s) : Keeps s₀ (s.rcFirst n) := by
  unfold State.rcFirst
  refine .cond ?_ h
  split
  · exact .clearing (.rcFresh h)
  · exact h

theorem rcStep (h : Keeps s₀ s) : Keeps s₀ (s.rcStep n) := .rcOutput (.unless (.rcFirst (.rcFadeEnd (.update (.rcEstimate h) .setRc))) .rcError)
theorem rcOff (h : Keeps s₀ s) : Keeps s₀ (s.rcOff n) := .foldl (.setRc h) .clearing
theorem applyTableLength (h : Keeps s₀ s) : Keeps s₀ (s.applyTableLength n) := .cond (.rcOff h) (.cond h (.setRc h))
theorem rcFreeze (h : Keeps s₀ s) : Keeps s₀ (s.rcFreeze n) := .setRc (.startFade h)
theorem rcDiverge (h : Keeps s₀ s) : Keeps s₀ (s.rcDiverge n) := .update (.raise (.setRc h)) .rcFreeze
theorem rcRms (h : Keeps s₀ s) : Keeps s₀ (s.rcRms n) := .cond (.rcDiverge (.setRc h)) (.setRc h)

theorem rcPeriod (h : Keeps s₀ s) : Keeps s₀ (s.rcPeriod n) := by
  unfold State.rcPeriod
  extract_lets _ s1
  have h1 : Keeps s₀ s1 := .startFade h
  split
  · exact .clearing (.rcFresh h)
  · split
    · exact h
    · exact .cond h (.cond (.clearing (.rcApply h)) (.setRc h1))

theorem applyRcReset (h : Keeps s₀ s) : Keeps s₀ (s.applyRcReset n) := .clearing (.setRc (.setRc h))
theorem applyLearnGain (h : Keeps s₀ s) : Keeps s₀ (s.applyLearnGain n data) := .cond (.clearing (.setRc (.setObj h))) (.setObj h)
theorem applyRefPeriod (h : Keeps s₀ s) : Keeps s₀ (s.applyRefPeriod n data) := .cond (.clearing (.setRc (.setObj h))) (.setRc (.setObj h))
theorem setObsPhase {x : ObsPhase} (h : Keeps s₀ s) : Keeps s₀ (s.setObsPhase st j x) := .setObserver h
theorem obsDrop (h : Keeps s₀ s) : Keeps s₀ (s.obsDrop st j cause) := .setObsPhase (.dropPhase h)
theorem obsOpen (h : Keeps s₀ s) : Keeps s₀ (s.obsOpen st j) := .raiseWith (.obsDrop (.setObserver h))
theorem obsSensor (h : Keeps s₀ s) : Keeps s₀ (s.obsSensor st j) :=
  .cond (.obsDrop (.raiseWith (.setObserver h))) (.setObserver (.raiseWith (.setObserver h)))
theorem obsAmbiguous (h : Keeps s₀ s) : Keeps s₀ (s.obsAmbiguous st j) := .update (.raiseWith (.setObserver h)) .obsOpen
theorem noteDecision (h : Keeps s₀ s) : Keeps s₀ (s.noteDecision st j c) := .cond h (.setObserver h)

theorem obsDecide (h : Keeps s₀ s) : Keeps s₀ (s.obsDecide st j) := by
  unfold State.obsDecide
  dsimp only
  split
  · exact .noteDecision h
  · exact .obsSensor (.noteDecision h)
  · exact .obsOpen (.noteDecision h)
  · exact .obsAmbiguous (.noteDecision h)

theorem obsRecover (h : Keeps s₀ s) : Keeps s₀ (s.obsRecover st j) := .cond (.setObserver (.setObsPhase h)) (.setObsPhase h)
theorem obsMeasure (h : Keeps s₀ s) : Keeps s₀ (s.obsMeasure st) := .setObserver h
theorem obsIdle (h : Keeps s₀ s) : Keeps s₀ (s.obsIdle st) := .setObserver h
theorem obsDecisions (h : Keeps s₀ s) : Keeps s₀ (s.obsDecisions st) :=
  .foldl (.cond (.raiseWith (.setObserver h)) (.foldl (.setObserver h) .obsDecide)) .obsRecover

theorem obsAct (h : Keeps s₀ s) : Keeps s₀ (s.obsAct st) := by
  unfold State.obsAct
  extract_lets s1 _ s2 s3 s4 s5
  have h1 : Keeps s₀ s1 := .cond (.obsDecisions h) (.obsIdle h)
  have h2 : Keeps s₀ s2 := .cond h1 (.clearing h1)
  have h3 : Keeps s₀ s3 := .cond h2 (.clearing h2)
  have h4 : Keeps s₀ s4 := .cond h3 (.clearing h3)
  have h5 : Keeps s₀ s5 := .cond h4 (.clearing h4)
  exact .obsCapacity h5

theorem obsTrack (h : Keeps s₀ s) : Keeps s₀ (s.obsTrack st) := .setObserver (.setObserver h)

/-! Region states and mode changes (chapter 02). -/

theorem setRegion {r : Region} {v : RegionState} (h : Keeps s₀ s) : Keeps s₀ (s.setRegion r v) := .mode h
theorem disableGroup (h : Keeps s₀ s) : Keeps s₀ (s.disableGroup g) := .setGroup (.clearing (.stopGroup h))

theorem startSns (h : Keeps s₀ s) : Keeps s₀ s.startSns := by
  unfold State.startSns
  extract_lets s1 s2 s3
  have h1 : Keeps s₀ s1 := .setRegion h
  have h2 : Keeps s₀ s2 := .forUnits h1 fun h3 => .latchScale (.setMod h3)
  have h4 : Keeps s₀ s3 := .forUnits h2 .setStr
  exact .forUnits h4 fun h5 => .cond (.startGroup h5) (.disableGroup h5)

theorem loadEng (h : Keeps s₀ s) : Keeps s₀ s.loadEng := .reloadEngines (.setRegion h)
theorem startEng (h : Keeps s₀ s) : Keeps s₀ s.startEng := .cond (.clearing (.loadEng h)) (.raise (.fields (.setRegion (.loadEng h))))

theorem stopRegions (h : Keeps s₀ s) : Keeps s₀ s.stopRegions := by
  unfold State.stopRegions
  extract_lets _ s1 s2 s3 _ s4
  have h1 : Keeps s₀ s1 := .cond h (.forUnits (.fields h) .stopGroup)
  have h2 : Keeps s₀ s2 := .cond h1 (.stopAdc h1)
  have h3 : Keeps s₀ s3 := .cond h2 (.forUnits h2 .stopInst)
  have h4 : Keeps s₀ s4 := .cond h3 (.fields h3)
  exact .cond h4 (.stopStages h4)

theorem dropSources (h : Keeps s₀ s) : Keeps s₀ s.dropSources := .fields h
theorem dropBuckets (h : Keeps s₀ s) : Keeps s₀ s.dropBuckets := .mem h

theorem applyRegions {m : Mode} (h : Keeps s₀ s) : Keeps s₀ (s.applyRegions m) := by
  unfold State.applyRegions
  exact .update (.update (.dropBuckets (.dropSources (.stopRegions (.mode h)))) .startEng) .startSns

theorem haltString (h : Keeps s₀ s) : Keeps s₀ (s.haltString k) := .cond (.setStr h) (.openString h)
theorem serveRegions {on : Bool} (h : Keeps s₀ s) : Keeps s₀ (s.serveRegions on) :=
  .cond (.unless (.setRegion (.setRegion (.setRegion h))) fun h1 => .dropBuckets (.dropSources h1)) h
theorem supersedeRequest (h : Keeps s₀ s) : Keeps s₀ s.supersedeRequest := .mode h
theorem enterSupply {u : SupplyState} (h : Keeps s₀ s) : Keeps s₀ (s.enterSupply u) := .fields h

theorem modeSupply {m : Mode} (h : Keeps s₀ s) : Keeps s₀ (s.modeSupply m) := by
  unfold State.modeSupply
  split
  · exact .cond h (.enterSupply h)
  · exact h
  · exact h
  · exact .cond h (.enterSupply h)

theorem enterMode {m : Mode} (h : Keeps s₀ s) : Keeps s₀ (s.enterMode m cause) := .driveTrip (.note (.modeSupply (.applyRegions (.fields (.mode h)))))

theorem beginDescent {target : Mode} {trip : Bool} (h : Keeps s₀ s) : Keeps s₀ (s.beginDescent target cause trip) := by
  unfold State.beginDescent
  extract_lets _ s1 s2 s3 s4
  have h1 : Keeps s₀ s1 := .mode h
  have h2 : Keeps s₀ s2 := .forUnits h1 fun h3 => .setFeed (.gateOff h3)
  have h4 : Keeps s₀ s3 := .cond (.outputsSafe h2) (.forUnits (.forUnits h2 .applyStageStop) .haltString)
  have h5 : Keeps s₀ s4 := .enterMode h4
  exact .cond (.setRegion h5) h5

theorem milestone (h : Keeps s₀ s) : Keeps s₀ (s.milestone n) := .mode h
theorem queueCmd {c : PCmd} (h : Keeps s₀ s) : Keeps s₀ (s.queueCmd c) := .cond (.setPort (.cond (.setBerth h) h)) h
theorem queueOperation {data : Nat} (h : Keeps s₀ s) : Keeps s₀ (s.queueOperation b data rank) := .queueCmd h

theorem queueVolts {v : Rat} {signed : Bool} (h : Keeps s₀ s) : Keeps s₀ (s.queueVolts b code v signed rank) := by
  unfold State.queueVolts
  split
  · exact .queueCmd h
  · exact h

/-! The shelf power manager (chapter 07). -/

theorem spmDetail {d : Nat} {c : Bool} (h : Keeps s₀ s) : Keeps s₀ (s.spmDetail d c) :=
  .cond (.unless (.cond (.fields h) h) fun h1 => .raise (.fields h1)) (.update (.fields (.cond (.fields h) h)) .clearing)
theorem setWindow {lo hi : Rat} (h : Keeps s₀ s) : Keeps s₀ (s.setWindow n lo hi) := .cond (.setObj (.setObj (.fields h))) (.fields h)

theorem writeWindows {shut : Bool × Bool} (h : Keeps s₀ s) : Keeps s₀ (s.writeWindows shut) := by
  unfold State.writeWindows
  extract_lets _ s1 s2
  have h1 : Keeps s₀ s1 := .fields h
  have h2 : Keeps s₀ s2 := by
    unfold s2
    refine .forUnits h1 fun h3 => ?_
    split
    · exact .setWindow h3
    · exact h3
  exact .forUnits h2 fun h4 => .setStage (.setWindow h4)

theorem shareUncapped (h : Keeps s₀ s) : Keeps s₀ s.shareUncapped := .fields h
theorem allocate (h : Keeps s₀ s) : Keeps s₀ s.allocate.1 := .fields h

theorem endProbe (h : Keeps s₀ s) : Keeps s₀ s.endProbe := by
  unfold State.endProbe
  split
  · exact .setStr (.fields h)
  · exact h

theorem spmOnce (h : Keeps s₀ s) : Keeps s₀ s.spmOnce :=
  .cond h (.cond (.writeWindows (.allocate h)) (.cond (.writeWindows (.shareUncapped h)) (.writeWindows (.fields h))))
theorem spmCompute (h : Keeps s₀ s) : Keeps s₀ s.spmCompute := .cond (.spmOnce (.endProbe (.spmOnce h))) (.spmOnce h)
theorem spmMeasure (h : Keeps s₀ s) : Keeps s₀ s.spmMeasure := .fields h
theorem carryStep (h : Keeps s₀ s) : Keeps s₀ s.carryStep := .cond (.fields h) (.fields h)

theorem handbackStep (h : Keeps s₀ s) : Keeps s₀ s.handbackStep := by
  unfold State.handbackStep
  dsimp only
  refine .cond h ?_
  split
  · exact .cond (.fields h) (.cond (.fields h) h)
  · exact .cond (.fields h) h
  · exact h
  · exact h

theorem capWatch (h : Keeps s₀ s) : Keeps s₀ s.capWatch := .spmDetail (.spmDetail (.spmDetail (.fields h)))
theorem refHistory (h : Keeps s₀ s) : Keeps s₀ s.refHistory := .fields h
theorem slackWatch (h : Keeps s₀ s) : Keeps s₀ s.slackWatch := .forUnits h fun h1 => .cond (.setStr h1) h1
theorem decideSlack (h : Keeps s₀ s) : Keeps s₀ (s.decideSlack k) := .cond h (.cond (.spmCompute (.setStr h)) (.setStr h))
theorem decideSlacks (h : Keeps s₀ s) : Keeps s₀ s.decideSlacks := .forUnits h .decideSlack
theorem slackLost (h : Keeps s₀ s) : Keeps s₀ (s.slackLost k) := .cond (.setStr h) (.cond (.clearing (.setStr h)) (.setStr h))

theorem spmUpdate (h : Keeps s₀ s) : Keeps s₀ s.spmUpdate := by
  unfold State.spmUpdate
  extract_lets s1 s2 s3 s4
  have h1 : Keeps s₀ s1 := .handbackStep (.carryStep (.spmMeasure h))
  have h2 : Keeps s₀ s2 := .spmCompute h1
  have h3 : Keeps s₀ s3 := .slackWatch (.refHistory h2)
  have h4 : Keeps s₀ s4 := .decideSlacks (.capWatch h3)
  exact .cond h3 (.cond (.beginDescent (.supersedeRequest (.spmDetail h4))) h4)

theorem shareBerth (h : Keeps s₀ s) : Keeps s₀ (s.shareBerth b) := .cond (.cond (.fields h) h) (.cond (.fields h) h)
theorem trimBerth (h : Keeps s₀ s) : Keeps s₀ (s.trimBerth b) := .cond (.queueVolts (.fields h)) h
theorem centreTrims (h : Keeps s₀ s) : Keeps s₀ (s.centreTrims n) := .fields h

theorem applyShareTrim {v : Rat} (h : Keeps s₀ s) : Keeps s₀ (s.applyShareTrim p v) := by
  unfold State.applyShareTrim
  extract_lets _ s1
  have h1 : Keeps s₀ s1 := .fields h
  split
  · exact .centreTrims h1
  · exact h1

theorem declareInputLoss (h : Keeps s₀ s) : Keeps s₀ s.declareInputLoss := by
  unfold State.declareInputLoss
  extract_lets s1 s2 s3 s4 _ s5
  have h1 : Keeps s₀ s1 := .forUnits h fun h2 => .cond (.gateOff h2) h2
  have h3 : Keeps s₀ s2 := .emcyOf (.enterMode (.supersedeRequest h1))
  have h4 : Keeps s₀ s3 := .trigEvent h3
  have h5 : Keeps s₀ s4 := .enterSupply h4
  have h6 : Keeps s₀ s5 := .fields h5
  exact .spmCompute (.forUnits h6 .slackLost)

theorem qualifyFeed (h : Keeps s₀ s) : Keeps s₀ (s.qualifyFeed f) := .clearing (.clearing (.setFeed h))
theorem retargetBus {v : Rat} (h : Keeps s₀ s) : Keeps s₀ (s.retargetBus v) := .acceptTarget h
theorem startHandback {src : Nat} (h : Keeps s₀ s) : Keeps s₀ (s.startHandback src) :=
  .cond (.retargetBus (.spmDetail (.fields (.enterSupply h)))) (.queueOperation (.spmDetail (.fields (.enterSupply h))))
theorem abandonHandback (h : Keeps s₀ s) : Keeps s₀ s.abandonHandback :=
  .cond h (.spmCompute (.spmDetail (.fields (.enterSupply (.cond (.setFeed (.gateOff h)) (.fields h))))))
theorem handbackWatch (h : Keeps s₀ s) : Keeps s₀ (s.handbackWatch b) := .cond (.abandonHandback h) h
theorem switchOn (h : Keeps s₀ s) : Keeps s₀ (s.switchOn f) := .setFeed h
theorem autoFeeds (h : Keeps s₀ s) : Keeps s₀ s.autoFeeds := .forUnits h fun h1 => .cond (.switchOn h1) h1
theorem startHolds (h : Keeps s₀ s) : Keeps s₀ s.startHolds := .forUnits h fun h1 => .cond (.autoStart h1) h1
theorem reachedActive (h : Keeps s₀ s) : Keeps s₀ s.reachedActive := .cond (.milestone h) h
theorem enterActive (h : Keeps s₀ s) : Keeps s₀ (s.enterActive cause) := .reachedActive (.spmDetail (.startHolds (.autoFeeds (.enterMode h))))

/-! The rail tree (chapter 10). -/

theorem switchRailOn (h : Keeps s₀ s) : Keeps s₀ (s.switchRailOn r) := .cond (.queueOperation (.setRail h)) (.setRail h)
theorem switchRailOff (h : Keeps s₀ s) : Keeps s₀ (s.switchRailOff r rank) :=
  .cond (.cond (.stopStage (.railOff h)) (.railOff h)) (.cond (.queueOperation (.railOff h)) (.railOff h))
theorem forceOff (h : Keeps s₀ s) : Keeps s₀ (s.forceOff r) := .cond (.setRail (.switchRailOff h)) h
theorem forceAllOff (h : Keeps s₀ s) : Keeps s₀ s.forceAllOff := .forUnits h .forceOff
theorem railRose (h : Keeps s₀ s) : Keeps s₀ (s.railRose r) := .clearing (.clearing (.clearing (.setRail h)))
theorem riseSettled (h : Keeps s₀ s) : Keeps s₀ s.riseSettled := .cond (.cond (.milestone (.fields h)) (.fields h)) h
theorem groupRisen (h : Keeps s₀ s) : Keeps s₀ (s.groupRisen g) := .riseSettled (.forUnits (.setRailGroup h) .setRail)
theorem groupLowered (h : Keeps s₀ s) : Keeps s₀ (s.groupLowered g) := .forUnits (.setRailGroup h) .setRail
theorem seenNow (h : Keeps s₀ s) : Keeps s₀ (s.seenNow g) := .setRailGroup h
theorem freeStageRails (h : Keeps s₀ s) : Keeps s₀ (s.freeStageRails g) := .forUnits h .setRail
theorem startRise (h : Keeps s₀ s) : Keeps s₀ (s.startRise g) := .unless (.setRailGroup (.freeStageRails h)) fun h1 => .seenNow (.groupRisen h1)
theorem startLower (h : Keeps s₀ s) : Keeps s₀ (s.startLower g) := .unless (.setRailGroup h) fun h1 => .seenNow (.groupLowered h1)
theorem startRises (h : Keeps s₀ s) : Keeps s₀ s.startRises :=
  .forUnits (.fields (.clearing h)) fun h1 => .cond (.seenNow (.groupRisen (.setRailGroup (.freeStageRails h1)))) (.startRise h1)
theorem failGroup {k : Key} (h : Keeps s₀ s) : Keeps s₀ (s.failGroup g k) := .cond (.riseSettled (.setRailGroup (.startLower h))) (.setRailGroup h)
theorem riseFailure (h : Keeps s₀ s) : Keeps s₀ (s.riseFailure r detail) := .failGroup (.raise (.setRail h))
theorem waitFailure (h : Keeps s₀ s) : Keeps s₀ (s.waitFailure g) := .failGroup (.raise h)
theorem descentFault (h : Keeps s₀ s) : Keeps s₀ (s.descentFault r detail) :=
  .forUnits (.forceOff (.setRail (.raise h))) fun h1 => .setRail (.forceOff h1)
theorem seePins {pins : Nat} (h : Keeps s₀ s) : Keeps s₀ (s.seePins pins) := .forUnits h fun h1 => .cond h1 (.setRail h1)
theorem seqNext {at_ : Nat} (h : Keeps s₀ s) : Keeps s₀ (s.seqNext g at_) := .cond (.startLower h) (.cond (.setRailGroup h) h)
theorem tellPin (h : Keeps s₀ s) : Keeps s₀ (s.tellPin r detail) := .cond (.setRail h) h

theorem resumeFault (h : Keeps s₀ s) : Keeps s₀ s.resumeFault := by
  unfold State.resumeFault
  split
  · exact .cond (.raise (.fields h)) h
  · exact h

theorem descentOver (h : Keeps s₀ s) : Keeps s₀ (s.descentOver r) := .forceAllOff (.raise (.setRail h))
theorem groupWrite {t : State} (h : Keeps s₀ s) (ht : Keeps s₀ t) : Keeps s₀ (s.groupWrite ch g v status t) := .guardedWrite h (.setRailGroup ht)

theorem applyMargin (h : Keeps s₀ s) : Keeps s₀ (s.applyMargin r v) := by
  unfold State.applyMargin
  extract_lets _ _ _ s1
  have h1 : Keeps s₀ s1 := .setRail h
  split
  · exact .queueOperation (.queueVolts h1)
  · exact .queueOperation (.queueVolts h1)
  · exact .queueOperation h1

theorem endMargins (h : Keeps s₀ s) : Keeps s₀ s.endMargins := .forUnits h .applyMargin
theorem railTurns (h : Keeps s₀ s) : Keeps s₀ (s.railTurns r) := .cond (.railRose h) h
theorem railSeen (h : Keeps s₀ s) : Keeps s₀ (s.railSeen r) := .railTurns (.setRail h)
theorem railSample (h : Keeps s₀ s) : Keeps s₀ (s.railSample md) := .cond (.forUnits h .railSeen) h
theorem railEntry (h : Keeps s₀ s) : Keeps s₀ (s.railEntry e) := .forUnits h fun h1 => .railSeen (.setRail h1)
theorem railPolled {v : Rat} {bad : Bool} (h : Keeps s₀ s) : Keeps s₀ (s.railPolled r v bad) := .cond (.railSeen (.setRail (.setRail h))) (.setRail h)
theorem railPoll {v : Rat} {bad : Bool} (h : Keeps s₀ s) : Keeps s₀ (s.railPoll b v bad) := .forUnits h .railPolled
theorem stageRailFollows (h : Keeps s₀ s) : Keeps s₀ (s.stageRailFollows n r) := .cond (.railTurns (.cond h (.setRail h))) (.cond (.railOff h) h)
theorem railsFollow (h : Keeps s₀ s) : Keeps s₀ (s.railsFollow n) := .forUnits h .stageRailFollows

/-! Temperature and ageing (chapter 10). -/

theorem compareSensor (h : Keeps s₀ s) : Keeps s₀ (s.compareSensor n) := .cond (.setSensor h) (.follow (.setSensor h))

theorem packageTemp (h : Keeps s₀ s) : Keeps s₀ s.packageTemp := by
  unfold State.packageTemp
  split
  · exact h
  · exact .cond (.raise (.fields (.fields h))) (.unless (.fields (.fields h)) .clearing)

theorem stageTempStep (h : Keeps s₀ s) : Keeps s₀ (s.stageTempStep n) := by
  unfold State.stageTempStep
  split
  · exact .fields h
  · exact .fields h

theorem dramTempStep (h : Keeps s₀ s) : Keeps s₀ s.dramTempStep := by
  unfold State.dramTempStep
  refine .cond ?_ h
  split
  · exact .fields h
  · exact .cond (.raise (.fields h)) (.cond (.clearing (.fields h)) (.fields h))

theorem dieReading (h : Keeps s₀ s) : Keeps s₀ (s.dieReading n code) := .cond (.raise (.setSensor h)) (.setSensor h)
theorem slot {codes : List Nat} (h : Keeps s₀ s) : Keeps s₀ (s.slot codes) :=
  .dramTempStep (.forUnits (.packageTemp (.forUnits (.forUnits h .dieReading) .compareSensor)) .stageTempStep)

theorem thermEntry (h : Keeps s₀ s) : Keeps s₀ (s.thermEntry e) := by
  unfold State.thermEntry
  dsimp only
  refine .forUnits h fun h1 => ?_
  split
  · exact .compareSensor (.setSensor h1)
  · exact .compareSensor (.setSensor h1)

theorem commitVid (h : Keeps s₀ s) : Keeps s₀ s.commitVid := .commitCopy h .fields
theorem loadVid (h : Keeps s₀ s) : Keeps s₀ s.loadVid := .fields h
theorem enterStep {a : Nat} (h : Keeps s₀ s) : Keeps s₀ (s.enterStep a) := .cond h (.fields (.commitVid (.fields h)))
theorem raiseVid (h : Keeps s₀ s) : Keeps s₀ s.raiseVid := .enterStep (.commitVid (.fields h))

theorem vidStep {m : Int} (h : Keeps s₀ s) : Keeps s₀ (s.vidStep m) := by
  unfold State.vidStep
  extract_lets _ _ _ _ _ _ s1 s2
  have h1 : Keeps s₀ s1 := .fields h
  have h2 : Keeps s₀ s2 := .cond (.raise h1) h1
  refine .cond (.cond (.raiseVid h) h) ?_
  split
  · exact .cond (.fields (.enterStep h1)) h1
  · exact .cond (.raise h2) h2

theorem applyAgeReset (h : Keeps s₀ s) : Keeps s₀ s.applyAgeReset := .foldl (.enterStep (.commitVid (.fields h))) fun h1 => .unlatch (.clearing h1)
theorem ageSample (h : Keeps s₀ s) : Keeps s₀ (s.ageSample md) := .forUnits h fun h1 => .cond (.fields h1) h1
theorem ronPhase (h : Keeps s₀ s) : Keeps s₀ (s.ronPhase p) := .follow (.fields h)
theorem bankSample (h : Keeps s₀ s) : Keeps s₀ (s.bankSample md) := .forUnits h fun h1 => .update (.forUnits h1 .fields) .fields
theorem replanPhase {mean : Rat} (h : Keeps s₀ s) : Keeps s₀ (s.replanPhase p mean) := .mirrored (.setObj (.cond (.mirrored (.applyShareTrim h)) h))
theorem commitAgeing (h : Keeps s₀ s) : Keeps s₀ s.commitAgeing := .commitCopy h .fields
theorem loadAgeing (h : Keeps s₀ s) : Keeps s₀ s.loadAgeing := .fields h

/-! Fault management (chapter 11). -/

theorem setClass {k : Key} (h : Keeps s₀ s) : Keeps s₀ (s.setClass c k) := .fields h
theorem applySev {rr w : Nat} (h : Keeps s₀ s) : Keeps s₀ (s.applySev rr w) := .record (.fields (.foldl h .setClass))

theorem selectSev {rr w : Nat} (h : Keeps s₀ s) : Keeps s₀ (s.selectSev ch rr w) := by
  unfold State.selectSev
  split
  · exact .setSession h
  · exact h

theorem applyIrqClear {rr m : Nat} (h : Keeps s₀ s) : Keeps s₀ (s.applyIrqClear rr m) := .fields h

theorem busErrorTo {rq : Requester} {host : Option Chan} (h : Keeps s₀ s) : Keeps s₀ (s.busErrorTo rq host) := by
  unfold State.busErrorTo
  extract_lets _ s1 s2
  have h1 : Keeps s₀ s1 := .mem h
  have h2 : Keeps s₀ s2 := .raise h1
  split
  · exact .fields h2
  · exact .reply h1
  · exact h1
  · exact .reply h1
  · exact .fields h1
  · exact h1

/-! DRAM, SRAM and MRAM (chapter 15). -/

theorem refill (h : Keeps s₀ s) : Keeps s₀ s.refill := by
  unfold State.refill
  refine .parts h id id fun hwf => ?_
  obtain ⟨-, hmram⟩ := Bool.and_eq_true_iff.mp hwf
  exact Bool.and_eq_true_iff.mpr ⟨rfl, hmram⟩

theorem abandonWindow {w : Nat} (h : Keeps s₀ s) : Keeps s₀ (s.abandonWindow w) := .noteWindow (.fields h)
theorem loseRing (h : Keeps s₀ s) : Keeps s₀ s.loseRing := .fields (.forUnits h fun h1 => .cond (.abandonWindow h1) h1)
theorem train (h : Keeps s₀ s) : Keeps s₀ (s.train n) :=
  .cond (.cond (.refill (.fields (.clearing (.mem (.loseRing h))))) (.raise (.mem (.loseRing h)))) h
theorem startMem (h : Keeps s₀ s) : Keeps s₀ (s.startMem n) := .train (.mem h)
theorem startSram (h : Keeps s₀ s) : Keeps s₀ s.startSram := .mem h
theorem countDevice {d : Nat} (h : Keeps s₀ s) : Keeps s₀ (s.countDevice rank d) := .cond (.raise (.mem h)) (.mem h)
theorem countBurst {l : List (Option (List Byte × Option Nat))} (h : Keeps s₀ s) : Keeps s₀ (s.countBurst b l) := .forUnits h .countDevice
theorem uncorrectable (h : Keeps s₀ s) : Keeps s₀ (s.uncorrectable b k errs) := .raiseWith (.mem h)

theorem writeWord (h : Keeps s₀ s) : Keeps s₀ (s.writeWord b k data) := by
  unfold State.writeWord
  refine .parts h id id fun hwf => ?_
  obtain ⟨hcells, hmram⟩ := Bool.and_eq_true_iff.mp hwf
  exact Bool.and_eq_true_iff.mpr ⟨cellsPut_wf _ _ _ hcells, hmram⟩

theorem writeBurst (h : Keeps s₀ s) : Keeps s₀ (s.writeBurst b data) := .mem (.forUnits h .writeWord)
theorem fillFlip (h : Keeps s₀ s) : Keeps s₀ s.fillFlip := .mem (.writeWord h)
theorem filledNow (h : Keeps s₀ s) : Keeps s₀ s.filledNow := .cond (.fillFlip h) h
theorem peaked {q : MemReq} (h : Keeps s₀ s) : Keeps s₀ (s.peaked q) := .mem h
theorem queueWriteBack {l : List (Option (List Byte × Option Nat))} (h : Keeps s₀ s) : Keeps s₀ (s.queueWriteBack b l) := .cond h (.mem h)

theorem dramReadOp {rq : MemReq} {len : Nat} (h : Keeps s₀ s) : Keeps s₀ (s.dramReadOp rq addr len errs) := by
  unfold State.dramReadOp
  extract_lets s1 _ _ s2 s3
  have h1 : Keeps s₀ s1 := .filledNow h
  have h2 : Keeps s₀ s2 := .countBurst (.peaked h1)
  have h3 : Keeps s₀ s3 := .queueWriteBack h2
  split
  · exact .busErrorTo (.uncorrectable h2)
  · exact .mem h3

theorem dramWriteOp {rq : MemReq} (h : Keeps s₀ s) : Keeps s₀ (s.dramWriteOp rq addr data errs) := by
  unfold State.dramWriteOp
  extract_lets s1 _ _ _ _ _ _ s2 _ s3 _ s4
  have h1 : Keeps s₀ s1 := .filledNow h
  have h2 : Keeps s₀ s2 := .peaked h1
  have h3 : Keeps s₀ s3 := .countBurst (.mem h2)
  have h4 : Keeps s₀ s4 := .writeBurst h3
  split
  · exact .busErrorTo (.uncorrectable h3)
  · exact .mem h4

theorem scrubAdvance (h : Keeps s₀ s) : Keeps s₀ s.scrubAdvance := by
  unfold State.scrubAdvance
  split
  · exact .mem h
  · exact .cond (.mem h) (.clearing (.mem h))

theorem leakDevice (h : Keeps s₀ s) : Keeps s₀ (s.leakDevice i) := .cond (.clearing (.mem h)) (.mem h)
theorem leakSram (h : Keeps s₀ s) : Keeps s₀ (s.leakSram i) := .cond (.clearing (.mem h)) (.mem h)
theorem leakDevices (h : Keeps s₀ s) : Keeps s₀ s.leakDevices := .forUnits (.mem h) .leakDevice
theorem leakSrams (h : Keeps s₀ s) : Keeps s₀ s.leakSrams := .forUnits (.mem h) .leakSram
theorem applyEccMode (h : Keeps s₀ s) : Keeps s₀ (s.applyEccMode v) := .cond (.setObjN h) (.update (.loseRing (.setObjN h)) .refill)
theorem armFlip (h : Keeps s₀ s) : Keeps s₀ s.armFlip := .mem (.filledNow h)
theorem failImageWrite (h : Keeps s₀ s) : Keeps s₀ (s.failImageWrite reason) := .fields (.dropImageTransfers h)

theorem writeFailed {w : MramWriter} (h : Keeps s₀ s) : Keeps s₀ (s.writeFailed w addr) := by
  unfold State.writeFailed
  split
  · exact .cond (.failImageWrite h) h
  · exact .cond (.mem h) (.forUnits h .abandonWindow)
  · exact .mem h

theorem spoilCopy {c : MramCopy} {second : Bool} (h : Keeps s₀ s) : Keeps s₀ (s.spoilCopy c second) := by
  unfold State.spoilCopy
  dsimp only
  split
  · exact .fields h
  · exact .setStr h
  · exact .fields h
  · exact .fields h
  · exact .fields h
  · exact .fields h
  · exact .fields h

theorem uncorrectableWord {e : MramError} (h : Keeps s₀ s) : Keeps s₀ (s.uncorrectableWord e) := by
  unfold State.uncorrectableWord
  extract_lets _ s1 s2
  have h1 : Keeps s₀ s1 := .mem h
  have h2 : Keeps s₀ s2 := by
    unfold s2
    split
    · exact .cond (.spoilCopy h1) h1
    · exact h1
  exact .raise h2

/-! The recorder (chapter 16). -/

theorem freezeNow (h : Keeps s₀ s) : Keeps s₀ s.freezeNow := .note (.fields h)

theorem commitRecord (h : Keeps s₀ s) : Keeps s₀ s.commitRecord := by
  unfold State.commitRecord
  split
  · exact h
  · exact .cond (.clearing (.mem h)) (.settleDrops (.mem h))

theorem endFreeze {f : Freeze} (h : Keeps s₀ s) : Keeps s₀ (s.endFreeze f) := .note (.fields h)
theorem startFreeze (h : Keeps s₀ s) : Keeps s₀ (s.startFreeze ch) := .cond (.freezeNow (.fields h)) (.fields h)
theorem freezeSessionClosed (h : Keeps s₀ s) : Keeps s₀ (s.freezeSessionClosed ch) := .cond (.endFreeze h) h

theorem placeCursor (h : Keeps s₀ s) : Keeps s₀ (s.placeCursor ch n) := by
  unfold State.placeCursor
  split
  · exact .setSession h
  · exact h

theorem readBlock (h : Keeps s₀ s) : Keeps s₀ (s.readBlock ch) := by
  unfold State.readBlock
  split
  · exact h
  · dsimp only
    refine .cond (.reply h) ?_
    split
    · exact .reply h
    · exact .reply (.setSession h)

theorem startRing (h : Keeps s₀ s) : Keeps s₀ s.startRing := .fields (.loseRing h)
theorem openRing (h : Keeps s₀ s) : Keeps s₀ s.openRing := .cond h (.startRing h)
theorem writeFrame {at_ : Nat} (h : Keeps s₀ s) : Keeps s₀ (s.writeFrame at_ data errs) := .forUnits h .dramWriteOp
theorem stampWindows (h : Keeps s₀ s) : Keeps s₀ s.stampWindows := .fields h

theorem capture (h : Keeps s₀ s) : Keeps s₀ (s.capture errs) := by
  unfold State.capture
  extract_lets s1 _ _ s2 _ _ s3 _ _ s4 s5
  have h1 : Keeps s₀ s1 := .stampWindows h
  have h2 : Keeps s₀ s2 := .clearing h1
  have h3 : Keeps s₀ s3 := .writeFrame h1
  have h4 : Keeps s₀ s4 := .fields h3
  have h5 : Keeps s₀ s5 := .raise h1
  exact .cond (.fields h2) (.cond (.cond (.clearing h4) h4) (.fields h5))

theorem refuseTrigger {e : TrigEvent} (h : Keeps s₀ s) : Keeps s₀ (s.refuseTrigger e) := .noteWindow (.fields h)
theorem openWindow {w off bytes : Nat} {e : TrigEvent} (h : Keeps s₀ s) : Keeps s₀ (s.openWindow w off bytes e) := .fields h

theorem trigger {e : TrigEvent} (h : Keeps s₀ s) : Keeps s₀ (s.trigger e) := by
  unfold State.trigger
  extract_lets _ s1
  have h1 : Keeps s₀ s1 := .fields h
  refine .cond (.cond (.fields h1) h1) ?_
  refine .cond (.refuseTrigger h1) ?_
  split
  · exact .openWindow h1
  · exact .refuseTrigger h1

theorem promoteBurst {errs : List (Nat × SymErr)} (h : Keeps s₀ s) : Keeps s₀ (s.promoteBurst errs b) := by
  unfold State.promoteBurst
  refine .cond h ?_
  extract_lets _ s1
  have h1 : Keeps s₀ s1 := .countBurst h
  split
  · exact .busErrorTo (.uncorrectable h1)
  · exact .queueWriteBack h1

theorem promoteReads {v : Window} {errs : List (Nat × SymErr)} (h : Keeps s₀ s) : Keeps s₀ (s.promoteReads v errs) :=
  .cond h (.forUnits (.filledNow h) fun h1 => .forUnits h1 .promoteBurst)
theorem promoteWindow {w : Nat} {v : Window} {errs : List (Nat × SymErr)} (h : Keeps s₀ s) : Keeps s₀ (s.promoteWindow w v errs) :=
  .noteWindow (.d2dGood (.fields (.promoteReads h)))

/-! Feeds (chapter 07). -/

theorem raiseFeed (h : Keeps s₀ s) : Keeps s₀ (s.raiseFeed f unit detail) := .raise (.cond h (.setFeed h))
theorem updatePg (h : Keeps s₀ s) : Keeps s₀ (s.updatePg f) := .setFeed h
theorem loseFeed (h : Keeps s₀ s) : Keeps s₀ (s.loseFeed f unit) := .update (.raiseFeed (.setFeed (.gateOff h))) .abandonHandback
theorem applyFeedOn (h : Keeps s₀ s) : Keeps s₀ (s.applyFeedOn f) :=
  .cond h (.update (.update (.foldl (.setFeed (.setObjN h)) .clearing) fun h1 => .clearing (.clearing h1)) .switchOn)
theorem applyFeedOff (h : Keeps s₀ s) : Keeps s₀ (s.applyFeedOff f) := .setFeed (.gateOff (.setObjN h))
theorem tripFeed (h : Keeps s₀ s) : Keeps s₀ (s.tripFeed f unit) := .raiseFeed (.setFeed (.gateOff h))
theorem fuseStep {i : Rat} (h : Keeps s₀ s) : Keeps s₀ (s.fuseStep f i dt) :=
  .cond (.setFeed h) (.cond (.cond (.tripFeed (.setFeed h)) (.setFeed h)) (.cond h (.setFeed h)))
theorem meterStep {valid : Bool} {i : Rat} (h : Keeps s₀ s) : Keeps s₀ (s.meterStep f valid i dt) := .cond (.clearing (.setFeed h)) (.setFeed h)
theorem feedCurrentSample (h : Keeps s₀ s) : Keeps s₀ (s.feedCurrentSample f md) := .fields (.cond (.fuseStep (.meterStep h)) (.meterStep h))
theorem feedVoltSample (h : Keeps s₀ s) : Keeps s₀ (s.feedVoltSample f md) :=
  .updatePg (.update (.cond (.clearing (.clearing (.setFeed h))) (.setFeed h)) .abandonHandback)
theorem feedSample (h : Keeps s₀ s) : Keeps s₀ (s.feedSample md) := .forUnits h fun h1 => .update (.cond (.feedCurrentSample h1) h1) .feedVoltSample
theorem stageSample (h : Keeps s₀ s) : Keeps s₀ (s.stageSample md) := .forUnits h .fields

/-! Battery strings (chapter 08). -/

theorem setEst {e : Estimator} (h : Keeps s₀ s) : Keeps s₀ (s.setEst k e) := .setStr h
theorem reraiseString (h : Keeps s₀ s) : Keeps s₀ (s.reraiseString k) := .foldl h fun h1 => .cond (.raise h1) h1
theorem anchor {u : Rat} (h : Keeps s₀ s) : Keeps s₀ (s.anchor k u) := .clearing (.clearing (.clearing (.setEst h)))
theorem restPoint {v i raise : Rat} (h : Keeps s₀ s) : Keeps s₀ (s.restPoint k v i raise) :=
  .cond (.setEst h) (.cond (.anchor (.setEst h)) (.setEst (.setEst h)))
theorem takeZ {z : Rat} (h : Keeps s₀ s) : Keeps s₀ (s.takeZ k j z) := .cond (.setStr h) (.setStr h)

theorem impedance (h : Keeps s₀ s) : Keeps s₀ (s.impedance k) := by
  unfold State.impedance
  refine .foldl h fun h1 => ?_
  split
  · exact .takeZ h1
  · exact h1

theorem setDisagree (h : Keeps s₀ s) : Keeps s₀ (s.setDisagree k) := .raise (.setEst h)
theorem verdict {dis : Bool} {soc : Rat} (h : Keeps s₀ s) : Keeps s₀ (s.verdict k dis soc) :=
  .setEst (.update (.raise (.setEst h)) fun h1 => .setDisagree (.setEst h1))
theorem endCheck (h : Keeps s₀ s) : Keeps s₀ (s.endCheck k) := .update (.cond (.verdict (.setEst h)) (.setEst h)) .verdict
theorem endRelease (h : Keeps s₀ s) : Keeps s₀ (s.endRelease k) := .update (.cond (.clearing (.setEst h)) h) fun h1 => .clearing (.setEst h1)
theorem rangeCheck (h : Keeps s₀ s) : Keeps s₀ (s.rangeCheck k) := .update (.cond (.setDisagree h) h) .raise
theorem limits (h : Keeps s₀ s) : Keeps s₀ (s.limits k) := .setEst h
theorem countGap (h : Keeps s₀ s) : Keeps s₀ (s.countGap k) := .setEst h
theorem ocvNoise (h : Keeps s₀ s) : Keeps s₀ (s.ocvNoise k) := .setEst h
theorem fuse (h : Keeps s₀ s) : Keeps s₀ (s.fuse k dt) := .cond (.setEst h) (.setEst h)
theorem count {i byRef : Rat} (h : Keeps s₀ s) : Keeps s₀ (s.count k i dt byRef) := .setStr h
theorem restCheck (h : Keeps s₀ s) : Keeps s₀ (s.restCheck k) := .cond (.restPoint (.setEst h)) (.setEst h)
theorem report {counted : Rat} (h : Keeps s₀ s) : Keeps s₀ (s.report k counted dt) := .setEst h

theorem takeEst (h : Keeps s₀ s) : Keeps s₀ (s.takeEst k) := by
  unfold State.takeEst
  dsimp only
  split
  · exact .setStr h
  · exact h

theorem estStep (h : Keeps s₀ s) : Keeps s₀ (s.estStep k) := by
  unfold State.estStep
  extract_lets s1 _ _ s2 _ s3 _ _ s4 s5 s6 s7 _ s8
  have h1 : Keeps s₀ s1 := .takeEst h
  have h2 : Keeps s₀ s2 := .cond (.countGap h1) h1
  have h3 : Keeps s₀ s3 := .ocvNoise (.count h2)
  have h4 : Keeps s₀ s4 := .cond (.endCheck (.fuse h3)) (.setEst h3)
  have h5 : Keeps s₀ s5 := .rangeCheck (.endRelease h4)
  have h6 : Keeps s₀ s6 := .cond (.restCheck h5) h5
  have h7 : Keeps s₀ s7 := .report (.limits h6)
  have h8 : Keeps s₀ s8 := .cond (.clearing (.setStr h7)) h7
  exact .cond (.clearing h8) h8

theorem wakeRestCheck (h : Keeps s₀ s) : Keeps s₀ (s.wakeRestCheck k) := .cond (.restPoint (.setStr h)) h

theorem closeMs (h : Keeps s₀ s) : Keeps s₀ (s.closeMs k) := by
  unfold State.closeMs
  exact .wakeRestCheck (.impedance (.cond (.estStep (.setEst h)) (.setEst h)))

theorem goodCurrent {y : Rat} (h : Keeps s₀ s) : Keeps s₀ (s.goodCurrent k y) :=
  .update (.setStr (.cond (.countGap h) h)) fun h1 => .clearing (.setStr h1)
theorem badCurrent (h : Keeps s₀ s) : Keeps s₀ (s.badCurrent k) := .setStr (.countGap h)

theorem stringSampleOf (h : Keeps s₀ s) : Keeps s₀ (s.stringSampleOf md k) := by
  unfold State.stringSampleOf
  exact .update (.update (.cond h (.closeMs h)) fun h1 => .cond (.goodCurrent h1) (.badCurrent h1)) .setEst

theorem stringSample (h : Keeps s₀ s) : Keeps s₀ (s.stringSample md) := .forUnits h .stringSampleOf
theorem requestSlack {byCharger : Bool} (h : Keeps s₀ s) : Keeps s₀ (s.requestSlack k byCharger) := .cond h (.setStr h)
theorem abortSlack (h : Keeps s₀ s) : Keeps s₀ (s.abortSlack k) := .cond (.spmCompute (.setStr h)) h
theorem slackPoint (h : Keeps s₀ s) : Keeps s₀ (s.slackPoint k) := .spmCompute (.setStr (.cond h (.cond (.restPoint h) (.restPoint h))))
theorem replaceString (h : Keeps s₀ s) : Keeps s₀ (s.replaceString k) := .setCharger (.setStr h)
theorem commitString {atEnd : Bool} (h : Keeps s₀ s) : Keeps s₀ (s.commitString k atEnd) := .setStr h
theorem commitEst {atEnd : Bool} (h : Keeps s₀ s) : Keeps s₀ (s.commitEst atEnd) := .forUnits h fun h1 => .commitCopy h1 .commitString

/-! The charge cycle and black start (chapter 09). -/

theorem raiseCharger (h : Keeps s₀ s) : Keeps s₀ (s.raiseCharger k kind) := .raiseWith h
theorem enterPhase {p : ChargePhase} (h : Keeps s₀ s) : Keeps s₀ (s.enterPhase k p) := .setCharger h
theorem completeCycle {skipped : Bool} (h : Keeps s₀ s) : Keeps s₀ (s.completeCycle k skipped) :=
  .clearing (.clearing (.setStr (.setCharger (.enterPhase h))))
theorem enterFinal (h : Keeps s₀ s) : Keeps s₀ (s.enterFinal k) := .cond (.completeCycle h) (.requestSlack (.enterPhase h))
theorem afterPulse (h : Keeps s₀ s) : Keeps s₀ (s.afterPulse k) := .cond (.enterPhase h) (.enterFinal h)
theorem endCycle (h : Keeps s₀ s) : Keeps s₀ (s.endCycle k cause) := .enterPhase (.setCharger (.cond (.setStr (.abortSlack h)) h))
theorem startCycle (h : Keeps s₀ s) : Keeps s₀ (s.startCycle k) := .clearing (.setCharger (.enterPhase h))
theorem chargeTimers (h : Keeps s₀ s) : Keeps s₀ (s.chargeTimers k dt) := .setCharger h
theorem restStep (h : Keeps s₀ s) : Keeps s₀ (s.restStep k) := .cond (.setCharger h) h

theorem phaseStep (h : Keeps s₀ s) : Keeps s₀ (s.phaseStep k dt) := by
  unfold State.phaseStep
  extract_lets _ _ s1
  have h1 : Keeps s₀ s1 := .setCharger h
  split
  · exact .cond (.cond (.afterPulse h) (.enterPhase h)) h
  · exact .restStep h
  · exact .cond (.enterFinal h1) (.setCharger h)
  · exact .cond (.requestSlack h) h
  · exact h
  · exact h
  · exact h

theorem setPaused {p : Bool} (h : Keeps s₀ s) : Keeps s₀ (s.setPaused k p) := .cond (.setCharger h) (.cond (.setCharger h) h)

theorem chargeStep (h : Keeps s₀ s) : Keeps s₀ (s.chargeStep k) := by
  unfold State.chargeStep
  refine .cond h ?_
  extract_lets _ _ _ s1 _ s2 _ s3
  have h1 : Keeps s₀ s1 := .setCharger h
  have h2 : Keeps s₀ s2 := .chargeTimers (.setPaused h1)
  have h3 : Keeps s₀ s3 := .cond (.setCharger h2) h2
  exact .cond (.cond (.chargeTimers (.startCycle h1)) h1) (.cond (.endCycle h1) (.cond (.completeCycle h1) (.cond h3 (.phaseStep h3))))

theorem applyChargeStart (h : Keeps s₀ s) : Keeps s₀ (s.applyChargeStart k) := .setCharger (.setObjN h)
theorem applyChargeStop (h : Keeps s₀ s) : Keeps s₀ (s.applyChargeStop k) := .cond (.endCycle (.setObjN h)) (.setCharger (.setObjN h))
theorem applyEqRequest (h : Keeps s₀ s) : Keeps s₀ (s.applyEqRequest k) := .setCharger (.setObjN h)
theorem applyEqAbort (h : Keeps s₀ s) : Keeps s₀ (s.applyEqAbort k) := .cond (.enterFinal (.setCharger (.setObjN h))) (.setObjN h)
theorem endRest (h : Keeps s₀ s) : Keeps s₀ (s.endRest k) := .cond (.spmCompute (.afterPulse (.setCharger h))) (.spmCompute (.setCharger h))

theorem enterBlackstart (h : Keeps s₀ s) : Keeps s₀ s.enterBlackstart := by
  unfold State.enterBlackstart
  exact .spmCompute (.autoFeeds (.retargetBus (.setPg (.update (.fields (.forUnits (.enterMode h) .applyStageStop)) .supersede))))

theorem bsSample (h : Keeps s₀ s) : Keeps s₀ (s.bsSample md) := .cond (.fields h) h

/-! The image check (chapter 17). -/

theorem underImage {content : Image} (h : Keeps s₀ s) : Keeps s₀ (s.underImage content) := .fields h

/-! The counter block, the last breath and a start through BOOT (chapter 02). -/

theorem writeCounters (h : Keeps s₀ s) : Keeps s₀ (s.writeCounters last) := .fields h
theorem commitCounters (h : Keeps s₀ s) : Keeps s₀ (s.commitCounters last) := .commitCopy h .writeCounters
theorem restoreCounters (h : Keeps s₀ s) : Keeps s₀ s.restoreCounters := .forUnits (.forUnits (.fields h) .setFeed) .setRail
theorem breathStops {railsOff : Bool} (h : Keeps s₀ s) : Keeps s₀ (s.breathStops reason railsOff) :=
  .forUnits (.update (.update (.releaseOwn (.outputsSafe h)) .railsOff) .endFreeze) fun h1 => .cond (.abandonWindow h1) h1
theorem flushLog (h : Keeps s₀ s) : Keeps s₀ s.flushLog := .fields h
theorem breathRecords {src : Nat} {vao : Rat} {cut : Option Nat} (h : Keeps s₀ s) : Keeps s₀ (s.breathRecords src vao cut) := .fields h
theorem holdRegions (h : Keeps s₀ s) : Keeps s₀ s.holdRegions := .mode h

theorem breathShort {short : Bool} (h : Keeps s₀ s) : Keeps s₀ (s.breathShort short).2.2 := by
  unfold State.breathShort
  split
  · exact .drawBool (.drawBool (.drawBool h))
  · exact h

theorem lastBreath {src : Nat} {rst railsOff short : Bool} (h : Keeps s₀ s) : Keeps s₀ (s.lastBreath src rst railsOff short) := by
  unfold State.lastBreath
  extract_lets _ s1 _ s2 _ s3 d e v _ s4 cut s5 _ s6 _ s7 _ s8
  have h1 : Keeps s₀ s1 := .supersedeRequest h
  have h2 : Keeps s₀ s2 := .fields h1
  have h3 : Keeps s₀ s3 := .cond h2 (.breathStops h2)
  have h4 : Keeps s₀ d.2 := .draw h3
  have h5 : Keeps s₀ e.2 := .draw h4
  have h6 : Keeps s₀ v.2 := .draw h5
  have h7 : Keeps s₀ s4 := .commitCounters h6
  have h8 : Keeps s₀ cut.2.2 := .breathShort h7
  have h9 : Keeps s₀ s5 := h8
  have h10 : Keeps s₀ s6 := .cond h9 (.breathRecords h9)
  have h11 : Keeps s₀ s7 := .cond h10 (.fields h10)
  have h12 : Keeps s₀ s8 := .fields h11
  exact .driveTrip (.holdRegions h12)

theorem startString (h : Keeps s₀ s) : Keeps s₀ (s.startString k) := .cond (.raise (.setStr h)) (.reraiseString (.setStr h))

/-- A start without a POR: AO keeps its latch and the cause (R333), and MRAM what it holds. -/
theorem fresh (h : Keeps s₀ s) : Keeps s₀ (s.fresh false) := by
  unfold State.fresh
  refine .parts h id id fun hwf => ?_
  obtain ⟨-, hmram⟩ := Bool.and_eq_true_iff.mp hwf
  exact Bool.and_eq_true_iff.mpr ⟨rfl, hmram⟩

theorem imageNote {event slot : Nat} (h : Keeps s₀ s) : Keeps s₀ (s.imageNote event kind slot reason) := .note h

theorem checkSlot {slot : Nat} {fw : ImgHeader} (h : Keeps s₀ s) : Keeps s₀ (s.checkSlot kind slot fw).1 := by
  unfold State.checkSlot
  extract_lets
  split
  · exact h
  · exact .imageNote (.fields h)

theorem pickSlot {fw : ImgHeader} (h : Keeps s₀ s) : Keeps s₀ (s.pickSlot kind fw).1 := by
  unfold State.pickSlot
  extract_lets _ a b
  have ha : Keeps s₀ a.1 := .checkSlot h
  have hb : Keeps s₀ b.1 := .checkSlot ha
  split
  · exact ha
  · split
    · exact .imageNote (.fields hb)
    · exact hb

theorem trialEnd (h : Keeps s₀ s) : Keeps s₀ s.trialEnd := .cond (.fields (.imageNote h)) h
theorem trialStart {slot : Nat} (h : Keeps s₀ s) : Keeps s₀ (s.trialStart slot) := .cond (.fields h) h
theorem applyStored (h : Keeps s₀ s) : Keeps s₀ s.applyStored := .foldl (.cond (.fields h) h) fun h1 => .cond (.fields h1) (.note h1)
theorem loadHomes (h : Keeps s₀ s) : Keeps s₀ s.loadHomes := .fields h
theorem startSev (h : Keeps s₀ s) : Keeps s₀ s.startSev := .fields h

theorem loadUnits (h : Keeps s₀ s) : Keeps s₀ s.loadUnits := by
  unfold State.loadUnits
  extract_lets s1 s2 s3 s4 s5 s6
  have h1 : Keeps s₀ s1 := .forUnits h .latchScale
  have h2 : Keeps s₀ s2 := .forUnits h1 .setPhase
  have h3 : Keeps s₀ s3 := .forUnits h2 .restPg
  have h4 : Keeps s₀ s4 := .forUnits h3 .setStage
  have h5 : Keeps s₀ s5 := .forUnits h4 .startString
  have h6 : Keeps s₀ s6 := .forUnits h5 .setBerth
  exact .fields h6

theorem startPair (h : Keeps s₀ s) : Keeps s₀ s.startPair := .mode h

theorem tornCheck (h : Keeps s₀ s) : Keeps s₀ s.tornCheck := by
  unfold State.tornCheck
  split
  · exact h
  · exact .cond (.fields h) (.note (.fields (.fields h)))

theorem startAo (h : Keeps s₀ s) : Keeps s₀ (s.startAo cause) := .milestone (.update (.follow (.fields (.enterMode (.fields h)))) .raise)
theorem enterPilot {train : Nat} (h : Keeps s₀ s) : Keeps s₀ (s.enterPilot cause train) := .startMem (.startSram (.raise (.enterMode (.fields h))))

theorem startImage {train : Nat} (h : Keeps s₀ s) : Keeps s₀ (s.startImage cause train) := by
  unfold State.startImage
  extract_lets _ _ s1 s2 s3 s4 s5
  have h1 : Keeps s₀ s1 := .fields h
  have h2 : Keeps s₀ s2 := .loadVid (.loadAgeing (.loadUnits (.startSev (.loadHomes (.applyStored h1)))))
  have h3 : Keeps s₀ s3 := .reloadEngines (.startMem (.startSram h2))
  have h4 : Keeps s₀ s4 := .milestone (.note h3)
  have h5 : Keeps s₀ s5 := .startPair h4
  exact .fields h5

theorem backToLayup (h : Keeps s₀ s) : Keeps s₀ s.backToLayup := .flushLog (.enterMode (.forUnits h .raise))

theorem startFrom {wakeLow : Bool} {train : Nat} (h : Keeps s₀ s) : Keeps s₀ (s.startFrom cause wakeLow train) := by
  unfold State.startFrom
  extract_lets _ s1 _ s2 s3 f s4
  have h1 : Keeps s₀ s1 := .startAo (.fields h)
  have h2 : Keeps s₀ s2 := .cond (.commitCounters (.fields h1)) h1
  have h3 : Keeps s₀ s3 := .trialEnd (.tornCheck h2)
  have h4 : Keeps s₀ f.1 := .pickSlot h3
  have h5 : Keeps s₀ s4 := h4
  refine .cond (.enterPilot h1) ?_
  split
  · exact .enterPilot h4
  · extract_lets s5 c s6
    have h6 : Keeps s₀ s5 := .trialStart (.fields h5)
    have h7 : Keeps s₀ c.1 := .pickSlot h6
    have h8 : Keeps s₀ s6 := h7
    split
    · exact .enterPilot h7
    · exact .update (.startImage (.fields h8)) .backToLayup

theorem endHeldFreeze (h : Keeps s₀ s) : Keeps s₀ s.endHeldFreeze := .cond (.endFreeze h) h
theorem restart {train : Nat} (h : Keeps s₀ s) : Keeps s₀ (s.restart cause train) := .startFrom (.fresh (.endHeldFreeze h))
theorem selfRestart (h : Keeps s₀ s) : Keeps s₀ s.selfRestart := .lastBreath h

/-! Two-wire ports and berths (chapter 14). -/

theorem busyFor {t : Rat} (h : Keeps s₀ s) : Keeps s₀ (s.busyFor p t) := .cond (.setPort h) (.setPort h)
theorem completed {t : Rat} (h : Keeps s₀ s) : Keeps s₀ (s.completed p t) := .clearing (.setPort (.busyFor h))
theorem transacted {read : Bool} (h : Keeps s₀ s) : Keeps s₀ (s.transacted p n read) := .completed h
theorem depart (h : Keeps s₀ s) : Keeps s₀ (s.depart b cause) := .raise (.note (.handbackWatch (.fields (.setPort (.setBerth h)))))

theorem beginArrival {a : Arrival} (h : Keeps s₀ s) : Keeps s₀ (s.beginArrival b a) := by
  unfold State.beginArrival
  extract_lets _ _ s1 s2 _ s3
  have h1 : Keeps s₀ s1 := .setBerth h
  have h2 : Keeps s₀ s2 := .completed h1
  have h3 : Keeps s₀ s3 := .setBerth h2
  refine .cond h2 ?_
  split
  · exact .cond (.setBerth h3) h3
  · exact h3

theorem stray {a : Nat} (h : Keeps s₀ s) : Keeps s₀ (s.stray p a) := .note (.setPort h)
theorem spareOut (h : Keeps s₀ s) : Keeps s₀ (s.spareOut p) := .raise (.setPort h)

theorem foundArp {a : Arrival} (h : Keeps s₀ s) : Keeps s₀ (s.foundArp a) := by
  unfold State.foundArp
  extract_lets _ s1
  have h1 : Keeps s₀ s1 := by
    unfold s1
    split
    · exact .depart h
    · exact h
  split
  · exact .beginArrival (.completed h1)
  · exact .stray (.completed h1)
  · exact .spareOut (.completed h1)

theorem foundFixed {disc : Bool} {a : Arrival} (h : Keeps s₀ s) : Keeps s₀ (s.foundFixed disc a) := by
  unfold State.foundFixed
  split
  · exact .beginArrival h
  · exact h

theorem goOn (h : Keeps s₀ s) : Keeps s₀ (s.goOn p n) := by
  induction n generalizing s with
  | zero => exact h
  | succ n ih =>
    unfold State.goOn
    refine .cond h ?_
    extract_lets
    split
    · exact ih (.update (.setPort h) .foundArp)
    · exact .foldl (.setPort h) .foundFixed

theorem forgetFailed (h : Keeps s₀ s) : Keeps s₀ (s.forgetFailed p) := .forUnits h fun h1 => .cond h1 (.setBerth h1)
theorem found {disc : Bool} {l : List Arrival} (h : Keeps s₀ s) : Keeps s₀ (s.found p disc l) := .goOn (.setPort (.completed (.forgetFailed h)))

theorem clearSpare (h : Keeps s₀ s) : Keeps s₀ s.clearSpare := by
  unfold State.clearSpare
  split
  · exact .cond (.clearing h) h
  · exact h

theorem discoveryDone (h : Keeps s₀ s) : Keeps s₀ (s.discoveryDone p) := .update (.cond (.clearSpare (.setPort (.goOn h))) (.goOn h)) .mode
theorem discover {l : List Arrival} (h : Keeps s₀ s) : Keeps s₀ (s.discover p l) := .update (.cond (.busyFor (.setPort h)) (.setPort h)) .found
theorem consume (h : Keeps s₀ s) : Keeps s₀ (s.consume b) :=
  .cond (.raiseWith (.railPoll (.handbackWatch (.fields h)))) (.clearing (.railPoll (.handbackWatch (.fields h))))
theorem commitRun {r : Run} (h : Keeps s₀ s) : Keeps s₀ (s.commitRun r) :=
  .consume (.update (.clearing (.clearing (.setBerth h))) fun h1 => .clearing (.note (.setBerth h1)))

theorem failRun (h : Keeps s₀ s) : Keeps s₀ (s.failRun p kind) := by
  unfold State.failRun
  split
  · exact h
  · exact .cond (.setPort h) (.discoveryDone (.update (.raise (.handbackWatch (.fields (.setBerth (.setPort h))))) .depart))

theorem setRun {r : Run} (h : Keeps s₀ s) : Keeps s₀ (s.setRun p r) := .setPort h
theorem busRead {r : Run} {ack pecOk : Bool} {t : Run} (h : Keeps s₀ s) : Keeps s₀ (s.busRead p r n ack pecOk t) :=
  .cond (.failRun (.busyFor h)) (.cond (.failRun (.busyFor h)) (.setRun (.transacted h)))
theorem wrote (h : Keeps s₀ s) : Keeps s₀ (s.wrote p cmd data) := .setPort h
theorem busWrite {r : Run} {ack : Bool} {t : Run} (h : Keeps s₀ s) : Keeps s₀ (s.busWrite p r cmd data ack t) :=
  .cond (.failRun (.busyFor h)) (.setRun (.wrote (.transacted h)))
theorem setPage {page : Nat} (h : Keeps s₀ s) : Keeps s₀ (s.setPage b page) := .setBerth h

theorem runFree (h : Keeps s₀ s) : Keeps s₀ (s.runFree p op) := by
  unfold State.runFree
  split
  · exact h
  · extract_lets s1
    have h1 : Keeps s₀ s1 := .fields h
    split
    · exact .setRun h1
    · exact .failRun h1

theorem takeWork {w : Work} (h : Keeps s₀ s) : Keeps s₀ (s.takeWork p w) := .setPort h
theorem takeRun (h : Keeps s₀ s) : Keeps s₀ (s.takeRun p b) := .setBerth (.takeWork (.setPort h))

theorem cutRun (h : Keeps s₀ s) : Keeps s₀ (s.cutRun p) := by
  unfold State.cutRun
  split
  · exact h
  · exact .setBerth (.setPort h)

theorem dropForeign (h : Keeps s₀ s) : Keeps s₀ (s.dropForeign p) := by
  unfold State.dropForeign
  split
  · exact .cond h (.setPort h)
  · exact h

theorem cmdFailed {c : PCmd} (h : Keeps s₀ s) : Keeps s₀ (s.cmdFailed p c) := .cond (.setPort h) (.raise (.setBerth (.setPort h)))
theorem pageZero (h : Keeps s₀ s) : Keeps s₀ (s.pageZero p b) := .setPage (.wrote (.transacted h))
theorem cmdDone {c : PCmd} (h : Keeps s₀ s) : Keeps s₀ (s.cmdDone p c v) := .setBerth (.setPort (.update (.transacted h) .wrote))
theorem sendCmd {c : PCmd} {ack pecOk : Bool} (h : Keeps s₀ s) : Keeps s₀ (s.sendCmd p c ack pecOk v) :=
  .cond (.cond (.pageZero h) (.cmdFailed h)) (.cond (.cmdDone h) (.cmdFailed h))

theorem finishLeaving (h : Keeps s₀ s) : Keeps s₀ s.finishLeaving := by
  unfold State.finishLeaving
  split
  · exact .cond (.restart (.fields (.releaseOwn h))) h
  · exact h

theorem failTransaction (h : Keeps s₀ s) : Keeps s₀ (s.failTransaction p) := by
  unfold State.failTransaction
  split
  · split
    · exact .cmdFailed h
    · exact .takeWork h
  · exact .failRun h
  · exact .takeWork h

theorem applyBerthDisable (h : Keeps s₀ s) : Keeps s₀ (s.applyBerthDisable b) := .cond (.depart (.setObjN h)) (.setBerth (.setObjN h))

theorem alertBerth (h : Keeps s₀ s) : Keeps s₀ (s.alertBerth p addr) := by
  unfold State.alertBerth
  split
  · exact .setBerth (.setPort h)
  · exact h

theorem targetTakes (h : Keeps s₀ s) : Keeps s₀ (s.targetTakes p) := .mode h
theorem busyTarget {m : TargetMsg} (h : Keeps s₀ s) : Keeps s₀ (s.busyTarget p m) := .cond (.setPort h) (.setPort h)
theorem lateNack (h : Keeps s₀ s) : Keeps s₀ (s.lateNack p) := .setPort h
theorem messageServed (h : Keeps s₀ s) : Keeps s₀ s.messageServed := .cond (.mode (.serveRegions h)) h
theorem takeNotify {data : Nat} (h : Keeps s₀ s) : Keeps s₀ (s.takeNotify p addr data) := .alertBerth (.setPort h)
theorem takeBlock {pecOk : Bool} (h : Keeps s₀ s) : Keeps s₀ (s.takeBlock p cmd data pecOk) := .cond (.setPort h) h
theorem answerRead (h : Keeps s₀ s) : Keeps s₀ (s.answerRead p) := .setPort h

theorem endStretch (h : Keeps s₀ s) : Keeps s₀ (s.endStretch p) := by
  unfold State.endStretch
  dsimp only
  split
  · exact .takeNotify (.setPort h)
  · exact .takeBlock (.setPort h)
  · exact .answerRead (.setPort h)
  · exact .setPort h

theorem heardOn {r : Run} (h : Keeps s₀ s) : Keeps s₀ (s.heardOn p r) := by
  unfold State.heardOn
  extract_lets _ s1
  have h1 : Keeps s₀ s1 := .setPort h
  split
  · exact h1
  · split
    · exact .cond (.commitRun h1) (.setPort h1)
    · exact h1

theorem hear {write : Bool} (h : Keeps s₀ s) : Keeps s₀ (s.hear p b cmd write data) := by
  unfold State.hear
  dsimp only
  split
  · split
    · exact .heardOn (.cond (.setPage h) h)
    · split
      · exact .heardOn (.cond (.setPage h) h)
      · exact .setPort (.cond (.setPage h) h)
  · split
    · exact .heardOn (.cond (.setPage h) h)
    · exact .cond (.setPage h) h

theorem joinCheck (h : Keeps s₀ s) : Keeps s₀ s.joinCheck := .cond (.milestone h) h

/-! How strings join (chapter 02). -/

theorem prechargeRest (h : Keeps s₀ s) : Keeps s₀ (s.prechargeRest k) := .cond (.cond (.setStr h) (.cond (.restPoint h) h)) h
theorem startPrecharge (h : Keeps s₀ s) : Keeps s₀ (s.startPrecharge k) := .setStr (.clearing (.prechargeRest h))

theorem beginPrecharge (h : Keeps s₀ s) : Keeps s₀ (s.beginPrecharge n) := by
  unfold State.beginPrecharge
  split
  · exact .forUnits h .startPrecharge
  · exact h

theorem connect (h : Keeps s₀ s) : Keeps s₀ (s.connect k) := .autoStart (.clearing (.setStr h))
theorem beginJoining (h : Keeps s₀ s) : Keeps s₀ s.beginJoining := .beginPrecharge (.forUnits h .autoStart)

/-! The Kopol link and the pair (chapter 12). -/

theorem claim (h : Keeps s₀ s) : Keeps s₀ s.claim := .fields h
theorem setReady (h : Keeps s₀ s) : Keeps s₀ s.setReady := .fields h
theorem followDescent (h : Keeps s₀ s) : Keeps s₀ s.followDescent := .beginDescent h
theorem outputsLow (h : Keeps s₀ s) : Keeps s₀ s.outputsLow := .forUnits (.forUnits (.forUnits h .setPhase) .setFeed) .setStr
theorem takePhase (h : Keeps s₀ s) : Keeps s₀ (s.takePhase n p) := .setPhase h
theorem takeOutputs (h : Keeps s₀ s) : Keeps s₀ s.takeOutputs :=
  .forUnits (.forUnits (.forUnits h fun h1 => .engageHold (.forUnits h1 .takePhase)) .setFeed) .setStr
theorem takeShelf (h : Keeps s₀ s) : Keeps s₀ (s.takeShelf cause) :=
  .cond (.fields (.enterMode h)) (.unless (.enterActive h) fun h1 => .fields (.cond h1 (.enterMode h1)))
theorem lockStep {err : Rat} (h : Keeps s₀ s) : Keeps s₀ (s.lockStep err) := .cond (.raise (.fields h)) (.update (.fields (.draw h)) .clearing)

theorem sameDigest (h : Keeps s₀ s) : Keeps s₀ s.sameDigest.2 := by
  unfold State.sameDigest
  split
  · exact .drawBool h
  · exact h

theorem dualClaim (h : Keeps s₀ s) : Keeps s₀ s.dualClaim := by
  unfold State.dualClaim
  refine .cond ?_ h
  extract_lets _ _ s1 _ s2
  have h1 : Keeps s₀ s1 := .releaseOwn (.sameDigest h)
  have h2 : Keeps s₀ s2 := .fields h1
  refine .cond ?_ (.cond (.enterMode (.outputsLow h2)) h2)
  exact .cond (.enterMode (.outputsLow h2)) (.beginDescent (.supersedeRequest (.outputsSafe h2)))

theorem pairReach (h : Keeps s₀ s) : Keeps s₀ (s.pairReach n) := .imageNote (.fields h)
theorem applyHandover (h : Keeps s₀ s) : Keeps s₀ s.applyHandover := .fields h

theorem pairProgress (h : Keeps s₀ s) : Keeps s₀ (s.pairProgress hb) := by
  unfold State.pairProgress
  extract_lets s1 s2
  have h1 : Keeps s₀ s1 := .cond (.pairReach h) h
  have h2 : Keeps s₀ s2 := .cond (.pairReach (.applyHandover h1)) h1
  exact .cond (.selfRestart (.pairReach h2)) (.cond (.pairReach h2) h2)

theorem sendSnapshot (h : Keeps s₀ s) : Keeps s₀ s.sendSnapshot := .fields (.sendFrame h)

theorem holderHears (h : Keeps s₀ s) : Keeps s₀ (s.holderHears hb) := by
  unfold State.holderHears
  extract_lets _ s1 _ _ _ s2
  have h1 : Keeps s₀ s1 := .cond (.fields h) h
  have h2 : Keeps s₀ s2 := .fields h1
  exact .cond (.fields h2) (.cond h2 (.cond (.fields h2) (.sendSnapshot h2)))

theorem followGate {g : Bool} (h : Keeps s₀ s) : Keeps s₀ (s.followGate f g) := .cond h (.updatePg (.setFeed h))
theorem followerHears {err : Rat} (h : Keeps s₀ s) : Keeps s₀ (s.followerHears hb err) :=
  .update (.setReady (.lockStep (.forUnits (.fields h) .followGate))) .followDescent

theorem takeHeartbeat {err : Rat} (h : Keeps s₀ s) : Keeps s₀ (s.takeHeartbeat hb err) := by
  unfold State.takeHeartbeat
  extract_lets _ s1 s2 s3
  have h1 : Keeps s₀ s1 := .fields h
  have h2 : Keeps s₀ s2 := .clearing (.clearing h1)
  have h3 : Keeps s₀ s3 := .cond (.dualClaim h2) (.cond (.holderHears h2) (.cond (.followerHears h2) h2))
  exact .pairProgress h3

theorem seqIn {ok : Bool} (h : Keeps s₀ s) : Keeps s₀ (s.seqIn c seq ok).1 := by
  unfold State.seqIn
  split
  · exact .fields h
  · exact .fields h

theorem frameIn {type : Nat} {hd : FrameHead} {crcOk : Bool} (h : Keeps s₀ s) : Keeps s₀ (s.frameIn c type hd crcOk).1 := .seqIn h
theorem elect {wins : Bool} (h : Keeps s₀ s) : Keeps s₀ (s.elect wins) := .milestone (.fields (.update (.fields (.drawBool h)) .claim))

theorem followStep (h : Keeps s₀ s) : Keeps s₀ (s.followStep st j) := by
  unfold State.followStep
  split
  · exact .startStage h
  · exact .setStage (.prebias h)
  · exact .setStage (.prebiasLoad h)
  · exact .beginRamp h
  · exact .setStage h

theorem followPhases {on : Bool} {n : StageNews} (h : Keeps s₀ s) : Keeps s₀ (s.followPhases st on n) :=
  .forUnits h fun h1 => .setPhase (.cond (.setObserver h1) h1)
theorem followAngles {set : Nat} (h : Keeps s₀ s) : Keeps s₀ (s.followAngles st set) := .setStage (.foldl h .setPhase)

theorem takeNews {n : StageNews} (h : Keeps s₀ s) : Keeps s₀ (s.takeNews st n) := by
  unfold State.takeNews
  refine .cond (.followPhases (.stopStage h)) ?_
  extract_lets _ s1 _ s2 s3 _ s4 s5 _ s6
  have h1 : Keeps s₀ s1 := .followPhases h
  have h2 : Keeps s₀ s2 := .forUnits h1 .followStep
  have h3 : Keeps s₀ s3 := .cond (.followAngles h2) h2
  have h4 : Keeps s₀ s4 := by
    unfold s4
    split
    · exact h3
    · exact .setObserver h3
  have h5 : Keeps s₀ s5 := .foldl h4 .setObsPhase
  have h6 : Keeps s₀ s6 := .setObserver h5
  exact .setStage h6

theorem joinStage {n : StageNews} (h : Keeps s₀ s) : Keeps s₀ (s.joinStage st n) :=
  .setStage (.foldl (.followPhases (.forUnits h .setInst)) .setPhase)
theorem dueNews (h : Keeps s₀ s) : Keeps s₀ (s.dueNews st) := .foldl (.setStage h) fun h1 => .cond (.railsFollow (.takeNews h1)) h1
theorem rcFollow {ph T : Rat} (h : Keeps s₀ s) : Keeps s₀ (s.rcFollow n ph T) :=
  .setRc (.cond h (.cond (.cond (.rcUnlock h) h) (.cond h (.clearing (.cond (.rcApply h) (.rcFresh h))))))
theorem takeSpm {m : Spm} (h : Keeps s₀ s) : Keeps s₀ (s.takeSpm m) := .forUnits (.fields h) .setWindow
theorem takeWindows {l : List SlackNews} (h : Keeps s₀ s) : Keeps s₀ (s.takeWindows l) := .forUnits h .setStr

theorem takeTrack {m : TrackMsg} (h : Keeps s₀ s) : Keeps s₀ (s.takeTrack m) := by
  unfold State.takeTrack
  split
  · exact .dueNews (.fields h)
  · exact .setPg h
  · exact .rcFollow h
  · exact .takeWindows (.takeSpm h)
  · exact .setStr h
  · exact .setCharger h
  · exact .fields h
  · exact .fields (.settleTime h)

theorem keepEarly {k : Option Nat} {b : KopolBody} (h : Keeps s₀ s) : Keeps s₀ (s.keepEarly k b) := .fields h

theorem takeAlign {items : List AlignItem} (h : Keeps s₀ s) : Keeps s₀ (s.takeAlign k items) := by
  unfold State.takeAlign
  refine .cond (.fields h) ?_
  split
  · exact h
  · exact .fields (.foldl h .setInst)

theorem takeCommon {key : Nat} (h : Keeps s₀ s) : Keeps s₀ (s.takeCommon key data) :=
  .cond (.applyTimeSet h) (.cond (.applyPhase h) (.cond (.applyTraceable h) (.cond (.applyShareTrim h) (.cond (.setObj h) h))))
theorem dueMirrors (h : Keeps s₀ s) : Keeps s₀ (s.dueMirrors k) := .foldl (.fields h) .takeCommon
theorem takeMirror {key : Nat} (h : Keeps s₀ s) : Keeps s₀ (s.takeMirror k key data) := .cond (.fields h) (.takeCommon h)
theorem tryTrack (h : Keeps s₀ s) : Keeps s₀ s.tryTrack := .cond (.setReady (.enterMode h)) h

theorem takeEarly (h : Keeps s₀ s) : Keeps s₀ (s.takeEarly k) := by
  unfold State.takeEarly
  dsimp only
  refine .foldl (.fields h) fun h1 => ?_
  split
  · exact .takeTrack h1
  · exact .takeMirror h1
  · exact h1

theorem takeCommons {l : List (Nat × List Byte)} (h : Keeps s₀ s) : Keeps s₀ (s.takeCommons l) := .foldl (.fields h) .takeCommon

theorem takeSnapshot {p : Snapshot} (h : Keeps s₀ s) : Keeps s₀ (s.takeSnapshot p) := by
  unfold State.takeSnapshot
  extract_lets _ s1 s2 s3 s4 _ _ s5 s6 _ s7
  have h1 : Keeps s₀ s1 := .fields h
  have h2 : Keeps s₀ s2 := .takeWindows (.takeSpm h1)
  have h3 : Keeps s₀ s3 := .forUnits h2 .setStr
  have h4 : Keeps s₀ s4 := .takeCommons h3
  have h5 : Keeps s₀ s5 := .forUnits h4 fun h6 => .railsFollow (.cond (.takeNews h6) (.joinStage h6))
  have h7 : Keeps s₀ s6 := .forUnits h5 fun h8 => .railsFollow (.followPhases (.cond (.stopStage h8) (.setStage h8)))
  have h9 : Keeps s₀ s7 := .fields h7
  exact .takeEarly h9

theorem applySnapshot {p : Snapshot} (h : Keeps s₀ s) : Keeps s₀ (s.applySnapshot p) := .cond (.tryTrack (.setReady (.takeSnapshot h))) (.fields h)

theorem applyHeld (h : Keeps s₀ s) : Keeps s₀ s.applyHeld := by
  unfold State.applyHeld
  split
  · exact .applySnapshot h
  · exact .tryTrack h

theorem takeover (h : Keeps s₀ s) : Keeps s₀ s.takeover :=
  .emcyOf (.trigEvent (.record (.takeShelf (.fields (.fields (.claim (.takeOutputs (.supersedeRequest (.draw h)))))))))
theorem selfRelease (h : Keeps s₀ s) : Keeps s₀ (s.selfRelease reason) := .cond (.fields (.releaseOwn h)) h
theorem tripAfterRelease (h : Keeps s₀ s) : Keeps s₀ s.tripAfterRelease := .cond (.mode h) h
theorem cancelHandover (h : Keeps s₀ s) : Keeps s₀ s.cancelHandover := .cond (.fields h) h

/-! Images and their updates (chapter 17). -/

theorem beginUpdate {size : Nat} (h : Keeps s₀ s) : Keeps s₀ (s.beginUpdate kind size) := .imageNote (.fields h)
theorem commitUpdate {content : Image} (h : Keeps s₀ s) : Keeps s₀ (s.commitUpdate content) := .imageNote (.fields h)
theorem checkReads {bad : List Nat} {corrected : Nat} (h : Keeps s₀ s) : Keeps s₀ (s.checkReads bad corrected) :=
  .forUnits (.mem h) .uncorrectableWord
theorem leavePilot {train : Nat} (h : Keeps s₀ s) : Keeps s₀ (s.leavePilot train) := .restart h
theorem undoUpdate (h : Keeps s₀ s) : Keeps s₀ s.undoUpdate := .cond (.imageNote (.fields (.dropImageTransfers h))) h
theorem abortUpdate (h : Keeps s₀ s) : Keeps s₀ s.abortUpdate := .fields (.undoUpdate h)

theorem confirmTrial (h : Keeps s₀ s) : Keeps s₀ s.confirmTrial := by
  unfold State.confirmTrial
  split
  · exact h
  · exact .cond (.fields h) h

theorem loadIdleBanks (h : Keeps s₀ s) : Keeps s₀ s.loadIdleBanks := .fields h
theorem applyHitless (h : Keeps s₀ s) : Keeps s₀ s.applyHitless := .unless (.imageNote (.fields h)) .loadIdleBanks
theorem hitlessRefused (h : Keeps s₀ s) : Keeps s₀ s.hitlessRefused := .fields h
theorem undoHitless (h : Keeps s₀ s) : Keeps s₀ s.undoHitless := .cond (.imageNote (.fields h)) (.fields h)
theorem gapEnd (h : Keeps s₀ s) : Keeps s₀ s.gapEnd := .fields (.forUnits h fun h1 => .setCharger (.setEst h1))
theorem failTrial (h : Keeps s₀ s) : Keeps s₀ s.failTrial := .cond (.cond (.imageNote (.fields h)) (.fields h)) h
theorem finishHitless (h : Keeps s₀ s) : Keeps s₀ s.finishHitless := .cond (.fields h) h
theorem applyPairUpdate (h : Keeps s₀ s) : Keeps s₀ s.applyPairUpdate :=
  .cond (.pairReach (.applyHandover (.fields h))) (.pairReach (.sendFrame (.fields (.fields h))))
theorem undoPairUpdate (h : Keeps s₀ s) : Keeps s₀ s.undoPairUpdate :=
  .cond (.pairReach (.sendFrame (.fields (.cancelHandover (.fields h))))) (.fields h)
theorem applyKey (h : Keeps s₀ s) : Keeps s₀ (s.applyKey i data) := .fields h

/-! Closing sessions and ports (chapter 13). -/

theorem endUpdateOf {l : List Transfer} (h : Keeps s₀ s) : Keeps s₀ (s.endUpdateOf l) := .cond (.undoUpdate h) h

theorem closeNireo (h : Keeps s₀ s) : Keeps s₀ (s.closeNireo n) := by
  unfold State.closeNireo
  split
  · exact h
  · exact .fields (.freezeSessionClosed (.endUpdateOf h))

theorem closePort (h : Keeps s₀ s) : Keeps s₀ (s.closePort port) := .forUnits h .closeNireo

theorem dropSdo (h : Keeps s₀ s) : Keeps s₀ (s.dropSdo p v) := by
  unfold State.dropSdo
  split
  · exact h
  · exact .setSession (.endUpdateOf h)

theorem dropLevel (h : Keeps s₀ s) : Keeps s₀ (s.dropLevel ch) := by
  unfold State.dropLevel
  split
  · exact .setSession h
  · exact h

theorem dropSdos (h : Keeps s₀ s) : Keeps s₀ (s.dropSdos p) := .forUnits h .dropSdo
theorem preOperational (h : Keeps s₀ s) : Keeps s₀ (s.preOperational p) := .sendCan (.setCan h)
theorem canStart (h : Keeps s₀ s) : Keeps s₀ (s.canStart p) := .preOperational (.setCan h)
theorem canUp (h : Keeps s₀ s) : Keeps s₀ s.canUp := .forUnits h .canStart
theorem canBack (h : Keeps s₀ s) : Keeps s₀ s.canBack := .forUnits h .preOperational
theorem canDown (h : Keeps s₀ s) : Keeps s₀ s.canDown := .forUnits h fun h1 => .closePort (.dropSdos (.setCan h1))
theorem setPortFaults {u : Nat} {l : List Nat} (h : Keeps s₀ s) : Keeps s₀ (s.setPortFaults u l) := .cond (.setEth h) (.setCan h)
theorem portFault {u : Nat} (h : Keeps s₀ s) : Keeps s₀ (s.portFault u detail data) := .raiseWith (.setPortFaults h)
theorem portFaultEnd {u : Nat} (h : Keeps s₀ s) : Keeps s₀ (s.portFaultEnd u detail) := .cond (.update (.setPortFaults h) .clearing) h
theorem ethStart (h : Keeps s₀ s) : Keeps s₀ (s.ethStart p) := .setEth h
theorem ethUp (h : Keeps s₀ s) : Keeps s₀ s.ethUp := .forUnits h .ethStart
theorem networksDown (h : Keeps s₀ s) : Keeps s₀ s.networksDown := .fields (.closePort (.closePort (.closePort (.canDown h))))

/-! Modes (chapter 02). -/

theorem mooredStep (h : Keeps s₀ s) : Keeps s₀ (s.mooredStep k) := .setStr (.setEst (.report (.count (.setStr h))))
theorem mooredSteps (h : Keeps s₀ s) : Keeps s₀ s.mooredSteps := .forUnits h .mooredStep
theorem restartPair (h : Keeps s₀ s) : Keeps s₀ s.restartPair := .fields h
theorem memStarts {was : Bool} (h : Keeps s₀ s) : Keeps s₀ (s.memStarts was) := .cond (.startMem (.draw h)) h

/-- The entry to LOCKOUT sets the latch and leaves the cause as the raise put it (R332). -/
theorem enterLockout (h : Keeps s₀ s) : Keeps s₀ s.enterLockout := by
  have hs : Keeps s₀ ((s.outputsSafe .safe).releaseOwn 2).supersedeRequest := .supersedeRequest (.releaseOwn (.outputsSafe h))
  exact .memStarts (.enterMode (.parts hs (fun _ => rfl) id id))

theorem leaveMoored (h : Keeps s₀ s) : Keeps s₀ s.leaveMoored :=
  .update (.ethUp (.canUp (.restartPair (.mode (.mooredSteps h))))) fun h1 => .memStarts (.setRegion h1)
theorem enterRise (h : Keeps s₀ s) : Keeps s₀ (s.enterRise cause) :=
  .startRises (.forUnits (.forUnits (.seeEstop (.enterMode (.mode (.cond (.leaveMoored h) h)))) .reraiseString) .setStr)
theorem toRise (h : Keeps s₀ s) : Keeps s₀ (s.toRise cause) := .cond (.mode h) (.enterRise h)
theorem discoverAll {l : List Arrival} (h : Keeps s₀ s) : Keeps s₀ (s.discoverAll l) :=
  .update (.forUnits (.forUnits h .discover) .discoveryDone) .mode
theorem commonPulse (h : Keeps s₀ s) : Keeps s₀ s.commonPulse := .cond h (.fields h)
theorem endPrecharge (h : Keeps s₀ s) : Keeps s₀ (s.endPrecharge k) :=
  .cond (.setStr h) (.cond (.clearing (.setStr h)) (.shedString (.raise (.setStr h))))

theorem seeNet (h : Keeps s₀ s) : Keeps s₀ s.seeNet.1 := by
  unfold State.seeNet
  split
  · exact h
  · exact .fields (.drawBool h)

theorem enterService (h : Keeps s₀ s) : Keeps s₀ s.enterService := .commonPulse (.enterMode (.outputsSafe (.cond (.leaveMoored h) h)))
theorem leaveService {train : Nat} (h : Keeps s₀ s) : Keeps s₀ (s.leaveService train) := .finishLeaving (.mode (.endMargins h))
theorem beginLayup (h : Keeps s₀ s) : Keeps s₀ s.beginLayup := .cond (.setRegion (.setRegion (.setRegion (.fields h)))) (.fields h)
theorem lowerKept (h : Keeps s₀ s) : Keeps s₀ s.lowerKept := .forUnits (.beginLayup h) .startLower

theorem applyRequest {train : Nat} (h : Keeps s₀ s) : Keeps s₀ (s.applyRequest code train) := by
  unfold State.applyRequest
  extract_lets _ s1
  have h1 : Keeps s₀ s1 := .mode h
  exact .cond (.leaveService h1) (.cond (.enterService h1) (.cond (.toRise h1) (.cond (.lowerKept h1) (.beginDescent h1))))

theorem writeRequest {train : Nat} (h : Keeps s₀ s) : Keeps s₀ (s.writeRequest ch code train) := .guardedWrite h (.applyRequest h)
theorem requestFree (h : Keeps s₀ s) : Keeps s₀ (s.requestFree ch code) := .writeRequest (.draw h)
theorem stopStageRail (h : Keeps s₀ s) : Keeps s₀ (s.stopStageRail r) := .applyStageStop (.railOff h)
theorem keepGroup (h : Keeps s₀ s) : Keeps s₀ (s.keepGroup g) := .setRailGroup h

/-! Wakes and lay-up (chapter 02). -/

theorem serveWake (h : Keeps s₀ s) : Keeps s₀ (s.serveWake cause) := .mode (.enterMode (.mooredSteps h))
theorem wake {starts : Bool} (h : Keeps s₀ s) : Keeps s₀ (s.wake cause starts) :=
  .cond (.cond (.fields h) h) (.cond (.enterRise h) (.cond (.toRise (.serveWake h)) (.serveWake h)))
theorem mooredEntry {volts : List Rat} (h : Keeps s₀ s) : Keeps s₀ (s.mooredEntry e volts).1 := .railEntry (.thermEntry (.fields h))

theorem mooredEntries {volts : List Rat} {hit : Bool} {es : List Nat} (h : Keeps s₀ s) : Keeps s₀ (s.mooredEntries volts hit es).1 := by
  induction es generalizing s volts hit with
  | nil => exact h
  | cons e es ih => exact ih (.mooredEntry h)

theorem layupOpen {underLoad auxOpen : Bool} (h : Keeps s₀ s) : Keeps s₀ (s.layupOpen k underLoad auxOpen) :=
  .unless (.update (.setStr (.openString h)) fun h1 => .note (.fields h1)) .raise

theorem layupTurn {underLoad auxOpen : List Bool} (h : Keeps s₀ s) : Keeps s₀ (s.layupTurn underLoad auxOpen) := by
  unfold State.layupTurn
  split
  · exact h
  · exact .cond h (.cond (.fields h) (.layupOpen (.fields h)))

theorem layupStart {train : Nat} (h : Keeps s₀ s) : Keeps s₀ (s.layupStart c train) := .restart (.fields h)

theorem layupEnd (h : Keeps s₀ s) : Keeps s₀ s.layupEnd := by
  unfold State.layupEnd
  extract_lets _ s1 _ _ s2 s3 _ s4 d
  have h1 : Keeps s₀ s1 := .commitCounters (.commitEst h)
  have h2 : Keeps s₀ s2 := .fields h1
  have h3 : Keeps s₀ s3 := .flushLog (.networksDown (.enterMode h2))
  have h4 : Keeps s₀ s4 := .mode h3
  have h5 : Keeps s₀ d.2 := .draw h4
  split
  · exact .layupStart h5
  · exact h4

/-! Uncorrectable errors of SRAM (R448). -/

theorem seqWordBad (h : Keeps s₀ s) : Keeps s₀ (s.seqWordBad g) := by
  unfold State.seqWordBad
  split
  · exact .cond (.failGroup (.raise h)) h
  · exact .cond (.groupLowered (.forUnits (.raise h) .forceOff)) h
  · exact h

theorem degradeRc (h : Keeps s₀ s) : Keeps s₀ (s.degradeRc n) := .cond h (.rcFreeze (.rcDiverge h))
theorem degradeObserver (h : Keeps s₀ s) : Keeps s₀ (s.degradeObserver st) := .setObserver h

theorem sramLow (h : Keeps s₀ s) : Keeps s₀ (s.sramLow region unit item) := by
  unfold State.sramLow
  split
  · exact .seqWordBad h
  · exact .unless (.restoreCounters h) .raise
  · exact .cond (.selfRelease (.fields h)) (.fields h)
  · exact .fields h
  · exact .fields h
  · exact .raise (.fields h)
  · exact h

theorem abortReader {lp slot : Nat} (h : Keeps s₀ s) : Keeps s₀ (s.abortReader unit lp slot) := by
  unfold State.abortReader
  split
  · exact .cond (.abortRun h) h
  · exact h

theorem sramEng (h : Keeps s₀ s) : Keeps s₀ (s.sramEng unit item) :=
  .cond (.update (.abortReader h) .raise) (.cond (.raise h) (.cond (.cond (.degradeRc h) h) (.cond (.degradeObserver h) h)))

theorem sramNet (h : Keeps s₀ s) : Keeps s₀ (s.sramNet unit item) := by
  unfold State.sramNet
  split
  · exact .setEth h
  · exact .setEth h
  · exact .setCan h
  · exact .fields h
  · exact .raise h
  · exact .closeNireo h

theorem dropWaiting (h : Keeps s₀ s) : Keeps s₀ (s.dropWaiting i) := by
  unfold State.dropWaiting
  split
  · exact .settleDrops (.fields h)
  · exact .raise h

theorem sramHigh (h : Keeps s₀ s) : Keeps s₀ (s.sramHigh region unit item) := by
  unfold State.sramHigh
  split
  · exact .busErrorTo h
  · exact .dropWaiting h
  · exact .fields (.raise h)
  · exact .fields h
  · exact h

/-! Reads. -/

theorem challengeRead (h : Keeps s₀ s) : Keeps s₀ (s.challengeRead ch) := by
  unfold State.challengeRead
  dsimp only
  split
  · exact h
  · exact .reply (.fields (.setSession h))

theorem readObject {idx0 : Nat} (h : Keeps s₀ s) : Keeps s₀ (s.readObject ch idx0 sub) := by
  unfold State.readObject
  dsimp only
  refine .cond (.answerWrite h) ?_
  refine .cond (.answerWrite h) ?_
  exact .cond (.challengeRead h) (.cond (.readBlock h) (.cond (.answerWrite h) (.cond (.answerWrite h) (.reply h))))

/-! What an accepted write does (R384). -/

theorem regroup (h : Keeps s₀ s) : Keeps s₀ (s.regroup g) := .cond (.startGroup h) h
theorem regroupClock (h : Keeps s₀ s) : Keeps s₀ (s.regroupClock j) := .forUnits h .regroup
theorem retimeClock (h : Keeps s₀ s) : Keeps s₀ (s.retimeClock j) := .cond (.fields h) h
theorem rescale {scaling : Bool} (h : Keeps s₀ s) : Keeps s₀ (s.rescale md scaling) := .setMod h

theorem actMeasure (h : Keeps s₀ s) : Keeps s₀ (s.actMeasure idx sub data) := by
  unfold State.actMeasure
  dsimp only
  split
  · split
    · exact .regroup h
    · exact .regroup h
    · exact .regroup h
    · exact .rescale h
    · exact .rescale h
    · exact .rescale h
    · exact .applyCal h
    · exact .regroup h
    · exact .rescale h
    · exact .rescale h
    · exact .rescale h
    · exact h
  · exact .cond (.applyGroupEnable h) (.regroup h)
  · exact .cond (.regroupClock (.retimeClock h)) (.cond (.applySeqPeriod h) (.cond (.applySeqLength h) h))

theorem actStages (h : Keeps s₀ s) : Keeps s₀ (s.actStages idx sub data) := by
  unfold State.actStages
  dsimp only
  split
  · exact .cond h (.cond (.applyStageStart h) (.applyStageStop h))
  · exact .cond h (.cond (.returnPhase h) (.dropPhase h))
  · exact h

theorem limitWritten (h : Keeps s₀ s) : Keeps s₀ (s.limitWritten n) := .setPg h

theorem actSetpoints (h : Keeps s₀ s) : Keeps s₀ (s.actSetpoints idx sub data) := by
  unfold State.actSetpoints
  split
  · exact .cond (.acceptTarget h) (.cond (.limitWritten h) h)
  · split
    · exact .applyTableLength h
    · exact .applyRefPeriod h
    · exact .applyLearnGain h
    · exact .applyRcReset h
    · exact h
  · exact h

theorem actPower (h : Keeps s₀ s) : Keeps s₀ (s.actPower idx sub data) := by
  unfold State.actPower
  dsimp only
  split
  · exact .cond h (.cond (.applyFeedOn h) (.applyFeedOff h))
  · exact .cond (.acceptTarget h) (.cond (.fields h) (.cond (.applyShareTrim h) h))

theorem actStrings (h : Keeps s₀ s) : Keeps s₀ (s.actStrings idx sub data) := by
  unfold State.actStrings
  dsimp only
  split
  · exact .cond (.replaceString h) h
  · exact .cond h (.cond (.requestSlack (.setObjN h)) (.abortSlack (.setObjN h)))
  · split
    · exact .applyChargeStart h
    · exact .applyChargeStop h
    · exact .applyEqRequest h
    · exact .applyEqAbort h
    · exact h
  · exact h

theorem applyGroupCommand (h : Keeps s₀ s) : Keeps s₀ (s.applyGroupCommand g v) := by
  unfold State.applyGroupCommand
  extract_lets _ _ t
  have h1 : Keeps s₀ t := by
    unfold t
    split
    · exact .cond (.startRise h) h
    · exact .cond (.setRailGroup h) h
    · exact .cond (.startLower h) h
  exact .setRailGroup h1

theorem actRails (h : Keeps s₀ s) : Keeps s₀ (s.actRails idx sub data) := by
  unfold State.actRails
  split
  · exact .applyGroupCommand h
  · exact .cond (.applyMargin h) (.cond (.applyAgeReset h) h)

theorem trainFree (h : Keeps s₀ s) : Keeps s₀ s.trainFree := .train (.draw h)
theorem applyRing (h : Keeps s₀ s) : Keeps s₀ s.applyRing := .cond h (.fields h)

theorem actLog (h : Keeps s₀ s) : Keeps s₀ (s.actLog ch idx sub data) := by
  unfold State.actLog
  dsimp only
  refine .cond (.cond (.applyEccMode h) (.cond (.trainFree h) h)) ?_
  refine .cond (.cond (.armFlip h) h) ?_
  refine .cond (.cond (.applyRing h) h) ?_
  refine .cond ?_ ?_
  · refine .cond h ?_
    split
    · exact .startFreeze h
    · exact .note (.fields h)
    · exact .endFreeze (.fields h)
  · refine .cond ?_ ?_
    · refine .cond (.placeCursor h) ?_
      split
      · exact .setSession h
      · exact h
    · refine .cond ?_ ?_
      · split
        · exact .setSession h
        · exact h
      · refine .cond (.cond (.trigger h) h) ?_
        split
        · exact .fields h
        · exact h

theorem keep (h : Keeps s₀ s) : Keeps s₀ (s.keep idx sub data) := .fields h
theorem takeImage (h : Keeps s₀ s) : Keeps s₀ (s.takeImage data) := .fields (.cond h (.beginUpdate h))
theorem holdLayup (h : Keeps s₀ s) : Keeps s₀ (s.holdLayup sub data) := .fields h

theorem actSystem (h : Keeps s₀ s) : Keeps s₀ (s.actSystem ch idx sub data) := by
  unfold State.actSystem
  dsimp only
  split
  · exact .cond (.applyRequest (.draw h)) (.cond (.fields h) h)
  · split
    · exact .fields h
    · exact .takeImage h
    · exact .abortUpdate h
  · split
    · exact .applyHitless h
    · exact .undoHitless h
    · exact .applyPairUpdate h
    · exact .undoPairUpdate h
  · exact .leavePilot (.draw h)
  · exact .applyKey h
  · exact .cond h (.cond (.applyHandover h) (.cancelHandover h))
  · split
    · exact h
    · split
      · exact .fields h
      · exact .applyIrqClear h
      · exact .applySev h
      · exact .selectSev h

theorem saveAll (h : Keeps s₀ s) : Keeps s₀ (s.saveAll ch) := .fields h

theorem actTime (h : Keeps s₀ s) : Keeps s₀ (s.actTime sub data) := by
  unfold State.actTime
  split
  · exact .applyTimeSet h
  · exact .applyPhase h
  · exact .applyTraceable h
  · exact h

theorem badResponse (h : Keeps s₀ s) : Keeps s₀ (s.badResponse ch) := by
  unfold State.badResponse
  split
  · exact h
  · exact .setSession h

theorem goodResponse {level : Nat} (h : Keeps s₀ s) : Keeps s₀ (s.goodResponse ch level) := by
  unfold State.goodResponse
  split
  · exact h
  · exact .setSession h

theorem respond {level : Nat} {sig : List Byte} (h : Keeps s₀ s) : Keeps s₀ (s.respond ch level sig) := by
  unfold State.respond
  split
  · exact h
  · exact .cond (.answerWrite h) (.cond (.answerWrite (.goodResponse h)) (.answerWrite (.badResponse h)))

theorem unwatch {node : Nat} (h : Keeps s₀ s) : Keeps s₀ (s.unwatch p node) := .cond (.setCan h) (.portFaultEnd (.setCan h))
theorem consumersWritten (h : Keeps s₀ s) : Keeps s₀ s.consumersWritten := .forUnits h fun h1 => .foldl h1 .unwatch
theorem regrid {P : Nat} (h : Keeps s₀ s) : Keeps s₀ (s.regrid b P) := .cond h (.setBerth h)

theorem actNet (h : Keeps s₀ s) : Keeps s₀ (s.actNet ch idx sub data) := by
  unfold State.actNet
  dsimp only
  split
  · exact .fields h
  · exact .saveAll h
  · exact .fields h
  · exact .consumersWritten h
  · refine .cond (.dropLevel h) ?_
    split
    · exact .goodResponse h
    · exact h
  · exact .actTime h
  · exact .fields h
  · exact .cond (.fields (.closePort h)) h
  · split
    · exact .keep (.holdLayup h)
    · exact .setObj (.holdLayup h)
    · exact .setObj (.holdLayup h)
    · exact h
  · split
    · exact .cond h (.cond (.cond h (.ethStart h)) (.clearing (.ethStart (.closePort h))))
    · exact .cond (.closePort h) h
    · exact .cond (.setPort (.forUnits h fun h1 => .cond (.setBerth h1) h1)) h
    · split
      · exact .applyBerthDisable h
      · exact .setObjN h
      · exact .regrid h
      · exact .setBerth (.queueCmd h)
      · exact h
    · exact h

theorem act (h : Keeps s₀ s) : Keeps s₀ (s.act ch idx sub data) := by
  unfold State.act
  refine .cond (.actNet h) ?_
  refine .cond (.actRails h) ?_
  refine .cond (.actLog h) ?_
  refine .cond (.actSystem h) ?_
  exact .cond (.actStages h) (.cond (.actSetpoints h) (.cond (.actMeasure h) (.cond (.actPower h) (.actStrings h))))

theorem placed (h : Keeps s₀ s) : Keeps s₀ (s.placed l) := .foldl h .setObj
theorem applyAll (h : Keeps s₀ s) : Keeps s₀ (s.applyAll ch l) :=
  .foldl (.foldl (.foldl (.foldl h .holdLayup) .setObj) .act) fun h1 => .cond (.mirrored h1) h1

theorem afterRefusal {e : Entry} (h : Keeps s₀ s) : Keeps s₀ (s.afterRefusal ch e c) := by
  unfold State.afterRefusal
  refine .cond (.calRefused h) ?_
  refine .cond (.hitlessRefused h) ?_
  refine .cond ?_ h
  split
  · exact .cond h (.badResponse h)
  · exact h

theorem transferWrite {l0 : List Entry} (h : Keeps s₀ s) : Keeps s₀ (s.transferWrite ch l0) := by
  unfold State.transferWrite
  dsimp only
  split
  · exact .answerWrite (.touch (.afterRefusal h))
  · exact .answerWrite (.touch (.applyAll h))

/-! The protocols of the dictionary (chapter 13). -/

theorem hostWrite (h : Keeps s₀ s) : Keeps s₀ (s.hostWrite ch l) := .cond (.transferWrite h) h
theorem readAll {ca : Bool} (h : Keeps s₀ s) : Keeps s₀ (s.readAll ch idx sub ca) :=
  .cond (.readObject h) (.cond (.readObject h) (.foldl (.reply h) fun h1 => .cond h1 (.reply (.readObject h1))))
theorem refuseSlot (h : Keeps s₀ s) : Keeps s₀ (s.refuseSlot ch) := .answerWrite (.fields h)
theorem notePeak (h : Keeps s₀ s) : Keeps s₀ s.notePeak := .fields h

theorem setTransfer {t : Transfer} (h : Keeps s₀ s) : Keeps s₀ (s.setTransfer ch t) := by
  unfold State.setTransfer
  split
  · exact .setSession h
  · exact h

theorem endTransfer (h : Keeps s₀ s) : Keeps s₀ (s.endTransfer ch idx sub) := by
  unfold State.endTransfer
  split
  · exact .setSession h
  · exact h

theorem dropTransfer (h : Keeps s₀ s) : Keeps s₀ (s.dropTransfer ch idx sub) := by
  unfold State.dropTransfer
  split
  · exact .endTransfer (.endUpdateOf h)
  · exact h

theorem noteImageBytes {t : Transfer} (h : Keeps s₀ s) : Keeps s₀ (s.noteImageBytes t data) := .cond (.fields (.cond h (.beginUpdate h))) h
theorem finishTransfer {t : Transfer} {value : List Byte} (h : Keeps s₀ s) : Keeps s₀ (s.finishTransfer ch t value) :=
  .cond (.endTransfer (.transferWrite (.setTransfer h))) (.dropTransfer (.transferWrite (.setTransfer h)))
theorem sdoAbort (h : Keeps s₀ s) : Keeps s₀ (s.sdoAbort p v code) := .answerWrite (.dropSdo h)
theorem sdoInitiate {f : State → State} (h : Keeps s₀ s) (hf : ∀ {t}, Keeps s₀ t → Keeps s₀ (f t)) : Keeps s₀ (s.sdoInitiate p v f) :=
  .cond (.refuseSlot (.dropSdo h)) (hf (.notePeak (.dropSdo h)))

theorem sdoContinue {fits : Transfer → Bool} {f : Transfer → State} (h : Keeps s₀ s) (hf : ∀ {t}, Keeps s₀ (f t)) : Keeps s₀ (s.sdoContinue p v fits
    f) := by
  unfold State.sdoContinue
  split
  · exact .answerWrite h
  · exact .cond hf (.sdoAbort h)

theorem sdoDownload {t : Transfer} {d : List Byte} (h : Keeps s₀ s) : Keeps s₀ (s.sdoDownload p v t d) :=
  .cond (.answerWrite h) (.reply (.setTransfer h))

theorem sdoSegment {t : Transfer} {toggle : Bool} (h : Keeps s₀ s) : Keeps s₀ (s.sdoSegment p v t toggle last data) := by
  unfold State.sdoSegment
  extract_lets _ _ _ s1
  have h1 : Keeps s₀ s1 := .noteImageBytes (.setTransfer h)
  exact .cond (.sdoAbort h) (.cond (.sdoAbort h) (.cond (.answerWrite h1) (.cond (.sdoAbort h1) (.finishTransfer h1))))

theorem sdoBlockSegment {t : Transfer} (h : Keeps s₀ s) : Keeps s₀ (s.sdoBlockSegment p v t seq last data) :=
  .cond (.sdoAbort h) (.cond (.sdoAbort h) (.update (.update (.setTransfer h) .noteImageBytes) .reply))
theorem sdoBlockEnd {t : Transfer} {unused crc : Nat} (h : Keeps s₀ s) : Keeps s₀ (s.sdoBlockEnd p v t unused crc) :=
  .cond (.sdoAbort h) (.cond (.sdoAbort h) (.cond (.sdoAbort h) (.finishTransfer h)))
theorem sdoNextBlock {t : Transfer} (h : Keeps s₀ s) : Keeps s₀ (s.sdoNextBlock p v t) := .cond (.reply (.setTransfer h)) (.reply (.setTransfer h))
theorem sdoBlockAck {t : Transfer} {size : Nat} (h : Keeps s₀ s) : Keeps s₀ (s.sdoBlockAck p v t seq size) :=
  .cond (.sdoAbort h) (.cond (.sdoAbort h) (.sdoNextBlock h))
theorem sdoUpload {t : Transfer} (h : Keeps s₀ s) : Keeps s₀ (s.sdoUpload p v t) := .cond (.readAll h) (.reply (.setTransfer (.readAll h)))
theorem sdoUploadSegment {t : Transfer} {toggle : Bool} (h : Keeps s₀ s) : Keeps s₀ (s.sdoUploadSegment p v t toggle) :=
  .cond (.sdoAbort h) (.reply (.cond (.endTransfer h) (.setTransfer h)))

theorem sdoServe {r : SdoReq} (h : Keeps s₀ s) : Keeps s₀ (s.sdoServe p v r) := by
  unfold State.sdoServe
  dsimp only
  split
  · exact .sdoInitiate h .transferWrite
  · exact .sdoInitiate h .sdoDownload
  · exact .sdoContinue h (.sdoSegment h)
  · exact .sdoInitiate h .sdoUpload
  · exact .sdoContinue h (.sdoUploadSegment h)
  · exact .sdoInitiate h .sdoDownload
  · exact .sdoContinue h (.sdoBlockSegment h)
  · exact .sdoContinue h (.sdoBlockEnd h)
  · exact .sdoInitiate h fun h1 => .cond (.answerWrite h1) (.sdoUpload h1)
  · exact .sdoContinue h (.sdoNextBlock h)
  · exact .sdoContinue h (.sdoBlockAck h)
  · exact .sdoContinue h (.answerWrite (.endTransfer h))

theorem queueHs {frame : List Byte} (h : Keeps s₀ s) : Keeps s₀ (s.queueHs frame) := .fields h

theorem sendResponse {frame : List Byte} (h : Keeps s₀ s) : Keeps s₀ (s.sendResponse port peer frame) := by
  unfold State.sendResponse
  split
  · exact .queueHs h
  · exact .cond h (.setCan h)
  · exact .cond h (.setCan h)
  · exact .setEth h

theorem keepAnswer (h : Keeps s₀ s) : Keeps s₀ (s.keepAnswer n op tag idx sub word) := by
  unfold State.keepAnswer
  split
  · exact h
  · exact .setSession h

theorem ethReceived (h : Keeps s₀ s) : Keeps s₀ (s.ethReceived p) := .setEth h

theorem renewDomain (h : Keeps s₀ s) : Keeps s₀ (s.renewDomain n op idx sub) := by
  unfold State.renewDomain
  refine .cond ?_ h
  split
  · exact .setTransfer h
  · exact h

theorem hearFrom (h : Keeps s₀ s) : Keeps s₀ (s.hearFrom n peer) := by
  unfold State.hearFrom
  split
  · exact .setSession h
  · exact h

theorem requestFrom {rq : NireoReq} (h : Keeps s₀ s) : Keeps s₀ (s.requestFrom rq) := .cond (.hearFrom h) h

theorem nireo {slot : Bool} {f : State → State} (h : Keeps s₀ s) (hf : ∀ {t}, Keeps s₀ t → Keeps s₀ (f t)) : Keeps s₀ (s.nireo n op tag idx sub word
    slot f) := by
  unfold State.nireo
  extract_lets
  refine .cond h ?_
  split
  · exact .answerWrite h
  · refine .cond h ?_
    extract_lets s1 t
    have h1 : Keeps s₀ s1 := .renewDomain (.ethReceived (.touch h))
    refine .sendResponse (s := t) ?_
    unfold t
    split
    · exact .reply h1
    · exact .keepAnswer (.cond (.refuseSlot h1) (hf (.cond (.notePeak h1) h1)))

theorem nireoReadOp {ca : Bool} (h : Keeps s₀ s) : Keeps s₀ (s.nireoReadOp n tag idx sub ca word) := .nireo h fun h1 => .reply (.readAll h1)
theorem nireoWriteOp {ca : Bool} (h : Keeps s₀ s) : Keeps s₀ (s.nireoWriteOp n tag idx sub ca data) :=
  .nireo h fun h1 => .cond (.answerWrite h1) (.transferWrite h1)

theorem noteFinished {done : Bool} (h : Keeps s₀ s) : Keeps s₀ (s.noteFinished n idx sub done) := by
  unfold State.noteFinished
  split
  · exact .setSession h
  · exact h

theorem nireoBeginOp {size : Nat} (h : Keeps s₀ s) : Keeps s₀ (s.nireoBeginOp n tag idx sub size) :=
  .nireo h fun h1 => .cond (.answerWrite h1) (.cond (.answerWrite h1) (.answerWrite (.noteFinished (.setTransfer h1))))

theorem nireoSegmentOp (h : Keeps s₀ s) : Keeps s₀ (s.nireoSegmentOp n tag idx sub word data) := by
  unfold State.nireoSegmentOp
  refine .nireo h fun h1 => ?_
  split
  · exact .answerWrite h1
  · exact .cond (.reply h1) (.cond (.answerWrite h1) (.answerWrite (.noteImageBytes (.setTransfer h1))))

theorem nireoEndOp {crc : BitVec 32} (h : Keeps s₀ s) : Keeps s₀ (s.nireoEndOp n tag idx sub crc) := by
  unfold State.nireoEndOp
  refine .nireo h fun h1 => ?_
  split
  · exact .answerWrite h1
  · exact .cond (.update (.finishTransfer h1) .noteFinished) (.answerWrite (.dropTransfer h1))

theorem nireoAbortOp (h : Keeps s₀ s) : Keeps s₀ (s.nireoAbortOp n tag idx sub) := by
  unfold State.nireoAbortOp
  refine .nireo h fun h1 => ?_
  split
  · exact .answerWrite (.dropTransfer h1)
  · exact .answerWrite h1
  · exact h1

theorem nireoOpenOp (h : Keeps s₀ s) : Keeps s₀ (s.nireoOpenOp port tag peer) := by
  unfold State.nireoOpenOp
  refine .cond h ?_
  extract_lets s1 d1 _ s2 _ _ t1
  have h1 : Keeps s₀ s1 := .ethReceived h
  have h2 : Keeps s₀ d1.2 := .draw h1
  have h3 : Keeps s₀ s2 := .notePeak h2
  have h4 : Keeps s₀ t1 := .cond (.refuseSlot h1) (.cond (.answerWrite h1) (.reply (.fields h3)))
  exact .sendResponse h4

theorem nireoCloseOp (h : Keeps s₀ s) : Keeps s₀ (s.nireoCloseOp n tag) := .nireo h fun h1 => .answerWrite (.closeNireo h1)

theorem nireoBatchOp (h : Keeps s₀ s) : Keeps s₀ (s.nireoBatchOp n tag l) := by
  unfold State.nireoBatchOp
  refine .nireo h fun h1 => ?_
  refine .cond (.reply h1) ?_
  extract_lets u1
  have h2 : Keeps s₀ u1 := .transferWrite h1
  split
  · exact .reply h2
  · exact h2

theorem dropNireo (h : Keeps s₀ s) : Keeps s₀ s.dropNireo := .fields h

theorem nireoFrame {d : List Byte} (h : Keeps s₀ s) : Keeps s₀ (s.nireoFrame port peer d) := by
  unfold State.nireoFrame
  dsimp only
  refine .cond (.dropNireo h) ?_
  refine .cond (.sendResponse (.answerWrite h)) ?_
  split
  · exact .nireoReadOp (.hearFrom h)
  · exact .nireoWriteOp (.hearFrom h)
  · exact .cond (.nireoBeginOp (.hearFrom h)) (.dropNireo (.hearFrom h))
  · exact .nireoSegmentOp (.hearFrom h)
  · exact .cond (.nireoEndOp (.hearFrom h)) (.dropNireo (.hearFrom h))
  · exact .nireoAbortOp (.hearFrom h)
  · exact .nireoOpenOp (.hearFrom h)
  · exact .nireoCloseOp (.hearFrom h)
  · split
    · exact .nireoBatchOp (.hearFrom h)
    · exact .dropNireo (.hearFrom h)
  · exact .dropNireo (.hearFrom h)

/-! CANopen (chapter 13). -/

theorem dropRpdos (h : Keeps s₀ s) : Keeps s₀ (s.dropRpdos p) := .fields h
theorem reloadComm (h : Keeps s₀ s) : Keeps s₀ s.reloadComm := .foldl (.fields h) .fields
theorem resetCan (h : Keeps s₀ s) : Keeps s₀ (s.resetCan p) := .setCan (.portFaultEnd (.consumersWritten (.reloadComm (.dropRpdos (.dropSdos h)))))
theorem lssAnswer (h : Keeps s₀ s) : Keeps s₀ (s.lssAnswer p data) := .canHeard (.cond h (.sendCan h))
theorem setTpdo {v : Pdo} (h : Keeps s₀ s) : Keeps s₀ (s.setTpdo n v) := .fields h
theorem refuseRpdo (h : Keeps s₀ s) : Keeps s₀ (s.refuseRpdo n p) := .raiseWith (.setCan h)

theorem applyRpdo (h : Keeps s₀ s) : Keeps s₀ (s.applyRpdo n p data) := by
  unfold State.applyRpdo
  refine .cond (.setCan h) ?_
  split
  · exact .refuseRpdo h
  · exact .cond (.refuseRpdo h) (.clearing (.applyAll h))

theorem takeRpdos (h : Keeps s₀ s) : Keeps s₀ s.takeRpdos := .foldl (.fields h) .applyRpdo
theorem sendTpdo (h : Keeps s₀ s) : Keeps s₀ (s.sendTpdo n) := .setTpdo (.forUnits h .sendCan)
theorem tpdoChanged (h : Keeps s₀ s) : Keeps s₀ (s.tpdoChanged n) := .cond h (.cond (.cond (.sendTpdo h) (.setTpdo h)) (.cond (.setTpdo h) h))
theorem atSync (h : Keeps s₀ s) : Keeps s₀ s.atSync :=
  .foldl (.takeRpdos h) fun h1 => .cond h1 (.cond (.cond (.sendTpdo h1) h1) (.cond (.sendTpdo h1) (.setTpdo h1)))

/-! Ethernet ports, PTP and time (chapter 13). -/

theorem takeLinkLocal (h : Keeps s₀ s) : Keeps s₀ (s.takeLinkLocal p) := .setEth (.draw h)
theorem ethAnswer (h : Keeps s₀ s) : Keeps s₀ (s.ethAnswer p addr kind) := .cond (.update (.ethReceived h) .setEth) h

theorem stepTime (h : Keeps s₀ s) : Keeps s₀ s.stepTime := by
  unfold State.stepTime
  split
  · exact .cond (.setTime (.settleTime h)) h
  · exact h

end Keeps

/-! What each command keeps: its meaning is built from the operations above. -/

namespace AnswerKeeps

variable {s₀ s : State}
variable {addr b f g idx k lp md n p ph pins r region st sub tag v : Nat} {ack crcOk pecOk : Bool} {ch : Chan} {data : List Byte}
  {errs : List SymErr} {hd : FrameHead} {rq : NireoReq}

/-! Stages, phases and fast protection (chapter 05). -/

theorem loadPoint (h : Keeps s₀ s) : AnswerKeeps s₀ (execLoadPoint ph s) := by
  unfold execLoadPoint
  refine .next ?_
  split
  · exact .cond (.loadPhase h) h
  · exact h

theorem stageStart (h : Keeps s₀ s) : AnswerKeeps s₀ (execStageStart ch st s) := .next (.guardedWrite h (.applyStageStart h))
theorem stageStop (h : Keeps s₀ s) : AnswerKeeps s₀ (execStageStop ch st s) := .next (.guardedWrite h (.applyStageStop h))
theorem delayLineCalibration {bad : List Bool} (h : Keeps s₀ s) : AnswerKeeps s₀ (execDelayLineCalibration bad s) :=
  .next (.cond (.forUnits h .calibrate) h)
theorem phaseDrop (h : Keeps s₀ s) : AnswerKeeps s₀ (execPhaseDrop ch ph s) := .next (.guardedWrite h (.dropPhase h))
theorem phaseReturn (h : Keeps s₀ s) : AnswerKeeps s₀ (execPhaseReturn ch ph s) := .next (.guardedWrite h (.returnPhase h))
theorem breakwaterTruncation (h : Keeps s₀ s) : AnswerKeeps s₀ (execBreakwaterTruncation st b s) := .next (.cond (.forUnits h .breakwaterPhase) h)

theorem fenderTruncation (h : Keeps s₀ s) : AnswerKeeps s₀ (execFenderTruncation ph s) := by
  unfold execFenderTruncation
  refine .next ?_
  split
  · exact h
  · exact .cond (.raise (.setStage (.setPhase h))) h

theorem estopAsserted (h : Keeps s₀ s) : AnswerKeeps s₀ (execEstopAsserted s) := .next (.raise (.mode (.forUnits (.stopStages h) .setStage)))
theorem tripReadbackFault (h : Keeps s₀ s) : AnswerKeeps s₀ (execTripReadbackFault s) := .next (.raise (.mode h))

theorem driveReadbackFault (h : Keeps s₀ s) : AnswerKeeps s₀ (execDriveReadbackFault ph s) := by
  unfold execDriveReadbackFault
  refine .next ?_
  split
  · exact .raise h
  · exact h

theorem holdWatchExpired (h : Keeps s₀ s) : AnswerKeeps s₀ (execHoldWatchExpired st s) := .next (.cond (.engageHold h) h)
theorem holdLimitExpired (h : Keeps s₀ s) : AnswerKeeps s₀ (execHoldLimitExpired st s) := .next (.cond (.raiseWith h) h)

/-! The measurement path (chapter 03). -/

theorem groupEnableWrite (h : Keeps s₀ s) : AnswerKeeps s₀ (execGroupEnableWrite ch g v s) := .next (.guardedWrite h (.applyGroupEnable h))
theorem stuckRunDetected (h : Keeps s₀ s) : AnswerKeeps s₀ (execStuckRunDetected md s) := .next (.cond (.raise (.setMod h)) h)
theorem stuckClearCount (h : Keeps s₀ s) : AnswerKeeps s₀ (execStuckClearCount md s) := .next (.cond (.clearing (.setMod h)) h)
theorem mclkReadbackFault (h : Keeps s₀ s) : AnswerKeeps s₀ (execMclkReadbackFault g s) := .next (.cond (.raise (.setGroup h)) h)
theorem fastComparatorDecision {b : Bool} (h : Keeps s₀ s) : AnswerKeeps s₀ (execFastComparatorDecision md b s) :=
  .next (.cond (.forUnits (.fastDecision h) .fenderRead) h)
theorem calCommand (h : Keeps s₀ s) : AnswerKeeps s₀ (execCalCommand ch md v s) := .next (.update (.guardedWrite h (.applyCal h)) .calRefused)
theorem calComplete (h : Keeps s₀ s) : AnswerKeeps s₀ (execCalComplete md s) :=
  .next (.cond (.cond (.releaseHeld (.setMod h)) (.releaseHeld (.setObj (.setMod h)))) h)
theorem seqLengthWrite (h : Keeps s₀ s) : AnswerKeeps s₀ (execSeqLengthWrite ch n s) := .next (.guardedWrite h (.applySeqLength h))
theorem adcLapStart (h : Keeps s₀ s) : AnswerKeeps s₀ (execAdcLapStart s) := .next (.cond (.stopAdc h) (.cond (.fields h) (.cond (.fields h) h)))
theorem adcLapEnd {refVolts : Rat} (h : Keeps s₀ s) : AnswerKeeps s₀ (execAdcLapEnd refVolts s) :=
  .next (.cond (.stopAdc h) (.cond (.follow (.fields (.cond h (.forUnits h .ainLapEnd)))) h))

/-! Loop engines and the tide table (chapter 04). -/

theorem depWaitEnd (h : Keeps s₀ s) : AnswerKeeps s₀ (execDepWaitEnd lp s) := by
  unfold execDepWaitEnd
  refine .next ?_
  split
  · exact h
  · exact .cond (.dispatch (.noteQueue (.endWait h))) h

theorem instanceRelease {errs : List (Nat × Nat × Bool)} (h : Keeps s₀ s) : AnswerKeeps s₀ (execInstanceRelease lp errs s) := by
  unfold execInstanceRelease
  refine .next ?_
  split
  · exact h
  · exact .cond (.startErrors (.dispatch (.noteQueue (.toReady h)))) h

theorem instanceRunEnd {errs : List (Nat × Nat × Bool)} (h : Keeps s₀ s) : AnswerKeeps s₀ (execInstanceRunEnd lp errs s) := by
  unfold execInstanceRunEnd
  refine .next ?_
  split
  · exact h
  · exact .cond (.endRun h) h

theorem instanceCommit (h : Keeps s₀ s) : AnswerKeeps s₀ (execInstanceCommit lp s) := by
  unfold execInstanceCommit
  refine .next ?_
  split
  · exact h
  · exact .cond (.commitInst h) h

theorem idleBanksLoaded (h : Keeps s₀ s) : AnswerKeeps s₀ (execIdleBanksLoaded s) := .next (.cond (.cond (.fields h) (.fields h)) h)

/-! Profile generators (chapter 06). -/

theorem pgTargetWrite {v : BitVec 32} (h : Keeps s₀ s) : AnswerKeeps s₀ (execPgTargetWrite ch n v s) := .next (.guardedWrite h (.acceptTarget h))

/-! Repetitive controllers and observers (chapter 06). -/

theorem rcUpdate (h : Keeps s₀ s) : AnswerKeeps s₀ (execRcUpdate n s) := .next (.cond (.rcStep h) (.cond (.rcOff h) h))
theorem rcPhaseWrap (h : Keeps s₀ s) : AnswerKeeps s₀ (execRcPhaseWrap n s) := .next (.cond (.tell (.cond (.rcRms h) (.rcPeriod (.rcRms h)))) h)
theorem rcRefTimeout (h : Keeps s₀ s) : AnswerKeeps s₀ (execRcRefTimeout n s) := .next (.cond (.update (.raise (.setRc h)) .rcUnlock) h)
theorem rcUnlockTimeout (h : Keeps s₀ s) : AnswerKeeps s₀ (execRcUnlockTimeout n s) := .next (.cond (.rcUnlock h) h)
theorem rcReset (h : Keeps s₀ s) : AnswerKeeps s₀ (execRcReset ch n v s) := .next (.guardedWrite h (.applyRcReset h))
theorem observerRun (h : Keeps s₀ s) : AnswerKeeps s₀ (execObserverRun st s) :=
  .next (.cond (.cond (.obsTrack (.obsMeasure h)) (.tellStage (.obsAct (.obsMeasure h)))) h)

theorem substitutionExpired (h : Keeps s₀ s) : AnswerKeeps s₀ (execSubstitutionExpired ph s) := by
  unfold execSubstitutionExpired
  refine .next ?_
  split
  · exact h
  · exact .cond (.obsDrop h) h

/-! The shelf power manager (chapter 07). -/

theorem spmUpdate (h : Keeps s₀ s) : AnswerKeeps s₀ (execSpmUpdate s) := .next (.cond (.tellUpdate (.spmUpdate h)) h)
theorem spmRecompute (h : Keeps s₀ s) : AnswerKeeps s₀ (execSpmRecompute s) := .next (.cond (.spmCompute h) h)
theorem droopTrimUpdate (h : Keeps s₀ s) : AnswerKeeps s₀ (execDroopTrimUpdate s) :=
  .next (.cond (.spmDetail (.forUnits (.forUnits (.fields h) .shareBerth) .trimBerth)) h)
theorem phaseShareTrimWrite {v : BitVec 32} (h : Keeps s₀ s) : AnswerKeeps s₀ (execPhaseShareTrimWrite ch ph v s) :=
  .next (.guardedWrite h (.applyShareTrim h))
theorem inputLoss (h : Keeps s₀ s) : AnswerKeeps s₀ (execInputLoss s) := .next (.cond (.declareInputLoss h) h)
theorem handoverEnd (h : Keeps s₀ s) : AnswerKeeps s₀ (execHandoverEnd s) := .next (.cond (.spmCompute (.carryStep (.enterSupply h))) h)
theorem sourceQualified {src : Nat} (h : Keeps s₀ s) : AnswerKeeps s₀ (execSourceQualified src s) :=
  .next (.cond (.cond (.qualifyFeed h) h) (.cond (.fields h) h))
theorem handbackCommand (h : Keeps s₀ s) : AnswerKeeps s₀ (execHandbackCommand ch v s) := .next (.guardedWrite h (.fields h))

theorem handbackStart (h : Keeps s₀ s) : AnswerKeeps s₀ (execHandbackStart s) := by
  unfold execHandbackStart
  refine .next ?_
  split
  · exact .cond (.startHandback h) h
  · exact h

theorem handbackRampEnd (h : Keeps s₀ s) : AnswerKeeps s₀ (execHandbackRampEnd s) :=
  .next (.cond (.retargetBus (.enterActive (.spmDetail (.spmDetail (.fields (.enterSupply h)))))) h)

/-! The rail tree (chapter 10). -/

theorem seqEnd (h : Keeps s₀ s) : AnswerKeeps s₀ (execSeqEnd g pins s) :=
  .next (.cond (.cond (.cond (.startLower (.seePins h)) (.groupRisen (.seePins h))) (.groupLowered (.seePins h))) h)
theorem seqOn (h : Keeps s₀ s) : AnswerKeeps s₀ (execSeqOn g pins s) :=
  .next (.cond (.cond (.seqNext (.cond (.seePins h) (.switchRailOn (.seePins h)))) (.riseFailure (.seePins h))) h)
theorem seqOff (h : Keeps s₀ s) : AnswerKeeps s₀ (execSeqOff g pins s) :=
  .next (.cond (.seqNext (.cond (.switchRailOff (.seePins h)) (.seePins h))) h)
theorem seqWaitgood (h : Keeps s₀ s) : AnswerKeeps s₀ (execSeqWaitgood g pins s) :=
  .next (.cond (.cond (.seqNext (.railRose (.seePins h))) (.cond (.riseFailure (.seePins h)) (.seePins h))) h)
theorem seqWaitlow (h : Keeps s₀ s) : AnswerKeeps s₀ (execSeqWaitlow g pins s) :=
  .next (.cond (.cond (.seqNext (.setRail (.seePins h))) (.cond (.seqNext (.descentFault (.seePins h))) (.seePins h))) h)
theorem seqDelay (h : Keeps s₀ s) : AnswerKeeps s₀ (execSeqDelay g pins s) := .next (.cond (.cond (.seqNext (.seePins h)) (.seePins h)) h)

theorem seqWaitgroup (h : Keeps s₀ s) : AnswerKeeps s₀ (execSeqWaitgroup g pins s) := by
  unfold execSeqWaitgroup
  extract_lets s1
  have h1 : Keeps s₀ s1 := .seePins h
  refine .next ?_
  exact .cond (.cond (.cond (.seqNext h1) (.cond (.waitFailure h1) h1)) (.cond (.seqNext h1) (.cond (.seqNext (.setRailGroup h1)) h1))) h

theorem seqMark (h : Keeps s₀ s) : AnswerKeeps s₀ (execSeqMark g pins s) := .next (.cond (.seqNext (.setRailGroup (.seePins h))) h)
theorem stageRailStart (h : Keeps s₀ s) : AnswerKeeps s₀ (execStageRailStart r s) := .next (.cond (.autoStart (.switchRailOn h)) h)
theorem stageRailRiseTimeout (h : Keeps s₀ s) : AnswerKeeps s₀ (execStageRailRiseTimeout r s) := .next (.cond (.riseFailure h) h)
theorem railRunFault {detail : Nat} (h : Keeps s₀ s) : AnswerKeeps s₀ (execRailRunFault r detail s) :=
  .next (.cond (.forceAllOff (.raise (.setRail (.tellPin h)))) h)
theorem mooredRailFault {detail : Nat} (h : Keeps s₀ s) : AnswerKeeps s₀ (execMooredRailFault r detail s) :=
  .next (.cond (.resumeFault (.mode (.enterMode (.fields (.forceAllOff (.setRail (.tellPin h))))))) h)
theorem railDescentFault {detail : Nat} (h : Keeps s₀ s) : AnswerKeeps s₀ (execRailDescentFault r detail s) :=
  .next (.cond (.cond (.descentOver (.tellPin h)) (.descentFault (.tellPin h))) h)
theorem railDescentOvervoltage (h : Keeps s₀ s) : AnswerKeeps s₀ (execRailDescentOvervoltage r s) := .next (.cond (.descentOver h) h)
theorem groupRise (h : Keeps s₀ s) : AnswerKeeps s₀ (execGroupRise ch g s) := .next (.groupWrite h (.cond (.startRise h) h))
theorem groupAbortRise (h : Keeps s₀ s) : AnswerKeeps s₀ (execGroupAbortRise ch g s) := .next (.groupWrite h (.cond (.setRailGroup h) h))
theorem groupLower (h : Keeps s₀ s) : AnswerKeeps s₀ (execGroupLower ch g s) := .next (.groupWrite h (.cond (.startLower h) h))
theorem railMarginHigh (h : Keeps s₀ s) : AnswerKeeps s₀ (execRailMarginHigh ch r s) := .next (.guardedWrite h (.applyMargin h))
theorem railMarginLow (h : Keeps s₀ s) : AnswerKeeps s₀ (execRailMarginLow ch r s) := .next (.guardedWrite h (.applyMargin h))
theorem railMarginOff (h : Keeps s₀ s) : AnswerKeeps s₀ (execRailMarginOff ch r s) := .next (.guardedWrite h (.applyMargin h))
theorem softStartEnd (h : Keeps s₀ s) : AnswerKeeps s₀ (execSoftStartEnd st s) := .next (.cond (.railsFollow (.setStage h)) h)

/-! Temperature and ageing (chapter 10). -/

theorem tempSlot {codes : List Nat} (h : Keeps s₀ s) : AnswerKeeps s₀ (execTempSlot codes s) := .next (.cond (.slot (.slotBegins h)) h)
theorem thermalDerateUpdate (h : Keeps s₀ s) : AnswerKeeps s₀ (execThermalDerateUpdate s) := .next (.cond (.fields h) h)
theorem pdmReading {ps : List Int} (h : Keeps s₀ s) : AnswerKeeps s₀ (execPdmReading ps s) :=
  .next (.cond (.forUnits (.fields h) fun h1 => .cond (.raise h1) (.cond (.clearing h1) h1)) h)

theorem vidUpdate (h : Keeps s₀ s) : AnswerKeeps s₀ (execVidUpdate s) := by
  unfold execVidUpdate
  refine .next ?_
  refine .cond ?_ h
  split
  · exact .vidStep h
  · exact h

theorem ageReset (h : Keeps s₀ s) : AnswerKeeps s₀ (execAgeReset ch v s) := .next (.guardedWrite h (.applyAgeReset h))
theorem ronUpdate (h : Keeps s₀ s) : AnswerKeeps s₀ (execRonUpdate s) := .next (.cond (.forUnits h .ronPhase) h)
theorem replan (h : Keeps s₀ s) : AnswerKeeps s₀ (execReplan s) := .next (.cond (.forUnits h fun h1 => .forUnits h1 .replanPhase) h)
theorem bankCapEstimate {charge dv : Rat} (h : Keeps s₀ s) : AnswerKeeps s₀ (execBankCapEstimate st charge dv s) :=
  .next (.cond (.follow (.fields h)) h)
theorem ageingCommit (h : Keeps s₀ s) : AnswerKeeps s₀ (execAgeingCommit s) := .next (.cond (.commitAgeing h) h)

/-! Fault management (chapter 11). -/

theorem faultClearWindowEnd {id kind : Nat} (h : Keeps s₀ s) : AnswerKeeps s₀ (execFaultClearWindowEnd id kind s) := by
  unfold execFaultClearWindowEnd
  dsimp only
  refine .next ?_
  split
  · exact .cond (.clear h) h
  · exact h

theorem sevWrite {record : BitVec 64} (h : Keeps s₀ s) : AnswerKeeps s₀ (execSevWrite ch region record s) := .next (.guardedWrite h (.applySev h))
theorem sevQueryWrite {record : BitVec 64} (h : Keeps s₀ s) : AnswerKeeps s₀ (execSevQueryWrite ch region record s) :=
  .next (.guardedWrite h (.selectSev h))
theorem irqPendingClear {mask : Nat} (h : Keeps s₀ s) : AnswerKeeps s₀ (execIrqPendingClear ch region mask s) :=
  .next (.guardedWrite h (.applyIrqClear h))
theorem lockstepMismatch (h : Keeps s₀ s) : AnswerKeeps s₀ (execLockstepMismatch s) := .next (.cond (.raise h) h)
theorem d2dTransferFail (h : Keeps s₀ s) : AnswerKeeps s₀ (execD2dTransferFail s) :=
  .next (.cond (.cond (.busErrorTo (.raise (.draw (.fields h)))) (.fields h)) h)

theorem emcyInhibitExpired (h : Keeps s₀ s) : AnswerKeeps s₀ (execEmcyInhibitExpired p s) := by
  unfold execEmcyInhibitExpired
  dsimp only
  refine .next ?_
  refine .cond ?_ h
  split
  · exact .fields h
  · exact .cond (.sendEmcy (.fields h)) (.fields h)

/-! DRAM, SRAM and MRAM (chapter 15). -/

theorem trainCommand {result : Nat} (h : Keeps s₀ s) : AnswerKeeps s₀ (execTrainCommand ch v result s) := .next (.guardedWrite h (.train h))
theorem dramFillComplete (h : Keeps s₀ s) : AnswerKeeps s₀ (execDramFillComplete s) := .next (.cond (.mem (.cond (.fillFlip h) h)) h)
theorem dramRead {rq : MemReq} {len : Nat} (h : Keeps s₀ s) : AnswerKeeps s₀ (execDramRead rq addr len errs s) :=
  .cond (.next h) (.cond .fault (.next (.cond h (.dramReadOp h))))
theorem dramWrite {rq : MemReq} (h : Keeps s₀ s) : AnswerKeeps s₀ (execDramWrite rq addr data errs s) :=
  .cond (.next h) (.cond .fault (.next (.cond h (.dramWriteOp h))))

theorem scrubBurst (h : Keeps s₀ s) : AnswerKeeps s₀ (execScrubBurst errs s) := by
  unfold execScrubBurst
  refine .next ?_
  refine .cond ?_ h
  extract_lets _ _ s1 s2
  have h1 : Keeps s₀ s1 := .countBurst h
  have h2 : Keeps s₀ s2 := .scrubAdvance h1
  refine .cond (.scrubAdvance h) ?_
  split
  · exact .scrubAdvance (.uncorrectable h1)
  · exact .cond h2 (.writeBurst h2)

theorem scrubLapOverdue (h : Keeps s₀ s) : AnswerKeeps s₀ (execScrubLapOverdue s) := .next (.cond (.raise h) h)
theorem bucketLeakTick {sram : Bool} (h : Keeps s₀ s) : AnswerKeeps s₀ (execBucketLeakTick sram s) :=
  .next (.cond (.cond (.leakSrams h) h) (.cond (.leakDevices h) h))
theorem eccModeChange (h : Keeps s₀ s) : AnswerKeeps s₀ (execEccModeChange ch v s) := .next (.guardedWrite h (.applyEccMode h))
theorem flipArm (h : Keeps s₀ s) : AnswerKeeps s₀ (execFlipArm ch v s) := .next (.guardedWrite h (.armFlip h))
theorem dramAlert {rank : Nat} (h : Keeps s₀ s) : AnswerKeeps s₀ (execDramAlert rank s) := .next (.cond (.cond (.raise (.mem h)) (.mem h)) h)
theorem sramScrubRead {unit : Nat} {single : Bool} (h : Keeps s₀ s) : AnswerKeeps s₀ (execSramScrubRead region unit single s) :=
  .next (.cond (.countSram h) h)

theorem mramWrite {w : MramWriter} {v : BitVec 64} {fails : Nat} (h : Keeps s₀ s) : AnswerKeeps s₀ (execMramWrite w addr v fails s) := by
  unfold execMramWrite
  refine .next (.cond (.cond (.writeFailed (.raise (.mem (.mem h)))) (.d2dGood (.parts (.mem h) id id fun hwf => ?_))) h)
  obtain ⟨hcells, hmram⟩ := Bool.and_eq_true_iff.mp hwf
  exact Bool.and_eq_true_iff.mpr ⟨hcells, cellsPut_wf _ _ _ hmram⟩

theorem mramReadUe {e : MramError} (h : Keeps s₀ s) : AnswerKeeps s₀ (execMramReadUe e s) := .next (.cond (.cond (.mem h) (.uncorrectableWord h)) h)

/-! The recorder (chapter 16). -/

theorem recordArrival {r : Record} (h : Keeps s₀ s) : AnswerKeeps s₀ (execRecordArrival r s) :=
  .next (.cond (.settleDrops (.cond (.fields h) (.enterRecord h))) h)
theorem recordCommit (h : Keeps s₀ s) : AnswerKeeps s₀ (execRecordCommit s) :=
  .next (.cond (.update (.commitRecord (.d2dGood (.settleDrops h))) .freezeNow) h)
theorem freezeStart (h : Keeps s₀ s) : AnswerKeeps s₀ (execFreezeStart ch s) := .next (.guardedWrite h (.startFreeze h))
theorem freezeAbort (h : Keeps s₀ s) : AnswerKeeps s₀ (execFreezeAbort ch s) := .next (.guardedWrite h (.note (.fields h)))
theorem freezeRelease (h : Keeps s₀ s) : AnswerKeeps s₀ (execFreezeRelease ch s) := .next (.guardedWrite h (.endFreeze (.fields h)))
theorem freezeLimitExpired (h : Keeps s₀ s) : AnswerKeeps s₀ (execFreezeLimitExpired s) := .next (.cond (.endFreeze h) h)
theorem readFromWrite (h : Keeps s₀ s) : AnswerKeeps s₀ (execReadFromWrite ch n s) := .next (.guardedWrite h (.placeCursor h))
theorem readBlock (h : Keeps s₀ s) : AnswerKeeps s₀ (execReadBlock ch s) := .next (.cond h (.cond (.answerWrite h) (.readBlock h)))
theorem captureFrame (h : Keeps s₀ s) : AnswerKeeps s₀ (execCaptureFrame errs s) := .next (.cond (.cond (.capture (.openRing h)) h) (.fields h))

theorem captureTrigger {key : Key} {cls at_ : Nat} (h : Keeps s₀ s) : AnswerKeeps s₀ (execCaptureTrigger b key cls md at_ s) := by
  unfold execCaptureTrigger
  refine .next ?_
  split
  · exact .cond (.trigger (.fields h)) h
  · exact h

theorem triggerNow (h : Keeps s₀ s) : AnswerKeeps s₀ (execTriggerNow ch s) := .next (.guardedWrite h (.cond (.trigger h) h))
theorem windowLastFrame {w : Nat} (h : Keeps s₀ s) : AnswerKeeps s₀ (execWindowLastFrame w s) := .next (.cond (.fields h) h)
theorem windowCommit {p : Promotion} (h : Keeps s₀ s) : AnswerKeeps s₀ (execWindowCommit p s) :=
  .next (.cond (.cond (.abandonWindow h) (.promoteWindow h)) h)
theorem windowAbandon {w : Nat} (h : Keeps s₀ s) : AnswerKeeps s₀ (execWindowAbandon w s) := .next (.cond (.abandonWindow h) h)
theorem windowRelease {w : Nat} (h : Keeps s₀ s) : AnswerKeeps s₀ (execWindowRelease ch w v s) := .next (.guardedWrite h (.fields h))

/-! Feeds (chapter 07). -/

theorem feedGateOn (h : Keeps s₀ s) : AnswerKeeps s₀ (execFeedGateOn f s) := .next (.cond (.clearing (.setFeed h)) h)
theorem feedReverseOff (h : Keeps s₀ s) : AnswerKeeps s₀ (execFeedReverseOff f s) := .next (.cond (.raiseFeed (.setFeed (.gateOff h))) h)
theorem feedLost (h : Keeps s₀ s) : AnswerKeeps s₀ (execFeedLost f s) := .next (.cond (.loseFeed h) (.cond (.loseFeed h) h))
theorem feedEnableOn (h : Keeps s₀ s) : AnswerKeeps s₀ (execFeedEnableOn ch f s) := .next (.guardedWrite h (.applyFeedOn h))
theorem feedEnableOff (h : Keeps s₀ s) : AnswerKeeps s₀ (execFeedEnableOff ch f s) := .next (.guardedWrite h (.applyFeedOff h))
theorem inrushChop (h : Keeps s₀ s) : AnswerKeeps s₀ (execInrushChop f s) := .next (.cond (.setFeed h) h)

theorem inrushOffExpired (h : Keeps s₀ s) : AnswerKeeps s₀ (execInrushOffExpired f s) := by
  unfold execInrushOffExpired
  refine .next ?_
  split
  · exact .cond (.setFeed h) h
  · exact h

theorem inrushTimeout (h : Keeps s₀ s) : AnswerKeeps s₀ (execInrushTimeout f s) := .next (.cond (.tripFeed h) h)
theorem gateConfirmExpired (h : Keeps s₀ s) : AnswerKeeps s₀ (execGateConfirmExpired f s) := .next (.cond (.updatePg (.setFeed h)) h)
theorem gateConfirmTimeout (h : Keeps s₀ s) : AnswerKeeps s₀ (execGateConfirmTimeout f s) := .next (.cond (.raiseFeed h) h)
theorem gateStuckOn (h : Keeps s₀ s) : AnswerKeeps s₀ (execGateStuckOn f s) := .next (.cond (.raiseFeed (.setFeed h)) h)
theorem gateFeedbackLost (h : Keeps s₀ s) : AnswerKeeps s₀ (execGateFeedbackLost f s) := .next (.setFeed h)
theorem feedShort (h : Keeps s₀ s) : AnswerKeeps s₀ (execFeedShort f s) := .next (.cond (.tripFeed h) h)
theorem feedRetry (h : Keeps s₀ s) : AnswerKeeps s₀ (execFeedRetry f s) := .next (.cond (.switchOn (.setFeed h)) h)
theorem feedRetryReset (h : Keeps s₀ s) : AnswerKeeps s₀ (execFeedRetryReset f s) := .next (.cond (.setFeed h) h)
theorem meterTimeout (h : Keeps s₀ s) : AnswerKeeps s₀ (execMeterTimeout f s) := .next (.cond (.raiseFeed (.setFeed h)) h)

/-! Battery strings (chapter 08). -/

theorem unanchoredTimeout (h : Keeps s₀ s) : AnswerKeeps s₀ (execUnanchoredTimeout k s) := .next (.cond (.raise (.cond h (.setEst h))) h)
theorem probeStart (h : Keeps s₀ s) : AnswerKeeps s₀ (execProbeStart k s) := .next (.cond (.cond (.spmCompute (.fields (.setStr h))) (.setStr h)) h)

theorem probeShiftEnd (h : Keeps s₀ s) : AnswerKeeps s₀ (execProbeShiftEnd s) := by
  unfold execProbeShiftEnd
  refine .next ?_
  split
  · exact .cond (.spmCompute (.fields (.setStr h))) h
  · exact h

theorem slackRequest (h : Keeps s₀ s) : AnswerKeeps s₀ (execSlackRequest ch k s) := .next (.guardedWrite h (.requestSlack (.setObjN h)))
theorem slackAutoRequest (h : Keeps s₀ s) : AnswerKeeps s₀ (execSlackAutoRequest k s) := .next (.cond (.requestSlack (.setStr h)) h)
theorem slackAbort (h : Keeps s₀ s) : AnswerKeeps s₀ (execSlackAbort ch k s) := .next (.guardedWrite h (.abortSlack (.setObjN h)))
theorem slackRampDownEnd (h : Keeps s₀ s) : AnswerKeeps s₀ (execSlackRampDownEnd k s) := .next (.cond (.spmCompute (.setStr h)) h)
theorem slackRestPoint (h : Keeps s₀ s) : AnswerKeeps s₀ (execSlackRestPoint k s) := .next (.cond (.slackPoint h) h)
theorem slackComplete (h : Keeps s₀ s) : AnswerKeeps s₀ (execSlackComplete k s) := .next (.cond (.clearing (.setStr h)) h)
theorem slackConditionAbort (h : Keeps s₀ s) : AnswerKeeps s₀ (execSlackConditionAbort k s) := .next (.cond (.abortSlack h) h)
theorem slackRefusalTimeout (h : Keeps s₀ s) : AnswerKeeps s₀ (execSlackRefusalTimeout k s) := .next (.cond (.raise h) h)
theorem stringReplaced (h : Keeps s₀ s) : AnswerKeeps s₀ (execStringReplaced ch k v s) := .next (.guardedWrite h (.replaceString h))
theorem estimatorCommit (h : Keeps s₀ s) : AnswerKeeps s₀ (execEstimatorCommit s) := .next (.cond (.commitEst h) h)

theorem stringInputTimeout {which : Nat} (h : Keeps s₀ s) : AnswerKeeps s₀ (execStringInputTimeout k which s) := by
  unfold execStringInputTimeout
  refine .next ?_
  refine .cond h ?_
  extract_lets _ _ s1
  have h1 : Keeps s₀ s1 := .raise h
  split
  · exact .cond (.raise (.setStr h)) h
  · exact .cond (.raise h) h
  · exact .cond (.setStr h1) h
  · exact .cond (.raise h) h

theorem auxContactMismatch (h : Keeps s₀ s) : AnswerKeeps s₀ (execAuxContactMismatch k s) := .next (.cond (.raise (.setStr h)) h)
theorem stringShedOpen (h : Keeps s₀ s) : AnswerKeeps s₀ (execStringShedOpen k s) := .next (.cond (.openString h) h)

/-! The charge cycle and black start (chapter 09). -/

theorem estimatorStep (h : Keeps s₀ s) : AnswerKeeps s₀ (execEstimatorStep k s) := .next (.cond (.tellString (.chargeStep (.estStep h))) h)
theorem chargeCommandStart (h : Keeps s₀ s) : AnswerKeeps s₀ (execChargeCommandStart ch k s) := .next (.guardedWrite h (.applyChargeStart h))
theorem chargeCommandStop (h : Keeps s₀ s) : AnswerKeeps s₀ (execChargeCommandStop ch k s) := .next (.guardedWrite h (.applyChargeStop h))
theorem pulseEnd (h : Keeps s₀ s) : AnswerKeeps s₀ (execPulseEnd k s) := .next (.cond (.spmCompute (.setCharger h)) h)
theorem restEnd (h : Keeps s₀ s) : AnswerKeeps s₀ (execRestEnd k s) := .next (.cond (.endRest h) h)
theorem chargeTimerExpired (h : Keeps s₀ s) : AnswerKeeps s₀ (execChargeTimerExpired k s) := .next (.cond (.endCycle (.raiseCharger h)) h)
theorem chargePauseTimeout (h : Keeps s₀ s) : AnswerKeeps s₀ (execChargePauseTimeout k s) := .next (.cond (.endCycle (.raiseCharger h)) h)
theorem eqRequest (h : Keeps s₀ s) : AnswerKeeps s₀ (execEqRequest ch k s) := .next (.guardedWrite h (.applyEqRequest h))
theorem eqAbort (h : Keeps s₀ s) : AnswerKeeps s₀ (execEqAbort ch k s) := .next (.guardedWrite h (.applyEqAbort h))
theorem finalRestSkip (h : Keeps s₀ s) : AnswerKeeps s₀ (execFinalRestSkip k s) := .next (.cond (.completeCycle h) h)
theorem bsInWindow (h : Keeps s₀ s) : AnswerKeeps s₀ (execBsInWindow s) := .next (.cond (.fields h) h)
theorem bsSettleExpired (h : Keeps s₀ s) : AnswerKeeps s₀ (execBsSettleExpired s) := .next (.cond (.enterActive (.fields h)) h)
theorem bsTimeout (h : Keeps s₀ s) : AnswerKeeps s₀ (execBsTimeout s) := .next (.cond (.raise (.fields h)) h)

/-! Samples. -/

theorem loopSampleAvailable {fb : List Bool} {violations : Nat} (h : Keeps s₀ s) : AnswerKeeps s₀ (execLoopSampleAvailable md fb violations s) :=
  .next (.cond (.railSample (.bankSample (.ageSample (.bsSample (.stringSample (.stageSample (.feedSample (.frame h)))))))) h)
theorem adcEntryComplete {volts : List Rat} {up down : Rat} (h : Keeps s₀ s) : AnswerKeeps s₀ (execAdcEntryComplete volts up down s) :=
  .next (.cond (.stopAdc h) (.cond (.unless (.d2dGood (.slotWaits (.adcEntry h))) fun h1 => .railEntry (.thermEntry h1)) h))

/-! Two-wire ports and berths (chapter 14). -/

theorem scriptEnd (h : Keeps s₀ s) : AnswerKeeps s₀ (execScriptEnd p s) := by
  unfold execScriptEnd
  refine .next ?_
  split
  · exact h
  · exact .discoveryDone (.commitRun (.setPort h))

theorem scriptPage (h : Keeps s₀ s) : AnswerKeeps s₀ (execScriptPage p ack s) := by
  unfold execScriptPage
  refine .next ?_
  split
  · exact h
  · exact .cond (.setRun h) (.cond (.setPage (.busWrite h)) (.busWrite h))

theorem scriptRdb {v : BitVec 8} (h : Keeps s₀ s) : AnswerKeeps s₀ (execScriptRdb p ack pecOk v s) := by
  unfold execScriptRdb
  refine .next ?_
  split
  · exact h
  · exact .busRead h

theorem scriptRdw {v : BitVec 16} (h : Keeps s₀ s) : AnswerKeeps s₀ (execScriptRdw p ack pecOk v s) := by
  unfold execScriptRdw
  refine .next ?_
  split
  · exact h
  · exact .busRead h

theorem scriptRdk (h : Keeps s₀ s) : AnswerKeeps s₀ (execScriptRdk p ack pecOk data s) := by
  unfold execScriptRdk
  refine .next ?_
  split
  · exact h
  · exact .cond (.failRun (.busyFor h)) (.busRead h)

theorem scriptWrb (h : Keeps s₀ s) : AnswerKeeps s₀ (execScriptWrb p ack s) := by
  unfold execScriptWrb
  refine .next ?_
  split
  · exact h
  · exact .busWrite h

theorem scriptWrw (h : Keeps s₀ s) : AnswerKeeps s₀ (execScriptWrw p ack s) := by
  unfold execScriptWrw
  refine .next ?_
  split
  · exact h
  · exact .busWrite h

theorem scriptSnd (h : Keeps s₀ s) : AnswerKeeps s₀ (execScriptSnd p ack s) := by
  unfold execScriptSnd
  refine .next ?_
  split
  · exact h
  · exact .busWrite h

theorem scriptCnv (h : Keeps s₀ s) : AnswerKeeps s₀ (execScriptCnv p s) := .next (.runFree h)
theorem scriptTst (h : Keeps s₀ s) : AnswerKeeps s₀ (execScriptTst p s) := .next (.runFree h)
theorem scriptRep (h : Keeps s₀ s) : AnswerKeeps s₀ (execScriptRep p s) := .next (.runFree h)
theorem scriptWait (h : Keeps s₀ s) : AnswerKeeps s₀ (execScriptWait p s) := .next (.runFree h)
theorem scriptXtr (h : Keeps s₀ s) : AnswerKeeps s₀ (execScriptXtr p s) := .next (.runFree h)
theorem pollRunDue (h : Keeps s₀ s) : AnswerKeeps s₀ (execPollRunDue b s) :=
  .next (.cond (.cond (.cond (.setPort (.setBerth h)) (.setBerth h)) (.cond (.depart (.setBerth h)) (.setBerth h))) h)

theorem twTransactionBoundary (h : Keeps s₀ s) : AnswerKeeps s₀ (execTwTransactionBoundary p s) := by
  unfold execTwTransactionBoundary
  refine .next ?_
  refine .cond h ?_
  split
  · exact .takeWork (.cond (.cutRun h) h)
  · extract_lets s1 s2
    have h1 : Keeps s₀ s1 := .dropForeign h
    have h2 : Keeps s₀ s2 := .cond (.discoveryDone h1) h1
    split
    · split
      · exact .takeRun h2
      · exact .takeWork h2
    · exact .takeWork h2

theorem partnerCommandSend {v : BitVec 16} (h : Keeps s₀ s) : AnswerKeeps s₀ (execPartnerCommandSend p ack pecOk v s) := by
  unfold execPartnerCommandSend
  refine .next ?_
  refine .cond h ?_
  split
  · exact h
  · exact .finishLeaving (.sendCmd h)

theorem hostCommand {w : BitVec 32} (h : Keeps s₀ s) : AnswerKeeps s₀ (execHostCommand ch b w s) := .next (.guardedWrite h (.setBerth (.queueCmd h)))
theorem twArbitrationLost (h : Keeps s₀ s) : AnswerKeeps s₀ (execTwArbitrationLost p s) :=
  .next (.cond (.cond (.setPort (.raise (.failTransaction (.setPort h)))) (.setPort h)) h)
theorem twSclTimeout (h : Keeps s₀ s) : AnswerKeeps s₀ (execTwSclTimeout p s) := .next (.cond (.failTransaction h) h)
theorem twBusRecovery {ok : Bool} (h : Keeps s₀ s) : AnswerKeeps s₀ (execTwBusRecovery p ok s) :=
  .next (.cond (.cond (.clearing (.setPort h)) (.raise (.setPort h))) h)
theorem twScan {found : List Arrival} (h : Keeps s₀ s) : AnswerKeeps s₀ (execTwScan p found s) := .next (.cond (.found (.setPort h)) h)
theorem berthPresenceLow (h : Keeps s₀ s) : AnswerKeeps s₀ (execBerthPresenceLow b s) := .next (.cond (.setPort (.setBerth h)) h)
theorem berthPresenceHigh (h : Keeps s₀ s) : AnswerKeeps s₀ (execBerthPresenceHigh b s) :=
  .next (.cond (.cond (.depart (.setBerth h)) (.setBerth h)) h)
theorem berthDisable (h : Keeps s₀ s) : AnswerKeeps s₀ (execBerthDisable ch b s) := .next (.guardedWrite h (.applyBerthDisable h))
theorem alertResponseRead (h : Keeps s₀ s) : AnswerKeeps s₀ (execAlertResponseRead p addr s) :=
  .next (.cond (.alertBerth (.setPort (.completed h))) h)
theorem hostNotifyReceived {data : Nat} (h : Keeps s₀ s) : AnswerKeeps s₀ (execHostNotifyReceived p addr data s) :=
  .next (.cond (.lateNack h) (.cond (.cond (.busyTarget (.targetTakes h)) (.takeNotify (.targetTakes h))) h))
theorem mailboxBlockWrite {cmd : Nat} (h : Keeps s₀ s) : AnswerKeeps s₀ (execMailboxBlockWrite p cmd data pecOk s) :=
  .next (.cond (.lateNack h) (.cond (.cond (.busyTarget (.targetTakes h)) (.takeBlock (.targetTakes h))) h))
theorem mailboxBlockRead (h : Keeps s₀ s) : AnswerKeeps s₀ (execMailboxBlockRead p s) :=
  .next (.cond (.lateNack h) (.cond (.cond (.busyTarget (.targetTakes h)) (.messageServed (.answerRead (.targetTakes h)))) h))
theorem mailboxBlockTaken (h : Keeps s₀ s) : AnswerKeeps s₀ (execMailboxBlockTaken p s) :=
  .next (.cond (.unless (.endStretch (.setPort h)) .messageServed) h)

theorem listenedTransaction {t : Listened} (h : Keeps s₀ s) : AnswerKeeps s₀ (execListenedTransaction p t s) := by
  unfold execListenedTransaction
  refine .next ?_
  refine .cond ?_ h
  split
  · extract_lets _ s1
    have h1 : Keeps s₀ s1 := by
      unfold s1
      split
      · exact .depart h
      · exact h
    split
    · exact .setBerth h1
    · exact .cond (.stray h1) h1
  · refine .cond ?_ h
    dsimp only
    refine .cond (.setBerth h) ?_
    refine .cond ?_ (.cond h (.cond (.hear h) (.cond (.setBerth h) h)))
    split
    · exact .setBerth h
    · exact .setBerth h

/-! The Kopol link and the pair (chapter 12). -/

theorem heartbeatSend (h : Keeps s₀ s) : AnswerKeeps s₀ (execHeartbeatSend s) := .next (.cond (.sendHeartbeat (.fields h)) h)

theorem heartbeatReceived {frame : Nat × Heartbeat} {err : Rat} {ok0 ok1 : Bool} (h : Keeps s₀ s) : AnswerKeeps s₀ (execHeartbeatReceived frame err
    ok0 ok1 s) :=
  .next (.cond (.cond (.cond (.seqIn (.fields h)) (.update (.fields (.seqIn (.fields h))) .takeHeartbeat)) (.fields h)) h)

theorem heartbeatMiss (h : Keeps s₀ s) : AnswerKeeps s₀ (execHeartbeatMiss s) :=
  .next (.cond (.cond (.update (.raise (.fields (.fields h))) .pairReach) (.fields h)) h)
theorem twinAbsentTimeout (h : Keeps s₀ s) : AnswerKeeps s₀ (execTwinAbsentTimeout s) := .next (.cond (.raise (.fields h)) h)
theorem electionFrameSend (h : Keeps s₀ s) : AnswerKeeps s₀ (execElectionFrameSend s) := .next (.cond (.fields h) h)
theorem electionFrameReceived {e : ElectionFrame} (h : Keeps s₀ s) : AnswerKeeps s₀ (execElectionFrameReceived e s) :=
  .next (.cond (.cond (.update (.fields (.frameIn h)) .elect) (.frameIn h)) h)
theorem electionTimeout (h : Keeps s₀ s) : AnswerKeeps s₀ (execElectionTimeout s) := .next (.cond (.raise (.elect h)) h)
theorem healthUpdate (h : Keeps s₀ s) : AnswerKeeps s₀ (execHealthUpdate s) := .next (.cond (.fields h) h)
theorem trackingMessageReceived {m : TrackMsg} (h : Keeps s₀ s) : AnswerKeeps s₀ (execTrackingMessageReceived hd crcOk m s) :=
  .next (.cond (.cond (.cond (.takeTrack (.frameIn h)) (.keepEarly (.frameIn h))) (.frameIn h)) h)

theorem alignmentSend (h : Keeps s₀ s) : AnswerKeeps s₀ (execAlignmentSend s) := by
  unfold execAlignmentSend
  refine .next ?_
  split
  · exact .cond (.fields (.sendFrame h)) h
  · exact h

theorem alignmentReceived {items : List AlignItem} (h : Keeps s₀ s) : AnswerKeeps s₀ (execAlignmentReceived hd crcOk k items s) :=
  .next (.cond (.cond (.takeAlign (.frameIn h)) (.frameIn h)) h)
theorem mirrorWriteReceived (h : Keeps s₀ s) : AnswerKeeps s₀ (execMirrorWriteReceived hd crcOk k idx sub data s) :=
  .next (.cond (.cond (.cond (.keepEarly (.frameIn h)) (.takeMirror (.frameIn h))) (.frameIn h)) h)
theorem snapshotFragmentReceived {snap : Snapshot} (h : Keeps s₀ s) : AnswerKeeps s₀ (execSnapshotFragmentReceived hd crcOk k snap s) :=
  .next (.cond (.cond (.unless (.fields (.frameIn h)) fun h1 => .cond (.applySnapshot h1) (.fields h1)) (.frameIn h)) h)

theorem kopolFrameRetransmit {cls : Nat} (h : Keeps s₀ s) : AnswerKeeps s₀ (execKopolFrameRetransmit cls s) := by
  unfold execKopolFrameRetransmit
  refine .next ?_
  split
  · exact h
  · exact .cond (.fields h) h

theorem laneDown {lane : Nat} (h : Keeps s₀ s) : AnswerKeeps s₀ (execLaneDown lane s) := .next (.cond (.raise (.fields h)) h)
theorem laneRetrain {lane : Nat} {ok : Bool} {roundTrip : Rat} (h : Keeps s₀ s) : AnswerKeeps s₀ (execLaneRetrain lane ok roundTrip s) :=
  .next (.cond (.clearing (.fields h)) h)

theorem ownNReleased (h : Keeps s₀ s) : AnswerKeeps s₀ (execOwnNReleased s) := by
  unfold execOwnNReleased
  refine .next ?_
  refine .cond h ?_
  extract_lets _ s1
  have h1 : Keeps s₀ s1 := .fields h
  exact .cond (.takeover h1) (.cond (.cond (.followDescent h1) (.cond (.beginJoining (.claim h1)) (.claim h1))) (.cond (.claim h1) h1))

theorem ownReadbackFault (h : Keeps s₀ s) : AnswerKeeps s₀ (execOwnReadbackFault s) := .next (.cond (.raise h) h)
theorem engStopSelfRelease (h : Keeps s₀ s) : AnswerKeeps s₀ (execEngStopSelfRelease s) :=
  .next (.cond (.update (.forUnits (.setRegion h) .engageHold) .selfRelease) h)
theorem supStallSelfRelease (h : Keeps s₀ s) : AnswerKeeps s₀ (execSupStallSelfRelease s) := .next (.cond (.selfRelease (.fields h)) h)

theorem selfReleaseOutputsLow (h : Keeps s₀ s) : AnswerKeeps s₀ (execSelfReleaseOutputsLow s) := by
  unfold execSelfReleaseOutputsLow
  refine .next ?_
  split
  · exact h
  · exact .cond (.tripAfterRelease (.fields (.outputsLow h))) h

theorem supervisoryCoresResume (h : Keeps s₀ s) : AnswerKeeps s₀ (execSupervisoryCoresResume s) := .next (.cond (.tripAfterRelease (.fields h)) h)
theorem handoverRequest (h : Keeps s₀ s) : AnswerKeeps s₀ (execHandoverRequest ch s) := .next (.guardedWrite h (.applyHandover h))
theorem handoverCancel (h : Keeps s₀ s) : AnswerKeeps s₀ (execHandoverCancel ch s) := .next (.guardedWrite h (.cancelHandover h))
theorem handoverRelease (h : Keeps s₀ s) : AnswerKeeps s₀ (execHandoverRelease s) :=
  .next (.cond (.setReady (.enterMode (.fields (.releaseOwn h)))) h)
theorem handoverTimeout (h : Keeps s₀ s) : AnswerKeeps s₀ (execHandoverTimeout s) := .next (.cond (.cond (.pairReach (.fields h)) (.fields h)) h)

/-! Images and their updates (chapter 17). -/

theorem updateTransferComplete (h : Keeps s₀ s) : AnswerKeeps s₀ (execUpdateTransferComplete s) := .next (.cond (.fields h) h)

theorem updateChecksDone {bad : List Nat} {corrected : Nat} {content : Image} {train : Nat} (h : Keeps s₀ s) : AnswerKeeps s₀ (execUpdateChecksDone
    bad corrected content train s) := by
  unfold execUpdateChecksDone
  refine .next ?_
  refine .cond ?_ h
  extract_lets _ _ s1 s2
  have h1 : Keeps s₀ s1 := .checkReads h
  have h2 : Keeps s₀ s2 := .commitUpdate h1
  exact .cond (.cond (.leavePilot h2) (.cond (.selfRestart h2) h2)) (.fields h1)

theorem updateAbort (h : Keeps s₀ s) : AnswerKeeps s₀ (execUpdateAbort ch v s) := .next (.guardedWrite h (.abortUpdate h))
theorem hitlessStart (h : Keeps s₀ s) : AnswerKeeps s₀ (execHitlessStart ch s) := .next (.update (.guardedWrite h (.applyHitless h)) .fields)
theorem hitlessAbort (h : Keeps s₀ s) : AnswerKeeps s₀ (execHitlessAbort ch s) := .next (.cond (.answerWrite h) (.guardedWrite h (.undoHitless h)))
theorem hitlessCommitPoint (h : Keeps s₀ s) : AnswerKeeps s₀ (execHitlessCommitPoint s) := .next (.cond (.fields h) h)
theorem hitlessResume (h : Keeps s₀ s) : AnswerKeeps s₀ (execHitlessResume s) :=
  .next (.cond (.fields (.gapEnd h)) (.cond (.loadIdleBanks (.imageNote (.confirmTrial (.fields (.gapEnd h))))) h))
theorem hitlessResumeTimeout (h : Keeps s₀ s) : AnswerKeeps s₀ (execHitlessResumeTimeout s) := .next (.cond (.imageNote (.fields (.failTrial h))) h)
theorem hitlessRevertTimeout (h : Keeps s₀ s) : AnswerKeeps s₀ (execHitlessRevertTimeout s) := .next (.cond (.selfRestart h) h)
theorem tideFrameBoundary (h : Keeps s₀ s) : AnswerKeeps s₀ (execTideFrameBoundary s) := .next (.cond (.finishHitless (.switchTable h)) h)
theorem carrierBoundary (h : Keeps s₀ s) : AnswerKeeps s₀ (execCarrierBoundary st s) :=
  .next (.cond (.update (.tellStage (.finishHitless (.dueNews (.boundary (.dueMirrors h))))) .sendSnapshot) h)
theorem pairUpdateStart (h : Keeps s₀ s) : AnswerKeeps s₀ (execPairUpdateStart ch s) := .next (.guardedWrite h (.applyPairUpdate h))
theorem pairUpdateAbort (h : Keeps s₀ s) : AnswerKeeps s₀ (execPairUpdateAbort ch s) := .next (.guardedWrite h (.undoPairUpdate h))

theorem imageTransferReceived {kind offset : Nat} (h : Keeps s₀ s) : AnswerKeeps s₀ (execImageTransferReceived hd crcOk kind offset data s) := by
  unfold execImageTransferReceived
  refine .next ?_
  exact .cond (.cond (.cond (.fields (.frameIn h)) (.unless (.fields (.frameIn h)) fun h1 => .fields (.beginUpdate h1))) (.frameIn h)) h

theorem pilotExit {train : Nat} (h : Keeps s₀ s) : AnswerKeeps s₀ (execPilotExit ch v train s) := .next (.guardedWrite h (.leavePilot h))

/-! Modes (chapter 02). -/

/-- LOCKOUT_ENTRY sets the latch, at once or, in LAYUP or during a last breath, where it was not set yet, or leaves it as it was (R324, R332). -/
theorem lockoutEntry (h : Keeps s₀ s) : AnswerKeeps s₀ (execLockoutEntry s) := by
  unfold execLockoutEntry
  refine .next ?_
  split
  · exact h
  · refine .cond (.parts h (fun hl => ?_) id id) (.enterLockout h)
    exact Bool.or_eq_true_iff.mpr (.inl hl)

theorem restartHoldoffEnd (h : Keeps s₀ s) : AnswerKeeps s₀ (execRestartHoldoffEnd s) := by
  unfold execRestartHoldoffEnd
  refine .next ?_
  split
  · exact .cond (.enterRise h) h
  · exact h

theorem dictionaryOnline {l : List Arrival} (h : Keeps s₀ s) : AnswerKeeps s₀ (execDictionaryOnline l s) := by
  unfold execDictionaryOnline
  refine .next ?_
  refine .cond ?_ h
  extract_lets s1 _ s2 s3
  have h1 : Keeps s₀ s1 := .setRegion (.confirmTrial h)
  have h2 : Keeps s₀ s2 := .discoverAll (.ethUp (.canUp (.mode h1)))
  have h3 : Keeps s₀ s3 := .milestone h2
  exact .cond (.enterLockout h3) (.cond h3 (.toRise h3))

theorem snsEngRelease (h : Keeps s₀ s) : AnswerKeeps s₀ (execSnsEngRelease s) := by
  unfold execSnsEngRelease
  refine .next ?_
  refine .cond ?_ h
  extract_lets s1 s2 _ s3
  have h1 : Keeps s₀ s1 := .commonPulse (.startEng (.startSns h))
  have h2 : Keeps s₀ s2 := .milestone h1
  have h3 : Keeps s₀ s3 := .mode h2
  exact .cond (.cond (.beginJoining h3) (.applyHeld h3)) h1

theorem prechargeEnd (h : Keeps s₀ s) : AnswerKeeps s₀ (execPrechargeEnd n s) :=
  .next (.cond (.joinCheck (.beginPrecharge (.forUnits h .endPrecharge))) h)
theorem auxContactConfirm (h : Keeps s₀ s) : AnswerKeeps s₀ (execAuxContactConfirm k s) := .next (.cond (.joinCheck (.connect h)) h)

theorem enterActive (h : Keeps s₀ s) : AnswerKeeps s₀ (execEnterActive s) := by
  unfold execEnterActive
  refine .next ?_
  refine .cond ?_ h
  extract_lets t1 s1
  have h1 : Keeps s₀ t1.1 := .seeNet h
  have h2 : Keeps s₀ s1 := .cond (.cond (.beginJoining (.claim h1)) h1) h
  exact .cond h2 (.cond (.cond (.enterBlackstart h2) h2) (.joinCheck (.milestone (.enterActive h2))))

theorem noSourceDeclared (h : Keeps s₀ s) : AnswerKeeps s₀ (execNoSourceDeclared s) := .next (.cond (.cond (.enterBlackstart h) (.spmDetail h)) h)
theorem modeRequestRise (h : Keeps s₀ s) : AnswerKeeps s₀ (execModeRequestRise ch s) := .next (.requestFree h)
theorem modeRequestService (h : Keeps s₀ s) : AnswerKeeps s₀ (execModeRequestService ch s) := .next (.requestFree h)
theorem modeRequestActive (h : Keeps s₀ s) : AnswerKeeps s₀ (execModeRequestActive ch s) := .next (.requestFree h)
theorem modeRequestDescent (h : Keeps s₀ s) : AnswerKeeps s₀ (execModeRequestDescent ch s) := .next (.requestFree h)
theorem modeRequestMoored (h : Keeps s₀ s) : AnswerKeeps s₀ (execModeRequestMoored ch s) := .next (.requestFree h)
theorem modeRequestLayup (h : Keeps s₀ s) : AnswerKeeps s₀ (execModeRequestLayup ch s) := .next (.requestFree h)
theorem modeRequestLeaveService {code train : Nat} (h : Keeps s₀ s) : AnswerKeeps s₀ (execModeRequestLeaveService ch code train s) :=
  .next (.writeRequest h)

theorem tripReaction (h : Keeps s₀ s) : AnswerKeeps s₀ (execTripReaction s) := by
  unfold execTripReaction
  refine .next ?_
  refine .cond h ?_
  extract_lets _ _ s1 s2
  have h1 : Keeps s₀ s1 := .mode h
  have h2 : Keeps s₀ s2 := .outputsSafe (.releaseOwn h1)
  exact .cond h1 (.cond (.beginDescent (.supersedeRequest (.releaseOwn (.outputsSafe h1)))) (.driveTrip (.mode h2)))

theorem descentProgramsStart (h : Keeps s₀ s) : AnswerKeeps s₀ (execDescentProgramsStart s) := by
  unfold execDescentProgramsStart
  refine .next ?_
  refine .cond ?_ h
  extract_lets s1 _ _ s2 s3
  have h1 : Keeps s₀ s1 := .forUnits h .stopStageRail
  have h2 : Keeps s₀ s2 := .mode h1
  have h3 : Keeps s₀ s3 := .driveTrip (.setRegion h2)
  exact .forUnits h3 fun h4 => .cond (.keepGroup h4) (.cond h4 (.startLower h4))

theorem descentComplete {train : Nat} (h : Keeps s₀ s) : AnswerKeeps s₀ (execDescentComplete train s) := by
  unfold execDescentComplete
  refine .next ?_
  refine .cond ?_ h
  extract_lets _ _ s1 s2 s3
  have h1 : Keeps s₀ s1 := .mode h
  have h2 : Keeps s₀ s2 := .releaseOwn (.commitAgeing (.commitEst h1))
  have h3 : Keeps s₀ s3 := .networksDown (.enterMode h2)
  split
  · exact .restart h2
  · exact .beginLayup h2
  · exact .mode h3

/-! Loss of supply and the AO clock (chapter 02). -/

theorem powerFailWarning {pfw vao : Bool} (h : Keeps s₀ s) : AnswerKeeps s₀ (execPowerFailWarning pfw vao s) := by
  unfold execPowerFailWarning
  refine .next ?_
  extract_lets _ _ s1 _ t s2 _ d
  have h1 : Keeps s₀ s1 := .fields h
  have h2 : Keeps s₀ t := .restoreCounters (.fields h1)
  have h3 : Keeps s₀ s2 := .cond (.commitCounters h2) h2
  have h4 : Keeps s₀ d.2 := .drawBool h1
  refine .cond h ?_
  split
  · exact .fields h3
  · exact h1
  · exact .lastBreath (.raise h4)
  · exact h1
  · exact h1

theorem rstNAsserted (h : Keeps s₀ s) : AnswerKeeps s₀ (execRstNAsserted s) := .next (.cond (.lastBreath (.fields h)) (.fields h))
theorem rstNReleased {train : Nat} (h : Keeps s₀ s) : AnswerKeeps s₀ (execRstNReleased train s) := .next (.cond (.restart (.fields h)) (.fields h))
theorem supplyDipRestart {train : Nat} (h : Keeps s₀ s) : AnswerKeeps s₀ (execSupplyDipRestart train s) :=
  .next (.cond (.restart (.clearing h)) (.cond (.unless (.fields (.clearing h)) .restart) h))
theorem counterBlockPeriodicCommit (h : Keeps s₀ s) : AnswerKeeps s₀ (execCounterBlockPeriodicCommit s) := .next (.cond (.commitCounters h) h)
theorem xtalFail (h : Keeps s₀ s) : AnswerKeeps s₀ (execXtalFail s) := .next (.cond (.fields h) (.raise (.fields h)))
theorem xtalRetry {runs : Bool} (h : Keeps s₀ s) : AnswerKeeps s₀ (execXtalRetry runs s) :=
  .next (.cond (.cond (.clearing (.fields h)) (.fields h)) h)

/-! Wakes and lay-up (chapter 02). -/

theorem wakeNWake (h : Keeps s₀ s) : AnswerKeeps s₀ (execWakeNWake s) := .next (.cond (.wake h) h)
theorem srcdetWake {d : SrcPin} (h : Keeps s₀ s) : AnswerKeeps s₀ (execSrcdetWake d s) := .next (.cond (.wake h) h)
theorem twAddressMatchWake (h : Keeps s₀ s) : AnswerKeeps s₀ (execTwAddressMatchWake p addr s) := .next (.cond (.wake (.cond h (.mode h))) h)

theorem twMatchStretchTimeout (h : Keeps s₀ s) : AnswerKeeps s₀ (execTwMatchStretchTimeout p s) := by
  unfold execTwMatchStretchTimeout
  refine .next ?_
  split
  · exact .cond (.cond (.mode h) (.raise (.setPort (.mode h)))) h
  · exact h

theorem canWake (h : Keeps s₀ s) : AnswerKeeps s₀ (execCanWake p s) := .next (.cond (.cond (.mode (.canBack (.serveRegions (.wake h)))) (.wake h)) h)

theorem canRetentionTimeout (h : Keeps s₀ s) : AnswerKeeps s₀ (execCanRetentionTimeout s) := by
  unfold execCanRetentionTimeout
  refine .next ?_
  split
  · exact .cond (.mode (.serveRegions (.canDown h))) h
  · exact h

theorem mooredAdcScan {volts : List Rat} {codes : List Nat} (h : Keeps s₀ s) : AnswerKeeps s₀ (execMooredAdcScan volts codes s) :=
  .next (.cond (.update (.slot (.mooredEntries h)) .wake) h)
theorem ownNReleaseWake (h : Keeps s₀ s) : AnswerKeeps s₀ (execOwnNReleaseWake s) := .next (.cond (.wake (.fields h)) h)

theorem aoWakeTimerExpired (h : Keeps s₀ s) : AnswerKeeps s₀ (execAoWakeTimerExpired s) := by
  unfold execAoWakeTimerExpired
  refine .next ?_
  split
  · exact .cond (.wake (.mode h)) h
  · exact h

theorem layupEntry {underLoad auxOpen : List Bool} (h : Keeps s₀ s) : AnswerKeeps s₀ (execLayupEntry underLoad auxOpen s) :=
  .next (.cond (.update (.forUnits (.forUnits (.fields h) .openString) .layupTurn) .layupEnd) h)
theorem layupWake {src : Option SrcPin} {train : Nat} (h : Keeps s₀ s) : AnswerKeeps s₀ (execLayupWake src train s) :=
  .next (.cond (.cond (.layupStart (.fields h)) (.cond (.fields h) h)) h)

/-! Uncorrectable errors of SRAM (R448). -/

theorem sramUncorrectable {unit item : Nat} (h : Keeps s₀ s) : AnswerKeeps s₀ (execSramUncorrectable region unit item s) := by
  unfold execSramUncorrectable
  refine .next ?_
  refine .cond ?_ h
  extract_lets s1
  have h1 : Keeps s₀ s1 := .raise h
  split
  · exact .sramLow h1
  · exact .sramLow h1
  · exact .sramEng h1
  · exact .shedStage h1
  · exact .cond (.setMod h1) h1
  · exact .sramNet h1
  · exact .sramHigh h1

/-! The protocols of the dictionary (chapter 13). -/

theorem objectWrite (h : Keeps s₀ s) : AnswerKeeps s₀ (execObjectWrite ch idx sub data s) := .next (.hostWrite h)
theorem pairCommonWrite (h : Keeps s₀ s) : AnswerKeeps s₀ (execPairCommonWrite ch idx sub data s) := .next (.cond (.hostWrite h) h)
theorem sdoRequest {r : SdoReq} (h : Keeps s₀ s) : AnswerKeeps s₀ (execSdoRequest p v r s) := .next (.cond (.sdoServe (.touch h)) h)
theorem sdoAbortTransfer (h : Keeps s₀ s) : AnswerKeeps s₀ (execSdoAbortTransfer p v s) := .next (.cond (.dropSdo (.touch h)) h)

theorem sdoSegmentTimeout (h : Keeps s₀ s) : AnswerKeeps s₀ (execSdoSegmentTimeout p v s) := by
  unfold execSdoSegmentTimeout
  refine .next ?_
  split
  · exact .cond (.sdoAbort h) h
  · exact h

theorem nireoRead {ca : Bool} {word : Nat} (h : Keeps s₀ s) : AnswerKeeps s₀ (execNireoRead rq tag idx sub ca word s) :=
  .next (.nireoReadOp (.requestFrom h))
theorem nireoWrite {ca : Bool} (h : Keeps s₀ s) : AnswerKeeps s₀ (execNireoWrite rq tag idx sub ca data s) := .next (.nireoWriteOp (.requestFrom h))
theorem nireoDomainBegin {size : Nat} (h : Keeps s₀ s) : AnswerKeeps s₀ (execNireoDomainBegin rq tag idx sub size s) :=
  .next (.nireoBeginOp (.requestFrom h))
theorem nireoDomainSegment {word : Nat} (h : Keeps s₀ s) : AnswerKeeps s₀ (execNireoDomainSegment rq tag idx sub word data s) :=
  .next (.nireoSegmentOp (.requestFrom h))
theorem nireoDomainEnd {crc : BitVec 32} (h : Keeps s₀ s) : AnswerKeeps s₀ (execNireoDomainEnd rq tag idx sub crc s) :=
  .next (.nireoEndOp (.requestFrom h))
theorem nireoDomainAbort (h : Keeps s₀ s) : AnswerKeeps s₀ (execNireoDomainAbort rq tag idx sub s) := .next (.nireoAbortOp (.requestFrom h))
theorem nireoOpenSession {src : Nat × Nat × Nat} (h : Keeps s₀ s) : AnswerKeeps s₀ (execNireoOpenSession src tag s) := .next (.nireoOpenOp h)
theorem nireoCloseSession (h : Keeps s₀ s) : AnswerKeeps s₀ (execNireoCloseSession rq tag s) := .next (.nireoCloseOp (.requestFrom h))
theorem nireoBatchWrite {entries : List Entry} (h : Keeps s₀ s) : AnswerKeeps s₀ (execNireoBatchWrite rq tag entries s) :=
  .next (.nireoBatchOp (.requestFrom h))
theorem nireoFrameDropped {port : Nat} (h : Keeps s₀ s) : AnswerKeeps s₀ (execNireoFrameDropped port s) := .next (.cond (.dropNireo h) h)

theorem sessionIdleTimeout (h : Keeps s₀ s) : AnswerKeeps s₀ (execSessionIdleTimeout n s) := by
  unfold execSessionIdleTimeout
  refine .next ?_
  split
  · exact .cond (.closeNireo h) h
  · exact h

theorem domainWriteIdleTimeout (h : Keeps s₀ s) : AnswerKeeps s₀ (execDomainWriteIdleTimeout n idx sub s) := by
  unfold execDomainWriteIdleTimeout
  refine .next ?_
  split
  · exact .cond (.dropTransfer h) h
  · exact h

theorem hsFrameCommand {frame : List Byte} (h : Keeps s₀ s) : AnswerKeeps s₀ (execHsFrameCommand frame crcOk s) :=
  .next (.cond h (.cond (.nireoFrame h) (.fields h)))
theorem hsStatusCommand (h : Keeps s₀ s) : AnswerKeeps s₀ (execHsStatusCommand s) := .next (.cond (.fields h) h)

theorem hsResponseCommand (h : Keeps s₀ s) : AnswerKeeps s₀ (execHsResponseCommand s) := by
  unfold execHsResponseCommand
  refine .next ?_
  refine .cond h ?_
  split
  · exact .fields h
  · exact .fields h

theorem nireoCanFdSegment {ident : Nat} {seg : Byte} (h : Keeps s₀ s) : AnswerKeeps s₀ (execNireoCanFdSegment p ident seg data s) := by
  unfold execNireoCanFdSegment
  extract_lets _ _ _ _ _ s1 _ _ _ _ s2
  have h1 : Keeps s₀ s1 := .canHeard h
  have h2 : Keeps s₀ s2 := .cond (.dropNireo h1) h1
  exact .next (.cond h (.cond (.cond (.nireoFrame (.setCan h2)) (.setCan h2)) (.dropNireo (.setCan h1))))

theorem accessChallengeRead (h : Keeps s₀ s) : AnswerKeeps s₀ (execAccessChallengeRead ch s) := .next (.cond (.readObject (.touch h)) h)
theorem accessResponse {level : Nat} {sig : List Byte} (h : Keeps s₀ s) : AnswerKeeps s₀ (execAccessResponse ch level sig s) :=
  .next (.cond (.cond (.respond (.touch h)) (.answerWrite (.touch h))) h)
theorem accessDrop (h : Keeps s₀ s) : AnswerKeeps s₀ (execAccessDrop ch v s) := .next (.hostWrite h)

theorem accessIdleTimeout (h : Keeps s₀ s) : AnswerKeeps s₀ (execAccessIdleTimeout ch s) := by
  unfold execAccessIdleTimeout
  refine .next ?_
  split
  · exact .cond (.dropLevel h) h
  · exact h

theorem storeSave {sig : Nat} (h : Keeps s₀ s) : AnswerKeeps s₀ (execStoreSave ch sig s) := .next (.hostWrite h)
theorem restoreLoad {sig : Nat} (h : Keeps s₀ s) : AnswerKeeps s₀ (execRestoreLoad ch sig s) := .next (.hostWrite h)
theorem legacyModeWrite (h : Keeps s₀ s) : AnswerKeeps s₀ (execLegacyModeWrite ch v s) := .next (.hostWrite h)

/-! CANopen (chapter 13). -/

theorem nmtStart (h : Keeps s₀ s) : AnswerKeeps s₀ (execNmtStart p s) := .next (.cond (.canHeard (.setCan h)) h)
theorem nmtStop (h : Keeps s₀ s) : AnswerKeeps s₀ (execNmtStop p s) := .next (.cond (.canHeard (.dropRpdos (.dropSdos (.setCan h)))) h)
theorem nmtEnterPreOperational (h : Keeps s₀ s) : AnswerKeeps s₀ (execNmtEnterPreOperational p s) :=
  .next (.cond (.cond (.canHeard h) (.canHeard (.preOperational (.dropRpdos h)))) h)
theorem nmtResetNode (h : Keeps s₀ s) : AnswerKeeps s₀ (execNmtResetNode p s) := .next (.cond (.canHeard (.preOperational (.resetCan h))) h)
theorem nmtResetCommunication (h : Keeps s₀ s) : AnswerKeeps s₀ (execNmtResetCommunication p s) :=
  .next (.cond (.canHeard (.canStart (.forUnits (.resetCan h) .dropLevel))) h)

theorem lssSwitchState {global configuration : Bool} {ident : List Nat} (h : Keeps s₀ s) : AnswerKeeps s₀ (execLssSwitchState p global configuration
    ident s) :=
  .next (.cond (.cond (.canHeard (.setCan h)) (.cond (.lssAnswer (.setCan h)) h)) h)

theorem lssConfigureNodeId {node : Nat} (h : Keeps s₀ s) : AnswerKeeps s₀ (execLssConfigureNodeId p node s) :=
  .next (.cond (.cond (.lssAnswer (.setCan h)) (.lssAnswer h)) h)

theorem lssConfigureBitTiming {entry : Nat} (h : Keeps s₀ s) : AnswerKeeps s₀ (execLssConfigureBitTiming p entry s) := by
  unfold execLssConfigureBitTiming
  refine .next ?_
  refine .cond ?_ h
  split
  · exact .lssAnswer (.setCan h)
  · exact .lssAnswer h

theorem lssStore (h : Keeps s₀ s) : AnswerKeeps s₀ (execLssStore p s) := .next (.cond (.lssAnswer (.setCan h)) h)
theorem lssInquire {what : Nat} (h : Keeps s₀ s) : AnswerKeeps s₀ (execLssInquire p what s) :=
  .next (.cond (.cond (.lssAnswer h) (.cond (.lssAnswer h) h)) h)

theorem lssFastscan {idNumber bitCheck lssSub lssNext : Nat} (h : Keeps s₀ s) : AnswerKeeps s₀ (execLssFastscan p idNumber bitCheck lssSub lssNext s)
    :=
  .next (.cond (.cond (.lssAnswer (.setCan h)) (.cond (.lssAnswer (.cond (.setCan h) h)) h)) h)

theorem rpdoReceived (h : Keeps s₀ s) : AnswerKeeps s₀ (execRpdoReceived p n data s) :=
  .next (.cond (.cond (.fields (.canHeard h)) (.applyRpdo (.canHeard h))) h)
theorem tpdoEvent (h : Keeps s₀ s) : AnswerKeeps s₀ (execTpdoEvent n s) := .next (.tpdoChanged h)
theorem tpdoEventTimer (h : Keeps s₀ s) : AnswerKeeps s₀ (execTpdoEventTimer n s) := .next (.cond (.sendTpdo h) h)
theorem tpdoInhibitExpired (h : Keeps s₀ s) : AnswerKeeps s₀ (execTpdoInhibitExpired n s) := .next (.cond (.sendTpdo h) h)
theorem pgUpdate (h : Keeps s₀ s) : AnswerKeeps s₀ (execPgUpdate n s) :=
  .next (.cond (.unless (.tell (.stepPg h)) fun h1 => .forUnits h1 .tpdoChanged) h)
theorem syncProduce (h : Keeps s₀ s) : AnswerKeeps s₀ (execSyncProduce s) :=
  .next (.cond (.atSync (.forUnits (.setTime h) fun h1 => .cond (.setCan (.sendCan h1)) (.portFaultEnd (.sendCan h1)))) h)
theorem syncReceived (h : Keeps s₀ s) : AnswerKeeps s₀ (execSyncReceived p s) := .next (.cond (.atSync (.cond (.portFault (.setCan h)) h)) h)
theorem timeProduce (h : Keeps s₀ s) : AnswerKeeps s₀ (execTimeProduce s) := .next (.cond (.forUnits (.setTime h) .sendCan) h)
theorem canHeartbeatProduce (h : Keeps s₀ s) : AnswerKeeps s₀ (execCanHeartbeatProduce p s) := .next (.cond (.sendCan (.setCan h)) h)
theorem canHeartbeatReceived {node : Nat} (h : Keeps s₀ s) : AnswerKeeps s₀ (execCanHeartbeatReceived p node s) :=
  .next (.cond (.setCan (.unwatch (.unwatch h))) h)
theorem canHeartbeatConsumerTimeout {node : Nat} (h : Keeps s₀ s) : AnswerKeeps s₀ (execCanHeartbeatConsumerTimeout p node s) :=
  .next (.cond (.portFault (.setCan h)) h)
theorem canBusOff (h : Keeps s₀ s) : AnswerKeeps s₀ (execCanBusOff p s) := .next (.cond (.portFault (.closePort (.dropSdos (.setCan h)))) h)
theorem canBusOffRecovery (h : Keeps s₀ s) : AnswerKeeps s₀ (execCanBusOffRecovery p s) := .next (.cond (.portFaultEnd (.setCan h)) h)

/-! Ethernet ports, PTP and time (chapter 13). -/

theorem ethLinkUp {speed : Nat} (h : Keeps s₀ s) : AnswerKeeps s₀ (execEthLinkUp p speed s) :=
  .next (.cond (.update (.portFaultEnd (.setEth h)) .takeLinkLocal) h)
theorem ethLinkDown (h : Keeps s₀ s) : AnswerKeeps s₀ (execEthLinkDown p s) := .next (.cond (.portFault (.closePort (.setEth h))) h)
theorem ethFrameDropped (h : Keeps s₀ s) : AnswerKeeps s₀ (execEthFrameDropped p s) := .next (.cond (.setEth h) h)
theorem ethArpRequest (h : Keeps s₀ s) : AnswerKeeps s₀ (execEthArpRequest p addr s) := .next (.ethAnswer h)
theorem icmpEchoRequest (h : Keeps s₀ s) : AnswerKeeps s₀ (execIcmpEchoRequest p addr s) := .next (.ethAnswer h)
theorem ptpSyncSend (h : Keeps s₀ s) : AnswerKeeps s₀ (execPtpSyncSend p s) := .next (.cond (.setEth h) h)
theorem ptpAnnounceSend (h : Keeps s₀ s) : AnswerKeeps s₀ (execPtpAnnounceSend p s) := .next (.cond (.setEth h) h)
theorem ptpDelayReqReceived {req : DelayReq} (h : Keeps s₀ s) : AnswerKeeps s₀ (execPtpDelayReqReceived p req s) :=
  .next (.cond (.setEth (.ethReceived h)) h)
theorem ptpAnnounceReceived {a : Announce} (h : Keeps s₀ s) : AnswerKeeps s₀ (execPtpAnnounceReceived p a s) :=
  .next (.cond (.update (.ethReceived h) fun h1 => .portFault (.setEth h1)) h)
theorem ptpAnnounceTimeout (h : Keeps s₀ s) : AnswerKeeps s₀ (execPtpAnnounceTimeout p s) := .next (.cond (.portFaultEnd (.setEth h)) h)
theorem timeSetSeconds (h : Keeps s₀ s) : AnswerKeeps s₀ (execTimeSetSeconds ch v s) := .next (.hostWrite h)
theorem phaseAdjust {ns : Int} (h : Keeps s₀ s) : AnswerKeeps s₀ (execPhaseAdjust ch ns s) := .next (.hostWrite h)
theorem traceableWrite (h : Keeps s₀ s) : AnswerKeeps s₀ (execTraceableWrite ch v s) := .next (.hostWrite h)
theorem ppsEdge (h : Keeps s₀ s) : AnswerKeeps s₀ (execPpsEdge s) := .next (.cond (.setTime (.stepTime h)) h)
theorem traceableTimeout (h : Keeps s₀ s) : AnswerKeeps s₀ (execTraceableTimeout s) := .next (.cond (.leaveTraceable h) h)
theorem holdoverEnd (h : Keeps s₀ s) : AnswerKeeps s₀ (execHoldoverEnd s) := .next (.cond (.setTime h) h)

end AnswerKeeps

/-- Every command but the two of a power cycle keeps what lasts (R333). -/
theorem exec_keeps {s₀ s : State} {c : Instr} (hA : c ≠ .porAsserted) (hR : ∀ sideB legacy wakeLow train, c ≠ .porRelease sideB legacy wakeLow train)
    (h : Keeps s₀ s) : AnswerKeeps s₀ (exec c s) := by
  cases c with
  | porRelease sideB legacy wakeLow train => exact absurd rfl (hR sideB legacy wakeLow train)
  | dictionaryOnline => exact .dictionaryOnline h
  | snsEngRelease => exact .snsEngRelease h
  | prechargeEnd => exact .prechargeEnd h
  | auxContactConfirm => exact .auxContactConfirm h
  | enterActive => exact .enterActive h
  | noSourceDeclared => exact .noSourceDeclared h
  | modeRequestRise => exact .modeRequestRise h
  | modeRequestService => exact .modeRequestService h
  | modeRequestActive => exact .modeRequestActive h
  | modeRequestDescent => exact .modeRequestDescent h
  | modeRequestMoored => exact .modeRequestMoored h
  | modeRequestLayup => exact .modeRequestLayup h
  | modeRequestLeaveService => exact .modeRequestLeaveService h
  | tripReaction => exact .tripReaction h
  | descentProgramsStart => exact .descentProgramsStart h
  | descentComplete => exact .descentComplete h
  | restartHoldoffEnd => exact .restartHoldoffEnd h
  | powerFailWarning => exact .powerFailWarning h
  | rstNAsserted => exact .rstNAsserted h
  | rstNReleased => exact .rstNReleased h
  | supplyDipRestart => exact .supplyDipRestart h
  | counterBlockPeriodicCommit => exact .counterBlockPeriodicCommit h
  | wakeNWake => exact .wakeNWake h
  | srcdetWake => exact .srcdetWake h
  | twAddressMatchWake => exact .twAddressMatchWake h
  | canWake => exact .canWake h
  | mooredAdcScan => exact .mooredAdcScan h
  | ownNReleaseWake => exact .ownNReleaseWake h
  | aoWakeTimerExpired => exact .aoWakeTimerExpired h
  | twMatchStretchTimeout => exact .twMatchStretchTimeout h
  | canRetentionTimeout => exact .canRetentionTimeout h
  | groupEnableWrite => exact .groupEnableWrite h
  | stuckRunDetected => exact .stuckRunDetected h
  | stuckClearCount => exact .stuckClearCount h
  | loopSampleAvailable => exact .loopSampleAvailable h
  | mclkReadbackFault => exact .mclkReadbackFault h
  | fastComparatorDecision => exact .fastComparatorDecision h
  | calCommand => exact .calCommand h
  | calComplete => exact .calComplete h
  | seqLengthWrite => exact .seqLengthWrite h
  | adcLapStart => exact .adcLapStart h
  | adcEntryComplete => exact .adcEntryComplete h
  | adcLapEnd => exact .adcLapEnd h
  | tempSlot => exact .tempSlot h
  | instanceRelease => exact .instanceRelease h
  | instanceRunEnd => exact .instanceRunEnd h
  | instanceCommit => exact .instanceCommit h
  | depWaitEnd => exact .depWaitEnd h
  | carrierBoundary => exact .carrierBoundary h
  | tideFrameBoundary => exact .tideFrameBoundary h
  | idleBanksLoaded => exact .idleBanksLoaded h
  | loadPoint => exact .loadPoint h
  | stageStart => exact .stageStart h
  | softStartEnd => exact .softStartEnd h
  | stageStop => exact .stageStop h
  | delayLineCalibration => exact .delayLineCalibration h
  | phaseDrop => exact .phaseDrop h
  | phaseReturn => exact .phaseReturn h
  | breakwaterTruncation => exact .breakwaterTruncation h
  | fenderTruncation => exact .fenderTruncation h
  | estopAsserted => exact .estopAsserted h
  | tripReadbackFault => exact .tripReadbackFault h
  | driveReadbackFault => exact .driveReadbackFault h
  | holdWatchExpired => exact .holdWatchExpired h
  | holdLimitExpired => exact .holdLimitExpired h
  | pgTargetWrite => exact .pgTargetWrite h
  | pgUpdate => exact .pgUpdate h
  | rcUpdate => exact .rcUpdate h
  | rcPhaseWrap => exact .rcPhaseWrap h
  | rcRefTimeout => exact .rcRefTimeout h
  | rcUnlockTimeout => exact .rcUnlockTimeout h
  | rcReset => exact .rcReset h
  | observerRun => exact .observerRun h
  | substitutionExpired => exact .substitutionExpired h
  | spmUpdate => exact .spmUpdate h
  | spmRecompute => exact .spmRecompute h
  | droopTrimUpdate => exact .droopTrimUpdate h
  | phaseShareTrimWrite => exact .phaseShareTrimWrite h
  | inputLoss => exact .inputLoss h
  | handoverEnd => exact .handoverEnd h
  | sourceQualified => exact .sourceQualified h
  | handbackCommand => exact .handbackCommand h
  | handbackStart => exact .handbackStart h
  | handbackRampEnd => exact .handbackRampEnd h
  | feedGateOn => exact .feedGateOn h
  | feedReverseOff => exact .feedReverseOff h
  | feedLost => exact .feedLost h
  | feedEnableOn => exact .feedEnableOn h
  | feedEnableOff => exact .feedEnableOff h
  | inrushChop => exact .inrushChop h
  | inrushOffExpired => exact .inrushOffExpired h
  | inrushTimeout => exact .inrushTimeout h
  | gateConfirmExpired => exact .gateConfirmExpired h
  | gateConfirmTimeout => exact .gateConfirmTimeout h
  | gateStuckOn => exact .gateStuckOn h
  | gateFeedbackLost => exact .gateFeedbackLost h
  | feedShort => exact .feedShort h
  | feedRetry => exact .feedRetry h
  | feedRetryReset => exact .feedRetryReset h
  | meterTimeout => exact .meterTimeout h
  | estimatorStep => exact .estimatorStep h
  | unanchoredTimeout => exact .unanchoredTimeout h
  | probeStart => exact .probeStart h
  | probeShiftEnd => exact .probeShiftEnd h
  | slackRequest => exact .slackRequest h
  | slackAutoRequest => exact .slackAutoRequest h
  | slackAbort => exact .slackAbort h
  | slackRampDownEnd => exact .slackRampDownEnd h
  | slackRestPoint => exact .slackRestPoint h
  | slackComplete => exact .slackComplete h
  | slackConditionAbort => exact .slackConditionAbort h
  | slackRefusalTimeout => exact .slackRefusalTimeout h
  | stringReplaced => exact .stringReplaced h
  | estimatorCommit => exact .estimatorCommit h
  | stringInputTimeout => exact .stringInputTimeout h
  | auxContactMismatch => exact .auxContactMismatch h
  | stringShedOpen => exact .stringShedOpen h
  | chargeCommandStart => exact .chargeCommandStart h
  | chargeCommandStop => exact .chargeCommandStop h
  | pulseEnd => exact .pulseEnd h
  | restEnd => exact .restEnd h
  | chargeTimerExpired => exact .chargeTimerExpired h
  | chargePauseTimeout => exact .chargePauseTimeout h
  | eqRequest => exact .eqRequest h
  | eqAbort => exact .eqAbort h
  | finalRestSkip => exact .finalRestSkip h
  | bsInWindow => exact .bsInWindow h
  | bsSettleExpired => exact .bsSettleExpired h
  | bsTimeout => exact .bsTimeout h
  | layupEntry => exact .layupEntry h
  | layupWake => exact .layupWake h
  | seqEnd => exact .seqEnd h
  | seqOn => exact .seqOn h
  | seqOff => exact .seqOff h
  | seqWaitgood => exact .seqWaitgood h
  | seqWaitlow => exact .seqWaitlow h
  | seqDelay => exact .seqDelay h
  | seqWaitgroup => exact .seqWaitgroup h
  | seqMark => exact .seqMark h
  | stageRailStart => exact .stageRailStart h
  | railRunFault => exact .railRunFault h
  | mooredRailFault => exact .mooredRailFault h
  | railDescentFault => exact .railDescentFault h
  | railDescentOvervoltage => exact .railDescentOvervoltage h
  | groupRise => exact .groupRise h
  | groupAbortRise => exact .groupAbortRise h
  | groupLower => exact .groupLower h
  | railMarginHigh => exact .railMarginHigh h
  | railMarginLow => exact .railMarginLow h
  | railMarginOff => exact .railMarginOff h
  | thermalDerateUpdate => exact .thermalDerateUpdate h
  | pdmReading => exact .pdmReading h
  | vidUpdate => exact .vidUpdate h
  | ageReset => exact .ageReset h
  | ronUpdate => exact .ronUpdate h
  | replan => exact .replan h
  | bankCapEstimate => exact .bankCapEstimate h
  | ageingCommit => exact .ageingCommit h
  | faultClearWindowEnd => exact .faultClearWindowEnd h
  | sevWrite => exact .sevWrite h
  | sevQueryWrite => exact .sevQueryWrite h
  | irqPendingClear => exact .irqPendingClear h
  | lockoutEntry => exact .lockoutEntry h
  | lockstepMismatch => exact .lockstepMismatch h
  | d2dTransferFail => exact .d2dTransferFail h
  | heartbeatSend => exact .heartbeatSend h
  | heartbeatReceived => exact .heartbeatReceived h
  | heartbeatMiss => exact .heartbeatMiss h
  | twinAbsentTimeout => exact .twinAbsentTimeout h
  | electionFrameReceived => exact .electionFrameReceived h
  | electionFrameSend => exact .electionFrameSend h
  | electionTimeout => exact .electionTimeout h
  | trackingMessageReceived => exact .trackingMessageReceived h
  | alignmentSend => exact .alignmentSend h
  | alignmentReceived => exact .alignmentReceived h
  | mirrorWriteReceived => exact .mirrorWriteReceived h
  | snapshotFragmentReceived => exact .snapshotFragmentReceived h
  | imageTransferReceived => exact .imageTransferReceived h
  | kopolFrameRetransmit => exact .kopolFrameRetransmit h
  | laneDown => exact .laneDown h
  | laneRetrain => exact .laneRetrain h
  | healthUpdate => exact .healthUpdate h
  | ownNReleased => exact .ownNReleased h
  | ownReadbackFault => exact .ownReadbackFault h
  | engStopSelfRelease => exact .engStopSelfRelease h
  | supStallSelfRelease => exact .supStallSelfRelease h
  | selfReleaseOutputsLow => exact .selfReleaseOutputsLow h
  | handoverRequest => exact .handoverRequest h
  | handoverCancel => exact .handoverCancel h
  | handoverRelease => exact .handoverRelease h
  | handoverTimeout => exact .handoverTimeout h
  | pairCommonWrite => exact .pairCommonWrite h
  | objectWrite => exact .objectWrite h
  | sdoRequest => exact .sdoRequest h
  | sdoAbortTransfer => exact .sdoAbortTransfer h
  | sdoSegmentTimeout => exact .sdoSegmentTimeout h
  | nireoRead => exact .nireoRead h
  | nireoWrite => exact .nireoWrite h
  | nireoDomainBegin => exact .nireoDomainBegin h
  | nireoDomainSegment => exact .nireoDomainSegment h
  | nireoDomainEnd => exact .nireoDomainEnd h
  | nireoDomainAbort => exact .nireoDomainAbort h
  | nireoOpenSession => exact .nireoOpenSession h
  | nireoCloseSession => exact .nireoCloseSession h
  | nireoBatchWrite => exact .nireoBatchWrite h
  | nireoFrameDropped => exact .nireoFrameDropped h
  | sessionIdleTimeout => exact .sessionIdleTimeout h
  | domainWriteIdleTimeout => exact .domainWriteIdleTimeout h
  | hsFrameCommand => exact .hsFrameCommand h
  | hsStatusCommand => exact .hsStatusCommand h
  | hsResponseCommand => exact .hsResponseCommand h
  | accessChallengeRead => exact .accessChallengeRead h
  | accessResponse => exact .accessResponse h
  | accessDrop => exact .accessDrop h
  | accessIdleTimeout => exact .accessIdleTimeout h
  | storeSave => exact .storeSave h
  | restoreLoad => exact .restoreLoad h
  | legacyModeWrite => exact .legacyModeWrite h
  | nmtStart => exact .nmtStart h
  | nmtStop => exact .nmtStop h
  | nmtEnterPreOperational => exact .nmtEnterPreOperational h
  | nmtResetNode => exact .nmtResetNode h
  | nmtResetCommunication => exact .nmtResetCommunication h
  | lssSwitchState => exact .lssSwitchState h
  | lssConfigureNodeId => exact .lssConfigureNodeId h
  | lssConfigureBitTiming => exact .lssConfigureBitTiming h
  | lssStore => exact .lssStore h
  | lssInquire => exact .lssInquire h
  | lssFastscan => exact .lssFastscan h
  | syncProduce => exact .syncProduce h
  | syncReceived => exact .syncReceived h
  | timeProduce => exact .timeProduce h
  | rpdoReceived => exact .rpdoReceived h
  | tpdoEvent => exact .tpdoEvent h
  | tpdoEventTimer => exact .tpdoEventTimer h
  | canHeartbeatProduce => exact .canHeartbeatProduce h
  | canHeartbeatConsumerTimeout => exact .canHeartbeatConsumerTimeout h
  | canBusOff => exact .canBusOff h
  | canBusOffRecovery => exact .canBusOffRecovery h
  | ethLinkDown => exact .ethLinkDown h
  | ethArpRequest => exact .ethArpRequest h
  | icmpEchoRequest => exact .icmpEchoRequest h
  | ptpSyncSend => exact .ptpSyncSend h
  | ptpAnnounceSend => exact .ptpAnnounceSend h
  | ptpDelayReqReceived => exact .ptpDelayReqReceived h
  | ptpAnnounceReceived => exact .ptpAnnounceReceived h
  | ptpAnnounceTimeout => exact .ptpAnnounceTimeout h
  | timeSetSeconds => exact .timeSetSeconds h
  | ppsEdge => exact .ppsEdge h
  | phaseAdjust => exact .phaseAdjust h
  | traceableWrite => exact .traceableWrite h
  | traceableTimeout => exact .traceableTimeout h
  | holdoverEnd => exact .holdoverEnd h
  | twScan => exact .twScan h
  | berthPresenceLow => exact .berthPresenceLow h
  | berthPresenceHigh => exact .berthPresenceHigh h
  | berthDisable => exact .berthDisable h
  | alertResponseRead => exact .alertResponseRead h
  | hostNotifyReceived => exact .hostNotifyReceived h
  | mailboxBlockWrite => exact .mailboxBlockWrite h
  | mailboxBlockRead => exact .mailboxBlockRead h
  | twTransactionBoundary => exact .twTransactionBoundary h
  | twArbitrationLost => exact .twArbitrationLost h
  | twSclTimeout => exact .twSclTimeout h
  | twBusRecovery => exact .twBusRecovery h
  | pollRunDue => exact .pollRunDue h
  | scriptEnd => exact .scriptEnd h
  | scriptPage => exact .scriptPage h
  | scriptRdb => exact .scriptRdb h
  | scriptRdw => exact .scriptRdw h
  | scriptRdk => exact .scriptRdk h
  | scriptWrb => exact .scriptWrb h
  | scriptWrw => exact .scriptWrw h
  | scriptSnd => exact .scriptSnd h
  | scriptCnv => exact .scriptCnv h
  | scriptTst => exact .scriptTst h
  | scriptRep => exact .scriptRep h
  | scriptWait => exact .scriptWait h
  | scriptXtr => exact .scriptXtr h
  | partnerCommandSend => exact .partnerCommandSend h
  | hostCommand => exact .hostCommand h
  | listenedTransaction => exact .listenedTransaction h
  | trainCommand => exact .trainCommand h
  | dramFillComplete => exact .dramFillComplete h
  | dramRead => exact .dramRead h
  | dramWrite => exact .dramWrite h
  | scrubBurst => exact .scrubBurst h
  | scrubLapOverdue => exact .scrubLapOverdue h
  | bucketLeakTick => exact .bucketLeakTick h
  | eccModeChange => exact .eccModeChange h
  | flipArm => exact .flipArm h
  | dramAlert => exact .dramAlert h
  | sramUncorrectable => exact .sramUncorrectable h
  | mramWrite => exact .mramWrite h
  | mramReadUe => exact .mramReadUe h
  | recordArrival => exact .recordArrival h
  | recordCommit => exact .recordCommit h
  | freezeStart => exact .freezeStart h
  | freezeAbort => exact .freezeAbort h
  | freezeRelease => exact .freezeRelease h
  | freezeLimitExpired => exact .freezeLimitExpired h
  | readFromWrite => exact .readFromWrite h
  | readBlock => exact .readBlock h
  | captureFrame => exact .captureFrame h
  | captureTrigger => exact .captureTrigger h
  | triggerNow => exact .triggerNow h
  | windowLastFrame => exact .windowLastFrame h
  | windowCommit => exact .windowCommit h
  | windowAbandon => exact .windowAbandon h
  | windowRelease => exact .windowRelease h
  | updateTransferComplete => exact .updateTransferComplete h
  | updateChecksDone => exact .updateChecksDone h
  | updateAbort => exact .updateAbort h
  | hitlessStart => exact .hitlessStart h
  | hitlessAbort => exact .hitlessAbort h
  | hitlessCommitPoint => exact .hitlessCommitPoint h
  | hitlessResume => exact .hitlessResume h
  | hitlessResumeTimeout => exact .hitlessResumeTimeout h
  | hitlessRevertTimeout => exact .hitlessRevertTimeout h
  | pairUpdateStart => exact .pairUpdateStart h
  | pairUpdateAbort => exact .pairUpdateAbort h
  | pilotExit => exact .pilotExit h
  | xtalFail => exact .xtalFail h
  | xtalRetry => exact .xtalRetry h
  | porAsserted => exact absurd rfl hA
  | ethLinkUp => exact .ethLinkUp h
  | ethFrameDropped => exact .ethFrameDropped h
  | nireoCanFdSegment => exact .nireoCanFdSegment h
  | canHeartbeatReceived => exact .canHeartbeatReceived h
  | emcyInhibitExpired => exact .emcyInhibitExpired h
  | tpdoInhibitExpired => exact .tpdoInhibitExpired h
  | sramScrubRead => exact .sramScrubRead h
  | mailboxBlockTaken => exact .mailboxBlockTaken h
  | stageRailRiseTimeout => exact .stageRailRiseTimeout h
  | supervisoryCoresResume => exact .supervisoryCoresResume h

/-- POR_ASSERTED resets the mode record of AO: the latch is clear and the cause is 0 (R333). -/
theorem porAsserted_clears_lockout (s : State) :
    ∃ t, exec .porAsserted s = .next t ∧ t.mode.lockoutLatch = false ∧ t.mode.lockoutCause = 0 :=
  ⟨_, rfl, rfl, rfl⟩

/-- Settles O3: POR_ASSERTED clears the lockout, and every command but the two of a power cycle keeps it, as each operation that it is built from does. -/
theorem lockoutLatchOnlyClearedByPowerCycle : Obligations.LockoutLatchOnlyClearedByPowerCycle := by
  unfold Obligations.LockoutLatchOnlyClearedByPowerCycle
  refine ⟨porAsserted_clears_lockout, fun c s t hA hR ht => ?_⟩
  have hk : AnswerKeeps s (exec c s) := exec_keeps hA hR (.refl s)
  rw [ht] at hk
  exact ⟨hk.latch, hk.cause⟩

end Sys2Proof.Machine

/-! The pending buffer of the recorder when it is full (R460): the lowest class pending, the buffer without its oldest record of that class, and the two
outcomes of an arrival. -/
namespace Sys2Proof.Machine

/-- `lowestClass` is the greatest lower bound of the classes pending, with 6, above every class, for an empty buffer. -/
theorem le_lowestClass_iff (c : Nat) (l : List Record) : c ≤ lowestClass l ↔ c ≤ 6 ∧ ∀ y ∈ l, c ≤ y.cls := by
  induction l with
  | nil => simp [lowestClass]
  | cons r rs ih => simp only [lowestClass, le_min_iff, ih, List.forall_mem_cons]; tauto

/-- A class that a record pending has and none is below is the lowest class pending. -/
theorem lowestClass_eq_of_mem {x : Record} {l : List Record} (hx : x ∈ l) (hle : ∀ y ∈ l, x.cls ≤ y.cls) (h6 : x.cls ≤ 6) : lowestClass l = x.cls := by
  have hbound := (le_lowestClass_iff (lowestClass l) l).mp le_rfl
  exact le_antisymm (hbound.2 x hx) ((le_lowestClass_iff x.cls l).mpr ⟨h6, hle⟩)

/-- The record that `dropFirst` takes out is the oldest of its class: no record before it is of that class. -/
theorem dropFirst_append_cons (x : Record) (a b : List Record) (ha : ∀ y ∈ a, y.cls ≠ x.cls) : dropFirst x.cls (a ++ x :: b) = a ++ b := by
  induction a with
  | nil => simp [dropFirst]
  | cons y ys ih =>
    obtain ⟨hy, hys⟩ := List.forall_mem_cons.mp ha
    simp [dropFirst, hy, ih hys]

/-- A drop is counted in its class (R459). -/
theorem countDrop_drops_same (l : Log) (c : Nat) (h : c < l.drops.length) : nth (l.countDrop c).drops c 0 = nth l.drops c 0 + 1 :=
  nth_put_same _ _ _ _ h

/-- A drop is counted in no other class. -/
theorem countDrop_drops_other (l : Log) (c d : Nat) (h : d ≠ c) : nth (l.countDrop c).drops d 0 = nth l.drops d 0 :=
  nth_put_other _ _ _ _ _ h.symm

/-- A full buffer takes a record not below the lowest class pending in place of the oldest of that class, which counts as dropped (R460). -/
theorem arrive_of_full_of_le (l : Log) (r : Record) (hfull : 256 ≤ l.waiting.length) (h : lowestClass l.waiting ≤ r.cls) :
    l.arrive r = { l.countDrop (lowestClass l.waiting) with waiting := dropFirst (lowestClass l.waiting) l.waiting ++ [r] } := by
  unfold Log.arrive
  rw [if_neg hfull.not_gt]
  exact if_pos h

/-- A record below the lowest class pending only counts as dropped when the buffer is full (R460). -/
theorem arrive_of_full_of_lt (l : Log) (r : Record) (hfull : 256 ≤ l.waiting.length) (h : r.cls < lowestClass l.waiting) :
    l.arrive r = l.countDrop r.cls := by
  unfold Log.arrive
  rw [if_neg hfull.not_gt]
  exact if_neg h.not_ge

/-- Settles O6: x is of the lowest class pending and the first of it, so it is what an arrival not below it removes and counts. -/
theorem pendingBufferReplacement : Obligations.PendingBufferReplacement := by
  unfold Obligations.PendingBufferReplacement
  intro l r x a b hsplit hlen hdrops hr hcls ha hb
  have hx : x ∈ l.waiting := hsplit ▸ List.mem_append_right a List.mem_cons_self
  have hle : ∀ y ∈ l.waiting, x.cls ≤ y.cls := by
    rw [hsplit, List.forall_mem_append, List.forall_mem_cons]
    exact ⟨fun y hy => (ha y hy).le, le_rfl, hb⟩
  have hlow : lowestClass l.waiting = x.cls := lowestClass_eq_of_mem hx hle (hcls x hx).le
  have hrest : dropFirst x.cls l.waiting = a ++ b := by
    rw [hsplit]
    exact dropFirst_append_cons x a b fun y hy => (ha y hy).ne'
  constructor
  · intro hge
    rw [arrive_of_full_of_le l r hlen.ge (hlow ▸ hge), hlow, hrest]
    exact ⟨rfl, countDrop_drops_same l x.cls (hdrops ▸ hcls x hx), countDrop_drops_other l x.cls⟩
  · intro hlt
    rw [arrive_of_full_of_lt l r hlen.ge (hlow ▸ hlt)]
    exact ⟨rfl, countDrop_drops_same l r.cls (hdrops ▸ hr), countDrop_drops_other l r.cls⟩

end Sys2Proof.Machine

/-! What a power cycle keeps, and what a tick with no command keeps: with them every step keeps the queue, the variant, the serial number and the canonical
form of the memories. -/
namespace Sys2Proof.Machine

/-- The state with its lockout forgotten: what lasts of it are the queue, the identity and the form of the memories. -/
def State.unlocked (s : State) : State := { s with mode := {} }

section
variable {s₀ s t : State}

theorem Keeps.unlocked (h : Keeps s t) : Keeps s.unlocked t :=
  ⟨h.pending, h.part, h.serial, h.memory, fun hl => Bool.noConfusion hl, fun hc => absurd rfl hc⟩

theorem AnswerKeeps.unlocked {o : Host.Outcome State Fault Refusal} (h : AnswerKeeps s o) : AnswerKeeps s.unlocked o := by
  cases o with
  | next t => exact Keeps.unlocked h
  | fault r => trivial
  | refused r => trivial

/-- A start after a POR keeps all that lasts but the lockout. -/
theorem Keeps.freshPor (h : Keeps s₀ s) : Keeps s₀.unlocked (s.fresh true) := by
  refine ⟨h.pending, h.part, h.serial, fun hwf => ?_, fun hl => Bool.noConfusion hl, fun hc => absurd rfl hc⟩
  obtain ⟨-, hmram⟩ := Bool.and_eq_true_iff.mp (h.memory hwf)
  exact Bool.and_eq_true_iff.mpr ⟨rfl, hmram⟩

theorem AnswerKeeps.porAsserted (h : Keeps s₀ s) : AnswerKeeps s₀.unlocked (execPorAsserted s) :=
  .next (.parts (.freshPor (.outputsSafe h)) (fun hl => Bool.noConfusion hl) (fun hc => absurd rfl hc) id)

theorem AnswerKeeps.porRelease {sideB legacy wakeLow : Bool} {train : Nat} (h : Keeps s₀ s) :
    AnswerKeeps s₀.unlocked (execPorRelease sideB legacy wakeLow train s) := by
  unfold execPorRelease
  refine .next ?_
  split
  · exact .startFrom (.restoreCounters (.freshPor (.fields h)))
  · exact .startFrom (.freshPor (.fields h))
  · exact h.unlocked
  · exact h.unlocked
  · exact h.unlocked

/-- Every command keeps the queue, the identity and the form of the memories. -/
theorem exec_keeps_unlocked (c : Instr) (s : State) : AnswerKeeps s.unlocked (exec c s) := by
  by_cases hA : c = .porAsserted
  · exact hA ▸ .porAsserted (.refl s)
  by_cases hR : ∃ sideB legacy wakeLow train, c = .porRelease sideB legacy wakeLow train
  · obtain ⟨sideB, legacy, wakeLow, train, rfl⟩ := hR
    exact .porRelease (.refl s)
  · exact (exec_keeps hA (fun a b d e hc => hR ⟨a, b, d, e, hc⟩) (.refl s)).unlocked

/-! What the block does by itself. -/

theorem Keeps.occupancyTick (h : Keeps s₀ s) : Keeps s₀ s.occupancyTick := .cond (.fields (.forUnits h .setEngine)) h
theorem Keeps.dispatchAll (h : Keeps s₀ s) : Keeps s₀ s.dispatchAll := .forUnits h .dispatch
theorem Keeps.refreshShadow (h : Keeps s₀ s) : Keeps s₀ s.refreshShadow := .fields h
theorem Keeps.tripMatches (h : Keeps s₀ s) : Keeps s₀ s.tripMatches := .cond (.clearing h) h
theorem Keeps.wakeRegions (h : Keeps s₀ s) : Keeps s₀ s.wakeRegions :=
  .cond h (.cond (.cond (.serveRegions h) h) (.cond (.mode (.serveRegions h)) h))

theorem Keeps.background (h : Keeps s₀ s) : Keeps s₀ s.background := by
  unfold State.background
  extract_lets s1 s2
  have h1 : Keeps s₀ s1 := .dispatchAll (.occupancyTick h)
  have h2 : Keeps s₀ s2 := .cond (.refreshShadow h1) h1
  exact .cond h (.cond h1 (.settleDrops (.resumeFault (.wakeRegions (.joinCheck (.tripMatches (.seeEstop h2)))))))

theorem Keeps.idle (h : Keeps s₀ s) : Keeps s₀ s.idle := .background (.fields h)

end

/-- A step keeps the form of the memories. -/
theorem step_keeps_memoryWf {s t : State} (hs : s.memoryWf = true) (ht : step s = .next t) : t.memoryWf = true := by
  unfold step at ht
  split at ht
  · injection ht with ht
    exact ht ▸ (Keeps.idle (.refl s)).memory hs
  · next c cs _ =>
    have hk := exec_keeps_unlocked c { s with pending := cs }
    rw [ht] at hk
    exact hk.memory hs

/-- Settles O1: by the definition of a step. -/
theorem stepRunsFront : Obligations.StepRunsFront := by
  unfold Obligations.StepRunsFront
  intro c cs s
  rfl

/-- Settles O2: the queue and the identity are among what every command keeps. -/
theorem commandsKeepQueueAndIdentity : Obligations.CommandsKeepQueueAndIdentity := by
  unfold Obligations.CommandsKeepQueueAndIdentity
  intro c s t ht
  have hk := exec_keeps_unlocked c s
  rw [ht] at hk
  exact ⟨hk.pending, hk.part, hk.serial⟩

/-- Settles O4: so is the form of the memories, and a tick with no command keeps it too. -/
theorem stepKeepsMemoryForm : Obligations.StepKeepsMemoryForm := by
  unfold Obligations.StepKeepsMemoryForm
  exact fun _ _ => step_keeps_memoryWf

/-- Settles O5. -/
theorem resetMemoryForm : Obligations.ResetMemoryForm := by
  unfold Obligations.ResetMemoryForm
  exact ⟨reset_memoryWf, rfl, rfl⟩

end Sys2Proof.Machine

/-! The two outputs of a phase (R145, R148, R149, R163): the command that stands one fine step later is that of the step before, or it has changed at that step;
an output is high only from a fine step after its command's change on. -/
namespace Sys2Proof.Machine

/-- The carrier command of a fine step is that of the step before, or has changed at it. -/
theorem Phase.carrierCmd_succ (v : Phase) {x : Nat} (hx : 32 * v.loadAt ≤ x) :
    (v.carrierCmd (x + 1)).1 = (v.carrierCmd x).1 ∨ (v.carrierCmd (x + 1)).2 = x + 1 := by
  unfold Phase.carrierCmd
  dsimp only
  split
  · exact .inl rfl
  split
  · exact .inl rfl
  grind

/-- The command after a first truncation (R163): the high pulse ended by action 1, the low one by action 2, both by any other. -/
def Phase.firstCut (v : Phase) (k : Nat × Nat) : Option (Bool × Nat) :=
  if k.2 = 1 then some (false, if (v.carrierCmd k.1).1 then k.1 else (v.carrierCmd k.1).2)
  else if k.2 = 2 then some (true, if (v.carrierCmd k.1).1 then (v.carrierCmd k.1).2 else k.1) else none

/-- The action that ends the other side's pulse. -/
def cutFor (side : Bool) : Nat := if side then 2 else 1

/-- The command after a further truncation: it stands where the truncation is of the side that is low already. -/
def nextCut (q : Option (Bool × Nat)) (k : Nat × Nat) : Option (Bool × Nat) :=
  match q with
  | none => none
  | some c => if k.2 = cutFor c.1 then some c else none

theorem cutFor_inj {a b : Bool} (h : cutFor a = cutFor b) : a = b := by
  revert h
  cases a <;> cases b <;> decide

theorem Phase.command_of_nil {v : Phase} {x : Nat} (h : v.cuts.filter (fun k => decide (k.1 ≤ x)) = []) : v.command x = some (v.carrierCmd x) := by
  unfold Phase.command
  rw [h]

theorem Phase.command_of_cons {v : Phase} {x : Nat} {k : Nat × Nat} {ks : List (Nat × Nat)} (h : v.cuts.filter (fun k => decide (k.1 ≤ x)) = k :: ks) :
    v.command x = ks.foldl nextCut (v.firstCut k) := by
  unfold Phase.command
  rw [h]
  rfl

theorem Phase.firstCut_eq_some {v : Phase} {k c : _} (h : v.firstCut k = some c) :
    k.2 = cutFor c.1 ∧ ((v.carrierCmd k.1).1 = c.1 → c.2 = (v.carrierCmd k.1).2) ∧ ((v.carrierCmd k.1).1 ≠ c.1 → c.2 = k.1) := by
  unfold Phase.firstCut at h
  split at h
  · next h1 =>
    obtain rfl := Option.some.inj h
    exact ⟨h1, fun hc => if_neg (by simp [hc]), fun hc => if_pos (by simpa using hc)⟩
  split at h
  · next h2 =>
    obtain rfl := Option.some.inj h
    exact ⟨h2, fun hc => if_pos hc, fun hc => if_neg hc⟩
  · exact absurd h (by simp)

/-- A command that stands after all truncations is that of the first, and every one of them ends the other side's pulse. -/
theorem foldl_nextCut_eq_some {ks : List (Nat × Nat)} {q : Option (Bool × Nat)} {c : Bool × Nat} (h : ks.foldl nextCut q = some c) :
    q = some c ∧ ∀ k ∈ ks, k.2 = cutFor c.1 := by
  induction ks generalizing q with
  | nil => exact ⟨h, nofun⟩
  | cons k ks ih =>
    obtain ⟨hq, hks⟩ := ih h
    cases q with
    | none => exact absurd hq (by simp [nextCut])
    | some d =>
      simp only [nextCut] at hq
      split at hq
      · next hk =>
        obtain rfl := Option.some.inj hq
        exact ⟨rfl, List.forall_mem_cons.mpr ⟨hk, hks⟩⟩
      · exact absurd hq (by simp)

/-- With truncations made by a fine step, the command is that of the first of them, and all of them end the other side's pulse. -/
theorem Phase.command_cuts {v : Phase} {x : Nat} {c : Bool × Nat} {k : Nat × Nat} {ks : List (Nat × Nat)}
    (hf : v.cuts.filter (fun k => decide (k.1 ≤ x)) = k :: ks) (h : v.command x = some c) :
    v.firstCut k = some c ∧ ∀ j ∈ v.cuts, j.1 ≤ x → j.2 = cutFor c.1 := by
  rw [Phase.command_of_cons hf] at h
  obtain ⟨hk, hks⟩ := foldl_nextCut_eq_some h
  refine ⟨hk, fun j hj hjx => ?_⟩
  have hmem : j ∈ k :: ks := hf ▸ List.mem_filter.mpr ⟨hj, decide_eq_true hjx⟩
  rcases List.mem_cons.mp hmem with rfl | hj
  · exact (Phase.firstCut_eq_some hk).1
  · exact hks j hj

/-- From the load point on, the command of a fine step has the value of the step before, or has changed at it. -/
theorem Phase.command_succ {v : Phase} {x : Nat} {c d : Bool × Nat} (hx : 32 * v.loadAt ≤ x) (hc : v.command x = some c) (hd : v.command (x + 1) = some d) :
    d.1 = c.1 ∨ d.2 = x + 1 := by
  cases hf' : v.cuts.filter (fun k => decide (k.1 ≤ x + 1)) with
  | nil =>
    have hf : v.cuts.filter (fun k => decide (k.1 ≤ x)) = [] := by
      rw [List.filter_eq_nil_iff] at hf' ⊢
      intro k hk
      have hlt := hf' k hk
      simp only [decide_eq_true_eq] at hlt ⊢
      omega
    rw [Phase.command_of_nil hf] at hc
    rw [Phase.command_of_nil hf'] at hd
    obtain rfl := Option.some.inj hc
    obtain rfl := Option.some.inj hd
    exact v.carrierCmd_succ hx
  | cons k' ks' =>
    obtain ⟨hfirst, hall⟩ := Phase.command_cuts hf' hd
    cases hf : v.cuts.filter (fun k => decide (k.1 ≤ x)) with
    | cons k ks =>
      obtain ⟨hk, hkx⟩ := List.mem_filter.mp (hf ▸ List.mem_cons_self : k ∈ v.cuts.filter fun k => decide (k.1 ≤ x))
      have hkx : k.1 ≤ x := of_decide_eq_true hkx
      have hsame : cutFor d.1 = cutFor c.1 := (hall k hk (by omega)).symm.trans ((Phase.command_cuts hf hc).2 k hk hkx)
      exact .inl (cutFor_inj hsame)
    | nil =>
      rw [Phase.command_of_nil hf] at hc
      obtain rfl := Option.some.inj hc
      obtain ⟨hk, hkx⟩ := List.mem_filter.mp (hf' ▸ List.mem_cons_self : k' ∈ v.cuts.filter fun k => decide (k.1 ≤ x + 1))
      have hnot := (List.filter_eq_nil_iff.mp hf) k' hk
      simp only [decide_eq_true_eq] at hkx hnot
      have hat : k'.1 = x + 1 := by omega
      obtain ⟨-, hkept, hcut⟩ := Phase.firstCut_eq_some hfirst
      rw [hat] at hkept hcut
      by_cases hv : (v.carrierCmd (x + 1)).1 = d.1
      · rw [← hv, hkept hv]
        exact v.carrierCmd_succ hx
      · exact .inr (hcut hv)

/-- A side that is high has the command, which has changed before, and its dead time is over. -/
theorem Phase.sideHigh_command {v : Phase} {side : Bool} {x : Nat} (h : v.sideHigh side x = true) :
    ∃ chg, v.command x = some (side, chg) ∧ v.riseAt chg (if side then v.tLH else v.tHL) ≤ x := by
  unfold Phase.sideHigh at h
  split at h
  · next c chg hc =>
    simp only [Bool.and_eq_true, beq_iff_eq, decide_eq_true_eq] at h
    obtain ⟨⟨rfl, hrise⟩, -⟩ := h
    exact ⟨chg, hc, hrise⟩
  · exact absurd h (by simp)

theorem Phase.lt_of_riseAt_le {v : Phase} {chg dead x : Nat} (h : v.riseAt chg dead ≤ x) : chg < x := (le_max_left _ _).trans h

theorem State.phaseLevel_iff (s : State) (p : Nat) (side : Bool) (x : Nat) : s.phaseLevel p side x = true ↔
    s.ringOpen = true ∧ (s.phase p).outOn = true ∧ s.objN (0x3800 + p) 3 ≠ (if side then 2 else 1) ∧ (s.phase p).sideHigh side x = true := by
  simp [State.phaseLevel, and_assoc]

/-- An output that is high has its side's command, and its dead time is over. -/
theorem State.phaseLevel_command {s : State} {p x : Nat} {side : Bool} (h : s.phaseLevel p side x = true) :
    ∃ chg, (s.phase p).command x = some (side, chg) ∧ (s.phase p).riseAt chg (if side then (s.phase p).tLH else (s.phase p).tHL) ≤ x :=
  Phase.sideHigh_command ((s.phaseLevel_iff p side x).mp h).2.2.2

/-- Settles O59: both sides follow one command, which has one value at a fine step, and which the step after it a new value has just begun. -/
theorem phaseInterlock : Obligations.PhaseInterlock := by
  unfold Obligations.PhaseInterlock
  refine ⟨fun p x s h => ?_, fun p x side s hx h => ?_, fun p x side s h => ?_, fun p x s => ⟨fun h => ?_, fun h => ?_⟩, fun p x side s h => ?_⟩
  · obtain ⟨c, hc, -⟩ := s.phaseLevel_command h.1
    obtain ⟨d, hd, -⟩ := s.phaseLevel_command h.2
    exact absurd (hc.symm.trans hd) (by simp)
  · refine Bool.eq_false_iff.mpr fun h' => ?_
    obtain ⟨c, hc, -⟩ := State.phaseLevel_command h
    obtain ⟨d, hd, hrise⟩ := State.phaseLevel_command h'
    have hlt := Phase.lt_of_riseAt_le hrise
    rcases Phase.command_succ hx hc hd with hs | hs
    · exact absurd hs (by simp)
    · dsimp only at hs
      omega
  · refine Bool.eq_false_iff.mpr fun h' => ?_
    obtain ⟨hring, hout, -, -⟩ := (s.phaseLevel_iff p side x).mp h'
    rcases h with h | h
    · exact absurd (h.symm.trans hring) (by simp)
    · exact absurd (h.symm.trans hout) (by simp)
  · exact Bool.eq_false_iff.mpr fun h' => ((s.phaseLevel_iff p false x).mp h').2.2.1 h
  · exact Bool.eq_false_iff.mpr fun h' => ((s.phaseLevel_iff p true x).mp h').2.2.1 h
  · obtain ⟨chg, hc, hrise⟩ := State.phaseLevel_command h
    refine ⟨chg, hc, Phase.lt_of_riseAt_le hrise, fun htick => ?_⟩
    have hle := (le_max_right (chg + 1) _).trans hrise
    rwa [htick] at hle

end Sys2Proof.Machine

/-! What a command may change: a state operation changes the parts of the state that it lists, and what is put together from operations changes no other parts than
they do. -/
namespace Sys2Proof.Machine
open Safety (Part)

-- The proofs below are many and small: they are elaborated one after another.
set_option Elab.async false

/-- No part of the state but those listed differs, and the queue is the same. -/
structure Changes (l : List Part) (s t : State) : Prop where
  only : Safety.changesOnly l s t

/-- A part is in a list. -/
def listed (l : List Part) (p : Part) : Bool := l.any fun q => Nat.beq q.ctorIdx p.ctorIdx

theorem listed_iff {l : List Part} {p : Part} : listed l p = true ↔ p ∈ l := by
  simp only [listed, List.any_eq_true]
  constructor
  · rintro ⟨q, hq, hidx⟩
    have hqp : q = p := by rw [← Safety.Part.ofNat_ctorIdx q, Nat.eq_of_beq_eq_true hidx, Safety.Part.ofNat_ctorIdx]
    exact hqp ▸ hq
  · exact fun hp => ⟨p, hp, Nat.beq_refl _⟩

theorem listed_eq_false {l : List Part} {p : Part} (h : p ∉ l) : listed l p = false := Bool.eq_false_iff.mpr fun hl => h (listed_iff.mp hl)

/-- Every part of one list is in another. -/
def partsIn (l k : List Part) : Bool := l.all (listed k)

theorem mem_of_partsIn {l k : List Part} (h : partsIn l k = true) {p : Part} (hp : p ∈ l) : p ∈ k := listed_iff.mp (List.all_eq_true.mp h p hp)

/-- What a raise may change: the source, its reactions on the units, its record, its interrupt and its EMCY (R320 to R335). -/
def raiseParts : List Part := [.mode, .mods, .groups, .insts, .engines, .stages, .phases, .feeds, .strs, .faults, .net, .log]

/-- All parts but the time, the variant, the serial number and those listed. -/
def allBut (l : List Part) : List Part :=
  [.supply, .mode, .clock, .mods, .groups, .adc, .tide, .insts, .engines, .stages, .phases, .pgs, .rcs, .obs, .spm, .feeds, .strs, .chargers, .dead, .rails,
    .railGroups, .thermal, .faults, .pair, .net, .berths, .ports, .mem, .log, .img, .cfg, .kept, .draws].filter fun p => !listed l p

/-- A value from one of two states. -/
def pick {α : Type} (b : Bool) (x y : α) : α :=
  match b with
  | true => y
  | false => x

/-- A state with the parts listed taken from another. -/
def State.graft (s t : State) (l : List Part) : State where
  pending := s.pending
  now := pick (listed l .now) s.now t.now
  part := pick (listed l .part) s.part t.part
  serial := pick (listed l .serial) s.serial t.serial
  supply := pick (listed l .supply) s.supply t.supply
  mode := pick (listed l .mode) s.mode t.mode
  clock := pick (listed l .clock) s.clock t.clock
  mods := pick (listed l .mods) s.mods t.mods
  groups := pick (listed l .groups) s.groups t.groups
  adc := pick (listed l .adc) s.adc t.adc
  tide := pick (listed l .tide) s.tide t.tide
  insts := pick (listed l .insts) s.insts t.insts
  engines := pick (listed l .engines) s.engines t.engines
  stages := pick (listed l .stages) s.stages t.stages
  phases := pick (listed l .phases) s.phases t.phases
  pgs := pick (listed l .pgs) s.pgs t.pgs
  rcs := pick (listed l .rcs) s.rcs t.rcs
  obs := pick (listed l .obs) s.obs t.obs
  spm := pick (listed l .spm) s.spm t.spm
  feeds := pick (listed l .feeds) s.feeds t.feeds
  strs := pick (listed l .strs) s.strs t.strs
  chargers := pick (listed l .chargers) s.chargers t.chargers
  dead := pick (listed l .dead) s.dead t.dead
  rails := pick (listed l .rails) s.rails t.rails
  railGroups := pick (listed l .railGroups) s.railGroups t.railGroups
  thermal := pick (listed l .thermal) s.thermal t.thermal
  faults := pick (listed l .faults) s.faults t.faults
  pair := pick (listed l .pair) s.pair t.pair
  net := pick (listed l .net) s.net t.net
  berths := pick (listed l .berths) s.berths t.berths
  ports := pick (listed l .ports) s.ports t.ports
  mem := pick (listed l .mem) s.mem t.mem
  log := pick (listed l .log) s.log t.log
  img := pick (listed l .img) s.img t.img
  cfg := pick (listed l .cfg) s.cfg t.cfg
  kept := pick (listed l .kept) s.kept t.kept
  draws := pick (listed l .draws) s.draws t.draws

theorem same_refl (p : Part) (s : State) : Safety.same p s s := by
  cases p <;> rfl

theorem same_trans {p : Part} {s t u : State} (h : Safety.same p s t) (h' : Safety.same p t u) : Safety.same p s u := by
  cases p <;> exact Eq.trans h' h


theorem changesOnly_graft (s t : State) (l : List Part) : Safety.changesOnly l s (s.graft t l) := by
  refine ⟨rfl, fun p hp => ?_⟩
  have hl := listed_eq_false hp
  cases p <;> simp [Safety.same, State.graft, pick, hl]

namespace Changes

section
variable {a b l m : List Part} {s₀ s t u : State} {c : Prop} [Decidable c]

theorem refl (s : State) : Changes [] s s := ⟨⟨rfl, fun p _ => same_refl p s⟩⟩

theorem trans (h : Changes a s t) (h' : Changes b t u) : Changes (a.append b) s u := by
  obtain ⟨hq, hp⟩ := h.only
  obtain ⟨hq', hp'⟩ := h'.only
  refine ⟨⟨hq'.trans hq, fun p hmem => ?_⟩⟩
  obtain ⟨hna, hnb⟩ := not_or.mp (List.mem_append.not.mp hmem)
  exact same_trans (hp p hna) (hp' p hnb)

theorem mono (h : Changes a s t) (hab : ∀ p ∈ a, p ∈ b) : Changes b s t :=
  ⟨⟨h.only.1, fun p hp => h.only.2 p fun hmem => hp (hab p hmem)⟩⟩

/-- The parts that were found to change are among those listed. -/
theorem le (h : Changes m s t) (hm : partsIn m l = true := by decide +kernel) : Changes l s t := h.mono fun _ => mem_of_partsIn hm

/-- An operation done last: what it changes by itself is added to what has changed. -/
theorem op (h : Changes a s₀ s) (ht : Changes [] s s → Changes m s t) (hm : partsIn m l = true := by decide +kernel) : Changes (a.append l) s₀ t :=
  h.trans (le (ht (.refl s)) hm)

/-- The same with what it changes given. -/
theorem andThen (h : Changes a s₀ s) (ht : Changes [] s s → Changes l s t) : Changes (a.append l) s₀ t := h.trans (ht (.refl s))

/-- An update of the parts listed. -/
theorem parts {now : Nat} {part : PartNo} {serial : Nat} {supply : Supply} {mode : ModeState} {clock : Clock} {mods : List ModInput}
    {groups : List InputGroup} {adc : Adc} {tide : Tide} {insts : List Instance} {engines : List Engine} {stages : List Stage} {phases : List Phase}
    {pgs : List Pg} {rcs : List Rc} {obs : List Observer} {spm : Spm} {feeds : List Feed} {strs : List Str} {chargers : List Charger} {dead : Dead}
    {rails : List Rail} {railGroups : List RailGroup} {thermal : Thermal} {faults : Faults} {pair : Pair} {net : Net} {berths : List Berth}
    {ports : List Port} {mem : Mem} {log : Log} {img : Img} {cfg kept : List (Nat × List Byte)} {draws : Nat}
    (l : List Part) (h : Changes a s₀ s)
    (ht : s.graft (State.mk s.pending now part serial supply mode clock mods groups adc tide insts engines stages phases pgs rcs obs spm feeds strs chargers
        dead rails railGroups thermal faults pair net berths ports mem log img cfg kept draws) l =
      State.mk s.pending now part serial supply mode clock mods groups adc tide insts engines stages phases pgs rcs obs spm feeds strs chargers dead rails
        railGroups thermal faults pair net berths ports mem log img cfg kept draws := by exact rfl) :
    Changes (a.append l) s₀ (State.mk s.pending now part serial supply mode clock mods groups adc tide insts engines stages phases pgs rcs obs spm feeds
      strs chargers dead rails railGroups thermal faults pair net berths ports mem log img cfg kept draws) :=
  h.trans ⟨ht ▸ changesOnly_graft s _ l⟩

theorem cond (ht : Changes a s₀ t) (hu : Changes b s₀ u) : Changes (a.append b) s₀ (if c then t else u) := by
  split
  · exact ht.mono fun _ => List.mem_append_left b
  · exact hu.mono fun _ => List.mem_append_right a

/-- The same where the parts are given for both. -/
theorem ite (ht : Changes l s₀ t) (hu : Changes l s₀ u) : Changes l s₀ (if c then t else u) := by
  split
  · exact ht
  · exact hu

/-- An operation done under a condition. -/
theorem update (hu : Changes a s₀ u) (ht : Changes [] u u → Changes b u t) : Changes (a.append b) s₀ (if c then t else u) := by
  split
  · exact hu.trans (ht (.refl u))
  · exact hu.mono fun _ => List.mem_append_left b

/-- An operation left out under a condition. -/
theorem elseThen (ht : Changes a s₀ t) (hu : Changes [] t t → Changes b t u) : Changes (a.append b) s₀ (if c then t else u) := by
  split
  · exact ht.mono fun _ => List.mem_append_left b
  · exact ht.trans (hu (.refl t))

theorem foldl {β : Type} {xs : List β} {f : State → β → State} (h : Changes a s₀ s) (hf : ∀ {t x}, Changes [] t t → Changes b t (f t x)) :
    Changes (a.append b) s₀ (xs.foldl f s) := by
  refine h.trans ?_
  clear h
  induction xs generalizing s with
  | nil => exact (refl s).mono nofun
  | cons x xs ih => exact ((hf (refl s)).trans ih).mono fun p hp => (List.mem_append.mp hp).elim id id

theorem forUnits {xs : List Nat} {f : State → Nat → State} (h : Changes a s₀ s) (hf : ∀ {t n}, Changes [] t t → Changes b t (f t n)) :
    Changes (a.append b) s₀ (forUnits xs f s) := .foldl h hf

end

variable {l₀ : List Part} {s₀ s : State}
variable {addr b c cause cls cmd code detail e f g i idx item j k kind md n op p port r rank reason region seq st status sub tag unit v word : Nat}
  {ch : Chan} {data : List Byte} {dt : Rat} {errs : List SymErr} {hb : Heartbeat} {l : List Entry} {last : Bool} {peer : Nat × Nat}

/-! Units, free values, records and answers. -/

theorem setMod {v : ModInput} (h : Changes l₀ s₀ s) : Changes (l₀.append [.mods]) s₀ (s.setMod n v) := .parts [.mods] h
theorem setGroup {v : InputGroup} (h : Changes l₀ s₀ s) : Changes (l₀.append [.groups]) s₀ (s.setGroup n v) := .parts [.groups] h
theorem setInst {v : Instance} (h : Changes l₀ s₀ s) : Changes (l₀.append [.insts]) s₀ (s.setInst n v) := .parts [.insts] h
theorem setEngine {v : Engine} (h : Changes l₀ s₀ s) : Changes (l₀.append [.engines]) s₀ (s.setEngine n v) := .parts [.engines] h
theorem setStage {v : Stage} (h : Changes l₀ s₀ s) : Changes (l₀.append [.stages]) s₀ (s.setStage n v) := .parts [.stages] h
theorem setPhase {v : Phase} (h : Changes l₀ s₀ s) : Changes (l₀.append [.phases]) s₀ (s.setPhase n v) := .parts [.phases] h
theorem setPg {v : Pg} (h : Changes l₀ s₀ s) : Changes (l₀.append [.pgs]) s₀ (s.setPg n v) := .parts [.pgs] h
theorem setRc {v : Rc} (h : Changes l₀ s₀ s) : Changes (l₀.append [.rcs]) s₀ (s.setRc n v) := .parts [.rcs] h
theorem setObserver {v : Observer} (h : Changes l₀ s₀ s) : Changes (l₀.append [.obs]) s₀ (s.setObserver n v) := .parts [.obs] h
theorem setFeed {v : Feed} (h : Changes l₀ s₀ s) : Changes (l₀.append [.feeds]) s₀ (s.setFeed n v) := .parts [.feeds] h
theorem setStr {v : Str} (h : Changes l₀ s₀ s) : Changes (l₀.append [.strs]) s₀ (s.setStr n v) := .parts [.strs] h
theorem setCharger {v : Charger} (h : Changes l₀ s₀ s) : Changes (l₀.append [.chargers]) s₀ (s.setCharger n v) := .parts [.chargers] h
theorem setRail {v : Rail} (h : Changes l₀ s₀ s) : Changes (l₀.append [.rails]) s₀ (s.setRail n v) := .parts [.rails] h
theorem setRailGroup {v : RailGroup} (h : Changes l₀ s₀ s) : Changes (l₀.append [.railGroups]) s₀ (s.setRailGroup n v) := .parts [.railGroups] h
theorem setBerth {v : Berth} (h : Changes l₀ s₀ s) : Changes (l₀.append [.berths]) s₀ (s.setBerth n v) := .parts [.berths] h
theorem setPort {v : Port} (h : Changes l₀ s₀ s) : Changes (l₀.append [.ports]) s₀ (s.setPort n v) := .parts [.ports] h
theorem setCan {v : CanPort} (h : Changes l₀ s₀ s) : Changes (l₀.append [.net]) s₀ (s.setCan n v) := .parts [.net] h
theorem setEth {v : EthPort} (h : Changes l₀ s₀ s) : Changes (l₀.append [.net]) s₀ (s.setEth n v) := .parts [.net] h
theorem setSensor {v : Sensor} (h : Changes l₀ s₀ s) : Changes (l₀.append [.thermal]) s₀ (s.setSensor n v) := .parts [.thermal] h
theorem setObj {v : List Byte} (h : Changes l₀ s₀ s) : Changes (l₀.append [.cfg]) s₀ (s.setObj idx sub v) := .parts [.cfg] h
theorem setObjN (h : Changes l₀ s₀ s) : Changes (l₀.append [.cfg]) s₀ (s.setObjN idx sub n v) := .setObj h
theorem commitCopy {w : MramWriter} {f : State → State} {ps : List Part} (h : Changes l₀ s₀ s) (hf : ∀ {t}, Changes [] t t → Changes ps t (f t)) :
    Changes (l₀.append (.append [.mem] ps)) s₀ (s.commitCopy w f) := h.trans (.cond (.parts [.mem] (.refl s)) (hf (.refl s)))
theorem enterRecord {r : Record} (h : Changes l₀ s₀ s) : Changes (l₀.append [.log]) s₀ (s.enterRecord r) := .parts [.log] h
theorem record {recType source : Nat} {payload : List Byte} (h : Changes l₀ s₀ s) :
    Changes (l₀.append [.log]) s₀ (s.record recType cls kind source payload) :=
  .enterRecord h
theorem note {recType : Nat} {payload : List Byte} (h : Changes l₀ s₀ s) : Changes (l₀.append [.log]) s₀ (s.note recType payload) := .record h
theorem noteWindow {w outcome number : Nat} {ref : Option RecRef} (h : Changes l₀ s₀ s) : Changes (l₀.append [.log]) s₀ (s.noteWindow w outcome number ref) :=
  .enterRecord h
theorem dropImageTransfers (h : Changes l₀ s₀ s) : Changes (l₀.append [.net]) s₀ s.dropImageTransfers := .parts [.net] h
theorem draw (h : Changes l₀ s₀ s) : Changes (l₀.append [.draws]) s₀ s.draw.2 := .parts [.draws] h
theorem drawBool (h : Changes l₀ s₀ s) : Changes (l₀.append [.draws]) s₀ s.drawBool.2 := .draw h
theorem reply (h : Changes l₀ s₀ s) : Changes (l₀.append [.net]) s₀ (s.reply ch status data) := .parts [.net] h
theorem answerWrite (h : Changes l₀ s₀ s) : Changes (l₀.append [.net]) s₀ (s.answerWrite ch status) := .reply h

/-! The time base (R400, R401). -/

theorem setTime {t : TimeBase} (h : Changes l₀ s₀ s) : Changes (l₀.append [.net]) s₀ (s.setTime t) := .parts [.net] h
theorem settleTime (h : Changes l₀ s₀ s) : Changes (l₀.append [.net]) s₀ s.settleTime := .setTime h
theorem applyTimeSet (h : Changes l₀ s₀ s) : Changes (l₀.append [.net]) s₀ (s.applyTimeSet v) := .setTime h
theorem applyPhase {ns : Int} (h : Changes l₀ s₀ s) : Changes (l₀.append [.net]) s₀ (s.applyPhase ns) := .op h fun h => .setTime (.settleTime h)
theorem leaveTraceable (h : Changes l₀ s₀ s) : Changes (l₀.append [.net]) s₀ s.leaveTraceable := .op h fun h => .cond (.setTime h) (.setTime h)
theorem applyTraceable (h : Changes l₀ s₀ s) : Changes (l₀.append [.net]) s₀ (s.applyTraceable v) :=
  .op h fun h => .cond (.setTime h) (.leaveTraceable h)

/-! Actions on outputs and units that reactions, mode changes and commands share. -/

theorem unlatch {k : Key} (h : Changes l₀ s₀ s) : Changes (l₀.append [.faults]) s₀ (s.unlatch k) := .parts [.faults] h
theorem clearing {k : Key} (h : Changes l₀ s₀ s) : Changes (l₀.append [.faults]) s₀ (s.clearing k) := .parts [.faults] h
theorem freeEngine {l : Nat} (h : Changes l₀ s₀ s) : Changes (l₀.append [.engines]) s₀ (s.freeEngine l) := .parts [.engines] h
theorem stopInst {l : Nat} (h : Changes l₀ s₀ s) : Changes (l₀.append [.insts, .engines]) s₀ (s.stopInst l) := .op h fun h => .freeEngine (.setInst h)
theorem stopStage {u : UState} (h : Changes l₀ s₀ s) : Changes (l₀.append [.insts, .engines, .stages, .phases, .faults]) s₀ (s.stopStage u n) :=
  .op h fun h => .setStage (.update (.forUnits (.forUnits h .setPhase) .stopInst) .clearing)
theorem stopStages {u : UState} (h : Changes l₀ s₀ s) : Changes (l₀.append [.insts, .engines, .stages, .phases, .faults]) s₀ (s.stopStages u) :=
  .op h fun h => .forUnits h .stopStage
theorem shedStage (h : Changes l₀ s₀ s) : Changes (l₀.append [.insts, .engines, .stages, .phases, .faults]) s₀ (s.shedStage n) :=
  .op h fun h => .cond (.stopStage h) h
theorem shedInst {r : LoopRec} (h : Changes l₀ s₀ s) : Changes (l₀.append [.insts, .engines, .stages, .phases, .faults]) s₀ (s.shedInst r) :=
  .op h fun h => .cond (.stopInst (.setInst h)) (.shedStage h)
theorem gateOff (h : Changes l₀ s₀ s) : Changes (l₀.append [.feeds]) s₀ (s.gateOff f) := .setFeed h
theorem shedFeed (h : Changes l₀ s₀ s) : Changes (l₀.append [.feeds]) s₀ (s.shedFeed f) := .op h fun h => .setFeed (.gateOff h)
theorem openString (h : Changes l₀ s₀ s) : Changes (l₀.append [.strs]) s₀ (s.openString n) := .setStr h
theorem shedString (h : Changes l₀ s₀ s) : Changes (l₀.append [.insts, .engines, .stages, .phases, .strs, .faults]) s₀ (s.shedString n) :=
  .op h fun h => .cond (.stopStage (.setStr h)) (.setStr h)
theorem shedGroup (h : Changes l₀ s₀ s) : Changes (l₀.append [.mods, .groups, .faults]) s₀ (s.shedGroup g) :=
  .op h fun h => .forUnits (.parts [.faults] (.setGroup h)) .setMod
theorem railOff (h : Changes l₀ s₀ s) : Changes (l₀.append [.rails]) s₀ (s.railOff r) := .setRail h
theorem outputsSafe {u : UState} (h : Changes l₀ s₀ s) :
    Changes (l₀.append [.insts, .engines, .stages, .phases, .feeds, .strs, .faults]) s₀ (s.outputsSafe u) :=
  .op h fun h => .forUnits (.forUnits (.stopStages h) fun h1 => .setFeed (.gateOff h1)) .openString
theorem railsOff (h : Changes l₀ s₀ s) : Changes (l₀.append [.rails]) s₀ s.railsOff := .op h fun h => .forUnits h .railOff
theorem driveTrip (h : Changes l₀ s₀ s) : Changes (l₀.append [.mode]) s₀ s.driveTrip := .parts [.mode] h
theorem sendHeartbeat (h : Changes l₀ s₀ s) : Changes (l₀.append [.pair]) s₀ s.sendHeartbeat := .parts [.pair] h
theorem tellReason (h : Changes l₀ s₀ s) : Changes (l₀.append [.pair]) s₀ (s.tellReason reason) :=
  .op h fun h => .cond (.sendHeartbeat (.parts [.pair] h)) (.parts [.pair] h)
theorem leavePorts (h : Changes l₀ s₀ s) : Changes (l₀.append [.ports]) s₀ s.leavePorts := .parts [.ports] h
theorem sendFrame {b : KopolBody} (h : Changes l₀ s₀ s) : Changes (l₀.append [.pair]) s₀ (s.sendFrame c b) :=
  .op h fun h => .cond (.parts [.pair] h) h
theorem mirrored (h : Changes l₀ s₀ s) : Changes (l₀.append [.pair]) s₀ (s.mirrored idx sub data) := .sendFrame h
theorem tell {m : TrackMsg} (h : Changes l₀ s₀ s) : Changes (l₀.append [.pair]) s₀ (s.tell m) := .op h fun h => .cond (.sendFrame h) h
theorem tellStage (h : Changes l₀ s₀ s) : Changes (l₀.append [.obs, .pair]) s₀ (s.tellStage st k) :=
  .op h fun h => .cond h (.foldl (.setObserver (.parts [.pair] h)) .tell)
theorem tellString (h : Changes l₀ s₀ s) : Changes (l₀.append [.pair]) s₀ (s.tellString k) :=
  .op h fun h => .cond h (.elseThen (.cond h (.tell (.parts [.pair] h))) fun h1 => .tell (.parts [.pair] h1))
theorem tellUpdate (h : Changes l₀ s₀ s) : Changes (l₀.append [.pair]) s₀ s.tellUpdate :=
  .op h fun h => .elseThen (.tell (.tell h)) fun h1 => .tell (.parts [.pair] h1)
theorem d2dGood (h : Changes l₀ s₀ s) : Changes (l₀.append [.pair]) s₀ s.d2dGood := .parts [.pair] h

/-! Fault sources (R318 to R337). -/

theorem sendCan {cob : Nat} (h : Changes l₀ s₀ s) : Changes (l₀.append [.net]) s₀ (s.sendCan p cob data) := .setCan h
theorem sendEmcy {e : Emcy} (h : Changes l₀ s₀ s) : Changes (l₀.append [.faults, .net]) s₀ (s.sendEmcy p e) :=
  .op h fun h => .parts [.faults] (.sendCan h)
theorem settleDrop {k : Key} (h : Changes l₀ s₀ s) : Changes (l₀.append [.faults]) s₀ (s.settleDrop p k) := .parts [.faults] h
theorem placeEmcy {e : Emcy} (h : Changes l₀ s₀ s) : Changes (l₀.append [.faults, .net]) s₀ (s.placeEmcy e p) :=
  .op h fun h => .cond (.sendEmcy h) (.cond (.parts [.faults] h) (.cond (.parts [.faults] h) (.parts [.faults] h)))
theorem offerEmcy {e : Emcy} (h : Changes l₀ s₀ s) : Changes (l₀.append [.faults, .net]) s₀ (s.offerEmcy e p) :=
  .op h fun h => .cond (.settleDrop h) (.cond (.placeEmcy (.settleDrop h)) (.settleDrop h))
theorem emcy {k : Key} (h : Changes l₀ s₀ s) : Changes (l₀.append [.faults, .net]) s₀ (s.emcy k cls code) :=
  .op h fun h => .forUnits (.parts [.net] h) .offerEmcy
theorem emcyOf (h : Changes l₀ s₀ s) : Changes (l₀.append [.faults, .net]) s₀ (s.emcyOf region cls) := .emcy h
theorem listShed {k : Key} (h : Changes l₀ s₀ s) : Changes (l₀.append [.faults]) s₀ (s.listShed k) := .parts [.faults] h

theorem shedReaction {k : Key} (h : Changes l₀ s₀ s) :
    Changes (l₀.append [.mods, .groups, .insts, .engines, .stages, .phases, .feeds, .strs, .faults]) s₀ (s.shedReaction k) := .andThen h fun h => by
  unfold State.shedReaction
  refine .ite (.le (.shedStage h)) ?_
  refine .ite (.le (.shedFeed h)) ?_
  refine .ite (.le (.shedStage h)) ?_
  refine .ite (.le (.stopInst (.setInst h))) ?_
  refine .ite (.le (.listShed (.foldl h .shedInst))) ?_
  exact .le (.cond (.shedString h) (.cond (.shedGroup h) (.cond (.listShed (.forUnits h .shedStage)) (.listShed h))))

theorem react {k : Key} (h : Changes l₀ s₀ s) :
    Changes (l₀.append [.mode, .mods, .groups, .insts, .engines, .stages, .phases, .feeds, .strs, .faults]) s₀ (s.react k cls) := .andThen h fun h => by
  unfold State.react
  refine .ite (.le (.shedReaction h)) (.ite (.le (.parts [.mode] h)) (.ite (.le h) ?_))
  split
  · exact .le (.parts [.mode] h)
  · exact .le h

theorem countRaise {k : Key} (h : Changes l₀ s₀ s) : Changes (l₀.append [.faults]) s₀ (s.countRaise k cls) := .parts [.faults] h
theorem trigEvent {e : TrigEvent} (h : Changes l₀ s₀ s) : Changes (l₀.append [.log]) s₀ (s.trigEvent e) := .parts [.log] h
theorem raiseNew {k : Key} {always : Bool} (h : Changes l₀ s₀ s) : Changes (l₀.append raiseParts) s₀ (s.raiseNew k detail data always) :=
  .op h fun h => .elseThen (.update (.countRaise (.trigEvent (.parts [.faults, .log] h))) .emcy) .react
theorem redetect {k : Key} (h : Changes l₀ s₀ s) : Changes (l₀.append [.faults]) s₀ (s.redetect k) := .parts [.faults] h

theorem raiseWith {k : Key} {always : Bool} (h : Changes l₀ s₀ s) : Changes (l₀.append raiseParts) s₀ (s.raiseWith k detail data always) := .andThen h fun h => by
  unfold State.raiseWith
  split
  · exact .le (.redetect h)
  · exact .le (.cond (.raiseNew h) h)

theorem raise {k : Key} (h : Changes l₀ s₀ s) : Changes (l₀.append raiseParts) s₀ (s.raise k detail) := .raiseWith h
theorem dropSheds {k : Key} (h : Changes l₀ s₀ s) : Changes (l₀.append [.faults]) s₀ (s.dropSheds k) := .op h fun h => .cond h (.parts [.faults] h)

theorem clear {k : Key} (h : Changes l₀ s₀ s) : Changes (l₀.append [.faults, .net, .log]) s₀ (s.clear k) := .andThen h fun h => by
  unfold State.clear
  split
  · exact .le (.unlatch h)
  · exact .le (.update (.update (.record (.parts [.faults] h)) .emcy) .dropSheds)

theorem releaseOwn (h : Changes l₀ s₀ s) : Changes (l₀.append [.pair, .ports, .log]) s₀ (s.releaseOwn reason) :=
  .op h fun h => .cond (.trigEvent (.record (.parts [.pair] (.leavePorts (.tellReason h))))) h
theorem settleDrops (h : Changes l₀ s₀ s) : Changes (l₀.append raiseParts) s₀ s.settleDrops := .op h fun h => .cond (.parts [.log] (.raise h)) h
theorem follow {k : Key} {c : Bool} (h : Changes l₀ s₀ s) : Changes (l₀.append raiseParts) s₀ (s.follow k c detail) :=
  .op h fun h => .cond (.raise h) (.clearing h)
theorem countSram (h : Changes l₀ s₀ s) : Changes (l₀.append (raiseParts.append [.mem])) s₀ (s.countSram region unit) :=
  .op h fun h => .cond (.raise (.parts [.mem] h)) (.parts [.mem] h)

/-! Sessions of the dictionary. -/

theorem setSession {x : Session} (h : Changes l₀ s₀ s) : Changes (l₀.append [.net]) s₀ (s.setSession ch x) := .andThen h fun h => by
  unfold State.setSession
  split
  · exact .le (.parts [.net] h)
  · exact .le (.parts [.net] h)
  · exact .le h

theorem canHeard (h : Changes l₀ s₀ s) : Changes (l₀.append [.mode]) s₀ s.canHeard := .op h fun h => .cond (.parts [.mode] h) h

theorem touch (h : Changes l₀ s₀ s) : Changes (l₀.append [.mode, .net]) s₀ (s.touch ch) := .andThen h fun h => by
  unfold State.touch
  extract_lets s1
  have h1 : Changes [.net] s s1 := by
    unfold s1
    split
    · exact .le (.setSession h)
    · exact .le h
  exact .le (.cond (.canHeard h1) h1)

theorem guardedWrite {t : State} {ps : List Part} (h : Changes l₀ s₀ s) (ht : Changes ps s₀ t) :
    Changes ((l₀.append ps).append [.mode, .pair, .net]) s₀ (s.guardedWrite ch idx sub data status t) := by
  have h : Changes ((l₀.append ps).append [.mode, .pair, .net]) s₀ s := h.mono fun p hp => List.mem_append_left _ (List.mem_append_left _ hp)
  have refused {r : Nat} : Changes ((l₀.append ps).append [.mode, .pair, .net]) s₀ ((s.touch ch).answerWrite ch r) :=
    (answerWrite (touch h)).mono fun p hp => by simp only [List.append_eq, List.mem_append, List.mem_cons] at hp ⊢; tauto
  have done {u : State} (hu : Changes (ps.append [.pair]) s₀ u) : Changes ((l₀.append ps).append [.mode, .pair, .net]) s₀ ((u.touch ch).answerWrite ch stOk) :=
    (answerWrite (touch hu)).mono fun p hp => by simp only [List.append_eq, List.mem_append, List.mem_cons] at hp ⊢; tauto
  unfold State.guardedWrite
  refine .ite h ?_
  dsimp only
  refine .ite refused (.ite refused (.ite refused (done ?_)))
  exact .ite (mirrored ht) (ht.mono fun p => List.mem_append_left _)

/-! Stages, phases and fast protection (chapter 05). -/

theorem startStage (h : Changes l₀ s₀ s) : Changes (l₀.append [.mode, .insts, .engines, .stages, .phases, .faults]) s₀ (s.startStage n) :=
  .op h fun h => .setStage (.update (.forUnits (.foldl (.forUnits h fun h1 => .setInst (.stopInst h1)) .setPhase) .clearing) (fun h0 => .parts [.mode] h0))
theorem applyStageStart (h : Changes l₀ s₀ s) : Changes (l₀.append [.mode, .insts, .engines, .stages, .phases, .faults]) s₀ (s.applyStageStart n) :=
  .op h fun h => .cond h (.cond (.setStage h) (.startStage h))
theorem autoStart (h : Changes l₀ s₀ s) : Changes (l₀.append [.mode, .insts, .engines, .stages, .phases, .faults]) s₀ (s.autoStart n) :=
  .op h fun h => .cond h (.cond (.applyStageStart h) (.parts [.stages] h))
theorem applyStageStop (h : Changes l₀ s₀ s) : Changes (l₀.append [.stages]) s₀ (s.applyStageStop n) :=
  .op h fun h => .cond (.setStage h) (.setStage h)
theorem prebias (h : Changes l₀ s₀ s) : Changes (l₀.append [.stages]) s₀ (s.prebias n) := .setStage h
theorem prebiasLoad (h : Changes l₀ s₀ s) : Changes (l₀.append [.insts, .phases]) s₀ (s.prebiasLoad n) :=
  .op h fun h => .forUnits (.cond (.foldl h .setInst) h) .setPhase
theorem beginRamp (h : Changes l₀ s₀ s) : Changes (l₀.append [.insts, .stages]) s₀ (s.beginRamp n) :=
  .op h fun h => .cond (.setStage (.forUnits h .setInst)) (.setStage (.forUnits h .setInst))
theorem raiseCapacity (h : Changes l₀ s₀ s) : Changes (l₀.append (raiseParts.append [.obs])) s₀ (s.raiseCapacity st p) :=
  .op h fun h => .raiseWith (.setObserver h)

theorem obsCapacity (h : Changes l₀ s₀ s) : Changes (l₀.append (raiseParts.append [.obs])) s₀ (s.obsCapacity st) := .andThen h fun h => by
  unfold State.obsCapacity
  extract_lets _ _ _ s1 s2 s3 _ _ s4
  have h1 : Changes _ s s1 := .cond (.setObserver h) h
  have h2 : Changes _ s s2 := .cond (.raiseCapacity h1) h1
  have h3 : Changes (raiseParts.append [.obs]) s s3 := by
    unfold s3
    split
    · exact .le (.cond (.raiseCapacity h2) h2)
    · exact .le h2
  have h4 : Changes _ s s4 := .setObserver h3
  exact .le (.cond h4 (.clearing h4))

theorem capacityAt (h : Changes l₀ s₀ s) : Changes (l₀.append (raiseParts.append [.obs])) s₀ (s.capacityAt p) := .andThen h fun h => by
  unfold State.capacityAt
  split
  · exact .le h
  · exact .le (.cond h (.obsCapacity h))

theorem endSubst (h : Changes l₀ s₀ s) : Changes (l₀.append [.obs]) s₀ (s.endSubst p) := .andThen h fun h => by
  unfold State.endSubst
  split
  · exact .le h
  · exact .le (.setObserver h)

theorem leavePhase (h : Changes l₀ s₀ s) : Changes (l₀.append [.insts, .engines, .stages, .phases, .obs, .faults]) s₀ (s.leavePhase p cause) := .andThen h fun h => by
  unfold State.leavePhase
  refine .ite (.le h) ?_
  extract_lets s1 _ _ s2
  have h1 : Changes _ s s1 := .endSubst h
  have h2 : Changes _ s s2 := .setPhase h1
  split
  · exact .le h2
  · exact .le (.cond h2 (.cond (.setPhase (.shedStage h2)) (.setStage h2)))

theorem dropPhase (h : Changes l₀ s₀ s) : Changes (l₀.append (raiseParts.append [.obs])) s₀ (s.dropPhase p cause) :=
  .op h fun h => .capacityAt (.leavePhase h)
theorem breakwaterPhase {act : Nat} (h : Changes l₀ s₀ s) : Changes (l₀.append (raiseParts.append [.obs])) s₀ (s.breakwaterPhase n p act) :=
  .op h fun h => .update (.setStage (.setPhase h)) fun h1 => .cond (.dropPhase (.raise h1)) (.raise h1)
theorem endPeriod (h : Changes l₀ s₀ s) : Changes (l₀.append [.faults]) s₀ (s.endPeriod n p) :=
  .op h fun h => .elseThen (.cond h (.clearing h)) .clearing
theorem stageBits (h : Changes l₀ s₀ s) : Changes (l₀.append [.stages]) s₀ (s.stageBits n p) := .op h fun h => .cond (.setStage h) (.setStage h)
theorem loadPhase (h : Changes l₀ s₀ s) : Changes (l₀.append (raiseParts.append [.obs])) s₀ (s.loadPhase n p) :=
  .op h fun h => .stageBits (.update (.setPhase (.endPeriod h)) fun h1 => .foldl h1 .breakwaterPhase)
theorem relatch (h : Changes l₀ s₀ s) : Changes (l₀.append [.stages, .phases]) s₀ (s.relatch n) :=
  .op h fun h => .cond (.setStage (.foldl h .setPhase)) h
theorem latchStage (h : Changes l₀ s₀ s) : Changes (l₀.append [.stages]) s₀ (s.latchStage n) := .setStage h

theorem startBoundary (h : Changes l₀ s₀ s) : Changes (l₀.append [.insts, .stages, .phases]) s₀ (s.startBoundary n) := .andThen h fun h => by
  unfold State.startBoundary
  dsimp only
  split
  · exact .le (.setStage (.prebias h))
  · exact .le (.setStage (.prebiasLoad h))
  · exact .le (.beginRamp h)
  · exact .le h

theorem fenderRead (h : Changes l₀ s₀ s) : Changes (l₀.append [.stages]) s₀ (s.fenderRead md n) := .andThen h fun h => by
  unfold State.fenderRead
  dsimp only
  split
  · exact .le h
  · exact .le (.cond (.setStage h) h)

theorem calibrate {bad : List Bool} (h : Changes l₀ s₀ s) : Changes (l₀.append raiseParts) s₀ (s.calibrate bad p) := .andThen h fun h => by
  unfold State.calibrate
  split
  · exact .le h
  · exact .le (.cond (.setPhase (.raise h)) (.setPhase (.clearing h)))

theorem rejoinPhase (h : Changes l₀ s₀ s) : Changes (l₀.append [.stages, .phases]) s₀ (s.rejoinPhase p) := .andThen h fun h => by
  unfold State.rejoinPhase
  extract_lets _ s1
  have h1 : Changes _ s s1 := .setPhase h
  split
  · exact .le h
  · exact .le (.cond (.cond (.setPhase h) (.setStage h1)) (.setPhase h))

theorem returnPhase (h : Changes l₀ s₀ s) : Changes (l₀.append (raiseParts.append [.obs])) s₀ (s.returnPhase p) :=
  .op h fun h => .capacityAt (.rejoinPhase h)
theorem estopHigh (h : Changes l₀ s₀ s) : Changes (l₀.append [.mode, .faults]) s₀ s.estopHigh :=
  .op h fun h => .driveTrip (.clearing (.parts [.mode] h))
theorem seeEstop (h : Changes l₀ s₀ s) : Changes (l₀.append [.mode, .faults, .draws]) s₀ s.seeEstop :=
  .op h fun h => .cond (.cond (.estopHigh (.drawBool h)) (.drawBool h)) h
theorem engageHold (h : Changes l₀ s₀ s) : Changes (l₀.append [.stages, .phases]) s₀ (s.engageHold st) :=
  .op h fun h => .cond h (.setStage (.forUnits h .setPhase))

theorem commitDuty {d : F32} (h : Changes l₀ s₀ s) : Changes (l₀.append [.stages, .phases, .faults]) s₀ (s.commitDuty p d) := .andThen h fun h => by
  unfold State.commitDuty
  extract_lets _ s1
  have h1 : Changes _ s s1 := .cond (.setPhase h) (.setPhase h)
  split
  · exact .le h1
  · exact .le (.cond (.cond (.setStage h1) (.clearing (.setStage h1))) h1)

/-! The measurement path (chapter 03). -/

theorem startGroup (h : Changes l₀ s₀ s) : Changes (l₀.append [.mods, .groups, .faults]) s₀ (s.startGroup g) :=
  .op h fun h => .setGroup (.clearing (.forUnits h fun h1 => .clearing (.clearing (.clearing (.setMod h1)))))
theorem stopGroup (h : Changes l₀ s₀ s) : Changes (l₀.append [.mods, .groups]) s₀ (s.stopGroup g) := .op h fun h => .setGroup (.forUnits h .setMod)

theorem applyGroupEnable (h : Changes l₀ s₀ s) : Changes (l₀.append [.mods, .groups, .faults, .cfg]) s₀ (s.applyGroupEnable g v) := .andThen h fun h => by
  unfold State.applyGroupEnable
  extract_lets s1
  have h1 : Changes _ s s1 := .setObjN h
  exact .le (.cond (.cond (.cond (.startGroup h1) (.stopGroup h1)) (.cond (.startGroup h1) h1)) h1)

theorem latchScale (h : Changes l₀ s₀ s) : Changes (l₀.append [.mods]) s₀ (s.latchScale md) := .setMod h

theorem frame {fb : List Bool} {violations : Nat} (h : Changes l₀ s₀ s) : Changes (l₀.append raiseParts) s₀ (s.frame md fb violations) := .andThen h fun h => by
  unfold State.frame
  extract_lets s1 _ _ _ _ _ _ _ _ _ _ _ _ _ _ _ _ s2 _ s3
  have h1 : Changes _ s s1 := .cond (.latchScale h) h
  have h2 : Changes _ s s2 := .setMod h1
  have h3 : Changes _ s s3 := .cond (.raise h2) (.cond h2 (.clearing h2))
  exact .le (.cond (.raise h3) (.cond h3 (.clearing h3)))

theorem fastDecision {b : Bool} (h : Changes l₀ s₀ s) : Changes (l₀.append [.mods, .log]) s₀ (s.fastDecision md b) :=
  .op h fun h => .setMod (.cond (.trigEvent h) h)
theorem applyCal (h : Changes l₀ s₀ s) : Changes (l₀.append [.mods]) s₀ (s.applyCal md) := .setMod h
theorem calRefused (h : Changes l₀ s₀ s) : Changes (l₀.append [.mods]) s₀ (s.calRefused md) := .op h fun h => .cond h (.setMod h)
theorem releaseHeld (h : Changes l₀ s₀ s) : Changes (l₀.append [.mode, .insts, .engines, .stages, .phases, .faults]) s₀ s.releaseHeld :=
  .op h fun h => .forUnits h fun h1 => .cond (.cond (.startStage (.setStage h1)) (.setStage h1)) h1
theorem applySeqLength (h : Changes l₀ s₀ s) : Changes (l₀.append [.adc, .cfg]) s₀ (s.applySeqLength n) := .parts [.adc, .cfg] h
theorem stopAdc (h : Changes l₀ s₀ s) : Changes (l₀.append [.adc]) s₀ s.stopAdc := .parts [.adc] h
theorem ainVerdict {ain : Nat} {bad : Bool} (h : Changes l₀ s₀ s) : Changes (l₀.append raiseParts) s₀ (s.ainVerdict ain kind bad) :=
  .op h fun h => .cond (.raise h) h
theorem ainLapEnd {ain : Nat} (h : Changes l₀ s₀ s) : Changes (l₀.append [.faults]) s₀ (s.ainLapEnd ain) :=
  .op h fun h => .update (.cond (.clearing h) h) .clearing
theorem adcEntry {volts : List Rat} {up down : Rat} (h : Changes l₀ s₀ s) : Changes (l₀.append (raiseParts.append [.adc])) s₀ (s.adcEntry volts up down) :=
  .op h fun h => .cond (.parts [.adc] h) (.cond (.parts [.adc] h) (.update (.cond (.ainVerdict (.parts [.adc] h)) (.parts [.adc] h)) .ainVerdict))
theorem slotWaits (h : Changes l₀ s₀ s) : Changes (l₀.append [.adc]) s₀ s.slotWaits := .parts [.adc] h
theorem slotBegins (h : Changes l₀ s₀ s) : Changes (l₀.append [.adc]) s₀ s.slotBegins := .parts [.adc] h
theorem applySeqPeriod (h : Changes l₀ s₀ s) : Changes (l₀.append [.adc]) s₀ s.applySeqPeriod := .parts [.adc] h

/-! Loop engines and the tide table (chapter 04). -/

theorem startRun {r : LoopRec} (h : Changes l₀ s₀ s) : Changes (l₀.append raiseParts) s₀ (s.startRun r) :=
  .op h fun h => .cond (.raise (.setInst h)) (.clearing (.setEngine (.setInst h)))

theorem dispatchOne (h : Changes l₀ s₀ s) : Changes (l₀.append raiseParts) s₀ (s.dispatchOne e) := .andThen h fun h => by
  unfold State.dispatchOne
  refine .ite (.le h) ?_
  split
  · exact .le h
  · exact .le (.startRun h)

theorem dispatch (h : Changes l₀ s₀ s) : Changes (l₀.append raiseParts) s₀ (s.dispatch e) := .op h fun h => .forUnits h .dispatchOne
theorem toReady {r : LoopRec} (h : Changes l₀ s₀ s) : Changes (l₀.append [.insts]) s₀ (s.toReady r) := .setInst h
theorem noteQueue (h : Changes l₀ s₀ s) : Changes (l₀.append [.engines]) s₀ (s.noteQueue e) := .op h fun h => .cond (.setEngine h) h
theorem endWait {r : LoopRec} (h : Changes l₀ s₀ s) : Changes (l₀.append [.insts, .engines]) s₀ (s.endWait r) :=
  .op h fun h => .setEngine (.setInst h)
theorem wordError {r : LoopRec} {e : WordErr} (h : Changes l₀ s₀ s) : Changes (l₀.append (raiseParts.append [.mem])) s₀ (s.wordError r e) :=
  .op h fun h => .cond (.countSram h) (.cond (.raise (.raise h)) (.raise h))
theorem abortRun {lp : Nat} (h : Changes l₀ s₀ s) : Changes (l₀.append [.insts, .engines]) s₀ (s.abortRun lp) :=
  .op h fun h => .cond (.freeEngine (.setInst h)) h
theorem closeRun {r : LoopRec} (h : Changes l₀ s₀ s) : Changes (l₀.append raiseParts) s₀ (s.closeRun r) :=
  .op h fun h => .cond (.raise (.setInst h)) (.clearing (.setInst h))
theorem endRun {r : LoopRec} {errs : List WordErr} (h : Changes l₀ s₀ s) : Changes (l₀.append (raiseParts.append [.mem])) s₀ (s.endRun r errs) :=
  .op h fun h => .dispatch (.foldl (.cond (.abortRun (.setEngine h)) (.closeRun (.setEngine h))) .wordError)
theorem startErrors {r : LoopRec} {errs : List WordErr} (h : Changes l₀ s₀ s) : Changes (l₀.append (raiseParts.append [.mem])) s₀ (s.startErrors r errs) :=
  .op h fun h => .cond (.dispatch (.foldl (.cond (.abortRun h) h) .wordError)) h
theorem deliver {r : LoopRec} {v : F32} (h : Changes l₀ s₀ s) : Changes (l₀.append [.stages, .phases, .faults]) s₀ (s.deliver r v) :=
  .op h fun h => .cond (.commitDuty h) (.cond (.forUnits h .commitDuty) h)

theorem commitInst {r : LoopRec} (h : Changes l₀ s₀ s) : Changes (l₀.append (raiseParts.append [.tide])) s₀ (s.commitInst r) := .andThen h fun h => by
  unfold State.commitInst
  extract_lets _ _ s1 _ s2 _ s3 s4 _ s5
  have h1 : Changes _ s s1 := .setInst h
  have h2 : Changes _ s s2 := .freeEngine (.setInst h)
  have h3 : Changes _ s s3 := .parts [.tide] h2
  have h4 : Changes _ s s4 := .raise (.deliver h3)
  have h5 : Changes _ s s5 := .cond (.raise h4) h4
  exact .le (.cond (.clearing (.clearing (.deliver h1))) (.dispatch h5))

theorem latchInst {r : LoopRec} (h : Changes l₀ s₀ s) : Changes (l₀.append [.insts]) s₀ (s.latchInst r) := .setInst h
theorem takeRecord {r : LoopRec} (h : Changes l₀ s₀ s) : Changes (l₀.append [.insts]) s₀ (s.takeRecord r) := .setInst h
theorem clearSlots (h : Changes l₀ s₀ s) : Changes (l₀.append [.faults]) s₀ s.clearSlots := .op h fun h => .foldl h .clearing

theorem swapInst {old : List LoopRec} {r : LoopRec} (h : Changes l₀ s₀ s) : Changes (l₀.append [.insts, .engines]) s₀ (s.swapInst old r) := .andThen h fun h => by
  unfold State.swapInst
  dsimp only
  split
  · exact .le (.elseThen (.cond h (.setInst h)) fun h1 => .cond (.setInst h1) (.stopInst h1))
  · exact .le (.setInst h)

theorem swapBanks (h : Changes l₀ s₀ s) : Changes (l₀.append [.tide, .insts, .engines, .faults]) s₀ s.swapBanks :=
  .op h fun h => .clearSlots (.foldl (.foldl (.parts [.tide] h) .swapInst) fun h1 => .cond (.stopInst h1) h1)
theorem retimeRuns {was : Bool} (h : Changes l₀ s₀ s) : Changes (l₀.append [.insts]) s₀ (s.retimeRuns was) :=
  .op h fun h => .cond h (.forUnits h fun h1 => .cond (.setInst h1) h1)
theorem switchTable (h : Changes l₀ s₀ s) : Changes (l₀.append [.tide, .insts, .engines, .faults]) s₀ s.switchTable :=
  .op h fun h => .retimeRuns (.update (.parts [.tide] (.cond (.swapBanks h) h)) fun h1 => .foldl h1 .takeRecord)
theorem nextPeriod (h : Changes l₀ s₀ s) : Changes (l₀.append [.pair]) s₀ s.nextPeriod := .parts [.pair] h
theorem latchAnchored (h : Changes l₀ s₀ s) : Changes (l₀.append [.mods]) s₀ (s.latchAnchored st) := .op h fun h => .forUnits h .latchScale
theorem latchRcs (h : Changes l₀ s₀ s) : Changes (l₀.append [.rcs]) s₀ (s.latchRcs st) := .op h fun h => .forUnits h .setRc

theorem boundary (h : Changes l₀ s₀ s) : Changes (l₀.append [.mods, .tide, .insts, .engines, .stages, .phases, .rcs, .faults, .pair]) s₀ (s.boundary st) := .andThen h fun h => by
  unfold State.boundary
  extract_lets _ s1 s2 s3 s4 s5 s6 s7
  have h1 : Changes _ s s1 := .cond (.switchTable h) h
  have h2 : Changes _ s s2 := .latchStage h1
  have h3 : Changes _ s s3 := .cond (.stopStage h2) h2
  have h4 : Changes _ s s4 := .cond h3 (.startBoundary h3)
  have h5 : Changes _ s s5 := .cond h4 (.relatch h4)
  have h6 : Changes _ s s6 := .foldl h5 .latchInst
  have h7 : Changes _ s s7 := .latchRcs (.latchAnchored h6)
  exact .le (.cond (.nextPeriod h7) h7)

theorem restPg (h : Changes l₀ s₀ s) : Changes (l₀.append [.pgs]) s₀ (s.restPg n) := .setPg h
theorem reloadEngines (h : Changes l₀ s₀ s) : Changes (l₀.append [.tide, .insts, .engines, .pgs, .rcs, .obs, .faults]) s₀ s.reloadEngines := .andThen h fun h => by
  unfold State.reloadEngines
  extract_lets _ _ s1 s2 s3 s4
  have h1 : Changes _ s s1 := .parts [.tide] h
  have h2 : Changes _ s s2 := .forUnits h1 .setInst
  have h3 : Changes _ s s3 := .forUnits h2 .restPg
  clear_value s3
  have h4 : Changes _ s s4 := .parts [.rcs, .obs] h3
  exact .le (.clearSlots (.forUnits h4 .setEngine))

/-! Profile generators (chapter 06). -/

theorem targetRecord {sup : Bool} (h : Changes l₀ s₀ s) : Changes (l₀.append [.log]) s₀ (s.targetRecord n seq sup) := .enterRecord h
theorem supersede (h : Changes l₀ s₀ s) : Changes (l₀.append [.pgs, .log]) s₀ (s.supersede n seq) := .op h fun h => .targetRecord (.setPg h)

theorem acceptTarget {v : F32} (h : Changes l₀ s₀ s) : Changes (l₀.append [.pgs, .log, .cfg]) s₀ (s.acceptTarget n v) := .andThen h fun h => by
  unfold State.acceptTarget
  extract_lets s1 _ s2
  have h1 : Changes [.pgs, .log] s s1 := by
    unfold s1
    split
    · exact .le (.supersede h)
    · exact .le h
  have h2 : Changes _ s s2 := .setPg h1
  exact .le (.setObj h2)

theorem completePg (h : Changes l₀ s₀ s) : Changes (l₀.append [.pgs, .log]) s₀ (s.completePg n) := .op h fun h => .targetRecord (.setPg h)

theorem takeTarget (h : Changes l₀ s₀ s) : Changes (l₀.append [.pgs, .log]) s₀ (s.takeTarget n) := .andThen h fun h => by
  unfold State.takeTarget
  split
  · exact .le h
  · exact .le (.cond (.update (.setPg (.cond (.supersede h) h)) .completePg) h)

theorem stepPg (h : Changes l₀ s₀ s) : Changes (l₀.append [.pgs, .log]) s₀ (s.stepPg n) :=
  .op h fun h => .setPg (.takeTarget (.cond (.completePg (.setPg h)) (.setPg h)))

/-! Repetitive controllers and observers (chapter 06). -/

theorem startFade {len : Rat} (h : Changes l₀ s₀ s) : Changes (l₀.append [.rcs]) s₀ (s.startFade n len) := .op h fun h => .cond h (.setRc h)
theorem rcUnlock (h : Changes l₀ s₀ s) : Changes (l₀.append (raiseParts.append [.rcs])) s₀ (s.rcUnlock n) :=
  .op h fun h => .raise (.setRc (.startFade h))
theorem rcApply {T : Rat} (h : Changes l₀ s₀ s) : Changes (l₀.append [.rcs]) s₀ (s.rcApply n T) := .setRc h
theorem rcFresh {T : Rat} (h : Changes l₀ s₀ s) : Changes (l₀.append [.rcs]) s₀ (s.rcFresh n T) := .setRc h

theorem rcFadeEnd (h : Changes l₀ s₀ s) : Changes (l₀.append [.rcs]) s₀ (s.rcFadeEnd n) := .andThen h fun h => by
  unfold State.rcFadeEnd
  dsimp only
  split
  · exact .le (.cond (.setRc h) h)
  · exact .le h

theorem rcError (h : Changes l₀ s₀ s) : Changes (l₀.append [.rcs]) s₀ (s.rcError n) := .setRc h
theorem rcEstimate (h : Changes l₀ s₀ s) : Changes (l₀.append [.rcs]) s₀ (s.rcEstimate n) := .setRc h
theorem rcOutput (h : Changes l₀ s₀ s) : Changes (l₀.append [.rcs]) s₀ (s.rcOutput n) := .setRc h

theorem rcFirst (h : Changes l₀ s₀ s) : Changes (l₀.append [.rcs, .faults]) s₀ (s.rcFirst n) := .andThen h fun h => by
  unfold State.rcFirst
  refine .ite ?_ (.le h)
  split
  · exact .le (.clearing (.rcFresh h))
  · exact .le h

theorem rcStep (h : Changes l₀ s₀ s) : Changes (l₀.append [.rcs, .faults]) s₀ (s.rcStep n) :=
  .op h fun h => .rcOutput (.elseThen (.rcFirst (.rcFadeEnd (.update (.rcEstimate h) .setRc))) .rcError)
theorem rcOff (h : Changes l₀ s₀ s) : Changes (l₀.append [.rcs, .faults]) s₀ (s.rcOff n) := .op h fun h => .foldl (.setRc h) .clearing
theorem applyTableLength (h : Changes l₀ s₀ s) : Changes (l₀.append [.rcs, .faults]) s₀ (s.applyTableLength n) :=
  .op h fun h => .cond (.rcOff h) (.cond h (.setRc h))
theorem rcFreeze (h : Changes l₀ s₀ s) : Changes (l₀.append [.rcs]) s₀ (s.rcFreeze n) := .op h fun h => .setRc (.startFade h)
theorem rcDiverge (h : Changes l₀ s₀ s) : Changes (l₀.append (raiseParts.append [.rcs])) s₀ (s.rcDiverge n) :=
  .op h fun h => .update (.raise (.setRc h)) .rcFreeze
theorem rcRms (h : Changes l₀ s₀ s) : Changes (l₀.append (raiseParts.append [.rcs])) s₀ (s.rcRms n) :=
  .op h fun h => .cond (.rcDiverge (.setRc h)) (.setRc h)

theorem rcPeriod (h : Changes l₀ s₀ s) : Changes (l₀.append [.rcs, .faults]) s₀ (s.rcPeriod n) := .andThen h fun h => by
  unfold State.rcPeriod
  extract_lets _ s1
  have h1 : Changes _ s s1 := .startFade h
  split
  · exact .le (.clearing (.rcFresh h))
  · split
    · exact .le h
    · exact .le (.cond h (.cond (.clearing (.rcApply h)) (.setRc h1)))

theorem applyRcReset (h : Changes l₀ s₀ s) : Changes (l₀.append [.rcs, .faults]) s₀ (s.applyRcReset n) := .op h fun h => .clearing (.setRc (.setRc h))
theorem applyLearnGain (h : Changes l₀ s₀ s) : Changes (l₀.append [.rcs, .faults, .cfg]) s₀ (s.applyLearnGain n data) :=
  .op h fun h => .cond (.clearing (.setRc (.setObj h))) (.setObj h)
theorem applyRefPeriod (h : Changes l₀ s₀ s) : Changes (l₀.append [.rcs, .faults, .cfg]) s₀ (s.applyRefPeriod n data) :=
  .op h fun h => .cond (.clearing (.setRc (.setObj h))) (.setRc (.setObj h))
theorem setObsPhase {x : ObsPhase} (h : Changes l₀ s₀ s) : Changes (l₀.append [.obs]) s₀ (s.setObsPhase st j x) := .setObserver h
theorem obsDrop (h : Changes l₀ s₀ s) : Changes (l₀.append (raiseParts.append [.obs])) s₀ (s.obsDrop st j cause) :=
  .op h fun h => .setObsPhase (.dropPhase h)
theorem obsOpen (h : Changes l₀ s₀ s) : Changes (l₀.append (raiseParts.append [.obs])) s₀ (s.obsOpen st j) :=
  .op h fun h => .raiseWith (.obsDrop (.setObserver h))
theorem obsSensor (h : Changes l₀ s₀ s) : Changes (l₀.append (raiseParts.append [.obs])) s₀ (s.obsSensor st j) :=
  .op h fun h => .cond (.obsDrop (.raiseWith (.setObserver h))) (.setObserver (.raiseWith (.setObserver h)))
theorem obsAmbiguous (h : Changes l₀ s₀ s) : Changes (l₀.append (raiseParts.append [.obs])) s₀ (s.obsAmbiguous st j) :=
  .op h fun h => .update (.raiseWith (.setObserver h)) .obsOpen
theorem noteDecision (h : Changes l₀ s₀ s) : Changes (l₀.append [.obs]) s₀ (s.noteDecision st j c) := .op h fun h => .cond h (.setObserver h)

theorem obsDecide (h : Changes l₀ s₀ s) : Changes (l₀.append (raiseParts.append [.obs])) s₀ (s.obsDecide st j) := .andThen h fun h => by
  unfold State.obsDecide
  dsimp only
  split
  · exact .le (.noteDecision h)
  · exact .le (.obsSensor (.noteDecision h))
  · exact .le (.obsOpen (.noteDecision h))
  · exact .le (.obsAmbiguous (.noteDecision h))

theorem obsRecover (h : Changes l₀ s₀ s) : Changes (l₀.append [.obs]) s₀ (s.obsRecover st j) :=
  .op h fun h => .cond (.setObserver (.setObsPhase h)) (.setObsPhase h)
theorem obsMeasure (h : Changes l₀ s₀ s) : Changes (l₀.append [.obs]) s₀ (s.obsMeasure st) := .setObserver h
theorem obsIdle (h : Changes l₀ s₀ s) : Changes (l₀.append [.obs]) s₀ (s.obsIdle st) := .setObserver h
theorem obsDecisions (h : Changes l₀ s₀ s) : Changes (l₀.append (raiseParts.append [.obs])) s₀ (s.obsDecisions st) :=
  .op h fun h => .foldl (.cond (.raiseWith (.setObserver h)) (.foldl (.setObserver h) .obsDecide)) .obsRecover

theorem obsAct (h : Changes l₀ s₀ s) : Changes (l₀.append (raiseParts.append [.obs])) s₀ (s.obsAct st) := .andThen h fun h => by
  unfold State.obsAct
  extract_lets s1 _ s2 s3 s4 s5
  have h1 : Changes _ s s1 := .cond (.obsDecisions h) (.obsIdle h)
  have h2 : Changes _ s s2 := .cond h1 (.clearing h1)
  have h3 : Changes _ s s3 := .cond h2 (.clearing h2)
  have h4 : Changes _ s s4 := .cond h3 (.clearing h3)
  have h5 : Changes _ s s5 := .cond h4 (.clearing h4)
  exact .le (.obsCapacity h5)

theorem obsTrack (h : Changes l₀ s₀ s) : Changes (l₀.append [.obs]) s₀ (s.obsTrack st) := .op h fun h => .setObserver (.setObserver h)

/-! Region states and mode changes (chapter 02). -/

theorem setRegion {r : Region} {v : RegionState} (h : Changes l₀ s₀ s) : Changes (l₀.append [.mode]) s₀ (s.setRegion r v) := .parts [.mode] h
theorem disableGroup (h : Changes l₀ s₀ s) : Changes (l₀.append [.mods, .groups, .faults]) s₀ (s.disableGroup g) :=
  .op h fun h => .setGroup (.clearing (.stopGroup h))

theorem startSns (h : Changes l₀ s₀ s) : Changes (l₀.append [.mode, .mods, .groups, .strs, .faults]) s₀ s.startSns := .andThen h fun h => by
  unfold State.startSns
  extract_lets s1 s2 s3
  have h1 : Changes _ s s1 := .setRegion h
  have h2 : Changes _ s s2 := .forUnits h1 fun h3 => .latchScale (.setMod h3)
  have h4 : Changes _ s s3 := .forUnits h2 .setStr
  exact .le (.forUnits h4 fun h5 => .cond (.startGroup h5) (.disableGroup h5))

theorem loadEng (h : Changes l₀ s₀ s) : Changes (l₀.append [.mode, .tide, .insts, .engines, .pgs, .rcs, .obs, .faults]) s₀ s.loadEng :=
  .op h fun h => .reloadEngines (.setRegion h)
theorem startEng (h : Changes l₀ s₀ s) : Changes (l₀.append (raiseParts.append [.tide, .pgs, .rcs, .obs])) s₀ s.startEng :=
  .op h fun h => .cond (.clearing (.loadEng h)) (.raise (.parts [.tide] (.setRegion (.loadEng h))))

theorem stopRegions (h : Changes l₀ s₀ s) :
    Changes (l₀.append [.mods, .groups, .adc, .insts, .engines, .stages, .phases, .faults, .pair, .log]) s₀ s.stopRegions := .andThen h fun h => by
  unfold State.stopRegions
  extract_lets _ s1 s2 s3 _ s4
  have h1 : Changes _ s s1 := .cond h (.forUnits (.parts [.log] h) .stopGroup)
  have h2 : Changes _ s s2 := .cond h1 (.stopAdc h1)
  have h3 : Changes _ s s3 := .cond h2 (.forUnits h2 .stopInst)
  have h4 : Changes _ s s4 := .cond h3 (.parts [.pair] h3)
  exact .le (.cond h4 (.stopStages h4))

theorem dropSources (h : Changes l₀ s₀ s) : Changes (l₀.append [.faults]) s₀ s.dropSources := .parts [.faults] h
theorem dropBuckets (h : Changes l₀ s₀ s) : Changes (l₀.append [.mem]) s₀ s.dropBuckets := .parts [.mem] h

theorem applyRegions {m : Mode} (h : Changes l₀ s₀ s) :
    Changes (l₀.append (raiseParts.append [.adc, .tide, .pgs, .rcs, .obs, .pair, .mem])) s₀ (s.applyRegions m) := .andThen h fun h => by
  unfold State.applyRegions
  exact .le (.update (.update (.dropBuckets (.dropSources (.stopRegions (.parts [.mode] h)))) .startEng) .startSns)

theorem haltString (h : Changes l₀ s₀ s) : Changes (l₀.append [.strs]) s₀ (s.haltString k) := .op h fun h => .cond (.setStr h) (.openString h)
theorem serveRegions {on : Bool} (h : Changes l₀ s₀ s) : Changes (l₀.append [.mode, .faults, .mem]) s₀ (s.serveRegions on) :=
  .op h fun h => .cond (.elseThen (.setRegion (.setRegion (.setRegion h))) fun h1 => .dropBuckets (.dropSources h1)) h
theorem supersedeRequest (h : Changes l₀ s₀ s) : Changes (l₀.append [.mode]) s₀ s.supersedeRequest := .parts [.mode] h
theorem enterSupply {u : SupplyState} (h : Changes l₀ s₀ s) : Changes (l₀.append [.spm]) s₀ (s.enterSupply u) := .parts [.spm] h

theorem modeSupply {m : Mode} (h : Changes l₀ s₀ s) : Changes (l₀.append [.spm]) s₀ (s.modeSupply m) := .andThen h fun h => by
  unfold State.modeSupply
  split
  · exact .le (.cond h (.enterSupply h))
  · exact .le h
  · exact .le h
  · exact .le (.cond h (.enterSupply h))

theorem enterMode {m : Mode} (h : Changes l₀ s₀ s) :
    Changes (l₀.append (raiseParts.append [.supply, .adc, .tide, .pgs, .rcs, .obs, .spm, .pair, .mem])) s₀ (s.enterMode m cause) :=
  .op h fun h => .driveTrip (.note (.modeSupply (.applyRegions (.parts [.supply] (.parts [.mode] h)))))

theorem beginDescent {target : Mode} {trip : Bool} (h : Changes l₀ s₀ s) :
    Changes (l₀.append (raiseParts.append [.supply, .adc, .tide, .pgs, .rcs, .obs, .spm, .railGroups, .pair, .mem])) s₀ (s.beginDescent target cause trip) := .andThen h fun h => by
  unfold State.beginDescent
  extract_lets _ s1 s2 s3 s4
  have h1 : Changes _ s s1 := .parts [.mode, .railGroups] h
  have h2 : Changes _ s s2 := .forUnits h1 fun h3 => .setFeed (.gateOff h3)
  have h4 : Changes _ s s3 := .cond (.outputsSafe h2) (.forUnits (.forUnits h2 .applyStageStop) .haltString)
  have h5 : Changes _ s s4 := .enterMode h4
  exact .le (.cond (.setRegion h5) h5)

theorem milestone (h : Changes l₀ s₀ s) : Changes (l₀.append [.mode]) s₀ (s.milestone n) := .parts [.mode] h
theorem queueCmd {c : PCmd} (h : Changes l₀ s₀ s) : Changes (l₀.append [.berths, .ports]) s₀ (s.queueCmd c) :=
  .op h fun h => .cond (.setPort (.cond (.setBerth h) h)) h
theorem queueOperation {data : Nat} (h : Changes l₀ s₀ s) : Changes (l₀.append [.berths, .ports]) s₀ (s.queueOperation b data rank) := .queueCmd h

theorem queueVolts {v : Rat} {signed : Bool} (h : Changes l₀ s₀ s) : Changes (l₀.append [.berths, .ports]) s₀ (s.queueVolts b code v signed rank) := .andThen h fun h => by
  unfold State.queueVolts
  split
  · exact .le (.queueCmd h)
  · exact .le h

/-! The shelf power manager (chapter 07). -/

theorem spmDetail {d : Nat} {c : Bool} (h : Changes l₀ s₀ s) : Changes (l₀.append (raiseParts.append [.spm])) s₀ (s.spmDetail d c) :=
  .op h fun h => .cond (.elseThen (.cond (.parts [.spm] h) h) fun h1 => .raise (.parts [.spm] h1)) (.update (.parts [.spm] (.cond (.parts [.spm] h) h)) .clearing)
theorem setWindow {lo hi : Rat} (h : Changes l₀ s₀ s) : Changes (l₀.append [.spm, .cfg]) s₀ (s.setWindow n lo hi) :=
  .op h fun h => .cond (.setObj (.setObj (.parts [.spm] h))) (.parts [.spm] h)

theorem writeWindows {shut : Bool × Bool} (h : Changes l₀ s₀ s) : Changes (l₀.append [.stages, .spm, .cfg]) s₀ (s.writeWindows shut) := .andThen h fun h => by
  unfold State.writeWindows
  extract_lets _ s1 s2
  have h1 : Changes _ s s1 := .parts [.spm] h
  have h2 : Changes [.spm, .cfg] s s2 := by
    unfold s2
    refine .le (.forUnits (b := [.spm, .cfg]) h1 fun h3 => ?_)
    split
    · exact .le (.setWindow h3)
    · exact .le h3
  exact .le (.forUnits h2 fun h4 => .setStage (.setWindow h4))

theorem shareUncapped (h : Changes l₀ s₀ s) : Changes (l₀.append [.spm]) s₀ s.shareUncapped := .parts [.spm] h
theorem allocate (h : Changes l₀ s₀ s) : Changes (l₀.append [.spm]) s₀ s.allocate.1 := .parts [.spm] h

theorem endProbe (h : Changes l₀ s₀ s) : Changes (l₀.append [.spm, .strs]) s₀ s.endProbe := .andThen h fun h => by
  unfold State.endProbe
  split
  · exact .le (.setStr (.parts [.spm] h))
  · exact .le h

theorem spmOnce (h : Changes l₀ s₀ s) : Changes (l₀.append [.stages, .spm, .cfg]) s₀ s.spmOnce :=
  .op h fun h => .cond h (.cond (.writeWindows (.allocate h)) (.cond (.writeWindows (.shareUncapped h)) (.writeWindows (.parts [.spm] h))))
theorem spmCompute (h : Changes l₀ s₀ s) : Changes (l₀.append [.stages, .spm, .strs, .cfg]) s₀ s.spmCompute :=
  .op h fun h => .cond (.spmOnce (.endProbe (.spmOnce h))) (.spmOnce h)
theorem spmMeasure (h : Changes l₀ s₀ s) : Changes (l₀.append [.spm]) s₀ s.spmMeasure := .parts [.spm] h
theorem carryStep (h : Changes l₀ s₀ s) : Changes (l₀.append [.spm]) s₀ s.carryStep := .op h fun h => .cond (.parts [.spm] h) (.parts [.spm] h)

theorem handbackStep (h : Changes l₀ s₀ s) : Changes (l₀.append [.spm]) s₀ s.handbackStep := .andThen h fun h => by
  unfold State.handbackStep
  dsimp only
  refine .ite (.le h) ?_
  split
  · exact .le (.cond (.parts [.spm] h) (.cond (.parts [.spm] h) h))
  · exact .le (.cond (.parts [.spm] h) h)
  · exact .le h
  · exact .le h

theorem capWatch (h : Changes l₀ s₀ s) : Changes (l₀.append (raiseParts.append [.spm])) s₀ s.capWatch :=
  .op h fun h => .spmDetail (.spmDetail (.spmDetail (.parts [.spm] h)))
theorem refHistory (h : Changes l₀ s₀ s) : Changes (l₀.append [.spm]) s₀ s.refHistory := .parts [.spm] h
theorem slackWatch (h : Changes l₀ s₀ s) : Changes (l₀.append [.strs]) s₀ s.slackWatch := .op h fun h => .forUnits h fun h1 => .cond (.setStr h1) h1
theorem decideSlack (h : Changes l₀ s₀ s) : Changes (l₀.append [.stages, .spm, .strs, .cfg]) s₀ (s.decideSlack k) :=
  .op h fun h => .cond h (.cond (.spmCompute (.setStr h)) (.setStr h))
theorem decideSlacks (h : Changes l₀ s₀ s) : Changes (l₀.append [.stages, .spm, .strs, .cfg]) s₀ s.decideSlacks :=
  .op h fun h => .forUnits h .decideSlack
theorem slackLost (h : Changes l₀ s₀ s) : Changes (l₀.append [.strs, .faults]) s₀ (s.slackLost k) :=
  .op h fun h => .cond (.setStr h) (.cond (.clearing (.setStr h)) (.setStr h))

theorem spmUpdate (h : Changes l₀ s₀ s) :
    Changes (l₀.append (raiseParts.append [.supply, .adc, .tide, .pgs, .rcs, .obs, .spm, .railGroups, .pair, .mem, .cfg])) s₀ s.spmUpdate := .andThen h fun h => by
  unfold State.spmUpdate
  extract_lets s1 s2 s3 s4
  have h1 : Changes _ s s1 := .handbackStep (.carryStep (.spmMeasure h))
  have h2 : Changes _ s s2 := .spmCompute h1
  have h3 : Changes _ s s3 := .slackWatch (.refHistory h2)
  have h4 : Changes _ s s4 := .decideSlacks (.capWatch h3)
  exact .le (.cond h3 (.cond (.beginDescent (.supersedeRequest (.spmDetail h4))) h4))

theorem shareBerth (h : Changes l₀ s₀ s) : Changes (l₀.append [.spm]) s₀ (s.shareBerth b) :=
  .op h fun h => .cond (.cond (.parts [.spm] h) h) (.cond (.parts [.spm] h) h)
theorem trimBerth (h : Changes l₀ s₀ s) : Changes (l₀.append [.spm, .berths, .ports]) s₀ (s.trimBerth b) :=
  .op h fun h => .cond (.queueVolts (.parts [.spm] h)) h
theorem centreTrims (h : Changes l₀ s₀ s) : Changes (l₀.append [.spm]) s₀ (s.centreTrims n) := .parts [.spm] h

theorem applyShareTrim {v : Rat} (h : Changes l₀ s₀ s) : Changes (l₀.append [.spm]) s₀ (s.applyShareTrim p v) := .andThen h fun h => by
  unfold State.applyShareTrim
  extract_lets _ s1
  have h1 : Changes _ s s1 := .parts [.spm] h
  split
  · exact .le (.centreTrims h1)
  · exact .le h1

theorem declareInputLoss (h : Changes l₀ s₀ s) :
    Changes (l₀.append (raiseParts.append [.supply, .adc, .tide, .pgs, .rcs, .obs, .spm, .pair, .mem, .cfg])) s₀ s.declareInputLoss := .andThen h fun h => by
  unfold State.declareInputLoss
  extract_lets s1 s2 s3 s4 _ s5
  have h1 : Changes _ s s1 := .forUnits h fun h2 => .cond (.gateOff h2) h2
  have h3 : Changes _ s s2 := .emcyOf (.enterMode (.supersedeRequest h1))
  have h4 : Changes _ s s3 := .trigEvent h3
  have h5 : Changes _ s s4 := .enterSupply h4
  have h6 : Changes _ s s5 := .parts [.spm] h5
  exact .le (.spmCompute (.forUnits h6 .slackLost))

theorem qualifyFeed (h : Changes l₀ s₀ s) : Changes (l₀.append [.feeds, .faults]) s₀ (s.qualifyFeed f) :=
  .op h fun h => .clearing (.clearing (.setFeed h))
theorem retargetBus {v : Rat} (h : Changes l₀ s₀ s) : Changes (l₀.append [.pgs, .log, .cfg]) s₀ (s.retargetBus v) := .acceptTarget h
theorem startHandback {src : Nat} (h : Changes l₀ s₀ s) :
    Changes (l₀.append (raiseParts.append [.pgs, .spm, .berths, .ports, .cfg])) s₀ (s.startHandback src) :=
  .op h fun h => .cond (.retargetBus (.spmDetail (.parts [.spm] (.enterSupply h)))) (.queueOperation (.spmDetail (.parts [.spm] (.enterSupply h))))
theorem abandonHandback (h : Changes l₀ s₀ s) : Changes (l₀.append (raiseParts.append [.spm, .cfg])) s₀ s.abandonHandback :=
  .op h fun h => .cond h (.spmCompute (.spmDetail (.parts [.spm] (.enterSupply (.cond (.setFeed (.gateOff h)) (.parts [.spm] h))))))
theorem handbackWatch (h : Changes l₀ s₀ s) : Changes (l₀.append (raiseParts.append [.spm, .cfg])) s₀ (s.handbackWatch b) :=
  .op h fun h => .cond (.abandonHandback h) h
theorem switchOn (h : Changes l₀ s₀ s) : Changes (l₀.append [.feeds]) s₀ (s.switchOn f) := .setFeed h
theorem autoFeeds (h : Changes l₀ s₀ s) : Changes (l₀.append [.feeds]) s₀ s.autoFeeds := .op h fun h => .forUnits h fun h1 => .cond (.switchOn h1) h1
theorem startHolds (h : Changes l₀ s₀ s) : Changes (l₀.append [.mode, .insts, .engines, .stages, .phases, .faults]) s₀ s.startHolds :=
  .op h fun h => .forUnits h fun h1 => .cond (.autoStart h1) h1
theorem reachedActive (h : Changes l₀ s₀ s) : Changes (l₀.append [.mode]) s₀ s.reachedActive := .op h fun h => .cond (.milestone h) h
theorem enterActive (h : Changes l₀ s₀ s) :
    Changes (l₀.append (raiseParts.append [.supply, .adc, .tide, .pgs, .rcs, .obs, .spm, .pair, .mem])) s₀ (s.enterActive cause) :=
  .op h fun h => .reachedActive (.spmDetail (.startHolds (.autoFeeds (.enterMode h))))

/-! The rail tree (chapter 10). -/

theorem switchRailOn (h : Changes l₀ s₀ s) : Changes (l₀.append [.rails, .berths, .ports]) s₀ (s.switchRailOn r) :=
  .op h fun h => .cond (.queueOperation (.setRail h)) (.setRail h)
theorem switchRailOff (h : Changes l₀ s₀ s) :
    Changes (l₀.append [.insts, .engines, .stages, .phases, .rails, .faults, .berths, .ports]) s₀ (s.switchRailOff r rank) :=
  .op h fun h => .cond (.cond (.stopStage (.railOff h)) (.railOff h)) (.cond (.queueOperation (.railOff h)) (.railOff h))
theorem forceOff (h : Changes l₀ s₀ s) : Changes (l₀.append [.insts, .engines, .stages, .phases, .rails, .faults, .berths, .ports]) s₀ (s.forceOff r) :=
  .op h fun h => .cond (.setRail (.switchRailOff h)) h
theorem forceAllOff (h : Changes l₀ s₀ s) : Changes (l₀.append [.insts, .engines, .stages, .phases, .rails, .faults, .berths, .ports]) s₀ s.forceAllOff :=
  .op h fun h => .forUnits h .forceOff
theorem railRose (h : Changes l₀ s₀ s) : Changes (l₀.append [.rails, .faults]) s₀ (s.railRose r) :=
  .op h fun h => .clearing (.clearing (.clearing (.setRail h)))
theorem riseSettled (h : Changes l₀ s₀ s) : Changes (l₀.append [.mode, .thermal]) s₀ s.riseSettled :=
  .op h fun h => .cond (.cond (.milestone (.parts [.thermal] h)) (.parts [.thermal] h)) h
theorem groupRisen (h : Changes l₀ s₀ s) : Changes (l₀.append [.mode, .rails, .railGroups, .thermal]) s₀ (s.groupRisen g) :=
  .op h fun h => .riseSettled (.forUnits (.setRailGroup h) .setRail)
theorem groupLowered (h : Changes l₀ s₀ s) : Changes (l₀.append [.rails, .railGroups]) s₀ (s.groupLowered g) :=
  .op h fun h => .forUnits (.setRailGroup h) .setRail
theorem seenNow (h : Changes l₀ s₀ s) : Changes (l₀.append [.railGroups]) s₀ (s.seenNow g) := .setRailGroup h
theorem freeStageRails (h : Changes l₀ s₀ s) : Changes (l₀.append [.rails]) s₀ (s.freeStageRails g) := .op h fun h => .forUnits h .setRail
theorem startRise (h : Changes l₀ s₀ s) : Changes (l₀.append [.mode, .rails, .railGroups, .thermal]) s₀ (s.startRise g) :=
  .op h fun h => .elseThen (.setRailGroup (.freeStageRails h)) fun h1 => .seenNow (.groupRisen h1)
theorem startLower (h : Changes l₀ s₀ s) : Changes (l₀.append [.rails, .railGroups]) s₀ (s.startLower g) :=
  .op h fun h => .elseThen (.setRailGroup h) fun h1 => .seenNow (.groupLowered h1)
theorem startRises (h : Changes l₀ s₀ s) : Changes (l₀.append [.mode, .rails, .railGroups, .thermal, .faults]) s₀ s.startRises :=
  .op h fun h => .forUnits (.parts [.thermal] (.clearing h)) fun h1 => .cond (.seenNow (.groupRisen (.setRailGroup (.freeStageRails h1)))) (.startRise h1)
theorem failGroup {k : Key} (h : Changes l₀ s₀ s) : Changes (l₀.append [.mode, .rails, .railGroups, .thermal]) s₀ (s.failGroup g k) :=
  .op h fun h => .cond (.riseSettled (.setRailGroup (.startLower h))) (.setRailGroup h)
theorem riseFailure (h : Changes l₀ s₀ s) : Changes (l₀.append (raiseParts.append [.rails, .railGroups, .thermal])) s₀ (s.riseFailure r detail) :=
  .op h fun h => .failGroup (.raise (.setRail h))
theorem waitFailure (h : Changes l₀ s₀ s) : Changes (l₀.append (raiseParts.append [.rails, .railGroups, .thermal])) s₀ (s.waitFailure g) :=
  .op h fun h => .failGroup (.raise h)
theorem descentFault (h : Changes l₀ s₀ s) : Changes (l₀.append (raiseParts.append [.rails, .berths, .ports])) s₀ (s.descentFault r detail) :=
  .op h fun h => .forUnits (.forceOff (.setRail (.raise h))) fun h1 => .setRail (.forceOff h1)
theorem seePins {pins : Nat} (h : Changes l₀ s₀ s) : Changes (l₀.append [.rails]) s₀ (s.seePins pins) :=
  .op h fun h => .forUnits h fun h1 => .cond h1 (.setRail h1)
theorem seqNext {at_ : Nat} (h : Changes l₀ s₀ s) : Changes (l₀.append [.rails, .railGroups]) s₀ (s.seqNext g at_) :=
  .op h fun h => .cond (.startLower h) (.cond (.setRailGroup h) h)
theorem tellPin (h : Changes l₀ s₀ s) : Changes (l₀.append [.rails]) s₀ (s.tellPin r detail) := .op h fun h => .cond (.setRail h) h

theorem resumeFault (h : Changes l₀ s₀ s) : Changes (l₀.append (raiseParts.append [.thermal])) s₀ s.resumeFault := .andThen h fun h => by
  unfold State.resumeFault
  split
  · exact .le (.cond (.raise (.parts [.thermal] h)) h)
  · exact .le h

theorem descentOver (h : Changes l₀ s₀ s) : Changes (l₀.append (raiseParts.append [.rails, .berths, .ports])) s₀ (s.descentOver r) :=
  .op h fun h => .forceAllOff (.raise (.setRail h))
theorem groupWrite {t : State} {ps : List Part} (h : Changes l₀ s₀ s) (ht : Changes ps s₀ t) :
    Changes ((l₀.append (ps.append [.railGroups])).append [.mode, .pair, .net]) s₀ (s.groupWrite ch g v status t) := .guardedWrite h (.setRailGroup ht)

theorem applyMargin (h : Changes l₀ s₀ s) : Changes (l₀.append [.rails, .berths, .ports]) s₀ (s.applyMargin r v) := .andThen h fun h => by
  unfold State.applyMargin
  extract_lets _ _ _ s1
  have h1 : Changes _ s s1 := .setRail h
  split
  · exact .le (.queueOperation (.queueVolts h1))
  · exact .le (.queueOperation (.queueVolts h1))
  · exact .le (.queueOperation h1)

theorem endMargins (h : Changes l₀ s₀ s) : Changes (l₀.append [.rails, .berths, .ports]) s₀ s.endMargins := .op h fun h => .forUnits h .applyMargin
theorem railTurns (h : Changes l₀ s₀ s) : Changes (l₀.append [.rails, .faults]) s₀ (s.railTurns r) := .op h fun h => .cond (.railRose h) h
theorem railSeen (h : Changes l₀ s₀ s) : Changes (l₀.append [.rails, .faults]) s₀ (s.railSeen r) := .op h fun h => .railTurns (.setRail h)
theorem railSample (h : Changes l₀ s₀ s) : Changes (l₀.append [.rails, .faults]) s₀ (s.railSample md) :=
  .op h fun h => .cond (.forUnits h .railSeen) h
theorem railEntry (h : Changes l₀ s₀ s) : Changes (l₀.append [.rails, .faults]) s₀ (s.railEntry e) :=
  .op h fun h => .forUnits h fun h1 => .railSeen (.setRail h1)
theorem railPolled {v : Rat} {bad : Bool} (h : Changes l₀ s₀ s) : Changes (l₀.append [.rails, .faults]) s₀ (s.railPolled r v bad) :=
  .op h fun h => .cond (.railSeen (.setRail (.setRail h))) (.setRail h)
theorem railPoll {v : Rat} {bad : Bool} (h : Changes l₀ s₀ s) : Changes (l₀.append [.rails, .faults]) s₀ (s.railPoll b v bad) :=
  .op h fun h => .forUnits h .railPolled
theorem stageRailFollows (h : Changes l₀ s₀ s) : Changes (l₀.append [.rails, .faults]) s₀ (s.stageRailFollows n r) :=
  .op h fun h => .cond (.railTurns (.cond h (.setRail h))) (.cond (.railOff h) h)
theorem railsFollow (h : Changes l₀ s₀ s) : Changes (l₀.append [.rails, .faults]) s₀ (s.railsFollow n) := .op h fun h => .forUnits h .stageRailFollows

/-! Temperature and ageing (chapter 10). -/

theorem compareSensor (h : Changes l₀ s₀ s) : Changes (l₀.append (raiseParts.append [.thermal])) s₀ (s.compareSensor n) :=
  .op h fun h => .cond (.setSensor h) (.follow (.setSensor h))

theorem packageTemp (h : Changes l₀ s₀ s) : Changes (l₀.append (raiseParts.append [.thermal])) s₀ s.packageTemp := .andThen h fun h => by
  unfold State.packageTemp
  split
  · exact .le h
  · exact .le (.cond (.raise (.parts [.thermal] (.parts [.thermal] h))) (.elseThen (.parts [.thermal] (.parts [.thermal] h)) .clearing))

theorem stageTempStep (h : Changes l₀ s₀ s) : Changes (l₀.append [.thermal]) s₀ (s.stageTempStep n) := .andThen h fun h => by
  unfold State.stageTempStep
  split
  · exact .le (.parts [.thermal] h)
  · exact .le (.parts [.thermal] h)

theorem dramTempStep (h : Changes l₀ s₀ s) : Changes (l₀.append (raiseParts.append [.thermal])) s₀ s.dramTempStep := .andThen h fun h => by
  unfold State.dramTempStep
  refine .ite ?_ (.le h)
  split
  · exact .le (.parts [.thermal] h)
  · exact .le (.cond (.raise (.parts [.thermal] h)) (.cond (.clearing (.parts [.thermal] h)) (.parts [.thermal] h)))

theorem dieReading (h : Changes l₀ s₀ s) : Changes (l₀.append (raiseParts.append [.thermal])) s₀ (s.dieReading n code) :=
  .op h fun h => .cond (.raise (.setSensor h)) (.setSensor h)
theorem slot {codes : List Nat} (h : Changes l₀ s₀ s) : Changes (l₀.append (raiseParts.append [.thermal])) s₀ (s.slot codes) :=
  .op h fun h => .dramTempStep (.forUnits (.packageTemp (.forUnits (.forUnits h .dieReading) .compareSensor)) .stageTempStep)

theorem thermEntry (h : Changes l₀ s₀ s) : Changes (l₀.append (raiseParts.append [.thermal])) s₀ (s.thermEntry e) := .andThen h fun h => by
  unfold State.thermEntry
  dsimp only
  refine .le (.forUnits (b := (raiseParts.append [.thermal])) h fun h1 => ?_)
  split
  · exact .le (.compareSensor (.setSensor h1))
  · exact .le (.compareSensor (.setSensor h1))

theorem commitVid (h : Changes l₀ s₀ s) : Changes (l₀.append [.thermal, .mem]) s₀ s.commitVid :=
  .op h fun h => .commitCopy h (fun h0 => .parts [.thermal] h0)
theorem loadVid (h : Changes l₀ s₀ s) : Changes (l₀.append [.thermal]) s₀ s.loadVid := .parts [.thermal] h
theorem enterStep {a : Nat} (h : Changes l₀ s₀ s) : Changes (l₀.append [.tide, .thermal, .mem]) s₀ (s.enterStep a) :=
  .op h fun h => .cond h (.parts [.tide] (.commitVid (.parts [.thermal] h)))
theorem raiseVid (h : Changes l₀ s₀ s) : Changes (l₀.append [.tide, .thermal, .mem]) s₀ s.raiseVid :=
  .op h fun h => .enterStep (.commitVid (.parts [.thermal] h))

theorem vidStep {m : Int} (h : Changes l₀ s₀ s) : Changes (l₀.append (raiseParts.append [.tide, .thermal, .mem])) s₀ (s.vidStep m) := .andThen h fun h => by
  unfold State.vidStep
  extract_lets _ _ _ _ _ _ s1 s2
  have h1 : Changes _ s s1 := .parts [.thermal] h
  have h2 : Changes _ s s2 := .cond (.raise h1) h1
  refine .ite (.le (.cond (.raiseVid h) h)) ?_
  split
  · exact .le (.cond (.parts [.thermal] (.enterStep h1)) h1)
  · exact .le (.cond (.raise h2) h2)

theorem applyAgeReset (h : Changes l₀ s₀ s) : Changes (l₀.append [.tide, .thermal, .faults, .mem]) s₀ s.applyAgeReset :=
  .op h fun h => .foldl (.enterStep (.commitVid (.parts [.thermal] h))) fun h1 => .unlatch (.clearing h1)
theorem ageSample (h : Changes l₀ s₀ s) : Changes (l₀.append [.thermal]) s₀ (s.ageSample md) :=
  .op h fun h => .forUnits h fun h1 => .cond (.parts [.thermal] h1) h1
theorem ronPhase (h : Changes l₀ s₀ s) : Changes (l₀.append (raiseParts.append [.thermal])) s₀ (s.ronPhase p) :=
  .op h fun h => .follow (.parts [.thermal] h)
theorem bankSample (h : Changes l₀ s₀ s) : Changes (l₀.append [.thermal]) s₀ (s.bankSample md) :=
  .op h fun h => .forUnits h fun h1 => .update (.forUnits h1 (fun h0 => .parts [.thermal] h0)) (fun h0 => .parts [.thermal] h0)
theorem replanPhase {mean : Rat} (h : Changes l₀ s₀ s) : Changes (l₀.append [.spm, .pair, .cfg]) s₀ (s.replanPhase p mean) :=
  .op h fun h => .mirrored (.setObj (.cond (.mirrored (.applyShareTrim h)) h))
theorem commitAgeing (h : Changes l₀ s₀ s) : Changes (l₀.append [.thermal, .mem]) s₀ s.commitAgeing :=
  .op h fun h => .commitCopy h (fun h0 => .parts [.thermal] h0)
theorem loadAgeing (h : Changes l₀ s₀ s) : Changes (l₀.append [.thermal]) s₀ s.loadAgeing := .parts [.thermal] h

/-! Fault management (chapter 11). -/

theorem setClass {k : Key} (h : Changes l₀ s₀ s) : Changes (l₀.append [.faults]) s₀ (s.setClass c k) := .parts [.faults] h
theorem applySev {rr w : Nat} (h : Changes l₀ s₀ s) : Changes (l₀.append [.faults, .log]) s₀ (s.applySev rr w) :=
  .op h fun h => .record (.parts [.faults] (.foldl h .setClass))

theorem selectSev {rr w : Nat} (h : Changes l₀ s₀ s) : Changes (l₀.append [.net]) s₀ (s.selectSev ch rr w) := .andThen h fun h => by
  unfold State.selectSev
  split
  · exact .le (.setSession h)
  · exact .le h

theorem applyIrqClear {rr m : Nat} (h : Changes l₀ s₀ s) : Changes (l₀.append [.faults]) s₀ (s.applyIrqClear rr m) := .parts [.faults] h

theorem busErrorTo {rq : Requester} {host : Option Chan} (h : Changes l₀ s₀ s) : Changes (l₀.append (raiseParts.append [.mem])) s₀ (s.busErrorTo rq host) := .andThen h fun h => by
  unfold State.busErrorTo
  extract_lets _ s1 s2
  have h1 : Changes _ s s1 := .parts [.mem] h
  have h2 : Changes _ s s2 := .raise h1
  split
  · exact .le (.parts [.log] h2)
  · exact .le (.reply h1)
  · exact .le h1
  · exact .le (.reply h1)
  · exact .le (.parts [.net] h1)
  · exact .le h1

/-! DRAM, SRAM and MRAM (chapter 15). -/

theorem refill (h : Changes l₀ s₀ s) : Changes (l₀.append [.mem]) s₀ s.refill := .parts [.mem] h

theorem abandonWindow {w : Nat} (h : Changes l₀ s₀ s) : Changes (l₀.append [.log]) s₀ (s.abandonWindow w) :=
  .op h fun h => .noteWindow (.parts [.log] h)
theorem loseRing (h : Changes l₀ s₀ s) : Changes (l₀.append [.log]) s₀ s.loseRing :=
  .op h fun h => .parts [.log] (.forUnits h fun h1 => .cond (.abandonWindow h1) h1)
theorem train (h : Changes l₀ s₀ s) : Changes (l₀.append (raiseParts.append [.mem])) s₀ (s.train n) :=
  .op h fun h => .cond (.cond (.refill (.parts [.faults] (.clearing (.parts [.mem] (.loseRing h))))) (.raise (.parts [.mem] (.loseRing h)))) h
theorem startMem (h : Changes l₀ s₀ s) : Changes (l₀.append (raiseParts.append [.mem])) s₀ (s.startMem n) := .op h fun h => .train (.parts [.mem] h)
theorem startSram (h : Changes l₀ s₀ s) : Changes (l₀.append [.mem]) s₀ s.startSram := .parts [.mem] h
theorem countDevice {d : Nat} (h : Changes l₀ s₀ s) : Changes (l₀.append (raiseParts.append [.mem])) s₀ (s.countDevice rank d) :=
  .op h fun h => .cond (.raise (.parts [.mem] h)) (.parts [.mem] h)
theorem countBurst {l : List (Option (List Byte × Option Nat))} (h : Changes l₀ s₀ s) :
    Changes (l₀.append (raiseParts.append [.mem])) s₀ (s.countBurst b l) :=
  .op h fun h => .forUnits h .countDevice
theorem uncorrectable (h : Changes l₀ s₀ s) : Changes (l₀.append (raiseParts.append [.mem])) s₀ (s.uncorrectable b k errs) :=
  .op h fun h => .raiseWith (.parts [.mem] h)

theorem writeWord (h : Changes l₀ s₀ s) : Changes (l₀.append [.mem]) s₀ (s.writeWord b k data) := .parts [.mem] h

theorem writeBurst (h : Changes l₀ s₀ s) : Changes (l₀.append [.mem]) s₀ (s.writeBurst b data) :=
  .op h fun h => .parts [.mem] (.forUnits h .writeWord)
theorem fillFlip (h : Changes l₀ s₀ s) : Changes (l₀.append [.mem]) s₀ s.fillFlip := .op h fun h => .parts [.mem] (.writeWord h)
theorem filledNow (h : Changes l₀ s₀ s) : Changes (l₀.append [.mem]) s₀ s.filledNow := .op h fun h => .cond (.fillFlip h) h
theorem peaked {q : MemReq} (h : Changes l₀ s₀ s) : Changes (l₀.append [.mem]) s₀ (s.peaked q) := .parts [.mem] h
theorem queueWriteBack {l : List (Option (List Byte × Option Nat))} (h : Changes l₀ s₀ s) : Changes (l₀.append [.mem]) s₀ (s.queueWriteBack b l) :=
  .op h fun h => .cond h (.parts [.mem] h)

theorem dramReadOp {rq : MemReq} {len : Nat} (h : Changes l₀ s₀ s) : Changes (l₀.append (raiseParts.append [.mem])) s₀ (s.dramReadOp rq addr len errs) := .andThen h fun h => by
  unfold State.dramReadOp
  extract_lets s1 _ _ s2 s3
  have h1 : Changes _ s s1 := .filledNow h
  have h2 : Changes _ s s2 := .countBurst (.peaked h1)
  have h3 : Changes _ s s3 := .queueWriteBack h2
  split
  · exact .le (.busErrorTo (.uncorrectable h2))
  · exact .le (.parts [.mem] h3)

theorem dramWriteOp {rq : MemReq} (h : Changes l₀ s₀ s) : Changes (l₀.append (raiseParts.append [.mem])) s₀ (s.dramWriteOp rq addr data errs) := .andThen h fun h => by
  unfold State.dramWriteOp
  extract_lets s1 _ _ _ _ _ _ s2 _ s3 _ s4
  have h1 : Changes _ s s1 := .filledNow h
  have h2 : Changes _ s s2 := .peaked h1
  have h3 : Changes _ s s3 := .countBurst (.parts [.mem] h2)
  have h4 : Changes _ s s4 := .writeBurst h3
  split
  · exact .le (.busErrorTo (.uncorrectable h3))
  · exact .le (.parts [.mem] h4)

theorem scrubAdvance (h : Changes l₀ s₀ s) : Changes (l₀.append [.faults, .mem]) s₀ s.scrubAdvance := .andThen h fun h => by
  unfold State.scrubAdvance
  split
  · exact .le (.parts [.mem] h)
  · exact .le (.cond (.parts [.mem] h) (.clearing (.parts [.mem] h)))

theorem leakDevice (h : Changes l₀ s₀ s) : Changes (l₀.append [.faults, .mem]) s₀ (s.leakDevice i) :=
  .op h fun h => .cond (.clearing (.parts [.mem] h)) (.parts [.mem] h)
theorem leakSram (h : Changes l₀ s₀ s) : Changes (l₀.append [.faults, .mem]) s₀ (s.leakSram i) :=
  .op h fun h => .cond (.clearing (.parts [.mem] h)) (.parts [.mem] h)
theorem leakDevices (h : Changes l₀ s₀ s) : Changes (l₀.append [.faults, .mem]) s₀ s.leakDevices :=
  .op h fun h => .forUnits (.parts [.mem] h) .leakDevice
theorem leakSrams (h : Changes l₀ s₀ s) : Changes (l₀.append [.faults, .mem]) s₀ s.leakSrams := .op h fun h => .forUnits (.parts [.mem] h) .leakSram
theorem applyEccMode (h : Changes l₀ s₀ s) : Changes (l₀.append [.mem, .log, .cfg]) s₀ (s.applyEccMode v) :=
  .op h fun h => .cond (.setObjN h) (.update (.loseRing (.setObjN h)) .refill)
theorem armFlip (h : Changes l₀ s₀ s) : Changes (l₀.append [.mem]) s₀ s.armFlip := .op h fun h => .parts [.mem] (.filledNow h)
theorem failImageWrite (h : Changes l₀ s₀ s) : Changes (l₀.append [.net, .img]) s₀ (s.failImageWrite reason) :=
  .op h fun h => .parts [.img] (.dropImageTransfers h)

theorem writeFailed {w : MramWriter} (h : Changes l₀ s₀ s) : Changes (l₀.append [.net, .mem, .log, .img]) s₀ (s.writeFailed w addr) := .andThen h fun h => by
  unfold State.writeFailed
  split
  · exact .le (.cond (.failImageWrite h) h)
  · exact .le (.cond (.parts [.mem] h) (.forUnits h .abandonWindow))
  · exact .le (.parts [.mem] h)

theorem spoilCopy {c : MramCopy} {second : Bool} (h : Changes l₀ s₀ s) :
    Changes (l₀.append [.supply, .strs, .thermal, .net, .log, .img]) s₀ (s.spoilCopy c second) := .andThen h fun h => by
  unfold State.spoilCopy
  dsimp only
  split
  · exact .le (.parts [.supply] h)
  · exact .le (.setStr h)
  · exact .le (.parts [.net] h)
  · exact .le (.parts [.thermal] h)
  · exact .le (.parts [.img] h)
  · exact .le (.parts [.img] h)
  · exact .le (.parts [.log] h)

theorem uncorrectableWord {e : MramError} (h : Changes l₀ s₀ s) :
    Changes (l₀.append (raiseParts.append [.supply, .thermal, .mem, .img])) s₀ (s.uncorrectableWord e) := .andThen h fun h => by
  unfold State.uncorrectableWord
  extract_lets _ s1 s2
  have h1 : Changes _ s s1 := .parts [.mem, .img] h
  have h2 : Changes [.supply, .strs, .thermal, .net, .mem, .log, .img] s s2 := by
    unfold s2
    split
    · exact .le (.cond (.spoilCopy h1) h1)
    · exact .le h1
  exact .le (.raise h2)

/-! The recorder (chapter 16). -/

theorem freezeNow (h : Changes l₀ s₀ s) : Changes (l₀.append [.log]) s₀ s.freezeNow := .op h fun h => .note (.parts [.log] h)

theorem commitRecord (h : Changes l₀ s₀ s) : Changes (l₀.append (raiseParts.append [.mem])) s₀ s.commitRecord := .andThen h fun h => by
  unfold State.commitRecord
  split
  · exact .le h
  · exact .le (.cond (.clearing (.parts [.mem, .log] h)) (.settleDrops (.parts [.mem, .log] h)))

theorem endFreeze {f : Freeze} (h : Changes l₀ s₀ s) : Changes (l₀.append [.log]) s₀ (s.endFreeze f) := .op h fun h => .note (.parts [.log] h)
theorem startFreeze (h : Changes l₀ s₀ s) : Changes (l₀.append [.log]) s₀ (s.startFreeze ch) :=
  .op h fun h => .cond (.freezeNow (.parts [.log] h)) (.parts [.log] h)
theorem freezeSessionClosed (h : Changes l₀ s₀ s) : Changes (l₀.append [.log]) s₀ (s.freezeSessionClosed ch) := .op h fun h => .cond (.endFreeze h) h

theorem placeCursor (h : Changes l₀ s₀ s) : Changes (l₀.append [.net]) s₀ (s.placeCursor ch n) := .andThen h fun h => by
  unfold State.placeCursor
  split
  · exact .le (.setSession h)
  · exact .le h

theorem readBlock (h : Changes l₀ s₀ s) : Changes (l₀.append [.net]) s₀ (s.readBlock ch) := .andThen h fun h => by
  unfold State.readBlock
  split
  · exact .le h
  · dsimp only
    refine .ite (.le (.reply h)) ?_
    split
    · exact .le (.reply h)
    · exact .le (.reply (.setSession h))

theorem startRing (h : Changes l₀ s₀ s) : Changes (l₀.append [.log]) s₀ s.startRing := .op h fun h => .parts [.log] (.loseRing h)
theorem openRing (h : Changes l₀ s₀ s) : Changes (l₀.append [.log]) s₀ s.openRing := .op h fun h => .cond h (.startRing h)
theorem writeFrame {at_ : Nat} (h : Changes l₀ s₀ s) : Changes (l₀.append (raiseParts.append [.mem])) s₀ (s.writeFrame at_ data errs) :=
  .op h fun h => .forUnits h .dramWriteOp
theorem stampWindows (h : Changes l₀ s₀ s) : Changes (l₀.append [.log]) s₀ s.stampWindows := .parts [.log] h

theorem capture (h : Changes l₀ s₀ s) : Changes (l₀.append (raiseParts.append [.mem])) s₀ (s.capture errs) := .andThen h fun h => by
  unfold State.capture
  extract_lets s1 _ _ s2 _ _ s3 _ _ s4 s5
  have h1 : Changes _ s s1 := .stampWindows h
  have h2 : Changes _ s s2 := .clearing h1
  have h3 : Changes _ s s3 := .writeFrame h1
  have h4 : Changes _ s s4 := .parts [.log] h3
  have h5 : Changes _ s s5 := .raise h1
  exact .le (.cond (.parts [.log] h2) (.cond (.cond (.clearing h4) h4) (.parts [.log] h5)))

theorem refuseTrigger {e : TrigEvent} (h : Changes l₀ s₀ s) : Changes (l₀.append [.log]) s₀ (s.refuseTrigger e) :=
  .op h fun h => .noteWindow (.parts [.log] h)
theorem openWindow {w off bytes : Nat} {e : TrigEvent} (h : Changes l₀ s₀ s) : Changes (l₀.append [.log]) s₀ (s.openWindow w off bytes e) :=
  .parts [.log] h

theorem trigger {e : TrigEvent} (h : Changes l₀ s₀ s) : Changes (l₀.append [.log]) s₀ (s.trigger e) := .andThen h fun h => by
  unfold State.trigger
  extract_lets _ s1
  have h1 : Changes _ s s1 := .parts [.log] h
  refine .ite (.le (.cond (.parts [.log] h1) h1)) ?_
  refine .ite (.le (.refuseTrigger h1)) ?_
  split
  · exact .le (.openWindow h1)
  · exact .le (.refuseTrigger h1)

theorem promoteBurst {errs : List (Nat × SymErr)} (h : Changes l₀ s₀ s) : Changes (l₀.append (raiseParts.append [.mem])) s₀ (s.promoteBurst errs b) := .andThen h fun h => by
  unfold State.promoteBurst
  refine .ite (.le h) ?_
  extract_lets _ s1
  have h1 : Changes _ s s1 := .countBurst h
  split
  · exact .le (.busErrorTo (.uncorrectable h1))
  · exact .le (.queueWriteBack h1)

theorem promoteReads {v : Window} {errs : List (Nat × SymErr)} (h : Changes l₀ s₀ s) :
    Changes (l₀.append (raiseParts.append [.mem])) s₀ (s.promoteReads v errs) :=
  .op h fun h => .cond h (.forUnits (.filledNow h) fun h1 => .forUnits h1 .promoteBurst)
theorem promoteWindow {w : Nat} {v : Window} {errs : List (Nat × SymErr)} (h : Changes l₀ s₀ s) :
    Changes (l₀.append (raiseParts.append [.pair, .mem])) s₀ (s.promoteWindow w v errs) :=
  .op h fun h => .noteWindow (.d2dGood (.parts [.log] (.promoteReads h)))

/-! Feeds (chapter 07). -/

theorem raiseFeed (h : Changes l₀ s₀ s) : Changes (l₀.append raiseParts) s₀ (s.raiseFeed f unit detail) :=
  .op h fun h => .raise (.cond h (.setFeed h))
theorem updatePg (h : Changes l₀ s₀ s) : Changes (l₀.append [.feeds]) s₀ (s.updatePg f) := .setFeed h
theorem loseFeed (h : Changes l₀ s₀ s) : Changes (l₀.append (raiseParts.append [.spm, .cfg])) s₀ (s.loseFeed f unit) :=
  .op h fun h => .update (.raiseFeed (.setFeed (.gateOff h))) .abandonHandback
theorem applyFeedOn (h : Changes l₀ s₀ s) : Changes (l₀.append [.feeds, .faults, .cfg]) s₀ (s.applyFeedOn f) :=
  .op h fun h => .cond h (.update (.update (.foldl (.setFeed (.setObjN h)) .clearing) fun h1 => .clearing (.clearing h1)) .switchOn)
theorem applyFeedOff (h : Changes l₀ s₀ s) : Changes (l₀.append [.feeds, .cfg]) s₀ (s.applyFeedOff f) :=
  .op h fun h => .setFeed (.gateOff (.setObjN h))
theorem tripFeed (h : Changes l₀ s₀ s) : Changes (l₀.append raiseParts) s₀ (s.tripFeed f unit) := .op h fun h => .raiseFeed (.setFeed (.gateOff h))
theorem fuseStep {i : Rat} (h : Changes l₀ s₀ s) : Changes (l₀.append raiseParts) s₀ (s.fuseStep f i dt) :=
  .op h fun h => .cond (.setFeed h) (.cond (.cond (.tripFeed (.setFeed h)) (.setFeed h)) (.cond h (.setFeed h)))
theorem meterStep {valid : Bool} {i : Rat} (h : Changes l₀ s₀ s) : Changes (l₀.append [.feeds, .faults]) s₀ (s.meterStep f valid i dt) :=
  .op h fun h => .cond (.clearing (.setFeed h)) (.setFeed h)
theorem feedCurrentSample (h : Changes l₀ s₀ s) : Changes (l₀.append (raiseParts.append [.spm])) s₀ (s.feedCurrentSample f md) :=
  .op h fun h => .parts [.spm] (.cond (.fuseStep (.meterStep h)) (.meterStep h))
theorem feedVoltSample (h : Changes l₀ s₀ s) : Changes (l₀.append (raiseParts.append [.spm, .cfg])) s₀ (s.feedVoltSample f md) :=
  .op h fun h => .updatePg (.update (.cond (.clearing (.clearing (.setFeed h))) (.setFeed h)) .abandonHandback)
theorem feedSample (h : Changes l₀ s₀ s) : Changes (l₀.append (raiseParts.append [.spm, .cfg])) s₀ (s.feedSample md) :=
  .op h fun h => .forUnits h fun h1 => .update (.cond (.feedCurrentSample h1) h1) .feedVoltSample
theorem stageSample (h : Changes l₀ s₀ s) : Changes (l₀.append [.spm]) s₀ (s.stageSample md) :=
  .op h fun h => .forUnits h (fun h0 => .parts [.spm] h0)

/-! Battery strings (chapter 08). -/

theorem setEst {e : Estimator} (h : Changes l₀ s₀ s) : Changes (l₀.append [.strs]) s₀ (s.setEst k e) := .setStr h
theorem reraiseString (h : Changes l₀ s₀ s) : Changes (l₀.append raiseParts) s₀ (s.reraiseString k) :=
  .op h fun h => .foldl h fun h1 => .cond (.raise h1) h1
theorem anchor {u : Rat} (h : Changes l₀ s₀ s) : Changes (l₀.append [.strs, .faults]) s₀ (s.anchor k u) :=
  .op h fun h => .clearing (.clearing (.clearing (.setEst h)))
theorem restPoint {v i raise : Rat} (h : Changes l₀ s₀ s) : Changes (l₀.append [.strs, .faults]) s₀ (s.restPoint k v i raise) :=
  .op h fun h => .cond (.setEst h) (.cond (.anchor (.setEst h)) (.setEst (.setEst h)))
theorem takeZ {z : Rat} (h : Changes l₀ s₀ s) : Changes (l₀.append [.strs]) s₀ (s.takeZ k j z) := .op h fun h => .cond (.setStr h) (.setStr h)

theorem impedance (h : Changes l₀ s₀ s) : Changes (l₀.append [.strs]) s₀ (s.impedance k) := .andThen h fun h => by
  unfold State.impedance
  refine .le (.foldl (b := [.strs]) h fun h1 => ?_)
  split
  · exact .le (.takeZ h1)
  · exact .le h1

theorem setDisagree (h : Changes l₀ s₀ s) : Changes (l₀.append raiseParts) s₀ (s.setDisagree k) := .op h fun h => .raise (.setEst h)
theorem verdict {dis : Bool} {soc : Rat} (h : Changes l₀ s₀ s) : Changes (l₀.append raiseParts) s₀ (s.verdict k dis soc) :=
  .op h fun h => .setEst (.update (.raise (.setEst h)) fun h1 => .setDisagree (.setEst h1))
theorem endCheck (h : Changes l₀ s₀ s) : Changes (l₀.append raiseParts) s₀ (s.endCheck k) :=
  .op h fun h => .update (.cond (.verdict (.setEst h)) (.setEst h)) .verdict
theorem endRelease (h : Changes l₀ s₀ s) : Changes (l₀.append [.strs, .faults]) s₀ (s.endRelease k) :=
  .op h fun h => .update (.cond (.clearing (.setEst h)) h) fun h1 => .clearing (.setEst h1)
theorem rangeCheck (h : Changes l₀ s₀ s) : Changes (l₀.append raiseParts) s₀ (s.rangeCheck k) :=
  .op h fun h => .update (.cond (.setDisagree h) h) .raise
theorem limits (h : Changes l₀ s₀ s) : Changes (l₀.append [.strs]) s₀ (s.limits k) := .setEst h
theorem countGap (h : Changes l₀ s₀ s) : Changes (l₀.append [.strs]) s₀ (s.countGap k) := .setEst h
theorem ocvNoise (h : Changes l₀ s₀ s) : Changes (l₀.append [.strs]) s₀ (s.ocvNoise k) := .setEst h
theorem fuse (h : Changes l₀ s₀ s) : Changes (l₀.append [.strs]) s₀ (s.fuse k dt) := .op h fun h => .cond (.setEst h) (.setEst h)
theorem count {i byRef : Rat} (h : Changes l₀ s₀ s) : Changes (l₀.append [.strs]) s₀ (s.count k i dt byRef) := .setStr h
theorem restCheck (h : Changes l₀ s₀ s) : Changes (l₀.append [.strs, .faults]) s₀ (s.restCheck k) :=
  .op h fun h => .cond (.restPoint (.setEst h)) (.setEst h)
theorem report {counted : Rat} (h : Changes l₀ s₀ s) : Changes (l₀.append [.strs]) s₀ (s.report k counted dt) := .setEst h

theorem takeEst (h : Changes l₀ s₀ s) : Changes (l₀.append [.strs]) s₀ (s.takeEst k) := .andThen h fun h => by
  unfold State.takeEst
  dsimp only
  split
  · exact .le (.setStr h)
  · exact .le h

theorem estStep (h : Changes l₀ s₀ s) : Changes (l₀.append raiseParts) s₀ (s.estStep k) := .andThen h fun h => by
  unfold State.estStep
  extract_lets s1 _ _ s2 _ s3 _ _ s4 s5 s6 s7 _ s8
  have h1 : Changes _ s s1 := .takeEst h
  have h2 : Changes _ s s2 := .cond (.countGap h1) h1
  have h3 : Changes _ s s3 := .ocvNoise (.count h2)
  have h4 : Changes _ s s4 := .cond (.endCheck (.fuse h3)) (.setEst h3)
  have h5 : Changes _ s s5 := .rangeCheck (.endRelease h4)
  have h6 : Changes _ s s6 := .cond (.restCheck h5) h5
  have h7 : Changes _ s s7 := .report (.limits h6)
  have h8 : Changes _ s s8 := .cond (.clearing (.setStr h7)) h7
  exact .le (.cond (.clearing h8) h8)

theorem wakeRestCheck (h : Changes l₀ s₀ s) : Changes (l₀.append [.strs, .faults]) s₀ (s.wakeRestCheck k) :=
  .op h fun h => .cond (.restPoint (.setStr h)) h

theorem closeMs (h : Changes l₀ s₀ s) : Changes (l₀.append raiseParts) s₀ (s.closeMs k) := .andThen h fun h => by
  unfold State.closeMs
  exact .le (.wakeRestCheck (.impedance (.cond (.estStep (.setEst h)) (.setEst h))))

theorem goodCurrent {y : Rat} (h : Changes l₀ s₀ s) : Changes (l₀.append [.strs, .faults]) s₀ (s.goodCurrent k y) :=
  .op h fun h => .update (.setStr (.cond (.countGap h) h)) fun h1 => .clearing (.setStr h1)
theorem badCurrent (h : Changes l₀ s₀ s) : Changes (l₀.append [.strs]) s₀ (s.badCurrent k) := .op h fun h => .setStr (.countGap h)

theorem stringSampleOf (h : Changes l₀ s₀ s) : Changes (l₀.append raiseParts) s₀ (s.stringSampleOf md k) := .andThen h fun h => by
  unfold State.stringSampleOf
  exact .le (.update (.update (.cond h (.closeMs h)) fun h1 => .cond (.goodCurrent h1) (.badCurrent h1)) .setEst)

theorem stringSample (h : Changes l₀ s₀ s) : Changes (l₀.append raiseParts) s₀ (s.stringSample md) := .op h fun h => .forUnits h .stringSampleOf
theorem requestSlack {byCharger : Bool} (h : Changes l₀ s₀ s) : Changes (l₀.append [.strs]) s₀ (s.requestSlack k byCharger) :=
  .op h fun h => .cond h (.setStr h)
theorem abortSlack (h : Changes l₀ s₀ s) : Changes (l₀.append [.stages, .spm, .strs, .cfg]) s₀ (s.abortSlack k) :=
  .op h fun h => .cond (.spmCompute (.setStr h)) h
theorem slackPoint (h : Changes l₀ s₀ s) : Changes (l₀.append [.stages, .spm, .strs, .faults, .cfg]) s₀ (s.slackPoint k) :=
  .op h fun h => .spmCompute (.setStr (.cond h (.cond (.restPoint h) (.restPoint h))))
theorem replaceString (h : Changes l₀ s₀ s) : Changes (l₀.append [.strs, .chargers]) s₀ (s.replaceString k) := .op h fun h => .setCharger (.setStr h)
theorem commitString {atEnd : Bool} (h : Changes l₀ s₀ s) : Changes (l₀.append [.strs]) s₀ (s.commitString k atEnd) := .setStr h
theorem commitEst {atEnd : Bool} (h : Changes l₀ s₀ s) : Changes (l₀.append [.strs, .mem]) s₀ (s.commitEst atEnd) :=
  .op h fun h => .forUnits h fun h1 => .commitCopy h1 .commitString

/-! The charge cycle and black start (chapter 09). -/

theorem raiseCharger (h : Changes l₀ s₀ s) : Changes (l₀.append raiseParts) s₀ (s.raiseCharger k kind) := .raiseWith h
theorem enterPhase {p : ChargePhase} (h : Changes l₀ s₀ s) : Changes (l₀.append [.chargers]) s₀ (s.enterPhase k p) := .setCharger h
theorem completeCycle {skipped : Bool} (h : Changes l₀ s₀ s) : Changes (l₀.append [.strs, .chargers, .faults]) s₀ (s.completeCycle k skipped) :=
  .op h fun h => .clearing (.clearing (.setStr (.setCharger (.enterPhase h))))
theorem enterFinal (h : Changes l₀ s₀ s) : Changes (l₀.append [.strs, .chargers, .faults]) s₀ (s.enterFinal k) :=
  .op h fun h => .cond (.completeCycle h) (.requestSlack (.enterPhase h))
theorem afterPulse (h : Changes l₀ s₀ s) : Changes (l₀.append [.strs, .chargers, .faults]) s₀ (s.afterPulse k) :=
  .op h fun h => .cond (.enterPhase h) (.enterFinal h)
theorem endCycle (h : Changes l₀ s₀ s) : Changes (l₀.append [.stages, .spm, .strs, .chargers, .cfg]) s₀ (s.endCycle k cause) :=
  .op h fun h => .enterPhase (.setCharger (.cond (.setStr (.abortSlack h)) h))
theorem startCycle (h : Changes l₀ s₀ s) : Changes (l₀.append [.chargers, .faults]) s₀ (s.startCycle k) :=
  .op h fun h => .clearing (.setCharger (.enterPhase h))
theorem chargeTimers (h : Changes l₀ s₀ s) : Changes (l₀.append [.chargers]) s₀ (s.chargeTimers k dt) := .setCharger h
theorem restStep (h : Changes l₀ s₀ s) : Changes (l₀.append [.chargers]) s₀ (s.restStep k) := .op h fun h => .cond (.setCharger h) h

theorem phaseStep (h : Changes l₀ s₀ s) : Changes (l₀.append [.strs, .chargers, .faults]) s₀ (s.phaseStep k dt) := .andThen h fun h => by
  unfold State.phaseStep
  extract_lets _ _ s1
  have h1 : Changes _ s s1 := .setCharger h
  split
  · exact .le (.cond (.cond (.afterPulse h) (.enterPhase h)) h)
  · exact .le (.restStep h)
  · exact .le (.cond (.enterFinal h1) (.setCharger h))
  · exact .le (.cond (.requestSlack h) h)
  · exact .le h
  · exact .le h
  · exact .le h

theorem setPaused {p : Bool} (h : Changes l₀ s₀ s) : Changes (l₀.append [.chargers]) s₀ (s.setPaused k p) :=
  .op h fun h => .cond (.setCharger h) (.cond (.setCharger h) h)

theorem chargeStep (h : Changes l₀ s₀ s) : Changes (l₀.append [.stages, .spm, .strs, .chargers, .faults, .cfg]) s₀ (s.chargeStep k) := .andThen h fun h => by
  unfold State.chargeStep
  refine .ite (.le h) ?_
  extract_lets _ _ _ s1 _ s2 _ s3
  have h1 : Changes _ s s1 := .setCharger h
  have h2 : Changes _ s s2 := .chargeTimers (.setPaused h1)
  have h3 : Changes _ s s3 := .cond (.setCharger h2) h2
  exact .le (.cond (.cond (.chargeTimers (.startCycle h1)) h1) (.cond (.endCycle h1) (.cond (.completeCycle h1) (.cond h3 (.phaseStep h3)))))

theorem applyChargeStart (h : Changes l₀ s₀ s) : Changes (l₀.append [.chargers, .cfg]) s₀ (s.applyChargeStart k) :=
  .op h fun h => .setCharger (.setObjN h)
theorem applyChargeStop (h : Changes l₀ s₀ s) : Changes (l₀.append [.stages, .spm, .strs, .chargers, .cfg]) s₀ (s.applyChargeStop k) :=
  .op h fun h => .cond (.endCycle (.setObjN h)) (.setCharger (.setObjN h))
theorem applyEqRequest (h : Changes l₀ s₀ s) : Changes (l₀.append [.chargers, .cfg]) s₀ (s.applyEqRequest k) :=
  .op h fun h => .setCharger (.setObjN h)
theorem applyEqAbort (h : Changes l₀ s₀ s) : Changes (l₀.append [.strs, .chargers, .faults, .cfg]) s₀ (s.applyEqAbort k) :=
  .op h fun h => .cond (.enterFinal (.setCharger (.setObjN h))) (.setObjN h)
theorem endRest (h : Changes l₀ s₀ s) : Changes (l₀.append [.stages, .spm, .strs, .chargers, .faults, .cfg]) s₀ (s.endRest k) :=
  .op h fun h => .cond (.spmCompute (.afterPulse (.setCharger h))) (.spmCompute (.setCharger h))

theorem enterBlackstart (h : Changes l₀ s₀ s) :
    Changes (l₀.append (raiseParts.append [.supply, .adc, .tide, .pgs, .rcs, .obs, .spm, .dead, .pair, .mem, .cfg])) s₀ s.enterBlackstart := .andThen h fun h => by
  unfold State.enterBlackstart
  exact .le (.spmCompute (.autoFeeds (.retargetBus (.setPg (.update (.parts [.dead] (.forUnits (.enterMode h) .applyStageStop)) .supersede)))))

theorem bsSample (h : Changes l₀ s₀ s) : Changes (l₀.append [.dead]) s₀ (s.bsSample md) := .op h fun h => .cond (.parts [.dead] h) h

/-! The image check (chapter 17). -/

theorem underImage {content : Image} (h : Changes l₀ s₀ s) : Changes (l₀.append [.img, .cfg, .kept]) s₀ (s.underImage content) :=
  .parts [.img, .cfg, .kept] h

/-! The counter block, the last breath and a start through BOOT (chapter 02). -/

theorem writeCounters (h : Changes l₀ s₀ s) : Changes (l₀.append [.supply]) s₀ (s.writeCounters last) := .parts [.supply] h
theorem commitCounters (h : Changes l₀ s₀ s) : Changes (l₀.append [.supply, .mem]) s₀ (s.commitCounters last) :=
  .op h fun h => .commitCopy h .writeCounters
theorem restoreCounters (h : Changes l₀ s₀ s) : Changes (l₀.append [.supply, .feeds, .rails, .log]) s₀ s.restoreCounters :=
  .op h fun h => .forUnits (.forUnits (.parts [.supply, .log] h) .setFeed) .setRail
theorem breathStops {railsOff : Bool} (h : Changes l₀ s₀ s) :
    Changes (l₀.append [.insts, .engines, .stages, .phases, .feeds, .strs, .rails, .faults, .pair, .ports, .log]) s₀ (s.breathStops reason railsOff) :=
  .op h fun h => .forUnits (.update (.update (.releaseOwn (.outputsSafe h)) .railsOff) .endFreeze) fun h1 => .cond (.abandonWindow h1) h1
theorem flushLog (h : Changes l₀ s₀ s) : Changes (l₀.append [.log]) s₀ s.flushLog := .parts [.log] h
theorem breathRecords {src : Nat} {vao : Rat} {cut : Option Nat} (h : Changes l₀ s₀ s) : Changes (l₀.append [.log]) s₀ (s.breathRecords src vao cut) :=
  .parts [.log] h
theorem holdRegions (h : Changes l₀ s₀ s) : Changes (l₀.append [.mode]) s₀ s.holdRegions := .parts [.mode] h

theorem breathShort {short : Bool} (h : Changes l₀ s₀ s) : Changes (l₀.append [.draws]) s₀ (s.breathShort short).2.2 := .andThen h fun h => by
  unfold State.breathShort
  split
  · exact .le (.drawBool (.drawBool (.drawBool h)))
  · exact .le h

theorem lastBreath {src : Nat} {rst railsOff short : Bool} (h : Changes l₀ s₀ s) :
    Changes (l₀.append [.supply, .mode, .insts, .engines, .stages, .phases, .feeds, .strs, .rails, .faults, .pair, .ports, .mem, .log, .img, .draws]) s₀ (s.lastBreath src rst railsOff short) := .andThen h fun h => by
  unfold State.lastBreath
  extract_lets _ s1 _ s2 _ s3 d e v _ s4 cut s5 _ s6 _ s7 _ s8
  have h1 : Changes _ s s1 := .supersedeRequest h
  have h2 : Changes _ s s2 := .parts [.img] h1
  have h3 : Changes _ s s3 := .cond h2 (.breathStops h2)
  have h4 : Changes _ s d.2 := .draw h3
  have h5 : Changes _ s e.2 := .draw h4
  have h6 : Changes _ s v.2 := .draw h5
  have h7 : Changes _ s s4 := .commitCounters h6
  have h8 : Changes _ s cut.2.2 := .breathShort h7
  have h9 : Changes _ s s5 := h8
  have h10 : Changes _ s s6 := .cond h9 (.breathRecords h9)
  have h11 : Changes _ s s7 := .cond h10 (.parts [.log] h10)
  have h12 : Changes _ s s8 := .parts [.supply] h11
  exact .le (.driveTrip (.holdRegions h12))

theorem startString (h : Changes l₀ s₀ s) : Changes (l₀.append raiseParts) s₀ (s.startString k) :=
  .op h fun h => .cond (.raise (.setStr h)) (.reraiseString (.setStr h))

theorem fresh {por : Bool} (h : Changes l₀ s₀ s) : Changes (l₀.append (allBut [.kept, .draws])) s₀ (s.fresh por) :=
  .op h fun h => .parts [.supply, .mode, .clock, .mods, .groups, .adc, .tide, .insts, .engines, .stages, .phases, .pgs, .rcs, .obs, .spm, .feeds, .strs, .chargers, .dead, .rails, .railGroups, .thermal, .faults, .pair, .net, .berths, .ports, .mem, .log, .img, .cfg] h

theorem imageNote {event slot : Nat} (h : Changes l₀ s₀ s) : Changes (l₀.append [.log]) s₀ (s.imageNote event kind slot reason) := .note h

theorem checkSlot {slot : Nat} {fw : ImgHeader} (h : Changes l₀ s₀ s) : Changes (l₀.append [.log, .img]) s₀ (s.checkSlot kind slot fw).1 := .andThen h fun h => by
  unfold State.checkSlot
  extract_lets
  split
  · exact .le h
  · exact .le (.imageNote (.parts [.img] h))

theorem pickSlot {fw : ImgHeader} (h : Changes l₀ s₀ s) : Changes (l₀.append [.log, .img]) s₀ (s.pickSlot kind fw).1 := .andThen h fun h => by
  unfold State.pickSlot
  extract_lets _ a b
  have ha : Changes _ s a.1 := .checkSlot h
  have hb : Changes _ s b.1 := .checkSlot ha
  split
  · exact .le ha
  · split
    · exact .le (.imageNote (.parts [.img] hb))
    · exact .le hb

theorem trialEnd (h : Changes l₀ s₀ s) : Changes (l₀.append [.log, .img]) s₀ s.trialEnd := .op h fun h => .cond (.parts [.img] (.imageNote h)) h
theorem trialStart {slot : Nat} (h : Changes l₀ s₀ s) : Changes (l₀.append [.img]) s₀ (s.trialStart slot) := .op h fun h => .cond (.parts [.img] h) h
theorem applyStored (h : Changes l₀ s₀ s) : Changes (l₀.append [.net, .log, .cfg]) s₀ s.applyStored :=
  .op h fun h => .foldl (.cond (.parts [.net] h) h) fun h1 => .cond (.parts [.cfg] h1) (.note h1)
theorem loadHomes (h : Changes l₀ s₀ s) : Changes (l₀.append [.net, .img]) s₀ s.loadHomes := .parts [.net, .img] h
theorem startSev (h : Changes l₀ s₀ s) : Changes (l₀.append [.faults]) s₀ s.startSev := .parts [.faults] h

theorem loadUnits (h : Changes l₀ s₀ s) : Changes (l₀.append (raiseParts.append [.adc, .pgs, .spm, .berths, .img])) s₀ s.loadUnits := .andThen h fun h => by
  unfold State.loadUnits
  extract_lets s1 s2 s3 s4 s5 s6
  have h1 : Changes _ s s1 := .forUnits h .latchScale
  have h2 : Changes _ s s2 := .forUnits h1 .setPhase
  have h3 : Changes _ s s3 := .forUnits h2 .restPg
  have h4 : Changes _ s s4 := .forUnits h3 .setStage
  have h5 : Changes _ s s5 := .forUnits h4 .startString
  have h6 : Changes _ s s6 := .forUnits h5 .setBerth
  clear_value s6
  exact .le (.parts [.adc, .spm, .faults, .img] h6)

theorem startPair (h : Changes l₀ s₀ s) : Changes (l₀.append [.mode, .pair]) s₀ s.startPair := .parts [.mode, .pair] h

theorem tornCheck (h : Changes l₀ s₀ s) : Changes (l₀.append [.supply, .log]) s₀ s.tornCheck := .andThen h fun h => by
  unfold State.tornCheck
  split
  · exact .le h
  · exact .le (.cond (.parts [.log] h) (.note (.parts [.supply, .log] (.parts [.log] h))))

theorem startAo (h : Changes l₀ s₀ s) :
    Changes (l₀.append (raiseParts.append [.supply, .adc, .tide, .pgs, .rcs, .obs, .spm, .pair, .mem])) s₀ (s.startAo cause) :=
  .op h fun h => .milestone (.update (.follow (.parts [.supply] (.enterMode (.parts [.net, .log] h)))) .raise)
theorem enterPilot {train : Nat} (h : Changes l₀ s₀ s) :
    Changes (l₀.append (raiseParts.append [.supply, .adc, .tide, .pgs, .rcs, .obs, .spm, .pair, .mem, .img])) s₀ (s.enterPilot cause train) :=
  .op h fun h => .startMem (.startSram (.raise (.enterMode (.parts [.supply, .log, .img] h))))

theorem startImage {train : Nat} (h : Changes l₀ s₀ s) :
    Changes (l₀.append (allBut [.clock, .chargers, .dead, .rails, .railGroups, .ports, .kept, .draws])) s₀ (s.startImage cause train) := .andThen h fun h => by
  unfold State.startImage
  extract_lets _ _ s1 s2 s3 s4 s5
  have h1 : Changes _ s s1 := .parts [.img] h
  have h2 : Changes _ s s2 := .loadVid (.loadAgeing (.loadUnits (.startSev (.loadHomes (.applyStored h1)))))
  have h3 : Changes _ s s3 := .reloadEngines (.startMem (.startSram h2))
  have h4 : Changes _ s s4 := .milestone (.note h3)
  have h5 : Changes _ s s5 := .startPair h4
  exact .le (.parts [.supply] h5)

theorem backToLayup (h : Changes l₀ s₀ s) :
    Changes (l₀.append (raiseParts.append [.supply, .adc, .tide, .pgs, .rcs, .obs, .spm, .pair, .mem])) s₀ s.backToLayup :=
  .op h fun h => .flushLog (.enterMode (.forUnits h .raise))

theorem startFrom {wakeLow : Bool} {train : Nat} (h : Changes l₀ s₀ s) :
    Changes (l₀.append (allBut [.clock, .chargers, .dead, .rails, .railGroups, .ports, .kept, .draws])) s₀ (s.startFrom cause wakeLow train) := .andThen h fun h => by
  unfold State.startFrom
  extract_lets _ s1 _ s2 s3 f s4
  have h1 : Changes _ s s1 := .startAo (.parts [.img] h)
  have h2 : Changes _ s s2 := .cond (.commitCounters (.parts [.supply] h1)) h1
  have h3 : Changes _ s s3 := .trialEnd (.tornCheck h2)
  have h4 : Changes _ s f.1 := .pickSlot h3
  have h5 : Changes _ s s4 := h4
  refine .ite (.le (.enterPilot h1)) ?_
  split
  · exact .le (.enterPilot h4)
  · extract_lets s5 c s6
    have h6 : Changes _ s s5 := .trialStart (.parts [.img] h5)
    have h7 : Changes _ s c.1 := .pickSlot h6
    have h8 : Changes _ s s6 := h7
    split
    · exact .le (.enterPilot h7)
    · exact .le (.update (.startImage (.parts [.img] h8)) .backToLayup)

theorem endHeldFreeze (h : Changes l₀ s₀ s) : Changes (l₀.append [.log]) s₀ s.endHeldFreeze := .op h fun h => .cond (.endFreeze h) h
theorem restart {train : Nat} (h : Changes l₀ s₀ s) : Changes (l₀.append (allBut [.kept, .draws])) s₀ (s.restart cause train) :=
  .op h fun h => .startFrom (.fresh (.endHeldFreeze h))
theorem selfRestart (h : Changes l₀ s₀ s) :
    Changes (l₀.append [.supply, .mode, .insts, .engines, .stages, .phases, .feeds, .strs, .rails, .faults, .pair, .ports, .mem, .log, .img, .draws]) s₀ s.selfRestart :=
  .lastBreath h

/-! Two-wire ports and berths (chapter 14). -/

theorem busyFor {t : Rat} (h : Changes l₀ s₀ s) : Changes (l₀.append [.ports]) s₀ (s.busyFor p t) := .op h fun h => .cond (.setPort h) (.setPort h)
theorem completed {t : Rat} (h : Changes l₀ s₀ s) : Changes (l₀.append [.faults, .ports]) s₀ (s.completed p t) :=
  .op h fun h => .clearing (.setPort (.busyFor h))
theorem transacted {read : Bool} (h : Changes l₀ s₀ s) : Changes (l₀.append [.faults, .ports]) s₀ (s.transacted p n read) := .completed h
theorem depart (h : Changes l₀ s₀ s) : Changes (l₀.append (raiseParts.append [.spm, .berths, .ports, .cfg])) s₀ (s.depart b cause) :=
  .op h fun h => .raise (.note (.handbackWatch (.parts [.spm] (.setPort (.setBerth h)))))

theorem beginArrival {a : Arrival} (h : Changes l₀ s₀ s) : Changes (l₀.append [.faults, .berths, .ports]) s₀ (s.beginArrival b a) := .andThen h fun h => by
  unfold State.beginArrival
  extract_lets _ _ s1 s2 _ s3
  have h1 : Changes _ s s1 := .setBerth h
  have h2 : Changes _ s s2 := .completed h1
  have h3 : Changes _ s s3 := .setBerth h2
  refine .ite (.le h2) ?_
  split
  · exact .le (.cond (.setBerth h3) h3)
  · exact .le h3

theorem stray {a : Nat} (h : Changes l₀ s₀ s) : Changes (l₀.append [.ports, .log]) s₀ (s.stray p a) := .op h fun h => .note (.setPort h)
theorem spareOut (h : Changes l₀ s₀ s) : Changes (l₀.append (raiseParts.append [.ports])) s₀ (s.spareOut p) := .op h fun h => .raise (.setPort h)

theorem foundArp {a : Arrival} (h : Changes l₀ s₀ s) : Changes (l₀.append (raiseParts.append [.spm, .berths, .ports, .cfg])) s₀ (s.foundArp a) := .andThen h fun h => by
  unfold State.foundArp
  extract_lets _ s1
  have h1 : Changes (raiseParts.append [.spm, .berths, .ports, .cfg]) s s1 := by
    unfold s1
    split
    · exact .le (.depart h)
    · exact .le h
  split
  · exact .le (.beginArrival (.completed h1))
  · exact .le (.stray (.completed h1))
  · exact .le (.spareOut (.completed h1))

theorem foundFixed {disc : Bool} {a : Arrival} (h : Changes l₀ s₀ s) : Changes (l₀.append [.faults, .berths, .ports]) s₀ (s.foundFixed disc a) := .andThen h fun h => by
  unfold State.foundFixed
  split
  · exact .le (.beginArrival h)
  · exact .le h

theorem goOn_self {p n : Nat} {s : State} : Changes (raiseParts.append [.spm, .berths, .ports, .cfg]) s (s.goOn p n) := by
  induction n generalizing s with
  | zero => exact .le (.refl s)
  | succ n ih =>
    unfold State.goOn
    refine .ite (.le (.refl s)) ?_
    extract_lets
    split
    · exact .le ((Changes.update (.setPort (.refl s)) .foundArp).trans ih)
    · exact .le (.foldl (.setPort (.refl s)) .foundFixed)

theorem goOn (h : Changes l₀ s₀ s) : Changes (l₀.append (raiseParts.append [.spm, .berths, .ports, .cfg])) s₀ (s.goOn p n) := h.trans goOn_self

theorem forgetFailed (h : Changes l₀ s₀ s) : Changes (l₀.append [.berths]) s₀ (s.forgetFailed p) :=
  .op h fun h => .forUnits h fun h1 => .cond h1 (.setBerth h1)
theorem found {disc : Bool} {l : List Arrival} (h : Changes l₀ s₀ s) :
    Changes (l₀.append (raiseParts.append [.spm, .berths, .ports, .cfg])) s₀ (s.found p disc l) :=
  .op h fun h => .goOn (.setPort (.completed (.forgetFailed h)))

theorem clearSpare (h : Changes l₀ s₀ s) : Changes (l₀.append [.faults]) s₀ s.clearSpare := .andThen h fun h => by
  unfold State.clearSpare
  split
  · exact .le (.cond (.clearing h) h)
  · exact .le h

theorem discoveryDone (h : Changes l₀ s₀ s) : Changes (l₀.append (raiseParts.append [.spm, .berths, .ports, .cfg])) s₀ (s.discoveryDone p) :=
  .op h fun h => .update (.cond (.clearSpare (.setPort (.goOn h))) (.goOn h)) (fun h0 => .parts [.mode] h0)
theorem discover {l : List Arrival} (h : Changes l₀ s₀ s) : Changes (l₀.append (raiseParts.append [.spm, .berths, .ports, .cfg])) s₀ (s.discover p l) :=
  .op h fun h => .update (.cond (.busyFor (.setPort h)) (.setPort h)) .found
theorem consume (h : Changes l₀ s₀ s) : Changes (l₀.append (raiseParts.append [.spm, .rails, .cfg])) s₀ (s.consume b) :=
  .op h fun h => .cond (.raiseWith (.railPoll (.handbackWatch (.parts [.spm] h)))) (.clearing (.railPoll (.handbackWatch (.parts [.spm] h))))
theorem commitRun {r : Run} (h : Changes l₀ s₀ s) : Changes (l₀.append (raiseParts.append [.spm, .rails, .berths, .cfg])) s₀ (s.commitRun r) :=
  .op h fun h => .consume (.update (.clearing (.clearing (.setBerth h))) fun h1 => .clearing (.note (.setBerth h1)))

theorem failRun (h : Changes l₀ s₀ s) : Changes (l₀.append (raiseParts.append [.spm, .berths, .ports, .cfg])) s₀ (s.failRun p kind) := .andThen h fun h => by
  unfold State.failRun
  split
  · exact .le h
  · exact .le (.cond (.setPort h) (.discoveryDone (.update (.raise (.handbackWatch (.parts [.spm] (.setBerth (.setPort h))))) .depart)))

theorem setRun {r : Run} (h : Changes l₀ s₀ s) : Changes (l₀.append [.ports]) s₀ (s.setRun p r) := .setPort h
theorem busRead {r : Run} {ack pecOk : Bool} {t : Run} (h : Changes l₀ s₀ s) :
    Changes (l₀.append (raiseParts.append [.spm, .berths, .ports, .cfg])) s₀ (s.busRead p r n ack pecOk t) :=
  .op h fun h => .cond (.failRun (.busyFor h)) (.cond (.failRun (.busyFor h)) (.setRun (.transacted h)))
theorem wrote (h : Changes l₀ s₀ s) : Changes (l₀.append [.ports]) s₀ (s.wrote p cmd data) := .setPort h
theorem busWrite {r : Run} {ack : Bool} {t : Run} (h : Changes l₀ s₀ s) :
    Changes (l₀.append (raiseParts.append [.spm, .berths, .ports, .cfg])) s₀ (s.busWrite p r cmd data ack t) :=
  .op h fun h => .cond (.failRun (.busyFor h)) (.setRun (.wrote (.transacted h)))
theorem setPage {page : Nat} (h : Changes l₀ s₀ s) : Changes (l₀.append [.berths]) s₀ (s.setPage b page) := .setBerth h

theorem runFree (h : Changes l₀ s₀ s) : Changes (l₀.append (raiseParts.append [.spm, .berths, .ports, .cfg, .draws])) s₀ (s.runFree p op) := .andThen h fun h => by
  unfold State.runFree
  split
  · exact .le h
  · extract_lets s1
    have h1 : Changes _ s s1 := .parts [.draws] h
    split
    · exact .le (.setRun h1)
    · exact .le (.failRun h1)

theorem takeWork {w : Work} (h : Changes l₀ s₀ s) : Changes (l₀.append [.ports]) s₀ (s.takeWork p w) := .setPort h
theorem takeRun (h : Changes l₀ s₀ s) : Changes (l₀.append [.berths, .ports]) s₀ (s.takeRun p b) := .op h fun h => .setBerth (.takeWork (.setPort h))

theorem cutRun (h : Changes l₀ s₀ s) : Changes (l₀.append [.berths, .ports]) s₀ (s.cutRun p) := .andThen h fun h => by
  unfold State.cutRun
  split
  · exact .le h
  · exact .le (.setBerth (.setPort h))

theorem dropForeign (h : Changes l₀ s₀ s) : Changes (l₀.append [.ports]) s₀ (s.dropForeign p) := .andThen h fun h => by
  unfold State.dropForeign
  split
  · exact .le (.cond h (.setPort h))
  · exact .le h

theorem cmdFailed {c : PCmd} (h : Changes l₀ s₀ s) : Changes (l₀.append (raiseParts.append [.berths, .ports])) s₀ (s.cmdFailed p c) :=
  .op h fun h => .cond (.setPort h) (.raise (.setBerth (.setPort h)))
theorem pageZero (h : Changes l₀ s₀ s) : Changes (l₀.append [.faults, .berths, .ports]) s₀ (s.pageZero p b) :=
  .op h fun h => .setPage (.wrote (.transacted h))
theorem cmdDone {c : PCmd} (h : Changes l₀ s₀ s) : Changes (l₀.append [.faults, .berths, .ports]) s₀ (s.cmdDone p c v) :=
  .op h fun h => .setBerth (.setPort (.update (.transacted h) .wrote))
theorem sendCmd {c : PCmd} {ack pecOk : Bool} (h : Changes l₀ s₀ s) :
    Changes (l₀.append (raiseParts.append [.berths, .ports])) s₀ (s.sendCmd p c ack pecOk v) :=
  .op h fun h => .cond (.cond (.pageZero h) (.cmdFailed h)) (.cond (.cmdDone h) (.cmdFailed h))

theorem finishLeaving (h : Changes l₀ s₀ s) : Changes (l₀.append (allBut [.kept, .draws])) s₀ s.finishLeaving := .andThen h fun h => by
  unfold State.finishLeaving
  split
  · exact .le (.cond (.restart (.parts [.cfg] (.releaseOwn h))) h)
  · exact .le h

theorem failTransaction (h : Changes l₀ s₀ s) : Changes (l₀.append (raiseParts.append [.spm, .berths, .ports, .cfg])) s₀ (s.failTransaction p) := .andThen h fun h => by
  unfold State.failTransaction
  split
  · split
    · exact .le (.cmdFailed h)
    · exact .le (.takeWork h)
  · exact .le (.failRun h)
  · exact .le (.takeWork h)

theorem applyBerthDisable (h : Changes l₀ s₀ s) : Changes (l₀.append (raiseParts.append [.spm, .berths, .ports, .cfg])) s₀ (s.applyBerthDisable b) :=
  .op h fun h => .cond (.depart (.setObjN h)) (.setBerth (.setObjN h))

theorem alertBerth (h : Changes l₀ s₀ s) : Changes (l₀.append [.berths, .ports]) s₀ (s.alertBerth p addr) := .andThen h fun h => by
  unfold State.alertBerth
  split
  · exact .le (.setBerth (.setPort h))
  · exact .le h

theorem targetTakes (h : Changes l₀ s₀ s) : Changes (l₀.append [.mode]) s₀ (s.targetTakes p) := .parts [.mode] h
theorem busyTarget {m : TargetMsg} (h : Changes l₀ s₀ s) : Changes (l₀.append [.ports]) s₀ (s.busyTarget p m) :=
  .op h fun h => .cond (.setPort h) (.setPort h)
theorem lateNack (h : Changes l₀ s₀ s) : Changes (l₀.append [.ports]) s₀ (s.lateNack p) := .setPort h
theorem messageServed (h : Changes l₀ s₀ s) : Changes (l₀.append [.mode, .faults, .mem]) s₀ s.messageServed :=
  .op h fun h => .cond (.parts [.mode] (.serveRegions h)) h
theorem takeNotify {data : Nat} (h : Changes l₀ s₀ s) : Changes (l₀.append [.berths, .ports]) s₀ (s.takeNotify p addr data) :=
  .op h fun h => .alertBerth (.setPort h)
theorem takeBlock {pecOk : Bool} (h : Changes l₀ s₀ s) : Changes (l₀.append [.ports]) s₀ (s.takeBlock p cmd data pecOk) :=
  .op h fun h => .cond (.setPort h) h
theorem answerRead (h : Changes l₀ s₀ s) : Changes (l₀.append [.ports]) s₀ (s.answerRead p) := .setPort h

theorem endStretch (h : Changes l₀ s₀ s) : Changes (l₀.append [.berths, .ports]) s₀ (s.endStretch p) := .andThen h fun h => by
  unfold State.endStretch
  dsimp only
  split
  · exact .le (.takeNotify (.setPort h))
  · exact .le (.takeBlock (.setPort h))
  · exact .le (.answerRead (.setPort h))
  · exact .le (.setPort h)

theorem heardOn {r : Run} (h : Changes l₀ s₀ s) : Changes (l₀.append (raiseParts.append [.spm, .rails, .berths, .ports, .cfg])) s₀ (s.heardOn p r) := .andThen h fun h => by
  unfold State.heardOn
  extract_lets _ s1
  have h1 : Changes _ s s1 := .setPort h
  split
  · exact .le h1
  · split
    · exact .le (.cond (.commitRun h1) (.setPort h1))
    · exact .le h1

theorem hear {write : Bool} (h : Changes l₀ s₀ s) :
    Changes (l₀.append (raiseParts.append [.spm, .rails, .berths, .ports, .cfg])) s₀ (s.hear p b cmd write data) := .andThen h fun h => by
  unfold State.hear
  dsimp only
  split
  · split
    · exact .le (.heardOn (.cond (.setPage h) h))
    · split
      · exact .le (.heardOn (.cond (.setPage h) h))
      · exact .le (.setPort (.cond (.setPage h) h))
  · split
    · exact .le (.heardOn (.cond (.setPage h) h))
    · exact .le (.cond (.setPage h) h)

theorem joinCheck (h : Changes l₀ s₀ s) : Changes (l₀.append [.mode]) s₀ s.joinCheck := .op h fun h => .cond (.milestone h) h

/-! How strings join (chapter 02). -/

theorem prechargeRest (h : Changes l₀ s₀ s) : Changes (l₀.append [.strs, .faults]) s₀ (s.prechargeRest k) :=
  .op h fun h => .cond (.cond (.setStr h) (.cond (.restPoint h) h)) h
theorem startPrecharge (h : Changes l₀ s₀ s) : Changes (l₀.append [.strs, .faults]) s₀ (s.startPrecharge k) :=
  .op h fun h => .setStr (.clearing (.prechargeRest h))

theorem beginPrecharge (h : Changes l₀ s₀ s) : Changes (l₀.append [.strs, .faults]) s₀ (s.beginPrecharge n) := .andThen h fun h => by
  unfold State.beginPrecharge
  split
  · exact .le (.forUnits h .startPrecharge)
  · exact .le h

theorem connect (h : Changes l₀ s₀ s) : Changes (l₀.append [.mode, .insts, .engines, .stages, .phases, .strs, .faults]) s₀ (s.connect k) :=
  .op h fun h => .autoStart (.clearing (.setStr h))
theorem beginJoining (h : Changes l₀ s₀ s) : Changes (l₀.append [.mode, .insts, .engines, .stages, .phases, .strs, .faults]) s₀ s.beginJoining :=
  .op h fun h => .beginPrecharge (.forUnits h .autoStart)

/-! The Kopol link and the pair (chapter 12). -/

theorem claim (h : Changes l₀ s₀ s) : Changes (l₀.append [.pair]) s₀ s.claim := .parts [.pair] h
theorem setReady (h : Changes l₀ s₀ s) : Changes (l₀.append [.pair]) s₀ s.setReady := .parts [.pair] h
theorem followDescent (h : Changes l₀ s₀ s) :
    Changes (l₀.append (raiseParts.append [.supply, .adc, .tide, .pgs, .rcs, .obs, .spm, .railGroups, .pair, .mem])) s₀ s.followDescent :=
  .beginDescent h
theorem outputsLow (h : Changes l₀ s₀ s) : Changes (l₀.append [.phases, .feeds, .strs]) s₀ s.outputsLow :=
  .op h fun h => .forUnits (.forUnits (.forUnits h .setPhase) .setFeed) .setStr
theorem takePhase (h : Changes l₀ s₀ s) : Changes (l₀.append [.phases]) s₀ (s.takePhase n p) := .setPhase h
theorem takeOutputs (h : Changes l₀ s₀ s) : Changes (l₀.append [.stages, .phases, .feeds, .strs]) s₀ s.takeOutputs :=
  .op h fun h => .forUnits (.forUnits (.forUnits h fun h1 => .engageHold (.forUnits h1 .takePhase)) .setFeed) .setStr
theorem takeShelf (h : Changes l₀ s₀ s) :
    Changes (l₀.append (raiseParts.append [.supply, .adc, .tide, .pgs, .rcs, .obs, .spm, .dead, .pair, .mem])) s₀ (s.takeShelf cause) :=
  .op h fun h => .cond (.parts [.dead] (.enterMode h)) (.elseThen (.enterActive h) fun h1 => .parts [.spm] (.cond h1 (.enterMode h1)))
theorem lockStep {err : Rat} (h : Changes l₀ s₀ s) : Changes (l₀.append (raiseParts.append [.pair, .draws])) s₀ (s.lockStep err) :=
  .op h fun h => .cond (.raise (.parts [.pair] h)) (.update (.parts [.pair] (.draw h)) .clearing)

theorem sameDigest (h : Changes l₀ s₀ s) : Changes (l₀.append [.draws]) s₀ s.sameDigest.2 := .andThen h fun h => by
  unfold State.sameDigest
  split
  · exact .le (.drawBool h)
  · exact .le h

theorem dualClaim (h : Changes l₀ s₀ s) :
    Changes (l₀.append (allBut [.clock, .chargers, .dead, .rails, .thermal, .berths, .img, .cfg, .kept])) s₀ s.dualClaim := .andThen h fun h => by
  unfold State.dualClaim
  refine .ite ?_ (.le h)
  extract_lets _ _ s1 _ s2
  have h1 : Changes _ s s1 := .releaseOwn (.sameDigest h)
  have h2 : Changes _ s s2 := .parts [.pair] h1
  refine .ite ?_ (.le (.cond (.enterMode (.outputsLow h2)) h2))
  exact .le (.cond (.enterMode (.outputsLow h2)) (.beginDescent (.supersedeRequest (.outputsSafe h2))))

theorem pairReach (h : Changes l₀ s₀ s) : Changes (l₀.append [.log, .img]) s₀ (s.pairReach n) := .op h fun h => .imageNote (.parts [.img] h)
theorem applyHandover (h : Changes l₀ s₀ s) : Changes (l₀.append [.pair]) s₀ s.applyHandover := .parts [.pair] h

theorem pairProgress (h : Changes l₀ s₀ s) :
    Changes (l₀.append [.supply, .mode, .insts, .engines, .stages, .phases, .feeds, .strs, .rails, .faults, .pair, .ports, .mem, .log, .img, .draws]) s₀ (s.pairProgress hb) := .andThen h fun h => by
  unfold State.pairProgress
  extract_lets s1 s2
  have h1 : Changes _ s s1 := .cond (.pairReach h) h
  have h2 : Changes _ s s2 := .cond (.pairReach (.applyHandover h1)) h1
  exact .le (.cond (.selfRestart (.pairReach h2)) (.cond (.pairReach h2) h2))

theorem sendSnapshot (h : Changes l₀ s₀ s) : Changes (l₀.append [.pair]) s₀ s.sendSnapshot := .op h fun h => .parts [.pair] (.sendFrame h)

theorem holderHears (h : Changes l₀ s₀ s) : Changes (l₀.append [.pair]) s₀ (s.holderHears hb) := .andThen h fun h => by
  unfold State.holderHears
  extract_lets _ s1 _ _ _ s2
  have h1 : Changes _ s s1 := .cond (.parts [.pair] h) h
  have h2 : Changes _ s s2 := .parts [.pair] h1
  exact .le (.cond (.parts [.pair] h2) (.cond h2 (.cond (.parts [.pair] h2) (.sendSnapshot h2))))

theorem followGate {g : Bool} (h : Changes l₀ s₀ s) : Changes (l₀.append [.feeds]) s₀ (s.followGate f g) :=
  .op h fun h => .cond h (.updatePg (.setFeed h))
theorem followerHears {err : Rat} (h : Changes l₀ s₀ s) :
    Changes (l₀.append (raiseParts.append [.supply, .adc, .tide, .pgs, .rcs, .obs, .spm, .railGroups, .pair, .mem, .draws])) s₀ (s.followerHears hb err) :=
  .op h fun h => .update (.setReady (.lockStep (.forUnits (.parts [.pair] h) .followGate))) .followDescent

theorem takeHeartbeat {err : Rat} (h : Changes l₀ s₀ s) :
    Changes (l₀.append (allBut [.clock, .chargers, .dead, .thermal, .berths, .cfg, .kept])) s₀ (s.takeHeartbeat hb err) := .andThen h fun h => by
  unfold State.takeHeartbeat
  extract_lets _ s1 s2 s3
  have h1 : Changes _ s s1 := .parts [.pair] h
  have h2 : Changes _ s s2 := .clearing (.clearing h1)
  have h3 : Changes _ s s3 := .cond (.dualClaim h2) (.cond (.holderHears h2) (.cond (.followerHears h2) h2))
  exact .le (.pairProgress h3)

theorem seqIn {ok : Bool} (h : Changes l₀ s₀ s) : Changes (l₀.append [.pair]) s₀ (s.seqIn c seq ok).1 := .andThen h fun h => by
  unfold State.seqIn
  split
  · exact .le (.parts [.pair] h)
  · exact .le (.parts [.pair] h)

theorem frameIn {type : Nat} {hd : FrameHead} {crcOk : Bool} (h : Changes l₀ s₀ s) : Changes (l₀.append [.pair]) s₀ (s.frameIn c type hd crcOk).1 :=
  .seqIn h
theorem elect {wins : Bool} (h : Changes l₀ s₀ s) : Changes (l₀.append [.mode, .pair, .draws]) s₀ (s.elect wins) :=
  .op h fun h => .milestone (.parts [.pair] (.update (.parts [.pair] (.drawBool h)) .claim))

theorem followStep (h : Changes l₀ s₀ s) : Changes (l₀.append [.mode, .insts, .engines, .stages, .phases, .faults]) s₀ (s.followStep st j) := .andThen h fun h => by
  unfold State.followStep
  split
  · exact .le (.startStage h)
  · exact .le (.setStage (.prebias h))
  · exact .le (.setStage (.prebiasLoad h))
  · exact .le (.beginRamp h)
  · exact .le (.setStage h)

theorem followPhases {on : Bool} {n : StageNews} (h : Changes l₀ s₀ s) : Changes (l₀.append [.phases, .obs]) s₀ (s.followPhases st on n) :=
  .op h fun h => .forUnits h fun h1 => .setPhase (.cond (.setObserver h1) h1)
theorem followAngles {set : Nat} (h : Changes l₀ s₀ s) : Changes (l₀.append [.stages, .phases]) s₀ (s.followAngles st set) :=
  .op h fun h => .setStage (.foldl h .setPhase)

theorem takeNews {n : StageNews} (h : Changes l₀ s₀ s) :
    Changes (l₀.append [.mode, .insts, .engines, .stages, .phases, .obs, .faults]) s₀ (s.takeNews st n) := .andThen h fun h => by
  unfold State.takeNews
  refine .ite (.le (.followPhases (.stopStage h))) ?_
  extract_lets _ s1 _ s2 s3 _ s4 s5 _ s6
  have h1 : Changes _ s s1 := .followPhases h
  have h2 : Changes _ s s2 := .forUnits h1 .followStep
  have h3 : Changes _ s s3 := .cond (.followAngles h2) h2
  have h4 : Changes [.mode, .insts, .engines, .stages, .phases, .obs, .faults] s s4 := by
    unfold s4
    split
    · exact .le h3
    · exact .le (.setObserver h3)
  have h5 : Changes _ s s5 := .foldl h4 .setObsPhase
  have h6 : Changes _ s s6 := .setObserver h5
  exact .le (.setStage h6)

theorem joinStage {n : StageNews} (h : Changes l₀ s₀ s) : Changes (l₀.append [.insts, .stages, .phases, .obs]) s₀ (s.joinStage st n) :=
  .op h fun h => .setStage (.foldl (.followPhases (.forUnits h .setInst)) .setPhase)
theorem dueNews (h : Changes l₀ s₀ s) : Changes (l₀.append [.mode, .insts, .engines, .stages, .phases, .obs, .rails, .faults]) s₀ (s.dueNews st) :=
  .op h fun h => .foldl (.setStage h) fun h1 => .cond (.railsFollow (.takeNews h1)) h1
theorem rcFollow {ph T : Rat} (h : Changes l₀ s₀ s) : Changes (l₀.append (raiseParts.append [.rcs])) s₀ (s.rcFollow n ph T) :=
  .op h fun h => .setRc (.cond h (.cond (.cond (.rcUnlock h) h) (.cond h (.clearing (.cond (.rcApply h) (.rcFresh h))))))
theorem takeSpm {m : Spm} (h : Changes l₀ s₀ s) : Changes (l₀.append [.spm, .cfg]) s₀ (s.takeSpm m) :=
  .op h fun h => .forUnits (.parts [.spm] h) .setWindow
theorem takeWindows {l : List SlackNews} (h : Changes l₀ s₀ s) : Changes (l₀.append [.strs]) s₀ (s.takeWindows l) :=
  .op h fun h => .forUnits h .setStr

theorem takeTrack {m : TrackMsg} (h : Changes l₀ s₀ s) :
    Changes (l₀.append (raiseParts.append [.pgs, .rcs, .obs, .spm, .chargers, .dead, .rails, .pair, .cfg])) s₀ (s.takeTrack m) := .andThen h fun h => by
  unfold State.takeTrack
  split
  · exact .le (.dueNews (.parts [.stages] h))
  · exact .le (.setPg h)
  · exact .le (.rcFollow h)
  · exact .le (.takeWindows (.takeSpm h))
  · exact .le (.setStr h)
  · exact .le (.setCharger h)
  · exact .le (.parts [.dead] h)
  · exact .le (.parts [.pair, .net] (.settleTime h))

theorem keepEarly {k : Option Nat} {b : KopolBody} (h : Changes l₀ s₀ s) : Changes (l₀.append [.pair]) s₀ (s.keepEarly k b) := .parts [.pair] h

theorem takeAlign {items : List AlignItem} (h : Changes l₀ s₀ s) : Changes (l₀.append [.insts, .pair]) s₀ (s.takeAlign k items) := .andThen h fun h => by
  unfold State.takeAlign
  refine .ite (.le (.parts [.pair] h)) ?_
  split
  · exact .le h
  · exact .le (.parts [.pair] (.foldl h .setInst))

theorem takeCommon {key : Nat} (h : Changes l₀ s₀ s) : Changes (l₀.append [.spm, .net, .cfg]) s₀ (s.takeCommon key data) :=
  .op h fun h => .cond (.applyTimeSet h) (.cond (.applyPhase h) (.cond (.applyTraceable h) (.cond (.applyShareTrim h) (.cond (.setObj h) h))))
theorem dueMirrors (h : Changes l₀ s₀ s) : Changes (l₀.append [.spm, .pair, .net, .cfg]) s₀ (s.dueMirrors k) :=
  .op h fun h => .foldl (.parts [.pair] h) .takeCommon
theorem takeMirror {key : Nat} (h : Changes l₀ s₀ s) : Changes (l₀.append [.spm, .pair, .net, .cfg]) s₀ (s.takeMirror k key data) :=
  .op h fun h => .cond (.parts [.pair] h) (.takeCommon h)
theorem tryTrack (h : Changes l₀ s₀ s) : Changes (l₀.append (raiseParts.append [.supply, .adc, .tide, .pgs, .rcs, .obs, .spm, .pair, .mem])) s₀ s.tryTrack :=
  .op h fun h => .cond (.setReady (.enterMode h)) h

theorem takeEarly (h : Changes l₀ s₀ s) :
    Changes (l₀.append (raiseParts.append [.pgs, .rcs, .obs, .spm, .chargers, .dead, .rails, .pair, .cfg])) s₀ (s.takeEarly k) := .andThen h fun h => by
  unfold State.takeEarly
  dsimp only
  refine .le (.foldl (b := (raiseParts.append [.pgs, .rcs, .obs, .spm, .chargers, .dead, .rails, .pair, .cfg])) (.parts [.pair] h) fun {t _} h1 => ?_)
  split
  · exact .le (.takeTrack h1)
  · exact .le (.takeMirror h1)
  · exact .le h1

theorem takeCommons {l : List (Nat × List Byte)} (h : Changes l₀ s₀ s) : Changes (l₀.append [.spm, .net, .cfg]) s₀ (s.takeCommons l) :=
  .op h fun h => .foldl (.parts [.cfg] h) .takeCommon

theorem takeSnapshot {p : Snapshot} (h : Changes l₀ s₀ s) :
    Changes (l₀.append (raiseParts.append [.pgs, .rcs, .obs, .spm, .chargers, .dead, .rails, .pair, .cfg])) s₀ (s.takeSnapshot p) := .andThen h fun h => by
  unfold State.takeSnapshot
  extract_lets _ s1 s2 s3 s4 _ _ s5 s6 _ s7
  have h1 : Changes _ s s1 := .parts [.insts, .pgs, .rcs, .obs, .chargers, .dead] h
  have h2 : Changes _ s s2 := .takeWindows (.takeSpm h1)
  have h3 : Changes _ s s3 := .forUnits h2 .setStr
  have h4 : Changes _ s s4 := .takeCommons h3
  have h5 : Changes _ s s5 := .forUnits h4 fun h6 => .railsFollow (.cond (.takeNews h6) (.joinStage h6))
  have h7 : Changes _ s s6 := .forUnits h5 fun h8 => .railsFollow (.followPhases (.cond (.stopStage h8) (.setStage h8)))
  have h9 : Changes _ s s7 := .parts [.pair] h7
  exact .le (.takeEarly h9)

theorem applySnapshot {p : Snapshot} (h : Changes l₀ s₀ s) :
    Changes (l₀.append (allBut [.clock, .railGroups, .thermal, .berths, .ports, .img, .kept, .draws])) s₀ (s.applySnapshot p) :=
  .op h fun h => .cond (.tryTrack (.setReady (.takeSnapshot h))) (.parts [.pair] h)

theorem applyHeld (h : Changes l₀ s₀ s) : Changes (l₀.append (allBut [.clock, .railGroups, .thermal, .berths, .ports, .img, .kept, .draws])) s₀ s.applyHeld := .andThen h fun h => by
  unfold State.applyHeld
  split
  · exact .le (.applySnapshot h)
  · exact .le (.tryTrack h)

theorem takeover (h : Changes l₀ s₀ s) :
    Changes (l₀.append (allBut [.clock, .chargers, .rails, .railGroups, .thermal, .berths, .ports, .cfg, .kept])) s₀ s.takeover :=
  .op h fun h => .emcyOf (.trigEvent (.record (.takeShelf (.parts [.pair] (.parts [.img] (.claim (.takeOutputs (.supersedeRequest (.draw h)))))))))
theorem selfRelease (h : Changes l₀ s₀ s) : Changes (l₀.append [.pair, .ports, .log]) s₀ (s.selfRelease reason) :=
  .op h fun h => .cond (.parts [.pair] (.releaseOwn h)) h
theorem tripAfterRelease (h : Changes l₀ s₀ s) : Changes (l₀.append [.mode, .pair]) s₀ s.tripAfterRelease :=
  .op h fun h => .cond (.parts [.mode, .pair] h) h
theorem cancelHandover (h : Changes l₀ s₀ s) : Changes (l₀.append [.pair]) s₀ s.cancelHandover := .op h fun h => .cond (.parts [.pair] h) h

/-! Images and their updates (chapter 17). -/

theorem beginUpdate {size : Nat} (h : Changes l₀ s₀ s) : Changes (l₀.append [.log, .img]) s₀ (s.beginUpdate kind size) :=
  .op h fun h => .imageNote (.parts [.img] h)
theorem commitUpdate {content : Image} (h : Changes l₀ s₀ s) : Changes (l₀.append [.log, .img]) s₀ (s.commitUpdate content) :=
  .op h fun h => .imageNote (.parts [.img] h)
theorem checkReads {bad : List Nat} {corrected : Nat} (h : Changes l₀ s₀ s) :
    Changes (l₀.append (raiseParts.append [.supply, .thermal, .mem, .img])) s₀ (s.checkReads bad corrected) :=
  .op h fun h => .forUnits (.parts [.mem] h) .uncorrectableWord
theorem leavePilot {train : Nat} (h : Changes l₀ s₀ s) : Changes (l₀.append (allBut [.kept, .draws])) s₀ (s.leavePilot train) := .restart h
theorem undoUpdate (h : Changes l₀ s₀ s) : Changes (l₀.append [.net, .log, .img]) s₀ s.undoUpdate :=
  .op h fun h => .cond (.imageNote (.parts [.img] (.dropImageTransfers h))) h
theorem abortUpdate (h : Changes l₀ s₀ s) : Changes (l₀.append [.net, .log, .img]) s₀ s.abortUpdate := .op h fun h => .parts [.img] (.undoUpdate h)

theorem confirmTrial (h : Changes l₀ s₀ s) : Changes (l₀.append [.img]) s₀ s.confirmTrial := .andThen h fun h => by
  unfold State.confirmTrial
  split
  · exact .le h
  · exact .le (.cond (.parts [.img] h) h)

theorem loadIdleBanks (h : Changes l₀ s₀ s) : Changes (l₀.append [.tide, .img]) s₀ s.loadIdleBanks := .parts [.tide, .img] h
theorem applyHitless (h : Changes l₀ s₀ s) : Changes (l₀.append [.tide, .log, .img]) s₀ s.applyHitless :=
  .op h fun h => .elseThen (.imageNote (.parts [.img] h)) .loadIdleBanks
theorem hitlessRefused (h : Changes l₀ s₀ s) : Changes (l₀.append [.tide, .img]) s₀ s.hitlessRefused := .parts [.tide, .img] h
theorem undoHitless (h : Changes l₀ s₀ s) : Changes (l₀.append [.tide, .log, .img]) s₀ s.undoHitless :=
  .op h fun h => .cond (.imageNote (.parts [.tide, .img] h)) (.parts [.img] h)
theorem gapEnd (h : Changes l₀ s₀ s) : Changes (l₀.append [.strs, .chargers, .img]) s₀ s.gapEnd :=
  .op h fun h => .parts [.img] (.forUnits h fun h1 => .setCharger (.setEst h1))
theorem failTrial (h : Changes l₀ s₀ s) : Changes (l₀.append [.log, .img]) s₀ s.failTrial :=
  .op h fun h => .cond (.cond (.imageNote (.parts [.img] h)) (.parts [.img] h)) h
theorem finishHitless (h : Changes l₀ s₀ s) : Changes (l₀.append [.faults, .img, .cfg]) s₀ s.finishHitless :=
  .op h fun h => .cond (.parts [.faults, .img, .cfg] h) h
theorem applyPairUpdate (h : Changes l₀ s₀ s) : Changes (l₀.append [.pair, .log, .img]) s₀ s.applyPairUpdate :=
  .op h fun h => .cond (.pairReach (.applyHandover (.parts [.img] h))) (.pairReach (.sendFrame (.parts [.img] (.parts [.img] h))))
theorem undoPairUpdate (h : Changes l₀ s₀ s) : Changes (l₀.append [.pair, .log, .img]) s₀ s.undoPairUpdate :=
  .op h fun h => .cond (.pairReach (.sendFrame (.parts [.img] (.cancelHandover (.parts [.img] h))))) (.parts [.img] h)
theorem applyKey (h : Changes l₀ s₀ s) : Changes (l₀.append [.img]) s₀ (s.applyKey i data) := .parts [.img] h

/-! Closing sessions and ports (chapter 13). -/

theorem endUpdateOf {l : List Transfer} (h : Changes l₀ s₀ s) : Changes (l₀.append [.net, .log, .img]) s₀ (s.endUpdateOf l) :=
  .op h fun h => .cond (.undoUpdate h) h

theorem closeNireo (h : Changes l₀ s₀ s) : Changes (l₀.append [.net, .log, .img]) s₀ (s.closeNireo n) := .andThen h fun h => by
  unfold State.closeNireo
  split
  · exact .le h
  · exact .le (.parts [.net] (.freezeSessionClosed (.endUpdateOf h)))

theorem closePort (h : Changes l₀ s₀ s) : Changes (l₀.append [.net, .log, .img]) s₀ (s.closePort port) := .op h fun h => .forUnits h .closeNireo

theorem dropSdo (h : Changes l₀ s₀ s) : Changes (l₀.append [.net, .log, .img]) s₀ (s.dropSdo p v) := .andThen h fun h => by
  unfold State.dropSdo
  split
  · exact .le h
  · exact .le (.setSession (.endUpdateOf h))

theorem dropLevel (h : Changes l₀ s₀ s) : Changes (l₀.append [.net]) s₀ (s.dropLevel ch) := .andThen h fun h => by
  unfold State.dropLevel
  split
  · exact .le (.setSession h)
  · exact .le h

theorem dropSdos (h : Changes l₀ s₀ s) : Changes (l₀.append [.net, .log, .img]) s₀ (s.dropSdos p) := .op h fun h => .forUnits h .dropSdo
theorem preOperational (h : Changes l₀ s₀ s) : Changes (l₀.append [.net]) s₀ (s.preOperational p) := .op h fun h => .sendCan (.setCan h)
theorem canStart (h : Changes l₀ s₀ s) : Changes (l₀.append [.net]) s₀ (s.canStart p) := .op h fun h => .preOperational (.setCan h)
theorem canUp (h : Changes l₀ s₀ s) : Changes (l₀.append [.net]) s₀ s.canUp := .op h fun h => .forUnits h .canStart
theorem canBack (h : Changes l₀ s₀ s) : Changes (l₀.append [.net]) s₀ s.canBack := .op h fun h => .forUnits h .preOperational
theorem canDown (h : Changes l₀ s₀ s) : Changes (l₀.append [.net, .log, .img]) s₀ s.canDown :=
  .op h fun h => .forUnits h fun h1 => .closePort (.dropSdos (.setCan h1))
theorem setPortFaults {u : Nat} {l : List Nat} (h : Changes l₀ s₀ s) : Changes (l₀.append [.net]) s₀ (s.setPortFaults u l) :=
  .op h fun h => .cond (.setEth h) (.setCan h)
theorem portFault {u : Nat} (h : Changes l₀ s₀ s) : Changes (l₀.append raiseParts) s₀ (s.portFault u detail data) :=
  .op h fun h => .raiseWith (.setPortFaults h)
theorem portFaultEnd {u : Nat} (h : Changes l₀ s₀ s) : Changes (l₀.append [.faults, .net]) s₀ (s.portFaultEnd u detail) :=
  .op h fun h => .cond (.update (.setPortFaults h) .clearing) h
theorem ethStart (h : Changes l₀ s₀ s) : Changes (l₀.append [.net]) s₀ (s.ethStart p) := .setEth h
theorem ethUp (h : Changes l₀ s₀ s) : Changes (l₀.append [.net]) s₀ s.ethUp := .op h fun h => .forUnits h .ethStart
theorem networksDown (h : Changes l₀ s₀ s) : Changes (l₀.append [.net, .ports, .log, .img]) s₀ s.networksDown := .andThen h fun h => by
  unfold State.networksDown
  extract_lets s1
  have h1 : Changes _ s s1 := .closePort (.closePort (.closePort (.canDown h)))
  clear_value s1
  exact .le (.parts [.ports] h1)

/-! Modes (chapter 02). -/

theorem mooredStep (h : Changes l₀ s₀ s) : Changes (l₀.append [.strs]) s₀ (s.mooredStep k) :=
  .op h fun h => .setStr (.setEst (.report (.count (.setStr h))))
theorem mooredSteps (h : Changes l₀ s₀ s) : Changes (l₀.append [.strs]) s₀ s.mooredSteps := .op h fun h => .forUnits h .mooredStep
theorem restartPair (h : Changes l₀ s₀ s) : Changes (l₀.append [.pair]) s₀ s.restartPair := .parts [.pair] h
theorem memStarts {was : Bool} (h : Changes l₀ s₀ s) : Changes (l₀.append (raiseParts.append [.mem, .draws])) s₀ (s.memStarts was) :=
  .op h fun h => .cond (.startMem (.draw h)) h

theorem enterLockout (h : Changes l₀ s₀ s) :
    Changes (l₀.append (raiseParts.append [.supply, .adc, .tide, .pgs, .rcs, .obs, .spm, .pair, .ports, .mem, .draws])) s₀ s.enterLockout :=
  .op h fun h => .memStarts (.enterMode (.parts [.mode, .mem] (.supersedeRequest (.releaseOwn (.outputsSafe h)))))

theorem leaveMoored (h : Changes l₀ s₀ s) : Changes (l₀.append (raiseParts.append [.tide, .pair, .mem, .draws])) s₀ s.leaveMoored :=
  .op h fun h => .update (.ethUp (.canUp (.restartPair (.parts [.mode, .tide] (.mooredSteps h))))) fun h1 => .memStarts (.setRegion h1)
theorem enterRise (h : Changes l₀ s₀ s) : Changes (l₀.append (allBut [.clock, .chargers, .berths, .ports, .img, .cfg, .kept])) s₀ (s.enterRise cause) :=
  .op h fun h => .startRises (.forUnits (.forUnits (.seeEstop (.enterMode (.parts [.mode, .dead] (.cond (.leaveMoored h) h)))) .reraiseString) .setStr)
theorem toRise (h : Changes l₀ s₀ s) : Changes (l₀.append (allBut [.clock, .chargers, .berths, .ports, .img, .cfg, .kept])) s₀ (s.toRise cause) :=
  .op h fun h => .cond (.parts [.mode] h) (.enterRise h)
theorem discoverAll {l : List Arrival} (h : Changes l₀ s₀ s) : Changes (l₀.append (raiseParts.append [.spm, .berths, .ports, .cfg])) s₀ (s.discoverAll l) :=
  .op h fun h => .update (.forUnits (.forUnits h .discover) .discoveryDone) (fun h0 => .parts [.mode] h0)
theorem commonPulse (h : Changes l₀ s₀ s) : Changes (l₀.append [.tide, .stages]) s₀ s.commonPulse :=
  .op h fun h => .cond h (.parts [.tide, .stages] h)
theorem endPrecharge (h : Changes l₀ s₀ s) : Changes (l₀.append raiseParts) s₀ (s.endPrecharge k) :=
  .op h fun h => .cond (.setStr h) (.cond (.clearing (.setStr h)) (.shedString (.raise (.setStr h))))

theorem seeNet (h : Changes l₀ s₀ s) : Changes (l₀.append [.pair, .draws]) s₀ s.seeNet.1 := .andThen h fun h => by
  unfold State.seeNet
  split
  · exact .le h
  · exact .le (.parts [.pair] (.drawBool h))

theorem enterService (h : Changes l₀ s₀ s) :
    Changes (l₀.append (raiseParts.append [.supply, .adc, .tide, .pgs, .rcs, .obs, .spm, .pair, .mem, .draws])) s₀ s.enterService :=
  .op h fun h => .commonPulse (.enterMode (.outputsSafe (.cond (.leaveMoored h) h)))
theorem leaveService {train : Nat} (h : Changes l₀ s₀ s) : Changes (l₀.append (allBut [.kept, .draws])) s₀ (s.leaveService train) :=
  .op h fun h => .finishLeaving (.parts [.mode] (.endMargins h))
theorem beginLayup (h : Changes l₀ s₀ s) : Changes (l₀.append [.mode, .dead]) s₀ s.beginLayup :=
  .op h fun h => .cond (.setRegion (.setRegion (.setRegion (.parts [.dead] h)))) (.parts [.dead] h)
theorem lowerKept (h : Changes l₀ s₀ s) : Changes (l₀.append [.mode, .dead, .rails, .railGroups]) s₀ s.lowerKept :=
  .op h fun h => .forUnits (.beginLayup h) .startLower

theorem applyRequest {train : Nat} (h : Changes l₀ s₀ s) : Changes (l₀.append (allBut [.kept])) s₀ (s.applyRequest code train) := .andThen h fun h => by
  unfold State.applyRequest
  extract_lets _ s1
  have h1 : Changes _ s s1 := .parts [.mode] h
  exact .le (.cond (.leaveService h1) (.cond (.enterService h1) (.cond (.toRise h1) (.cond (.lowerKept h1) (.beginDescent h1)))))

theorem writeRequest {train : Nat} (h : Changes l₀ s₀ s) : Changes (l₀.append (allBut [.kept])) s₀ (s.writeRequest ch code train) :=
  .op h fun h => .guardedWrite h (.applyRequest h)
theorem requestFree (h : Changes l₀ s₀ s) : Changes (l₀.append (allBut [.kept])) s₀ (s.requestFree ch code) := .op h fun h => .writeRequest (.draw h)
theorem stopStageRail (h : Changes l₀ s₀ s) : Changes (l₀.append [.stages, .rails]) s₀ (s.stopStageRail r) :=
  .op h fun h => .applyStageStop (.railOff h)
theorem keepGroup (h : Changes l₀ s₀ s) : Changes (l₀.append [.railGroups]) s₀ (s.keepGroup g) := .setRailGroup h

/-! Wakes and lay-up (chapter 02). -/

theorem serveWake (h : Changes l₀ s₀ s) :
    Changes (l₀.append (raiseParts.append [.supply, .adc, .tide, .pgs, .rcs, .obs, .spm, .pair, .mem])) s₀ (s.serveWake cause) :=
  .op h fun h => .parts [.mode] (.enterMode (.mooredSteps h))
theorem wake {starts : Bool} (h : Changes l₀ s₀ s) :
    Changes (l₀.append (allBut [.clock, .chargers, .berths, .ports, .img, .cfg, .kept])) s₀ (s.wake cause starts) :=
  .op h fun h => .cond (.cond (.parts [.dead] h) h) (.cond (.enterRise h) (.cond (.toRise (.serveWake h)) (.serveWake h)))
theorem mooredEntry {volts : List Rat} (h : Changes l₀ s₀ s) :
    Changes (l₀.append (raiseParts.append [.adc, .rails, .thermal])) s₀ (s.mooredEntry e volts).1 :=
  .op h fun h => .railEntry (.thermEntry (.parts [.adc] h))

theorem mooredEntries_self {volts : List Rat} {hit : Bool} {es : List Nat} {s : State} : Changes (raiseParts.append [.adc, .rails, .thermal]) s (s.mooredEntries volts hit es).1 := by
  induction es generalizing s volts hit with
  | nil => exact .le (.refl s)
  | cons e es ih => exact .le ((Changes.mooredEntry (.refl s)).trans ih)

theorem mooredEntries {volts : List Rat} {hit : Bool} {es : List Nat} (h : Changes l₀ s₀ s) :
    Changes (l₀.append (raiseParts.append [.adc, .rails, .thermal])) s₀ (s.mooredEntries volts hit es).1 := h.trans mooredEntries_self

theorem layupOpen {underLoad auxOpen : Bool} (h : Changes l₀ s₀ s) : Changes (l₀.append (raiseParts.append [.dead])) s₀ (s.layupOpen k underLoad auxOpen) :=
  .op h fun h => .elseThen (.update (.setStr (.openString h)) fun h1 => .note (.parts [.dead] h1)) .raise

theorem layupTurn {underLoad auxOpen : List Bool} (h : Changes l₀ s₀ s) :
    Changes (l₀.append (raiseParts.append [.dead])) s₀ (s.layupTurn underLoad auxOpen) := .andThen h fun h => by
  unfold State.layupTurn
  split
  · exact .le h
  · exact .le (.cond h (.cond (.parts [.dead] h) (.layupOpen (.parts [.dead] h))))

theorem layupStart {train : Nat} (h : Changes l₀ s₀ s) : Changes (l₀.append (allBut [.kept, .draws])) s₀ (s.layupStart c train) :=
  .op h fun h => .restart (.parts [.supply, .dead] h)

theorem layupEnd (h : Changes l₀ s₀ s) : Changes (l₀.append (allBut [.kept])) s₀ s.layupEnd := .andThen h fun h => by
  unfold State.layupEnd
  extract_lets _ s1 _ _ s2 s3 _ s4 d
  have h1 : Changes _ s s1 := .commitCounters (.commitEst h)
  have h2 : Changes _ s s2 := .parts [.supply, .dead] h1
  have h3 : Changes _ s s3 := .flushLog (.networksDown (.enterMode h2))
  have h4 : Changes _ s s4 := .parts [.mode] h3
  have h5 : Changes _ s d.2 := .draw h4
  split
  · exact .le (.layupStart h5)
  · exact .le h4

/-! Uncorrectable errors of SRAM (R448). -/

theorem seqWordBad (h : Changes l₀ s₀ s) : Changes (l₀.append (raiseParts.append [.rails, .railGroups, .thermal, .berths, .ports])) s₀ (s.seqWordBad g) := .andThen h fun h => by
  unfold State.seqWordBad
  split
  · exact .le (.cond (.failGroup (.raise h)) h)
  · exact .le (.cond (.groupLowered (.forUnits (.raise h) .forceOff)) h)
  · exact .le h

theorem degradeRc (h : Changes l₀ s₀ s) : Changes (l₀.append (raiseParts.append [.rcs])) s₀ (s.degradeRc n) :=
  .op h fun h => .cond h (.rcFreeze (.rcDiverge h))
theorem degradeObserver (h : Changes l₀ s₀ s) : Changes (l₀.append [.obs]) s₀ (s.degradeObserver st) := .setObserver h

theorem sramLow (h : Changes l₀ s₀ s) :
    Changes (l₀.append (raiseParts.append [.supply, .rails, .railGroups, .thermal, .pair, .berths, .ports])) s₀ (s.sramLow region unit item) := .andThen h fun h => by
  unfold State.sramLow
  split
  · exact .le (.seqWordBad h)
  · exact .le (.elseThen (.restoreCounters h) .raise)
  · exact .le (.cond (.selfRelease (.parts [.pair] h)) (.parts [.pair] h))
  · exact .le (.parts [.net] h)
  · exact .le (.parts [.net] h)
  · exact .le (.raise (.parts [.faults] h))
  · exact .le h

theorem abortReader {lp slot : Nat} (h : Changes l₀ s₀ s) : Changes (l₀.append [.insts, .engines]) s₀ (s.abortReader unit lp slot) := .andThen h fun h => by
  unfold State.abortReader
  split
  · exact .le (.cond (.abortRun h) h)
  · exact .le h

theorem sramEng (h : Changes l₀ s₀ s) : Changes (l₀.append (raiseParts.append [.rcs, .obs])) s₀ (s.sramEng unit item) :=
  .op h fun h => .cond (.update (.abortReader h) .raise) (.cond (.raise h) (.cond (.cond (.degradeRc h) h) (.cond (.degradeObserver h) h)))

theorem sramNet (h : Changes l₀ s₀ s) : Changes (l₀.append (raiseParts.append [.img])) s₀ (s.sramNet unit item) := .andThen h fun h => by
  unfold State.sramNet
  split
  · exact .le (.setEth h)
  · exact .le (.setEth h)
  · exact .le (.setCan h)
  · exact .le (.parts [.net] h)
  · exact .le (.raise h)
  · exact .le (.closeNireo h)

theorem dropWaiting (h : Changes l₀ s₀ s) : Changes (l₀.append raiseParts) s₀ (s.dropWaiting i) := .andThen h fun h => by
  unfold State.dropWaiting
  split
  · exact .le (.settleDrops (.parts [.log] h))
  · exact .le (.raise h)

theorem sramHigh (h : Changes l₀ s₀ s) : Changes (l₀.append (raiseParts.append [.pair, .mem])) s₀ (s.sramHigh region unit item) := .andThen h fun h => by
  unfold State.sramHigh
  split
  · exact .le (.busErrorTo h)
  · exact .le (.dropWaiting h)
  · exact .le (.parts [.log] (.raise h))
  · exact .le (.parts [.pair] h)
  · exact .le h

/-! Reads. -/

theorem challengeRead (h : Changes l₀ s₀ s) : Changes (l₀.append [.net]) s₀ (s.challengeRead ch) := .andThen h fun h => by
  unfold State.challengeRead
  dsimp only
  split
  · exact .le h
  · exact .le (.reply (.parts [.net] (.setSession h)))

theorem readObject {idx0 : Nat} (h : Changes l₀ s₀ s) : Changes (l₀.append [.net]) s₀ (s.readObject ch idx0 sub) := .andThen h fun h => by
  unfold State.readObject
  dsimp only
  refine .ite (.le (.answerWrite h)) ?_
  refine .ite (.le (.answerWrite h)) ?_
  exact .le (.cond (.challengeRead h) (.cond (.readBlock h) (.cond (.answerWrite h) (.cond (.answerWrite h) (.reply h)))))

/-! What an accepted write does (R384). -/

theorem regroup (h : Changes l₀ s₀ s) : Changes (l₀.append [.mods, .groups, .faults]) s₀ (s.regroup g) := .op h fun h => .cond (.startGroup h) h
theorem regroupClock (h : Changes l₀ s₀ s) : Changes (l₀.append [.mods, .groups, .faults]) s₀ (s.regroupClock j) :=
  .op h fun h => .forUnits h .regroup
theorem retimeClock (h : Changes l₀ s₀ s) : Changes (l₀.append [.clock]) s₀ (s.retimeClock j) := .op h fun h => .cond (.parts [.clock] h) h
theorem rescale {scaling : Bool} (h : Changes l₀ s₀ s) : Changes (l₀.append [.mods]) s₀ (s.rescale md scaling) := .setMod h

theorem actMeasure (h : Changes l₀ s₀ s) : Changes (l₀.append [.clock, .mods, .groups, .adc, .faults, .cfg]) s₀ (s.actMeasure idx sub data) := .andThen h fun h => by
  unfold State.actMeasure
  dsimp only
  split
  · split
    · exact .le (.regroup h)
    · exact .le (.regroup h)
    · exact .le (.regroup h)
    · exact .le (.rescale h)
    · exact .le (.rescale h)
    · exact .le (.rescale h)
    · exact .le (.applyCal h)
    · exact .le (.regroup h)
    · exact .le (.rescale h)
    · exact .le (.rescale h)
    · exact .le (.rescale h)
    · exact .le h
  · exact .le (.cond (.applyGroupEnable h) (.regroup h))
  · exact .le (.cond (.regroupClock (.retimeClock h)) (.cond (.applySeqPeriod h) (.cond (.applySeqLength h) h)))

theorem actStages (h : Changes l₀ s₀ s) : Changes (l₀.append (raiseParts.append [.obs])) s₀ (s.actStages idx sub data) := .andThen h fun h => by
  unfold State.actStages
  dsimp only
  split
  · exact .le (.cond h (.cond (.applyStageStart h) (.applyStageStop h)))
  · exact .le (.cond h (.cond (.returnPhase h) (.dropPhase h)))
  · exact .le h

theorem limitWritten (h : Changes l₀ s₀ s) : Changes (l₀.append [.pgs]) s₀ (s.limitWritten n) := .setPg h

theorem actSetpoints (h : Changes l₀ s₀ s) : Changes (l₀.append [.pgs, .rcs, .faults, .log, .cfg]) s₀ (s.actSetpoints idx sub data) := .andThen h fun h => by
  unfold State.actSetpoints
  split
  · exact .le (.cond (.acceptTarget h) (.cond (.limitWritten h) h))
  · split
    · exact .le (.applyTableLength h)
    · exact .le (.applyRefPeriod h)
    · exact .le (.applyLearnGain h)
    · exact .le (.applyRcReset h)
    · exact .le h
  · exact .le h

theorem actPower (h : Changes l₀ s₀ s) : Changes (l₀.append [.pgs, .spm, .feeds, .faults, .log, .cfg]) s₀ (s.actPower idx sub data) := .andThen h fun h => by
  unfold State.actPower
  dsimp only
  split
  · exact .le (.cond h (.cond (.applyFeedOn h) (.applyFeedOff h)))
  · exact .le (.cond (.acceptTarget h) (.cond (.parts [.spm] h) (.cond (.applyShareTrim h) h)))

theorem actStrings (h : Changes l₀ s₀ s) : Changes (l₀.append [.stages, .spm, .strs, .chargers, .faults, .cfg]) s₀ (s.actStrings idx sub data) := .andThen h fun h => by
  unfold State.actStrings
  dsimp only
  split
  · exact .le (.cond (.replaceString h) h)
  · exact .le (.cond h (.cond (.requestSlack (.setObjN h)) (.abortSlack (.setObjN h))))
  · split
    · exact .le (.applyChargeStart h)
    · exact .le (.applyChargeStop h)
    · exact .le (.applyEqRequest h)
    · exact .le (.applyEqAbort h)
    · exact .le h
  · exact .le h

theorem applyGroupCommand (h : Changes l₀ s₀ s) : Changes (l₀.append [.mode, .rails, .railGroups, .thermal]) s₀ (s.applyGroupCommand g v) := .andThen h fun h => by
  unfold State.applyGroupCommand
  extract_lets _ _ t
  have h1 : Changes [.mode, .rails, .railGroups, .thermal] s t := by
    unfold t
    split
    · exact .le (.cond (.startRise h) h)
    · exact .le (.cond (.setRailGroup h) h)
    · exact .le (.cond (.startLower h) h)
  exact .le (.setRailGroup h1)

theorem actRails (h : Changes l₀ s₀ s) :
    Changes (l₀.append [.mode, .tide, .rails, .railGroups, .thermal, .faults, .berths, .ports, .mem]) s₀ (s.actRails idx sub data) := .andThen h fun h => by
  unfold State.actRails
  split
  · exact .le (.applyGroupCommand h)
  · exact .le (.cond (.applyMargin h) (.cond (.applyAgeReset h) h))

theorem trainFree (h : Changes l₀ s₀ s) : Changes (l₀.append (raiseParts.append [.mem, .draws])) s₀ s.trainFree := .op h fun h => .train (.draw h)
theorem applyRing (h : Changes l₀ s₀ s) : Changes (l₀.append [.log]) s₀ s.applyRing := .op h fun h => .cond h (.parts [.log] h)

theorem actLog (h : Changes l₀ s₀ s) : Changes (l₀.append (raiseParts.append [.mem, .cfg, .draws])) s₀ (s.actLog ch idx sub data) := .andThen h fun h => by
  unfold State.actLog
  dsimp only
  refine .ite (.le (.cond (.applyEccMode h) (.cond (.trainFree h) h))) ?_
  refine .ite (.le (.cond (.armFlip h) h)) ?_
  refine .ite (.le (.cond (.applyRing h) h)) ?_
  refine .ite ?_ ?_
  · refine .ite (.le h) ?_
    split
    · exact .le (.startFreeze h)
    · exact .le (.note (.parts [.log] h))
    · exact .le (.endFreeze (.parts [.log] h))
  · refine .ite ?_ ?_
    · refine .ite (.le (.placeCursor h)) ?_
      split
      · exact .le (.setSession h)
      · exact .le h
    · refine .ite ?_ ?_
      · split
        · exact .le (.setSession h)
        · exact .le h
      · refine .ite (.le (.cond (.trigger h) h)) ?_
        split
        · exact .le (.parts [.log] h)
        · exact .le h

theorem keep (h : Changes l₀ s₀ s) : Changes (l₀.append [.kept]) s₀ (s.keep idx sub data) := .parts [.kept] h
theorem takeImage (h : Changes l₀ s₀ s) : Changes (l₀.append [.log, .img]) s₀ (s.takeImage data) :=
  .op h fun h => .parts [.img] (.cond h (.beginUpdate h))
theorem holdLayup (h : Changes l₀ s₀ s) : Changes (l₀.append [.dead]) s₀ (s.holdLayup sub data) := .parts [.dead] h

theorem actSystem (h : Changes l₀ s₀ s) : Changes (l₀.append (allBut [.kept])) s₀ (s.actSystem ch idx sub data) := .andThen h fun h => by
  unfold State.actSystem
  dsimp only
  split
  · exact .le (.cond (.applyRequest (.draw h)) (.cond (.parts [.supply] h) h))
  · split
    · exact .le (.parts [.img] h)
    · exact .le (.takeImage h)
    · exact .le (.abortUpdate h)
  · split
    · exact .le (.applyHitless h)
    · exact .le (.undoHitless h)
    · exact .le (.applyPairUpdate h)
    · exact .le (.undoPairUpdate h)
  · exact .le (.leavePilot (.draw h))
  · exact .le (.applyKey h)
  · exact .le (.cond h (.cond (.applyHandover h) (.cancelHandover h)))
  · split
    · exact .le h
    · split
      · exact .le (.parts [.faults] h)
      · exact .le (.applyIrqClear h)
      · exact .le (.applySev h)
      · exact .le (.selectSev h)

theorem saveAll (h : Changes l₀ s₀ s) : Changes (l₀.append [.net]) s₀ (s.saveAll ch) := .parts [.net] h

theorem actTime (h : Changes l₀ s₀ s) : Changes (l₀.append [.net]) s₀ (s.actTime sub data) := .andThen h fun h => by
  unfold State.actTime
  split
  · exact .le (.applyTimeSet h)
  · exact .le (.applyPhase h)
  · exact .le (.applyTraceable h)
  · exact .le h

theorem badResponse (h : Changes l₀ s₀ s) : Changes (l₀.append [.net]) s₀ (s.badResponse ch) := .andThen h fun h => by
  unfold State.badResponse
  split
  · exact .le h
  · exact .le (.setSession h)

theorem goodResponse {level : Nat} (h : Changes l₀ s₀ s) : Changes (l₀.append [.net]) s₀ (s.goodResponse ch level) := .andThen h fun h => by
  unfold State.goodResponse
  split
  · exact .le h
  · exact .le (.setSession h)

theorem respond {level : Nat} {sig : List Byte} (h : Changes l₀ s₀ s) : Changes (l₀.append [.net]) s₀ (s.respond ch level sig) := .andThen h fun h => by
  unfold State.respond
  split
  · exact .le h
  · exact .le (.cond (.answerWrite h) (.cond (.answerWrite (.goodResponse h)) (.answerWrite (.badResponse h))))

theorem unwatch {node : Nat} (h : Changes l₀ s₀ s) : Changes (l₀.append [.faults, .net]) s₀ (s.unwatch p node) :=
  .op h fun h => .cond (.setCan h) (.portFaultEnd (.setCan h))
theorem consumersWritten (h : Changes l₀ s₀ s) : Changes (l₀.append [.faults, .net]) s₀ s.consumersWritten :=
  .op h fun h => .forUnits h fun h1 => .foldl h1 .unwatch
theorem regrid {P : Nat} (h : Changes l₀ s₀ s) : Changes (l₀.append [.berths]) s₀ (s.regrid b P) := .op h fun h => .cond h (.setBerth h)

theorem actNet (h : Changes l₀ s₀ s) :
    Changes (l₀.append (raiseParts.append [.spm, .dead, .berths, .ports, .img, .cfg, .kept])) s₀ (s.actNet ch idx sub data) := .andThen h fun h => by
  unfold State.actNet
  dsimp only
  split
  · exact .le (.parts [.net] h)
  · exact .le (.saveAll h)
  · exact .le (.parts [.net] h)
  · exact .le (.consumersWritten h)
  · refine .ite (.le (.dropLevel h)) ?_
    split
    · exact .le (.goodResponse h)
    · exact .le h
  · exact .le (.actTime h)
  · exact .le (.parts [.net] h)
  · exact .le (.cond (.parts [.net] (.closePort h)) h)
  · split
    · exact .le (.keep (.holdLayup h))
    · exact .le (.setObj (.holdLayup h))
    · exact .le (.setObj (.holdLayup h))
    · exact .le h
  · split
    · exact .le (.cond h (.cond (.cond h (.ethStart h)) (.clearing (.ethStart (.closePort h)))))
    · exact .le (.cond (.closePort h) h)
    · exact .le (.cond (.setPort (.forUnits h fun h1 => .cond (.setBerth h1) h1)) h)
    · split
      · exact .le (.applyBerthDisable h)
      · exact .le (.setObjN h)
      · exact .le (.regrid h)
      · exact .le (.setBerth (.queueCmd h))
      · exact .le h
    · exact .le h

theorem act (h : Changes l₀ s₀ s) : Changes (l₀.append (allBut [])) s₀ (s.act ch idx sub data) := .andThen h fun h => by
  unfold State.act
  refine .ite (.le (.actNet h)) ?_
  refine .ite (.le (.actRails h)) ?_
  refine .ite (.le (.actLog h)) ?_
  refine .ite (.le (.actSystem h)) ?_
  exact .le (.cond (.actStages h) (.cond (.actSetpoints h) (.cond (.actMeasure h) (.cond (.actPower h) (.actStrings h)))))

theorem placed (h : Changes l₀ s₀ s) : Changes (l₀.append [.cfg]) s₀ (s.placed l) := .op h fun h => .foldl h .setObj
theorem applyAll (h : Changes l₀ s₀ s) : Changes (l₀.append (allBut [])) s₀ (s.applyAll ch l) :=
  .op h fun h => .foldl (.foldl (.foldl (.foldl h .holdLayup) .setObj) .act) fun h1 => .cond (.mirrored h1) h1

theorem afterRefusal {e : Entry} (h : Changes l₀ s₀ s) : Changes (l₀.append [.mods, .tide, .net, .img]) s₀ (s.afterRefusal ch e c) := .andThen h fun h => by
  unfold State.afterRefusal
  refine .ite (.le (.calRefused h)) ?_
  refine .ite (.le (.hitlessRefused h)) ?_
  refine .ite ?_ (.le h)
  split
  · exact .le (.cond h (.badResponse h))
  · exact .le h

theorem transferWrite {l0 : List Entry} (h : Changes l₀ s₀ s) : Changes (l₀.append (allBut [])) s₀ (s.transferWrite ch l0) := .andThen h fun h => by
  unfold State.transferWrite
  dsimp only
  split
  · exact .le (.answerWrite (.touch (.afterRefusal h)))
  · exact .le (.answerWrite (.touch (.applyAll h)))

/-! The protocols of the dictionary (chapter 13). -/

theorem hostWrite (h : Changes l₀ s₀ s) : Changes (l₀.append (allBut [])) s₀ (s.hostWrite ch l) := .op h fun h => .cond (.transferWrite h) h
theorem readAll {ca : Bool} (h : Changes l₀ s₀ s) : Changes (l₀.append [.net]) s₀ (s.readAll ch idx sub ca) :=
  .op h fun h => .cond (.readObject h) (.cond (.readObject h) (.foldl (.reply h) fun h1 => .cond h1 (.reply (.readObject h1))))
theorem refuseSlot (h : Changes l₀ s₀ s) : Changes (l₀.append [.net]) s₀ (s.refuseSlot ch) := .op h fun h => .answerWrite (.parts [.net] h)
theorem notePeak (h : Changes l₀ s₀ s) : Changes (l₀.append [.net]) s₀ s.notePeak := .parts [.net] h

theorem setTransfer {t : Transfer} (h : Changes l₀ s₀ s) : Changes (l₀.append [.net]) s₀ (s.setTransfer ch t) := .andThen h fun h => by
  unfold State.setTransfer
  split
  · exact .le (.setSession h)
  · exact .le h

theorem endTransfer (h : Changes l₀ s₀ s) : Changes (l₀.append [.net]) s₀ (s.endTransfer ch idx sub) := .andThen h fun h => by
  unfold State.endTransfer
  split
  · exact .le (.setSession h)
  · exact .le h

theorem dropTransfer (h : Changes l₀ s₀ s) : Changes (l₀.append [.net, .log, .img]) s₀ (s.dropTransfer ch idx sub) := .andThen h fun h => by
  unfold State.dropTransfer
  split
  · exact .le (.endTransfer (.endUpdateOf h))
  · exact .le h

theorem noteImageBytes {t : Transfer} (h : Changes l₀ s₀ s) : Changes (l₀.append [.log, .img]) s₀ (s.noteImageBytes t data) :=
  .op h fun h => .cond (.parts [.img] (.cond h (.beginUpdate h))) h
theorem finishTransfer {t : Transfer} {value : List Byte} (h : Changes l₀ s₀ s) : Changes (l₀.append (allBut [])) s₀ (s.finishTransfer ch t value) :=
  .op h fun h => .cond (.endTransfer (.transferWrite (.setTransfer h))) (.dropTransfer (.transferWrite (.setTransfer h)))
theorem sdoAbort (h : Changes l₀ s₀ s) : Changes (l₀.append [.net, .log, .img]) s₀ (s.sdoAbort p v code) := .op h fun h => .answerWrite (.dropSdo h)
theorem sdoInitiate {f : State → State} {ps : List Part} (h : Changes l₀ s₀ s) (hf : ∀ {t}, Changes [] t t → Changes ps t (f t)) :
    Changes (l₀.append (.append [.net, .log, .img] ps)) s₀ (s.sdoInitiate p v f) := by
  have hd : Changes [.net, .log, .img] s (s.dropSdo p v) := dropSdo (.refl s)
  have hr : Changes [.net] (s.dropSdo p v) ((s.dropSdo p v).refuseSlot (.sdo p v)) := refuseSlot (.refl _)
  have hn : Changes [.net] (s.dropSdo p v) (s.dropSdo p v).notePeak := notePeak (.refl _)
  refine h.trans ((hd.trans (.cond hr (hn.trans (hf (.refl _))))).mono fun q hq => ?_)
  simp only [List.append_eq, List.mem_append, List.mem_cons] at hq ⊢
  tauto

theorem sdoContinue {fits : Transfer → Bool} {f : Transfer → State} {ps : List Part} (h : Changes l₀ s₀ s) (hf : ∀ {t}, Changes ps s (f t)) :
    Changes (l₀.append (.append [.net, .log, .img] ps)) s₀ (s.sdoContinue p v fits f) := by
  have ha : Changes [.net, .log, .img] s (s.sdoAbort p v stCommand) := sdoAbort (.refl s)
  refine h.trans ?_
  unfold State.sdoContinue
  split
  · exact (answerWrite (.refl s)).mono fun q hq => List.mem_append_left ps (List.mem_cons.mpr (.inl (List.mem_singleton.mp hq)))
  · exact .ite (hf.mono fun q => List.mem_append_right _) (ha.mono fun q => List.mem_append_left ps)

theorem sdoDownload {t : Transfer} {d : List Byte} (h : Changes l₀ s₀ s) : Changes (l₀.append [.net]) s₀ (s.sdoDownload p v t d) :=
  .op h fun h => .cond (.answerWrite h) (.reply (.setTransfer h))

theorem sdoSegment {t : Transfer} {toggle : Bool} (h : Changes l₀ s₀ s) : Changes (l₀.append (allBut [])) s₀ (s.sdoSegment p v t toggle last data) := .andThen h fun h => by
  unfold State.sdoSegment
  extract_lets _ _ _ s1
  have h1 : Changes _ s s1 := .noteImageBytes (.setTransfer h)
  exact .le (.cond (.sdoAbort h) (.cond (.sdoAbort h) (.cond (.answerWrite h1) (.cond (.sdoAbort h1) (.finishTransfer h1)))))

theorem sdoBlockSegment {t : Transfer} (h : Changes l₀ s₀ s) : Changes (l₀.append [.net, .log, .img]) s₀ (s.sdoBlockSegment p v t seq last data) :=
  .op h fun h => .cond (.sdoAbort h) (.cond (.sdoAbort h) (.update (.update (.setTransfer h) .noteImageBytes) .reply))
theorem sdoBlockEnd {t : Transfer} {unused crc : Nat} (h : Changes l₀ s₀ s) : Changes (l₀.append (allBut [])) s₀ (s.sdoBlockEnd p v t unused crc) :=
  .op h fun h => .cond (.sdoAbort h) (.cond (.sdoAbort h) (.cond (.sdoAbort h) (.finishTransfer h)))
theorem sdoNextBlock {t : Transfer} (h : Changes l₀ s₀ s) : Changes (l₀.append [.net]) s₀ (s.sdoNextBlock p v t) :=
  .op h fun h => .cond (.reply (.setTransfer h)) (.reply (.setTransfer h))
theorem sdoBlockAck {t : Transfer} {size : Nat} (h : Changes l₀ s₀ s) : Changes (l₀.append [.net, .log, .img]) s₀ (s.sdoBlockAck p v t seq size) :=
  .op h fun h => .cond (.sdoAbort h) (.cond (.sdoAbort h) (.sdoNextBlock h))
theorem sdoUpload {t : Transfer} (h : Changes l₀ s₀ s) : Changes (l₀.append [.net]) s₀ (s.sdoUpload p v t) :=
  .op h fun h => .cond (.readAll h) (.reply (.setTransfer (.readAll h)))
theorem sdoUploadSegment {t : Transfer} {toggle : Bool} (h : Changes l₀ s₀ s) : Changes (l₀.append [.net, .log, .img]) s₀ (s.sdoUploadSegment p v t toggle) :=
  .op h fun h => .cond (.sdoAbort h) (.reply (.cond (.endTransfer h) (.setTransfer h)))

theorem sdoServe {r : SdoReq} (h : Changes l₀ s₀ s) : Changes (l₀.append (allBut [])) s₀ (s.sdoServe p v r) := .andThen h fun h => by
  unfold State.sdoServe
  dsimp only
  split
  · exact .le (.sdoInitiate h .transferWrite)
  · exact .le (.sdoInitiate h .sdoDownload)
  · exact .le (.sdoContinue h (.sdoSegment h))
  · exact .le (.sdoInitiate h .sdoUpload)
  · exact .le (.sdoContinue h (.sdoUploadSegment h))
  · exact .le (.sdoInitiate h .sdoDownload)
  · exact .le (.sdoContinue h (.sdoBlockSegment h))
  · exact .le (.sdoContinue h (.sdoBlockEnd h))
  · exact .le (.sdoInitiate h fun h1 => .cond (.answerWrite h1) (.sdoUpload h1))
  · exact .le (.sdoContinue h (.sdoNextBlock h))
  · exact .le (.sdoContinue h (.sdoBlockAck h))
  · exact .le (.sdoContinue h (.answerWrite (.endTransfer h)))

theorem queueHs {frame : List Byte} (h : Changes l₀ s₀ s) : Changes (l₀.append [.net]) s₀ (s.queueHs frame) := .parts [.net] h

theorem sendResponse {frame : List Byte} (h : Changes l₀ s₀ s) : Changes (l₀.append [.net]) s₀ (s.sendResponse port peer frame) := .andThen h fun h => by
  unfold State.sendResponse
  split
  · exact .le (.queueHs h)
  · exact .le (.cond h (.setCan h))
  · exact .le (.cond h (.setCan h))
  · exact .le (.setEth h)

theorem keepAnswer (h : Changes l₀ s₀ s) : Changes (l₀.append [.net]) s₀ (s.keepAnswer n op tag idx sub word) := .andThen h fun h => by
  unfold State.keepAnswer
  split
  · exact .le h
  · exact .le (.setSession h)

theorem ethReceived (h : Changes l₀ s₀ s) : Changes (l₀.append [.net]) s₀ (s.ethReceived p) := .setEth h

theorem renewDomain (h : Changes l₀ s₀ s) : Changes (l₀.append [.net]) s₀ (s.renewDomain n op idx sub) := .andThen h fun h => by
  unfold State.renewDomain
  refine .ite ?_ (.le h)
  split
  · exact .le (.setTransfer h)
  · exact .le h

theorem hearFrom (h : Changes l₀ s₀ s) : Changes (l₀.append [.net]) s₀ (s.hearFrom n peer) := .andThen h fun h => by
  unfold State.hearFrom
  split
  · exact .le (.setSession h)
  · exact .le h

theorem requestFrom {rq : NireoReq} (h : Changes l₀ s₀ s) : Changes (l₀.append [.net]) s₀ (s.requestFrom rq) := .op h fun h => .cond (.hearFrom h) h

theorem nireo {slot : Bool} {f : State → State} {ps : List Part} (h : Changes l₀ s₀ s) (hf : ∀ {t}, Changes [] t t → Changes ps t (f t)) :
    Changes (l₀.append (.append [.mode, .net] ps)) s₀ (s.nireo n op tag idx sub word slot f) := by
  have widen {u : State} (hu : Changes [.mode, .net] s u) : Changes (.append [.mode, .net] ps) s u := hu.mono fun q => List.mem_append_left ps
  have absorb {u v : State} (hu : Changes (.append [.mode, .net] ps) s u) (hv : Changes [.net] u v) : Changes (.append [.mode, .net] ps) s v :=
    (hu.trans hv).mono fun q hq => (List.mem_append.mp hq).elim id fun hq => List.mem_append_left ps (List.mem_cons_of_mem _ hq)
  refine h.trans ?_
  unfold State.nireo
  extract_lets
  refine .ite (widen (.le (.refl s))) ?_
  split
  · exact widen (.le (.answerWrite (.refl s)))
  refine .ite (widen (.le (.refl s))) ?_
  extract_lets s1 t
  have h1 : Changes [.mode, .net] s s1 := .le (.renewDomain (.ethReceived (.touch (.refl s))))
  refine absorb ?_ (.le (.sendResponse (.refl t)))
  unfold t
  split
  · exact widen (.le (.reply h1))
  · refine absorb (.ite (widen (.le (.refuseSlot h1))) ?_) (.le (.keepAnswer (.refl _)))
    have h2 : Changes [.mode, .net] s (if slot = true then s1.notePeak else s1) := .le (.update h1 .notePeak)
    exact h2.trans (hf (.refl _))

theorem nireoReadOp {ca : Bool} (h : Changes l₀ s₀ s) : Changes (l₀.append [.mode, .net]) s₀ (s.nireoReadOp n tag idx sub ca word) :=
  .op h fun h => .nireo h fun h1 => .reply (.readAll h1)
theorem nireoWriteOp {ca : Bool} (h : Changes l₀ s₀ s) : Changes (l₀.append (allBut [])) s₀ (s.nireoWriteOp n tag idx sub ca data) :=
  .op h fun h => .nireo h fun h1 => .cond (.answerWrite h1) (.transferWrite h1)

theorem noteFinished {done : Bool} (h : Changes l₀ s₀ s) : Changes (l₀.append [.net]) s₀ (s.noteFinished n idx sub done) := .andThen h fun h => by
  unfold State.noteFinished
  split
  · exact .le (.setSession h)
  · exact .le h

theorem nireoBeginOp {size : Nat} (h : Changes l₀ s₀ s) : Changes (l₀.append [.mode, .net]) s₀ (s.nireoBeginOp n tag idx sub size) :=
  .op h fun h => .nireo h fun h1 => .cond (.answerWrite h1) (.cond (.answerWrite h1) (.answerWrite (.noteFinished (.setTransfer h1))))

theorem nireoSegmentOp (h : Changes l₀ s₀ s) : Changes (l₀.append [.mode, .net, .log, .img]) s₀ (s.nireoSegmentOp n tag idx sub word data) := .andThen h fun h => by
  unfold State.nireoSegmentOp
  refine .le (.nireo (ps := [.net, .log, .img]) h fun h1 => ?_)
  split
  · exact .le (.answerWrite h1)
  · exact .le (.cond (.reply h1) (.cond (.answerWrite h1) (.answerWrite (.noteImageBytes (.setTransfer h1)))))

theorem nireoEndOp {crc : BitVec 32} (h : Changes l₀ s₀ s) : Changes (l₀.append (allBut [])) s₀ (s.nireoEndOp n tag idx sub crc) := .andThen h fun h => by
  unfold State.nireoEndOp
  refine .le (.nireo (ps := (allBut [])) h fun h1 => ?_)
  split
  · exact .le (.answerWrite h1)
  · exact .le (.cond (.update (.finishTransfer h1) .noteFinished) (.answerWrite (.dropTransfer h1)))

theorem nireoAbortOp (h : Changes l₀ s₀ s) : Changes (l₀.append [.mode, .net, .log, .img]) s₀ (s.nireoAbortOp n tag idx sub) := .andThen h fun h => by
  unfold State.nireoAbortOp
  refine .le (.nireo (ps := [.net, .log, .img]) h fun h1 => ?_)
  split
  · exact .le (.answerWrite (.dropTransfer h1))
  · exact .le (.answerWrite h1)
  · exact .le h1

theorem nireoOpenOp (h : Changes l₀ s₀ s) : Changes (l₀.append [.net, .draws]) s₀ (s.nireoOpenOp port tag peer) := .andThen h fun h => by
  unfold State.nireoOpenOp
  refine .ite (.le h) ?_
  extract_lets s1 d1 _ s2 _ _ t1
  have h1 : Changes _ s s1 := .ethReceived h
  have h2 : Changes _ s d1.2 := .draw h1
  have h3 : Changes _ s s2 := .notePeak h2
  have h4 : Changes _ s t1 := .cond (.refuseSlot h1) (.cond (.answerWrite h1) (.reply (.parts [.net] h3)))
  exact .le (.sendResponse h4)

theorem nireoCloseOp (h : Changes l₀ s₀ s) : Changes (l₀.append [.mode, .net, .log, .img]) s₀ (s.nireoCloseOp n tag) :=
  .op h fun h => .nireo h fun h1 => .answerWrite (.closeNireo h1)

theorem nireoBatchOp (h : Changes l₀ s₀ s) : Changes (l₀.append (allBut [])) s₀ (s.nireoBatchOp n tag l) := .andThen h fun h => by
  unfold State.nireoBatchOp
  refine .le (.nireo (ps := (allBut [])) h fun {t} h1 => ?_)
  refine .ite (.le (.reply h1)) ?_
  extract_lets u1
  have h2 : Changes _ t u1 := .transferWrite h1
  split
  · exact .le (.reply h2)
  · exact .le h2

theorem dropNireo (h : Changes l₀ s₀ s) : Changes (l₀.append [.net]) s₀ s.dropNireo := .parts [.net] h

theorem nireoFrame {d : List Byte} (h : Changes l₀ s₀ s) : Changes (l₀.append (allBut [])) s₀ (s.nireoFrame port peer d) := .andThen h fun h => by
  unfold State.nireoFrame
  dsimp only
  refine .ite (.le (.dropNireo h)) ?_
  refine .ite (.le (.sendResponse (.answerWrite h))) ?_
  split
  · exact .le (.nireoReadOp (.hearFrom h))
  · exact .le (.nireoWriteOp (.hearFrom h))
  · exact .le (.cond (.nireoBeginOp (.hearFrom h)) (.dropNireo (.hearFrom h)))
  · exact .le (.nireoSegmentOp (.hearFrom h))
  · exact .le (.cond (.nireoEndOp (.hearFrom h)) (.dropNireo (.hearFrom h)))
  · exact .le (.nireoAbortOp (.hearFrom h))
  · exact .le (.nireoOpenOp (.hearFrom h))
  · exact .le (.nireoCloseOp (.hearFrom h))
  · split
    · exact .le (.nireoBatchOp (.hearFrom h))
    · exact .le (.dropNireo (.hearFrom h))
  · exact .le (.dropNireo (.hearFrom h))

/-! CANopen (chapter 13). -/

theorem dropRpdos (h : Changes l₀ s₀ s) : Changes (l₀.append [.net]) s₀ (s.dropRpdos p) := .parts [.net] h
theorem reloadComm (h : Changes l₀ s₀ s) : Changes (l₀.append [.cfg]) s₀ s.reloadComm :=
  .op h fun h => .foldl (.parts [.cfg] h) (fun h0 => .parts [.cfg] h0)
theorem resetCan (h : Changes l₀ s₀ s) : Changes (l₀.append [.faults, .net, .log, .img, .cfg]) s₀ (s.resetCan p) :=
  .op h fun h => .setCan (.portFaultEnd (.consumersWritten (.reloadComm (.dropRpdos (.dropSdos h)))))
theorem lssAnswer (h : Changes l₀ s₀ s) : Changes (l₀.append [.mode, .net]) s₀ (s.lssAnswer p data) := .op h fun h => .canHeard (.cond h (.sendCan h))
theorem setTpdo {v : Pdo} (h : Changes l₀ s₀ s) : Changes (l₀.append [.net]) s₀ (s.setTpdo n v) := .parts [.net] h
theorem refuseRpdo (h : Changes l₀ s₀ s) : Changes (l₀.append raiseParts) s₀ (s.refuseRpdo n p) := .op h fun h => .raiseWith (.setCan h)

theorem applyRpdo (h : Changes l₀ s₀ s) : Changes (l₀.append (allBut [])) s₀ (s.applyRpdo n p data) := .andThen h fun h => by
  unfold State.applyRpdo
  refine .ite (.le (.setCan h)) ?_
  split
  · exact .le (.refuseRpdo h)
  · exact .le (.cond (.refuseRpdo h) (.clearing (.applyAll h)))

theorem takeRpdos (h : Changes l₀ s₀ s) : Changes (l₀.append (allBut [])) s₀ s.takeRpdos := .op h fun h => .foldl (.parts [.net] h) .applyRpdo
theorem sendTpdo (h : Changes l₀ s₀ s) : Changes (l₀.append [.net]) s₀ (s.sendTpdo n) := .op h fun h => .setTpdo (.forUnits h .sendCan)
theorem tpdoChanged (h : Changes l₀ s₀ s) : Changes (l₀.append [.net]) s₀ (s.tpdoChanged n) :=
  .op h fun h => .cond h (.cond (.cond (.sendTpdo h) (.setTpdo h)) (.cond (.setTpdo h) h))
theorem atSync (h : Changes l₀ s₀ s) : Changes (l₀.append (allBut [])) s₀ s.atSync :=
  .op h fun h => .foldl (.takeRpdos h) fun h1 => .cond h1 (.cond (.cond (.sendTpdo h1) h1) (.cond (.sendTpdo h1) (.setTpdo h1)))

/-! Ethernet ports, PTP and time (chapter 13). -/

theorem takeLinkLocal (h : Changes l₀ s₀ s) : Changes (l₀.append [.net, .draws]) s₀ (s.takeLinkLocal p) := .op h fun h => .setEth (.draw h)
theorem ethAnswer (h : Changes l₀ s₀ s) : Changes (l₀.append [.net]) s₀ (s.ethAnswer p addr kind) :=
  .op h fun h => .cond (.update (.ethReceived h) .setEth) h

theorem stepTime (h : Changes l₀ s₀ s) : Changes (l₀.append [.net]) s₀ s.stepTime := .andThen h fun h => by
  unfold State.stepTime
  split
  · exact .le (.cond (.setTime (.settleTime h)) h)
  · exact .le h

end Changes

/-- A part that is not listed is the same. -/
theorem Changes.same {l : List Part} {s t : State} (h : Changes l s t) (p : Part) (hp : listed l p = false := by decide +kernel) : Safety.same p s t :=
  h.only.2 p fun hmem => Bool.false_ne_true (hp.symm.trans (listed_iff.mpr hmem))


/-- A command answers a next state, in which only the parts listed may differ. -/
def Answers (l : List Part) (s : State) (o : Host.Outcome State Fault Refusal) : Prop := ∃ t, o = .next t ∧ Changes l s t

theorem Answers.next {l m : List Part} {s t : State} (ht : Changes [] s s → Changes m s t) (hm : partsIn m l = true := by decide +kernel) :
    Answers l s (.next t) := ⟨t, rfl, .le (ht (.refl s)) hm⟩

/-- The same with what it changes given. -/
theorem Answers.step {l : List Part} {s t : State} (ht : Changes [] s s → Changes l s t) : Answers l s (.next t) := ⟨t, rfl, ht (.refl s)⟩

theorem Answers.only {l m : List Part} {s : State} {o : Host.Outcome State Fault Refusal} (h : Answers m s o) (hm : partsIn m l = true := by decide +kernel) :
    ∃ t, o = .next t ∧ Safety.changesOnly l s t := by
  obtain ⟨t, ht, hc⟩ := h
  exact ⟨t, ht, (Changes.le hc hm).only⟩

/-! What each command keeps: its meaning is built from the operations above. -/

namespace Answers

variable {s : State}
variable {addr b f g idx k lp md n p ph pins r region st sub tag v : Nat} {ack crcOk pecOk : Bool} {ch : Chan} {data : List Byte}
  {errs : List SymErr} {hd : FrameHead} {rq : NireoReq}

/-! Stages, phases and fast protection (chapter 05). -/

theorem loadPoint : Answers (raiseParts.append [.obs]) s (execLoadPoint ph s) := by
  unfold execLoadPoint
  refine .step fun h => ?_
  split
  · exact .le (.cond (.loadPhase h) h)
  · exact .le h

theorem stageStart : Answers [.mode, .insts, .engines, .stages, .phases, .faults, .pair, .net] s (execStageStart ch st s) :=
  .next fun h => .guardedWrite h (.applyStageStart h)
theorem stageStop : Answers [.mode, .stages, .pair, .net] s (execStageStop ch st s) := .next fun h => .guardedWrite h (.applyStageStop h)
theorem delayLineCalibration {bad : List Bool} : Answers raiseParts s (execDelayLineCalibration bad s) :=
  .next fun h => .cond (.forUnits h .calibrate) h
theorem phaseDrop : Answers (raiseParts.append [.obs, .pair]) s (execPhaseDrop ch ph s) := .next fun h => .guardedWrite h (.dropPhase h)
theorem phaseReturn : Answers (raiseParts.append [.obs, .pair]) s (execPhaseReturn ch ph s) := .next fun h => .guardedWrite h (.returnPhase h)
theorem breakwaterTruncation : Answers (raiseParts.append [.obs]) s (execBreakwaterTruncation st b s) :=
  .next fun h => .cond (.forUnits h .breakwaterPhase) h

theorem fenderTruncation : Answers raiseParts s (execFenderTruncation ph s) := by
  unfold execFenderTruncation
  refine .step fun h => ?_
  split
  · exact .le h
  · exact .le (.cond (.raise (.setStage (.setPhase h))) h)

theorem estopAsserted : Answers raiseParts s (execEstopAsserted s) := .next fun h => .raise (.parts [.mode] (.forUnits (.stopStages h) .setStage))
theorem tripReadbackFault : Answers raiseParts s (execTripReadbackFault s) := .next fun h => .raise (.parts [.mode] h)

theorem driveReadbackFault : Answers raiseParts s (execDriveReadbackFault ph s) := by
  unfold execDriveReadbackFault
  refine .step fun h => ?_
  split
  · exact .le (.raise h)
  · exact .le h

theorem holdWatchExpired : Answers [.stages, .phases] s (execHoldWatchExpired st s) := .next fun h => .cond (.engageHold h) h
theorem holdLimitExpired : Answers raiseParts s (execHoldLimitExpired st s) := .next fun h => .cond (.raiseWith h) h

/-! The measurement path (chapter 03). -/

theorem groupEnableWrite : Answers [.mode, .mods, .groups, .faults, .pair, .net, .cfg] s (execGroupEnableWrite ch g v s) :=
  .next fun h => .guardedWrite h (.applyGroupEnable h)
theorem stuckRunDetected : Answers raiseParts s (execStuckRunDetected md s) := .next fun h => .cond (.raise (.setMod h)) h
theorem stuckClearCount : Answers [.mods, .faults] s (execStuckClearCount md s) := .next fun h => .cond (.clearing (.setMod h)) h
theorem mclkReadbackFault : Answers raiseParts s (execMclkReadbackFault g s) := .next fun h => .cond (.raise (.setGroup h)) h
theorem fastComparatorDecision {b : Bool} : Answers [.mods, .stages, .log] s (execFastComparatorDecision md b s) :=
  .next fun h => .cond (.forUnits (.fastDecision h) .fenderRead) h
theorem calCommand : Answers [.mode, .mods, .pair, .net] s (execCalCommand ch md v s) :=
  .next fun h => .update (.guardedWrite h (.applyCal h)) .calRefused
theorem calComplete : Answers [.mode, .mods, .insts, .engines, .stages, .phases, .faults, .cfg] s (execCalComplete md s) :=
  .next fun h => .cond (.cond (.releaseHeld (.setMod h)) (.releaseHeld (.setObj (.setMod h)))) h
theorem seqLengthWrite : Answers [.mode, .adc, .pair, .net, .cfg] s (execSeqLengthWrite ch n s) := .next fun h => .guardedWrite h (.applySeqLength h)
theorem adcLapStart : Answers [.adc] s (execAdcLapStart s) := .next fun h => .cond (.stopAdc h) (.cond (.parts [.adc] h) (.cond (.parts [.adc] h) h))
theorem adcLapEnd {refVolts : Rat} : Answers (raiseParts.append [.adc]) s (execAdcLapEnd refVolts s) :=
  .next fun h => .cond (.stopAdc h) (.cond (.follow (.parts [.adc] (.cond h (.forUnits h .ainLapEnd)))) h)

/-! Loop engines and the tide table (chapter 04). -/

theorem depWaitEnd : Answers raiseParts s (execDepWaitEnd lp s) := by
  unfold execDepWaitEnd
  refine .step fun h => ?_
  split
  · exact .le h
  · exact .le (.cond (.dispatch (.noteQueue (.endWait h))) h)

theorem instanceRelease {errs : List (Nat × Nat × Bool)} : Answers (raiseParts.append [.mem]) s (execInstanceRelease lp errs s) := by
  unfold execInstanceRelease
  refine .step fun h => ?_
  split
  · exact .le h
  · exact .le (.cond (.startErrors (.dispatch (.noteQueue (.toReady h)))) h)

theorem instanceRunEnd {errs : List (Nat × Nat × Bool)} : Answers (raiseParts.append [.mem]) s (execInstanceRunEnd lp errs s) := by
  unfold execInstanceRunEnd
  refine .step fun h => ?_
  split
  · exact .le h
  · exact .le (.cond (.endRun h) h)

theorem instanceCommit : Answers (raiseParts.append [.tide]) s (execInstanceCommit lp s) := by
  unfold execInstanceCommit
  refine .step fun h => ?_
  split
  · exact .le h
  · exact .le (.cond (.commitInst h) h)

theorem idleBanksLoaded : Answers [.tide, .img] s (execIdleBanksLoaded s) :=
  .next fun h => .cond (.cond (.parts [.tide, .img] h) (.parts [.tide] h)) h

/-! Profile generators (chapter 06). -/

theorem pgTargetWrite {v : BitVec 32} : Answers [.mode, .pgs, .pair, .net, .log, .cfg] s (execPgTargetWrite ch n v s) :=
  .next fun h => .guardedWrite h (.acceptTarget h)

/-! Repetitive controllers and observers (chapter 06). -/

theorem rcUpdate : Answers [.rcs, .faults] s (execRcUpdate n s) := .next fun h => .cond (.rcStep h) (.cond (.rcOff h) h)
theorem rcPhaseWrap : Answers (raiseParts.append [.rcs, .pair]) s (execRcPhaseWrap n s) :=
  .next fun h => .cond (.tell (.cond (.rcRms h) (.rcPeriod (.rcRms h)))) h
theorem rcRefTimeout : Answers (raiseParts.append [.rcs]) s (execRcRefTimeout n s) := .next fun h => .cond (.update (.raise (.setRc h)) .rcUnlock) h
theorem rcUnlockTimeout : Answers (raiseParts.append [.rcs]) s (execRcUnlockTimeout n s) := .next fun h => .cond (.rcUnlock h) h
theorem rcReset : Answers [.mode, .rcs, .faults, .pair, .net] s (execRcReset ch n v s) := .next fun h => .guardedWrite h (.applyRcReset h)
theorem observerRun : Answers (raiseParts.append [.obs, .pair]) s (execObserverRun st s) :=
  .next fun h => .cond (.cond (.obsTrack (.obsMeasure h)) (.tellStage (.obsAct (.obsMeasure h)))) h

theorem substitutionExpired : Answers (raiseParts.append [.obs]) s (execSubstitutionExpired ph s) := by
  unfold execSubstitutionExpired
  refine .step fun h => ?_
  split
  · exact .le h
  · exact .le (.cond (.obsDrop h) h)

/-! The shelf power manager (chapter 07). -/

theorem spmUpdate : Answers (raiseParts.append [.supply, .adc, .tide, .pgs, .rcs, .obs, .spm, .railGroups, .pair, .mem, .cfg]) s (execSpmUpdate s) :=
  .next fun h => .cond (.tellUpdate (.spmUpdate h)) h
theorem spmRecompute : Answers [.stages, .spm, .strs, .cfg] s (execSpmRecompute s) := .next fun h => .cond (.spmCompute h) h
theorem droopTrimUpdate : Answers (raiseParts.append [.spm, .berths, .ports]) s (execDroopTrimUpdate s) :=
  .next fun h => .cond (.spmDetail (.forUnits (.forUnits (.parts [.spm] h) .shareBerth) .trimBerth)) h
theorem phaseShareTrimWrite {v : BitVec 32} : Answers [.mode, .spm, .pair, .net] s (execPhaseShareTrimWrite ch ph v s) :=
  .next fun h => .guardedWrite h (.applyShareTrim h)
theorem inputLoss : Answers (raiseParts.append [.supply, .adc, .tide, .pgs, .rcs, .obs, .spm, .pair, .mem, .cfg]) s (execInputLoss s) :=
  .next fun h => .cond (.declareInputLoss h) h
theorem handoverEnd : Answers [.stages, .spm, .strs, .cfg] s (execHandoverEnd s) := .next fun h => .cond (.spmCompute (.carryStep (.enterSupply h))) h
theorem sourceQualified {src : Nat} : Answers [.spm, .feeds, .faults] s (execSourceQualified src s) :=
  .next fun h => .cond (.cond (.qualifyFeed h) h) (.cond (.parts [.spm] h) h)
theorem handbackCommand : Answers [.mode, .spm, .pair, .net] s (execHandbackCommand ch v s) := .next fun h => .guardedWrite h (.parts [.spm] h)

theorem handbackStart : Answers (raiseParts.append [.pgs, .spm, .berths, .ports, .cfg]) s (execHandbackStart s) := by
  unfold execHandbackStart
  refine .step fun h => ?_
  split
  · exact .le (.cond (.startHandback h) h)
  · exact .le h

theorem handbackRampEnd : Answers (raiseParts.append [.supply, .adc, .tide, .pgs, .rcs, .obs, .spm, .pair, .mem, .cfg]) s (execHandbackRampEnd s) :=
  .next fun h => .cond (.retargetBus (.enterActive (.spmDetail (.spmDetail (.parts [.spm] (.enterSupply h)))))) h

/-! The rail tree (chapter 10). -/

theorem seqEnd : Answers [.mode, .rails, .railGroups, .thermal] s (execSeqEnd g pins s) :=
  .next fun h => .cond (.cond (.cond (.startLower (.seePins h)) (.groupRisen (.seePins h))) (.groupLowered (.seePins h))) h
theorem seqOn : Answers (raiseParts.append [.rails, .railGroups, .thermal, .berths, .ports]) s (execSeqOn g pins s) :=
  .next fun h => .cond (.cond (.seqNext (.cond (.seePins h) (.switchRailOn (.seePins h)))) (.riseFailure (.seePins h))) h
theorem seqOff : Answers [.insts, .engines, .stages, .phases, .rails, .railGroups, .faults, .berths, .ports] s (execSeqOff g pins s) :=
  .next fun h => .cond (.seqNext (.cond (.switchRailOff (.seePins h)) (.seePins h))) h
theorem seqWaitgood : Answers (raiseParts.append [.rails, .railGroups, .thermal]) s (execSeqWaitgood g pins s) :=
  .next fun h => .cond (.cond (.seqNext (.railRose (.seePins h))) (.cond (.riseFailure (.seePins h)) (.seePins h))) h
theorem seqWaitlow : Answers (raiseParts.append [.rails, .railGroups, .berths, .ports]) s (execSeqWaitlow g pins s) :=
  .next fun h => .cond (.cond (.seqNext (.setRail (.seePins h))) (.cond (.seqNext (.descentFault (.seePins h))) (.seePins h))) h
theorem seqDelay : Answers [.rails, .railGroups] s (execSeqDelay g pins s) := .next fun h => .cond (.cond (.seqNext (.seePins h)) (.seePins h)) h

theorem seqWaitgroup : Answers (raiseParts.append [.rails, .railGroups, .thermal]) s (execSeqWaitgroup g pins s) := by
  unfold execSeqWaitgroup
  extract_lets s1
  refine .step fun h => ?_
  have h1 : Changes _ s s1 := .seePins h
  exact .le <| .cond (.cond (.cond (.seqNext h1) (.cond (.waitFailure h1) h1)) (.cond (.seqNext h1) (.cond (.seqNext (.setRailGroup h1)) h1))) h

theorem seqMark : Answers [.rails, .railGroups] s (execSeqMark g pins s) := .next fun h => .cond (.seqNext (.setRailGroup (.seePins h))) h
theorem stageRailStart : Answers [.mode, .insts, .engines, .stages, .phases, .rails, .faults, .berths, .ports] s (execStageRailStart r s) :=
  .next fun h => .cond (.autoStart (.switchRailOn h)) h
theorem stageRailRiseTimeout : Answers (raiseParts.append [.rails, .railGroups, .thermal]) s (execStageRailRiseTimeout r s) :=
  .next fun h => .cond (.riseFailure h) h
theorem railRunFault {detail : Nat} : Answers (raiseParts.append [.rails, .berths, .ports]) s (execRailRunFault r detail s) :=
  .next fun h => .cond (.forceAllOff (.raise (.setRail (.tellPin h)))) h
theorem mooredRailFault {detail : Nat} : Answers (allBut [.clock, .chargers, .dead, .img, .cfg, .kept, .draws]) s (execMooredRailFault r detail s) :=
  .next fun h => .cond (.resumeFault (.parts [.mode, .thermal] (.enterMode (.parts [.railGroups] (.forceAllOff (.setRail (.tellPin h))))))) h
theorem railDescentFault {detail : Nat} : Answers (raiseParts.append [.rails, .berths, .ports]) s (execRailDescentFault r detail s) :=
  .next fun h => .cond (.cond (.descentOver (.tellPin h)) (.descentFault (.tellPin h))) h
theorem railDescentOvervoltage : Answers (raiseParts.append [.rails, .berths, .ports]) s (execRailDescentOvervoltage r s) :=
  .next fun h => .cond (.descentOver h) h
theorem groupRise : Answers [.mode, .rails, .railGroups, .thermal, .pair, .net] s (execGroupRise ch g s) :=
  .next fun h => .groupWrite h (.cond (.startRise h) h)
theorem groupAbortRise : Answers [.mode, .railGroups, .pair, .net] s (execGroupAbortRise ch g s) :=
  .next fun h => .groupWrite h (.cond (.setRailGroup h) h)
theorem groupLower : Answers [.mode, .rails, .railGroups, .pair, .net] s (execGroupLower ch g s) :=
  .next fun h => .groupWrite h (.cond (.startLower h) h)
theorem railMarginHigh : Answers [.mode, .rails, .pair, .net, .berths, .ports] s (execRailMarginHigh ch r s) :=
  .next fun h => .guardedWrite h (.applyMargin h)
theorem railMarginLow : Answers [.mode, .rails, .pair, .net, .berths, .ports] s (execRailMarginLow ch r s) :=
  .next fun h => .guardedWrite h (.applyMargin h)
theorem railMarginOff : Answers [.mode, .rails, .pair, .net, .berths, .ports] s (execRailMarginOff ch r s) :=
  .next fun h => .guardedWrite h (.applyMargin h)
theorem softStartEnd : Answers [.stages, .rails, .faults] s (execSoftStartEnd st s) := .next fun h => .cond (.railsFollow (.setStage h)) h

/-! Temperature and ageing (chapter 10). -/

theorem tempSlot {codes : List Nat} : Answers (raiseParts.append [.adc, .thermal]) s (execTempSlot codes s) :=
  .next fun h => .cond (.slot (.slotBegins h)) h
theorem thermalDerateUpdate : Answers [.spm] s (execThermalDerateUpdate s) := .next fun h => .cond (.parts [.spm] h) h
theorem pdmReading {ps : List Int} : Answers (raiseParts.append [.thermal]) s (execPdmReading ps s) :=
  .next fun h => .cond (.forUnits (.parts [.thermal] h) fun h1 => .cond (.raise h1) (.cond (.clearing h1) h1)) h

theorem vidUpdate : Answers (raiseParts.append [.tide, .thermal, .mem]) s (execVidUpdate s) := by
  unfold execVidUpdate
  refine .step fun h => ?_
  refine .ite ?_ (.le h)
  split
  · exact .le (.vidStep h)
  · exact .le h

theorem ageReset : Answers [.mode, .tide, .thermal, .faults, .pair, .net, .mem] s (execAgeReset ch v s) :=
  .next fun h => .guardedWrite h (.applyAgeReset h)
theorem ronUpdate : Answers (raiseParts.append [.thermal]) s (execRonUpdate s) := .next fun h => .cond (.forUnits h .ronPhase) h
theorem replan : Answers [.spm, .pair, .cfg] s (execReplan s) := .next fun h => .cond (.forUnits h fun h1 => .forUnits h1 .replanPhase) h
theorem bankCapEstimate {charge dv : Rat} : Answers (raiseParts.append [.thermal]) s (execBankCapEstimate st charge dv s) :=
  .next fun h => .cond (.follow (.parts [.thermal] h)) h
theorem ageingCommit : Answers [.thermal, .mem] s (execAgeingCommit s) := .next fun h => .cond (.commitAgeing h) h

/-! Fault management (chapter 11). -/

theorem faultClearWindowEnd {id kind : Nat} : Answers [.faults, .net, .log] s (execFaultClearWindowEnd id kind s) := by
  unfold execFaultClearWindowEnd
  dsimp only
  refine .step fun h => ?_
  split
  · exact .le (.cond (.clear h) h)
  · exact .le h

theorem sevWrite {record : BitVec 64} : Answers [.mode, .faults, .pair, .net, .log] s (execSevWrite ch region record s) :=
  .next fun h => .guardedWrite h (.applySev h)
theorem sevQueryWrite {record : BitVec 64} : Answers [.mode, .pair, .net] s (execSevQueryWrite ch region record s) :=
  .next fun h => .guardedWrite h (.selectSev h)
theorem irqPendingClear {mask : Nat} : Answers [.mode, .faults, .pair, .net] s (execIrqPendingClear ch region mask s) :=
  .next fun h => .guardedWrite h (.applyIrqClear h)
theorem lockstepMismatch : Answers raiseParts s (execLockstepMismatch s) := .next fun h => .cond (.raise h) h
theorem d2dTransferFail : Answers (raiseParts.append [.pair, .mem, .draws]) s (execD2dTransferFail s) :=
  .next fun h => .cond (.cond (.busErrorTo (.raise (.draw (.parts [.pair] h)))) (.parts [.pair] h)) h

theorem emcyInhibitExpired : Answers [.faults, .net] s (execEmcyInhibitExpired p s) := by
  unfold execEmcyInhibitExpired
  dsimp only
  refine .step fun h => ?_
  refine .ite ?_ (.le h)
  split
  · exact .le (.parts [.faults] h)
  · exact .le (.cond (.sendEmcy (.parts [.faults] h)) (.parts [.faults] h))

/-! DRAM, SRAM and MRAM (chapter 15). -/

theorem trainCommand {result : Nat} : Answers (raiseParts.append [.pair, .mem]) s (execTrainCommand ch v result s) :=
  .next fun h => .guardedWrite h (.train h)
theorem dramFillComplete : Answers [.mem] s (execDramFillComplete s) := .next fun h => .cond (.parts [.mem] (.cond (.fillFlip h) h)) h
theorem dramRead {rq : MemReq} {len : Nat} (haddr : addr < s.dramCapacity) : Answers (raiseParts.append [.mem]) s (execDramRead rq addr len errs s) := by
  unfold execDramRead
  split
  · exact .next fun h => h
  rw [if_neg (not_le.mpr haddr)]
  exact .next fun h => (.cond h (.dramReadOp h))

theorem dramWrite {rq : MemReq} (haddr : addr < s.dramCapacity) : Answers (raiseParts.append [.mem]) s (execDramWrite rq addr data errs s) := by
  unfold execDramWrite
  split
  · exact .next fun h => h
  rw [if_neg (not_le.mpr haddr)]
  exact .next fun h => (.cond h (.dramWriteOp h))

theorem scrubBurst : Answers (raiseParts.append [.mem]) s (execScrubBurst errs s) := by
  unfold execScrubBurst
  refine .step fun h => ?_
  refine .ite ?_ (.le h)
  extract_lets _ _ s1 s2
  have h1 : Changes _ s s1 := .countBurst h
  have h2 : Changes _ s s2 := .scrubAdvance h1
  refine .ite (.le (.scrubAdvance h)) ?_
  split
  · exact .le (.scrubAdvance (.uncorrectable h1))
  · exact .le (.cond h2 (.writeBurst h2))

theorem scrubLapOverdue : Answers raiseParts s (execScrubLapOverdue s) := .next fun h => .cond (.raise h) h
theorem bucketLeakTick {sram : Bool} : Answers [.faults, .mem] s (execBucketLeakTick sram s) :=
  .next fun h => .cond (.cond (.leakSrams h) h) (.cond (.leakDevices h) h)
theorem eccModeChange : Answers [.mode, .pair, .net, .mem, .log, .cfg] s (execEccModeChange ch v s) :=
  .next fun h => .guardedWrite h (.applyEccMode h)
theorem flipArm : Answers [.mode, .pair, .net, .mem] s (execFlipArm ch v s) := .next fun h => .guardedWrite h (.armFlip h)
theorem dramAlert {rank : Nat} : Answers (raiseParts.append [.mem]) s (execDramAlert rank s) :=
  .next fun h => .cond (.cond (.raise (.parts [.mem] h)) (.parts [.mem] h)) h
theorem sramScrubRead {unit : Nat} {single : Bool} : Answers (raiseParts.append [.mem]) s (execSramScrubRead region unit single s) :=
  .next fun h => .cond (.countSram h) h

theorem mramWrite {w : MramWriter} {v : BitVec 64} {fails : Nat} : Answers (raiseParts.append [.pair, .mem, .img]) s (execMramWrite w addr v fails s) :=
  .next fun h => .cond (.cond (.writeFailed (.raise (.parts [.mem] (.parts [.mem] h)))) (.d2dGood (.parts [.mem] (.parts [.mem] h)))) h

theorem mramReadUe {e : MramError} : Answers (raiseParts.append [.supply, .thermal, .mem, .img]) s (execMramReadUe e s) :=
  .next fun h => .cond (.cond (.parts [.mem] h) (.uncorrectableWord h)) h

/-! The recorder (chapter 16). -/

theorem recordArrival {r : Record} : Answers raiseParts s (execRecordArrival r s) :=
  .next fun h => .cond (.settleDrops (.cond (.parts [.log] h) (.enterRecord h))) h
theorem recordCommit : Answers (raiseParts.append [.pair, .mem]) s (execRecordCommit s) :=
  .next fun h => .cond (.update (.commitRecord (.d2dGood (.settleDrops h))) .freezeNow) h
theorem freezeStart : Answers [.mode, .pair, .net, .log] s (execFreezeStart ch s) := .next fun h => .guardedWrite h (.startFreeze h)
theorem freezeAbort : Answers [.mode, .pair, .net, .log] s (execFreezeAbort ch s) := .next fun h => .guardedWrite h (.note (.parts [.log] h))
theorem freezeRelease : Answers [.mode, .pair, .net, .log] s (execFreezeRelease ch s) := .next fun h => .guardedWrite h (.endFreeze (.parts [.log] h))
theorem freezeLimitExpired : Answers [.log] s (execFreezeLimitExpired s) := .next fun h => .cond (.endFreeze h) h
theorem readFromWrite : Answers [.mode, .pair, .net] s (execReadFromWrite ch n s) := .next fun h => .guardedWrite h (.placeCursor h)
theorem readBlock : Answers [.net] s (execReadBlock ch s) := .next fun h => .cond h (.cond (.answerWrite h) (.readBlock h))
theorem captureFrame : Answers (raiseParts.append [.mem]) s (execCaptureFrame errs s) :=
  .next fun h => .cond (.cond (.capture (.openRing h)) h) (.parts [.log] h)

theorem captureTrigger {key : Key} {cls at_ : Nat} : Answers [.log] s (execCaptureTrigger b key cls md at_ s) := by
  unfold execCaptureTrigger
  refine .step fun h => ?_
  split
  · exact .le (.cond (.trigger (.parts [.log] h)) h)
  · exact .le h

theorem triggerNow : Answers [.mode, .pair, .net, .log] s (execTriggerNow ch s) := .next fun h => .guardedWrite h (.cond (.trigger h) h)
theorem windowLastFrame {w : Nat} : Answers [.log] s (execWindowLastFrame w s) := .next fun h => .cond (.parts [.log] h) h
theorem windowCommit {p : Promotion} : Answers (raiseParts.append [.pair, .mem]) s (execWindowCommit p s) :=
  .next fun h => .cond (.cond (.abandonWindow h) (.promoteWindow h)) h
theorem windowAbandon {w : Nat} : Answers [.log] s (execWindowAbandon w s) := .next fun h => .cond (.abandonWindow h) h
theorem windowRelease {w : Nat} : Answers [.mode, .pair, .net, .log] s (execWindowRelease ch w v s) :=
  .next fun h => .guardedWrite h (.parts [.log] h)

/-! Feeds (chapter 07). -/

theorem feedGateOn : Answers [.feeds, .faults] s (execFeedGateOn f s) := .next fun h => .cond (.clearing (.setFeed h)) h
theorem feedReverseOff : Answers raiseParts s (execFeedReverseOff f s) := .next fun h => .cond (.raiseFeed (.setFeed (.gateOff h))) h
theorem feedLost : Answers (raiseParts.append [.spm, .cfg]) s (execFeedLost f s) := .next fun h => .cond (.loseFeed h) (.cond (.loseFeed h) h)
theorem feedEnableOn : Answers [.mode, .feeds, .faults, .pair, .net, .cfg] s (execFeedEnableOn ch f s) :=
  .next fun h => .guardedWrite h (.applyFeedOn h)
theorem feedEnableOff : Answers [.mode, .feeds, .pair, .net, .cfg] s (execFeedEnableOff ch f s) := .next fun h => .guardedWrite h (.applyFeedOff h)
theorem inrushChop : Answers [.feeds] s (execInrushChop f s) := .next fun h => .cond (.setFeed h) h

theorem inrushOffExpired : Answers [.feeds] s (execInrushOffExpired f s) := by
  unfold execInrushOffExpired
  refine .step fun h => ?_
  split
  · exact .le (.cond (.setFeed h) h)
  · exact .le h

theorem inrushTimeout : Answers raiseParts s (execInrushTimeout f s) := .next fun h => .cond (.tripFeed h) h
theorem gateConfirmExpired : Answers [.feeds] s (execGateConfirmExpired f s) := .next fun h => .cond (.updatePg (.setFeed h)) h
theorem gateConfirmTimeout : Answers raiseParts s (execGateConfirmTimeout f s) := .next fun h => .cond (.raiseFeed h) h
theorem gateStuckOn : Answers raiseParts s (execGateStuckOn f s) := .next fun h => .cond (.raiseFeed (.setFeed h)) h
theorem gateFeedbackLost : Answers [.feeds] s (execGateFeedbackLost f s) := .next fun h => .setFeed h
theorem feedShort : Answers raiseParts s (execFeedShort f s) := .next fun h => .cond (.tripFeed h) h
theorem feedRetry : Answers [.feeds] s (execFeedRetry f s) := .next fun h => .cond (.switchOn (.setFeed h)) h
theorem feedRetryReset : Answers [.feeds] s (execFeedRetryReset f s) := .next fun h => .cond (.setFeed h) h
theorem meterTimeout : Answers raiseParts s (execMeterTimeout f s) := .next fun h => .cond (.raiseFeed (.setFeed h)) h

/-! Battery strings (chapter 08). -/

theorem unanchoredTimeout : Answers raiseParts s (execUnanchoredTimeout k s) := .next fun h => .cond (.raise (.cond h (.setEst h))) h
theorem probeStart : Answers [.stages, .spm, .strs, .cfg] s (execProbeStart k s) :=
  .next fun h => .cond (.cond (.spmCompute (.parts [.spm] (.setStr h))) (.setStr h)) h

theorem probeShiftEnd : Answers [.stages, .spm, .strs, .cfg] s (execProbeShiftEnd s) := by
  unfold execProbeShiftEnd
  refine .step fun h => ?_
  split
  · exact .le (.cond (.spmCompute (.parts [.spm] (.setStr h))) h)
  · exact .le h

theorem slackRequest : Answers [.mode, .strs, .pair, .net, .cfg] s (execSlackRequest ch k s) :=
  .next fun h => .guardedWrite h (.requestSlack (.setObjN h))
theorem slackAutoRequest : Answers [.strs] s (execSlackAutoRequest k s) := .next fun h => .cond (.requestSlack (.setStr h)) h
theorem slackAbort : Answers [.mode, .stages, .spm, .strs, .pair, .net, .cfg] s (execSlackAbort ch k s) :=
  .next fun h => .guardedWrite h (.abortSlack (.setObjN h))
theorem slackRampDownEnd : Answers [.stages, .spm, .strs, .cfg] s (execSlackRampDownEnd k s) := .next fun h => .cond (.spmCompute (.setStr h)) h
theorem slackRestPoint : Answers [.stages, .spm, .strs, .faults, .cfg] s (execSlackRestPoint k s) := .next fun h => .cond (.slackPoint h) h
theorem slackComplete : Answers [.strs, .faults] s (execSlackComplete k s) := .next fun h => .cond (.clearing (.setStr h)) h
theorem slackConditionAbort : Answers [.stages, .spm, .strs, .cfg] s (execSlackConditionAbort k s) := .next fun h => .cond (.abortSlack h) h
theorem slackRefusalTimeout : Answers raiseParts s (execSlackRefusalTimeout k s) := .next fun h => .cond (.raise h) h
theorem stringReplaced : Answers [.mode, .strs, .chargers, .pair, .net] s (execStringReplaced ch k v s) :=
  .next fun h => .guardedWrite h (.replaceString h)
theorem estimatorCommit : Answers [.strs, .mem] s (execEstimatorCommit s) := .next fun h => .cond (.commitEst h) h

theorem stringInputTimeout {which : Nat} : Answers raiseParts s (execStringInputTimeout k which s) := by
  unfold execStringInputTimeout
  refine .step fun h => ?_
  refine .ite (.le h) ?_
  extract_lets _ _ s1
  have h1 : Changes _ s s1 := .raise h
  split
  · exact .le (.cond (.raise (.setStr h)) h)
  · exact .le (.cond (.raise h) h)
  · exact .le (.cond (.setStr h1) h)
  · exact .le (.cond (.raise h) h)

theorem auxContactMismatch : Answers raiseParts s (execAuxContactMismatch k s) := .next fun h => .cond (.raise (.setStr h)) h
theorem stringShedOpen : Answers [.strs] s (execStringShedOpen k s) := .next fun h => .cond (.openString h) h

/-! The charge cycle and black start (chapter 09). -/

theorem estimatorStep : Answers (raiseParts.append [.spm, .chargers, .pair, .cfg]) s (execEstimatorStep k s) :=
  .next fun h => .cond (.tellString (.chargeStep (.estStep h))) h
theorem chargeCommandStart : Answers [.mode, .chargers, .pair, .net, .cfg] s (execChargeCommandStart ch k s) :=
  .next fun h => .guardedWrite h (.applyChargeStart h)
theorem chargeCommandStop : Answers [.mode, .stages, .spm, .strs, .chargers, .pair, .net, .cfg] s (execChargeCommandStop ch k s) :=
  .next fun h => .guardedWrite h (.applyChargeStop h)
theorem pulseEnd : Answers [.stages, .spm, .strs, .chargers, .cfg] s (execPulseEnd k s) := .next fun h => .cond (.spmCompute (.setCharger h)) h
theorem restEnd : Answers [.stages, .spm, .strs, .chargers, .faults, .cfg] s (execRestEnd k s) := .next fun h => .cond (.endRest h) h
theorem chargeTimerExpired : Answers (raiseParts.append [.spm, .chargers, .cfg]) s (execChargeTimerExpired k s) :=
  .next fun h => .cond (.endCycle (.raiseCharger h)) h
theorem chargePauseTimeout : Answers (raiseParts.append [.spm, .chargers, .cfg]) s (execChargePauseTimeout k s) :=
  .next fun h => .cond (.endCycle (.raiseCharger h)) h
theorem eqRequest : Answers [.mode, .chargers, .pair, .net, .cfg] s (execEqRequest ch k s) := .next fun h => .guardedWrite h (.applyEqRequest h)
theorem eqAbort : Answers [.mode, .strs, .chargers, .faults, .pair, .net, .cfg] s (execEqAbort ch k s) :=
  .next fun h => .guardedWrite h (.applyEqAbort h)
theorem finalRestSkip : Answers [.strs, .chargers, .faults] s (execFinalRestSkip k s) := .next fun h => .cond (.completeCycle h) h
theorem bsInWindow : Answers [.dead] s (execBsInWindow s) := .next fun h => .cond (.parts [.dead] h) h
theorem bsSettleExpired : Answers (raiseParts.append [.supply, .adc, .tide, .pgs, .rcs, .obs, .spm, .dead, .pair, .mem]) s (execBsSettleExpired s) :=
  .next fun h => .cond (.enterActive (.parts [.dead] h)) h
theorem bsTimeout : Answers (raiseParts.append [.dead]) s (execBsTimeout s) := .next fun h => .cond (.raise (.parts [.dead] h)) h

/-! Samples. -/

theorem loopSampleAvailable {fb : List Bool} {violations : Nat} :
    Answers (raiseParts.append [.spm, .dead, .rails, .thermal, .cfg]) s (execLoopSampleAvailable md fb violations s) :=
  .next fun h => .cond (.railSample (.bankSample (.ageSample (.bsSample (.stringSample (.stageSample (.feedSample (.frame h)))))))) h
theorem adcEntryComplete {volts : List Rat} {up down : Rat} :
    Answers (raiseParts.append [.adc, .rails, .thermal, .pair]) s (execAdcEntryComplete volts up down s) :=
  .next fun h => .cond (.stopAdc h) (.cond (.elseThen (.d2dGood (.slotWaits (.adcEntry h))) fun h1 => .railEntry (.thermEntry h1)) h)

/-! Two-wire ports and berths (chapter 14). -/

theorem scriptEnd : Answers (raiseParts.append [.spm, .rails, .berths, .ports, .cfg]) s (execScriptEnd p s) := by
  unfold execScriptEnd
  refine .step fun h => ?_
  split
  · exact .le h
  · exact .le (.discoveryDone (.commitRun (.setPort h)))

theorem scriptPage : Answers (raiseParts.append [.spm, .berths, .ports, .cfg]) s (execScriptPage p ack s) := by
  unfold execScriptPage
  refine .step fun h => ?_
  split
  · exact .le h
  · exact .le (.cond (.setRun h) (.cond (.setPage (.busWrite h)) (.busWrite h)))

theorem scriptRdb {v : BitVec 8} : Answers (raiseParts.append [.spm, .berths, .ports, .cfg]) s (execScriptRdb p ack pecOk v s) := by
  unfold execScriptRdb
  refine .step fun h => ?_
  split
  · exact .le h
  · exact .le (.busRead h)

theorem scriptRdw {v : BitVec 16} : Answers (raiseParts.append [.spm, .berths, .ports, .cfg]) s (execScriptRdw p ack pecOk v s) := by
  unfold execScriptRdw
  refine .step fun h => ?_
  split
  · exact .le h
  · exact .le (.busRead h)

theorem scriptRdk : Answers (raiseParts.append [.spm, .berths, .ports, .cfg]) s (execScriptRdk p ack pecOk data s) := by
  unfold execScriptRdk
  refine .step fun h => ?_
  split
  · exact .le h
  · exact .le (.cond (.failRun (.busyFor h)) (.busRead h))

theorem scriptWrb : Answers (raiseParts.append [.spm, .berths, .ports, .cfg]) s (execScriptWrb p ack s) := by
  unfold execScriptWrb
  refine .step fun h => ?_
  split
  · exact .le h
  · exact .le (.busWrite h)

theorem scriptWrw : Answers (raiseParts.append [.spm, .berths, .ports, .cfg]) s (execScriptWrw p ack s) := by
  unfold execScriptWrw
  refine .step fun h => ?_
  split
  · exact .le h
  · exact .le (.busWrite h)

theorem scriptSnd : Answers (raiseParts.append [.spm, .berths, .ports, .cfg]) s (execScriptSnd p ack s) := by
  unfold execScriptSnd
  refine .step fun h => ?_
  split
  · exact .le h
  · exact .le (.busWrite h)

theorem scriptCnv : Answers (raiseParts.append [.spm, .berths, .ports, .cfg, .draws]) s (execScriptCnv p s) := .next fun h => .runFree h
theorem scriptTst : Answers (raiseParts.append [.spm, .berths, .ports, .cfg, .draws]) s (execScriptTst p s) := .next fun h => .runFree h
theorem scriptRep : Answers (raiseParts.append [.spm, .berths, .ports, .cfg, .draws]) s (execScriptRep p s) := .next fun h => .runFree h
theorem scriptWait : Answers (raiseParts.append [.spm, .berths, .ports, .cfg, .draws]) s (execScriptWait p s) := .next fun h => .runFree h
theorem scriptXtr : Answers (raiseParts.append [.spm, .berths, .ports, .cfg, .draws]) s (execScriptXtr p s) := .next fun h => .runFree h
theorem pollRunDue : Answers (raiseParts.append [.spm, .berths, .ports, .cfg]) s (execPollRunDue b s) :=
  .next fun h => .cond (.cond (.cond (.setPort (.setBerth h)) (.setBerth h)) (.cond (.depart (.setBerth h)) (.setBerth h))) h

theorem twTransactionBoundary : Answers (raiseParts.append [.spm, .berths, .ports, .cfg]) s (execTwTransactionBoundary p s) := by
  unfold execTwTransactionBoundary
  refine .step fun h => ?_
  refine .ite (.le h) ?_
  split
  · exact .le (.takeWork (.cond (.cutRun h) h))
  · extract_lets s1 s2
    have h1 : Changes _ s s1 := .dropForeign h
    have h2 : Changes _ s s2 := .cond (.discoveryDone h1) h1
    split
    · split
      · exact .le (.takeRun h2)
      · exact .le (.takeWork h2)
    · exact .le (.takeWork h2)

theorem partnerCommandSend {v : BitVec 16} : Answers (allBut [.kept, .draws]) s (execPartnerCommandSend p ack pecOk v s) := by
  unfold execPartnerCommandSend
  refine .step fun h => ?_
  refine .ite (.le h) ?_
  split
  · exact .le h
  · exact .le (.finishLeaving (.sendCmd h))

theorem hostCommand {w : BitVec 32} : Answers [.mode, .pair, .net, .berths, .ports] s (execHostCommand ch b w s) :=
  .next fun h => .guardedWrite h (.setBerth (.queueCmd h))
theorem twArbitrationLost : Answers (raiseParts.append [.spm, .berths, .ports, .cfg]) s (execTwArbitrationLost p s) :=
  .next fun h => .cond (.cond (.setPort (.raise (.failTransaction (.setPort h)))) (.setPort h)) h
theorem twSclTimeout : Answers (raiseParts.append [.spm, .berths, .ports, .cfg]) s (execTwSclTimeout p s) :=
  .next fun h => .cond (.failTransaction h) h
theorem twBusRecovery {ok : Bool} : Answers (raiseParts.append [.ports]) s (execTwBusRecovery p ok s) :=
  .next fun h => .cond (.cond (.clearing (.setPort h)) (.raise (.setPort h))) h
theorem twScan {found : List Arrival} : Answers (raiseParts.append [.spm, .berths, .ports, .cfg]) s (execTwScan p found s) :=
  .next fun h => .cond (.found (.setPort h)) h
theorem berthPresenceLow : Answers [.berths, .ports] s (execBerthPresenceLow b s) := .next fun h => .cond (.setPort (.setBerth h)) h
theorem berthPresenceHigh : Answers (raiseParts.append [.spm, .berths, .ports, .cfg]) s (execBerthPresenceHigh b s) :=
  .next fun h => .cond (.cond (.depart (.setBerth h)) (.setBerth h)) h
theorem berthDisable : Answers (raiseParts.append [.spm, .pair, .berths, .ports, .cfg]) s (execBerthDisable ch b s) :=
  .next fun h => .guardedWrite h (.applyBerthDisable h)
theorem alertResponseRead : Answers [.faults, .berths, .ports] s (execAlertResponseRead p addr s) :=
  .next fun h => .cond (.alertBerth (.setPort (.completed h))) h
theorem hostNotifyReceived {data : Nat} : Answers [.mode, .berths, .ports] s (execHostNotifyReceived p addr data s) :=
  .next fun h => .cond (.lateNack h) (.cond (.cond (.busyTarget (.targetTakes h)) (.takeNotify (.targetTakes h))) h)
theorem mailboxBlockWrite {cmd : Nat} : Answers [.mode, .ports] s (execMailboxBlockWrite p cmd data pecOk s) :=
  .next fun h => .cond (.lateNack h) (.cond (.cond (.busyTarget (.targetTakes h)) (.takeBlock (.targetTakes h))) h)
theorem mailboxBlockRead : Answers [.mode, .faults, .ports, .mem] s (execMailboxBlockRead p s) :=
  .next fun h => .cond (.lateNack h) (.cond (.cond (.busyTarget (.targetTakes h)) (.messageServed (.answerRead (.targetTakes h)))) h)
theorem mailboxBlockTaken : Answers [.mode, .faults, .berths, .ports, .mem] s (execMailboxBlockTaken p s) :=
  .next fun h => .cond (.elseThen (.endStretch (.setPort h)) .messageServed) h

theorem listenedTransaction {t : Listened} : Answers (raiseParts.append [.spm, .rails, .berths, .ports, .cfg]) s (execListenedTransaction p t s) := by
  unfold execListenedTransaction
  refine .step fun h => ?_
  refine .ite ?_ (.le h)
  split
  · extract_lets _ s1
    have h1 : Changes (raiseParts.append [.spm, .berths, .ports, .cfg]) s s1 := by
      unfold s1
      split
      · exact .le (.depart h)
      · exact .le h
    split
    · exact .le (.setBerth h1)
    · exact .le (.cond (.stray h1) h1)
  · refine .ite ?_ (.le h)
    dsimp only
    refine .ite (.le (.setBerth h)) ?_
    refine .ite ?_ (.le (.cond h (.cond (.hear h) (.cond (.setBerth h) h))))
    split
    · exact .le (.setBerth h)
    · exact .le (.setBerth h)

/-! The Kopol link and the pair (chapter 12). -/

theorem heartbeatSend : Answers [.pair] s (execHeartbeatSend s) := .next fun h => .cond (.sendHeartbeat (.parts [.pair] h)) h

theorem heartbeatReceived {frame : Nat × Heartbeat} {err : Rat} {ok0 ok1 : Bool} :
    Answers (allBut [.clock, .chargers, .dead, .thermal, .berths, .cfg, .kept]) s (execHeartbeatReceived frame err ok0 ok1 s) :=
  .next fun h => .cond (.cond (.cond (.seqIn (.parts [.pair] h)) (.update (.parts [.pair] (.seqIn (.parts [.pair] h))) .takeHeartbeat)) (.parts [.pair] h)) h

theorem heartbeatMiss : Answers (raiseParts.append [.pair, .img]) s (execHeartbeatMiss s) :=
  .next fun h => .cond (.cond (.update (.raise (.parts [.pair] (.parts [.pair] h))) .pairReach) (.parts [.pair] h)) h
theorem twinAbsentTimeout : Answers (raiseParts.append [.pair]) s (execTwinAbsentTimeout s) := .next fun h => .cond (.raise (.parts [.pair] h)) h
theorem electionFrameSend : Answers [.pair] s (execElectionFrameSend s) := .next fun h => .cond (.parts [.pair] h) h
theorem electionFrameReceived {e : ElectionFrame} : Answers [.mode, .pair, .draws] s (execElectionFrameReceived e s) :=
  .next fun h => .cond (.cond (.update (.parts [.pair] (.frameIn h)) .elect) (.frameIn h)) h
theorem electionTimeout : Answers (raiseParts.append [.pair, .draws]) s (execElectionTimeout s) := .next fun h => .cond (.raise (.elect h)) h
theorem healthUpdate : Answers [.pair] s (execHealthUpdate s) := .next fun h => .cond (.parts [.pair] h) h
theorem trackingMessageReceived {m : TrackMsg} :
    Answers (raiseParts.append [.pgs, .rcs, .obs, .spm, .chargers, .dead, .rails, .pair, .cfg]) s (execTrackingMessageReceived hd crcOk m s) :=
  .next fun h => .cond (.cond (.cond (.takeTrack (.frameIn h)) (.keepEarly (.frameIn h))) (.frameIn h)) h

theorem alignmentSend : Answers [.pair] s (execAlignmentSend s) := by
  unfold execAlignmentSend
  refine .step fun h => ?_
  split
  · exact .le (.cond (.parts [.pair] (.sendFrame h)) h)
  · exact .le h

theorem alignmentReceived {items : List AlignItem} : Answers [.insts, .pair] s (execAlignmentReceived hd crcOk k items s) :=
  .next fun h => .cond (.cond (.takeAlign (.frameIn h)) (.frameIn h)) h
theorem mirrorWriteReceived : Answers [.spm, .pair, .net, .cfg] s (execMirrorWriteReceived hd crcOk k idx sub data s) :=
  .next fun h => .cond (.cond (.cond (.keepEarly (.frameIn h)) (.takeMirror (.frameIn h))) (.frameIn h)) h
theorem snapshotFragmentReceived {snap : Snapshot} :
    Answers (allBut [.clock, .railGroups, .thermal, .berths, .ports, .img, .kept, .draws]) s (execSnapshotFragmentReceived hd crcOk k snap s) :=
  .next fun h => .cond (.cond (.elseThen (.parts [.pair] (.frameIn h)) fun h1 => .cond (.applySnapshot h1) (.parts [.pair] h1)) (.frameIn h)) h

theorem kopolFrameRetransmit {cls : Nat} : Answers [.pair] s (execKopolFrameRetransmit cls s) := by
  unfold execKopolFrameRetransmit
  refine .step fun h => ?_
  split
  · exact .le h
  · exact .le (.cond (.parts [.pair] h) h)

theorem laneDown {lane : Nat} : Answers (raiseParts.append [.pair]) s (execLaneDown lane s) := .next fun h => .cond (.raise (.parts [.pair] h)) h
theorem laneRetrain {lane : Nat} {ok : Bool} {roundTrip : Rat} : Answers [.faults, .pair] s (execLaneRetrain lane ok roundTrip s) :=
  .next fun h => .cond (.clearing (.parts [.pair] h)) h

theorem ownNReleased : Answers (allBut [.clock, .chargers, .rails, .thermal, .berths, .ports, .cfg, .kept]) s (execOwnNReleased s) := by
  unfold execOwnNReleased
  refine .step fun h => ?_
  refine .ite (.le h) ?_
  extract_lets _ s1
  have h1 : Changes _ s s1 := .parts [.pair] h
  exact .le (.cond (.takeover h1) (.cond (.cond (.followDescent h1) (.cond (.beginJoining (.claim h1)) (.claim h1))) (.cond (.claim h1) h1)))

theorem ownReadbackFault : Answers raiseParts s (execOwnReadbackFault s) := .next fun h => .cond (.raise h) h
theorem engStopSelfRelease : Answers [.mode, .stages, .phases, .pair, .ports, .log] s (execEngStopSelfRelease s) :=
  .next fun h => .cond (.update (.forUnits (.setRegion h) .engageHold) .selfRelease) h
theorem supStallSelfRelease : Answers [.pair, .ports, .log] s (execSupStallSelfRelease s) := .next fun h => .cond (.selfRelease (.parts [.pair] h)) h

theorem selfReleaseOutputsLow : Answers [.mode, .phases, .feeds, .strs, .pair] s (execSelfReleaseOutputsLow s) := by
  unfold execSelfReleaseOutputsLow
  refine .step fun h => ?_
  split
  · exact .le h
  · exact .le (.cond (.tripAfterRelease (.parts [.pair] (.outputsLow h))) h)

theorem supervisoryCoresResume : Answers [.mode, .pair] s (execSupervisoryCoresResume s) :=
  .next fun h => .cond (.tripAfterRelease (.parts [.pair] h)) h
theorem handoverRequest : Answers [.mode, .pair, .net] s (execHandoverRequest ch s) := .next fun h => .guardedWrite h (.applyHandover h)
theorem handoverCancel : Answers [.mode, .pair, .net] s (execHandoverCancel ch s) := .next fun h => .guardedWrite h (.cancelHandover h)
theorem handoverRelease : Answers (raiseParts.append [.supply, .adc, .tide, .pgs, .rcs, .obs, .spm, .pair, .ports, .mem]) s (execHandoverRelease s) :=
  .next fun h => .cond (.setReady (.enterMode (.parts [.pair] (.releaseOwn h)))) h
theorem handoverTimeout : Answers [.pair, .log, .img] s (execHandoverTimeout s) :=
  .next fun h => .cond (.cond (.pairReach (.parts [.pair] h)) (.parts [.pair] h)) h

/-! Images and their updates (chapter 17). -/

theorem updateTransferComplete : Answers [.img] s (execUpdateTransferComplete s) := .next fun h => .cond (.parts [.img] h) h

theorem updateChecksDone {bad : List Nat} {corrected : Nat} {content : Image} {train : Nat} :
    Answers (allBut [.kept]) s (execUpdateChecksDone bad corrected content train s) := by
  unfold execUpdateChecksDone
  refine .step fun h => ?_
  refine .ite ?_ (.le h)
  extract_lets _ _ s1 s2
  have h1 : Changes _ s s1 := .checkReads h
  have h2 : Changes _ s s2 := .commitUpdate h1
  exact .le (.cond (.cond (.leavePilot h2) (.cond (.selfRestart h2) h2)) (.parts [.img] h1))

theorem updateAbort : Answers [.mode, .pair, .net, .log, .img] s (execUpdateAbort ch v s) := .next fun h => .guardedWrite h (.abortUpdate h)
theorem hitlessStart : Answers [.mode, .tide, .pair, .net, .log, .img] s (execHitlessStart ch s) :=
  .next fun h => .update (.guardedWrite h (.applyHitless h)) (fun h0 => .parts [.tide, .img] h0)
theorem hitlessAbort : Answers [.mode, .tide, .pair, .net, .log, .img] s (execHitlessAbort ch s) :=
  .next fun h => .cond (.answerWrite h) (.guardedWrite h (.undoHitless h))
theorem hitlessCommitPoint : Answers [.img] s (execHitlessCommitPoint s) := .next fun h => .cond (.parts [.img] h) h
theorem hitlessResume : Answers [.tide, .strs, .chargers, .log, .img] s (execHitlessResume s) :=
  .next fun h => .cond (.parts [.img] (.gapEnd h)) (.cond (.loadIdleBanks (.imageNote (.confirmTrial (.parts [.img] (.gapEnd h))))) h)
theorem hitlessResumeTimeout : Answers [.log, .img] s (execHitlessResumeTimeout s) :=
  .next fun h => .cond (.imageNote (.parts [.img] (.failTrial h))) h
theorem hitlessRevertTimeout :
    Answers [.supply, .mode, .insts, .engines, .stages, .phases, .feeds, .strs, .rails, .faults, .pair, .ports, .mem, .log, .img, .draws] s (execHitlessRevertTimeout s) :=
  .next fun h => .cond (.selfRestart h) h
theorem tideFrameBoundary : Answers [.tide, .insts, .engines, .faults, .img, .cfg] s (execTideFrameBoundary s) :=
  .next fun h => .cond (.finishHitless (.switchTable h)) h
theorem carrierBoundary :
    Answers [.mode, .mods, .tide, .insts, .engines, .stages, .phases, .rcs, .obs, .spm, .rails, .faults, .pair, .net, .img, .cfg] s (execCarrierBoundary st s) :=
  .next fun h => .cond (.update (.tellStage (.finishHitless (.dueNews (.boundary (.dueMirrors h))))) .sendSnapshot) h
theorem pairUpdateStart : Answers [.mode, .pair, .net, .log, .img] s (execPairUpdateStart ch s) := .next fun h => .guardedWrite h (.applyPairUpdate h)
theorem pairUpdateAbort : Answers [.mode, .pair, .net, .log, .img] s (execPairUpdateAbort ch s) := .next fun h => .guardedWrite h (.undoPairUpdate h)

theorem imageTransferReceived {kind offset : Nat} : Answers [.pair, .log, .img] s (execImageTransferReceived hd crcOk kind offset data s) := by
  unfold execImageTransferReceived
  refine .step fun h => ?_
  exact .le (.cond (.cond (.cond (.parts [.img] (.frameIn h)) (.elseThen (.parts [.img] (.frameIn h)) fun h1 => .parts [.img] (.beginUpdate h1))) (.frameIn h)) h)

theorem pilotExit {train : Nat} : Answers (allBut [.kept, .draws]) s (execPilotExit ch v train s) := .next fun h => .guardedWrite h (.leavePilot h)

/-! Modes (chapter 02). -/

theorem lockoutEntry : Answers (raiseParts.append [.supply, .adc, .tide, .pgs, .rcs, .obs, .spm, .pair, .ports, .mem, .draws]) s (execLockoutEntry s) := by
  unfold execLockoutEntry
  refine .step fun h => ?_
  split
  · exact .le h
  · exact .le (.cond (.parts [.mode] h) (.enterLockout h))

theorem restartHoldoffEnd : Answers (allBut [.clock, .chargers, .berths, .ports, .img, .cfg, .kept]) s (execRestartHoldoffEnd s) := by
  unfold execRestartHoldoffEnd
  refine .step fun h => ?_
  split
  · exact .le (.cond (.enterRise h) h)
  · exact .le h

theorem dictionaryOnline {l : List Arrival} : Answers (allBut [.clock, .chargers, .kept]) s (execDictionaryOnline l s) := by
  unfold execDictionaryOnline
  refine .step fun h => ?_
  refine .ite ?_ (.le h)
  extract_lets s1 _ s2 s3
  have h1 : Changes _ s s1 := .setRegion (.confirmTrial h)
  have h2 : Changes _ s s2 := .discoverAll (.ethUp (.canUp (.parts [.mode] h1)))
  have h3 : Changes _ s s3 := .milestone h2
  exact .le (.cond (.enterLockout h3) (.cond h3 (.toRise h3)))

theorem snsEngRelease : Answers (allBut [.clock, .railGroups, .thermal, .berths, .ports, .img, .kept, .draws]) s (execSnsEngRelease s) := by
  unfold execSnsEngRelease
  refine .step fun h => ?_
  refine .ite ?_ (.le h)
  extract_lets s1 s2 _ s3
  have h1 : Changes _ s s1 := .commonPulse (.startEng (.startSns h))
  have h2 : Changes _ s s2 := .milestone h1
  have h3 : Changes _ s s3 := .parts [.mode] h2
  exact .le (.cond (.cond (.beginJoining h3) (.applyHeld h3)) h1)

theorem prechargeEnd : Answers raiseParts s (execPrechargeEnd n s) :=
  .next fun h => .cond (.joinCheck (.beginPrecharge (.forUnits h .endPrecharge))) h
theorem auxContactConfirm : Answers [.mode, .insts, .engines, .stages, .phases, .strs, .faults] s (execAuxContactConfirm k s) :=
  .next fun h => .cond (.joinCheck (.connect h)) h

theorem enterActive : Answers (allBut [.clock, .chargers, .rails, .railGroups, .thermal, .berths, .ports, .img, .kept]) s (execEnterActive s) := by
  unfold execEnterActive
  refine .step fun h => ?_
  refine .ite ?_ (.le h)
  extract_lets t1 s1
  have h1 : Changes _ s t1.1 := .seeNet h
  have h2 : Changes _ s s1 := .cond (.cond (.beginJoining (.claim h1)) h1) h
  exact .le (.cond h2 (.cond (.cond (.enterBlackstart h2) h2) (.joinCheck (.milestone (.enterActive h2)))))

theorem noSourceDeclared : Answers (raiseParts.append [.supply, .adc, .tide, .pgs, .rcs, .obs, .spm, .dead, .pair, .mem, .cfg]) s (execNoSourceDeclared s) :=
  .next fun h => .cond (.cond (.enterBlackstart h) (.spmDetail h)) h
theorem modeRequestRise : Answers (allBut [.kept]) s (execModeRequestRise ch s) := .next fun h => .requestFree h
theorem modeRequestService : Answers (allBut [.kept]) s (execModeRequestService ch s) := .next fun h => .requestFree h
theorem modeRequestActive : Answers (allBut [.kept]) s (execModeRequestActive ch s) := .next fun h => .requestFree h
theorem modeRequestDescent : Answers (allBut [.kept]) s (execModeRequestDescent ch s) := .next fun h => .requestFree h
theorem modeRequestMoored : Answers (allBut [.kept]) s (execModeRequestMoored ch s) := .next fun h => .requestFree h
theorem modeRequestLayup : Answers (allBut [.kept]) s (execModeRequestLayup ch s) := .next fun h => .requestFree h
theorem modeRequestLeaveService {code train : Nat} : Answers (allBut [.kept]) s (execModeRequestLeaveService ch code train s) :=
  .next fun h => .writeRequest h

theorem tripReaction : Answers (raiseParts.append [.supply, .adc, .tide, .pgs, .rcs, .obs, .spm, .railGroups, .pair, .ports, .mem]) s (execTripReaction s) := by
  unfold execTripReaction
  refine .step fun h => ?_
  refine .ite (.le h) ?_
  extract_lets _ _ s1 s2
  have h1 : Changes _ s s1 := .parts [.mode] h
  have h2 : Changes _ s s2 := .outputsSafe (.releaseOwn h1)
  exact .le (.cond h1 (.cond (.beginDescent (.supersedeRequest (.releaseOwn (.outputsSafe h1)))) (.driveTrip (.parts [.mode] h2))))

theorem descentProgramsStart : Answers [.mode, .stages, .rails, .railGroups, .thermal] s (execDescentProgramsStart s) := by
  unfold execDescentProgramsStart
  refine .step fun h => ?_
  refine .ite ?_ (.le h)
  extract_lets s1 _ _ s2 s3
  have h1 : Changes _ s s1 := .forUnits h .stopStageRail
  have h2 : Changes _ s s2 := .parts [.mode, .thermal] h1
  have h3 : Changes _ s s3 := .driveTrip (.setRegion h2)
  exact .le (.forUnits h3 fun h4 => .cond (.keepGroup h4) (.cond h4 (.startLower h4)))

theorem descentComplete {train : Nat} : Answers (allBut [.kept, .draws]) s (execDescentComplete train s) := by
  unfold execDescentComplete
  refine .step fun h => ?_
  refine .ite ?_ (.le h)
  extract_lets _ _ s1 s2 s3
  have h1 : Changes _ s s1 := .parts [.mode, .thermal] h
  have h2 : Changes _ s s2 := .releaseOwn (.commitAgeing (.commitEst h1))
  have h3 : Changes _ s s3 := .networksDown (.enterMode h2)
  split
  · exact .le (.restart h2)
  · exact .le (.beginLayup h2)
  · exact .le (.parts [.mode] h3)

/-! Loss of supply and the AO clock (chapter 02). -/

theorem powerFailWarning {pfw vao : Bool} :
    Answers (raiseParts.append [.supply, .rails, .pair, .ports, .mem, .img, .draws]) s (execPowerFailWarning pfw vao s) := by
  unfold execPowerFailWarning
  refine .step fun h => ?_
  extract_lets _ _ s1 _ t s2 _ d
  have h1 : Changes _ s s1 := .parts [.supply] h
  have h2 : Changes _ s t := .restoreCounters (.parts [.supply] h1)
  have h3 : Changes _ s s2 := .cond (.commitCounters h2) h2
  have h4 : Changes _ s d.2 := .drawBool h1
  refine .ite (.le h) ?_
  split
  · exact .le (.parts [.supply] h3)
  · exact .le h1
  · exact .le (.lastBreath (.raise h4))
  · exact .le h1
  · exact .le h1

theorem rstNAsserted :
    Answers [.supply, .mode, .insts, .engines, .stages, .phases, .feeds, .strs, .rails, .faults, .pair, .ports, .mem, .log, .img, .draws] s (execRstNAsserted s) :=
  .next fun h => .cond (.lastBreath (.parts [.supply] h)) (.parts [.supply] h)
theorem rstNReleased {train : Nat} : Answers (allBut [.kept, .draws]) s (execRstNReleased train s) :=
  .next fun h => .cond (.restart (.parts [.supply] h)) (.parts [.supply] h)
theorem supplyDipRestart {train : Nat} : Answers (allBut [.kept, .draws]) s (execSupplyDipRestart train s) :=
  .next fun h => .cond (.restart (.clearing h)) (.cond (.elseThen (.parts [.supply] (.clearing h)) .restart) h)
theorem counterBlockPeriodicCommit : Answers [.supply, .mem] s (execCounterBlockPeriodicCommit s) := .next fun h => .cond (.commitCounters h) h
theorem xtalFail : Answers (raiseParts.append [.clock]) s (execXtalFail s) := .next fun h => .cond (.parts [.clock] h) (.raise (.parts [.clock] h))
theorem xtalRetry {runs : Bool} : Answers [.clock, .faults] s (execXtalRetry runs s) :=
  .next fun h => .cond (.cond (.clearing (.parts [.clock] h)) (.parts [.clock] h)) h

/-! Wakes and lay-up (chapter 02). -/

theorem wakeNWake : Answers (allBut [.clock, .chargers, .berths, .ports, .img, .cfg, .kept]) s (execWakeNWake s) := .next fun h => .cond (.wake h) h
theorem srcdetWake {d : SrcPin} : Answers (allBut [.clock, .chargers, .berths, .ports, .img, .cfg, .kept]) s (execSrcdetWake d s) :=
  .next fun h => .cond (.wake h) h
theorem twAddressMatchWake : Answers (allBut [.clock, .chargers, .berths, .ports, .img, .cfg, .kept]) s (execTwAddressMatchWake p addr s) :=
  .next fun h => .cond (.wake (.cond h (.parts [.mode] h))) h

theorem twMatchStretchTimeout : Answers (raiseParts.append [.ports]) s (execTwMatchStretchTimeout p s) := by
  unfold execTwMatchStretchTimeout
  refine .step fun h => ?_
  split
  · exact .le (.cond (.cond (.parts [.mode] h) (.raise (.setPort (.parts [.mode] h)))) h)
  · exact .le h

theorem canWake : Answers (allBut [.clock, .chargers, .berths, .ports, .img, .cfg, .kept]) s (execCanWake p s) :=
  .next fun h => .cond (.cond (.parts [.mode] (.canBack (.serveRegions (.wake h)))) (.wake h)) h

theorem canRetentionTimeout : Answers [.mode, .faults, .net, .mem, .log, .img] s (execCanRetentionTimeout s) := by
  unfold execCanRetentionTimeout
  refine .step fun h => ?_
  split
  · exact .le (.cond (.parts [.mode] (.serveRegions (.canDown h))) h)
  · exact .le h

theorem mooredAdcScan {volts : List Rat} {codes : List Nat} :
    Answers (allBut [.clock, .chargers, .berths, .ports, .img, .cfg, .kept]) s (execMooredAdcScan volts codes s) :=
  .next fun h => .cond (.update (.slot (.mooredEntries h)) .wake) h
theorem ownNReleaseWake : Answers (allBut [.clock, .chargers, .berths, .ports, .img, .cfg, .kept]) s (execOwnNReleaseWake s) :=
  .next fun h => .cond (.wake (.parts [.pair] h)) h

theorem aoWakeTimerExpired : Answers (allBut [.clock, .chargers, .berths, .ports, .img, .cfg, .kept]) s (execAoWakeTimerExpired s) := by
  unfold execAoWakeTimerExpired
  refine .step fun h => ?_
  split
  · exact .le (.cond (.wake (.parts [.mode] h)) h)
  · exact .le h

theorem layupEntry {underLoad auxOpen : List Bool} : Answers (allBut [.kept]) s (execLayupEntry underLoad auxOpen s) :=
  .next fun h => .cond (.update (.forUnits (.forUnits (.parts [.dead] h) .openString) .layupTurn) .layupEnd) h
theorem layupWake {src : Option SrcPin} {train : Nat} : Answers (allBut [.kept, .draws]) s (execLayupWake src train s) :=
  .next fun h => .cond (.cond (.layupStart (.parts [.dead] h)) (.cond (.parts [.dead] h) h)) h

/-! Uncorrectable errors of SRAM (R448). -/

theorem sramUncorrectable {unit item : Nat} :
    Answers (raiseParts.append [.supply, .rcs, .obs, .rails, .railGroups, .thermal, .pair, .berths, .ports, .mem, .img]) s (execSramUncorrectable region unit item s) := by
  unfold execSramUncorrectable
  refine .step fun h => ?_
  refine .ite ?_ (.le h)
  extract_lets s1
  have h1 : Changes _ s s1 := .raise h
  split
  · exact .le (.sramLow h1)
  · exact .le (.sramLow h1)
  · exact .le (.sramEng h1)
  · exact .le (.shedStage h1)
  · exact .le (.cond (.setMod h1) h1)
  · exact .le (.sramNet h1)
  · exact .le (.sramHigh h1)

/-! The protocols of the dictionary (chapter 13). -/

theorem objectWrite : Answers (allBut []) s (execObjectWrite ch idx sub data s) := .next fun h => .hostWrite h
theorem pairCommonWrite : Answers (allBut []) s (execPairCommonWrite ch idx sub data s) := .next fun h => .cond (.hostWrite h) h
theorem sdoRequest {r : SdoReq} : Answers (allBut []) s (execSdoRequest p v r s) := .next fun h => .cond (.sdoServe (.touch h)) h
theorem sdoAbortTransfer : Answers [.mode, .net, .log, .img] s (execSdoAbortTransfer p v s) := .next fun h => .cond (.dropSdo (.touch h)) h

theorem sdoSegmentTimeout : Answers [.net, .log, .img] s (execSdoSegmentTimeout p v s) := by
  unfold execSdoSegmentTimeout
  refine .step fun h => ?_
  split
  · exact .le (.cond (.sdoAbort h) h)
  · exact .le h

theorem nireoRead {ca : Bool} {word : Nat} : Answers [.mode, .net] s (execNireoRead rq tag idx sub ca word s) :=
  .next fun h => .nireoReadOp (.requestFrom h)
theorem nireoWrite {ca : Bool} : Answers (allBut []) s (execNireoWrite rq tag idx sub ca data s) := .next fun h => .nireoWriteOp (.requestFrom h)
theorem nireoDomainBegin {size : Nat} : Answers [.mode, .net] s (execNireoDomainBegin rq tag idx sub size s) :=
  .next fun h => .nireoBeginOp (.requestFrom h)
theorem nireoDomainSegment {word : Nat} : Answers [.mode, .net, .log, .img] s (execNireoDomainSegment rq tag idx sub word data s) :=
  .next fun h => .nireoSegmentOp (.requestFrom h)
theorem nireoDomainEnd {crc : BitVec 32} : Answers (allBut []) s (execNireoDomainEnd rq tag idx sub crc s) :=
  .next fun h => .nireoEndOp (.requestFrom h)
theorem nireoDomainAbort : Answers [.mode, .net, .log, .img] s (execNireoDomainAbort rq tag idx sub s) :=
  .next fun h => .nireoAbortOp (.requestFrom h)
theorem nireoOpenSession {src : Nat × Nat × Nat} : Answers [.net, .draws] s (execNireoOpenSession src tag s) := .next fun h => .nireoOpenOp h
theorem nireoCloseSession : Answers [.mode, .net, .log, .img] s (execNireoCloseSession rq tag s) := .next fun h => .nireoCloseOp (.requestFrom h)
theorem nireoBatchWrite {entries : List Entry} : Answers (allBut []) s (execNireoBatchWrite rq tag entries s) :=
  .next fun h => .nireoBatchOp (.requestFrom h)
theorem nireoFrameDropped {port : Nat} : Answers [.net] s (execNireoFrameDropped port s) := .next fun h => .cond (.dropNireo h) h

theorem sessionIdleTimeout : Answers [.net, .log, .img] s (execSessionIdleTimeout n s) := by
  unfold execSessionIdleTimeout
  refine .step fun h => ?_
  split
  · exact .le (.cond (.closeNireo h) h)
  · exact .le h

theorem domainWriteIdleTimeout : Answers [.net, .log, .img] s (execDomainWriteIdleTimeout n idx sub s) := by
  unfold execDomainWriteIdleTimeout
  refine .step fun h => ?_
  split
  · exact .le (.cond (.dropTransfer h) h)
  · exact .le h

theorem hsFrameCommand {frame : List Byte} : Answers (allBut []) s (execHsFrameCommand frame crcOk s) :=
  .next fun h => .cond h (.cond (.nireoFrame h) (.parts [.net] h))
theorem hsStatusCommand : Answers [.net] s (execHsStatusCommand s) := .next fun h => .cond (.parts [.net] h) h

theorem hsResponseCommand : Answers [.net] s (execHsResponseCommand s) := by
  unfold execHsResponseCommand
  refine .step fun h => ?_
  refine .ite (.le h) ?_
  split
  · exact .le (.parts [.net] h)
  · exact .le (.parts [.net] h)

theorem nireoCanFdSegment {ident : Nat} {seg : Byte} : Answers (allBut []) s (execNireoCanFdSegment p ident seg data s) := by
  unfold execNireoCanFdSegment
  extract_lets _ _ _ _ _ s1 _ _ _ _ s2
  refine .step fun h => ?_
  have h1 : Changes _ s s1 := .canHeard h
  have h2 : Changes _ s s2 := .cond (.dropNireo h1) h1
  exact .le <| .cond h (.cond (.cond (.nireoFrame (.setCan h2)) (.setCan h2)) (.dropNireo (.setCan h1)))

theorem accessChallengeRead : Answers [.mode, .net] s (execAccessChallengeRead ch s) := .next fun h => .cond (.readObject (.touch h)) h
theorem accessResponse {level : Nat} {sig : List Byte} : Answers [.mode, .net] s (execAccessResponse ch level sig s) :=
  .next fun h => .cond (.cond (.respond (.touch h)) (.answerWrite (.touch h))) h
theorem accessDrop : Answers (allBut []) s (execAccessDrop ch v s) := .next fun h => .hostWrite h

theorem accessIdleTimeout : Answers [.net] s (execAccessIdleTimeout ch s) := by
  unfold execAccessIdleTimeout
  refine .step fun h => ?_
  split
  · exact .le (.cond (.dropLevel h) h)
  · exact .le h

theorem storeSave {sig : Nat} : Answers (allBut []) s (execStoreSave ch sig s) := .next fun h => .hostWrite h
theorem restoreLoad {sig : Nat} : Answers (allBut []) s (execRestoreLoad ch sig s) := .next fun h => .hostWrite h
theorem legacyModeWrite : Answers (allBut []) s (execLegacyModeWrite ch v s) := .next fun h => .hostWrite h

/-! CANopen (chapter 13). -/

theorem nmtStart : Answers [.mode, .net] s (execNmtStart p s) := .next fun h => .cond (.canHeard (.setCan h)) h
theorem nmtStop : Answers [.mode, .net, .log, .img] s (execNmtStop p s) := .next fun h => .cond (.canHeard (.dropRpdos (.dropSdos (.setCan h)))) h
theorem nmtEnterPreOperational : Answers [.mode, .net] s (execNmtEnterPreOperational p s) :=
  .next fun h => .cond (.cond (.canHeard h) (.canHeard (.preOperational (.dropRpdos h)))) h
theorem nmtResetNode : Answers [.mode, .faults, .net, .log, .img, .cfg] s (execNmtResetNode p s) :=
  .next fun h => .cond (.canHeard (.preOperational (.resetCan h))) h
theorem nmtResetCommunication : Answers [.mode, .faults, .net, .log, .img, .cfg] s (execNmtResetCommunication p s) :=
  .next fun h => .cond (.canHeard (.canStart (.forUnits (.resetCan h) .dropLevel))) h

theorem lssSwitchState {global configuration : Bool} {ident : List Nat} : Answers [.mode, .net] s (execLssSwitchState p global configuration ident s) :=
  .next fun h => .cond (.cond (.canHeard (.setCan h)) (.cond (.lssAnswer (.setCan h)) h)) h

theorem lssConfigureNodeId {node : Nat} : Answers [.mode, .net] s (execLssConfigureNodeId p node s) :=
  .next fun h => .cond (.cond (.lssAnswer (.setCan h)) (.lssAnswer h)) h

theorem lssConfigureBitTiming {entry : Nat} : Answers [.mode, .net] s (execLssConfigureBitTiming p entry s) := by
  unfold execLssConfigureBitTiming
  refine .step fun h => ?_
  refine .ite ?_ (.le h)
  split
  · exact .le (.lssAnswer (.setCan h))
  · exact .le (.lssAnswer h)

theorem lssStore : Answers [.mode, .net] s (execLssStore p s) := .next fun h => .cond (.lssAnswer (.setCan h)) h
theorem lssInquire {what : Nat} : Answers [.mode, .net] s (execLssInquire p what s) :=
  .next fun h => .cond (.cond (.lssAnswer h) (.cond (.lssAnswer h) h)) h

theorem lssFastscan {idNumber bitCheck lssSub lssNext : Nat} : Answers [.mode, .net] s (execLssFastscan p idNumber bitCheck lssSub lssNext s) :=
  .next fun h => .cond (.cond (.lssAnswer (.setCan h)) (.cond (.lssAnswer (.cond (.setCan h) h)) h)) h

theorem rpdoReceived : Answers (allBut []) s (execRpdoReceived p n data s) :=
  .next fun h => .cond (.cond (.parts [.net] (.canHeard h)) (.applyRpdo (.canHeard h))) h
theorem tpdoEvent : Answers [.net] s (execTpdoEvent n s) := .next fun h => .tpdoChanged h
theorem tpdoEventTimer : Answers [.net] s (execTpdoEventTimer n s) := .next fun h => .cond (.sendTpdo h) h
theorem tpdoInhibitExpired : Answers [.net] s (execTpdoInhibitExpired n s) := .next fun h => .cond (.sendTpdo h) h
theorem pgUpdate : Answers [.pgs, .pair, .net, .log] s (execPgUpdate n s) :=
  .next fun h => .cond (.elseThen (.tell (.stepPg h)) fun h1 => .forUnits h1 .tpdoChanged) h
theorem syncProduce : Answers (allBut []) s (execSyncProduce s) :=
  .next fun h => .cond (.atSync (.forUnits (.setTime h) fun h1 => .cond (.setCan (.sendCan h1)) (.portFaultEnd (.sendCan h1)))) h
theorem syncReceived : Answers (allBut []) s (execSyncReceived p s) := .next fun h => .cond (.atSync (.cond (.portFault (.setCan h)) h)) h
theorem timeProduce : Answers [.net] s (execTimeProduce s) := .next fun h => .cond (.forUnits (.setTime h) .sendCan) h
theorem canHeartbeatProduce : Answers [.net] s (execCanHeartbeatProduce p s) := .next fun h => .cond (.sendCan (.setCan h)) h
theorem canHeartbeatReceived {node : Nat} : Answers [.faults, .net] s (execCanHeartbeatReceived p node s) :=
  .next fun h => .cond (.setCan (.unwatch (.unwatch h))) h
theorem canHeartbeatConsumerTimeout {node : Nat} : Answers raiseParts s (execCanHeartbeatConsumerTimeout p node s) :=
  .next fun h => .cond (.portFault (.setCan h)) h
theorem canBusOff : Answers (raiseParts.append [.img]) s (execCanBusOff p s) :=
  .next fun h => .cond (.portFault (.closePort (.dropSdos (.setCan h)))) h
theorem canBusOffRecovery : Answers [.faults, .net] s (execCanBusOffRecovery p s) := .next fun h => .cond (.portFaultEnd (.setCan h)) h

/-! Ethernet ports, PTP and time (chapter 13). -/

theorem ethLinkUp {speed : Nat} : Answers [.faults, .net, .draws] s (execEthLinkUp p speed s) :=
  .next fun h => .cond (.update (.portFaultEnd (.setEth h)) .takeLinkLocal) h
theorem ethLinkDown : Answers (raiseParts.append [.img]) s (execEthLinkDown p s) := .next fun h => .cond (.portFault (.closePort (.setEth h))) h
theorem ethFrameDropped : Answers [.net] s (execEthFrameDropped p s) := .next fun h => .cond (.setEth h) h
theorem ethArpRequest : Answers [.net] s (execEthArpRequest p addr s) := .next fun h => .ethAnswer h
theorem icmpEchoRequest : Answers [.net] s (execIcmpEchoRequest p addr s) := .next fun h => .ethAnswer h
theorem ptpSyncSend : Answers [.net] s (execPtpSyncSend p s) := .next fun h => .cond (.setEth h) h
theorem ptpAnnounceSend : Answers [.net] s (execPtpAnnounceSend p s) := .next fun h => .cond (.setEth h) h
theorem ptpDelayReqReceived {req : DelayReq} : Answers [.net] s (execPtpDelayReqReceived p req s) := .next fun h => .cond (.setEth (.ethReceived h)) h
theorem ptpAnnounceReceived {a : Announce} : Answers raiseParts s (execPtpAnnounceReceived p a s) :=
  .next fun h => .cond (.update (.ethReceived h) fun h1 => .portFault (.setEth h1)) h
theorem ptpAnnounceTimeout : Answers [.faults, .net] s (execPtpAnnounceTimeout p s) := .next fun h => .cond (.portFaultEnd (.setEth h)) h
theorem timeSetSeconds : Answers (allBut []) s (execTimeSetSeconds ch v s) := .next fun h => .hostWrite h
theorem phaseAdjust {ns : Int} : Answers (allBut []) s (execPhaseAdjust ch ns s) := .next fun h => .hostWrite h
theorem traceableWrite : Answers (allBut []) s (execTraceableWrite ch v s) := .next fun h => .hostWrite h
theorem ppsEdge : Answers [.net] s (execPpsEdge s) := .next fun h => .cond (.setTime (.stepTime h)) h
theorem traceableTimeout : Answers [.net] s (execTraceableTimeout s) := .next fun h => .cond (.leaveTraceable h) h
theorem holdoverEnd : Answers [.net] s (execHoldoverEnd s) := .next fun h => .cond (.setTime h) h

/-! The power cycle (R21, R50, R51). -/

theorem porAsserted : Answers (allBut [.kept, .draws]) s (execPorAsserted s) := .next fun h => .parts [.supply, .mode] (.fresh (.outputsSafe h))

theorem porRelease {sideB legacy wakeLow : Bool} {train : Nat} : Answers (allBut [.kept, .draws]) s (execPorRelease sideB legacy wakeLow train s) := by
  unfold execPorRelease
  refine .step fun h => ?_
  split
  · exact .le (.startFrom (.restoreCounters (.fresh (.parts [.supply] h))))
  · exact .le (.startFrom (.fresh (.parts [.supply] h)))
  · exact .le h
  · exact .le h
  · exact .le h

end Answers

/-! A departure from SERVICE does not wait where none has begun (R302). -/

theorem cmdFailed_leaving (s : State) (p : Nat) (c : PCmd) : (s.cmdFailed p c).mode.leaving = s.mode.leaving := by
  unfold State.cmdFailed
  dsimp only
  split
  · rfl
  · exact raiseWith_keeps (unraised_view (·.mode.leaving)) _ _ _ _ _

theorem sendCmd_leaving (s : State) (p : Nat) (c : PCmd) (ack pecOk : Bool) (v : Nat) : (s.sendCmd p c ack pecOk v).mode.leaving = s.mode.leaving := by
  have hpage : (s.pageZero p c.berth).mode = s.mode := (Changes.pageZero (.refl s)).same .mode
  have hdone : (s.cmdDone p c v).mode = s.mode := (Changes.cmdDone (.refl s)).same .mode
  unfold State.sendCmd
  split
  · split
    · rw [hpage]
    · exact cmdFailed_leaving s p c
  · split
    · rw [hdone]
    · exact cmdFailed_leaving s p c

theorem finishLeaving_none {s : State} (h : s.mode.leaving = none) : s.finishLeaving = s := by
  unfold State.finishLeaving
  rw [h]

theorem partnerCommandSend_staying {s : State} {p : Nat} {ack pecOk : Bool} {v : BitVec 16} (h : s.mode.leaving = none) :
    Answers (raiseParts.append [.berths, .ports]) s (execPartnerCommandSend p ack pecOk v s) := by
  unfold execPartnerCommandSend
  refine .step fun hs => .ite (.le hs) ?_
  split
  · exact .le hs
  · rw [finishLeaving_none ((sendCmd_leaving ..).trans h)]
    exact .le (.sendCmd hs)

/-- A command that answers within one list of parts, and within a shorter one under a condition, does both with the one state it answers. -/
theorem Answers.only_and {l k m n : List Part} {s : State} {o : Host.Outcome State Fault Refusal} {c : Prop} (h : Answers m s o) (hc : c → Answers n s o)
    (hm : partsIn m l = true := by decide +kernel) (hn : partsIn n k = true := by decide +kernel) :
    ∃ t, o = .next t ∧ Safety.changesOnly l s t ∧ (c → Safety.changesOnly k s t) := by
  obtain ⟨t, rfl, ht⟩ := h
  refine ⟨t, rfl, (Changes.le ht hm).only, fun x => ?_⟩
  obtain ⟨u, hu, hut⟩ := hc x
  obtain rfl := Host.Outcome.next.inj hu
  exact (Changes.le hut hn).only

/-- Settles O40: each of its commands changes the parts that the operations it is made of change, all of which are listed. -/
theorem framesStartAndMeasure : Obligations.FramesStartAndMeasure := by
  unfold Obligations.FramesStartAndMeasure
  exact ⟨fun _ _ => Answers.only .auxContactConfirm,
    fun _ => Answers.only .descentProgramsStart,
    fun _ => Answers.only .counterBlockPeriodicCommit,
    fun _ _ => Answers.only .xtalRetry,
    fun _ => Answers.only .canRetentionTimeout,
    fun _ _ _ _ => Answers.only .groupEnableWrite,
    fun _ _ => Answers.only .stuckClearCount,
    fun _ _ _ => Answers.only .fastComparatorDecision,
    fun _ _ _ _ => Answers.only .calCommand,
    fun _ _ => Answers.only .calComplete,
    fun _ _ _ => Answers.only .seqLengthWrite,
    fun _ => Answers.only .adcLapStart⟩

/-- Settles O41: each of its commands changes the parts that the operations it is made of change, all of which are listed. -/
theorem framesLoopsAndStages : Obligations.FramesLoopsAndStages := by
  unfold Obligations.FramesLoopsAndStages
  exact ⟨fun _ => Answers.only .idleBanksLoaded,
    fun _ _ _ => Answers.only .stageStart,
    fun _ _ => Answers.only .softStartEnd,
    fun _ _ _ => Answers.only .stageStop,
    fun _ _ _ => Answers.only .phaseDrop,
    fun _ _ _ => Answers.only .phaseReturn,
    fun _ _ => Answers.only .holdWatchExpired,
    fun _ _ _ _ => Answers.only .pgTargetWrite,
    fun _ _ => Answers.only .rcUpdate,
    fun _ _ _ _ => Answers.only .rcReset,
    fun _ _ => Answers.only .substitutionExpired⟩

/-- Settles O42: each of its commands changes the parts that the operations it is made of change, all of which are listed. -/
theorem framesPowerAndFeeds : Obligations.FramesPowerAndFeeds := by
  unfold Obligations.FramesPowerAndFeeds
  exact ⟨fun _ => Answers.only .spmRecompute,
    fun _ _ _ _ => Answers.only .phaseShareTrimWrite,
    fun _ => Answers.only .handoverEnd,
    fun _ _ => Answers.only .sourceQualified,
    fun _ _ _ => Answers.only .handbackCommand,
    fun _ _ => Answers.only .feedGateOn,
    fun _ _ _ => Answers.only .feedEnableOn,
    fun _ _ _ => Answers.only .feedEnableOff,
    fun _ _ => Answers.only .inrushChop,
    fun _ _ => Answers.only .inrushOffExpired,
    fun _ _ => Answers.only .gateConfirmExpired,
    fun _ _ => Answers.only .gateFeedbackLost,
    fun _ _ => Answers.only .feedRetry,
    fun _ _ => Answers.only .feedRetryReset,
    fun _ => Answers.only .thermalDerateUpdate,
    fun _ _ _ => Answers.only .ageReset,
    fun _ => Answers.only .replan,
    fun _ => Answers.only .ageingCommit⟩

/-- Settles O43: each of its commands changes the parts that the operations it is made of change, all of which are listed. -/
theorem framesStringsAndCharging : Obligations.FramesStringsAndCharging := by
  unfold Obligations.FramesStringsAndCharging
  exact ⟨fun _ _ => Answers.only .probeStart,
    fun _ => Answers.only .probeShiftEnd,
    fun _ _ _ => Answers.only .slackRequest,
    fun _ _ => Answers.only .slackAutoRequest,
    fun _ _ _ => Answers.only .slackAbort,
    fun _ _ => Answers.only .slackRampDownEnd,
    fun _ _ => Answers.only .slackRestPoint,
    fun _ _ => Answers.only .slackComplete,
    fun _ _ => Answers.only .slackConditionAbort,
    fun _ _ _ _ => Answers.only .stringReplaced,
    fun _ => Answers.only .estimatorCommit,
    fun _ _ => Answers.only .stringShedOpen,
    fun _ _ _ => Answers.only .chargeCommandStart,
    fun _ _ _ => Answers.only .chargeCommandStop,
    fun _ _ => Answers.only .pulseEnd,
    fun _ _ => Answers.only .restEnd,
    fun _ _ _ => Answers.only .eqRequest,
    fun _ _ _ => Answers.only .eqAbort,
    fun _ _ => Answers.only .finalRestSkip,
    fun _ => Answers.only .bsInWindow⟩

/-- Settles O44: each of its commands changes the parts that the operations it is made of change, all of which are listed. -/
theorem framesRails : Obligations.FramesRails := by
  unfold Obligations.FramesRails
  exact ⟨fun _ _ _ => Answers.only .seqEnd,
    fun _ _ _ => Answers.only .seqOff,
    fun _ _ _ => Answers.only .seqDelay,
    fun _ _ _ => Answers.only .seqMark,
    fun _ _ => Answers.only .stageRailStart,
    fun _ _ _ => Answers.only .groupRise,
    fun _ _ _ => Answers.only .groupAbortRise,
    fun _ _ _ => Answers.only .groupLower,
    fun _ _ _ => Answers.only .railMarginHigh,
    fun _ _ _ => Answers.only .railMarginLow,
    fun _ _ _ => Answers.only .railMarginOff⟩

/-- Settles O45: each of its commands changes the parts that the operations it is made of change, all of which are listed. -/
theorem framesFaultsAndPair : Obligations.FramesFaultsAndPair := by
  unfold Obligations.FramesFaultsAndPair
  exact ⟨fun _ _ _ => Answers.only .faultClearWindowEnd,
    fun _ _ _ _ => Answers.only .sevWrite,
    fun _ _ _ _ => Answers.only .sevQueryWrite,
    fun _ _ _ _ => Answers.only .irqPendingClear,
    fun _ _ => Answers.only .emcyInhibitExpired,
    fun _ => Answers.only .heartbeatSend,
    fun _ _ _ _ => Answers.only .electionFrameReceived,
    fun _ => Answers.only .electionFrameSend,
    fun _ => Answers.only .alignmentSend,
    fun _ _ _ _ _ => Answers.only .alignmentReceived,
    fun _ _ _ _ _ _ _ => Answers.only .mirrorWriteReceived,
    fun _ _ => Answers.only .kopolFrameRetransmit,
    fun _ _ _ _ => Answers.only .laneRetrain,
    fun _ => Answers.only .healthUpdate,
    fun _ => Answers.only .engStopSelfRelease,
    fun _ => Answers.only .supStallSelfRelease,
    fun _ => Answers.only .selfReleaseOutputsLow,
    fun _ _ => Answers.only .handoverRequest,
    fun _ _ => Answers.only .handoverCancel,
    fun _ => Answers.only .handoverTimeout,
    fun _ => Answers.only .supervisoryCoresResume⟩

/-- Settles O46: each of its commands changes the parts that the operations it is made of change, all of which are listed. -/
theorem framesDictionary : Obligations.FramesDictionary := by
  unfold Obligations.FramesDictionary
  exact ⟨fun _ _ _ => Answers.only .sdoAbortTransfer,
    fun _ _ _ => Answers.only .sdoSegmentTimeout,
    fun _ _ _ _ _ _ _ => Answers.only .nireoRead,
    fun _ _ _ _ _ _ => Answers.only .nireoDomainBegin,
    fun _ _ _ _ _ _ _ => Answers.only .nireoDomainSegment,
    fun _ _ _ _ _ => Answers.only .nireoDomainAbort,
    fun _ _ _ _ => Answers.only .nireoOpenSession,
    fun _ _ _ => Answers.only .nireoCloseSession,
    fun _ _ => Answers.only .nireoFrameDropped,
    fun _ _ => Answers.only .sessionIdleTimeout,
    fun _ _ _ _ => Answers.only .domainWriteIdleTimeout,
    fun _ => Answers.only .hsStatusCommand,
    fun _ => Answers.only .hsResponseCommand,
    fun _ _ => Answers.only .accessChallengeRead,
    fun _ _ _ _ => Answers.only .accessResponse,
    fun _ _ => Answers.only .accessIdleTimeout⟩

/-- Settles O47: each of its commands changes the parts that the operations it is made of change, all of which are listed. -/
theorem framesCanOpen : Obligations.FramesCanOpen := by
  unfold Obligations.FramesCanOpen
  exact ⟨fun _ _ => Answers.only .pgUpdate,
    fun _ _ => Answers.only .nmtStart,
    fun _ _ => Answers.only .nmtStop,
    fun _ _ => Answers.only .nmtEnterPreOperational,
    fun _ _ => Answers.only .nmtResetNode,
    fun _ _ => Answers.only .nmtResetCommunication,
    fun _ _ _ _ _ => Answers.only .lssSwitchState,
    fun _ _ _ => Answers.only .lssConfigureNodeId,
    fun _ _ _ => Answers.only .lssConfigureBitTiming,
    fun _ _ => Answers.only .lssStore,
    fun _ _ _ => Answers.only .lssInquire,
    fun _ _ _ _ _ _ => Answers.only .lssFastscan,
    fun _ => Answers.only .timeProduce,
    fun _ _ => Answers.only .tpdoEvent,
    fun _ _ => Answers.only .tpdoEventTimer,
    fun _ _ => Answers.only .canHeartbeatProduce,
    fun _ _ => Answers.only .canBusOffRecovery,
    fun _ _ _ => Answers.only .canHeartbeatReceived,
    fun _ _ => Answers.only .tpdoInhibitExpired⟩

/-- Settles O48: each of its commands changes the parts that the operations it is made of change, all of which are listed. -/
theorem framesTimeAndEthernet : Obligations.FramesTimeAndEthernet := by
  unfold Obligations.FramesTimeAndEthernet
  exact ⟨fun _ _ _ => Answers.only .ethArpRequest,
    fun _ _ _ => Answers.only .icmpEchoRequest,
    fun _ _ => Answers.only .ptpSyncSend,
    fun _ _ => Answers.only .ptpAnnounceSend,
    fun _ _ _ => Answers.only .ptpDelayReqReceived,
    fun _ _ => Answers.only .ptpAnnounceTimeout,
    fun _ => Answers.only .ppsEdge,
    fun _ => Answers.only .traceableTimeout,
    fun _ => Answers.only .holdoverEnd,
    fun _ _ _ => Answers.only .ethLinkUp,
    fun _ _ => Answers.only .ethFrameDropped⟩

/-- Settles O49: each of its commands changes the parts that the operations it is made of change, all of which are listed. -/
theorem framesTwoWireAndMemory : Obligations.FramesTwoWireAndMemory := by
  unfold Obligations.FramesTwoWireAndMemory
  exact ⟨fun _ _ => Answers.only .berthPresenceLow,
    fun _ _ _ => Answers.only .alertResponseRead,
    fun _ _ _ _ => Answers.only .hostNotifyReceived,
    fun _ _ _ _ _ => Answers.only .mailboxBlockWrite,
    fun _ _ => Answers.only .mailboxBlockRead,
    fun _ _ => Answers.only .twTransactionBoundary,
    fun _ _ _ _ => Answers.only .hostCommand,
    fun _ _ => Answers.only .mailboxBlockTaken,
    fun _ => Answers.only .dramFillComplete,
    fun _ _ => Answers.only .bucketLeakTick,
    fun _ _ _ => Answers.only .eccModeChange,
    fun _ _ _ => Answers.only .flipArm⟩

/-- Settles O50: each of its commands changes the parts that the operations it is made of change, all of which are listed. -/
theorem framesLogbookAndImages : Obligations.FramesLogbookAndImages := by
  unfold Obligations.FramesLogbookAndImages
  exact ⟨fun _ _ => Answers.only .freezeStart,
    fun _ _ => Answers.only .freezeAbort,
    fun _ _ => Answers.only .freezeRelease,
    fun _ => Answers.only .freezeLimitExpired,
    fun _ _ _ => Answers.only .readFromWrite,
    fun _ _ => Answers.only .readBlock,
    fun _ _ _ _ _ _ => Answers.only .captureTrigger,
    fun _ _ => Answers.only .triggerNow,
    fun _ _ => Answers.only .windowLastFrame,
    fun _ _ => Answers.only .windowCommit,
    fun _ _ => Answers.only .windowAbandon,
    fun _ _ _ _ => Answers.only .windowRelease,
    fun _ => Answers.only .tideFrameBoundary,
    fun _ _ _ _ _ _ => Answers.only .imageTransferReceived,
    fun _ => Answers.only .updateTransferComplete,
    fun _ _ _ => Answers.only .updateAbort,
    fun _ _ => Answers.only .hitlessStart,
    fun _ _ => Answers.only .hitlessAbort,
    fun _ => Answers.only .hitlessCommitPoint,
    fun _ => Answers.only .hitlessResume,
    fun _ => Answers.only .hitlessResumeTimeout,
    fun _ _ => Answers.only .pairUpdateStart,
    fun _ _ => Answers.only .pairUpdateAbort⟩

/-- Settles O51: each of its commands changes the parts that the operations it is made of change, all of which are listed. -/
theorem completionStartAndSupply : Obligations.CompletionStartAndSupply := by
  unfold Obligations.CompletionStartAndSupply
  exact ⟨fun _ _ _ _ _ => Answers.only .porRelease,
    fun _ _ => Answers.only .dictionaryOnline,
    fun _ => Answers.only .snsEngRelease,
    fun _ _ => Answers.only .prechargeEnd,
    fun _ => Answers.only .enterActive,
    fun _ => Answers.only .noSourceDeclared,
    fun _ _ => Answers.only .modeRequestRise,
    fun _ _ => Answers.only .modeRequestService,
    fun _ _ => Answers.only .modeRequestActive,
    fun _ _ => Answers.only .modeRequestDescent,
    fun _ _ => Answers.only .modeRequestMoored,
    fun _ _ => Answers.only .modeRequestLayup,
    fun _ _ _ _ => Answers.only .modeRequestLeaveService,
    fun _ => Answers.only .tripReaction,
    fun _ _ => Answers.only .descentComplete,
    fun _ => Answers.only .restartHoldoffEnd,
    fun _ _ _ => Answers.only .powerFailWarning,
    fun _ => Answers.only .rstNAsserted,
    fun _ _ => Answers.only .rstNReleased,
    fun _ _ => Answers.only .supplyDipRestart,
    fun _ => Answers.only .xtalFail,
    fun _ => Answers.only .porAsserted⟩

/-- Settles O52: each of its commands changes the parts that the operations it is made of change, all of which are listed. -/
theorem completionWakesAndMeasure : Obligations.CompletionWakesAndMeasure := by
  unfold Obligations.CompletionWakesAndMeasure
  exact ⟨fun _ => Answers.only .wakeNWake,
    fun _ _ => Answers.only .srcdetWake,
    fun _ _ _ => Answers.only .twAddressMatchWake,
    fun _ _ => Answers.only .canWake,
    fun _ _ _ => Answers.only .mooredAdcScan,
    fun _ => Answers.only .ownNReleaseWake,
    fun _ => Answers.only .aoWakeTimerExpired,
    fun _ _ => Answers.only .twMatchStretchTimeout,
    fun _ _ _ => Answers.only .layupEntry,
    fun _ _ _ => Answers.only .layupWake,
    fun _ _ => Answers.only .stuckRunDetected,
    fun _ _ => Answers.only .mclkReadbackFault,
    fun _ _ => Answers.only .adcLapEnd,
    fun _ _ _ _ => Answers.only .loopSampleAvailable,
    fun _ _ _ _ => Answers.only .adcEntryComplete,
    fun _ _ => Answers.only .tempSlot,
    fun _ _ => Answers.only .pdmReading,
    fun _ => Answers.only .vidUpdate,
    fun _ => Answers.only .ronUpdate,
    fun _ _ _ _ => Answers.only .bankCapEstimate⟩

/-- Settles O53: each of its commands changes the parts that the operations it is made of change, all of which are listed. -/
theorem completionLoopsAndStages : Obligations.CompletionLoopsAndStages := by
  unfold Obligations.CompletionLoopsAndStages
  exact ⟨fun _ _ _ => Answers.only .instanceRelease,
    fun _ _ _ => Answers.only .instanceRunEnd,
    fun _ _ => Answers.only .instanceCommit,
    fun _ _ => Answers.only .depWaitEnd,
    fun _ _ => Answers.only .loadPoint,
    fun _ _ => Answers.only .delayLineCalibration,
    fun _ _ _ => Answers.only .breakwaterTruncation,
    fun _ _ => Answers.only .fenderTruncation,
    fun _ => Answers.only .estopAsserted,
    fun _ => Answers.only .tripReadbackFault,
    fun _ _ => Answers.only .driveReadbackFault,
    fun _ _ => Answers.only .holdLimitExpired,
    fun _ _ => Answers.only .rcPhaseWrap,
    fun _ _ => Answers.only .rcRefTimeout,
    fun _ _ => Answers.only .rcUnlockTimeout,
    fun _ _ => Answers.only .observerRun⟩

/-- Settles O54: each of its commands changes the parts that the operations it is made of change, all of which are listed. -/
theorem completionPowerAndStrings : Obligations.CompletionPowerAndStrings := by
  unfold Obligations.CompletionPowerAndStrings
  exact ⟨fun _ => Answers.only .spmUpdate,
    fun _ => Answers.only .droopTrimUpdate,
    fun _ => Answers.only .inputLoss,
    fun _ => Answers.only .handbackStart,
    fun _ => Answers.only .handbackRampEnd,
    fun _ _ => Answers.only .feedReverseOff,
    fun _ _ => Answers.only .feedLost,
    fun _ _ => Answers.only .inrushTimeout,
    fun _ _ => Answers.only .gateConfirmTimeout,
    fun _ _ => Answers.only .gateStuckOn,
    fun _ _ => Answers.only .feedShort,
    fun _ _ => Answers.only .meterTimeout,
    fun _ _ => Answers.only .estimatorStep,
    fun _ _ => Answers.only .chargeTimerExpired,
    fun _ _ => Answers.only .chargePauseTimeout,
    fun _ => Answers.only .bsSettleExpired,
    fun _ => Answers.only .bsTimeout,
    fun _ _ => Answers.only .unanchoredTimeout,
    fun _ _ => Answers.only .slackRefusalTimeout,
    fun _ _ _ => Answers.only .stringInputTimeout,
    fun _ _ => Answers.only .auxContactMismatch,
    fun _ _ _ => Answers.only .seqOn,
    fun _ _ _ => Answers.only .seqWaitgood,
    fun _ _ _ => Answers.only .seqWaitlow,
    fun _ _ _ => Answers.only .seqWaitgroup,
    fun _ _ _ => Answers.only .railRunFault,
    fun _ _ _ => Answers.only .mooredRailFault,
    fun _ _ _ => Answers.only .railDescentFault,
    fun _ _ => Answers.only .railDescentOvervoltage,
    fun _ _ => Answers.only .stageRailRiseTimeout⟩

/-- Settles O55: each of its commands changes the parts that the operations it is made of change, all of which are listed. -/
theorem completionFaultsAndPair : Obligations.CompletionFaultsAndPair := by
  unfold Obligations.CompletionFaultsAndPair
  exact ⟨fun _ => Answers.only .lockoutEntry,
    fun _ => Answers.only .lockstepMismatch,
    fun _ => Answers.only .d2dTransferFail,
    fun _ _ _ _ _ _ => Answers.only .heartbeatReceived,
    fun _ => Answers.only .heartbeatMiss,
    fun _ => Answers.only .twinAbsentTimeout,
    fun _ => Answers.only .electionTimeout,
    fun _ _ _ _ => Answers.only .trackingMessageReceived,
    fun _ _ _ _ _ => Answers.only .snapshotFragmentReceived,
    fun _ _ => Answers.only .laneDown,
    fun _ => Answers.only .ownNReleased,
    fun _ => Answers.only .ownReadbackFault,
    fun _ => Answers.only .handoverRelease⟩

/-- Settles O56: each of its commands changes the parts that the operations it is made of change, all of which are listed. -/
theorem completionDictionaryAndNetworks : Obligations.CompletionDictionaryAndNetworks := by
  unfold Obligations.CompletionDictionaryAndNetworks
  exact ⟨fun _ _ _ _ _ => Answers.only .pairCommonWrite,
    fun _ _ _ _ _ => Answers.only .objectWrite,
    fun _ _ _ _ => Answers.only .sdoRequest,
    fun _ _ _ _ _ _ _ => Answers.only .nireoWrite,
    fun _ _ _ _ _ _ => Answers.only .nireoDomainEnd,
    fun _ _ _ _ => Answers.only .nireoBatchWrite,
    fun _ _ _ => Answers.only .hsFrameCommand,
    fun _ _ _ => Answers.only .accessDrop,
    fun _ _ _ => Answers.only .storeSave,
    fun _ _ _ => Answers.only .restoreLoad,
    fun _ _ _ => Answers.only .legacyModeWrite,
    fun _ _ _ _ _ => Answers.only .nireoCanFdSegment,
    fun _ => Answers.only .syncProduce,
    fun _ _ => Answers.only .syncReceived,
    fun _ _ _ _ => Answers.only .rpdoReceived,
    fun _ _ _ => Answers.only .canHeartbeatConsumerTimeout,
    fun _ _ => Answers.only .canBusOff,
    fun _ _ => Answers.only .ethLinkDown,
    fun _ _ _ => Answers.only .ptpAnnounceReceived,
    fun _ _ _ => Answers.only .timeSetSeconds,
    fun _ _ _ => Answers.only .phaseAdjust,
    fun _ _ _ => Answers.only .traceableWrite⟩

/-- Settles O57: each of its commands changes the parts that the operations it is made of change, all of which are listed. -/
theorem completionTwoWire : Obligations.CompletionTwoWire := by
  unfold Obligations.CompletionTwoWire
  exact ⟨fun _ _ _ => Answers.only .twScan,
    fun _ _ => Answers.only .berthPresenceHigh,
    fun _ _ _ => Answers.only .berthDisable,
    fun _ _ => Answers.only .twArbitrationLost,
    fun _ _ => Answers.only .twSclTimeout,
    fun _ _ _ => Answers.only .twBusRecovery,
    fun _ _ => Answers.only .pollRunDue,
    fun _ _ => Answers.only .scriptEnd,
    fun _ _ _ => Answers.only .scriptPage,
    fun _ _ _ _ _ => Answers.only .scriptRdb,
    fun _ _ _ _ _ => Answers.only .scriptRdw,
    fun _ _ _ _ _ => Answers.only .scriptRdk,
    fun _ _ _ => Answers.only .scriptWrb,
    fun _ _ _ => Answers.only .scriptWrw,
    fun _ _ _ => Answers.only .scriptSnd,
    fun _ _ => Answers.only .scriptCnv,
    fun _ _ => Answers.only .scriptTst,
    fun _ _ => Answers.only .scriptRep,
    fun _ _ => Answers.only .scriptWait,
    fun _ _ => Answers.only .scriptXtr,
    fun _ _ _ _ _ => Answers.only_and .partnerCommandSend partnerCommandSend_staying,
    fun _ _ _ => Answers.only .listenedTransaction⟩

/-- Settles O58: each of its commands changes the parts that the operations it is made of change, all of which are listed. -/
theorem completionMemoryAndImages : Obligations.CompletionMemoryAndImages := by
  unfold Obligations.CompletionMemoryAndImages
  exact ⟨fun _ _ _ _ => Answers.only .trainCommand,
    fun _ _ _ _ _ h => Answers.only (.dramRead h),
    fun _ _ _ _ _ h => Answers.only (.dramWrite h),
    fun _ _ => Answers.only .scrubBurst,
    fun _ => Answers.only .scrubLapOverdue,
    fun _ _ => Answers.only .dramAlert,
    fun _ _ _ _ _ => Answers.only .mramWrite,
    fun _ _ => Answers.only .mramReadUe,
    fun _ _ _ _ => Answers.only .sramScrubRead,
    fun _ _ _ _ => Answers.only .sramUncorrectable,
    fun _ _ => Answers.only .recordArrival,
    fun _ => Answers.only .recordCommit,
    fun _ _ => Answers.only .captureFrame,
    fun _ _ => Answers.only .carrierBoundary,
    fun _ _ _ _ _ => Answers.only .updateChecksDone,
    fun _ => Answers.only .hitlessRevertTimeout,
    fun _ _ _ _ => Answers.only .pilotExit⟩

end Sys2Proof.Machine

namespace Sys2Proof.Machine
open Safety (Part)

-- The proofs below are elaborated one after another, as those above.
set_option Elab.async false

/-! Modulator inputs and their groups. -/

/-- A source is active after its detection, where it may be raised in a state with the same variant and the same powered regions. -/
theorem raise_isActive_from {s t : State} {k : Key} {d : Nat} (hm : s.mayRaise k = true) (hp : t.part = s.part := by rfl)
    (hr : t.mode.regions = s.mode.regions := by rfl) : (t.raise k d).isActive k = true :=
  raise_isActive t k d ((mayRaise_congr hp hr k).trans hm)

/-- What the objects' values are read from (R378). -/
theorem raw_congr {s t : State} (hc : t.cfg = s.cfg) (hk : t.kept = s.kept) (hi : t.img = s.img) (hs : t.supply = s.supply)
    (hl : t.net.legacy = s.net.legacy) : t.raw = s.raw := by
  have himg : t.imageValues = s.imageValues := by
    simp only [State.imageValues, State.image, hi, hs]
  have hheld : t.held? = s.held? := by
    funext idx sub
    simp only [State.held?, hc, hk, himg]
  funext idx sub
  simp only [State.raw, State.tableDefault, State.ruleDefault, State.legacy, hheld, hl]

theorem modIn_setMod_same {s : State} {md : Nat} (v : ModInput) (h : md < s.mods.length) : (s.setMod md v).modIn md = v := nth_put_same _ _ _ _ h

theorem modIn_setMod_other {s : State} {md n : Nat} (v : ModInput) (h : n ≠ md) : (s.setMod md v).modIn n = s.modIn n := nth_put_other _ _ _ _ _ h.symm

theorem modIn_congr {s t : State} (h : t.mods = s.mods) (md : Nat) : t.modIn md = s.modIn md := congrArg (fun l => nth l md ({} : ModInput)) h

theorem group_setGroup_same {s : State} {g : Nat} (v : InputGroup) (h : g < s.groups.length) : (s.setGroup g v).group g = v := nth_put_same _ _ _ _ h

theorem group_setGroup_other {s : State} {g n : Nat} (v : InputGroup) (h : g ≠ n) : (s.setGroup g v).group n = s.group n := nth_put_other _ _ _ _ _ h

theorem nth_beyond {α : Type} {l : List α} {i : Nat} {d : α} (h : l.length ≤ i) : nth l i d = d := by
  rw [nth, List.getD_eq_getElem?_getD, List.getElem?_eq_none h, Option.getD_none]

theorem group_beyond {s : State} {g : Nat} (h : s.groups.length ≤ g) : s.group g = {} := nth_beyond h

theorem group_congr {s t : State} (h : t.groups = s.groups) (g : Nat) : t.group g = s.group g := congrArg (fun l => nth l g ({} : InputGroup)) h

/-- A relation between a state and a later one that composes, and that what touches no input, no group and no fault, a raise and the start of a clear
window respect. -/
structure Steady (R : State → State → Prop) : Prop where
  refl : ∀ s, R s s
  trans : ∀ {s t u}, R s t → R t u → R s u
  quiet : ∀ {l s t}, Changes l s t → listed l .faults = false → listed l .mods = false → listed l .groups = false → R s t
  clearing : ∀ s k, R s (s.clearing k)
  raise : ∀ s k d, R s (s.raise k d)

/-- How an input and its group stand after what may stop the group: the instant of the last sample stays, and where the group still runs, the frames do. -/
structure SampleStands (md : Nat) (s t : State) : Prop where
  availAt : (t.modIn md).availAt = (s.modIn md).availAt
  frames : (t.group (md / 12)).running = true → (t.modIn md).frames = (s.modIn md).frames ∧ (s.group (md / 12)).running = true

/-- An input whose group is shed. -/
def ModInput.stopped (v : ModInput) : ModInput :=
  { v with
    valid := false, validOld := false, frames := 0, hist := [], fastBits := [], fastSeen := 0, highRun := 0, lowRun := 0, high := false, low := false
    calBad := v.calBad || (v.cal == 1 && decide (v.calCount < 4096)) }

/-- A SHED of a group stops the group, then each of its inputs. -/
theorem shedGroup_eq (s : State) (g : Nat) : ∃ s1 : State, s1.mods = s.mods ∧
    s1.groups = (s.setGroup g { s.group g with running := false, shed := true }).groups ∧
      s.shedGroup g = forUnits ((List.range 12).map (12 * g + ·)) (fun t n => t.setMod n (t.modIn n).stopped) s1 := by
  unfold State.shedGroup
  extract_lets _ s1 held _ s2
  exact ⟨s2, rfl, rfl, rfl⟩

namespace SampleStands
variable {md : Nat} {s t u : State}

theorem refl (s : State) : SampleStands md s s := ⟨rfl, fun h => ⟨rfl, h⟩⟩

theorem trans (h : SampleStands md s t) (h' : SampleStands md t u) : SampleStands md s u where
  availAt := h'.availAt.trans h.availAt
  frames hu := by
    obtain ⟨hut, ht⟩ := h'.frames hu
    obtain ⟨hts, hs⟩ := h.frames ht
    exact ⟨hut.trans hts, hs⟩

theorem of_eq (hm : t.mods = s.mods) (hg : t.groups = s.groups) : SampleStands md s t where
  availAt := congrArg ModInput.availAt (modIn_congr hm md)
  frames h := ⟨congrArg ModInput.frames (modIn_congr hm md), group_congr hg _ ▸ h⟩

theorem quiet {l : List Part} (h : Changes l s t) (hm : listed l .mods = false := by decide +kernel) (hg : listed l .groups = false := by decide +kernel) :
    SampleStands md s t := of_eq (h.same .mods hm) (h.same .groups hg)

theorem ite {c : Prop} [Decidable c] (ht : SampleStands md s t) (hu : SampleStands md s u) : SampleStands md s (if c then t else u) := by
  split
  · exact ht
  · exact hu

/-- One update of each input of a group keeps the inputs of other groups, and what it keeps of every input. -/
theorem forInputs (g : Nat) (ns : List Nat) (f : ModInput → ModInput) (hf : ∀ v, (f v).availAt = v.availAt) (s : State) :
    ((forUnits (ns.map (12 * g + ·)) (fun t n => t.setMod n (f (t.modIn n))) s).modIn md).availAt = (s.modIn md).availAt ∧
      ((∀ n ∈ ns, md ≠ 12 * g + n) → (forUnits (ns.map (12 * g + ·)) (fun t n => t.setMod n (f (t.modIn n))) s).modIn md = s.modIn md) := by
  unfold forUnits
  induction ns generalizing s with
  | nil => exact ⟨rfl, fun _ => rfl⟩
  | cons n ns ih =>
    obtain ⟨hat, hsame⟩ := ih (s.setMod (12 * g + n) (f (s.modIn (12 * g + n))))
    refine ⟨hat.trans ?_, fun hne => (hsame fun m hm => hne m (List.mem_cons_of_mem n hm)).trans ?_⟩
    · by_cases he : 12 * g + n = md
      · subst he
        by_cases hl : 12 * g + n < s.mods.length
        · rw [modIn_setMod_same _ hl, hf]
        · exact congrArg ModInput.availAt (modIn_congr (put_beyond _ _ _ (Nat.le_of_not_lt hl)) _)
      · rw [modIn_setMod_other _ (Ne.symm he)]
    · exact modIn_setMod_other _ (hne n (List.mem_cons_self ..))

/-- A group that is shed runs no more, and its inputs keep the instants of their samples; nothing of another group changes. -/
theorem shedGroup (s : State) (g : Nat) : SampleStands md s (s.shedGroup g) := by
  obtain ⟨s1, hm, hg, he⟩ := shedGroup_eq s g
  have hgroups : (s.shedGroup g).groups = (s.setGroup g { s.group g with running := false, shed := true }).groups := by
    rw [he, forUnits_keeps State.groups _ _ (fun t n => setMod_groups t n _), hg]
  obtain ⟨hat, hsame⟩ := forInputs (md := md) g (List.range 12) ModInput.stopped (fun _ => rfl) s1
  rw [← he] at hat hsame
  refine ⟨hat.trans (congrArg ModInput.availAt (modIn_congr hm md)), fun hrun => ?_⟩
  rw [group_congr hgroups] at hrun
  have hne : g ≠ md / 12 := by
    rintro rfl
    by_cases hl : md / 12 < s.groups.length
    · rw [group_setGroup_same _ hl] at hrun
      exact absurd hrun Bool.false_ne_true
    · rw [group_beyond ((put_length _ _ _).trans_le (Nat.le_of_not_lt hl))] at hrun
      exact absurd hrun (by decide)
  rw [group_setGroup_other _ hne] at hrun
  refine ⟨congrArg ModInput.frames ((hsame fun n hn => ?_).trans (modIn_congr hm md)), hrun⟩
  have := List.mem_range.mp hn
  omega

theorem shedReaction (s : State) (k : Key) : SampleStands md s (s.shedReaction k) := by
  unfold State.shedReaction
  refine ite (quiet (.shedStage (.refl s))) (ite (quiet (.shedFeed (.refl s))) (ite (quiet (.shedStage (.refl s))) (ite (quiet (.stopInst (.setInst (.refl s)))) ?_)))
  refine ite (quiet (.listShed (.foldl (.refl s) (fun h => .shedInst h)))) (ite (quiet (.shedString (.refl s))) (ite (shedGroup s _) ?_))
  exact ite (quiet (.listShed (.forUnits (.refl s) .shedStage))) (quiet (.listShed (.refl s)))

theorem react (s : State) (k : Key) (cls : Nat) : SampleStands md s (s.react k cls) := by
  unfold State.react
  exact ite (shedReaction s k) (ite (of_eq rfl rfl) (ite (refl s) (ite (of_eq rfl rfl) (refl s))))

theorem raiseNew (s : State) (k : Key) (d : Nat) (data : List Byte) (always : Bool) : SampleStands md s (s.raiseNew k d data always) := by
  unfold State.raiseNew
  extract_lets c sup _ r l _ s1 s2 s3
  have h2 : SampleStands md s s2 := of_eq rfl rfl
  have h3 : SampleStands md s s3 := ite (h2.trans (quiet (.emcy (.refl s2)))) h2
  exact ite h3 (h3.trans (react s3 k c))

theorem raise (s : State) (k : Key) (d : Nat) : SampleStands md s (s.raise k d) := by
  unfold State.raise State.raiseWith
  split
  · exact quiet (.redetect (.refl s))
  · exact ite (raiseNew s k d [] false) (refl s)

end SampleStands

theorem steady_sampleStands (md : Nat) : Steady (SampleStands md) where
  refl := .refl
  trans := .trans
  quiet h _ hm hg := .quiet h hm hg
  clearing s k := .quiet (.clearing (.refl s))
  raise := .raise

namespace Steady
variable {R : State → State → Prop} (h : Steady R)

theorem ite {c : Prop} [Decidable c] {s t u : State} (ht : R s t) (hu : R s u) : R s (if c then t else u) := by
  split
  · exact ht
  · exact hu

include h

theorem forUnits {f : State → Nat → State} (hf : ∀ t n, R t (f t n)) (l : List Nat) (s : State) : R s (forUnits l f s) := by
  unfold Machine.forUnits
  induction l generalizing s with
  | nil => exact h.refl s
  | cons n l ih => exact h.trans (hf s n) (ih _)

/-- What touches no input, no group and no fault, after a state so far. -/
theorem andThen {l : List Part} {s t u : State} (ht : R s t) (hu : Changes l t u) (hf : listed l .faults = false := by decide +kernel)
    (hm : listed l .mods = false := by decide +kernel) (hg : listed l .groups = false := by decide +kernel) : R s u :=
  h.trans ht (h.quiet hu hf hm hg)

theorem spmDetail (s : State) (d : Nat) (c : Bool) : R s (s.spmDetail d c) := by
  unfold State.spmDetail
  extract_lets _ s1 _ l s2
  have h1 : R s s1 := ite (h.andThen (h.refl s) (.parts [.spm] (.refl s))) (h.refl s)
  have h2 : R s s2 := h.andThen h1 (.parts [.spm] (.refl s1))
  exact ite (ite h1 (h.trans (h.andThen h1 (.parts [.spm] (.refl s1))) (h.raise _ _ _))) (ite (h.trans h2 (h.clearing _ _)) h2)

theorem abandonHandback (s : State) : R s s.abandonHandback := by
  unfold State.abandonHandback
  extract_lets src _ _ s1 s2 _ s3
  have h1 : Changes [.feeds, .spm] s s1 := .le (.cond (.setFeed (.gateOff (.refl s))) (.parts [.spm] (.refl s)))
  have h3 : R s s3 := h.andThen (h.refl s) (.parts [.spm] (.enterSupply h1))
  exact ite (h.refl s) (h.andThen (h.trans h3 (h.spmDetail _ _ _)) (.spmCompute (.refl _)))

theorem raiseFeed (s : State) (f unit detail : Nat) : R s (s.raiseFeed f unit detail) := by
  unfold State.raiseFeed
  exact h.trans (h.andThen (h.refl s) (.cond (.refl s) (.setFeed (.refl s)))) (h.raise _ _ _)

theorem tripFeed (s : State) (f unit : Nat) : R s (s.tripFeed f unit) :=
  h.trans (h.andThen (h.refl s) (.setFeed (.gateOff (.refl s)))) (h.raiseFeed _ _ _ _)

theorem fuseStep (s : State) (f : Nat) (i dt : Rat) : R s (s.fuseStep f i dt) := by
  have hs : ∀ v, R s (s.setFeed f v) := fun v => h.andThen (h.refl s) (.setFeed (.refl s))
  exact ite (hs _) (ite (ite (h.trans (hs _) (h.tripFeed _ _ _)) (hs _)) (ite (h.refl s) (hs _)))

theorem meterStep (s : State) (f : Nat) (valid : Bool) (i dt : Rat) : R s (s.meterStep f valid i dt) := by
  have hs : ∀ v, R s (s.setFeed f v) := fun v => h.andThen (h.refl s) (.setFeed (.refl s))
  exact ite (h.trans (hs _) (h.clearing _ _)) (hs _)

theorem feedCurrentSample (s : State) (f md : Nat) : R s (s.feedCurrentSample f md) := by
  unfold State.feedCurrentSample
  extract_lets m i dt s1 s2
  have h1 : R s s1 := h.meterStep _ _ _ _ _
  have h2 : R s s2 := ite (h.trans h1 (h.fuseStep _ _ _ _)) h1
  exact h.andThen h2 (.parts [.spm] (.refl s2))

theorem feedVoltSample (s : State) (f md : Nat) : R s (s.feedVoltSample f md) := by
  unfold State.feedVoltSample
  extract_lets v u bus good fwd run done s1 s2 s3
  have h1 : R s s1 := h.andThen (h.refl s) (.setFeed (.refl s))
  have h2 : R s s2 := ite (h.trans (h.trans h1 (h.clearing _ _)) (h.clearing _ _)) h1
  have h3 : R s s3 := ite (h.trans h2 (h.abandonHandback _)) h2
  exact h.andThen h3 (.updatePg (.refl s3))

theorem feedSample (s : State) (md : Nat) : R s (s.feedSample md) :=
  h.forUnits (fun t f => by
    extract_lets t1
    have h1 : R t t1 := ite (h.feedCurrentSample _ _ _) (h.refl t)
    exact ite (h.trans h1 (h.feedVoltSample _ _ _)) h1) _ s

theorem setEst (s : State) (k : Nat) (e : Estimator) : R s (s.setEst k e) := h.andThen (h.refl s) (.setEst (.refl s))

theorem anchor (s : State) (k : Nat) (u : Rat) : R s (s.anchor k u) := by
  unfold State.anchor
  extract_lets e s1
  have h1 : R s s1 := h.setEst _ _ _
  exact h.trans (h.trans (h.trans h1 (h.clearing _ _)) (h.clearing _ _)) (h.clearing _ _)

theorem restPoint (s : State) (k : Nat) (v i r : Rat) : R s (s.restPoint k v i r) := by
  have he : ∀ e, R s (s.setEst k e) := h.setEst s k
  exact ite (he _) (ite (h.trans (he _) (h.anchor _ _ _)) (h.trans (he _) (h.setEst _ _ _)))

theorem setDisagree (s : State) (k : Nat) : R s (s.setDisagree k) := h.trans (h.setEst _ _ _) (h.raise _ _ _)

theorem verdict (s : State) (k : Nat) (dis : Bool) (soc : Rat) : R s (s.verdict k dis soc) := by
  unfold State.verdict
  extract_lets e s1 s2 _ s3
  have h2 : R s s2 := h.trans (h.setEst _ _ _) (h.raise _ _ _)
  have h3 : R s s3 := ite (h.trans h2 (h.trans (h.setEst _ _ _) (h.setDisagree _ _))) h2
  exact h.trans h3 (h.setEst _ _ _)

theorem endCheck (s : State) (k : Nat) : R s (s.endCheck k) := by
  unfold State.endCheck
  extract_lets e _ dis chg deb ds cs s1 s2
  have h1 : R s s1 := h.setEst _ _ _
  have h2 : R s s2 := ite (h.trans h1 (h.verdict _ _ _ _)) h1
  exact ite (h.trans h2 (h.verdict _ _ _ _)) h2

theorem endRelease (s : State) (k : Nat) : R s (s.endRelease k) := by
  unfold State.endRelease
  extract_lets e need hold s1 e1
  have hc : ∀ (t : State) e j, R t ((t.setEst k e).clearing j) := fun t e j => h.trans (h.setEst _ _ _) (h.clearing _ _)
  have h1 : R s s1 := ite (hc _ _ _) (h.refl s)
  exact ite (h.trans h1 (hc _ _ _)) h1

theorem rangeCheck (s : State) (k : Nat) : R s (s.rangeCheck k) := by
  unfold State.rangeCheck
  extract_lets e lim s1
  have h1 : R s s1 := ite (h.setDisagree _ _) (h.refl s)
  exact ite (h.trans h1 (h.raise _ _ _)) h1

theorem restCheck (s : State) (k : Nat) : R s (s.restCheck k) := by
  have he : ∀ e, R s (s.setEst k e) := h.setEst s k
  exact ite (h.trans (he _) (h.restPoint _ _ _ _ _)) (he _)

theorem estStep (s : State) (k : Nat) : R s (s.estStep k) := by
  unfold State.estStep
  extract_lets s1 _ _ s2 _ s3 _ _ s4 s5 s6 s7 _ s8
  have h3 : R s s3 := h.andThen (h.refl s) (.ocvNoise (.count (.cond (.countGap (.takeEst (.refl s))) (.takeEst (.refl s)))))
  have h4 : R s s4 := ite (h.trans (h.andThen h3 (.fuse (.refl s3))) (h.endCheck _ _)) (h.trans h3 (h.setEst _ _ _))
  have h5 : R s s5 := h.trans (h.trans h4 (h.endRelease _ _)) (h.rangeCheck _ _)
  have h6 : R s s6 := ite (h.trans h5 (h.restCheck _ _)) h5
  have h7 : R s s7 := h.andThen h6 (.report (.limits (.refl s6)))
  have h8 : R s s8 := ite (h.trans (h.andThen h7 (.setStr (.refl s7))) (h.clearing _ _)) h7
  exact ite (h.trans h8 (h.clearing _ _)) h8

theorem wakeRestCheck (s : State) (k : Nat) : R s (s.wakeRestCheck k) :=
  ite (h.trans (h.andThen (h.refl s) (.setStr (.refl s))) (h.restPoint _ _ _ _ _)) (h.refl s)

theorem closeMs (s : State) (k : Nat) : R s (s.closeMs k) := by
  unfold State.closeMs
  extract_lets e st m quiet ms s1 s2
  have h1 : R s s1 := h.setEst _ _ _
  have h2 : R s s2 := ite (h.trans h1 (h.estStep _ _)) h1
  exact h.trans (h.andThen h2 (.impedance (.refl s2))) (h.wakeRestCheck _ _)

theorem goodCurrent (s : State) (k : Nat) (y : Rat) : R s (s.goodCurrent k y) := by
  unfold State.goodCurrent
  extract_lets s1 e since _ s2
  have h2 : R s s2 := h.andThen (h.refl s) (.setStr (.cond (.countGap (.refl s)) (.refl s)))
  exact ite (h.trans (h.andThen h2 (.setStr (.refl s2))) (h.clearing _ _)) h2

theorem stringSampleOf (s : State) (md k : Nat) : R s (s.stringSampleOf md k) := by
  unfold State.stringSampleOf
  extract_lets e m y s1 s2 e2
  have h1 : R s s1 := ite (h.refl s) (h.closeMs _ _)
  have h2 : R s s2 := ite (ite (h.trans h1 (h.goodCurrent _ _ _)) (h.andThen h1 (.badCurrent (.refl s1)))) h1
  exact ite (h.trans h2 (h.setEst _ _ _)) h2

theorem stringSample (s : State) (md : Nat) : R s (s.stringSample md) := h.forUnits (fun t k => h.stringSampleOf t md k) _ s

end Steady
/-! What the checks of the modulator inputs do (R74, R79, R82 to R92). -/

section
variable {md : Nat} {s : State}

theorem fastDecision_modIn (b : Bool) (h : md < s.mods.length) :
    ((s.fastDecision md b).modIn md).fastBits = (b :: (s.modIn md).fastBits).take (2 * s.fastOsr md - 1) ∧
    ((s.fastDecision md b).modIn md).fastSeen = min (2 * s.fastOsr md - 1) ((s.modIn md).fastSeen + 1) ∧
    ((s.fastDecision md b).modIn md).thrHigh = s.threshold md 0x0B false ∧
    ((s.fastDecision md b).modIn md).thrLow = s.threshold md 0x0C true ∧
    (((s.fastDecision md b).modIn md).high = true → s.objN (0x4000 + md) 0x0E + 1 ≤ ((s.fastDecision md b).modIn md).highRun ∨ (s.modIn md).high = true) := by
  unfold State.fastDecision
  extract_lets m R fb x hi lo hy y seen D ready hr lr high low s1
  have hl : md < s1.mods.length := by
    have : s1.mods = s.mods := by
      unfold s1
      split <;> rfl
    rwa [this]
  rw [modIn_setMod_same _ hl]
  refine ⟨rfl, rfl, rfl, rfl, fun hhigh => ?_⟩
  obtain hrun | ⟨hm, -⟩ : D + 1 ≤ hr ∨ m.high = true ∧ _ := by simpa [high] using hhigh
  · exact .inl hrun
  · exact .inr hm

theorem fastDecision_modIn_other {n : Nat} (b : Bool) (h : n ≠ md) : (s.fastDecision md b).modIn n = s.modIn n := by
  unfold State.fastDecision
  extract_lets m R fb x hi lo hy y seen D ready hr lr high low s1
  refine (modIn_setMod_other _ h).trans (modIn_congr ?_ n)
  unfold s1
  split <;> rfl

/-- A frame of a running input makes its sample available now and is counted, unless a source that it raises stops the group. -/
theorem frame_sampleStands (fb : List Bool) (violations : Nat) (h : md < s.mods.length) :
    ∃ s1 : State, SampleStands md s1 (s.frame md fb violations) ∧ (s1.modIn md).availAt = s.now ∧ (s1.modIn md).frames = min 4 ((s.modIn md).frames + 1) := by
  unfold State.frame
  extract_lets s0 m R all keep S x n bad dec valid y lev o below cal w s1 g s2
  have hl : md < s0.mods.length := by
    have : s0.mods.length = s.mods.length := by
      unfold s0 State.latchScale
      split <;> simp
    rwa [this]
  have hm : m.frames = (s.modIn md).frames := by
    unfold m s0
    split
    · exact (congrArg ModInput.frames (modIn_setMod_same _ h) :)
    · rfl
  have hnow : s0.now = s.now := by
    unfold s0
    split <;> rfl
  refine ⟨s1, ?_, ?_, ?_⟩
  · have h2 : SampleStands md s1 s2 := .ite (.raise s1 _ _) (.ite (.refl s1) (.quiet (.clearing (.refl s1))))
    exact .ite (h2.trans (.raise s2 _ _)) (.ite h2 (h2.trans (.quiet (.clearing (.refl s2)))))
  · exact (congrArg ModInput.availAt (modIn_setMod_same w hl)).trans hnow
  · rw [show (s1.modIn md).frames = n from congrArg ModInput.frames (modIn_setMod_same w hl), ← hm]

end

theorem applyGroupEnable_off {s : State} {g v : Nat} (h : s.regionOn .sns = false) : s.applyGroupEnable g v = s.setObjN (0x4030 + g) 1 1 v :=
  if_neg (by rw [Bool.not_eq_true]; exact h)

/-- Settles O8: each check acts on its own input or group, and what reads the sample after it leaves the input as it is, unless it stops the group. -/
theorem modulatorInputConditions : Obligations.ModulatorInputConditions := by
  unfold Obligations.ModulatorInputConditions
  refine ⟨?stuck, ?stuckClear, ?clock, ?decision, ?calFails, ?calStarts, ?groupEnable, ?sample⟩
  case stuck =>
    intro md s hr
    refine ⟨_, rfl, fun hm => ?_⟩
    rw [if_pos hr]
    exact raise_isActive_from hm
  case stuckClear =>
    intro md s hr hs hl
    refine ⟨_, rfl, ?_⟩
    rw [if_pos (by simp [hr, hs])]
    refine ⟨?_, clearing_window _ _, fun n hn => modIn_setMod_other _ hn⟩
    exact congrArg ModInput.stuck (modIn_setMod_same _ hl)
  case clock =>
    intro g s hr hg
    refine ⟨_, rfl, fun hm => ?_⟩
    rw [if_pos (by simp [hr, hg])]
    exact raise_isActive_from hm
  case decision =>
    intro md b s hr hn he hl
    refine ⟨_, rfl, ?_⟩
    rw [if_pos (by simp [hr, hn, he])]
    have hm := modIn_congr ((Changes.forUnits (xs := List.range 8) (f := fun t n => t.fenderRead md n) (.refl (s.fastDecision md b)) .fenderRead).same .mods)
    obtain ⟨hbits, hseen, hhi, hlo, hhigh⟩ := fastDecision_modIn (md := md) (s := s) b hl
    rw [hm md]
    exact ⟨hbits, hseen, hhi, hlo, hhigh, fun n hn => (hm n).trans (fastDecision_modIn_other b hn)⟩
  case calFails =>
    intro md s hc hb hl
    refine ⟨_, rfl, ?_⟩
    dsimp only
    rw [if_pos ⟨hc, .inl hb⟩, if_pos (.inl hb)]
    have hk := Changes.releaseHeld (.refl (s.setMod md { s.modIn md with cal := 3 }))
    refine ⟨?_, ?_⟩
    · rw [modIn_congr (hk.same .mods)]
      exact congrArg ModInput.cal (modIn_setMod_same _ hl)
    · exact congrFun (congrFun (raw_congr (hk.same .cfg) (hk.same .kept) (hk.same .img) (hk.same .supply) (congrArg Net.legacy (hk.same .net))) _) _
  case calStarts =>
    intro ch md v s hw hc hl
    refine ⟨_, rfl, ?_⟩
    dsimp only
    rw [hc, if_neg (by simp [stState])]
    have hm := modIn_congr (guardedWrite_takes State.mods (fun _ _ => rfl) (fun _ _ => rfl) (fun _ _ _ => rfl) s ch _ _ _ (s.applyCal md) hw) md
    refine ⟨guardedWrite_confirms _ _ _ _ _ _ hw, ?_, ?_⟩
    · exact (congrArg ModInput.cal hm).trans (congrArg ModInput.cal (modIn_setMod_same _ hl))
    · exact (congrArg ModInput.calCount hm).trans (congrArg ModInput.calCount (modIn_setMod_same _ hl))
  case groupEnable =>
    intro ch g v s hw hs
    refine ⟨_, rfl, guardedWrite_confirms _ _ _ _ _ _ hw, ?_, ?_⟩
    · rw [guardedWrite_takes State.cfg (fun _ _ => rfl) (fun _ _ => rfl) (fun _ _ _ => rfl) s ch _ _ _ _ hw, applyGroupEnable_off hs]
      rfl
    · rw [guardedWrite_takes State.groups (fun _ _ => rfl) (fun _ _ => rfl) (fun _ _ _ => rfl) s ch _ _ _ _ hw, applyGroupEnable_off hs]
      rfl
  case sample =>
    intro md fb violations s hr hd hl
    refine ⟨_, rfl, ?_⟩
    rw [if_pos (by simp [hr, hd])]
    obtain ⟨s1, hframe, hat, hcount⟩ := frame_sampleStands fb violations hl
    have hfeed := hframe.trans ((steady_sampleStands md).feedSample _ md)
    have hstring := (hfeed.trans (.quiet (.stageSample (md := md) (.refl _)))).trans ((steady_sampleStands md).stringSample _ md)
    have hall := hstring.trans (.quiet (.railSample (md := md) (.bankSample (md := md) (.ageSample (md := md) (.bsSample (md := md) (.refl _))))))
    exact ⟨fun hrun => (hall.frames hrun).1.trans hcount, hall.availAt.trans hat⟩

end Sys2Proof.Machine

namespace Sys2Proof.Machine
open Safety (Part)

-- The proofs below are elaborated one after another, as those above.
set_option Elab.async false

/-- Settles O10: each command of the start acts in the one situation that it is for. -/
theorem startAndJoining : Obligations.StartAndJoining := by
  unfold Obligations.StartAndJoining
  refine ⟨?porRelease, ?dictionaryOnline, ?snsEng, ?prechargeEnd, ?auxContact, ?enterActive, ?noSource, ?holdoffEnd⟩
  case porRelease =>
    intro sideB legacy wakeLow train s hp
    refine congrArg Host.Outcome.next ?_
    rw [hp]
  case dictionaryOnline =>
    intro l s hm hs he hp
    exact ⟨_, rfl, if_pos (by simp [hm, hs, he, hp])⟩
  case snsEng =>
    intro s hm hs hp
    exact ⟨_, rfl, if_pos (by simp [hm, hs, hp])⟩
  case prechargeEnd =>
    intro n s ho hj hn hp
    exact congrArg Host.Outcome.next (if_pos (by simp [ho, hj, hn, hp]))
  case auxContact =>
    intro k s ho hj hc hd hp
    exact congrArg Host.Outcome.next (if_pos (by simp [ho, hj, hc, hd, hp]))
  case enterActive =>
    intro s hm hs he hp ho hc hb
    refine congrArg Host.Outcome.next ((if_pos (by simp [hm, hs, he, hp])).trans ?_)
    simp [ho, hc, hb]
  case noSource =>
    intro s hm ho hs hj hc hp hb
    refine congrArg Host.Outcome.next ((if_pos (by simp [hm, ho, hs, hj, hc, hp])).trans ?_)
    rw [if_neg (by simp [hb])]
  case holdoffEnd =>
    intro c s hw hm hh hp
    refine congrArg Host.Outcome.next ?_
    rw [hw]
    exact if_pos (by simp [hm, hh, hp])

theorem transportUp_draw (s : State) (p : Nat) : s.draw.2.transportUp p = s.transportUp p := by
  have hshed : ∀ c u, s.draw.2.isShed 7 c u = s.isShed 7 c u := fun _ _ => rfl
  have hobj : ∀ i j, s.draw.2.objN i j = s.objN i j := fun _ _ => rfl
  unfold State.transportUp
  simp only [hshed, hobj]
  rfl

theorem served_draw (s : State) (ch : Chan) : s.draw.2.served ch = s.served ch := by
  unfold State.served
  simp only [transportUp_draw]
  rfl

theorem writable_draw (s : State) (ch : Chan) (idx sub : Nat) (data : List Byte) :
    Safety.writable s.draw.2 ch idx sub data = Safety.writable s ch idx sub data := by
  unfold Safety.writable
  rw [served_draw]
  rfl

theorem requestFree_accepted {s : State} {ch : Chan} {code : Nat} (hw : Safety.writable s ch 0x2101 1 (leBytes 1 code) = true)
    (h0 : s.requestStatus ch code = 0) :
    Safety.confirms (s.requestFree ch code) ch ∧
      s.requestFree ch code = s.draw.2.guardedWrite ch 0x2101 1 (leBytes 1 code) 0 (s.draw.2.applyRequest code s.draw.1.floor.toNat) := by
  have hw' : Safety.writable s.draw.2 ch 0x2101 1 (leBytes 1 code) = true := (writable_draw s ch _ _ _).trans hw
  have h0' : s.draw.2.requestStatus ch code = 0 := by
    unfold State.requestStatus at h0 ⊢
    exact h0
  have he : s.requestFree ch code = s.draw.2.guardedWrite ch 0x2101 1 (leBytes 1 code) 0 (s.draw.2.applyRequest code s.draw.1.floor.toNat) := by
    rw [State.requestFree, State.writeRequest, h0']
  exact ⟨he ▸ guardedWrite_confirms _ _ _ _ _ _ hw', he⟩

theorem releaseOwn_owns (s : State) (reason : Nat) : (s.releaseOwn reason).pair.owns = false := by
  unfold State.releaseOwn
  split
  · rfl
  · rename_i h
    rwa [Bool.not_eq_true] at h

/-- Releasing `OWN_N` and making the outputs safe leave the mode as it is (R40, R48). -/
theorem releasedSafe_mode (s : State) : ((s.releaseOwn 1).outputsSafe .safe).mode = s.mode :=
  (Changes.outputsSafe (.releaseOwn (.refl s))).same .mode

theorem releasedSafe_owns (s : State) : ((s.releaseOwn 1).outputsSafe .safe).pair.owns = false :=
  (congrArg Pair.owns ((Changes.outputsSafe (.refl (s.releaseOwn 1))).same .pair)).trans (releaseOwn_owns s 1)

/-- Settles O11: an accepted request is its write confirmed; TRIP and the descent act in the situation that they are for. -/
theorem requestsAndDescent : Obligations.RequestsAndDescent := by
  unfold Obligations.RequestsAndDescent
  refine ⟨?rise, ?service, ?active, ?descent, ?moored, ?layup, ?leave, ?tripCarrying, ?tripElsewhere, ?programs, ?complete⟩
  case rise | service | active | descent | moored | layup =>
    intro ch s hw h0
    exact ⟨_, rfl, requestFree_accepted hw h0⟩
  case leave =>
    intro ch code train s hw hm h0
    have he : s.writeRequest ch code train = s.guardedWrite ch 0x2101 1 (leBytes 1 code) 0
        (({ s with mode := { s.mode with req := code, reqStatus := 1 } } : State).leaveService train) := by
      rw [State.writeRequest, h0, State.applyRequest]
      exact congrArg _ (if_pos hm)
    exact ⟨_, rfl, he ▸ guardedWrite_confirms _ _ _ _ _ _ hw, he⟩
  case tripCarrying =>
    intro s hp hl hr hm
    have hne := Option.isSome_iff_ne_none.mp hp
    exact ⟨_, rfl, (if_neg (by simp [hne, hl])).trans ((if_neg (by simp [hr])).trans (if_pos hm))⟩
  case tripElsewhere =>
    intro s hp hl hr hm
    have hne := Option.isSome_iff_ne_none.mp hp
    refine ⟨_, rfl, ?_⟩
    rw [if_neg (by simp [hne, hl])]
    dsimp only
    rw [if_neg (by simp [hr]), if_neg (by rw [Bool.not_eq_true]; exact hm)]
    have hmode := releasedSafe_mode { s with mode := { s.mode with pendingTrip := none } }
    have howns := releasedSafe_owns { s with mode := { s.mode with pendingTrip := none } }
    generalize State.outputsSafe _ .safe = u at hmode howns ⊢
    refine ⟨howns, ?_, rfl, ?_, ?_⟩
    · change u.mode.pendingTrip = none
      rw [hmode]
    · change u.mode.mode = s.mode.mode
      rw [hmode]
    · simp [State.driveTrip, State.inMode, hmode]
  case programs =>
    intro s hm hd hs hp
    exact ⟨_, rfl, if_pos (by simp [hm, hd, hs, hp])⟩
  case complete =>
    intro train s hm hd ha he hp
    exact ⟨_, rfl, if_pos (by simp [hm, hd, ha, he, hp])⟩

/-- At its end a last breath holds every region but AO, with the dictionary off (R58, R67). -/
theorem lastBreath_ends (s : State) (src : Nat) (rst off short : Bool) :
    (s.lastBreath src rst off short).supply.phase = (if rst then .afterRst else .afterWarning) ∧
      (s.lastBreath src rst off short).mode.online = false ∧
      (s.lastBreath src rst off short).mode.regions = [.on, .hold, .hold, .hold, .hold, .hold, .hold, .hold, .hold, .hold] := by
  unfold State.lastBreath
  extract_lets
  exact ⟨rfl, rfl, rfl⟩

/-- Settles O12: each command acts in the phase of the supply, or the state of the clock, that it is for. -/
theorem supplyAndClock : Obligations.SupplyAndClock := by
  unfold Obligations.SupplyAndClock
  refine ⟨?warning, ?rstAsserted, ?rstReleased, ?dip, ?counters, ?por, ?xtalFail, ?xtalRetry⟩
  case warning =>
    intro pfw vao s hw hp
    refine ⟨_, rfl, ?_⟩
    dsimp only
    rw [if_neg hw, hp]
    exact lastBreath_ends _ _ _ _ _
  case rstAsserted =>
    intro s hp
    refine ⟨_, rfl, ?_⟩
    dsimp only
    rw [if_pos (by simp [hp])]
    exact lastBreath_ends _ _ _ _ _
  case rstReleased =>
    intro train s hp hw
    exact congrArg Host.Outcome.next (if_pos (by simp [hp, hw]))
  case dip =>
    intro train s hp hr
    exact congrArg Host.Outcome.next (if_pos (by simp [hp, hr]))
  case counters =>
    intro s hp hm
    exact congrArg Host.Outcome.next (if_pos (by simp [hp, hm]))
  case por =>
    intro s
    have hsafe := Changes.outputsSafe (u := .safe) (.refl s)
    exact ⟨_, rfl, rfl, rfl, rfl, rfl, rfl, rfl, rfl, (congrArg Mem.mram (hsafe.same .mem) :), (congrArg Log.held (hsafe.same .log) :)⟩
  case xtalFail =>
    intro s hc
    refine ⟨_, rfl, ?_⟩
    rw [if_neg (by simp [hc])]
    exact ⟨raise_isActive_from, raise_clock _ _ _⟩
  case xtalRetry =>
    intro runs s hc he
    refine ⟨_, rfl, ?_⟩
    rw [if_pos (by simp [hc, he])]
    cases runs with
    | true => exact ⟨rfl, fun _ => clearing_window _ _⟩
    | false => exact ⟨rfl, nofun⟩

/-- What every operation of a list keeps holds after the list. -/
theorem forUnits_induct {P : State → Prop} {f : State → Nat → State} (l : List Nat) (h : ∀ t, ∀ n ∈ l, P t → P (f t n)) {s : State} (h0 : P s) :
    P (forUnits l f s) := by
  unfold forUnits
  induction l generalizing s with
  | nil => exact h0
  | cons n l ih => exact ih (fun t m hm => h t m (List.mem_cons_of_mem n hm)) (h s n (List.mem_cons_self ..) h0)

/-! The mode and its cause (R43). -/

theorem startEng_mode_mode (s : State) : s.startEng.mode.mode = s.mode.mode ∧ s.startEng.mode.cause = s.mode.cause := by
  have hload := (Changes.reloadEngines (.refl (s.setRegion .eng .on))).same .mode
  unfold State.startEng
  extract_lets s1 k
  split
  · exact ⟨(congrArg ModeState.mode hload :), (congrArg ModeState.cause hload :)⟩
  · exact ⟨(raise_mode_mode _ _ _).trans (congrArg ModeState.mode hload :), (raise_mode_cause _ _ _).trans (congrArg ModeState.cause hload :)⟩

theorem startSns_mode_mode (s : State) : s.startSns.mode.mode = s.mode.mode ∧ s.startSns.mode.cause = s.mode.cause := by
  unfold State.startSns
  extract_lets s1 s2 s3
  have h2 : Changes [.mods] s1 s2 := .le (.forUnits (.refl s1) fun h => .latchScale (.setMod h))
  have h3 : Changes [.mods, .strs] s1 s3 := .le (.forUnits h2 .setStr)
  suffices hmode : ∀ {u}, Changes [.mods, .groups, .strs, .faults] s1 u → u.mode.mode = s.mode.mode ∧ u.mode.cause = s.mode.cause from
    hmode (.le (.forUnits h3 fun h => .cond (.startGroup h) (.disableGroup h)))
  intro u hu
  exact ⟨(congrArg ModeState.mode (hu.same .mode) :), (congrArg ModeState.cause (hu.same .mode) :)⟩

theorem applyRegions_mode_mode (s : State) (m : Mode) : (s.applyRegions m).mode.mode = s.mode.mode ∧ (s.applyRegions m).mode.cause = s.mode.cause := by
  unfold State.applyRegions
  extract_lets was wasEng l1 l2 l3 _ s1 s2 s3
  have h2 : s2.mode = s1.mode := Changes.same (.dropBuckets (.dropSources (.stopRegions (.refl s1)))) .mode
  have h3 : s3.mode.mode = s.mode.mode ∧ s3.mode.cause = s.mode.cause := by
    obtain ⟨hm, hc⟩ := startEng_mode_mode s2
    unfold s3
    split
    · exact ⟨hm.trans (congrArg ModeState.mode h2 :), hc.trans (congrArg ModeState.cause h2 :)⟩
    · exact ⟨(congrArg ModeState.mode h2 :), (congrArg ModeState.cause h2 :)⟩
  split
  · obtain ⟨hm, hc⟩ := startSns_mode_mode s3
    exact ⟨hm.trans h3.1, hc.trans h3.2⟩
  · exact h3

/-- An entry to a mode is in that mode, with its cause. -/
theorem enterMode_mode (s : State) (m : Mode) (cause : Nat) : (s.enterMode m cause).mode.mode = m ∧ (s.enterMode m cause).mode.cause = cause := by
  unfold State.enterMode
  extract_lets old _ s1 _ s2 s3
  obtain ⟨hm, hc⟩ := applyRegions_mode_mode s2 m
  have h3 : s3.mode = (s2.applyRegions m).mode := Changes.same (.modeSupply (.refl _)) .mode
  exact ⟨(congrArg ModeState.mode h3).trans hm, (congrArg ModeState.cause h3).trans hc⟩

theorem enterMode_supply (s : State) (m : Mode) (cause : Nat) :
    (s.enterMode m cause).supply = { s.supply with layupFlag := s.supply.layupFlag && m != .rise } := by
  unfold State.enterMode
  extract_lets old _ s1 _ s2 s3
  have hrest : (s3.note 0x0010 (leBytes 1 old.code ++ leBytes 1 m.code ++ leBytes 2 cause)).driveTrip.supply = s2.supply :=
    Changes.same (.driveTrip (.note (.modeSupply (.applyRegions (.refl s2))))) .supply
  exact hrest

theorem raise_mode_stretchFrom (s : State) (k : Key) (d : Nat) : (s.raise k d).mode.stretchFrom = s.mode.stretchFrom :=
  congrArg (·.mode.stretchFrom) (raise_rest s k d)

/-! Wakes from MOORED (R301). -/

theorem wake_starts {s : State} {cause : Nat} (he : s.dead.entering = false) (hh : s.heldOff = false) : s.wake cause true = s.enterRise cause :=
  (if_neg (by simp [he])).trans (if_pos (by simp [hh]))

theorem wake_serves {s : State} {cause : Nat} {starts : Bool} (he : s.dead.entering = false) (hs : starts = false) :
    s.wake cause starts = s.serveWake cause :=
  (if_neg (by simp [he])).trans ((if_neg (by simp [hs])).trans (if_neg (by simp [hs])))

/-! The lay-up entry (R283). -/

theorem layupNext_none {s : State} : s.layupNext = none ↔ ∀ k < 8, (s.str k).contactor = false := by
  simp [State.layupNext]

theorem str_setStr_other {s : State} {k n : Nat} (v : Str) (h : k ≠ n) : (s.setStr k v).str n = s.str n := nth_put_other _ _ _ _ _ h

theorem str_setStr_same {s : State} {k : Nat} (v : Str) (h : k < s.strs.length) : (s.setStr k v).str k = v := nth_put_same _ _ _ _ h

/-- An open string commands no contactor. -/
theorem openString_contactor (s : State) (k n : Nat) (h : (s.str n).contactor = false) : ((s.openString k).str n).contactor = false := by
  unfold State.openString
  by_cases hk : k = n
  · subst hk
    by_cases hl : k < s.strs.length
    · rw [str_setStr_same _ hl]
    · exact (congrArg (fun l => (nth l k ({} : Str)).contactor) (put_beyond s.strs k _ (Nat.le_of_not_lt hl))).trans h
  · rw [str_setStr_other _ hk]
    exact h

/-- The first step of an entry opens the strings whose contactors are open already: those that are closed stay as they are. -/
theorem openOthers_str (s : State) {n : Nat} (h : (s.str n).contactor = true) :
    (forUnits ((List.range 8).filter fun k => !(s.str k).contactor) (fun t k => t.openString k) s).str n = s.str n := by
  refine forUnits_induct (P := fun t => t.str n = s.str n) _ (fun t k hk ht => ?_) rfl
  have hne : k ≠ n := by
    rintro rfl
    simp [h] at hk
  exact (str_setStr_other _ hne).trans ht

theorem openOthers_contactor (s : State) {n : Nat} (h : (s.str n).contactor = false) :
    ((forUnits ((List.range 8).filter fun k => !(s.str k).contactor) (fun t k => t.openString k) s).str n).contactor = false :=
  forUnits_induct (P := fun t => (t.str n).contactor = false) _ (fun t k _ ht => openString_contactor t k n ht) h

theorem openOthers_layupNext (s : State) :
    (forUnits ((List.range 8).filter fun k => !(s.str k).contactor) (fun t k => t.openString k) s).layupNext = s.layupNext := by
  unfold State.layupNext
  congr 1
  funext k
  cases h : (s.str k).contactor with
  | true => rw [openOthers_str s h, h]
  | false => exact openOthers_contactor s h

/-- A turn changes nothing while no string waits, or while the turn of the one that waits has not come. -/
theorem layupTurn_idle {s : State} {underLoad auxOpen : List Bool} (h : s.layupNext = none) : s.layupTurn underLoad auxOpen = s := by
  rw [State.layupTurn, h]

theorem layupTurn_early {s : State} {underLoad auxOpen : List Bool} {k f : Nat} (h : s.layupNext = some k) (hf : s.dead.entryFrom = some f)
    (hd : s.now < f + 100 * ticksPerMs * s.dead.entryTurn + s.dead.entryShift) : s.layupTurn underLoad auxOpen = s := by
  rw [State.layupTurn, h]
  exact if_pos (by simpa [hf] using hd)

/-- The end of an entry is in LAYUP, with the flag set and the entry counted (R283). -/
theorem layupEnd_spec {s : State} (h : s.dead.wakePending = none) :
    s.layupEnd.mode.mode = .layup ∧ s.layupEnd.mode.cause = (if s.inMode .moored then 0x0010 else 0x0070) ∧ s.layupEnd.supply.layupFlag = true ∧
      s.layupEnd.dead.layupEntries = s.dead.layupEntries + 1 ∧ s.layupEnd.dead.entering = false ∧ s.layupEnd.mode.online = false := by
  unfold State.layupEnd
  extract_lets cause s1 _ _ s2 s3 _ s4 d
  have hdead : s1.dead = s.dead := Changes.same (.commitCounters (.commitEst (.refl s))) .dead
  have hentries : s2.dead.layupEntries = s.dead.layupEntries + 1 := congrArg (fun d => d.layupEntries + 1) hdead
  have hentering : s2.dead.entering = false := rfl
  have hwake : s2.dead.wakePending = none := (congrArg Dead.wakePending hdead).trans h
  have hflag : s2.supply.layupFlag = true := rfl
  clear_value s2
  obtain ⟨hm, hc⟩ := enterMode_mode s2 .layup cause
  have hentered : (s2.enterMode .layup cause).dead = s2.dead := Changes.same (.enterMode (.refl s2)) .dead
  have hsupply := enterMode_supply s2 .layup cause
  have hrest : Changes [.net, .ports, .log, .img] (s2.enterMode .layup cause) s3 := .le (.flushLog (.networksDown (.refl _)))
  have hmode : s3.mode = (s2.enterMode .layup cause).mode := hrest.same .mode
  have hdead3 : s3.dead = s2.dead := (hrest.same .dead).trans hentered
  have hsupply3 : s3.supply = _ := (hrest.same .supply).trans hsupply
  clear_value s3
  have hpending : s4.dead.wakePending = none := (congrArg Dead.wakePending hdead3).trans hwake
  rw [hpending]
  exact ⟨(congrArg ModeState.mode hmode).trans hm, (congrArg ModeState.cause hmode).trans hc,
    (congrArg Supply.layupFlag hsupply3).trans (by simp [hflag]), (congrArg Dead.layupEntries hdead3).trans hentries,
    (congrArg Dead.entering hdead3).trans hentering, rfl⟩

/-- The first step of an entry: it begins, and the strings whose contactors are open are opened. -/
def State.layupBegun (s : State) : State :=
  forUnits ((List.range 8).filter fun k => !(s.str k).contactor) (fun t k => t.openString k)
    { s with dead := { s.dead with entryFrom := some (s.dead.entryFrom.getD s.now) } }

theorem layupBegun_changes (s : State) : Changes [.strs] { s with dead := { s.dead with entryFrom := some (s.dead.entryFrom.getD s.now) } } s.layupBegun :=
  .forUnits (.refl _) .openString

theorem layupBegun_dead (s : State) : s.layupBegun.dead = { s.dead with entryFrom := some (s.dead.entryFrom.getD s.now) } := (layupBegun_changes s).same .dead

theorem layupBegun_mode (s : State) : s.layupBegun.mode = s.mode := (layupBegun_changes s).same .mode

theorem layupBegun_now (s : State) : s.layupBegun.now = s.now := (layupBegun_changes s).same .now

theorem layupBegun_layupNext (s : State) : s.layupBegun.layupNext = s.layupNext :=
  openOthers_layupNext { s with dead := { s.dead with entryFrom := some (s.dead.entryFrom.getD s.now) } }

section
variable {s : State} (underLoad auxOpen : List Bool)

theorem layupEntry_eq (he : s.dead.entering = true) (hm : s.inModes [.moored, .descent] = true)
    (hg : s.railGroups.all (fun g => g.phase == .lowered) = true) (hp : s.supply.phase = .running)
    (hturn : s.layupBegun.layupTurn underLoad auxOpen = s.layupBegun) :
    exec (.layupEntry underLoad auxOpen) s = .next (if s.layupNext.isNone then s.layupBegun.layupEnd else s.layupBegun) := by
  have hturns : forUnits (List.range 8) (fun t _ => t.layupTurn underLoad auxOpen) s.layupBegun = s.layupBegun :=
    forUnits_induct (P := fun t => t = s.layupBegun) _ (fun t _ _ ht => by rw [ht, hturn]) rfl
  refine congrArg Host.Outcome.next ((if_pos (by simp [he, hm, hg, hp])).trans ?_)
  rw [← layupBegun_layupNext]
  exact congrArg (fun t : State => if t.layupNext.isNone then t.layupEnd else t) hturns

end

/-- Settles O13: each wake acts on a controller that sleeps and lets it through, and the entry to LAYUP goes on turn by turn. -/
theorem wakesAndLayup : Obligations.WakesAndLayup := by
  unfold Obligations.WakesAndLayup
  refine ⟨?wakeN, ?srcdet, ?srcdetIdle, ?address, ?stretch, ?can, ?retention, ?scan, ?ownN, ?timer, ?layupEnds, ?layupWaits, ?layupWake⟩
  case wakeN =>
    intro s ha he hh
    exact congrArg Host.Outcome.next ((if_pos ha).trans (wake_starts he hh))
  case srcdet =>
    intro d s ha hq hb he hh
    refine congrArg Host.Outcome.next ((if_pos (by simp [ha, hq])).trans ?_)
    rw [hb]
    exact wake_starts he hh
  case srcdetIdle =>
    intro d s hq
    exact congrArg Host.Outcome.next (if_neg (by simp [hq]))
  case address =>
    intro p addr s ha hm hp he hw
    have hp' : ¬s.portN p 5 = 1 := by simpa using hp
    exact ⟨_, congrArg Host.Outcome.next ((if_pos (by simp [ha, hm, he])).trans
      ((congrArg (fun u : State => u.wake 0x0052 (u.wakeStarts p)) (if_neg hp')).trans (wake_serves he hw))), rfl, rfl⟩
  case stretch =>
    intro p since s hf hs hn hl
    refine ⟨_, rfl, ?_⟩
    rw [hf]
    dsimp only
    rw [if_pos hs, if_neg (by rw [Bool.not_eq_true]; exact hn)]
    refine ⟨raise_mode_stretchFrom _ _ _, ?_, ?_, raise_isActive_from⟩
    · exact (congrArg Port.lateWakes ((raise_port _ _ _ p).trans (port_setPort_same _ p _ (by exact hl)))).trans rfl
    · exact (congrArg Port.nackNext ((raise_port _ _ _ p).trans (port_setPort_same _ p _ (by exact hl)))).trans rfl
  case can =>
    intro p s ha hp hw
    exact ⟨_, rfl, if_pos (by simp [ha, hp, hw])⟩
  case retention =>
    intro since s hs hm he
    refine congrArg Host.Outcome.next ?_
    rw [hs]
    exact if_pos (by simp [hm, he])
  case scan =>
    intro volts codes s ha
    exact ⟨_, rfl, if_pos ha⟩
  case ownN =>
    intro s ha hw
    exact congrArg Host.Outcome.next (if_pos (by simp [ha, hw]))
  case timer =>
    intro since s ha hw hs he
    refine congrArg Host.Outcome.next ?_
    rw [hs]
    exact if_pos (by simp [ha, hw, he])
  case layupEnds =>
    intro underLoad auxOpen s he hm hg hp hw hn
    have hturn := layupTurn_idle (underLoad := underLoad) (auxOpen := auxOpen) ((layupBegun_layupNext s).trans hn)
    have hspec := layupEnd_spec (s := s.layupBegun) (by rw [layupBegun_dead]; exact hw)
    rw [State.inMode, layupBegun_mode, layupBegun_dead] at hspec
    refine ⟨_, layupEntry_eq underLoad auxOpen he hm hg hp hturn, ?_⟩
    rw [hn, if_pos Option.isNone_none]
    exact hspec
  case layupWaits =>
    intro underLoad auxOpen k f s he hm hg hp hn hf hd
    have hfrom : s.layupBegun.dead.entryFrom = some f := by
      rw [layupBegun_dead, hf]
      rfl
    have hturn := layupTurn_early (underLoad := underLoad) (auxOpen := auxOpen) ((layupBegun_layupNext s).trans hn) hfrom
      (by rw [layupBegun_dead, layupBegun_now]; exact hd)
    refine ⟨_, layupEntry_eq underLoad auxOpen he hm hg hp hturn, ?_⟩
    rw [hn, if_neg (by simp)]
    refine ⟨layupBegun_mode s, ?_, fun n hc => openOthers_str _ hc⟩
    exact (congrArg Dead.entering (layupBegun_dead s)).trans he
  case layupWake =>
    intro src train s hp hq hm
    exact congrArg Host.Outcome.next ((if_pos (by simp [hp, hq])).trans (if_pos hm))

end Sys2Proof.Machine

namespace Sys2Proof.Machine
open Safety (Part)

-- The proofs below are elaborated one after another, as those above.
set_option Elab.async false

/-! The tide table at a frame boundary (R128, R129). -/

/-- The tide table's part after a frame boundary whose bank has or has not been swapped: the pending ageing step and its variant are in force. -/
def Tide.stepped (t : Tide) : Tide :=
  let step := t.ageingPending.getD t.ageing
  let v := variantFor (nth t.banks t.active {}).variants step
  { t with ageing := step, ageingPending := none, variant := v, swapCount := t.swapCount + b2n (v != t.variant) }

theorem switchTable_tide (s : State) : s.switchTable.tide = (if s.tide.swap == 2 then s.swapBanks.tide else s.tide).stepped := by
  unfold State.switchTable
  extract_lets was swap s1 step v changed _ s2 s3
  have h1 : s1.tide = if s.tide.swap == 2 then s.swapBanks.tide else s.tide := by
    unfold s1 swap
    split <;> rfl
  have h3 : s3.tide = s2.tide := Changes.same (.cond (.foldl (.refl s2) .takeRecord) (.refl s2)) .tide
  have hstep : step = s1.tide.ageingPending.getD s1.tide.ageing := by
    unfold step
    cases s1.tide.ageingPending <;> rfl
  rw [← h1, show (s3.retimeRuns was).tide = s3.tide from Changes.same (.retimeRuns (.refl s3)) .tide, h3]
  unfold Tide.stepped
  rw [← hstep]
  rfl

/-- With no swap armed and the variant as it was, a frame boundary leaves the instances alone. -/
theorem switchTable_insts {s : State} (hs : s.tide.swap ≠ 2) (hv : s.switchTable.tide.variant = s.tide.variant) : s.switchTable.insts = s.insts := by
  have hswap : (s.tide.swap == 2) = false := by simpa using hs
  rw [switchTable_tide, if_neg (by rw [Bool.not_eq_true]; exact hswap)] at hv
  unfold State.switchTable
  extract_lets was swap s1 step v changed _ s2 s3
  have h1 : s1 = s := if_neg (by rw [Bool.not_eq_true]; exact hswap)
  have hvar : v = s.tide.variant := by
    refine Eq.trans ?_ hv
    unfold v step
    rw [h1]
    unfold Tide.stepped State.bank
    cases s.tide.ageingPending <;> rfl
  have h3 : s3 = s2 := if_neg (by simp [swap, hswap, changed, hvar, h1])
  have hvariant : s2.variant = s.variant := by
    change nth s1.bank.variants v {} = nth s.bank.variants s.tide.variant {}
    rw [hvar, h1]
  rw [State.retimeRuns, h3, if_pos (by simp [was, hvariant])]
  change s1.insts = s.insts
  rw [h1]

/-- Settles O14: each command of the engines and the table acts at the instant that it is for. -/
theorem loopEngines : Obligations.LoopEngines := by
  unfold Obligations.LoopEngines
  refine ⟨?release, ?waitEnd, ?runEnd, ?commit, ?armed, ?ageing, ?swap, ?boundary⟩
  case release =>
    intro lp errs r s hl hr hi hd
    refine congrArg Host.Outcome.next ?_
    rw [hl]
    exact if_pos (by simp [hr, hi, hd])
  case waitEnd =>
    intro lp r s hl hi hw
    refine congrArg Host.Outcome.next ?_
    rw [hl]
    exact if_pos (by simp [hi, hw])
  case runEnd =>
    intro lp errs r s hl hi ho hc
    refine congrArg Host.Outcome.next ?_
    rw [hl]
    exact if_pos (by simp [hi, ho, hc])
  case commit =>
    intro lp r s hl hc
    refine congrArg Host.Outcome.next ?_
    rw [hl]
    exact if_pos hc
  case armed =>
    intro s hs hv he
    exact ⟨_, congrArg Host.Outcome.next ((if_pos hs).trans (if_pos (by simp [hv, he]))), rfl, rfl, rfl⟩
  case ageing =>
    intro s he hm hp hf hs
    have hswap : (s.tide.swap == 2) = false := by simpa using hs
    have htide : s.switchTable.finishHitless.tide = s.tide.stepped := by
      rw [finishHitless_keeps State.tide (fun _ _ _ _ => rfl), switchTable_tide, hswap]
      rfl
    refine ⟨_, congrArg Host.Outcome.next (if_pos (by simp [he, hm, hp, hf])), ?_⟩
    rw [htide, finishHitless_keeps State.insts fun _ _ _ _ => rfl]
    refine ⟨rfl, rfl, rfl, rfl, fun hv => switchTable_insts hs ?_⟩
    rw [switchTable_tide, hswap]
    exact hv
  case swap =>
    intro s he hm hp hf hs
    refine ⟨_, congrArg Host.Outcome.next (if_pos (by simp [he, hm, hp, hf])), ?_⟩
    rw [finishHitless_keeps State.tide (fun _ _ _ _ => rfl), switchTable_tide, hs, swapBanks_tide]
    exact ⟨rfl, rfl⟩
  case boundary =>
    intro st s hu hp hw hd
    exact congrArg Host.Outcome.next (if_pos (by simp [hu, hp, hw, hd]))

/-- A stage that runs in SERVICE, with ENG held and the bollard hold stopped by a SHED of its source. -/
def holdShed : State :=
  { supply := { phase := .running }, mode := { mode := .service, online := true, regions := regionsOf .boot }
    stages := List.replicate 8 { state := .running, startStep := 4 }
    faults := { sheds := [State.key {} 4 0xFF 2 0] } }

theorem holdShed_holdDue : holdShed.holdDue 0 = true ∧ 0 < holdShed.stages.length := by decide +kernel

/-- The hold stays off where a SHED has stopped it (R321, log entry 107). -/
theorem engageHold_shed {s : State} {st : Nat} (h : s.isShed 4 0xFF 2 = true) : s.engageHold st = s := if_pos h

/-- Refutes O15: where a SHED has stopped the bollard hold, the watch that expires does not engage it. -/
theorem not_stagesAndPhases : ¬ Obligations.StagesAndPhases := by
  unfold Obligations.StagesAndPhases
  rintro ⟨-, -, -, -, -, -, -, -, -, -, -, -, hengaged, -⟩
  obtain ⟨hdue, hlen⟩ := holdShed_holdDue
  obtain ⟨t, hexec, hhold, -⟩ := hengaged 0 holdShed hdue hlen
  have hkept : exec (.holdWatchExpired 0) holdShed = .next holdShed :=
    congrArg Host.Outcome.next ((if_pos hdue).trans (engageHold_shed (by decide +kernel)))
  have ht : holdShed = t := Host.Outcome.next.inj (hkept.symm.trans hexec)
  rw [← ht] at hhold
  exact absurd hhold (by decide +kernel)

/-- An object's value is read from what is written, kept and imaged, but for the termination of a bus, whose default depends on LEGACY (R378). -/
theorem raw_congr_at {s t : State} {idx sub : Nat} (hc : t.cfg = s.cfg) (hk : t.kept = s.kept) (hi : t.img = s.img) (hs : t.supply = s.supply)
    (hn : ¬(0x4800 ≤ idx ∧ idx < 0x4804 ∧ sub = 5)) : t.raw idx sub = s.raw idx sub := by
  have himg : t.imageValues = s.imageValues := by
    simp only [State.imageValues, State.image, hi, hs]
  have hheld : t.held? = s.held? := by
    funext i j
    simp only [State.held?, hc, hk, himg]
  simp only [State.raw, State.tableDefault, State.ruleDefault, hheld, if_neg hn]

theorem objN_congr_at {s t : State} {idx sub : Nat} (hc : t.cfg = s.cfg) (hk : t.kept = s.kept) (hi : t.img = s.img) (hs : t.supply = s.supply)
    (hn : ¬(0x4800 ≤ idx ∧ idx < 0x4804 ∧ sub = 5)) : t.objN idx sub = s.objN idx sub := congrArg leNat (raw_congr_at hc hk hi hs hn)

theorem key_congr {s t : State} (h : t.supply = s.supply) {r c u k : Nat} : t.key r c u k = s.key r c u k := by
  simp only [State.key, State.member, h]

/-! Repetitive controllers. -/

theorem rc_setRc_same {s : State} {n : Nat} (v : Rc) (h : n < s.rcs.length) : (s.setRc n v).rc n = v := nth_put_same _ _ _ _ h

theorem rc_congr {s t : State} (h : t.rcs = s.rcs) (n : Nat) : t.rc n = s.rc n := congrArg (fun l => nth l n ({} : Rc)) h

theorem startFade_rcs_length (s : State) (n : Nat) (x : Rat) : (s.startFade n x).rcs.length = s.rcs.length := by
  unfold State.startFade
  dsimp only
  split
  · rfl
  · exact put_length _ _ _

/-- A controller that unlocks tells its source (R191). -/
theorem rcUnlock_spec {s : State} {n : Nat} (h : n < s.rcs.length) :
    (s.mayRaise (s.key 3 0xFF (0x10 + n) 2) = true → (s.rcUnlock n).isActive (s.key 3 0xFF (0x10 + n) 2) = true) ∧ ((s.rcUnlock n).rc n).locked = false := by
  unfold State.rcUnlock
  extract_lets s1
  have h1 : Changes [.rcs] s s1 := .le (.startFade (.refl s))
  have hl : n < s1.rcs.length := by rwa [startFade_rcs_length]
  refine ⟨fun hm => ?_, ?_⟩
  · rw [← key_congr (t := s1) (h1.same .supply)] at hm ⊢
    exact raise_isActive_from hm (h1.same .part) (congrArg ModeState.regions (h1.same .mode))
  · rw [rc_congr (raise_rcs _ _ _), rc_setRc_same _ hl]

theorem obsAct_carrierPeriod (s : State) (st n : Nat) : (s.obsAct st).carrierPeriod n = s.carrierPeriod n := by
  have h := Changes.obsAct (st := st) (.refl s)
  exact objN_congr_at (h.same .cfg) (h.same .kept) (h.same .img) (h.same .supply) (by omega)

/-- Settles O16: a set point is an accepted write; the controllers, references and observers act on the part that they are for. -/
theorem setPoints : Obligations.SetPoints := by
  unfold Obligations.SetPoints
  refine ⟨?target, ?update, ?wrap, ?refTimeout, ?unlock, ?reset, ?observer, ?substitution⟩
  case target =>
    intro ch n v s hw h0
    refine ⟨_, rfl, ?_⟩
    rw [h0]
    exact ⟨guardedWrite_confirms _ _ _ _ _ _ hw, guardedWrite_takes State.pgs (fun _ _ => rfl) (fun _ _ => rfl) (fun _ _ _ => rfl) _ _ _ _ _ _ hw,
      guardedWrite_takes State.cfg (fun _ _ => rfl) (fun _ _ => rfl) (fun _ _ _ => rfl) _ _ _ _ _ _ hw⟩
  case update =>
    intro n s hr
    exact congrArg Host.Outcome.next (if_pos hr)
  case wrap =>
    intro n s hr hw
    exact ⟨_, rfl, if_pos (by simp [hr, hw])⟩
  case refTimeout =>
    intro n s hr hu he hl hn
    refine ⟨_, congrArg Host.Outcome.next ((if_pos (by simp [hr, hu, he])).trans (if_neg (by simp [hl]))), raise_isActive_from, ?_⟩
    exact (congrArg Rc.refStale ((rc_congr (raise_rcs _ _ _) n).trans (rc_setRc_same _ hn))).trans rfl
  case unlock =>
    intro n s hr hl he ht hn
    exact ⟨_, congrArg Host.Outcome.next (if_pos (by simp [hr, hl, he, ht])), rcUnlock_spec hn⟩
  case reset =>
    intro ch n v s hw hv hn
    refine ⟨_, rfl, ?_⟩
    rw [if_pos hv]
    have hrcs := guardedWrite_takes State.rcs (fun _ _ => rfl) (fun _ _ => rfl) (fun _ _ _ => rfl) s ch _ _ _ (s.applyRcReset n) hw
    refine ⟨guardedWrite_confirms _ _ _ _ _ _ hw, hrcs, ?_⟩
    rw [rc_congr hrcs]
    exact (congrArg Rc.diverged (rc_setRc_same _ ((put_length _ _ _).symm ▸ hn))).trans rfl
  case observer =>
    intro st s hu hp ht he
    refine ⟨_, congrArg Host.Outcome.next (if_pos (by simp [hu, hp, ht, he])), ?_⟩
    dsimp only
    rw [obsAct_carrierPeriod]
  case substitution =>
    intro ph st s hs hx hc ht hn
    refine congrArg Host.Outcome.next ?_
    rw [hs]
    exact if_pos (by simp [hx, hc, ht, hn])

theorem feed_setFeed_same {s : State} {f : Nat} (v : Feed) (h : f < s.feeds.length) : (s.setFeed f v).feed f = v := nth_put_same _ _ _ _ h

theorem feed_setFeed_other {s : State} {f n : Nat} (v : Feed) (h : n ≠ f) : (s.setFeed f v).feed n = s.feed n := nth_put_other _ _ _ _ _ h.symm

theorem feed_congr {s t : State} (h : t.feeds = s.feeds) (f : Nat) : t.feed f = s.feed f := congrArg (fun l => nth l f ({} : Feed)) h

/-- Settles O17: each command of the power manager acts in the supply state that it is for. -/
theorem powerManager : Obligations.PowerManager := by
  unfold Obligations.PowerManager
  refine ⟨?update, ?recompute, ?droop, ?shareTrim, ?inputLoss, ?handoverEnd, ?qualified, ?handback, ?start, ?rampEnd⟩
  case update =>
    intro s hr ht
    exact congrArg Host.Outcome.next (if_pos (by simp [hr, ht]))
  case recompute =>
    intro s hr
    exact congrArg Host.Outcome.next (if_pos hr)
  case droop =>
    intro s hr hc hm ho
    exact ⟨_, rfl, if_pos (by simp [hr, hc, hm, ho])⟩
  case shareTrim =>
    intro ch ph v s hw hc
    refine ⟨_, rfl, ?_⟩
    rw [if_pos hc]
    exact ⟨guardedWrite_confirms _ _ _ _ _ _ hw, guardedWrite_takes State.spm (fun _ _ => rfl) (fun _ _ => rfl) (fun _ _ _ => rfl) _ _ _ _ _ _ hw⟩
  case inputLoss =>
    intro s hd hc
    exact congrArg Host.Outcome.next (if_pos (by simp [hd, hc]))
  case handoverEnd =>
    intro s hm hs hd he
    exact congrArg Host.Outcome.next (if_pos (by simp [hm, hs, hd, he]))
  case qualified =>
    intro src s hlt hu hg hf hl
    have hfeed : (s.qualifyFeed src).feed src = { s.feed src with qualified := true, lost := false } := feed_setFeed_same _ hl
    refine ⟨_, congrArg Host.Outcome.next ((if_pos hlt).trans (if_pos (by rw [hg]; simp [hu, hf]))), ?_, ?_, fun f hne => feed_setFeed_other _ hne⟩
    · rw [hfeed]
    · rw [hfeed]
  case handback =>
    intro ch v s hw h0
    refine ⟨_, rfl, ?_⟩
    rw [h0]
    exact ⟨guardedWrite_confirms _ _ _ _ _ _ hw, guardedWrite_takes State.spm (fun _ _ => rfl) (fun _ _ => rfl) (fun _ _ _ => rfl) _ _ _ _ _ _ hw⟩
  case start =>
    intro src rest s hs hm hb hd hr
    refine congrArg Host.Outcome.next ?_
    rw [hs]
    exact if_pos (by simp [hm, hb, hd, hr])
  case rampEnd =>
    intro s hm hs hr he
    exact ⟨_, rfl, if_pos (by simp [hm, hs, hr, he])⟩

theorem raiseFeed_isActive {s t : State} {f unit d : Nat} (hm : s.mayRaise (s.feedKey f unit) = true) (hp : t.part = s.part := by rfl)
    (hs : t.supply = s.supply := by rfl) (hr : t.mode = s.mode := by rfl) : (t.raiseFeed f unit d).isActive (s.feedKey f unit) = true := by
  unfold State.raiseFeed
  extract_lets k _ t1
  have hk : k = s.feedKey f unit := key_congr hs
  have h1 : Changes [.feeds] t t1 := .le (.cond (.refl t) (.setFeed (.refl t)))
  rw [hk]
  exact raise_isActive_from hm ((h1.same .part).trans hp) (congrArg ModeState.regions ((h1.same .mode).trans hr))

/-- What a feed reads after an update of it, in a state whose feeds are those of the update. -/
theorem feed_updated {s t : State} {f : Nat} {v : Feed} (h : f < s.feeds.length) (ht : t.feeds = (s.setFeed f v).feeds := by rfl) : t.feed f = v :=
  (feed_congr ht f).trans (feed_setFeed_same v h)

/-- What the other feeds read after it. -/
theorem feed_others {s t : State} {f : Nat} {v : Feed} (ht : t.feeds = (s.setFeed f v).feeds := by rfl) : ∀ g, g ≠ f → t.feed g = s.feed g :=
  fun g hg => (feed_congr ht g).trans (feed_setFeed_other v hg)

theorem gateOff_feed {s : State} {f : Nat} (h : f < s.feeds.length) : ((s.gateOff f).feed f).gate = false := by
  unfold State.gateOff
  rw [feed_updated h]

theorem applyFeedOff_feed {s : State} {f : Nat} (h : f < s.feeds.length) :
    ((s.applyFeedOff f).feed f).on = false ∧ ((s.applyFeedOff f).feed f).gate = false ∧ ((s.applyFeedOff f).feed f).retries = 0 := by
  unfold State.applyFeedOff
  extract_lets s1
  have hl : f < s1.feeds.length := (put_length _ _ _).symm ▸ h
  have hgate : (s1.feed f).gate = false := gateOff_feed (by exact h)
  rw [feed_updated hl]
  exact ⟨rfl, hgate, rfl⟩

/-- Settles O18: each command of a feed acts in the condition that it is for, on that feed alone. -/
theorem feedCommands : Obligations.FeedCommands := by
  unfold Obligations.FeedCommands
  refine ⟨?gateOn, ?reverse, ?lost, ?enableOn, ?enableOff, ?chop, ?offExpired, ?inrushTimeout, ?confirmed, ?confirmTimeout, ?stuckOn, ?feedbackLost,
    ?short, ?retry, ?retryReset, ?meter⟩
  case gateOn =>
    intro f s hlt hl he hg hq hd ha ho hf
    refine ⟨_, congrArg Host.Outcome.next (if_pos (by rw [hf]; simp [hlt, he, hg, hq, hd, ha, ho])), ?_, ?_, ?_, feed_others⟩
    all_goals rw [feed_updated hl]
  case reverse =>
    intro f s hlt hg hc
    exact ⟨_, congrArg Host.Outcome.next (if_pos (by simp [hlt, hg, hc])), raiseFeed_isActive, rfl⟩
  case lost =>
    intro f s hlt he hv
    exact congrArg Host.Outcome.next (if_pos (by simp [hlt, he, hv]))
  case enableOn =>
    intro ch f s hw h0
    refine ⟨_, rfl, ?_⟩
    rw [h0]
    exact ⟨guardedWrite_confirms _ _ _ _ _ _ hw, guardedWrite_takes State.feeds (fun _ _ => rfl) (fun _ _ => rfl) (fun _ _ _ => rfl) _ _ _ _ _ _ hw,
      guardedWrite_takes State.cfg (fun _ _ => rfl) (fun _ _ => rfl) (fun _ _ _ => rfl) _ _ _ _ _ _ hw⟩
  case enableOff =>
    intro ch f s hw h0 hl
    refine ⟨_, rfl, ?_⟩
    rw [h0]
    have hfeeds := guardedWrite_takes State.feeds (fun _ _ => rfl) (fun _ _ => rfl) (fun _ _ _ => rfl) s ch _ _ _ (s.applyFeedOff f) hw
    obtain ⟨hon, hgate, hretries⟩ := applyFeedOff_feed hl
    refine ⟨guardedWrite_confirms _ _ _ _ _ _ hw, ?_, ?_, ?_, ?_⟩
    · rw [feed_congr hfeeds, hon]
    · rw [feed_congr hfeeds, hgate]
    · rw [feed_congr hfeeds, hretries]
    · exact guardedWrite_takes State.cfg (fun _ _ => rfl) (fun _ _ => rfl) (fun _ _ _ => rfl) _ _ _ _ _ _ hw
  case chop =>
    intro f s hle ho hl hi hg hc
    refine ⟨_, congrArg Host.Outcome.next (if_pos (by simp [hle, ho, hi, hg, hc])), ?_, ?_, feed_others⟩
    all_goals rw [feed_updated hl]
  case offExpired =>
    intro f at0 s hl ho hc hi ht
    have hexec : exec (.inrushOffExpired f) s = .next (s.setFeed f { s.feed f with gate := true, gateAt := s.now, chopAt := none }) := by
      refine congrArg Host.Outcome.next ?_
      rw [hc]
      exact if_pos (by simp [ho, hi, ht])
    refine ⟨_, hexec, ?_, ?_, feed_others⟩
    all_goals rw [feed_updated hl]
  case inrushTimeout =>
    intro f s hle ho hi ht
    exact congrArg Host.Outcome.next (if_pos (by simp [hle, ho, hi, ht]))
  case confirmed =>
    intro f s hlt hl
    have hset := feed_updated (s := s) (v := { s.feed f with gon := true, gonSince := s.now }) hl rfl
    have hl' : f < (s.setFeed f { s.feed f with gon := true, gonSince := s.now }).feeds.length := (put_length _ _ _).symm ▸ hl
    refine ⟨_, congrArg Host.Outcome.next (if_pos hlt), ?_, ?_, fun g hg => (feed_others rfl g hg).trans (feed_others rfl g hg)⟩
    all_goals
      unfold State.updatePg
      rw [feed_updated hl', hset]
  case confirmTimeout =>
    intro f s hg hc ht
    exact ⟨_, congrArg Host.Outcome.next (if_pos (by simp [hg, hc, ht])), raiseFeed_isActive, rfl⟩
  case stuckOn =>
    intro f s hlt hg
    exact ⟨_, congrArg Host.Outcome.next (if_pos (by simp [hlt, hg])), raiseFeed_isActive, rfl⟩
  case feedbackLost =>
    intro f s hl
    refine ⟨_, rfl, ?_, ?_, feed_others⟩
    all_goals rw [feed_updated hl]
  case short =>
    intro f s hle hg hi hc
    exact congrArg Host.Outcome.next (if_pos (by simp [hle, hg, hi, hc]))
  case retry =>
    intro f s hd
    exact congrArg Host.Outcome.next (if_pos hd)
  case retryReset =>
    intro f s hl ho hi he
    refine ⟨_, congrArg Host.Outcome.next (if_pos (by simp [ho, hi, he])), ?_, feed_others⟩
    rw [feed_updated hl]
  case meter =>
    intro f s hlt he
    exact ⟨_, congrArg Host.Outcome.next (if_pos (by rw [he]; simp [hlt])), raiseFeed_isActive, rfl⟩

end Sys2Proof.Machine

namespace Sys2Proof.Machine
open Safety (Part)

-- The proofs below are elaborated one after another, as those above.
set_option Elab.async false

theorem str_congr {s t : State} (h : t.strs = s.strs) (k : Nat) : t.str k = s.str k := congrArg (fun l => nth l k ({} : Str)) h

/-- What a string reads after an update of it, in a state whose strings are those of the update. -/
theorem str_updated {s t : State} {k : Nat} {v : Str} (h : k < s.strs.length) (ht : t.strs = (s.setStr k v).strs := by rfl) : t.str k = v :=
  (str_congr ht k).trans (str_setStr_same v h)

/-- What the other strings read after it. -/
theorem str_others {s t : State} {k : Nat} {v : Str} (ht : t.strs = (s.setStr k v).strs := by rfl) : ∀ n, n ≠ k → t.str n = s.str n :=
  fun n hn => (str_congr ht n).trans (str_setStr_other v hn.symm)

/-- Settles O19: each command of a string acts in the condition that it is for. -/
theorem stringCommands : Obligations.StringCommands := by
  unfold Obligations.StringCommands
  refine ⟨?unanchored, ?probeStart, ?probeEnd, ?request, ?autoRequest, ?abort, ?rampDownEnd, ?restPoint, ?complete, ?condition, ?refusal, ?replaced,
    ?commit, ?inputTimeout, ?mismatch, ?shedOpen⟩
  case unanchored =>
    intro k s hu ha hn
    refine ⟨_, congrArg Host.Outcome.next (if_pos (by rw [hn]; simp [hu, ha])), fun hm => ?_, rfl⟩
    split
    · exact raise_isActive_from hm
    · exact raise_isActive_from hm
  case probeStart =>
    intro k s hu hw hm
    exact ⟨_, rfl, if_pos (by simp [hu, hw, hm])⟩
  case probeEnd =>
    intro k neg since s hp he
    refine ⟨_, rfl, ?_⟩
    rw [hp]
    exact if_pos he
  case request =>
    intro ch k s hw hc hp
    refine ⟨_, rfl, ?_⟩
    rw [if_neg (by simp [hc, hp])]
    exact ⟨guardedWrite_confirms _ _ _ _ _ _ hw, guardedWrite_takes State.strs (fun _ _ => rfl) (fun _ _ => rfl) (fun _ _ _ => rfl) _ _ _ _ _ _ hw⟩
  case autoRequest =>
    intro k s hu ha ho hr hm hl
    exact congrArg Host.Outcome.next (if_pos (by simp [hu, ha, ho, hr, hm, hl]))
  case abort =>
    intro ch k s hw h0
    refine ⟨_, rfl, ?_⟩
    rw [h0]
    exact ⟨guardedWrite_confirms _ _ _ _ _ _ hw, guardedWrite_takes State.strs (fun _ _ => rfl) (fun _ _ => rfl) (fun _ _ _ => rfl) _ _ _ _ _ _ hw⟩
  case rampDownEnd =>
    intro k s hr he
    exact congrArg Host.Outcome.next (if_pos (by simp [hr, he]))
  case restPoint =>
    intro k s hr he
    exact congrArg Host.Outcome.next (if_pos (by simp [hr, he]))
  case complete =>
    intro k s hl hr he
    refine ⟨_, congrArg Host.Outcome.next (if_pos (by simp [hr, he])), ?_, ?_, str_others⟩
    all_goals rw [str_updated hl]
  case condition =>
    intro k s ho hh
    exact congrArg Host.Outcome.next (if_pos (by simp [ho, hh]))
  case refusal =>
    intro k s hh
    exact ⟨_, congrArg Host.Outcome.next (if_pos hh), raise_isActive_from⟩
  case replaced =>
    intro ch k v s hw h0
    refine ⟨_, rfl, ?_⟩
    rw [h0]
    exact ⟨guardedWrite_confirms _ _ _ _ _ _ hw, guardedWrite_takes State.strs (fun _ _ => rfl) (fun _ _ => rfl) (fun _ _ _ => rfl) _ _ _ _ _ _ hw⟩
  case commit =>
    intro s hr
    exact congrArg Host.Outcome.next (if_pos hr)
  case inputTimeout =>
    intro k which s hr hw he
    subst hw
    exact ⟨_, congrArg Host.Outcome.next ((if_neg (by simp [hr])).trans (if_pos he)), raise_isActive_from⟩
  case mismatch =>
    intro k s hu ht
    exact ⟨_, congrArg Host.Outcome.next (if_pos (by simp [hu, ht])), raise_isActive_from⟩
  case shedOpen =>
    intro k s hl hs hc ht
    refine ⟨_, congrArg Host.Outcome.next (if_pos (by simp [hs, hc, ht])), ?_, ?_, ?_, str_others⟩
    · rw [State.openString, str_updated hl]
    · rw [State.openString, str_updated hl]
    · rw [State.openString, str_updated hl]
      exact if_pos hc

/-- Settles O20: each command of a charger or of the black start acts in the phase that it is for. -/
theorem chargeAndBlackstart : Obligations.ChargeAndBlackstart := by
  unfold Obligations.ChargeAndBlackstart
  refine ⟨?step, ?chargeStart, ?chargeStop, ?pulseEnd, ?restEnd, ?timer, ?pause, ?eqRequest, ?eqAbort, ?skip, ?inWindow, ?settled, ?timeout⟩
  case step =>
    intro k s hr hc ht
    have hrate : (if (s.estOf k).lowRate then ticksPerS else ticksPerMs) ≤ s.since (s.estOf k).stepAt := by
      split
      · exact ht
      · exact Nat.le_trans (by decide) ht
    exact congrArg Host.Outcome.next (if_pos (by simp [hr, hc, hrate]))
  case chargeStart =>
    intro ch k s hw hc
    refine ⟨_, rfl, ?_⟩
    rw [if_pos hc]
    exact ⟨guardedWrite_confirms _ _ _ _ _ _ hw, guardedWrite_takes State.chargers (fun _ _ => rfl) (fun _ _ => rfl) (fun _ _ _ => rfl) _ _ _ _ _ _ hw⟩
  case chargeStop | eqAbort =>
    intro ch k s hw h0
    refine ⟨_, rfl, ?_⟩
    rw [h0]
    exact ⟨guardedWrite_confirms _ _ _ _ _ _ hw, guardedWrite_takes State.chargers (fun _ _ => rfl) (fun _ _ => rfl) (fun _ _ _ => rfl) _ _ _ _ _ _ hw⟩
  case pulseEnd =>
    intro k s hp hr hu hm he
    exact congrArg Host.Outcome.next (if_pos (by simp [hp, hr, hu, hm, he]))
  case restEnd =>
    intro k s hp hr hu hm he
    exact congrArg Host.Outcome.next (if_pos (by simp [hp, hr, hu, hm, he]))
  case timer =>
    intro k s hp ht hr hm
    refine congrArg Host.Outcome.next ((if_pos (by simp [hp, ht, hm])).trans ?_)
    simp [hr]
  case pause =>
    intro k s hp hu hm he
    exact congrArg Host.Outcome.next (if_pos (by simp [hp, hu, hm, he]))
  case eqRequest =>
    intro ch k s hw hc ho
    refine ⟨_, rfl, ?_⟩
    rw [if_neg (by simp [hc, ho])]
    exact ⟨guardedWrite_confirms _ _ _ _ _ _ hw, guardedWrite_takes State.chargers (fun _ _ => rfl) (fun _ _ => rfl) (fun _ _ _ => rfl) _ _ _ _ _ _ hw⟩
  case skip =>
    intro k s hp hr hm he
    exact congrArg Host.Outcome.next (if_pos (by simp [hp, hr, hm, he]))
  case inWindow =>
    intro s hm hb hi
    exact ⟨_, congrArg Host.Outcome.next (if_pos (by simp [hm, hb, hi])), rfl⟩
  case settled =>
    intro s hm hb hi hh
    exact congrArg Host.Outcome.next (if_pos (by simp [hm, hb, hi, hh]))
  case timeout =>
    intro s hm he
    exact ⟨_, congrArg Host.Outcome.next (if_pos (by simp [hm, he])), raise_isActive_from, congrArg Dead.bsState (raise_dead _ _ _),
      congrArg Dead.bsFailures (raise_dead _ _ _)⟩

/-- Settles O21: each clause is its command with the guard met. -/
theorem railPrograms : Obligations.RailPrograms := by
  unfold Obligations.RailPrograms
  refine ⟨?seqEnd, ?seqOn, ?seqOff, ?waitgood, ?waitlow, ?delay, ?waitgroup, ?mark, ?stageStart, ?stageLate, ?runFault, ?mooredFault,
    ?descentFault, ?overvoltage, ?marginHigh, ?marginLow, ?marginOff⟩
  case seqEnd =>
    intro g pins s hat hrise habort
    exact congrArg Host.Outcome.next ((if_pos hat).trans ((if_pos hrise).trans (if_neg (by simp [habort]))))
  case seqOn =>
    intro g pins s hat hrise hgood
    exact congrArg Host.Outcome.next ((if_pos (by simp [hat, hrise])).trans (if_pos hgood))
  case seqOff =>
    intro g pins s hat hrise hon hkind
    refine congrArg Host.Outcome.next ((if_pos (by simp [hat, hrise])).trans ?_)
    rw [if_pos (by rw [hon, bne, hkind]; rfl)]
  case waitgood =>
    intro g pins s hat hrise hgood
    exact congrArg Host.Outcome.next ((if_pos (by simp [hat, hrise])).trans (if_pos hgood))
  case waitlow =>
    intro g pins s hat hrise hlow
    exact congrArg Host.Outcome.next ((if_pos (by simp [hat, hrise])).trans (if_pos hlow))
  case delay =>
    intro g pins s hat htill
    exact congrArg Host.Outcome.next ((if_pos hat).trans (if_pos htill))
  case waitgroup =>
    intro g pins s hat hrise hphase hseen
    exact congrArg Host.Outcome.next ((if_pos hat).trans ((if_pos hrise).trans (if_pos (by simp [hphase, hseen]))))
  case mark =>
    intro g pins s hat
    exact congrArg Host.Outcome.next (if_pos hat)
  case stageStart =>
    intro r s heng howns hmode hhead hpar
    exact congrArg Host.Outcome.next (if_pos (by rw [heng, howns, hmode, hhead, hpar]; simp))
  case stageLate =>
    intro r s hused hkind hphase hlate
    exact congrArg Host.Outcome.next (if_pos (by simp [hused, hkind, hphase, hlate]))
  case runFault =>
    intro r detail s hruns hholds hnone
    refine ⟨_, congrArg Host.Outcome.next (if_pos ?_), rfl⟩
    rw [hruns, hholds, Option.isNone_iff_eq_none.mp hnone]
    rfl
  case mooredFault =>
    intro r detail s hmode hused hkept hon hholds
    exact ⟨_, congrArg Host.Outcome.next (if_pos (by simp only [hmode, hused, hkept, hon, hholds, Bool.and_self])), rfl⟩
  case descentFault =>
    intro r detail s hmode hused hon hholds
    exact congrArg Host.Outcome.next (if_pos (by simp only [hmode, hused, hon, hholds, Bool.and_self]))
  case overvoltage =>
    intro r s hmode hused hover htaken
    exact ⟨_, congrArg Host.Outcome.next (if_pos (by simp only [hmode, hused, hover, htaken, Bool.not_false, Bool.and_self])), rfl⟩
  case marginHigh | marginLow | marginOff =>
    intro ch r s hw h0
    refine ⟨_, rfl, ?_⟩
    rw [h0]
    exact ⟨guardedWrite_confirms _ _ _ _ _ _ hw,
      guardedWrite_takes State.rails (fun _ _ => rfl) (fun _ _ => rfl) (fun _ _ _ => rfl) _ _ _ _ _ _ hw,
      guardedWrite_takes State.cfg (fun _ _ => rfl) (fun _ _ => rfl) (fun _ _ _ => rfl) _ _ _ _ _ _ hw⟩

/-- A command to a rail group in SERVICE is confirmed and shown in the group's command object (R300). -/
theorem groupWrite_taken {s : State} {ch : Chan} {g v : Nat} {t : State} (hw : Safety.writable s ch (0x4304 + g) 2 (leBytes 1 v) = true)
    (hmode : s.inMode .service = true) :
    Safety.confirms (s.groupWrite ch g v 0 t) ch ∧
      (s.groupWrite ch g v 0 t).railGroups = (t.setRailGroup g { t.railGroup g with command := v }).railGroups := by
  unfold State.groupWrite
  rw [if_pos hmode]
  exact ⟨guardedWrite_confirms _ _ _ _ _ _ hw,
    guardedWrite_takes State.railGroups (fun _ _ => rfl) (fun _ _ => rfl) (fun _ _ _ => rfl) _ _ _ _ _ _ hw⟩

/-- Settles O22: in SERVICE the command is confirmed, and the group does what it says. -/
theorem railGroups : Obligations.RailGroups := by
  unfold Obligations.RailGroups
  refine ⟨?rise, ?abortRise, ?lower⟩
  case rise | lower =>
    intro ch g s hw hmode hphase
    refine ⟨_, congrArg (fun t => Host.Outcome.next (s.groupWrite ch g _ 0 t)) (if_pos hphase), ?_⟩
    exact groupWrite_taken hw hmode
  case abortRise =>
    intro ch g s hw hmode hrise
    have hphase : (s.railGroup g).phase = .rising := by simpa [State.rising] using hrise
    have hstatus : (if (s.railGroup g).phase == .risen then stAlready else 0) = 0 := by rw [hphase]; rfl
    refine ⟨_, congrArg Host.Outcome.next (congrArg₂ (s.groupWrite ch g 2) hstatus (if_pos hrise)), ?_⟩
    exact groupWrite_taken hw hmode

/-- A bus error is kept with its requester (R1). -/
theorem busErrorTo_mem (s : State) (rq : Requester) (host : Option Chan) :
    (s.busErrorTo rq host).mem = { s.mem with busError := true, busTo := some rq, answer := [] } := by
  cases rq <;> cases host <;> simp [State.busErrorTo, State.reply]

theorem busErrorTo_pair (s : State) (rq : Requester) (host : Option Chan) : (s.busErrorTo rq host).pair = s.pair := by
  cases rq <;> cases host <;> simp [State.busErrorTo, State.reply]

/-- A bus error ends no source. -/
theorem busErrorTo_isActive_of (s : State) (rq : Requester) (host : Option Chan) {k : Key} (h : s.isActive k = true) :
    (s.busErrorTo rq host).isActive k = true := by
  cases rq with
  | recorder => exact raise_isActive_of _ _ k _ h
  | cores => cases host <;> exact h
  | server => cases host <;> exact h
  | scrubber => exact h

/-- Settles O23: each clause is its command with the guard met; a write is answered, and the flags it clears are those of its region. -/
theorem faultCommands : Obligations.FaultCommands := by
  unfold Obligations.FaultCommands
  refine ⟨?windowEnd, ?again, ?sev, ?query, ?irq, ?lockout, ?lockstep, ?d2d, ?emcy⟩
  case windowEnd =>
    intro id kind a w s ha hw hover
    refine congrArg Host.Outcome.next ?_
    rw [ha, Option.bind_some, hw]
    exact if_pos hover
  case again =>
    intro id kind a s ha hw
    refine congrArg Host.Outcome.next ?_
    rw [ha, Option.bind_some, hw]
  case sev =>
    intro ch region record s hw h0
    refine ⟨_, rfl, ?_⟩
    rw [h0]
    exact ⟨guardedWrite_confirms _ _ _ _ _ _ hw,
      guardedWrite_takes State.faults (fun _ _ => rfl) (fun _ _ => rfl) (fun _ _ _ => rfl) _ _ _ _ _ _ hw⟩
  case query =>
    intro ch region record s hw h0
    refine ⟨_, rfl, ?_⟩
    rw [h0]
    exact guardedWrite_confirms _ _ _ _ _ _ hw
  case irq =>
    intro ch region mask s hw hl
    have htakes := guardedWrite_takes State.faults (fun _ _ => rfl) (fun _ _ => rfl) (fun _ _ _ => rfl) s ch (0x2200 + region) 4 (leBytes 1 mask)
      (s.applyIrqClear region mask) hw
    refine ⟨_, rfl, guardedWrite_confirms _ _ _ _ _ _ hw, ?_, (congrArg Faults.active htakes).trans rfl⟩
    refine (congrArg (fun v => (nth (Faults.regions v) (region - 1) {}).irqPending) htakes).trans ?_
    exact congrArg RegionFaults.irqPending (nth_put_same _ _ _ _ hl)
  case lockout =>
    intro s hpend hmode hrun
    refine congrArg Host.Outcome.next ?_
    obtain ⟨d, hd⟩ := Option.isSome_iff_exists.mp hpend
    rw [hd]
    exact if_neg (by rw [hmode, hrun]; decide)
  case lockstep =>
    intro s hsup
    exact ⟨_, congrArg Host.Outcome.next (if_pos hsup), fun hm => raise_isActive s _ _ hm⟩
  case d2d =>
    intro s hsup hrun
    have h4 : 4 ≤ s.pair.d2dRun + 1 := by omega
    refine ⟨_, congrArg Host.Outcome.next ((if_pos hsup).trans (if_pos h4)), ?_⟩
    refine ⟨fun hm => busErrorTo_isActive_of _ _ _ (raise_isActive_from hm), ?_, ?_, ?_⟩
    · exact congrArg Mem.busError (busErrorTo_mem _ _ _)
    · exact congrArg Mem.busTo (busErrorTo_mem _ _ _)
    · rw [busErrorTo_pair, raise_pair]
      exact if_pos h4
  case emcy =>
    intro port e q s hgap hinhibit hqueue hport
    refine congrArg Host.Outcome.next ?_
    rw [hinhibit, hgap, hqueue]
    exact (if_pos rfl).trans (if_pos hport)

/-- What a state keeps of a frame of class `c` with number `seq` that is taken (R354). -/
def State.seqTaken (s : State) (c seq : Nat) : State :=
  { s with pair := { s.pair with rxSeq := put s.pair.rxSeq (c - 1) seq, rxSync := put s.pair.rxSync (c - 1) true } }

/-- A frame dropped is a link error (R355). -/
def State.linkError (s : State) : State := { s with pair := { s.pair with linkErrors := s.pair.linkErrors + 1 } }

theorem seqIn_taken {s : State} {c seq : Nat} {ok : Bool} (h : (s.seqIn c seq ok).2 = true) : s.seqIn c seq ok = (s.seqTaken c seq, true) := by
  unfold State.seqIn at h ⊢
  split at h
  · rename_i hc
    exact if_pos hc
  · cases h

theorem seqIn_dropped {s : State} {c seq : Nat} {ok : Bool} (h : (s.seqIn c seq ok).2 = false) : s.seqIn c seq ok = (s.linkError, false) := by
  unfold State.seqIn at h ⊢
  split at h
  · cases h
  · rename_i hc
    exact if_neg hc

/-- Settles O24: each clause is its command with the guard met, on the state in which the frame's number is taken. -/
theorem pairLink : Obligations.PairLink := by
  unfold Obligations.PairLink
  refine ⟨?hbSend, ?hbTaken, ?hbMiss, ?absent, ?elSend, ?elTaken, ?elTimeout, ?health, ?track, ?early, ?alSend, ?alTaken, ?mirror, ?mirrorNow,
    ?fragment, ?fragmentDropped, ?retransmit, ?laneDown, ?laneUp⟩
  case hbSend =>
    intro s hup hstall
    refine ⟨_, congrArg Host.Outcome.next (if_pos hup), ?_, rfl⟩
    exact if_neg (by simp [hstall])
  case hbTaken =>
    intro seq hb err ok0 ok1 s hup hlane hshed hok hfol hlive hmode
    refine ⟨_, congrArg Host.Outcome.next (if_pos hup), ?_⟩
    have hseq : ∀ n, ({ s with pair := { s.pair with linkErrors := n } } : State).seqIn 1 seq true =
        (({ s with pair := { s.pair with linkErrors := n } } : State).seqTaken 1 seq, true) := fun n => if_pos (by rw [Bool.true_and]; exact hfol)
    simp only [hlane, hshed, hok, hseq, Bool.not_true, Bool.and_false, Bool.not_false, Bool.and_true, Bool.true_or, if_true]
    rw [if_neg Bool.false_ne_true, if_pos (by simpa [State.seqTaken] using ⟨hlive, hmode⟩)]
    simp [State.seqTaken, b2n]
  case hbMiss =>
    intro s hup hseen hlate hrun himg
    refine ⟨_, congrArg Host.Outcome.next ((if_pos (by simp [hup, hseen, hlate])).trans ((if_pos (by simp [hrun])).trans (if_neg (by simpa using himg)))), ?_⟩
    exact ⟨fun hm => raise_isActive_from hm, congrArg Pair.hbLost (raise_pair _ _ _), congrArg Pair.trackReady (raise_pair _ _ _),
      congrArg Pair.hbMisses (raise_pair _ _ _)⟩
  case absent =>
    intro s hup hlate
    refine ⟨_, congrArg Host.Outcome.next (if_pos (by simp [hup, hlate])), ?_⟩
    exact ⟨fun hm => raise_isActive_from hm, congrArg Pair.unacked (raise_pair _ _ _)⟩
  case elSend =>
    intro s hup hfrozen hscore
    refine ⟨_, congrArg Host.Outcome.next (if_pos (by simp [hup, hfrozen, hscore])), rfl, ?_⟩
    exact (Changes.parts [.pair] (.refl s)).only
  case elTaken =>
    intro hd crcOk score s hel hlate hup hin
    refine ⟨_, congrArg Host.Outcome.next ((if_pos hup).trans (if_pos hin)), ?_⟩
    rw [show s.frameIn 1 0x02 hd crcOk = _ from seqIn_taken hin]
    exact if_pos (by rw [show (s.seqTaken 1 hd.seq).electing = s.electing from rfl, hel, show (s.seqTaken 1 hd.seq).electionLate = s.electionLate from rfl, hlate]; rfl)
  case elTimeout =>
    intro s hel _ hlate hside
    refine congrArg Host.Outcome.next (if_pos ?_)
    rw [hel, if_pos hside, hlate]
    rfl
  case health =>
    intro s hsup
    exact ⟨_, congrArg Host.Outcome.next (if_pos hsup), rfl, (Changes.parts [.pair] (.refl s)).only⟩
  case track =>
    intro hd crcOk m s hup hin hlast hfol hsnap
    refine congrArg Host.Outcome.next ((if_pos hup).trans ((if_pos (by simp [hin, hlast, hfol])).trans (if_pos ?_)))
    rw [show s.frameIn 2 0x10 hd crcOk = _ from seqIn_taken hin]
    exact hsnap
  case early =>
    intro hd crcOk m s hup hin hlast hfol hsnap
    refine ⟨_, congrArg Host.Outcome.next ((if_pos hup).trans (if_pos (by simp [hin, hlast, hfol]))), ?_⟩
    rw [show s.frameIn 2 0x10 hd crcOk = _ from seqIn_taken hin,
      if_neg (show ¬ (s.seqTaken 2 hd.seq, true).1.pair.snapApplied = true by simp [State.seqTaken, hsnap])]
    exact ⟨rfl, (Changes.parts [.pair] (.refl s)).only⟩
  case alSend =>
    intro k l rest s hown hdue
    refine ⟨{ s.sendFrame 3 (.align k l) with
      pair := { (s.sendFrame 3 (.align k l)).pair with lastAlign := l, alignIndex := k, alignAt := some s.now } }, ?_, rfl, rfl⟩
    refine congrArg Host.Outcome.next ?_
    simp only [hown, hdue, if_true, sendFrame_now]
  case alTaken =>
    intro hd crcOk k items s hup hin hlast hfol
    exact congrArg Host.Outcome.next ((if_pos hup).trans (if_pos (by simp [hin, hlast, hfol])))
  case mirror =>
    intro hd crcOk k idx sub data s hup hin hlast howns hsnap hrun
    refine ⟨_, congrArg Host.Outcome.next (if_pos hup), ?_⟩
    rw [show s.frameIn 4 0x30 hd crcOk = _ from seqIn_taken hin, hlast, if_pos (show _ = true by simp [State.seqTaken, howns]),
      if_neg (show ¬ ((s.seqTaken 4 hd.seq, true).1.follows && !(s.seqTaken 4 hd.seq, true).1.pair.snapApplied) = true from Bool.eq_false_iff.mp hsnap), State.takeMirror, if_pos (show (s.seqTaken 4 hd.seq, true).1.refRuns = true from hrun)]
    exact ⟨rfl, rfl⟩
  case mirrorNow =>
    intro hd crcOk k idx sub data s hup hin hlast howns hsnap hrun
    refine congrArg Host.Outcome.next ((if_pos hup).trans ?_)
    rw [show s.frameIn 4 0x30 hd crcOk = _ from seqIn_taken hin, hlast, if_pos (show _ = true by simp [State.seqTaken, howns]),
      if_neg (show ¬ ((s.seqTaken 4 hd.seq, true).1.follows && !(s.seqTaken 4 hd.seq, true).1.pair.snapApplied) = true from Bool.eq_false_iff.mp hsnap), State.takeMirror, if_neg (show ¬ (s.seqTaken 4 hd.seq, true).1.refRuns = true from Bool.eq_false_iff.mp hrun)]
  case fragment =>
    intro hd crcOk k snap s hup hin hfol hlast
    refine ⟨_, congrArg Host.Outcome.next ((if_pos hup).trans ((if_pos (by simp [hin, hfol])).trans (if_pos (by simp [hlast])))), ?_⟩
    rw [show s.frameIn 5 0x40 hd crcOk = _ from seqIn_taken hin]
    rfl
  case fragmentDropped =>
    intro hd crcOk k snap s hup hin
    refine ⟨_, congrArg Host.Outcome.next ((if_pos hup).trans (if_neg (by simp [hin]))), ?_⟩
    rw [show s.frameIn 5 0x40 hd crcOk = _ from seqIn_dropped hin]
    exact ⟨rfl, (Changes.parts [.pair] (.refl s)).only⟩
  case retransmit =>
    intro cls f fs s hup hcls hwait hlate
    refine ⟨{ s with pair := { s.pair with
      unacked := put s.pair.unacked (cls - 2) ((f :: fs).map fun x => { x with at_ := s.now })
      retransmits := s.pair.retransmits + fs.length + 1 } }, ?_, rfl, rfl, (Changes.parts [.pair] (.refl s)).only⟩
    refine congrArg Host.Outcome.next ?_
    rw [hwait]
    exact if_pos (by simp [hup, hcls, hlate])
  case laneDown =>
    intro lane s hup hlane
    refine ⟨_, congrArg Host.Outcome.next (if_pos (by simp [hup, hlane])), ?_⟩
    exact ⟨fun hm => raise_isActive_from hm, congrArg Pair.lanes (raise_pair _ _ _)⟩
  case laneUp =>
    intro lane ok roundTrip s hup hlane hok hdown
    refine ⟨_, congrArg Host.Outcome.next (if_pos (by simp [hup, hlane, hok, hdown])), ?_⟩
    exact ⟨congrArg Pair.lanes (clearing_pair _ _), congrArg Pair.linkDelay (clearing_pair _ _)⟩

/-- The TRIP that waits for the release or the cores leaves the pair's state but its own flag. -/
theorem tripAfterRelease_pair (s : State) : ∃ b, s.tripAfterRelease.pair = { s.pair with tripOnResume := b } := by
  unfold State.tripAfterRelease
  split
  · exact ⟨false, rfl⟩
  · exact ⟨s.pair.tripOnResume, rfl⟩

/-- Settles O25: each clause is its command with the guard met. -/
theorem ownership : Obligations.Ownership := by
  unfold Obligations.Ownership
  refine ⟨?released, ?readback, ?engStop, ?supStall, ?low, ?resume, ?request, ?cancel, ?release, ?timeout⟩
  case released =>
    intro s howns hrun
    exact ⟨_, congrArg Host.Outcome.next (if_neg (by simp [howns, hrun])), rfl⟩
  case readback =>
    intro s howns
    exact ⟨_, congrArg Host.Outcome.next (if_pos howns), fun hm => raise_isActive s _ _ hm⟩
  case engStop =>
    intro s heng
    exact ⟨_, congrArg Host.Outcome.next (if_pos heng), rfl⟩
  case supStall =>
    intro s hc
    exact congrArg Host.Outcome.next (if_pos hc)
  case low =>
    intro since s hself hlate
    refine ⟨({ s.outputsLow with pair := { s.outputsLow.pair with selfRelease := none } } : State).tripAfterRelease, ?_, ?_⟩
    · refine congrArg Host.Outcome.next ?_
      rw [hself]
      exact if_pos hlate
    · generalize hu : ({ s.outputsLow with pair := { s.outputsLow.pair with selfRelease := none } } : State) = u
      have hrest : u.tripAfterRelease.phases = u.phases ∧ u.tripAfterRelease.feeds = u.feeds ∧ u.tripAfterRelease.strs = u.strs := by
        unfold State.tripAfterRelease
        split <;> exact ⟨rfl, rfl, rfl⟩
      obtain ⟨b, hb⟩ := tripAfterRelease_pair u
      refine ⟨?_, hrest.1.trans ?_, hrest.2.1.trans ?_, hrest.2.2.trans ?_⟩
      · rw [hb, ← hu]
      all_goals rw [← hu]
  case resume =>
    intro s hstall
    refine ⟨_, congrArg Host.Outcome.next (if_pos hstall), ?_, fun htrip => ?_⟩
    · obtain ⟨b, hb⟩ := tripAfterRelease_pair { s with pair := { s.pair with supStalled := false } }
      rw [hb]
    · unfold State.tripAfterRelease
      rw [if_pos (by simp [htrip])]
  case request =>
    intro ch s hw h0
    refine ⟨_, rfl, ?_⟩
    rw [h0]
    have htakes {α : Type} (f : Pair → α) (hf : ∀ (p : Pair) v u, f { p with txSeq := v, unacked := u } = f p) :=
      guardedWrite_takes (fun t => f t.pair) (fun _ _ => rfl) (fun _ _ => rfl) (fun t v u => hf t.pair v u) s ch 0x2500 7 [1] s.applyHandover hw
    exact ⟨guardedWrite_confirms _ _ _ _ _ _ hw, htakes Pair.hoRequest (fun _ _ _ => rfl), htakes Pair.hoState (fun _ _ _ => rfl),
      htakes Pair.hoFrom (fun _ _ _ => rfl)⟩
  case cancel =>
    intro ch s hw hreq howns
    have hcancel : s.cancelHandover = { s with pair := { s.pair with hoRequest := false, hoState := 5 } } := if_pos (by simp [hreq, howns])
    refine ⟨_, rfl, guardedWrite_confirms _ _ _ _ _ _ hw, ?_, ?_⟩
    · exact (guardedWrite_takes (·.pair.hoRequest) (fun _ _ => rfl) (fun _ _ => rfl) (fun _ _ _ => rfl) _ _ _ _ _ _ hw).trans (by rw [hcancel])
    · exact (guardedWrite_takes (·.pair.hoState) (fun _ _ => rfl) (fun _ _ => rfl) (fun _ _ _ => rfl) _ _ _ _ _ _ hw).trans (by rw [hcancel])
  case release =>
    intro s howns hmode hstate
    exact ⟨_, congrArg Host.Outcome.next (if_pos (by simp [howns, hmode, hstate])), rfl⟩
  case timeout =>
    intro s hstate hlate himg
    refine ⟨_, congrArg Host.Outcome.next ((if_pos (by rw [hstate, hlate]; rfl)).trans (if_neg himg)), rfl, rfl⟩

/-- A single value that the checks let pass is not refused (R384). -/
theorem firstRefusal_singleton {s : State} {ch : Chan} {e : Entry} (h : s.entryStatus (s.placed [e]) ch e = 0) : s.firstRefusal ch [e] = none := by
  simp [State.firstRefusal, h]

/-- A value that the checks let pass takes effect and is confirmed (R384). -/
theorem hostWrite_applied {s : State} {ch : Chan} {idx sub : Nat} {data : List Byte} (hserved : s.served ch = true)
    (h : s.entryStatus (s.placed [(s.target idx, sub, data)]) ch (s.target idx, sub, data) = 0) :
    s.hostWrite ch [(idx, sub, data)] = ((s.applyAll ch [(s.target idx, sub, data)]).touch ch).answerWrite ch stOk := by
  refine (if_pos hserved).trans ?_
  unfold State.transferWrite
  simp only [List.map_cons, List.map_nil, firstRefusal_singleton h, h]
  rfl

/-- Settles O26: a write that the checks let pass is applied and confirmed, whatever its object; the access level's commands have their guards met. -/
theorem dictionaryWrites : Obligations.DictionaryWrites := by
  unfold Obligations.DictionaryWrites
  refine ⟨?object, ?common, ?drop, ?save, ?restore, ?legacy, ?challenge, ?response, ?idle⟩
  case object =>
    intro ch idx sub data s hserved h
    exact ⟨_, congrArg Host.Outcome.next (hostWrite_applied hserved h), answerWrite_confirms _ _, rfl⟩
  case common =>
    intro ch idx sub data s hserved hcommon h
    exact ⟨_, congrArg Host.Outcome.next ((if_pos hcommon).trans (hostWrite_applied hserved h)), answerWrite_confirms _ _, rfl⟩
  case drop | legacy =>
    intro ch v s hserved h
    exact ⟨_, congrArg Host.Outcome.next (hostWrite_applied hserved h), answerWrite_confirms _ _, rfl⟩
  case save | restore =>
    intro ch sig s hserved h
    exact ⟨_, congrArg Host.Outcome.next (hostWrite_applied hserved h), answerWrite_confirms _ _, rfl⟩
  case challenge =>
    intro ch s hserved
    exact congrArg Host.Outcome.next (if_pos hserved)
  case response =>
    intro ch level sig s hserved h0
    exact congrArg Host.Outcome.next ((if_pos hserved).trans (if_pos h0))
  case idle =>
    intro ch y s hy hlate
    refine congrArg Host.Outcome.next ?_
    rw [hy]
    exact if_pos hlate

/-- A Nireo request carried out anew is answered with what its operation gives (R394, R395). -/
theorem nireo_anew {u : State} {n op tag idx sub word : Nat} {slot : Bool} {y : Session} (f : State → State)
    (h : Safety.nireoAnew u n y op tag idx sub word slot = true) :
    u.nireo n op tag idx sub word slot f = Safety.nireoAnswer (f (Safety.nireoTurn u n y op idx sub slot)) n y op tag idx sub word := by
  simp only [Safety.nireoAnew, Bool.and_eq_true, beq_iff_eq, Option.isNone_iff_eq_none, Bool.not_eq_true'] at h
  obtain ⟨⟨⟨hserved, hsession⟩, hkept⟩, hslot⟩ := h
  obtain ⟨hdict, hup⟩ : u.dictUp = true ∧ u.transportUp y.port = true := by simpa [State.served, hsession] using hserved
  unfold State.nireo
  simp only [hdict, hsession, hup, Bool.not_true, Bool.false_eq_true, if_false]
  simp only [Safety.nireoHeard] at hkept hslot
  rw [hkept, hslot]
  rfl

end Sys2Proof.Machine

namespace Sys2Proof.Machine
open Safety (Part)

-- The proofs below are elaborated one after another, as those above.
set_option Elab.async false

/-- The host that a CAN FD identifier names (R397). -/
theorem fdIdent_host {s : State} {p host : Nat} (hh : host < 16) (hn : s.nodeOf p < 256) : (s.fdIdent p host 0 - 0x1E400000) / 0x1000 % 16 = host := by
  unfold State.fdIdent
  omega

@[simp] theorem ethReceived_nireo (s : State) (p : Nat) : (s.ethReceived p).net.nireo = s.net.nireo := rfl

/-- A response sent changes the ports and the HS queue alone (R397). -/
theorem sendResponse_net (s : State) (port : Nat) (peer : Nat × Nat) (frame : List Byte) :
    (s.sendResponse port peer frame).net.nireo = s.net.nireo ∧ (s.sendResponse port peer frame).net.answer = s.net.answer := by
  unfold State.sendResponse
  split
  · exact ⟨rfl, rfl⟩
  · split <;> exact ⟨rfl, rfl⟩
  · split <;> exact ⟨rfl, rfl⟩
  · exact ⟨rfl, rfl⟩

/-- Settles O27: a request carried out anew is answered with what its operation gives; the frames and timeouts are their commands with the guard met. -/
theorem sdoAndNireo : Obligations.SdoAndNireo := by
  unfold Obligations.SdoAndNireo
  refine ⟨?request, ?abort, ?segment, ?read, ?write, ?begin, ?part, ?finish, ?drop, ?close, ?batch, ?openSession, ?dropped, ?idle, ?domainIdle,
    ?hsFrame, ?hsStatus, ?hsResponse, ?fd, ?fdOther⟩
  case request =>
    intro p v r s hready hvalid hserved
    exact congrArg Host.Outcome.next (if_pos (by simp [hready, hvalid, hserved]))
  case abort =>
    intro p v s hready hserved
    exact congrArg Host.Outcome.next (if_pos (by simp [hready, hserved]))
  case segment =>
    intro p v y s hy hlate
    refine ⟨s.sdoAbort p v stTimeout, ?_, rfl, rfl⟩
    refine congrArg Host.Outcome.next ?_
    rw [hy]
    exact if_pos hlate
  case read =>
    intro rq tag idx sub ca word y s h
    exact ⟨_, congrArg Host.Outcome.next (nireo_anew _ h), rfl⟩
  case write =>
    intro rq tag idx sub ca data y s h
    exact ⟨_, congrArg Host.Outcome.next (nireo_anew _ h), rfl⟩
  case begin =>
    intro rq tag idx sub size y s h
    exact ⟨_, congrArg Host.Outcome.next (nireo_anew _ h), rfl⟩
  case part =>
    intro rq tag idx sub word data y s h
    exact ⟨_, congrArg Host.Outcome.next (nireo_anew _ h), rfl⟩
  case finish =>
    intro rq tag idx sub crc y s h
    exact ⟨_, congrArg Host.Outcome.next (nireo_anew _ h), rfl⟩
  case drop =>
    intro rq tag idx sub y s h
    exact ⟨_, congrArg Host.Outcome.next (nireo_anew _ h), rfl⟩
  case close =>
    intro rq tag y s h
    exact ⟨_, congrArg Host.Outcome.next (nireo_anew _ h), rfl⟩
  case batch =>
    intro rq tag entries y s h
    exact ⟨_, congrArg Host.Outcome.next (nireo_anew _ h), rfl⟩
  case openSession =>
    intro port tag peer s hdict hup hslots hport hall
    refine ⟨_, congrArg Host.Outcome.next (if_neg (by simp [hdict, hup])), ?_⟩
    have hfree : ¬(8 ≤ ((s.ethReceived port).portSessions port).length ∨ 32 ≤ (s.ethReceived port).net.nireo.length) := by
      rw [ethReceived_nireo]
      omega
    have hsummary : (s.ethReceived port).draw.2.notePeak.objN 0x4720 2 = s.objN 0x4720 2 := objN_congr_at rfl rfl rfl rfl (by decide)
    simp only [hslots, hfree, hsummary, Bool.false_eq_true, if_false]
    exact ⟨(sendResponse_net _ _ _ _).1, congrArg Answer.status (sendResponse_net _ _ _ _).2⟩
  case dropped =>
    intro port s hdict hup
    exact ⟨_, congrArg Host.Outcome.next (if_pos (by simp [hdict, hup])), rfl⟩
  case idle =>
    intro n y s hy hlate
    refine congrArg Host.Outcome.next ?_
    rw [hy]
    exact if_pos hlate
  case domainIdle =>
    intro n idx sub y s hy hlate
    refine congrArg Host.Outcome.next ?_
    rw [hy]
    exact if_pos hlate
  case hsFrame =>
    intro frame crcOk s hup
    exact congrArg Host.Outcome.next (if_neg (by simp [hup]))
  case hsStatus =>
    intro s hup
    exact ⟨_, congrArg Host.Outcome.next (if_pos hup), rfl, rfl⟩
  case hsResponse =>
    intro r rs s hup hqueue
    refine ⟨{ s with net := { s.net with hsQueue := rs, hsOut := r ++ leBytes 4 (crc32 r).toNat } }, ?_, rfl, rfl⟩
    refine congrArg Host.Outcome.next ((if_neg (by simp [hup])).trans ?_)
    rw [hqueue]
  case fd =>
    intro p host w data old s hp hh hn hdict hup hfd hw hl
    obtain ⟨hw1, hw2⟩ := hw
    have hhost := fdIdent_host (s := s) (p := p) hh hn
    have hfirst : bit w.toNat 7 = false := by simp [bit]; omega
    have hlast : bit w.toNat 6 = false := by simp [bit]; omega
    have hcount : w.toNat % 64 = w.toNat := Nat.mod_eq_of_lt hw2
    have hguard : (!(decide (p < 2) && s.dictUp && s.transportUp (3 + p)) || s.fdIdent p host 0 != s.fdIdent p host 0) = false := by
      simp [hp, hdict, hup]
    refine ⟨s.canHeard.setCan p { s.can p with fd := [] ++ [(host, old ++ data, (w.toNat + 1) % 64)] }, ?_, ?_⟩
    · refine congrArg Host.Outcome.next ?_
      simp only [hhost, hguard, Bool.false_eq_true, if_false, hfd, hfirst, hlast, hcount]
      simp
    · exact congrArg CanPort.fd (nth_put_same _ _ _ _ (by unfold State.canHeard; split <;> exact hl))
  case fdOther =>
    intro p ident seg data s hne
    exact congrArg Host.Outcome.next (if_pos (by simp [hne]))

/-- Controller 0 in ACTIVE with its dictionary online and its first CAN port stopped in the LSS configuration state. -/
def stoppedPort : State :=
  { supply := { phase := .running }, mode := { mode := .active, online := true, regions := regionsOf .boot }
    net := { can := [{ nmt := .stopped, lssConfig := true }, {}] } }

theorem stoppedPort_lssReady : stoppedPort.lssReady 0 = true ∧ 0 < stoppedPort.net.can.length := by decide +kernel

/-- A stopped port sends no LSS answer (R388): what it sent last stays. -/
theorem lssAnswer_stopped {s : State} {p : Nat} {data : List Byte} (h : (s.can p).nmt = .stopped) : s.lssAnswer p data = s.canHeard := by
  unfold State.lssAnswer
  rw [if_pos h]

/-- Refutes O28: a port that NMT has stopped takes the node-ID but does not acknowledge it. -/
theorem not_canOpenNmtLss : ¬ Obligations.CanOpenNmtLss := by
  unfold Obligations.CanOpenNmtLss
  rintro ⟨-, -, -, -, -, -, hnode, -⟩
  obtain ⟨hready, hlen⟩ := stoppedPort_lssReady
  obtain ⟨t, hexec, -, hsent, -⟩ := hnode 0 1 stoppedPort hready hlen (by decide)
  have hstep : exec (.lssConfigureNodeId 0 1) stoppedPort = .next (stoppedPort.setCan 0 { stoppedPort.can 0 with pendNode := some 1 }).canHeard :=
    congrArg Host.Outcome.next ((if_pos hready).trans ((if_pos (by decide)).trans (lssAnswer_stopped rfl)))
  have ht : (stoppedPort.setCan 0 { stoppedPort.can 0 with pendNode := some 1 }).canHeard = t := Host.Outcome.next.inj (hstep.symm.trans hexec)
  rw [← ht] at hsent
  exact absurd hsent (by decide +kernel)

@[simp] theorem unwatch_now (s : State) (p node : Nat) : (s.unwatch p node).now = s.now :=
  ((Changes.unwatch (.refl s)).same .now)

theorem can_setCan_same {s : State} {p : Nat} (v : CanPort) (h : p < s.net.can.length) : (s.setCan p v).can p = v := nth_put_same _ _ _ _ h

theorem can_setCan_other {s : State} {p q : Nat} (v : CanPort) (h : q ≠ p) : (s.setCan p v).can q = s.can q := nth_put_other _ _ _ _ _ h.symm

/-- Settles O29: each clause is its command with the guard met. -/
theorem canOpenServices : Obligations.CanOpenServices := by
  unfold Obligations.CanOpenServices
  refine ⟨?rpdo, ?event, ?timer, ?inhibit, ?pg, ?sync, ?syncHeard, ?syncForeign, ?time, ?heartbeat, ?heard, ?late, ?busOff, ?recovery⟩
  case rpdo =>
    intro p n data s hlive hnmt hn hvalid
    exact ⟨_, congrArg Host.Outcome.next (if_pos (by simp [hlive, hnmt, hn, hvalid])), rfl⟩
  case event =>
    intro n s hlive htype hover
    unfold exec execTpdoEvent State.tpdoChanged
    simp [hlive, htype, hover]
  case timer =>
    intro n s hlive htype htime hsent
    refine congrArg Host.Outcome.next (if_pos ?_)
    rw [hsent]
    simp [hlive, htype, htime]
  case inhibit =>
    intro n s hlive htype hchanged hover
    exact congrArg Host.Outcome.next (if_pos (by simp [hlive, htype, hchanged, hover]))
  case pg =>
    intro n s hdue
    exact ⟨_, congrArg Host.Outcome.next (if_pos hdue), rfl⟩
  case sync =>
    intro s hon hports hk hphase
    exact ⟨_, congrArg Host.Outcome.next (if_pos (by simp [hon, hports, hk, hphase])), rfl⟩
  case syncHeard =>
    intro p s hp hon
    refine congrArg Host.Outcome.next ((if_pos (by simpa using hp)).trans ?_)
    rw [if_neg (by simp [hon])]
  case syncForeign =>
    intro p s hp hon
    refine congrArg Host.Outcome.next ((if_pos (by simpa using hp)).trans ?_)
    rw [if_pos hon]
  case time =>
    intro s howns hbit hstate hports hsent hfrom hto
    exact ⟨_, congrArg Host.Outcome.next (if_pos (by simp only [howns, hbit, hports, hfrom, hto, bne_iff_ne.mpr hstate, bne_iff_ne.mpr hsent, decide_true,
      Bool.not_false, Bool.and_self])), rfl⟩
  case heartbeat =>
    intro p s hlive hl htime hlate
    refine ⟨_, congrArg Host.Outcome.next (if_pos (by rw [hlive, hlate, bne_iff_ne.mpr htime]; rfl)), ?_⟩
    have hl' : p < (s.setCan p { s.can p with hbAt := s.now }).net.can.length := by simpa [State.setCan] using hl
    unfold State.sendCan
    rw [can_setCan_same _ hl', can_setCan_same _ hl]
    exact ⟨rfl, rfl, fun q hq => (can_setCan_other _ hq).trans (can_setCan_other _ hq)⟩
  case heard =>
    intro p node s hlive htime
    have hhears : s.canHears p = true := by
      simp only [State.canLive, Bool.and_eq_true] at hlive
      exact hlive.1
    refine ⟨_, congrArg Host.Outcome.next (if_pos (by simp [hhears, htime])), ?_⟩
    simp only [unwatch_now]
  case late =>
    intro p node s hlive htime hlate
    obtain ⟨⟨hruns, -⟩, hshed⟩ : (s.canRuns p = true ∧ (s.can p).busOff = false) ∧ s.isShed 7 0xFF (2 + p) = false := by
      simpa [State.canLive, State.canHears] using hlive
    exact congrArg Host.Outcome.next (if_pos (by rw [hruns, hshed, hlate, bne_iff_ne.mpr htime]; rfl))
  case busOff =>
    intro p s hdrives
    exact congrArg Host.Outcome.next (if_pos hdrives)
  case recovery =>
    intro p s hoff
    exact congrArg Host.Outcome.next (if_pos hoff)

theorem eth_setEth_same {s : State} {p : Nat} (v : EthPort) (h : p < s.net.eth.length) : (s.setEth p v).eth p = v := nth_put_same _ _ _ _ h

theorem eth_setEth_other {s : State} {p q : Nat} (v : EthPort) (h : q ≠ p) : (s.setEth p v).eth q = s.eth q := nth_put_other _ _ _ _ _ h.symm

@[simp] theorem setEth_ethPorts (s : State) (p : Nat) (v : EthPort) : (s.setEth p v).net.eth.length = s.net.eth.length := put_length _ _ _

/-- A received frame is counted and changes nothing else of its port (0x4A00:0B). -/
theorem ethReceived_eth_same {s : State} {p : Nat} (h : p < s.net.eth.length) :
    (s.ethReceived p).eth p = { s.eth p with received := (s.eth p).received + 1 } := eth_setEth_same _ h

theorem ethReceived_eth_other {s : State} {p q : Nat} (h : q ≠ p) : (s.ethReceived p).eth q = s.eth q := eth_setEth_other _ h

/-- The list of a port's faults is no part of its link (R391). -/
theorem setPortFaults_link (s : State) (u p : Nat) (l : List Nat) :
    ((s.setPortFaults u l).eth p).linkUp = (s.eth p).linkUp ∧ ((s.setPortFaults u l).eth p).speed = (s.eth p).speed := by
  unfold State.setPortFaults
  split
  · by_cases hp : p = u
    · subst hp
      by_cases hl : p < s.net.eth.length
      · rw [eth_setEth_same _ hl]
        exact ⟨rfl, rfl⟩
      · rw [show (s.setEth p { s.eth p with faults := l }).eth p = s.eth p from congrArg (fun ports => nth ports p ({} : EthPort)) (put_beyond _ _ _ (Nat.le_of_not_lt hl))]
        exact ⟨rfl, rfl⟩
    · rw [eth_setEth_other _ hp]
      exact ⟨rfl, rfl⟩
  · exact ⟨rfl, rfl⟩

theorem portFaultEnd_link (s : State) (u d p : Nat) :
    ((s.portFaultEnd u d).eth p).linkUp = (s.eth p).linkUp ∧ ((s.portFaultEnd u d).eth p).speed = (s.eth p).speed := by
  unfold State.portFaultEnd
  split
  · dsimp only
    split <;> exact setPortFaults_link s u p _
  · exact ⟨rfl, rfl⟩

/-- A request for the port's own address is counted and answered (R400). -/
theorem ethAnswer_own {s : State} {p addr kind : Nat} (hlive : s.ethLive p = true) (hl : p < s.net.eth.length) (ha : addr = (s.eth p).addr) :
    ((s.ethAnswer p addr kind).eth p).lastReply = kind ∧ ((s.ethAnswer p addr kind).eth p).received = (s.eth p).received + 1 ∧
      ∀ q, q ≠ p → (s.ethAnswer p addr kind).eth q = s.eth q := by
  have hown : addr = ((s.ethReceived p).eth p).addr := by rw [ethReceived_eth_same hl]; exact ha
  have heq : s.ethAnswer p addr kind = (s.ethReceived p).setEth p { (s.ethReceived p).eth p with lastReply := kind } :=
    (if_pos hlive).trans (if_pos hown)
  have hl' : p < (s.ethReceived p).net.eth.length := by rw [State.ethReceived, setEth_ethPorts]; exact hl
  rw [heq, eth_setEth_same _ hl', ethReceived_eth_same hl]
  exact ⟨rfl, rfl, fun q hq => (eth_setEth_other _ hq).trans (ethReceived_eth_other hq)⟩

/-- Settles O30: each clause is its command with the guard met. -/
theorem ethernetAndTime : Obligations.EthernetAndTime := by
  unfold Obligations.EthernetAndTime
  refine ⟨?linkUp, ?linkDown, ?dropped, ?arp, ?echo, ?sync, ?announce, ?delay, ?lower, ?higher, ?annTimeout, ?timeSet, ?phase, ?traceable,
    ?pps, ?traceTimeout, ?holdover⟩
  case linkUp =>
    intro p speed s hhas hnet hrun hspeed hmode hl
    have hpilot : ((s.setEth p { s.eth p with linkUp := true, speed := speed }).portFaultEnd p 1).inMode .pilot = false :=
      (congrArg (fun m : ModeState => m.mode == .pilot) ((Changes.portFaultEnd (.refl _)).same .mode)).trans hmode
    refine ⟨_, congrArg Host.Outcome.next ((if_pos (by rw [hhas, hnet, hrun]; rcases hspeed with rfl | rfl | rfl <;> rfl)).trans
      (if_neg (by rw [hpilot, Bool.false_and]; exact Bool.false_ne_true))), ?_⟩
    obtain ⟨hlink, hsame⟩ := portFaultEnd_link (s.setEth p { s.eth p with linkUp := true, speed := speed }) p 1 p
    rw [hlink, hsame, eth_setEth_same _ hl]
    exact ⟨rfl, rfl⟩
  case linkDown =>
    intro p s hhas hen hnet hrun
    exact congrArg Host.Outcome.next (if_pos (by simp [hhas, hen, hnet, hrun]))
  case dropped =>
    intro p s hlive hl
    refine ⟨_, congrArg Host.Outcome.next (if_pos hlive), ?_, fun q hq => eth_setEth_other _ hq⟩
    rw [eth_setEth_same _ hl]
  case arp | echo =>
    intro p addr s hlive hl ha
    exact ⟨_, rfl, ethAnswer_own hlive hl ha⟩
  case sync =>
    intro p s hmaster hl hdue
    refine ⟨_, congrArg Host.Outcome.next (if_pos (by simp [hmaster, hdue])), ?_⟩
    rw [eth_setEth_same _ hl]
    exact ⟨rfl, rfl, rfl, rfl, fun q hq => eth_setEth_other _ hq⟩
  case announce =>
    intro p s hmaster hl hdue
    refine ⟨_, congrArg Host.Outcome.next (if_pos (by simp [hmaster, hdue])), ?_⟩
    rw [eth_setEth_same _ hl]
    exact ⟨rfl, rfl, rfl, fun q hq => eth_setEth_other _ hq⟩
  case delay =>
    intro p req s hmaster hl
    refine ⟨_, congrArg Host.Outcome.next (if_pos hmaster), ?_⟩
    have hl' : p < (s.ethReceived p).net.eth.length := by rw [State.ethReceived, setEth_ethPorts]; exact hl
    rw [eth_setEth_same _ hl', ethReceived_eth_same hl]
    exact ⟨rfl, rfl, fun q hq => (eth_setEth_other _ hq).trans (ethReceived_eth_other hq)⟩
  case lower =>
    intro p a s hlive hout
    exact congrArg Host.Outcome.next ((if_pos hlive).trans (if_neg (by simp [hout])))
  case higher =>
    intro p a s hlive hout hstate
    exact congrArg Host.Outcome.next ((if_pos hlive).trans (if_pos (by simpa [hout] using hstate)))
  case annTimeout =>
    intro p s hpassive hlate
    exact congrArg Host.Outcome.next (if_pos (by simp [hpassive, hlate]))
  case timeSet | traceable =>
    intro ch v s hserved h
    exact ⟨_, congrArg Host.Outcome.next (hostWrite_applied hserved h), answerWrite_confirms _ _, rfl⟩
  case phase =>
    intro ch ns s hserved h
    exact ⟨_, congrArg Host.Outcome.next (hostWrite_applied hserved h), answerWrite_confirms _ _, rfl⟩
  case pps =>
    intro s hup hsec hedge
    exact ⟨_, congrArg Host.Outcome.next (if_pos (by simp only [hup, hedge, bne_iff_ne.mpr hsec, decide_true, Bool.and_self])), rfl⟩
  case traceTimeout =>
    intro s hstate hlate
    exact congrArg Host.Outcome.next (if_pos ⟨hstate, hlate⟩)
  case holdover =>
    intro s hstate hlate
    exact ⟨_, congrArg Host.Outcome.next (if_pos ⟨hstate, hlate⟩), rfl, (Changes.parts [.net] (.refl s)).only⟩

/-- Corrected errors change the buckets and the count of a device alone (R446). -/
theorem countDevice_mem (s : State) (rank d : Nat) : ∃ v n, (s.countDevice rank d).mem = { s.mem with buckets := v, corrected := n } := by
  unfold State.countDevice
  dsimp only
  split
  · rw [raise_mem]
    exact ⟨_, _, rfl⟩
  · exact ⟨_, _, rfl⟩

theorem countBurst_mem (s : State) (b : Nat) (l : List (Option (List Byte × Option Nat))) :
    ∃ v n, (s.countBurst b l).mem = { s.mem with buckets := v, corrected := n } := by
  refine forUnits_induct (P := fun t => ∃ v n, t.mem = { s.mem with buckets := v, corrected := n }) _ ?_ ⟨_, _, rfl⟩
  rintro t d - ⟨v, n, ht⟩
  obtain ⟨v', n', ht'⟩ := countDevice_mem t (t.rankOf b) d
  rw [ht', ht]
  exact ⟨v', n', rfl⟩

/-- The write-backs that wait are the only change of a burst queued for one (R437). -/
theorem queueWriteBack_mem (s : State) (b : Nat) (l : List (Option (List Byte × Option Nat))) :
    ∃ w, (s.queueWriteBack b l).mem = { s.mem with writeBack := w } := by
  unfold State.queueWriteBack
  split
  · exact ⟨s.mem.writeBack, rfl⟩
  · exact ⟨_, rfl⟩

@[simp] theorem filledNow_peak (s : State) : s.filledNow.mem.peak = s.mem.peak := by
  unfold State.filledNow
  split <;> rfl

/-- A read that meets no uncorrectable codeword (R440, R441). -/
theorem dramReadOp_good {s : State} {rq : MemReq} {addr len : Nat} {errs : List SymErr}
    (hgood : firstBad (s.filledNow.readBurst (addr / 32) errs) = none) :
    (s.dramReadOp rq addr len errs).mem.answer = ((wordsBytes (s.filledNow.readBurst (addr / 32) errs)).drop (addr % 32)).take len ∧
      (s.dramReadOp rq addr len errs).mem.busError = false ∧
      (s.dramReadOp rq addr len errs).mem.peak = max (rq.others.length + 1) s.mem.peak ∧
      (s.dramReadOp rq addr len errs).mem.cells = s.filledNow.mem.cells := by
  unfold State.dramReadOp
  simp only [hgood]
  obtain ⟨v, n, hcount⟩ := countBurst_mem (s.filledNow.peaked rq) (addr / 32) (s.filledNow.readBurst (addr / 32) errs)
  obtain ⟨w, hqueue⟩ := queueWriteBack_mem ((s.filledNow.peaked rq).countBurst (addr / 32) (s.filledNow.readBurst (addr / 32) errs)) (addr / 32)
    (s.filledNow.readBurst (addr / 32) errs)
  refine ⟨trivial, trivial, ?_, ?_⟩
  · rw [hqueue, hcount]
    exact (peaked_peak _ _).trans (by rw [filledNow_peak])
  · rw [hqueue, hcount]
    rfl

theorem loseRing_mem (s : State) : s.loseRing.mem = s.mem := (Changes.loseRing (.refl s)).same .mem

/-- A capture ring lost is no part of what a refill begins with (R435, R437). -/
theorem loseRing_refill_mem (s : State) : s.loseRing.refill.mem = s.refill.mem := by
  have h := Changes.loseRing (.refl s)
  have hmode : s.loseRing.inMode .pilot = s.inMode .pilot := congrArg (fun m : ModeState => m.mode == .pilot) (h.same .mode)
  have hobj : s.loseRing.objN 0x4600 5 = s.objN 0x4600 5 := objN_congr_at (h.same .cfg) (h.same .kept) (h.same .img) (h.same .supply) (by decide)
  have hnow : s.loseRing.now = s.now := h.same .now
  simp only [State.refill, State.parityMode, hmode, hobj, hnow, loseRing_mem]

/-- A change of EccMode is stored, refills a trained array and loses the capture ring (R436, R437). -/
theorem applyEccMode_changed {s : State} {v : Nat} (hne : s.objN 0x4600 5 ≠ v) :
    (s.applyEccMode v).mem = (if s.mem.trainResult = 1 then (s.setObjN 0x4600 5 1 v).refill.mem else s.mem) ∧
      (s.applyEccMode v).cfg = storePut (objKey 0x4600 5) (leBytes 1 v) s.cfg ∧
      (s.applyEccMode v).log.running = false ∧ (s.applyEccMode v).log.frames = 0 := by
  have hmem : (s.setObjN 0x4600 5 1 v).loseRing.mem = s.mem := loseRing_mem _
  have hcfg : (s.setObjN 0x4600 5 1 v).loseRing.cfg = storePut (objKey 0x4600 5) (leBytes 1 v) s.cfg := (Changes.loseRing (.refl _)).same .cfg
  have hrefill := loseRing_refill_mem (s.setObjN 0x4600 5 1 v)
  have hlost : (s.setObjN 0x4600 5 1 v).loseRing.log.running = false ∧ (s.setObjN 0x4600 5 1 v).loseRing.log.frames = 0 := ⟨rfl, rfl⟩
  unfold State.applyEccMode
  rw [if_neg hne]
  dsimp only
  rw [hmem]
  generalize (s.setObjN 0x4600 5 1 v).loseRing = u at *
  split
  · exact ⟨hrefill, hcfg, hlost⟩
  · exact ⟨hmem, hcfg, hlost⟩

/-- Settles O31: each clause is its command with the guard met; a read's answer is what the burst decodes to. -/
theorem memoryCommands : Obligations.MemoryCommands := by
  unfold Obligations.MemoryCommands
  refine ⟨?train, ?fill, ?read, ?write, ?scrub, ?lap, ?leak, ?sramLeak, ?ecc, ?flip, ?alert, ?outOfTurn, ?readBeyond, ?writeBeyond⟩
  case train =>
    intro ch v result s hw hmode
    refine ⟨_, rfl, ?_⟩
    rw [if_pos hmode]
    exact ⟨guardedWrite_confirms _ _ _ _ _ _ hw,
      guardedWrite_takes State.mem (fun _ _ => rfl) (fun _ _ => rfl) (fun _ _ _ => rfl) _ _ _ _ _ _ hw,
      guardedWrite_takes State.faults (fun _ _ => rfl) (fun _ _ => rfl) (fun _ _ _ => rfl) _ _ _ _ _ _ hw⟩
  case fill =>
    intro s hfill hup
    refine ⟨_, congrArg Host.Outcome.next (if_pos (by simp [hfill, hup])), ?_, ?_, ?_, ?_⟩
    · rfl
    · rfl
    · split
      · exact congrArg (· == 0) (objN_congr_at rfl rfl rfl rfl (by decide))
      · rfl
    · split <;> rfl
  case read =>
    intro rq addr len errs s hup haddr hshed hturn hgood
    obtain ⟨hanswer, hbus, hpeak, hcells⟩ := dramReadOp_good (s := s) (rq := rq) (len := len) hgood
    refine ⟨s.dramReadOp rq addr len errs, ?_, hanswer, hbus, ?_, ?_, hcells⟩
    · exact (if_neg (by simp [hup])).trans ((if_neg (by omega)).trans (congrArg Host.Outcome.next (if_neg (by simp [hshed, hturn]))))
    · omega
    · omega
  case write =>
    intro rq addr data errs s hup haddr hshed hturn
    exact (if_neg (by simp [hup])).trans ((if_neg (by omega)).trans (congrArg Host.Outcome.next (if_neg (by simp [hshed, hturn]))))
  case scrub =>
    intro errs s hscrub hup hshed hgood hclean
    refine congrArg Host.Outcome.next ((if_pos (by simp [hscrub, hup])).trans ((if_neg (by simp [hshed])).trans ?_))
    simp only [hgood, hclean]
    rfl
  case lap =>
    intro s hscrub hup hlim hlate
    exact ⟨_, congrArg Host.Outcome.next (if_pos (by simp [hscrub, hup, hlim, hlate])), fun hm => raise_isActive s _ _ hm⟩
  case leak =>
    rintro _ s rfl hhas hon hdue
    exact congrArg Host.Outcome.next ((if_neg Bool.false_ne_true).trans (if_pos (by simp [hhas, hon, hdue])))
  case sramLeak =>
    intro s hdue
    exact congrArg Host.Outcome.next (if_pos hdue)
  case ecc =>
    intro ch v s hw hmode hne
    obtain ⟨hmem, hcfg, hrunning, hframes⟩ := applyEccMode_changed hne
    refine ⟨_, rfl, ?_⟩
    rw [if_pos hmode]
    exact ⟨guardedWrite_confirms _ _ _ _ _ _ hw,
      (guardedWrite_takes State.mem (fun _ _ => rfl) (fun _ _ => rfl) (fun _ _ _ => rfl) _ _ _ _ _ _ hw).trans hmem,
      (guardedWrite_takes State.cfg (fun _ _ => rfl) (fun _ _ => rfl) (fun _ _ _ => rfl) _ _ _ _ _ _ hw).trans hcfg,
      (guardedWrite_takes (·.log.running) (fun _ _ => rfl) (fun _ _ => rfl) (fun _ _ _ => rfl) _ _ _ _ _ _ hw).trans hrunning,
      (guardedWrite_takes (·.log.frames) (fun _ _ => rfl) (fun _ _ => rfl) (fun _ _ _ => rfl) _ _ _ _ _ _ hw).trans hframes⟩
  case flip =>
    intro ch v s hw hmode
    refine ⟨_, rfl, ?_⟩
    rw [if_pos hmode]
    have hmem := guardedWrite_takes State.mem (fun _ _ => rfl) (fun _ _ => rfl) (fun _ _ _ => rfl) s ch 0x2720 4 (leBytes 1 v) s.armFlip hw
    exact ⟨guardedWrite_confirms _ _ _ _ _ _ hw, hmem, (congrArg Mem.flipArmed hmem).trans rfl⟩
  case alert =>
    intro rank s hup hrank halert
    refine ⟨_, congrArg Host.Outcome.next ((if_pos (by simp only [hup, hrank, decide_true, Bool.and_self])).trans (if_pos halert)), ?_⟩
    exact ⟨fun hm => raise_isActive_from hm, congrArg Mem.alerted (raise_mem _ _ _), congrArg Mem.busError (raise_mem _ _ _),
      congrArg Mem.uncorrected (raise_mem _ _ _)⟩
  case outOfTurn =>
    intro rq addr len data errs s hup haddr hout
    constructor
    · exact (if_neg (by simp [hup])).trans ((if_neg (by omega)).trans (congrArg Host.Outcome.next (if_pos hout)))
    · exact (if_neg (by simp [hup])).trans ((if_neg (by omega)).trans (congrArg Host.Outcome.next (if_pos hout)))
  case readBeyond =>
    intro rq addr len errs s hup haddr
    exact (if_neg (by simp [hup])).trans (if_pos haddr)
  case writeBeyond =>
    intro rq addr data errs s hup haddr
    exact (if_neg (by simp [hup])).trans (if_pos haddr)

/-- The flaw of a copy in MRAM is told in that copy alone (R451). -/
theorem spoilCopy_keeps (s : State) (c : MramCopy) (second : Bool) :
    (s.spoilCopy c second).part = s.part ∧ (s.spoilCopy c second).mode = s.mode ∧ (s.spoilCopy c second).mem = s.mem ∧
      (s.spoilCopy c second).supply.sideB = s.supply.sideB := by
  cases c <;> cases second <;> exact ⟨rfl, rfl, rfl, rfl⟩

/-- The state in which an uncorrectable word of MRAM is counted, marked and spoils what it holds, before its source is raised. -/
def State.wordSpoilt (s : State) (e : MramError) : State :=
  let t := { s with
    mem := { s.mem with
      mramUncorrected := s.mem.mramUncorrected + 1
      badWords := (e.addr / 8 * 8) :: s.mem.badWords.filter fun a => a != e.addr / 8 * 8 }
    img := (s.img.spoil e.addr).mark }
  match e.copy with
  | some c => if 0x3C00000 ≤ e.addr then t.spoilCopy c.1 c.2 else t
  | none => t

theorem uncorrectableWord_eq (s : State) (e : MramError) :
    s.uncorrectableWord e = (s.wordSpoilt e).raise ((s.wordSpoilt e).key 9 0xFF 0 2) 0 := by
  unfold State.uncorrectableWord State.wordSpoilt
  cases e.copy <;> rfl

theorem wordSpoilt_spec (s : State) (e : MramError) :
    (s.wordSpoilt e).part = s.part ∧ (s.wordSpoilt e).mode = s.mode ∧ (s.wordSpoilt e).supply.sideB = s.supply.sideB ∧
      (s.wordSpoilt e).mem.mramUncorrected = s.mem.mramUncorrected + 1 ∧ e.addr / 8 * 8 ∈ (s.wordSpoilt e).mem.badWords := by
  unfold State.wordSpoilt
  dsimp only
  split
  · split
    · rename_i c _ _
      obtain ⟨hpart, hmode, hmem, hside⟩ := spoilCopy_keeps { s with
        mem := { s.mem with
          mramUncorrected := s.mem.mramUncorrected + 1
          badWords := (e.addr / 8 * 8) :: s.mem.badWords.filter fun a => a != e.addr / 8 * 8 }
        img := (s.img.spoil e.addr).mark } c.1 c.2
      rw [hmem]
      exact ⟨hpart, hmode, hside, rfl, List.mem_cons_self⟩
    · exact ⟨rfl, rfl, rfl, rfl, List.mem_cons_self⟩
  · exact ⟨rfl, rfl, rfl, rfl, List.mem_cons_self⟩

/-- An uncorrectable word of MRAM is counted, marked and raised (R450, R451). -/
theorem uncorrectableWord_spec (s : State) (e : MramError) :
    (s.mayRaise (s.key 9 0xFF 0 2) = true → (s.uncorrectableWord e).isActive (s.key 9 0xFF 0 2) = true) ∧
      (s.uncorrectableWord e).mem.mramUncorrected = s.mem.mramUncorrected + 1 ∧
      e.addr / 8 * 8 ∈ (s.uncorrectableWord e).mem.badWords ∧
      (e.copy = none → (s.uncorrectableWord e).img = (s.img.spoil e.addr).mark) := by
  obtain ⟨hpart, hmode, hside, hcount, hbad⟩ := wordSpoilt_spec s e
  have hkey : (s.wordSpoilt e).key 9 0xFF 0 2 = s.key 9 0xFF 0 2 := by
    unfold State.key State.member
    rw [hside]
  rw [uncorrectableWord_eq, hkey, raise_mem, raise_img]
  refine ⟨fun hm => raise_isActive_from hm hpart (congrArg ModeState.regions hmode), hcount, hbad, fun hnone => ?_⟩
  unfold State.wordSpoilt
  rw [hnone]

/-- Settles O32: each clause is its command with the guard met. -/
theorem sramAndMram : Obligations.SramAndMram := by
  unfold Obligations.SramAndMram
  refine ⟨?corrected, ?uncorrected, ?write, ?bad, ?single⟩
  case corrected =>
    rintro region unit _ s rfl hpresent
    exact congrArg Host.Outcome.next (if_pos (by rw [hpresent]; rfl))
  case uncorrected =>
    rintro region unit item s hpresent rfl hl hitem
    refine ⟨_, congrArg Host.Outcome.next ((if_pos hpresent).trans (if_pos hitem)), fun hm => ?_⟩
    exact raise_isActive s _ _ hm
  case write =>
    intro w addr v fails s howner haligned hfails
    refine ⟨_, congrArg Host.Outcome.next ((if_pos (by simp [howner, haligned])).trans (if_neg (by omega))), rfl, rfl, ?_, ?_, rfl⟩
    · exact congrArg (s.mem.mramRetries + ·) (min_eq_right hfails)
    · exact fun hmem => by simpa using (List.mem_filter.mp hmem).2
  case bad =>
    intro e s haddr hsingle
    exact ⟨_, congrArg Host.Outcome.next ((if_pos haddr).trans (if_neg (by simp [hsingle]))), uncorrectableWord_spec s e⟩
  case single =>
    intro e s haddr hsingle
    exact congrArg Host.Outcome.next ((if_pos haddr).trans (if_pos hsingle))

/-- A record that arrives leaves the freeze alone (R460). -/
theorem arrive_freeze (l : Log) (r : Record) :
    (l.arrive r).freeze = l.freeze ∧ (l.arrive r).command = l.command ∧ (l.arrive r).owner = l.owner := by
  unfold Log.arrive
  split
  · exact ⟨rfl, rfl, rfl⟩
  · dsimp only
    split <;> exact ⟨rfl, rfl, rfl⟩

theorem note_freeze (s : State) (a : Nat) (p : List Byte) :
    (s.note a p).log.freeze = s.log.freeze ∧ (s.note a p).log.command = s.log.command ∧ (s.note a p).log.owner = s.log.owner :=
  arrive_freeze s.log _

/-- The channel that starts a freeze owns it (R455). -/
theorem startFreeze_owner (s : State) (ch : Chan) : (s.startFreeze ch).log.owner = ch := by
  unfold State.startFreeze
  dsimp only
  split
  · exact (note_freeze _ _ _).2.2
  · rfl

/-- Settles O33: each clause is its command with the guard met; the record that a write of the freeze leaves changes nothing of it. -/
theorem recorderCommands : Obligations.RecorderCommands := by
  unfold Obligations.RecorderCommands
  refine ⟨?arrival, ?unlisted, ?commit, ?start, ?abort, ?release, ?limit, ?cursor, ?block⟩
  case arrival =>
    intro r s hrun hok
    exact ⟨_, congrArg Host.Outcome.next (if_pos (by simp [hrun, hok])), rfl⟩
  case unlisted =>
    intro r s hok
    exact congrArg Host.Outcome.next (if_neg (by simp [hok]))
  case commit =>
    intro s hdue
    exact ⟨_, congrArg Host.Outcome.next (if_pos hdue), rfl⟩
  case start =>
    intro ch s hw hmode hheld
    refine ⟨_, rfl, ?_⟩
    rw [if_neg (by simp [hmode, hheld])]
    have hlog := guardedWrite_takes State.log (fun _ _ => rfl) (fun _ _ => rfl) (fun _ _ _ => rfl) s ch 0x4701 6 [1] (s.startFreeze ch) hw
    exact ⟨guardedWrite_confirms _ _ _ _ _ _ hw, hlog, (congrArg Log.owner hlog).trans (startFreeze_owner s ch)⟩
  case abort =>
    intro ch s hw h0
    refine ⟨_, rfl, ?_⟩
    rw [h0]
    obtain ⟨hfreeze, hcommand, -⟩ := note_freeze { s with log := { s.log with freeze := .aborted, command := 2 } } 0x0041 (leBytes 1 5)
    exact ⟨guardedWrite_confirms _ _ _ _ _ _ hw,
      (guardedWrite_takes (·.log.freeze) (fun _ _ => rfl) (fun _ _ => rfl) (fun _ _ _ => rfl) _ _ _ _ _ _ hw).trans hfreeze,
      (guardedWrite_takes (·.log.command) (fun _ _ => rfl) (fun _ _ => rfl) (fun _ _ _ => rfl) _ _ _ _ _ _ hw).trans hcommand⟩
  case release =>
    intro ch s hw howner hfrozen
    refine ⟨_, rfl, ?_⟩
    rw [if_pos (by simp [howner, hfrozen])]
    have hnote := note_freeze { s with log := { s.log with command := 3, freeze := .released, waiting := s.log.waiting.map fun (r : Record) => { r with fromFreeze := r.fromFreeze || s.log.freeze == .frozen } } } 0x0041 (leBytes 1 (Freeze.code .released))
    obtain ⟨hfreeze, hcommand, -⟩ := hnote
    exact ⟨guardedWrite_confirms _ _ _ _ _ _ hw,
      (guardedWrite_takes (·.log.freeze) (fun _ _ => rfl) (fun _ _ => rfl) (fun _ _ _ => rfl) _ _ _ _ _ _ hw).trans hfreeze,
      (guardedWrite_takes (·.log.command) (fun _ _ => rfl) (fun _ _ => rfl) (fun _ _ _ => rfl) _ _ _ _ _ _ hw).trans hcommand⟩
  case limit =>
    intro s hfrozen hlate
    exact ⟨_, congrArg Host.Outcome.next (if_pos (by rw [hfrozen, hlate]; rfl)), rfl, (note_freeze _ _ _).1⟩
  case cursor =>
    intro ch n s hw
    refine ⟨_, rfl, guardedWrite_confirms _ _ _ _ _ _ hw, ?_⟩
    refine (guardedWrite_takes State.log (fun _ _ => rfl) (fun _ _ => rfl) (fun _ _ _ => rfl) _ _ _ _ _ _ hw).trans ?_
    unfold State.placeCursor
    split
    · cases ch <;> rfl
    · rfl
  case block =>
    intro ch s hserved hexists
    exact congrArg Host.Outcome.next ((if_neg (by simp [hserved])).trans (if_neg (by simp [hexists])))

/-- A record that arrives leaves the windows alone (R460). -/
theorem arrive_windows (l : Log) (r : Record) : (l.arrive r).windows = l.windows := by
  unfold Log.arrive
  split
  · rfl
  · dsimp only
    split <;> rfl

theorem noteWindow_windows (s : State) (w e rec : Nat) (ref : Option RecRef) : (s.noteWindow w e rec ref).log.windows = s.log.windows :=
  arrive_windows _ _

/-- A window abandoned is empty, and no other changes (R466). -/
theorem abandonWindow_windows (s : State) (w : Nat) : (s.abandonWindow w).log.windows = put s.log.windows w {} := noteWindow_windows _ _ _ _ _

/-- On the FYX9462, whose ring is no DRAM, a promotion puts the window frozen with its data (R467). -/
theorem promoteWindow_fyx9462 {s : State} {w : Nat} {v : Window} {errs : List (Nat × SymErr)} (hpart : s.part = .fyx9462) :
    ∃ h, (s.promoteWindow w v errs).log.windows = put s.log.windows w { v with state := .frozen, data := s.windowData v errs, header := h } := by
  have hreads : s.promoteReads v errs = s := if_pos hpart
  refine ⟨s.windowHead v ++ leBytes 4 (crc32 (s.windowHead v ++ s.windowData v errs)).toNat, ?_⟩
  unfold State.promoteWindow
  simp only [hreads]
  exact noteWindow_windows _ _ _ _ _

/-- Settles O34: each clause is its command with the guard met; it puts the window it names and no other. -/
theorem captureCommands : Obligations.CaptureCommands := by
  unfold Obligations.CaptureCommands
  refine ⟨?frame, ?trigger, ?now, ?lastFrame, ?commit, ?waits, ?fyx, ?abandon, ?release⟩
  case frame =>
    intro errs s hruns htick hlast
    exact congrArg Host.Outcome.next ((if_pos hruns).trans (if_pos ⟨htick, hlast⟩))
  case trigger =>
    intro b key cls md at_ e s hhas hon hdue
    refine congrArg Host.Outcome.next ?_
    rw [hdue]
    exact if_pos (by rw [hhas, hon]; rfl)
  case now =>
    intro ch s hw hen
    refine ⟨_, congrArg (fun t => Host.Outcome.next (s.guardedWrite ch 0x4703 8 [1] 0 t)) (if_pos hen), guardedWrite_confirms _ _ _ _ _ _ hw, ?_⟩
    exact guardedWrite_takes State.log (fun _ _ => rfl) (fun _ _ => rfl) (fun _ _ _ => rfl) _ _ _ _ _ _ hw
  case lastFrame =>
    intro w s hstate hframes hl
    refine ⟨_, congrArg Host.Outcome.next (if_pos (by rw [hstate, decide_eq_true hframes]; rfl)), ?_, fun k hk => nth_put_other _ _ _ _ _ hk.symm,
      (Changes.parts [.log] (.refl s)).only⟩
    exact congrArg Window.state (nth_put_same _ _ _ _ hl)
  case commit =>
    intro p s hstate hdue hpart hlost
    refine ⟨_, congrArg Host.Outcome.next ((if_pos ?_).trans (if_neg (by simp [hlost]))), rfl⟩
    rw [hstate, hdue, hpart]
    rfl
  case waits =>
    intro p s hstate hdue
    exact congrArg Host.Outcome.next (if_neg (by simp [hdue]))
  case fyx =>
    intro p s hpart hstate hdue hlost hl
    refine ⟨s.promoteWindow p.window (nth s.log.windows p.window {}) p.errs, congrArg Host.Outcome.next ((if_pos ?_).trans (if_neg (by simp [hlost]))), ?_⟩
    · rw [hstate, hdue, hpart]
      rfl
    · obtain ⟨h, hwin⟩ := promoteWindow_fyx9462 (w := p.window) (v := nth s.log.windows p.window {}) (errs := p.errs) hpart
      rw [hwin, nth_put_same _ _ _ _ hl]
      exact ⟨rfl, rfl⟩
  case abandon =>
    intro w s hbusy hframes hl
    refine ⟨_, congrArg Host.Outcome.next (if_pos (by rw [State.windowLost, hbusy, decide_eq_true hframes]; rfl)), ?_⟩
    rw [abandonWindow_windows]
    exact ⟨congrArg Window.state (nth_put_same _ _ _ _ hl), fun k hk => nth_put_other _ _ _ _ _ hk.symm⟩
  case release =>
    intro ch w v s hw hstate hl
    refine ⟨_, rfl, ?_⟩
    rw [if_pos (by rw [hstate]; rfl)]
    have hwin := guardedWrite_takes (·.log.windows) (fun _ _ => rfl) (fun _ _ => rfl) (fun _ _ _ => rfl) s ch (0x4710 + w) 4 (leBytes 1 v)
      { s with log := { s.log with windows := put s.log.windows w {} } } hw
    refine ⟨guardedWrite_confirms _ _ _ _ _ _ hw, ?_, fun k hk => ?_⟩
    · exact (congrArg (fun l => (nth l w ({} : Window)).state) hwin).trans (congrArg Window.state (nth_put_same _ _ _ _ hl))
    · exact (congrArg (fun l => nth l k ({} : Window)) hwin).trans (nth_put_other _ _ _ _ _ hk.symm)

/-- Controller 0 in SERVICE with a hand-back to berth 0 under way and stage 0 a stage of the bus, its window kept by loop 5. -/
def handbackBerth : State :=
  { supply := { phase := .running }, mode := { mode := .service, online := true, regions := regionsOf .boot }
    net := { sdo := List.replicate 8 { level := 2 }, can := [{ nmt := .operational }, {}] }
    berths := List.replicate 64 { present := true }, ports := List.replicate 4 {}
    spm := { supply := .handback, hbSource := 2 }
    cfg := [(objKey 0x3000 1, [2]), (objKey 0x3000 3, [1]), (objKey 0x4505 1, [5])] }

theorem handbackBerth_writable : Safety.writable handbackBerth (.sdo 0 1) 0x4900 5 [0] = true := by decide +kernel

/-- The departure of the berth abandons the hand-back, and the shelf power manager then writes the window of stage 0 to the objects of its loop (R204, R225). -/
theorem handbackBerth_cfg : (handbackBerth.applyBerthDisable 0).cfg ≠ storePut (objKey 0x4900 5) (leBytes 1 0) handbackBerth.cfg := by decide +kernel

/-- Refutes O35: a berth disabled while it is the source of a hand-back writes the window objects too, and not its own object alone. -/
theorem not_twoWireHost : ¬ Obligations.TwoWireHost := by
  unfold Obligations.TwoWireHost
  rintro ⟨-, -, -, -, hdisable, -⟩
  obtain ⟨t, hexec, -, -, -, -, -, hcfg⟩ :=
    hdisable (.sdo 0 1) 0 handbackBerth handbackBerth_writable (by decide) (by decide)
  have ht : handbackBerth.guardedWrite (.sdo 0 1) 0x4900 5 [0] 0 (handbackBerth.applyBerthDisable 0) = t := Host.Outcome.next.inj hexec
  refine handbackBerth_cfg (Eq.trans ?_ hcfg)
  rw [← ht]
  exact (guardedWrite_takes State.cfg (fun _ _ => rfl) (fun _ _ => rfl) (fun _ _ _ => rfl) _ _ _ _ _ _ handbackBerth_writable).symm

/-- The port after a Host Notify that is kept (R424). -/
theorem takeNotify_port {s : State} {p addr data : Nat} (hl : p < s.ports.length) :
    (s.takeNotify p addr data).port p = { s.port p with
      lastNotify := addr * 65536 + data
      notifies := (s.port p).notifies + 1
      notifyQueue := (s.port p).notifyQueue ++ [addr * 65536 + data]
      run := ((s.alertBerth p addr).port p).run
      heard := ((s.alertBerth p addr).port p).heard } := by
  unfold State.takeNotify State.alertBerth
  simp only [berthAt_setPort, port_setPort_same _ _ _ hl]
  cases s.berthAt p addr with
  | none => simp only [port_setPort_same _ _ _ hl]
  | some b =>
    simp only [port_setBerth]
    rw [port_setPort_same _ _ _ (by simpa using hl), port_setPort_same _ _ _ hl]

theorem takeNotify_alerted {s : State} {p addr data b : Nat} (h : s.berthAt p addr = some b) (hb : b < s.berths.length) :
    ((s.takeNotify p addr data).berth b).alert = true := alertBerth_some _ _ _ _ h hb

theorem takeNotify_other {s : State} {p addr data b : Nat} (h : s.berthAt p addr ≠ some b) : (s.takeNotify p addr data).berth b = s.berth b :=
  alertBerth_other _ _ _ _ h

/-- A message taken by the target is no part of the alert's marks (R424). -/
theorem targetTakes_alertBerth_port (s : State) (p addr q : Nat) : ((s.targetTakes p).alertBerth p addr).port q = (s.alertBerth p addr).port q := by
  unfold State.alertBerth
  rw [targetTakes_berthAt]
  cases s.berthAt p addr <;> rfl

/-- A wake served changes no port and no object's value (R83). -/
theorem messageServed_port (s : State) (p : Nat) : s.messageServed.port p = s.port p :=
  congrArg (fun l => nth l p ({} : Port)) ((Changes.messageServed (.refl s)).same .ports)

theorem messageServed_idle {s : State} (h : s.inMode .moored = false) : s.messageServed = s := if_neg (by simp [h])

/-- A stretch that ends with nothing held leaves the port free (R425). -/
theorem endStretch_free {s : State} {p : Nat} (h : (s.port p).held = none) :
    s.endStretch p = s.setPort p { s.port p with stretching := false, held := none } := by
  unfold State.endStretch
  rw [h]

/-- A block held in the stretch is then taken as the one that waits (R425). -/
theorem endStretch_write {s : State} {p cmd : Nat} {data : List Byte} {pecOk : Bool} (h : (s.port p).held = some (.write cmd data pecOk)) :
    s.endStretch p = (s.setPort p { s.port p with stretching := false, held := none }).takeBlock p cmd data pecOk := by
  unfold State.endStretch
  rw [h]

theorem takeBlock_good {s : State} {p cmd : Nat} {data : List Byte} (hlen : 1 ≤ data.length ∧ data.length ≤ 32) :
    s.takeBlock p cmd data true = s.setPort p { s.port p with mailboxBusy := true, mailIn := leBytes 1 cmd ++ data } :=
  if_pos (by simp [hlen.1, hlen.2])

/-- The port once the cores have taken its block and its notices (R424). -/
def Port.taken (v : Port) : Port :=
  { v with mailbox := if v.mailboxBusy then v.mailIn else v.mailbox, mailIn := [], mailboxBusy := false, notifyQueue := [] }

theorem Port.taken_free {v : Port} (hbusy : v.mailboxBusy = true) (hheld : v.held = none) :
    ({ v.taken with stretching := false, held := none } : Port) =
      { v with mailbox := v.mailIn, mailIn := [], mailboxBusy := false, notifyQueue := [], stretching := false } := by
  cases v
  simp_all [Port.taken]

theorem takenBy_free {s : State} {p : Nat} (hl : p < s.ports.length) (hheld : (s.port p).held = none) :
    (s.setPort p (s.port p).taken).endStretch p =
      (s.setPort p (s.port p).taken).setPort p { (s.port p).taken with stretching := false, held := none } := by
  have hport : (s.setPort p (s.port p).taken).port p = (s.port p).taken := port_setPort_same _ _ _ hl
  rw [endStretch_free (by rw [hport]; exact hheld), hport]

theorem takenBy_write {s : State} {p cmd : Nat} {data : List Byte} (hl : p < s.ports.length) (hheld : (s.port p).held = some (.write cmd data true))
    (hlen : 1 ≤ data.length ∧ data.length ≤ 32) :
    (s.setPort p (s.port p).taken).endStretch p =
      ((s.setPort p (s.port p).taken).setPort p { (s.port p).taken with stretching := false, held := none }).setPort p
        { (s.port p).taken with stretching := false, held := none, mailboxBusy := true, mailIn := leBytes 1 cmd ++ data } := by
  have hport : (s.setPort p (s.port p).taken).port p = (s.port p).taken := port_setPort_same _ _ _ hl
  have hend := endStretch_write (s := s.setPort p (s.port p).taken) (by rw [hport]; exact hheld)
  rw [hend, takeBlock_good hlen, hport, port_setPort_same _ _ _ (by simpa using hl)]

/-- Settles O36: each clause is its command with the guard met. -/
theorem twoWireTarget : Obligations.TwoWireTarget := by
  unfold Obligations.TwoWireTarget
  refine ⟨?notify, ?notifyBusy, ?block, ?badPec, ?stretch, ?blockRead, ?taken, ?takenHeld, ?lateNack, ?assign, ?arrival, ?word⟩
  case notify =>
    intro p addr data s hup hnack hN hl hqueue
    refine ⟨_, congrArg Host.Outcome.next ((if_neg (by simp [hnack])).trans ((if_pos (by simp [hup, hN])).trans (if_neg ?_))), ?_, ?_, ?_⟩
    · rw [targetTakes_port]
      omega
    · rw [takeNotify_port (s := s.targetTakes p) hl, targetTakes_alertBerth_port, targetTakes_port]
    · exact fun b hb hlen => takeNotify_alerted (s := s.targetTakes p) hb hlen
    · exact fun b hb => takeNotify_other (s := s.targetTakes p) hb
  case notifyBusy =>
    intro p addr data s hup hnack hN hl hqueue hbusy
    refine ⟨_, congrArg Host.Outcome.next ((if_neg (by simp [hnack])).trans ((if_pos (by simp [hup, hN])).trans ((if_pos ?_).trans (if_pos hbusy)))), ?_⟩
    · rw [targetTakes_port]
      exact hqueue
    · exact port_setPort_same _ _ _ hl
  case block =>
    intro p cmd data s hup hnack hN hl hfree hlen
    refine ⟨_, congrArg Host.Outcome.next ((if_neg (by simp [hnack])).trans ((if_pos (by simp [hup, hN])).trans ((if_neg ?_).trans (takeBlock_good hlen)))), ?_, ?_⟩
    · rw [targetTakes_port]
      simp [hfree]
    · exact port_setPort_same _ _ _ hl
    · exact fun q hq => port_setPort_other _ _ _ _ hq.symm
  case badPec =>
    intro p cmd data s hup hnack hN hfree
    refine ⟨_, congrArg Host.Outcome.next ((if_neg (by simp [hnack])).trans ((if_pos (by simp [hup, hN])).trans ((if_neg ?_).trans (if_neg (by simp))))), ?_⟩
    · rw [targetTakes_port]
      simp [hfree]
    · exact targetTakes_ports s p
  case stretch =>
    intro p cmd data pecOk s hup hnack hN hl hbusy hno
    refine ⟨_, congrArg Host.Outcome.next ((if_neg (by simp [hnack])).trans ((if_pos (by simp [hup, hN])).trans ((if_pos ?_).trans (if_neg hno)))), ?_⟩
    · rw [targetTakes_port]
      exact hbusy
    · exact port_setPort_same _ _ _ hl
  case blockRead =>
    intro p s hup hnack hN hl hfree
    refine ⟨_, congrArg Host.Outcome.next ((if_neg (by simp [hnack])).trans ((if_pos (by simp [hup, hN])).trans (if_neg ?_))), ?_⟩
    · rw [targetTakes_port]
      simp [hfree]
    · have h := Changes.messageServed (.refl ((s.targetTakes p).answerRead p))
      rw [messageServed_port, raw_congr_at (s := s) (h.same .cfg) (h.same .kept) (h.same .img) (h.same .supply) (by omega)]
      exact port_setPort_same _ _ _ hl
  case taken =>
    intro p s hon hup hl hbusy hheld
    have htaken := takenBy_free hl hheld
    have hleft : ((s.setPort p (s.port p).taken).endStretch p).port p = { (s.port p).taken with stretching := false, held := none } := by
      rw [htaken]
      exact port_setPort_same _ _ _ (by simpa using hl)
    refine ⟨((s.setPort p (s.port p).taken).endStretch p).messageServed, ?_, ?_, ?_, fun hmode => ?_⟩
    · exact congrArg Host.Outcome.next ((if_pos (by simp [hon, hup])).trans
        (if_neg fun hnow => absurd ((congrArg Port.busyNow hleft).symm.trans hnow) (by simp [Port.taken, Port.busyNow])))
    · rw [messageServed_port, hleft]
      exact Port.taken_free hbusy hheld
    · rw [htaken]
      exact (Changes.le (l := [.mode, .faults, .ports, .mem]) (Changes.messageServed (.setPort (.setPort (.refl s))))).only
    · have hidle : ((s.setPort p (s.port p).taken).endStretch p).inMode .moored = false := by
        rw [htaken]
        exact hmode
      rw [messageServed_idle hidle, htaken]
      exact (Changes.le (l := [.ports]) (.setPort (.setPort (.refl s)))).only
  case takenHeld =>
    intro p cmd data s hon hup hl hbusy hheld hlen
    have htaken := takenBy_write hl hheld hlen
    have hleft : ((s.setPort p (s.port p).taken).endStretch p).port p =
        { (s.port p).taken with stretching := false, held := none, mailboxBusy := true, mailIn := leBytes 1 cmd ++ data } := by
      rw [htaken]
      exact port_setPort_same _ _ _ (by simpa using hl)
    refine ⟨(s.setPort p (s.port p).taken).endStretch p, ?_, ?_, ?_⟩
    · exact congrArg Host.Outcome.next ((if_pos (by simp [hon, hup])).trans
        (if_pos ((congrArg Port.busyNow hleft).trans (by simp [Port.busyNow]))))
    · rw [hleft, Port.taken, if_pos hbusy]
    · rw [htaken]
      exact (Changes.le (l := [.ports]) (.setPort (.setPort (.setPort (.refl s))))).only
  case lateNack =>
    intro p addr data s hnack hl
    exact ⟨_, congrArg Host.Outcome.next (if_pos hnack), port_setPort_same _ _ _ hl, (Changes.setPort (.refl s)).only⟩
  case assign =>
    intro p hi lo addr b s hup hhost hholder hfind hb
    refine ⟨s.setBerth b { s.berth b with arriving := true, awaited := true, found := some (hi, lo), page := none }, ?_, berth_setBerth_same _ _ _ hb,
      (Changes.setBerth (.refl s)).only⟩
    refine congrArg Host.Outcome.next ((if_pos (by simp [hup, hhost])).trans ?_)
    simp only [hholder, hfind]
  case arrival =>
    rintro p b data s hup hhost rfl hused hhosts hb hpresent harriving hfixed
    refine ⟨s.setBerth b { s.berth b with arriving := true }, ?_, berth_setBerth_same _ _ _ hb, (Changes.setBerth (.refl s)).only⟩
    refine congrArg Host.Outcome.next ((if_pos (by simp [hup, hhost])).trans ((if_pos ⟨rfl, hused⟩).trans ?_))
    simp [harriving, hhosts, hpresent, hfixed]
  case word =>
    rintro p b cmd write data s hup hhost rfl hused hhosts hpresent harriving
    refine congrArg Host.Outcome.next ((if_pos (by simp [hup, hhost])).trans ((if_pos ⟨rfl, hused⟩).trans ?_))
    simp [harriving, hhosts, hpresent]

/-! What discovery keeps of a committed run (R418, R422). -/

/-- What a berth keeps of a run that is committed, whatever arrives or departs: its count, its time, and no failures since. -/
structure Berth.KeepsRun (v w : Berth) : Prop where
  runs : w.runs = v.runs
  committedAt : w.committedAt = v.committedAt
  failRun : v.failRun = 0 → w.failRun = 0

/-- No port's commits change, and every berth keeps its run. -/
structure KeepsRuns (s t : State) : Prop where
  commits : ∀ q, (t.port q).commits = (s.port q).commits
  berth : ∀ b, (s.berth b).KeepsRun (t.berth b)

namespace KeepsRuns

theorem refl (s : State) : KeepsRuns s s := ⟨fun _ => rfl, fun _ => ⟨rfl, rfl, id⟩⟩

theorem trans {s t u : State} (h : KeepsRuns s t) (h' : KeepsRuns t u) : KeepsRuns s u :=
  ⟨fun q => (h'.commits q).trans (h.commits q), fun b =>
    ⟨(h'.berth b).runs.trans (h.berth b).runs, (h'.berth b).committedAt.trans (h.berth b).committedAt, fun h0 => (h'.berth b).failRun ((h.berth b).failRun h0)⟩⟩

theorem of_eq {s t : State} (hp : t.ports = s.ports) (hb : t.berths = s.berths) : KeepsRuns s t := by
  have hberth : ∀ b, t.berth b = s.berth b := fun b => congrArg (fun l => nth l b ({} : Berth)) hb
  exact ⟨fun q => congrArg (fun l => (nth l q ({} : Port)).commits) hp, fun b => hberth b ▸ ⟨rfl, rfl, id⟩⟩

theorem setPort {s : State} {p : Nat} {v : Port} (h : v.commits = (s.port p).commits) : KeepsRuns s (s.setPort p v) := by
  refine ⟨fun q => ?_, fun _ => ⟨rfl, rfl, id⟩⟩
  by_cases hq : p = q
  · subst hq
    by_cases hl : p < s.ports.length
    · rw [port_setPort_same _ _ _ hl, h]
    · rw [State.setPort, put_beyond _ _ _ (Nat.le_of_not_lt hl)]
  · rw [port_setPort_other _ _ _ _ hq]

theorem setBerth {s : State} {b : Nat} {v : Berth} (h : (s.berth b).KeepsRun v) : KeepsRuns s (s.setBerth b v) := by
  refine ⟨fun _ => rfl, fun n => ?_⟩
  by_cases hn : b = n
  · subst hn
    by_cases hl : b < s.berths.length
    · rw [berth_setBerth_same _ _ _ hl]
      exact h
    · rw [State.setBerth, put_beyond _ _ _ (Nat.le_of_not_lt hl)]
      exact ⟨rfl, rfl, id⟩
  · rw [berth_setBerth_other _ _ _ _ hn]
    exact ⟨rfl, rfl, id⟩

theorem ite {c : Prop} [Decidable c] {s t u : State} (ht : KeepsRuns s t) (hu : KeepsRuns s u) : KeepsRuns s (if c then t else u) := by
  split <;> assumption

theorem foldl {α : Type} {g : State → α → State} (h : ∀ t x, KeepsRuns t (g t x)) (l : List α) (s : State) : KeepsRuns s (l.foldl g s) := by
  induction l generalizing s with
  | nil => exact .refl s
  | cons x l ih => exact (h s x).trans (ih _)

theorem raise (s : State) (k : Key) (d : Nat) : KeepsRuns s (s.raise k d) := .of_eq (raise_ports _ _ _) (raise_berths _ _ _)

theorem todo (s : State) (p : Nat) (l : List (Bool × Arrival)) : KeepsRuns s (s.setPort p { s.port p with todo := l }) := .setPort rfl

theorem clearSpare (s : State) : KeepsRuns s s.clearSpare :=
  .of_eq (clearSpare_keeps (·.ports) (fun _ _ => rfl) s) (clearSpare_keeps (·.berths) (fun _ _ => rfl) s)

theorem completed (s : State) (p : Nat) (x : Rat) : KeepsRuns s (s.completed p x) := by
  have hberth : ∀ b, (s.completed p x).berth b = s.berth b := fun b => congrArg (fun l => nth l b ({} : Berth)) (busyFor_berths s p x)
  exact ⟨completed_port (·.commits) (fun _ _ _ _ => rfl) (fun _ _ => rfl) (fun _ => rfl) s p x, fun b => hberth b ▸ ⟨rfl, rfl, id⟩⟩

theorem depart (s : State) (b c : Nat) : KeepsRuns s (s.depart b c) := by
  refine ⟨fun q => depart_port (·.commits) (fun _ _ _ _ => rfl) s b c q, fun n => ?_⟩
  by_cases hn : b = n
  · subst hn
    by_cases hl : b < s.berths.length
    · rw [depart_berth_same _ _ _ hl]
      exact ⟨rfl, rfl, fun _ => rfl⟩
    · rw [State.berth, State.berth, depart_berths, put_beyond _ _ _ (Nat.le_of_not_lt hl)]
      exact ⟨rfl, rfl, id⟩
  · rw [depart_berth_other _ _ _ _ hn]
    exact ⟨rfl, rfl, id⟩

theorem beginArrival (s : State) (b : Nat) (a : Arrival) : KeepsRuns s (s.beginArrival b a) := by
  unfold State.beginArrival
  extract_lets p x w u
  have hu : KeepsRuns s u := KeepsRuns.trans (t := w) (.setBerth ⟨rfl, rfl, id⟩) (.completed _ _ _)
  have hv : KeepsRuns s (u.setBerth b { u.berth b with voutMode := a.voutMode }) := hu.trans (.setBerth ⟨rfl, rfl, id⟩)
  split
  · exact hu
  · rename_i v _ _
    change KeepsRuns s v at hv
    split
    · exact .ite (hv.trans (.setBerth ⟨rfl, rfl, id⟩)) hv
    · exact hv

theorem stray (s : State) (p a : Nat) : KeepsRuns s (s.stray p a) :=
  KeepsRuns.trans (t := s.setPort p { s.port p with strays := min 255 (a + 1 - s.portN p 0x0A) }) (.setPort rfl) (.of_eq rfl rfl)

theorem spareOut (s : State) (p : Nat) : KeepsRuns s (s.spareOut p) := by
  unfold State.spareOut
  exact KeepsRuns.trans (KeepsRuns.setPort (by rfl)) (.raise _ _ _)

theorem foundArp (s : State) (a : Arrival) : KeepsRuns s (s.foundArp a) := by
  unfold State.foundArp
  extract_lets p u
  have hu : KeepsRuns s u := by
    unfold u
    split
    · exact .depart _ _ _
    · exact .refl s
  split
  · exact (hu.trans (.completed _ _ _)).trans (.beginArrival _ _ _)
  · exact (hu.trans (.completed _ _ _)).trans (.stray _ _ _)
  · exact (hu.trans (.completed _ _ _)).trans (.spareOut _ _)

theorem foundFixed (s : State) (d : Bool) (a : Arrival) : KeepsRuns s (s.foundFixed d a) := by
  unfold State.foundFixed
  split
  · exact .beginArrival _ _ _
  · exact .refl s

theorem goOn (p n : Nat) (s : State) : KeepsRuns s (s.goOn p n) := by
  induction n generalizing s with
  | zero => exact .refl s
  | succ n ih =>
    unfold State.goOn
    split
    · exact .refl s
    · dsimp only
      split
      · rename_i x _
        exact ((KeepsRuns.todo s p ((s.port p).todo.erase x)).trans (.ite (.foundArp _ _) (.refl _))).trans (ih _)
      · exact (KeepsRuns.todo s p []).trans (.foldl (fun _ _ => .foundFixed _ _ _) _ _)

theorem discoveryDone (s : State) (p : Nat) : KeepsRuns s (s.discoveryDone p) := by
  unfold State.discoveryDone
  extract_lets u v w
  have hw : KeepsRuns s w := by
    unfold w
    split
    · exact (KeepsRuns.goOn _ _ _).trans (KeepsRuns.trans (t := State.setPort u p _) (KeepsRuns.setPort (by rfl)) (.clearSpare _))
    · exact KeepsRuns.goOn _ _ _
  split
  · exact hw.trans (.of_eq rfl rfl)
  · exact hw

end KeepsRuns

/-- With nothing found left to deal with, going on touches no berth (R418). -/
theorem goOn_berths {s : State} {p : Nat} (h : (s.port p).todo = []) : (s.goOn p 1).berths = s.berths := by
  unfold State.goOn
  split
  · rfl
  · simp [h, lowestUdid]

theorem discoveryDone_berths {s : State} {p : Nat} (h : (s.port p).todo = []) : (s.discoveryDone p).berths = s.berths := by
  unfold State.discoveryDone
  extract_lets u v w
  have hu : u.berths = s.berths := by
    unfold u
    rw [h]
    exact goOn_berths h
  have hw : w.berths = s.berths := by
    unfold w
    split
    · exact (clearSpare_keeps (·.berths) (fun _ _ => rfl) _).trans hu
    · exact hu
  split
  · exact hw
  · exact hw

/-- The transaction in hand goes on with its run at the next word, or ends with it (R407, R422). -/
theorem setRun_port {s : State} {p : Nat} {r : Run} (hl : p < s.ports.length) :
    (s.setRun p r).port p = { s.port p with run := if r.last = true then none else some r } := port_setPort_same _ _ _ hl

theorem setRun_berths (s : State) (p : Nat) (r : Run) : (s.setRun p r).berths = s.berths := rfl

theorem wrote_berths (s : State) (p cmd : Nat) (data : List Byte) : (s.wrote p cmd data).berths = s.berths := rfl

theorem wrote_ports_length (s : State) (p cmd : Nat) (data : List Byte) : (s.wrote p cmd data).ports.length = s.ports.length := put_length _ _ _

/-- A word that uses no bus goes on with the run, or fails it (R422). -/
theorem runFree_goes {s : State} {p op : Nat} {r t : Run} {w : Nat} (h : s.runAt p op = some (r, w)) (hop : op ≠ 8) (ht : s.freeWord r w = some t) :
    s.runFree p op = s.setRun p t := by
  have hsame : ({ s with draws := s.draws + b2n (op == 8) } : State) = s := by
    rw [beq_eq_false_iff_ne.mpr hop]
    rfl
  unfold State.runFree
  simp only [h, hsame, ht]

/-- A word that uses no bus changes its port's run alone (R422). -/
theorem runFree_spec {s : State} {p op : Nat} {r t : Run} {w : Nat} (h : s.runAt p op = some (r, w)) (hop : op ≠ 8) (ht : s.freeWord r w = some t)
    (hl : p < s.ports.length) : (s.runFree p op).port p = { s.port p with run := if t.last = true then none else some t } ∧
      Safety.changesOnly [.ports] s (s.runFree p op) := by
  rw [runFree_goes h hop ht]
  exact ⟨setRun_port hl, (Changes.setRun (.refl s)).only⟩

/-- A write acknowledged goes on with the run (R422). -/
theorem busWrite_acked {s : State} {p cmd : Nat} {r t : Run} {data : List Byte} (hl : p < s.ports.length) :
    ((s.busWrite p r cmd data true t).port p).run = (if t.last = true then none else some t) ∧ (s.busWrite p r cmd data true t).berths = s.berths := by
  unfold State.busWrite
  rw [if_neg (by decide)]
  refine ⟨congrArg Port.run (setRun_port ?_), ?_⟩
  · rw [wrote_ports_length, transacted_ports_length]
    exact hl
  · rw [setRun_berths, wrote_berths, transacted_berths]

/-- A read acknowledged, its PEC right, goes on with the run (R422). -/
theorem busRead_acked {s : State} {p n : Nat} {r t : Run} (hl : p < s.ports.length) :
    ((s.busRead p r n true true t).port p).run = (if t.last = true then none else some t) ∧ (s.busRead p r n true true t).berths = s.berths := by
  unfold State.busRead
  rw [if_neg (by decide), if_neg (by simp)]
  refine ⟨congrArg Port.run (setRun_port ?_), ?_⟩
  · rw [transacted_ports_length]
    exact hl
  · rw [setRun_berths, transacted_berths]

/-- The transaction that fails a run takes its bus time, and the run commits nothing (R422, R427). -/
theorem busyFor_failRun_spec {s : State} {p kind : Nat} {x : Rat} {r : Run} (hr : (s.port p).run = some r) (hlast : r.last = false) (hl : p < s.ports.length) :
    (((s.busyFor p x).failRun p kind).port p).run = none ∧ (((s.busyFor p x).failRun p kind).port p).runFails = (s.port p).runFails + 1 ∧
      (((s.busyFor p x).failRun p kind).berth r.berth).vals = (s.berth r.berth).vals ∧
      (r.berth < s.berths.length → (((s.busyFor p x).failRun p kind).berth r.berth).fails = (s.berth r.berth).fails + 1 ∧
        (((s.busyFor p x).failRun p kind).berth r.berth).pecs = (s.berth r.berth).pecs + b2n (kind == 3)) ∧
      (s.mayRaise (s.berthKey r.berth kind) = true → ((s.busyFor p x).failRun p kind).isActive (s.berthKey r.berth kind) = true) := by
  obtain ⟨hrun, hfails, -, hvals, hcounts, hactive⟩ :=
    failRun_spec (s.busyFor p x) p kind r (by rw [busyFor_run]; exact hr) hlast (by rw [busyFor_ports_length]; exact hl)
  rw [busyFor_berth, busyFor_berths] at hcounts
  rw [busyFor_berth] at hvals
  rw [busyFor_berthKey] at hactive
  refine ⟨hrun, ?_, hvals, hcounts, fun hm => hactive ((mayRaise_congr (busyFor_part _ _ _) (congrArg ModeState.regions (busyFor_mode _ _ _)) _).trans hm)⟩
  rw [hfails, busyFor_runFails]

/-- The state in which a run has committed and its port is free, before discovery goes on (R422). -/
def State.runEnded (s : State) (p : Nat) (r : Run) : State :=
  (s.setPort p { s.port p with
    run := none, work := if (s.port p).work = .run then .none else (s.port p).work, commits := (s.port p).commits + 1 }).commitRun r

theorem runEnded_port {s : State} {p : Nat} {r : Run} (hl : p < s.ports.length) :
    (s.runEnded p r).port p = { s.port p with
      run := none, work := if (s.port p).work = .run then .none else (s.port p).work, commits := (s.port p).commits + 1 } :=
  (congrArg (fun l => nth l p ({} : Port)) (commitRun_ports _ r)).trans (port_setPort_same _ _ _ hl)

theorem runEnded_berth {s : State} {p : Nat} {r : Run} (hb : r.berth < s.berths.length) :
    ((s.runEnded p r).berth r.berth).vals = r.vals ∧ ((s.runEnded p r).berth r.berth).runs = (s.berth r.berth).runs + 1 ∧
      ((s.runEnded p r).berth r.berth).committedAt = s.now ∧ ((s.runEnded p r).berth r.berth).failRun = 0 ∧
      ((s.runEnded p r).berth r.berth).stale = false :=
  commitRun_berth (s.setPort p { s.port p with
    run := none, work := if (s.port p).work = .run then .none else (s.port p).work, commits := (s.port p).commits + 1 }) r hb

/-! The words of a script that use no bus (Table 14-5). -/

theorem freeWord_converted {s : State} {r : Run} {w : Nat} {f : F32} (hop : bits w 28 4 = 8)
    (hf : s.convert r.berth (bits w 8 4) (nth r.vals.w (bits w 24 3) 0) = some f) :
    s.freeWord r w = some { r.next with vals := { r.vals with readings := put r.vals.readings (bits w 0 3) f }, offer := r.offer || bits w 0 3 == 7 } := by
  unfold State.freeWord
  simp only [hop, bits_imm w 8 4 (by decide), bits_imm w 0 3 (by decide), hf]

theorem freeWord_unconverted {s : State} {r : Run} {w : Nat} (hop : bits w 28 4 = 8)
    (hf : s.convert r.berth (bits w 8 4) (nth r.vals.w (bits w 24 3) 0) = none) : s.freeWord r w = none := by
  unfold State.freeWord
  simp only [hop, bits_imm w 8 4 (by decide), hf]

theorem freeWord_tst {s : State} {r : Run} {w : Nat} (hop : bits w 28 4 = 9) :
    s.freeWord r w = some { r with
      pc := r.pc + (if (nth r.vals.w (bits w 24 3) 0 &&& bits w 0 16 = 0) ↔ bit w 27 = false then 2 else 1) } := by
  unfold State.freeWord
  simp only [hop]
  congr 3
  refine if_congr ?_ rfl rfl
  cases bit w 27 <;> simp

theorem freeWord_rep {s : State} {r : Run} {w : Nat} (hop : bits w 28 4 = 0xA) :
    s.freeWord r w = some { r with
      pc := r.pc + 1
      vals := { r.vals with flags := put r.vals.flags (bits w 16 8) ((nth r.vals.w (bits w 24 3) 0 &&& bits w 0 16 != 0) ^^ bit w 27) } } := by
  unfold State.freeWord
  simp only [hop]
  rfl

theorem freeWord_wait {s : State} {r : Run} {w : Nat} (hop : bits w 28 4 = 0xB) :
    s.freeWord r w = some { r with pc := r.pc + 1, ready := s.now + bits w 0 16 * ticksPerUs } := by
  unfold State.freeWord
  simp only [hop]
  rfl

theorem freeWord_xtr {s : State} {r : Run} {w : Nat} (hop : bits w 28 4 = 0xC) :
    s.freeWord r w = some { r with
      pc := r.pc + 1
      vals := { r.vals with
        w := put r.vals.w (bits w 24 3) ((nth r.vals.block (bits w 0 5) 0).toNat + 256 * (nth r.vals.block (bits w 0 5 + 1) 0).toNat) } } := by
  unfold State.freeWord
  simp only [hop, bits_imm w 0 5 (by decide)]
  rfl

/-- Settles O37: the word that the run stands at decides what its command does; a run that fails is that of `failRun_spec`. -/
theorem scriptCommands : Obligations.ScriptCommands := by
  unfold Obligations.ScriptCommands
  refine ⟨?finish, ?pageSet, ?page, ?rdb, ?rdw, ?badPec, ?rdk, ?rdkLong, ?wrb, ?wrw, ?snd, ?sndNack, ?cnv, ?cnvNone, ?tst, ?rep, ?wait, ?xtr⟩
  case finish =>
    intro p r w s h hl hb
    refine ⟨(s.runEnded p r).discoveryDone p, ?_, ?_⟩
    · refine congrArg Host.Outcome.next ?_
      rw [h]
      rfl
    · obtain ⟨hvals, hruns, htime, hfails, hstale⟩ := runEnded_berth (s := s) (p := p) hb
      have hport := runEnded_port (r := r) hl
      have hgoes := discoveryDone_goes (s.runEnded p r) p
      have hkeeps := KeepsRuns.discoveryDone (s.runEnded p r) p
      refine ⟨hgoes.idle p (by rw [hport]), (hkeeps.commits p).trans (by rw [hport]), (hgoes.vals _).trans hvals, (hkeeps.berth _).runs.trans hruns,
        (hkeeps.berth _).committedAt.trans htime, (hkeeps.berth _).failRun hfails, fun htodo => ?_⟩
      have hberths := discoveryDone_berths (s := s.runEnded p r) (p := p) (by rw [hport]; exact htodo)
      exact (congrArg (fun l => (nth l r.berth ({} : Berth)).stale) hberths).trans hstale
  case pageSet =>
    intro p ack r w s h hl hpage
    refine ⟨s.setRun p r.next, ?_, setRun_port hl, (Changes.setRun (.refl s)).only⟩
    refine congrArg Host.Outcome.next ?_
    rw [h]
    exact if_pos hpage
  case page =>
    intro p r w s h hl hb hpage
    obtain ⟨hrun, hberths⟩ := busWrite_acked (cmd := 0) (r := r) (t := r.next) (data := leBytes 1 (bits w 0 8)) hl
    refine ⟨(s.busWrite p r 0 (leBytes 1 (bits w 0 8)) true r.next).setPage r.berth (bits w 0 8), ?_, hrun, ?_⟩
    · refine congrArg Host.Outcome.next ?_
      rw [h]
      exact (if_neg hpage).trans (if_pos rfl)
    · exact congrArg Berth.page (berth_setBerth_same _ _ _ (by rw [hberths]; exact hb))
  case rdb =>
    intro p v r w s h hl
    refine ⟨_, congrArg Host.Outcome.next ?_, busRead_acked (n := 4) (r := r) (t := r.setSlot (bits w 24 3) v.toNat) hl⟩
    rw [h]
  case rdw =>
    intro p v r w s h hl
    refine ⟨_, congrArg Host.Outcome.next ?_, busRead_acked (n := 5) (r := r) (t := r.setSlot (bits w 24 3) v.toNat) hl⟩
    rw [h]
  case badPec =>
    intro p v r w s h hl hlast hb hpec
    obtain ⟨hrun, -, hvals, hcounts, hactive⟩ := busyFor_failRun_spec (kind := 3) (x := busTime (s.portN p 3) 5 true) (runAt_run h) hlast hl
    refine ⟨_, ?_, hrun, (hcounts hb).2, hvals, hactive⟩
    refine congrArg Host.Outcome.next ?_
    rw [h]
    exact (if_neg (by decide)).trans (if_pos (by simp [hpec]))
  case rdk =>
    intro p data r w s h hl hlen
    refine ⟨_, congrArg Host.Outcome.next ?_, busRead_acked (n := 4 + data.length) (r := r) (t := r.setBlock w data) hl⟩
    rw [h]
    exact if_neg (by simp [hlen])
  case rdkLong =>
    intro p pecOk data r w s h hl hlast hlen
    obtain ⟨hrun, hfails, hvals, -, -⟩ := busyFor_failRun_spec (kind := 2) (x := busTime (s.portN p 3) 4 true) (runAt_run h) hlast hl
    refine ⟨_, ?_, hrun, hfails, hvals⟩
    refine congrArg Host.Outcome.next ?_
    rw [h]
    exact if_pos (by simp [hlen])
  case wrb =>
    intro p r w s h hl
    refine ⟨_, congrArg Host.Outcome.next ?_, busWrite_acked (cmd := bits w 16 8) (data := leBytes 1 (bits w 0 8)) (r := r) (t := r.next) hl⟩
    rw [h]
  case wrw =>
    intro p r w s h hl
    refine ⟨_, congrArg Host.Outcome.next ?_, busWrite_acked (cmd := bits w 16 8) (data := leBytes 2 (r.wordOut w)) (r := r) (t := r.next) hl⟩
    rw [h]
  case snd =>
    intro p r w s h hl
    refine ⟨_, congrArg Host.Outcome.next ?_, busWrite_acked (cmd := bits w 16 8) (data := []) (r := r) (t := r.next) hl⟩
    rw [h]
  case sndNack =>
    intro p r w s h hl hlast hb
    obtain ⟨hrun, -, hvals, hcounts, hactive⟩ := busyFor_failRun_spec (kind := 2) (x := busTime (s.portN p 3) (2 + 0) false) (runAt_run h) hlast hl
    refine ⟨_, ?_, hrun, (hcounts hb).1, hvals, hactive⟩
    refine congrArg Host.Outcome.next ?_
    rw [h]
    exact if_pos rfl
  case cnv =>
    intro p f r w s h hl hf
    have hword := freeWord_converted (runAt_op h) hf
    have hfree : s.runFree p 8 = ({ s with draws := s.draws + 1 } : State).setRun p
        { r.next with vals := { r.vals with readings := put r.vals.readings (bits w 0 3) f }, offer := r.offer || bits w 0 3 == 7 } := by
      unfold State.runFree
      simp only [h, show b2n (8 == 8) = 1 from rfl, hword]
    refine ⟨_, congrArg Host.Outcome.next hfree, congrArg Port.run (setRun_port hl), ?_⟩
    exact (Changes.le (l := [.ports, .draws]) (Changes.setRun (.parts [.draws] (.refl s)))).only
  case cnvNone =>
    intro p r w s h hl hlast hf
    have hword := freeWord_unconverted (runAt_op h) hf
    have hfree : s.runFree p 8 = ({ s with draws := s.draws + 1 } : State).failRun p 2 := by
      unfold State.runFree
      simp only [h, show b2n (8 == 8) = 1 from rfl, hword]
    obtain ⟨hrun, hfails, -, hvals, -, -⟩ := failRun_spec { s with draws := s.draws + 1 } p 2 r (runAt_run h) hlast hl
    exact ⟨_, congrArg Host.Outcome.next hfree, hrun, hfails, hvals⟩
  case tst =>
    intro p r w s h hl
    have hword := freeWord_tst (s := s) (r := r) (runAt_op h)
    exact ⟨_, rfl, runFree_spec h (by decide) hword hl⟩
  case rep =>
    intro p r w s h hl
    have hword := freeWord_rep (s := s) (r := r) (runAt_op h)
    exact ⟨_, rfl, runFree_spec h (by decide) hword hl⟩
  case wait =>
    intro p r w s h hl
    have hword := freeWord_wait (s := s) (r := r) (runAt_op h)
    exact ⟨_, rfl, runFree_spec h (by decide) hword hl⟩
  case xtr =>
    intro p r w s h hl
    have hword := freeWord_xtr (s := s) (r := r) (runAt_op h)
    exact ⟨_, rfl, runFree_spec h (by decide) hword hl⟩

/-! What the checks of an update leave (R477, R478). -/

/-- The state with the corrected words of an image's reads counted (R450). -/
def State.wordsCounted (s : State) (n : Nat) : State := { s with mem := { s.mem with mramCorrected := s.mem.mramCorrected + n } }

/-- With no word unreadable, the checks' reads count the corrected words and nothing else. -/
theorem checkReads_nil (s : State) (corrected : Nat) : s.checkReads [] corrected = s.wordsCounted corrected := rfl

/-- Unreadable words of an image move neither selector. -/
theorem checkReads_selectors (s : State) (bad : List Nat) (corrected : Nat) :
    (s.checkReads bad corrected).img.fwNext = s.img.fwNext ∧ (s.checkReads bad corrected).img.imgNext = s.img.imgNext := by
  have hspoil : ∀ (m : Img) a, (m.spoil a).mark.fwNext = m.fwNext ∧ (m.spoil a).mark.imgNext = m.imgNext := by
    intro m a
    unfold Img.spoil Img.mark
    dsimp only
    repeat' split
    all_goals exact ⟨rfl, rfl⟩
  have hword : ∀ (t : State) a, (t.uncorrectableWord { addr := a }).img = (t.img.spoil a).mark := fun t a => (uncorrectableWord_spec t _).2.2.2 rfl
  unfold State.checkReads
  constructor
  · exact forUnits_keeps (fun t => t.img.fwNext) _ _ (fun t a => (congrArg Img.fwNext (hword t _)).trans (hspoil _ _).1) _
  · exact forUnits_keeps (fun t => t.img.imgNext) _ _ (fun t a => (congrArg Img.imgNext (hword t _)).trans (hspoil _ _).2) _

/-- A rejection ends the update with its reason. -/
theorem updateChecksDone_rejects {bad : List Nat} {corrected : Nat} {content : Image} {train r : Nat} {s : State} (h : s.img.updState = 2)
    (hr : (if (bad.filter fun a => decide (a < s.img.updData.length)).isEmpty then s.updReason content else if headOk s.img.updData s.img.target then 2 else 1) = r)
    (hn : r ≠ 0) :
    execUpdateChecksDone bad corrected content train s = .next
      { s.checkReads (bad.filter fun a => decide (a < s.img.updData.length)) corrected with
        img := { (s.checkReads (bad.filter fun a => decide (a < s.img.updData.length)) corrected).img with updState := 5, updReject := r, updByTwin := false } } := by
  subst hr
  refine congrArg Host.Outcome.next ?_
  rw [if_pos (beq_iff_eq.mpr h)]
  exact if_neg hn

/-- Checks that pass commit, and a controller that does not follow its twin's transfer stays, or leaves PILOT. -/
theorem updateChecksDone_commits {bad : List Nat} {corrected : Nat} {content : Image} {train : Nat} {s : State} (h : s.img.updState = 2)
    (hbad : bad.filter (fun a => decide (a < s.img.updData.length)) = []) (hr : s.updReason content = 0) (htwin : s.img.updByTwin = false) :
    execUpdateChecksDone bad corrected content train s = .next
      (if ((s.wordsCounted corrected).commitUpdate content).inMode .pilot && ((s.wordsCounted corrected).commitUpdate content).bothKinds then
        ((s.wordsCounted corrected).commitUpdate content).leavePilot train
      else (s.wordsCounted corrected).commitUpdate content) := by
  have hstay : ∀ u : State, (u.commitUpdate content).img.updByTwin = u.img.updByTwin := by
    intro u
    unfold State.commitUpdate State.imageNote Img.setSlot
    dsimp only
    rw [note_img]
    by_cases hk : u.img.target = 1
    · simp only [hk, if_true]; rfl
    · simp only [hk, if_false]; rfl
  refine congrArg Host.Outcome.next ?_
  rw [if_pos (beq_iff_eq.mpr h), hbad]
  dsimp only [List.isEmpty_nil]
  refine (if_pos ((if_pos rfl).trans hr)).trans ?_
  rw [checkReads_nil]
  refine congrArg (ite _ _) (if_neg ?_)
  rw [hstay, show (s.wordsCounted corrected).img.updByTwin = false from htwin, Bool.false_and]
  exact Bool.false_ne_true

theorem commitUpdate_inMode (s : State) (content : Image) (m : Mode) : (s.commitUpdate content).inMode m = s.inMode m :=
  congrArg (fun x : ModeState => x.mode == m) (note_mode _ _ _)

/-- Firmware that passed its checks is in its slot, named by the selector, on trial (R479). -/
theorem commitUpdate_firmware {s : State} {content : Image} (hk : s.img.target = 1) :
    (s.commitUpdate content).img = ({ s.img with
      fw := put s.img.fw s.img.updSlot { valid := true, header := headerOf s.img.updData, digest := imageDigest s.img.updData
                                         key := s.img.keyOf 1 (headerOf s.img.updData).keyIndex, bytes := s.img.updData, content := content }
      updState := 3, updReject := 0, fwNext := s.img.updSlot, trial := 1, trialStarts := 0, trialSlot := s.img.updSlot } : Img).mark := by
  unfold State.commitUpdate State.imageNote Img.setSlot
  dsimp only
  rw [note_img]
  simp only [hk, if_true]
  rfl

/-- A configuration image that passed its checks is in its slot and named by the selector (R478). -/
theorem commitUpdate_configuration {s : State} {content : Image} (hk : s.img.target = 2) :
    (s.commitUpdate content).img = ({ s.img with
      cfg := put s.img.cfg s.img.updSlot { valid := true, header := headerOf s.img.updData, digest := imageDigest s.img.updData
                                           key := s.img.keyOf 2 (headerOf s.img.updData).keyIndex, bytes := s.img.updData
                                           content := readImage s.img.updData content }
      updState := 3, updReject := 0, imgNext := s.img.updSlot } : Img).mark := by
  unfold State.commitUpdate State.imageNote Img.setSlot
  dsimp only
  rw [note_img]
  simp only [hk]
  rfl

/-- The checks of an update in a mode other than PILOT touch the images, the count of corrected words and the logbook. -/
theorem committed_changes {s : State} {corrected : Nat} {content : Image} :
    Safety.changesOnly [.img, .mem, .log] s ((s.wordsCounted corrected).commitUpdate content) :=
  (Changes.le (l := [.img, .mem, .log]) (.commitUpdate (.parts [.mem] (.refl s)))).only

/-! Aborts and the update of a pair (R478, R485, R486). -/

theorem abortUpdate_img {s : State} (h : s.img.updState = 1 ∨ s.img.updState = 2) :
    s.abortUpdate.img = { s.img with updCommand := 2, updState := 4, updData := [], updByTwin := false } := by
  have hopen : (s.updOpen || s.imageTransfer) = true := by
    unfold State.updOpen
    rcases h with h | h <;> simp [h]
  have hundo : s.undoUpdate.img = { s.img with updState := 4, updData := [], updByTwin := false } := by
    unfold State.undoUpdate
    rw [if_pos hopen]
    exact note_img _ _ _
  unfold State.abortUpdate
  rw [hundo]

theorem pairReach_img (s : State) (n : Nat) :
    (s.pairReach n).img = { s.img with
      pairState := n
      pairKind := if n = 1 ∨ s.img.pairKind = 0 then (if s.img.fwRun != some s.img.fwNext && (s.img.slot 1 s.img.fwNext).valid then 1 else 2) else s.img.pairKind } :=
  note_img _ _ _

theorem pairReach_pair (s : State) (n : Nat) : (s.pairReach n).pair = s.pair := note_pair _ _ _

theorem applyPairUpdate_first {s : State} (h : s.img.pairState ≠ 8) :
    s.applyPairUpdate.img = { s.img with
      pairCommand := 1, pairDigest := s.img.digest, pairState := 1
      pairKind := if s.img.fwRun != some s.img.fwNext && (s.img.slot 1 s.img.fwNext).valid then 1 else 2 } := by
  unfold State.applyPairUpdate
  dsimp only
  rw [if_neg h, pairReach_img, sendFrame_img]
  rfl

theorem applyPairUpdate_again {s : State} (h : s.img.pairState = 8) :
    s.applyPairUpdate.img = { s.img with
      pairCommand := 1, pairState := 4
      pairKind := if s.img.pairKind = 0 then (if s.img.fwRun != some s.img.fwNext && (s.img.slot 1 s.img.fwNext).valid then 1 else 2) else s.img.pairKind } ∧
      s.applyPairUpdate.pair.hoRequest = true ∧ s.applyPairUpdate.pair.hoState = 1 := by
  unfold State.applyPairUpdate
  dsimp only
  rw [if_pos h, pairReach_img, pairReach_pair]
  refine ⟨?_, rfl, rfl⟩
  simp only [Nat.reduceEqDiff, false_or]
  rfl

theorem undoPairUpdate_img {s : State} (h : 1 ≤ s.img.pairState ∧ s.img.pairState ≤ 4) :
    s.undoPairUpdate.img = { s.img with
      pairCommand := 2, pairDigest := [], pairState := 7
      pairKind := if s.img.pairKind = 0 then (if s.img.fwRun != some s.img.fwNext && (s.img.slot 1 s.img.fwNext).valid then 1 else 2) else s.img.pairKind } := by
  unfold State.undoPairUpdate
  dsimp only
  rw [if_pos (.inl h), pairReach_img, sendFrame_img, cancelHandover_img]
  simp only [Nat.reduceEqDiff, false_or]
  rfl

theorem pairAbortStatus_done {s : State} (h : s.img.pairState = 5 ∨ s.img.pairState = 6 ∨ (s.img.pairState = 4 ∧ s.pair.owns = false)) :
    s.pairAbortStatus = stAlready := if_pos h

theorem pairAbortStatus_free {s : State} (h : 1 ≤ s.img.pairState ∧ s.img.pairState ≤ 4) (hown : s.img.pairState = 4 → s.pair.owns = true) :
    s.pairAbortStatus = 0 := by
  refine if_neg ?_
  rintro (h5 | h6 | ⟨h4, hnot⟩)
  · omega
  · omega
  · rw [hown h4] at hnot
    cases hnot

/-- Settles O38: the checks of an image by what they read and commit, the rest by its command with the guard met. -/
theorem imageUpdates : Obligations.ImageUpdates := by
  unfold Obligations.ImageUpdates
  refine ⟨?complete, ?rejected, ?unreadable, ?firmware, ?configuration, ?pilot, ?abort, ?aborted, ?transfer, ?pair, ?pairAgain, ?pairAbort, ?pairAborted, ?leave⟩
  case complete =>
    intro s h1 hlen htransfer
    exact congrArg Host.Outcome.next (if_pos (by simp [h1, hlen, htransfer]))
  case rejected =>
    intro bad corrected content train s h2 hbad hr
    have hexec := updateChecksDone_rejects (corrected := corrected) (train := train) h2 (by rw [hbad]; rfl) hr
    rw [hbad, checkReads_nil] at hexec
    exact ⟨_, hexec, rfl, rfl, (Changes.parts [.img, .mem] (.refl s)).only⟩
  case unreadable =>
    intro bad corrected content train s h2 hbad
    have hreason : (if (bad.filter fun a => decide (a < s.img.updData.length)).isEmpty then s.updReason content else if headOk s.img.updData s.img.target then 2 else 1) =
        if headOk s.img.updData s.img.target then 2 else 1 := if_neg (by simpa using hbad)
    obtain ⟨hfw, himg⟩ := checkReads_selectors s (bad.filter fun a => decide (a < s.img.updData.length)) corrected
    exact ⟨_, updateChecksDone_rejects h2 hreason (by split <;> decide), rfl, rfl, hfw, himg⟩
  case firmware =>
    intro bad corrected content train s h2 hbad hpilot htwin hk hslot
    by_cases hr : s.updReason content = 0
    · refine ⟨_, (updateChecksDone_commits h2 hbad hr htwin).trans (congrArg Host.Outcome.next (if_neg ?_)), ?_, ?_, ?_, committed_changes⟩
      · rw [commitUpdate_inMode, show (s.wordsCounted corrected).inMode .pilot = false from hpilot, Bool.false_and]
        exact Bool.false_ne_true
      all_goals rw [commitUpdate_firmware (s := s.wordsCounted corrected) hk]
      · rw [if_pos hr]
        refine ⟨rfl, rfl, ?_, ?_, rfl, rfl⟩
        all_goals exact congrArg _ (nth_put_same _ _ _ _ hslot)
      · rfl
      · rfl
    · have hexec := updateChecksDone_rejects (corrected := corrected) (train := train) h2 (by rw [hbad]; rfl) hr
      rw [hbad, checkReads_nil] at hexec
      refine ⟨_, hexec, ?_, rfl, rfl, (Changes.le (l := [.img, .mem, .log]) (Changes.parts [.img, .mem] (.refl s))).only⟩
      rw [if_neg hr]
      exact ⟨rfl, rfl, rfl, rfl⟩
  case configuration =>
    intro bad corrected content train s h2 hbad hpilot htwin hk hslot
    by_cases hr : s.updReason content = 0
    · refine ⟨_, (updateChecksDone_commits h2 hbad hr htwin).trans (congrArg Host.Outcome.next (if_neg ?_)), ?_, ?_, ?_, committed_changes⟩
      · rw [commitUpdate_inMode, show (s.wordsCounted corrected).inMode .pilot = false from hpilot, Bool.false_and]
        exact Bool.false_ne_true
      all_goals rw [commitUpdate_configuration (s := s.wordsCounted corrected) hk]
      · rw [if_pos hr]
        refine ⟨rfl, rfl, ?_, ?_, ?_⟩
        all_goals exact congrArg _ (nth_put_same _ _ _ _ hslot)
      · rfl
      · rfl
    · have hexec := updateChecksDone_rejects (corrected := corrected) (train := train) h2 (by rw [hbad]; rfl) hr
      rw [hbad, checkReads_nil] at hexec
      refine ⟨_, hexec, ?_, rfl, rfl, (Changes.le (l := [.img, .mem, .log]) (Changes.parts [.img, .mem] (.refl s))).only⟩
      rw [if_neg hr]
      exact ⟨rfl, rfl, rfl, rfl⟩
  case pilot =>
    intro bad corrected content train s h2 hbad hpilot htwin
    dsimp only
    by_cases hr : s.updReason content = 0
    · refine (updateChecksDone_commits h2 hbad hr htwin).trans (congrArg Host.Outcome.next ?_)
      rw [commitUpdate_inMode, show (s.wordsCounted corrected).inMode .pilot = true from hpilot, Bool.true_and]
      exact (if_pos hr).symm
    · rw [if_neg hr]
      have hexec := updateChecksDone_rejects (corrected := corrected) (train := train) h2 (by rw [hbad]; rfl) hr
      rw [hbad, checkReads_nil] at hexec
      exact hexec
  case abort =>
    intro ch v s hw h
    have hstatus : s.updAbortStatus = 0 := if_neg (by omega)
    refine ⟨_, rfl, ?_⟩
    rw [hstatus]
    exact ⟨guardedWrite_confirms _ _ _ _ _ _ hw,
      (guardedWrite_takes State.img (fun _ _ => rfl) (fun _ _ => rfl) (fun _ _ _ => rfl) _ _ _ _ _ _ hw).trans (abortUpdate_img h)⟩
  case aborted =>
    intro ch v s hw h
    have hstatus : s.updAbortStatus = stAlready := if_pos h
    exact ⟨_, congrArg Host.Outcome.next ((congrArg (s.guardedWrite ch _ _ _ · _) hstatus).trans (guardedWrite_refused _ _ _ _ _ _ _ hw (by decide))), rfl, by simp⟩
  case transfer =>
    intro hd crcOk kind offset data s hup hin hlast hmode
    refine ⟨{ s.seqTaken 5 hd.seq with
      img := { s.img with twinKind := kind, twinData := (if s.img.twinKind = kind then s.img.twinData.take offset else []) ++ data } }, ?_, rfl,
      (Changes.parts [.img, .pair] (.refl s)).only⟩
    refine congrArg Host.Outcome.next ((if_pos hup).trans ?_)
    rw [show s.frameIn 5 0x41 hd crcOk = _ from seqIn_taken hin, hlast]
    exact if_pos (show _ = true from hmode)
  case pair =>
    intro ch s hw hstatus h8
    refine ⟨_, rfl, ?_⟩
    rw [hstatus]
    exact ⟨guardedWrite_confirms _ _ _ _ _ _ hw,
      (guardedWrite_takes State.img (fun _ _ => rfl) (fun _ _ => rfl) (fun _ _ _ => rfl) _ _ _ _ _ _ hw).trans (applyPairUpdate_first h8)⟩
  case pairAgain =>
    intro ch s hw hstatus h8
    obtain ⟨himg, hrequest, hstate⟩ := applyPairUpdate_again h8
    refine ⟨_, rfl, ?_⟩
    rw [hstatus]
    exact ⟨guardedWrite_confirms _ _ _ _ _ _ hw,
      (guardedWrite_takes State.img (fun _ _ => rfl) (fun _ _ => rfl) (fun _ _ _ => rfl) _ _ _ _ _ _ hw).trans himg,
      (guardedWrite_takes (fun t => t.pair.hoRequest) (fun _ _ => rfl) (fun _ _ => rfl) (fun _ _ _ => rfl) _ _ _ _ _ _ hw).trans hrequest,
      (guardedWrite_takes (fun t => t.pair.hoState) (fun _ _ => rfl) (fun _ _ => rfl) (fun _ _ _ => rfl) _ _ _ _ _ _ hw).trans hstate⟩
  case pairAbort =>
    intro ch s hw h hown
    refine ⟨_, rfl, ?_⟩
    rw [pairAbortStatus_free h hown]
    exact ⟨guardedWrite_confirms _ _ _ _ _ _ hw,
      (guardedWrite_takes State.img (fun _ _ => rfl) (fun _ _ => rfl) (fun _ _ _ => rfl) _ _ _ _ _ _ hw).trans (undoPairUpdate_img h)⟩
  case pairAborted =>
    intro ch s hw h
    exact ⟨_, congrArg Host.Outcome.next ((congrArg (s.guardedWrite ch _ _ _ · _) (pairAbortStatus_done h)).trans (guardedWrite_refused _ _ _ _ _ _ _ hw (by decide))), rfl, by simp⟩
  case leave =>
    intro ch v train s hw hpilot hcause hfw hcfg
    have hstatus : s.pilotExitStatus = 0 := if_pos (by simp [hpilot, hcause, State.bothKinds, hfw, hcfg])
    refine ⟨_, rfl, ?_⟩
    rw [hstatus]
    refine ⟨guardedWrite_confirms _ _ _ _ _ _ hw, ?_⟩
    have htarget : s.target 0x2403 = 0x2403 := rfl
    rw [guardedWrite_writable _ _ _ _ _ _ hw, htarget, if_neg (by decide)]
    rfl

/-! A hitless activation from its start to its resume (R487 to R489). -/

theorem applyHitless_firmware {s : State} (h : s.img.fwRun ≠ some s.img.fwNext) :
    s.applyHitless.img = { s.img with hitCommand := 1, hitState := 1, hitRefusal := 0, hitFrom := s.now, hitOldFw := s.img.fwRun.getD 0, hitReverted := false } ∧
      s.applyHitless.tide = s.tide := by
  unfold State.applyHitless
  dsimp only
  rw [if_pos (bne_iff_ne.mpr h)]
  exact ⟨note_img _ _ _, note_tide _ _ _⟩

theorem applyHitless_image {s : State} (h : s.img.fwRun = some s.img.fwNext) :
    s.applyHitless.img.hitState = 3 ∧
      s.applyHitless.tide = { s.tide with
        banks := put s.tide.banks (1 - s.tide.active) { (s.img.slot 2 s.img.imgNext).content.bank with valid := true }, swap := 1 } := by
  have hsame : (s.img.fwRun != some s.img.fwNext) = false := by
    rw [h]
    exact bne_self_eq_false _
  unfold State.applyHitless State.loadIdleBanks State.imageNote
  dsimp only
  rw [note_img, note_tide, hsame]
  exact ⟨rfl, rfl⟩

theorem undoHitless_spec {s : State} (h : s.img.hitState = 1 ∨ s.img.hitState = 3 ∨ s.img.hitState = 4) :
    s.undoHitless.img = { s.img with hitState := 6, hitCommand := 2 } ∧ s.undoHitless.tide = { s.tide with swap := 0 } := by
  unfold State.undoHitless
  rw [if_pos h]
  exact ⟨note_img _ _ _, note_tide _ _ _⟩

theorem answerWrite_state (s : State) (ch : Chan) : (s.answerWrite ch stState).net.answer.status = stState := by
  cases ch <;> rfl

/-- A refused start answers with the state error and records its reason (R487). -/
theorem hitlessStart_refused {ch : Chan} {s : State} (hw : Safety.writable s ch 0x2402 1 [1] = true) (hr : s.hitlessReason ≠ 0) :
    execHitlessStart ch s = .next { (s.touch ch).answerWrite ch stState with img := s.hitlessRefused.img, tide := s.hitlessRefused.tide } := by
  have hstatus : s.hitlessStatus = stState := if_neg hr
  have hne : stState ≠ 0 := by decide
  have hserved : s.served ch = true ∧ s.basicCheck ch 0x2402 1 [1] = 0 := by
    simp only [Safety.writable, Bool.and_eq_true, beq_iff_eq] at hw
    exact hw.1
  refine congrArg Host.Outcome.next ?_
  dsimp only
  rw [hstatus, guardedWrite_refused _ _ _ _ _ _ _ hw hne, if_pos ⟨hne, hserved⟩]

/-- The new firmware's resume: the gap is over and recorded, its trial confirmed, the idle banks loaded (R488). -/
theorem hitlessResume_new {s : State} (h2 : s.img.hitState = 2) (hrev : s.img.hitReverted = false) :
    execHitlessResume s = .next
      ((({ s.gapEnd with img := { s.gapEnd.img with fwRun := some s.gapEnd.img.fwNext } } : State).confirmTrial.imageNote 8 1
        ({ s.gapEnd with img := { s.gapEnd.img with fwRun := some s.gapEnd.img.fwNext } } : State).confirmTrial.img.fwNext 0).loadIdleBanks) := by
  refine congrArg Host.Outcome.next ((if_neg ?_).trans (if_pos (beq_iff_eq.mpr h2)))
  rw [hrev]
  exact Bool.false_ne_true

theorem imageNote_img (s : State) (event kind slot reason : Nat) : (s.imageNote event kind slot reason).img = s.img := note_img _ _ _

theorem imageNote_tide (s : State) (event kind slot reason : Nat) : (s.imageNote event kind slot reason).tide = s.tide := note_tide _ _ _

/-- The start of a trial that did not resume is counted while fewer than two were (R479). -/
theorem failTrial_counts {s : State} (h1 : s.img.trial = 1) (h2 : s.img.trialStarts < 2) : s.failTrial.img.trialStarts = s.img.trialStarts + 1 := by
  unfold State.failTrial
  rw [if_pos h1, if_neg (by omega)]

/-- Settles O39: each clause is its command with the guard met. -/
theorem hitlessActivation : Obligations.HitlessActivation := by
  unfold Obligations.HitlessActivation
  refine ⟨?startFirmware, ?startImage, ?startRefused, ?abort, ?abortInGap, ?commit, ?resume, ?resumeOld, ?late, ?lateAgain⟩
  case startFirmware =>
    intro ch s hw hr hfw
    have hstatus : s.hitlessStatus = 0 := if_pos hr
    obtain ⟨himg, htide⟩ := applyHitless_firmware hfw
    have hti := (guardedWrite_takes State.img (fun _ _ => rfl) (fun _ _ => rfl) (fun _ _ _ => rfl) s ch 0x2402 1 [1] s.applyHitless hw).trans himg
    have htt := (guardedWrite_takes State.tide (fun _ _ => rfl) (fun _ _ => rfl) (fun _ _ _ => rfl) s ch 0x2402 1 [1] s.applyHitless hw).trans htide
    refine ⟨s.guardedWrite ch 0x2402 1 [1] 0 s.applyHitless, ?_, guardedWrite_confirms _ _ _ _ _ _ hw, ?_⟩
    · refine congrArg Host.Outcome.next ?_
      dsimp only
      rw [hstatus]
      exact if_neg (fun h => h.1 rfl)
    · rw [hti, htt]
      exact ⟨rfl, rfl, rfl, rfl, rfl⟩
  case startImage =>
    intro ch s hw hr hfw
    have hstatus : s.hitlessStatus = 0 := if_pos hr
    obtain ⟨hstate, htide⟩ := applyHitless_image hfw
    refine ⟨s.guardedWrite ch 0x2402 1 [1] 0 s.applyHitless, ?_, guardedWrite_confirms _ _ _ _ _ _ hw, ?_, ?_⟩
    · refine congrArg Host.Outcome.next ?_
      dsimp only
      rw [hstatus]
      exact if_neg (fun h => h.1 rfl)
    · exact (guardedWrite_takes (fun t => t.img.hitState) (fun _ _ => rfl) (fun _ _ => rfl) (fun _ _ _ => rfl) _ _ _ _ _ _ hw).trans hstate
    · exact (guardedWrite_takes State.tide (fun _ _ => rfl) (fun _ _ => rfl) (fun _ _ _ => rfl) _ _ _ _ _ _ hw).trans htide
  case startRefused =>
    intro ch s hw hr
    exact ⟨_, hitlessStart_refused hw hr, answerWrite_state _ _, rfl, rfl⟩
  case abort =>
    intro ch s hw hgap hcommit h
    obtain ⟨himg, htide⟩ := undoHitless_spec h
    refine ⟨s.guardedWrite ch 0x2402 1 [2] 0 s.undoHitless, ?_, guardedWrite_confirms _ _ _ _ _ _ hw, ?_, ?_⟩
    · refine congrArg Host.Outcome.next ((if_neg (by rw [hgap]; exact Bool.false_ne_true)).trans ?_)
      rw [hcommit]
      rfl
    · exact (guardedWrite_takes State.img (fun _ _ => rfl) (fun _ _ => rfl) (fun _ _ _ => rfl) _ _ _ _ _ _ hw).trans himg
    · exact (guardedWrite_takes State.tide (fun _ _ => rfl) (fun _ _ => rfl) (fun _ _ _ => rfl) _ _ _ _ _ _ hw).trans htide
  case abortInGap =>
    intro ch s hgap
    exact ⟨_, congrArg Host.Outcome.next (if_pos hgap), rfl, rfl⟩
  case commit =>
    intro s h1 hfw
    exact ⟨{ s with img := { s.img with hitState := 2, hitFrom := s.now } },
      congrArg Host.Outcome.next (if_pos (by rw [h1, bne_iff_ne.mpr hfw]; rfl)), rfl, rfl, (Changes.parts [.img] (.refl s)).only⟩
  case resume =>
    intro s h2 hrev
    refine ⟨_, hitlessResume_new h2 hrev, ?_⟩
    unfold State.loadIdleBanks State.inGap
    dsimp only
    simp only [imageNote_img, imageNote_tide, confirmTrial_tide, gapEnd_tide]
    refine ⟨trivial, ?_, ?_, ?_, ?_, trivial, trivial⟩
    · rw [confirmTrial_img Img.fwRun (fun _ _ _ => rfl), gapEnd_img]
    · rw [confirmTrial_img Img.hitGap (fun _ _ _ => rfl), gapEnd_img]
    · rw [confirmTrial_img Img.hitReverted (fun _ _ _ => rfl), gapEnd_img, hrev]
      rfl
    · intro htrial hslot
      refine confirmTrial_trial _ s.img.fwNext ?_ ?_ ?_
      · rw [gapEnd_img]
      · rw [gapEnd_img]
        exact htrial
      · rw [gapEnd_img]
        exact hslot.symm
  case resumeOld =>
    intro s hrev
    refine ⟨_, congrArg Host.Outcome.next (if_pos hrev), rfl, ?_, ?_, gapEnd_tide s⟩
    · exact congrArg Img.hitGap (gapEnd_img s)
    · exact (congrArg Img.fwRun (gapEnd_img s) :)
  case late =>
    intro s h2 hlate
    refine ⟨_, congrArg Host.Outcome.next (if_pos (by simp [h2, hlate])), ?_⟩
    rw [imageNote_img]
    exact ⟨rfl, failTrial_img_hitOldFw s, rfl, failTrial_counts⟩
  case lateAgain =>
    intro s hrev hlate
    obtain ⟨hphase, honline, -⟩ := lastBreath_ends s 0 true true false
    exact ⟨s.selfRestart, congrArg Host.Outcome.next (if_pos (by simp [hrev, hlate])), hphase, honline⟩

end Sys2Proof.Machine
